-- ==== Sys2Proof/Word.lean ====
section
/-! DEFINITION. The word, the byte and the sparse table: the plain types the rest of the model is written in. -/

namespace Sys2Proof

/-- A 64-bit register value (R24). -/
abbrev Word := BitVec 64

/-- A byte; byte order is little-endian throughout the device (R5). -/
abbrev Byte := BitVec 8

/-- A sparse table: key and value pairs, keys strictly rising. An unlisted key holds the default its reader names. -/
abbrev Tbl (α : Type) := List (Nat × α)

end Sys2Proof
end

