-- ==== Sys2Proof/Types.lean ====
section
/-! DEFINITION. The small types that instruction operands and events carry: operation codes, messages, lattice
requests, scheduler entries, engine packets. Codes are turned into constructors here, so the machine never sees raw encodings. -/

namespace Sys2Proof

/-- Scalar conditions EQ to GEN (Table 6.2, R174). -/
inductive Cond | eq | ne | lt | ge | ltn | gen
deriving DecidableEq, Repr

/-- Vector conditions; UN is for floating types only (R244). -/
inductive VCond | eq | ne | lt | ge | ltn | gen | un
deriving DecidableEq, Repr

/-- Predicate logic (R175). -/
inductive PLogOp | and | or | xor | andn | orn | xnor
deriving DecidableEq, Repr

/-- Mask logic (R245). -/
inductive MLogOp | and | or | xor | andn
deriving DecidableEq, Repr

/-- Access sizes of LD and ST (Table 6.2). -/
inductive Sz | b | h | w | d
deriving DecidableEq, Repr

/-- Access sizes of LDN, zero-extended (Table 6.2). -/
inductive SzN | b | h | w
deriving DecidableEq, Repr

/-- Sizes of the private atomics (R188). -/
inductive SzA | w | d
deriving DecidableEq, Repr

/-- Size and extension of LDX: codes 0 to 6 (R184). -/
inductive SzX | s (z : Sz) | n (z : SzN)
deriving DecidableEq, Repr

/-- Element types of the vector instructions (Table 9.1). -/
inductive EType | f64 | f32 | f16 | bf16 | i8 | i16 | i32 | i64
deriving DecidableEq, Repr

/-- The element types of the correctly rounded functions (R243). -/
inductive EType2 | f64 | f32
deriving DecidableEq, Repr

/-- Rounding modes an instruction can name (Table 6.2); SR comes only from a format record. -/
inductive Rm | rne | rtz | rup | rdn
deriving DecidableEq, Repr

/-- FENCE scopes (R191). -/
inductive Scope | thr | core | clu | die | pkg | sys
deriving DecidableEq, Repr

/-- Trigger kinds an instruction can name: .VAL, .MASK, .FROZEN (Table 6.2). -/
inductive TrigK | val | mask | frozen
deriving DecidableEq, Repr

/-- ESUM contribution types (R200). -/
inductive EsumT | f32 | f64 | i64
deriving DecidableEq, Repr

/-- Inbox modes (R70). -/
inductive IMode | fifo | ordered | optimistic
deriving DecidableEq, Repr

/-- A tile command's T word less its major, engine and command fields: flags and guard of word 0, operand words 1 to 6,
and the substitution word 7 (R148). -/
structure TWord where
  flags : BitVec 12
  guard : Fin 16
  w1 : BitVec 32
  w2 : BitVec 32
  w3 : BitVec 32
  w4 : BitVec 32
  w5 : BitVec 32
  w6 : BitVec 32
  w7 : BitVec 32
deriving DecidableEq, Repr

/-- A task is identified by its launch number and work identifier (R7). -/
structure TaskId where
  launch : Nat
  wid : Word
deriving DecidableEq, Repr

/-- The order key of a message: VT, SWID, SEQ, compared in that order (R66). -/
structure Key where
  vt : Nat
  swid : Nat
  seq : Nat
deriving DecidableEq, Repr

/-- A message: the fields of Table 3.1 and its payload bytes; an anti-message carries no payload (R65). -/
structure Msg where
  vt : Nat
  swid : Word
  dwid : Word
  launch : Nat
  seq : Nat
  anti : Bool
  tent : Bool
  fifoClass : Bool
  /-- 0 data, 1 dead letter, 2 engine completion. -/
  kind : Nat
  colour : Bool
  payload : List Byte
deriving DecidableEq, Repr

/-- A SEND.H message on its way to the host ring (R349). -/
structure HostMsg where
  launch : Nat
  vt : Nat
  tag : Word
  swid : Word
  /-- The sweep colour it was sent under. -/
  colour : Bool
  payload : List Byte
deriving DecidableEq, Repr

/-- What a posted or committed lattice operation does at the home (R198 to R204). -/
inductive LatOp
  | join (x : Word)
  | esum (t : EsumT) (x : Word)
  | fill (x : Word)
  | fillV (bs : List Byte)
  | fillM (bs : List Byte) (mask : Nat)
  | frz
  | frza
deriving DecidableEq, Repr

/-- A lattice request on its way to the cell's home. -/
structure LatReq where
  op : LatOp
  asid : Nat
  va : Word
  core : Nat
  slot : Fin 16
  task : TaskId
  /-- Whether a codelet issued it. -/
  codelet : Bool
  pc : Word
  colour : Bool
  /-- The home it is routed to. -/
  home : Nat
  /-- The tag VT of the commit-queue entry it was applied from (R81); none for a posted operation. -/
  tagVt : Option Nat
deriving DecidableEq, Repr

/-- The home's answer to a posted operation: an acknowledgement, or a refusal with its cause code and cell address (R195). -/
structure Reply where
  core : Nat
  slot : Fin 16
  task : TaskId
  codelet : Bool
  pc : Word
  colour : Bool
  /-- The home that answers. -/
  home : Nat
  refusal : Option (Nat × Word)
deriving DecidableEq, Repr

/-- The kind of a trigger set (Table 12.5, TKIND). -/
inductive TKind | val | mask | filled | frozen
deriving DecidableEq, Repr

/-- A trigger set as built from the operands of a threshold read: its kind, the register values, and the mask bytes of a
256-byte UNION (R50, Table 8.5). -/
structure Trig where
  kind : TKind
  vals : List Word
  maskBytes : List Byte
deriving DecidableEq, Repr

/-- What a resolved threshold read delivers to its thread. -/
structure Wake where
  core : Nat
  slot : Fin 16
  task : TaskId
  asid : Nat
  va : Word
  status : Word
  /-- The cell's bytes, for the forms that deliver them. -/
  data : List Byte
  colour : Bool
  /-- gtime of the operation that resolved the waiter (monitor source 0x01). -/
  at_ : Nat
deriving DecidableEq, Repr

/-- A withdrawal of a parked wait (R83). -/
structure Withdrawal where
  task : TaskId
  asid : Nat
  va : Word
deriving DecidableEq, Repr

/-- A fault report: the fields of Table 15.5. -/
structure Report where
  src : Nat
  code : Nat
  sub : Nat
  core : Nat
  slot : Nat
  wid : Word
  pc : Word
  tval : Word
  tag : Word
  /-- Of an engine fault: the engine and the command that met it (R276). -/
  cmd : Option (Nat × Nat)
deriving DecidableEq, Repr

/-- A Welsa control flit between package roots, for a launch that spans packages (R92): a root's report to the origin package, with its counts of
the closing colour, its terms, and whether it finds the launch idle or stalled there; or, with `result`, what the origin returns: GVT and HZN,
and whether the launch has ended or stalled. -/
structure SweepFlit where
  /-- The Welsa device that sent it, or to which it goes. -/
  dev : Nat
  result : Bool
  launch : Nat
  sent : Nat
  recvd : Nat
  gvt : Nat
  hzn : Nat
  idle : Bool
  stalled : Bool
deriving DecidableEq, Repr

/-- What follows a codelet that has left its slot, since it has no directory entry: its save area, its lvt, the end-of-stream predicates
of its bindings, its recorded grant (core, base, length), and when it took its migrate trap (R101, R113). -/
structure LetRec where
  area : Option Nat
  lvt : Word
  /-- End-of-stream predicate and binding core of each binding: the image holds neither. -/
  preds : List (Fin 16 × Nat)
  grant : Option (Nat × Nat × Nat)
  migrAt : Option Nat
  /-- The die it migrated to for capability (R113). -/
  capDie : Option Nat
deriving DecidableEq, Repr

/-- What dispatching a queue entry starts. -/
inductive Work
  /-- A task not yet placed: argument, inbox mode, initial lvt, whether SPAWN created it. -/
  | task (arg : Word) (imode : IMode) (lvt : Word) (spawned : Bool)
  /-- A codelet: entry PC, argument, initial lvt (R26). -/
  | codelet (pc : Word) (arg : Word) (lvt : Word)
  /-- A swapped-out task, reloaded from its image. -/
  | saved
  /-- A codelet that has left its slot, reloaded from its image (R113). -/
  | savedCodelet (r : LetRec)
deriving DecidableEq, Repr

/-- A scheduler entry (R317 to R323). -/
structure QEntry where
  task : TaskId
  work : Work
  prio : Nat
  /-- Passes counted by the aging rule (R321). -/
  passes : Nat
  /-- Affinity: MODE, DIE and GROUPS of Table 8.8. -/
  mode : Nat
  die : Nat
  groups : Nat
  /-- Bound by placement, so never stolen (R323). -/
  bound : Bool
  /-- The cluster a CLUSTER-bound entry is tagged with (R319). -/
  cluster : Option Nat
  /-- From explicit placement (R318). -/
  expl : Bool
deriving DecidableEq, Repr

/-- A unit dealt to a die: its entries and the placement mode of its binding level: 0 FREE, 1 DIE, 2 CLUSTER, 3 CORE (R318). -/
structure DealtUnit where
  launch : Nat
  place : Nat
  entries : List QEntry
deriving DecidableEq, Repr

/-- A slot that a copy channel or a drain carries to a buffer of a core: data bytes, or the end-of-stream token (R288, R293), and the
sweep colour it was sent under. -/
structure ChanSlot where
  drain : Bool
  colour : Bool
  dst : Nat
  cb : Fin 32
  src : Nat
  task : TaskId
  data : List Byte
  token : Bool
deriving DecidableEq, Repr

/-- A wire block in its Welsa transfer: its 36 bytes, which are the header of Table 5.5 and 32 elements, with ring, bucket and block number (R135,
R299). -/
structure WireBlock where
  ring : Nat
  bucket : Nat
  block : Nat
  /-- The spread phase carries final blocks; the reduce phase carries partial sums (R299). -/
  spread : Bool
  hops : Nat
  hdr : BitVec 32
  body : Vector Byte 32
  fromDev : Nat
  /-- The sweep colour it was sent under. -/
  colour : Bool
  /-- The check code of its 32 elements in the link buffer (R386). -/
  check : Nat
deriving DecidableEq, Repr

/-- The tile commands (R148, Tables 10.5, 10.7 and 10.10). -/
inductive TileOp
  | mwld | mswap | mact | mdrn | mzero | msync
  | cpyB | cpyC | cpyG | cpyF
  | crs | cag | car | cbc
deriving DecidableEq, Repr

/-- A boot step that fails and the Plinth firmware's failure reason (R364, Table 15.10). -/
structure BootFail where
  step : Nat
  code : Nat
deriving DecidableEq, Repr

/-- What the scrubber finds in a granule (R389). -/
inductive ScrubOutcome
  | clean
  | corrected
  | uncorrectable
deriving DecidableEq, Repr

/-- What raises a report at the command processor or disturbs a launch: the ways a launch is stopped (R100). -/
inductive StopKind
  /-- A fault report: the launch ends FAULTED. -/
  | fault
  /-- The driver's STOP: STOPPED. -/
  | driver
  /-- A stall: STALLED. -/
  | stall
deriving DecidableEq, Repr

/-- An event in transit or an input from outside, one constructor for each event row of the opcode table, with what its origin put
into it: the machine acts on the first one in transit. -/
inductive Event
  /-- INSTRUCTION_COMPLETION (R17). -/
  | instructionCompletion (core : Nat) (slot : Fin 16)
  /-- INSTRUCTION_FETCH_FILL (R181). -/
  | instructionFetchFill (core : Nat) (slot : Fin 16)
  /-- COEFFICIENT_TABLE_LOAD (R255). -/
  | coefficientTableLoad (core : Nat) (slot : Fin 16)
  /-- TIMER_PREEMPTION (R23). -/
  | timerPreemption (core : Nat) (slot : Fin 16)
  /-- LMX_OVERRUN (R98). -/
  | lmxOverrun (core : Nat)
  /-- SYSTEM_EVENT_ENTRY (R97). -/
  | systemEventEntry (core : Nat)
  /-- POSTED_REPLY (R195). -/
  | postedReply (r : Reply)
  /-- LATTICE_REFUSAL_TRAP (R195). -/
  | latticeRefusalTrap (core : Nat) (slot : Fin 16)
  /-- LATTICE_REQUEST_APPLY (R54). -/
  | latticeRequestApply (r : LatReq)
  /-- THRESHOLD_READ_AT_HOME (R206). -/
  | thresholdReadAtHome (core : Nat) (slot : Fin 16)
  /-- WAIT_WITHDRAWAL (R83). -/
  | waitWithdrawal (w : Withdrawal)
  /-- ARENA_FREEZE (R204). -/
  | arenaFreeze (asid arena : Nat)
  /-- REMOTE_WORD_ACCESS (R40). -/
  | remoteWordAccess (core : Nat) (slot : Fin 16)
  /-- LOCALITY_MIGRATION (R40). -/
  | localityMigration (core : Nat) (slot : Fin 16) (home : Nat)
  /-- PUBLISH_PAGE_CHANGE (R187). -/
  | publishPageChange (core : Nat) (slot : Fin 16) (asid : Nat) (va : Word)
  /-- MESSAGE_ARRIVAL (R101). -/
  | messageArrival (m : Msg)
  /-- ANTI_MESSAGE_ARRIVAL (R84). -/
  | antiMessageArrival (m : Msg)
  /-- ROLLBACK (R82). -/
  | rollback (t : TaskId) (k : Key) (anti : Bool)
  /-- WAKE_DELIVERY (R101). -/
  | wakeDelivery (w : Wake)
  /-- TWAIT_EXPIRY (R226). -/
  | twaitExpiry (core : Nat) (slot : Fin 16)
  /-- INBOX_OVERFLOW_TIMEOUT (R359). -/
  | inboxOverflowTimeout (core : Nat)
  /-- WAITER_SPILL_TIMEOUT (R360). -/
  | waiterSpillTimeout (core : Nat)
  /-- DERAILLEUR_MIGRATION (R112). -/
  | derailleurMigration (core : Nat) (slot : Fin 16)
  /-- MIGRATION_INTAKE (R112). -/
  | migrationIntake (core : Nat) (slot : Fin 16)
  /-- SAVE_COMPLETION (R105). -/
  | saveCompletion (core : Nat) (slot : Fin 16)
  /-- CONTEXT_CACHE_WRITEBACK (R103). -/
  | contextCacheWriteback (core : Nat)
  /-- PARKED_THREAD_EVICTION (R324). -/
  | parkedThreadEviction (core : Nat)
  /-- DRIVER_STOP (R100). -/
  | driverStop (core : Nat) (slot : Fin 16)
  /-- LAUNCH_STOP (R100). -/
  | launchStop (launch : Nat) (kind : StopKind) (rep : Option Report)
  /-- SWEEP_START (R89). -/
  | sweepStart
  /-- SWEEP_CONTROL_FLIT (R92). -/
  | sweepControlFlit (f : SweepFlit)
  /-- SWEEP_RESULT (R90). -/
  | sweepResult (launch : Nat)
  /-- LAUNCH_ACCEPT (R346). -/
  | launchAccept (q : Nat)
  /-- LAUNCH_DISPATCH (R317). -/
  | launchDispatch (key : Nat)
  /-- UNIT_PLACEMENT (R319). -/
  | unitPlacement (die : Nat) (u : DealtUnit)
  /-- SLOT_FILL (R320). -/
  | slotFill (core : Nat)
  /-- GRANT_RETRY (R372). -/
  | grantRetry (core : Nat)
  /-- STEAL_REQUEST (R323). -/
  | stealRequest (die : Nat)
  /-- STEAL_ANSWER (R323). -/
  | stealAnswer (victim thief : Nat)
  /-- LAUNCH_COMPLETION (R347). -/
  | launchCompletion (launch : Nat)
  /-- HOST_MESSAGE_WRITE (R349). -/
  | hostMessageWrite (m : HostMsg)
  /-- ARBITER_SELECT (R31). -/
  | arbiterSelect (cluster : Nat)
  /-- MXU_COMMAND_EXECUTE (R281). -/
  | mxuCommandExecute (cluster : Nat)
  /-- DRAIN_SLOT_ARRIVAL (R288). -/
  | drainSlotArrival (c : ChanSlot)
  /-- COPY_EXECUTE (R291). -/
  | copyExecute (core : Nat)
  /-- STREAMER_READ (R292). -/
  | streamerRead (core : Nat) (key : Nat)
  /-- COPY_CHANNEL_SLOT_ARRIVAL (R293). -/
  | copyChannelSlotArrival (c : ChanSlot)
  /-- COLLECTIVE_START (R297). -/
  | collectiveStart (core : Nat)
  /-- WIRE_BLOCK_ARRIVAL (R137). -/
  | wireBlockArrival (b : WireBlock)
  /-- WQTAIL_WRITE (R346). -/
  | wqtailWrite (q : Nat) (v : Word)
  /-- WQCTL_WRITE (R345). -/
  | wqctlWrite (q : Nat) (v : Word)
  /-- CQHEAD_WRITE (R346). -/
  | cqheadWrite (q : Nat) (v : Word)
  /-- HMHEAD_WRITE (R349). -/
  | hmheadWrite (q : Nat) (v : Word)
  /-- RPHEAD_WRITE (R348). -/
  | rpheadWrite (q : Nat) (v : Word)
  /-- ELHEAD_WRITE (R368). -/
  | elheadWrite (v : Word)
  /-- TRHEAD_WRITE (R308). -/
  | trheadWrite (core : Nat) (v : Word)
  /-- WRING_WRITE (R397). -/
  | wringWrite (ring : Fin 16) (v : Word)
  /-- CAPTURE_CONFIG_WRITE (R383). -/
  | captureConfigWrite (die : Fin 8) (unit : Fin 32) (v : Word)
  /-- CAPTURE_CLEAR (R383). -/
  | captureClear (die : Fin 8) (unit : Fin 32)
  /-- REGISTER_WRITE (R344). -/
  | registerWrite (bar off : Nat) (v : Word)
  /-- BAD_REGISTER_ACCESS (R344). -/
  | badRegisterAccess (bar off : Nat) (read : Bool)
  /-- REGBUF (R350). -/
  | regbuf
  /-- FREEBUF (R350). -/
  | freebuf
  /-- REGARENA (R45). -/
  | regarena
  /-- FREEARENA (R350). -/
  | freearena
  /-- RETAG (R350). -/
  | retag
  /-- DRIVER_XINV (R234). -/
  | driverXinv
  /-- DRIVER_CINV (R234). -/
  | driverCinv
  /-- STOP (R351). -/
  | stop
  /-- RECLAIM (R108). -/
  | reclaim
  /-- RESTORE (R108). -/
  | restore
  /-- SAVERETRY (R105). -/
  | saveretry
  /-- CORECMD (R350). -/
  | corecmd
  /-- ROTKEY (R367). -/
  | rotkey
  /-- DIGEST (R392). -/
  | digest
  /-- UNKNOWN_DRIVER_COMMAND (R350). -/
  | unknownDriverCommand
  /-- DIGEST_PEER_MESSAGE (R392). -/
  | digestPeerMessage (peer group step : Nat) (digest : Word)
  /-- DIGEST_TIMEOUT (R392). -/
  | digestTimeout
  /-- HOST_MEM_READ (R343). -/
  | hostMemRead (pa : Nat)
  /-- HOST_MEM_WRITE (R343). -/
  | hostMemWrite (pa : Nat) (bytes : List Byte)
  /-- GET_VERSION (R365). -/
  | getVersion
  /-- GET_CAPABILITIES (R365). -/
  | getCapabilities
  /-- NEGOTIATE_ALGORITHMS (R365). -/
  | negotiateAlgorithms (asym hash : Nat)
  /-- GET_DIGESTS (R365). -/
  | getDigests
  /-- GET_CERTIFICATE (R365). -/
  | getCertificate (certSlot off len : Nat)
  /-- CHALLENGE (R365). -/
  | challenge (nonce : List Byte)
  /-- GET_MEASUREMENTS (R365). -/
  | getMeasurements (index : Nat)
  /-- POWER_ON (R364). -/
  | powerOn (fail : Option BootFail)
  /-- THERMAL_SHUTDOWN (R381). -/
  | thermalShutdown
  /-- POWER_CAP_THROTTLE (R380). -/
  | powerCapThrottle (watts : Nat)
  /-- UCIE_MODULE_STATE_CHANGE (R362). -/
  | ucieModuleStateChange (die : Fin 8) (module : Fin 4) (st : Fin 4)
  /-- FABRIC_REPLAY (R363). -/
  | fabricReplay (link : Fin 40)
  /-- WELSA_PORT_STATE_CHANGE (R396). -/
  | welsaPortStateChange (port : Fin 8) (st : Fin 4) (peer : Fin 64)
  /-- WELSA_TRANSFER_TIMEOUT (R396). -/
  | welsaTransferTimeout (port : Fin 8)
  /-- HBM_SCRUB (R389). -/
  | hbmScrub (granule : Nat) (outcome : ScrubOutcome)
  /-- MONITOR_LEVEL_SAMPLE (R384). -/
  | monitorLevelSample (die : Fin 8) (unit : Fin 32) (v : Nat)
  /-- UNASSIGNED_WORD (R150). -/
  | unassignedWord (w : BitVec 32)
  /-- POWER_REMOVAL (R365). -/
  | powerRemoval
deriving DecidableEq, Repr

end Sys2Proof
end

