-- ==== Sys2Proof/Config.lean ====
section
/-! DEFINITION. What an implementation fixes and the manual does not: constants with no body. Nothing in Lean can evaluate them,
so no statement rests on a value of one. -/

namespace Sys2Proof.Config

/-- A free value: what the manual states an effect for but no value. The machine reads it at its counter `State.free` and raises the
counter, so every read may differ (log entry 1). -/
opaque freeWord : Nat → Word

/-- How the boot of this package ends: no failure, or the failing step and its code (R364). -/
opaque bootOutcome : Option BootFail

/-- The system-slot firmware image as the Plinth leaves it in physical memory at boot step 4: code, read-only data, the ASID-0 tables
and the mapping of window 62, as address and byte pairs (R369, R322). -/
opaque firmwareImage : List (Nat × Byte)

/-- The address of the image's `.entry` symbol (R369). -/
opaque firmwareEntry : Word

/-- The ASID context table that the Plinth writes at boot step 4 (R369). -/
opaque firmwareAscBase : Word

/-- The byte that reads at a physical address when its granule was written under one key and is read under another (R367). -/
opaque unrelated : (pa written current : Nat) → Byte

/-- Where the command processor puts a launch's barrier arena in window 62 of ASID 0 (R322): the place of its first cell, in cells, the home core
of a cell's address, and the arena number. -/
opaque barrierBase : (launch : Nat) → Nat
opaque barrierHome : (va : Nat) → Nat
opaque barrierArena : (launch : Nat) → Nat

/-- Digest of a boot measurement by index (Table 15.10, R365). -/
opaque measurement : Nat → Nat

/-- The certificate chain of SPDM slot 0 and its digest (R365). -/
opaque certificate : List Byte
opaque certificateDigest : List Byte

/-- The ECDSA P-384 signature of the device identity key over a challenge nonce and the measurements (R365, R366). -/
opaque challengeSignature : (nonce : List Byte) → List Byte

/-- The correctly rounded value of a transcendental function where the model's own search for the deciding digits ends without one:
function code, format, rounding mode and argument encoding (R132; log entry 2). -/
opaque vcrFree : (op fmt rm x : Nat) → Nat

/-- The scale, less 0x010 and modulo 0xFE0, that block quantisation takes for a block of greatest magnitude `n / d` under an integer record
whose upper bound is zero: R127 divides by that bound (log entry 3). -/
opaque zeroBoundScale : (n d : Nat) → Nat

/-- The E4M3 element that a collective stores for a zero value under a zero scale: R136 divides zero by zero (log entry 4). -/
opaque zeroScaleElem : Nat

/-- What monitor sources 0x06 and 0x08 count that no state of the machine shows: the requests waiting in a die's HBM controller, and the SRAM
errors corrected on a die in a period (Table 17.3, R388; log entry 55). -/
opaque hbmWaiting : (gtime die : Nat) → Nat
opaque sramCorrected : (gtime die : Nat) → Nat

/-- Whether a launch has work in the pipeline or queue of a core that has a parity error at a moment (R388; log entry 59). -/
opaque parityHits : (moment core launch : Nat) → Bool

/-- What a link's events leave of CRC failures and link-level retries: how many more since the link's last event (Tables 15.9, 17.5; log entry 57). -/
opaque crcErrors : (moment link : Nat) → Nat
opaque linkRetries : (moment link : Nat) → Nat

/-- The hottest die temperature at a moment, as PWRNOW shows it (Table 17.1; log entry 57). -/
opaque temperature : (moment : Nat) → Nat

/-- What the translation unit of another package finds for a virtual address at a moment: no entry that leads there, or a page-table entry
(R38, R354; log entry 71). -/
opaque farEntry : (moment device asid va : Nat) → Option Nat

/-- A byte of another package's memory, and the state code of a word of it, at a moment (log entry 71). -/
opaque farByte : (moment addr : Nat) → Byte
opaque farCode : (moment addr : Nat) → Nat

/-- What another package's command processor holds of an arena: size code, guard and fraction bits, and state (log entry 71). -/
opaque farArena : (device asid arena : Nat) → Nat × Nat × Nat × Nat

end Sys2Proof.Config
end

