-- ==== Sys2Proof/Machine/Bits.lean ====
section
/-! DEFINITION. Bit fields, sign extension, byte order and sparse tables: the helpers the decoder and the machine share. -/

namespace Sys2Proof

/-- Bits [hi:lo] of `x` as an unsigned integer (R8: `Bits(x, hi, lo)`). -/
def bits (x hi lo : Nat) : Nat := x / 2 ^ lo % 2 ^ (hi + 1 - lo)

/-- Bit `i` of `x`. -/
def bitAt (x i : Nat) : Bool := x / 2 ^ i % 2 == 1

/-- The `n`-bit value `x` read as a two's-complement integer (R8: `SignExt`). -/
def sext (n x : Nat) : Int := let y := x % 2 ^ n; if y < 2 ^ (n - 1) then (y : Int) else (y : Int) - (2 ^ n : Nat)

/-- The low 64 bits of an exact integer (R8: assignment to a field keeps the low bits). -/
def toWord (x : Int) : Word := BitVec.ofInt 64 x

/-- A Boolean as the integer 0 or 1. -/
def b2n (b : Bool) : Nat := if b then 1 else 0

/-- The low `n` bytes of `x`, lowest address first (R5). -/
def bytesOf : Nat → Nat → List Byte
  | 0, _ => []
  | n + 1, x => BitVec.ofNat 8 (x % 256) :: bytesOf n (x / 256)

/-- The unsigned integer that little-endian bytes hold (R5). -/
def natOf : List Byte → Nat
  | [] => 0
  | b :: bs => b.toNat + 256 * natOf bs

/-- One bit of CRC-16 with polynomial 0x1021, most significant bit first (R386). -/
def crcBit (c : Nat) : Nat := if 0x8000 ≤ c then Nat.xor (c * 2 % 2 ^ 16) 0x1021 else c * 2

/-- One byte taken into the CRC. -/
def crcByte (c : Nat) (b : Byte) : Nat :=
  crcBit (crcBit (crcBit (crcBit (crcBit (crcBit (crcBit (crcBit (Nat.xor c (b.toNat * 256)))))))))

/-- CRC-16 of bytes with initial value 0xFFFF and no final inversion (R386). -/
def crc16 (bs : List Byte) : Nat := bs.foldl crcByte 0xFFFF

/-- The check code of a 32-byte granule: over its bytes and the two bytes of its state codes (R386). -/
def checkCode (bs : List Byte) (codes : Nat) : Nat := crc16 (bs ++ bytesOf 2 codes)

/-- The word that up to eight little-endian bytes hold. -/
def wordOf (bs : List Byte) : Word := BitVec.ofNat 64 (natOf bs)

/-- The least multiple of `m` at or above `x`, divided by `m` (R8: `Ceil(x / m)`). -/
def ceilDiv (x m : Nat) : Nat := (x + m - 1) / m

/-- The value at key `k`, if listed. -/
def Tbl.find? {α : Type} : Tbl α → Nat → Option α
  | [], _ => none
  | (k', v) :: t, k => if k' = k then some v else Tbl.find? t k

/-- The value at key `k`, or `d` where the key is unlisted. -/
def Tbl.getD {α : Type} (t : Tbl α) (k : Nat) (d : α) : α := (Tbl.find? t k).getD d

/-- The table with `v` at key `k`. -/
def Tbl.put {α : Type} : Tbl α → Nat → α → Tbl α
  | [], k, v => [(k, v)]
  | (k', v') :: t, k, v =>
    if k' = k then (k, v) :: t else if k < k' then (k, v) :: (k', v') :: t else (k', v') :: Tbl.put t k v

/-- The table without key `k`. -/
def Tbl.del {α : Type} : Tbl α → Nat → Tbl α
  | [], _ => []
  | (k', v') :: t, k => if k' = k then Tbl.del t k else (k', v') :: Tbl.del t k

/-- Keys strictly rising. -/
def Tbl.sorted {α : Type} : Tbl α → Bool
  | [] => true
  | [_] => true
  | (k, _) :: (k', v') :: t => decide (k < k') && Tbl.sorted ((k', v') :: t)

/-- The first element of a list that satisfies `p`, replaced through `f`; the list unchanged where none does. -/
def updFirst {α : Type} (p : α → Bool) (f : α → α) : List α → List α
  | [] => []
  | x :: xs => if p x then f x :: xs else x :: updFirst p f xs

/-- The list without its first element that satisfies `p`. -/
def delFirst {α : Type} (p : α → Bool) : List α → List α
  | [] => []
  | x :: xs => if p x then xs else x :: delFirst p xs

/-- The least value of `f` over a list, `d` for the empty list. -/
def minOf {α : Type} (f : α → Nat) (d : Nat) (xs : List α) : Nat := xs.foldl (fun m x => min m (f x)) d

/-- The element of least `f`, the earliest of several. -/
def argMin {α : Type} (f : α → Nat) : List α → Option α
  | [] => none
  | x :: xs =>
    match argMin f xs with
    | none => some x
    | some y => if f x ≤ f y then some x else some y

end Sys2Proof
end

