-- ==== Sys2Proof/Syntax.lean ====
section
/-! DEFINITION. The instruction set: one constructor for each row of spec/opcode_table.json, which lists 221 32-bit
instructions, 14 tile commands and 98 events. Operand names are the table's field names. -/

namespace Sys2Proof

/-- Every row of the opcode table: an instruction a thread issues, a tile command, or an event of the part. Register and
descriptor numbers are `Fin`, immediates are bit vectors as encoded, operation codes are constructors. An event row acts on the
event of its kind that stands first in transit (`Event`), which carries its data. -/
inductive Instr
  /-- ADD (R163). -/
  | add (d : Fin 32) (a : Fin 32) (b : Fin 32)
  /-- SUB (R163). -/
  | sub (d : Fin 32) (a : Fin 32) (b : Fin 32)
  /-- MUL (R163). -/
  | mul (d : Fin 32) (a : Fin 32) (b : Fin 32)
  /-- MULH (R163). -/
  | mulh (d : Fin 32) (a : Fin 32) (b : Fin 32)
  /-- MULHN (R163). -/
  | mulhn (d : Fin 32) (a : Fin 32) (b : Fin 32)
  /-- DIV (R164). -/
  | div (d : Fin 32) (a : Fin 32) (b : Fin 32)
  /-- DIVN (R164). -/
  | divn (d : Fin 32) (a : Fin 32) (b : Fin 32)
  /-- REM (R164). -/
  | rem (d : Fin 32) (a : Fin 32) (b : Fin 32)
  /-- REMN (R164). -/
  | remn (d : Fin 32) (a : Fin 32) (b : Fin 32)
  /-- AND (R163). -/
  | and (d : Fin 32) (a : Fin 32) (b : Fin 32)
  /-- OR (R163). -/
  | or (d : Fin 32) (a : Fin 32) (b : Fin 32)
  /-- XOR (R163). -/
  | xor (d : Fin 32) (a : Fin 32) (b : Fin 32)
  /-- ANDN (R163). -/
  | andn (d : Fin 32) (a : Fin 32) (b : Fin 32)
  /-- ORN (R163). -/
  | orn (d : Fin 32) (a : Fin 32) (b : Fin 32)
  /-- SLL (R163). -/
  | sll (d : Fin 32) (a : Fin 32) (b : Fin 32)
  /-- SRL (R163). -/
  | srl (d : Fin 32) (a : Fin 32) (b : Fin 32)
  /-- SRA (R163). -/
  | sra (d : Fin 32) (a : Fin 32) (b : Fin 32)
  /-- ROR (R163). -/
  | ror (d : Fin 32) (a : Fin 32) (b : Fin 32)
  /-- MIN (R163). -/
  | min (d : Fin 32) (a : Fin 32) (b : Fin 32)
  /-- MAX (R163). -/
  | max (d : Fin 32) (a : Fin 32) (b : Fin 32)
  /-- MINN (R163). -/
  | minn (d : Fin 32) (a : Fin 32) (b : Fin 32)
  /-- MAXN (R163). -/
  | maxn (d : Fin 32) (a : Fin 32) (b : Fin 32)
  /-- SLT (R163). -/
  | slt (d : Fin 32) (a : Fin 32) (b : Fin 32)
  /-- SLTN (R163). -/
  | sltn (d : Fin 32) (a : Fin 32) (b : Fin 32)
  /-- ADD_W (R163). -/
  | addW (d : Fin 32) (a : Fin 32) (b : Fin 32)
  /-- SUB_W (R163). -/
  | subW (d : Fin 32) (a : Fin 32) (b : Fin 32)
  /-- MUL_W (R163). -/
  | mulW (d : Fin 32) (a : Fin 32) (b : Fin 32)
  /-- MULH_W (R163). -/
  | mulhW (d : Fin 32) (a : Fin 32) (b : Fin 32)
  /-- MULHN_W (R163). -/
  | mulhnW (d : Fin 32) (a : Fin 32) (b : Fin 32)
  /-- DIV_W (R164). -/
  | divW (d : Fin 32) (a : Fin 32) (b : Fin 32)
  /-- DIVN_W (R164). -/
  | divnW (d : Fin 32) (a : Fin 32) (b : Fin 32)
  /-- REM_W (R164). -/
  | remW (d : Fin 32) (a : Fin 32) (b : Fin 32)
  /-- REMN_W (R164). -/
  | remnW (d : Fin 32) (a : Fin 32) (b : Fin 32)
  /-- SLL_W (R163). -/
  | sllW (d : Fin 32) (a : Fin 32) (b : Fin 32)
  /-- SRL_W (R163). -/
  | srlW (d : Fin 32) (a : Fin 32) (b : Fin 32)
  /-- SRA_W (R163). -/
  | sraW (d : Fin 32) (a : Fin 32) (b : Fin 32)
  /-- ROR_W (R163). -/
  | rorW (d : Fin 32) (a : Fin 32) (b : Fin 32)
  /-- MIN_W (R163). -/
  | minW (d : Fin 32) (a : Fin 32) (b : Fin 32)
  /-- MAX_W (R163). -/
  | maxW (d : Fin 32) (a : Fin 32) (b : Fin 32)
  /-- MINN_W (R163). -/
  | minnW (d : Fin 32) (a : Fin 32) (b : Fin 32)
  /-- MAXN_W (R163). -/
  | maxnW (d : Fin 32) (a : Fin 32) (b : Fin 32)
  /-- SLT_W (R163). -/
  | sltW (d : Fin 32) (a : Fin 32) (b : Fin 32)
  /-- SLTN_W (R163). -/
  | sltnW (d : Fin 32) (a : Fin 32) (b : Fin 32)
  /-- ADDI (R166). -/
  | addi (d : Fin 32) (a : Fin 32) (i : BitVec 15)
  /-- ANDI (R166). -/
  | andi (d : Fin 32) (a : Fin 32) (i : BitVec 15)
  /-- ORI (R166). -/
  | ori (d : Fin 32) (a : Fin 32) (i : BitVec 15)
  /-- XORI (R166). -/
  | xori (d : Fin 32) (a : Fin 32) (i : BitVec 15)
  /-- SLTI (R166). -/
  | slti (d : Fin 32) (a : Fin 32) (i : BitVec 15)
  /-- SLTNI (R166). -/
  | sltni (d : Fin 32) (a : Fin 32) (i : BitVec 15)
  /-- SLLI (R167). -/
  | slli (d : Fin 32) (a : Fin 32) (n : Fin 64)
  /-- SRLI (R167). -/
  | srli (d : Fin 32) (a : Fin 32) (n : Fin 64)
  /-- SRAI (R167). -/
  | srai (d : Fin 32) (a : Fin 32) (n : Fin 64)
  /-- RORI (R167). -/
  | rori (d : Fin 32) (a : Fin 32) (n : Fin 64)
  /-- SLLI_W (R167). -/
  | slliW (d : Fin 32) (a : Fin 32) (n : Fin 32)
  /-- SRLI_W (R167). -/
  | srliW (d : Fin 32) (a : Fin 32) (n : Fin 32)
  /-- SRAI_W (R167). -/
  | sraiW (d : Fin 32) (a : Fin 32) (n : Fin 32)
  /-- RORI_W (R167). -/
  | roriW (d : Fin 32) (a : Fin 32) (n : Fin 32)
  /-- LUI (R168). -/
  | lui (d : Fin 32) (i : BitVec 20)
  /-- AUIPC (R168). -/
  | auipc (d : Fin 32) (i : BitVec 20)
  /-- CLZ (R169). -/
  | clz (d : Fin 32) (a : Fin 32)
  /-- CTZ (R169). -/
  | ctz (d : Fin 32) (a : Fin 32)
  /-- POPC (R169). -/
  | popc (d : Fin 32) (a : Fin 32)
  /-- BREV (R169). -/
  | brev (d : Fin 32) (a : Fin 32)
  /-- BSWAP (R169). -/
  | bswap (d : Fin 32) (a : Fin 32)
  /-- BFX (R170). -/
  | bfx (d : Fin 32) (a : Fin 32) (b : Fin 32)
  /-- BFXN (R170). -/
  | bfxn (d : Fin 32) (a : Fin 32) (b : Fin 32)
  /-- BFI (R170). -/
  | bfi (d : Fin 32) (a : Fin 32) (b : Fin 32)
  /-- HLTW (R172). -/
  | hltw (a : Fin 32) (b : Fin 32)
  /-- HPACK (R173). -/
  | hpack (d : Fin 32) (a : Fin 32) (b : Fin 32) (n : Fin 8)
  /-- HPARSE (R173). -/
  | hparse (d : Fin 32) (a : Fin 32) (b : Fin 32) (n : Fin 8)
  /-- PCMP (R174). -/
  | pcmp (p : Fin 16) (a : Fin 32) (b : Fin 32) (c : Cond)
  /-- PCMPI (R174). -/
  | pcmpi (p : Fin 16) (a : Fin 32) (c : Cond) (i : BitVec 12)
  /-- PLOG (R175). -/
  | plog (d : Fin 16) (a : Fin 16) (b : Fin 16) (o : PLogOp)
  /-- PTOG (R175). -/
  | ptog (d : Fin 32)
  /-- GTOP (R175). -/
  | gtop (a : Fin 32)
  /-- SEL (R176). -/
  | sel (d : Fin 32) (a : Fin 32) (b : Fin 32) (n : Fin 16)
  /-- JALR (R180). -/
  | jalr (d : Fin 32) (a : Fin 32)
  /-- BEQ (R178). -/
  | beq (a : Fin 32) (b : Fin 32) (o : BitVec 15)
  /-- BNE (R178). -/
  | bne (a : Fin 32) (b : Fin 32) (o : BitVec 15)
  /-- BLT (R178). -/
  | blt (a : Fin 32) (b : Fin 32) (o : BitVec 15)
  /-- BGE (R178). -/
  | bge (a : Fin 32) (b : Fin 32) (o : BitVec 15)
  /-- BLTN (R178). -/
  | bltn (a : Fin 32) (b : Fin 32) (o : BitVec 15)
  /-- BGEN (R178). -/
  | bgen (a : Fin 32) (b : Fin 32) (o : BitVec 15)
  /-- BP (R179). -/
  | bp (p : Fin 16) (o : BitVec 15)
  /-- BNP (R179). -/
  | bnp (p : Fin 16) (o : BitVec 15)
  /-- JAL (R180). -/
  | jal (d : Fin 32) (o : BitVec 20)
  /-- LD (R182). -/
  | ld (d : Fin 32) (a : Fin 32) (s : Sz) (o : BitVec 12)
  /-- LDN (R182). -/
  | ldn (d : Fin 32) (a : Fin 32) (s : SzN) (o : BitVec 12)
  /-- ST (R183). -/
  | st (d : Fin 32) (a : Fin 32) (s : Sz) (o : BitVec 12)
  /-- LDX (R184). -/
  | ldx (d : Fin 32) (a : Fin 32) (b : Fin 32) (s : SzX)
  /-- STX (R184). -/
  | stx (d : Fin 32) (a : Fin 32) (b : Fin 32) (s : Sz)
  /-- PUBLISH (R186). -/
  | publish (a : Fin 32) (b : Fin 32)
  /-- AMOADD (R189). -/
  | amoadd (d : Fin 32) (a : Fin 32) (b : Fin 32) (s : SzA)
  /-- AMOAND (R189). -/
  | amoand (d : Fin 32) (a : Fin 32) (b : Fin 32) (s : SzA)
  /-- AMOOR (R189). -/
  | amoor (d : Fin 32) (a : Fin 32) (b : Fin 32) (s : SzA)
  /-- AMOXOR (R189). -/
  | amoxor (d : Fin 32) (a : Fin 32) (b : Fin 32) (s : SzA)
  /-- AMOMIN (R189). -/
  | amomin (d : Fin 32) (a : Fin 32) (b : Fin 32) (s : SzA)
  /-- AMOMAX (R189). -/
  | amomax (d : Fin 32) (a : Fin 32) (b : Fin 32) (s : SzA)
  /-- AMOSWP (R189). -/
  | amoswp (d : Fin 32) (a : Fin 32) (b : Fin 32) (s : SzA)
  /-- AMOCAS (R189). -/
  | amocas (d : Fin 32) (a : Fin 32) (b : Fin 32) (s : SzA)
  /-- FENCE (R192). -/
  | fence (k : BitVec 6) (s : Scope)
  /-- LJOIN (R198). -/
  | ljoin (a : Fin 32) (b : Fin 32)
  /-- LJOIN_R (R198). -/
  | ljoinR (a : Fin 32) (b : Fin 32)
  /-- LFILL (R201). -/
  | lfill (a : Fin 32) (b : Fin 32)
  /-- LFILLV (R201). -/
  | lfillv (a : Fin 32) (v : Fin 16)
  /-- LFILLM (R201). -/
  | lfillm (a : Fin 32) (b : Fin 32) (m : Fin 8)
  /-- LESUM (R200). -/
  | lesum (a : Fin 32) (b : Fin 32) (t : EsumT)
  /-- LWAIT (R206). -/
  | lwait (d : Fin 32) (a : Fin 32) (b : Fin 32) (n : Fin 4) (k : TrigK)
  /-- LWAITF (R206). -/
  | lwaitf (d : Fin 32) (a : Fin 32) (b : Fin 32)
  /-- LARM (R207). -/
  | larm (d : Fin 32) (a : Fin 32) (b : Fin 32) (n : Fin 4) (k : TrigK)
  /-- LFRZ (R203). -/
  | lfrz (d : Fin 32) (a : Fin 32)
  /-- LFRZA (R204). -/
  | lfrza (a : Fin 32)
  /-- LXRD (R208). -/
  | lxrd (d : Fin 32) (a : Fin 32)
  /-- LXRDV (R208). -/
  | lxrdv (v : Fin 16) (a : Fin 32)
  /-- LSTAT (R209). -/
  | lstat (d : Fin 32) (a : Fin 32)
  /-- SEND (R211). -/
  | send (d : Fin 32) (a : Fin 32) (b : Fin 32)
  /-- SEND_F (R211). -/
  | sendF (d : Fin 32) (a : Fin 32) (b : Fin 32)
  /-- SEND_H (R211). -/
  | sendH (d : Fin 32) (a : Fin 32) (b : Fin 32)
  /-- SENDL (R211). -/
  | sendl (d : Fin 32) (a : Fin 32) (b : Fin 32) (n : Fin 8)
  /-- SENDL_F (R211). -/
  | sendlF (d : Fin 32) (a : Fin 32) (b : Fin 32) (n : Fin 8)
  /-- RECV (R214). -/
  | recv (d : Fin 32) (a : Fin 32)
  /-- RECVP (R214). -/
  | recvp (d : Fin 32) (a : Fin 32)
  /-- RECV_N (R214). -/
  | recvN (d : Fin 32) (a : Fin 32)
  /-- RECVP_N (R214). -/
  | recvpN (d : Fin 32) (a : Fin 32)
  /-- VTSET (R216). -/
  | vtset (a : Fin 32)
  /-- GVTRD (R216). -/
  | gvtrd (d : Fin 32)
  /-- CMTW (R216). -/
  | cmtw
  /-- SPAWN_FIFO (R217). -/
  | spawnFifo (d : Fin 32) (a : Fin 32) (b : Fin 32)
  /-- SPAWN_ORD (R217). -/
  | spawnOrd (d : Fin 32) (a : Fin 32) (b : Fin 32)
  /-- SPAWN_OPT (R217). -/
  | spawnOpt (d : Fin 32) (a : Fin 32) (b : Fin 32)
  /-- SPAWN_L (R217). -/
  | spawnL (d : Fin 32) (a : Fin 32) (b : Fin 32)
  /-- SPAWN_C (R217). -/
  | spawnC (d : Fin 32) (a : Fin 32) (b : Fin 32)
  /-- EXIT (R220). -/
  | exit
  /-- YIELD (R221). -/
  | yield
  /-- GBAR (R222). -/
  | gbar (l : Fin 6)
  /-- WIDF (R224). -/
  | widf (d : Fin 32) (n : Fin 6)
  /-- MIGR (R225). -/
  | migr (d : Fin 32) (a : Fin 32)
  /-- MPIN (R224). -/
  | mpin (n : Fin 2)
  /-- TWAIT (R226). -/
  | twait (a : Fin 32)
  /-- CSRR (R227). -/
  | csrr (d : Fin 32) (c : BitVec 12)
  /-- CSRW (R227). -/
  | csrw (d : Fin 32) (a : Fin 32) (c : BitVec 12)
  /-- CSRS (R227). -/
  | csrs (d : Fin 32) (a : Fin 32) (c : BitVec 12)
  /-- CSRC (R227). -/
  | csrc (d : Fin 32) (a : Fin 32) (c : BitVec 12)
  /-- ERET (R230). -/
  | eret
  /-- BRK (R229). -/
  | brk
  /-- WFI (R230). -/
  | wfi
  /-- CTXSV (R231). -/
  | ctxsv (d : Fin 32) (a : Fin 32)
  /-- CTXLD (R232). -/
  | ctxld (d : Fin 32) (a : Fin 32)
  /-- SLOTCTL (R233). -/
  | slotctl (d : Fin 32) (a : Fin 32) (b : Fin 32)
  /-- XINV (R234). -/
  | xinv (a : Fin 32) (b : Fin 32)
  /-- CINV (R234). -/
  | cinv (a : Fin 32) (b : Fin 32)
  /-- TRAP (R229). -/
  | trap (n : Fin 256)
  /-- VSETVL (R239). -/
  | vsetvl (d : Fin 32) (a : Fin 32) (e : EType)
  /-- VADD (R241). -/
  | vadd (d : Fin 16) (a : Fin 16) (b : Fin 16) (m : Fin 8) (e : EType) (r : Rm)
  /-- VSUB (R241). -/
  | vsub (d : Fin 16) (a : Fin 16) (b : Fin 16) (m : Fin 8) (e : EType) (r : Rm)
  /-- VMUL (R241). -/
  | vmul (d : Fin 16) (a : Fin 16) (b : Fin 16) (m : Fin 8) (e : EType) (r : Rm)
  /-- VMIN (R241). -/
  | vmin (d : Fin 16) (a : Fin 16) (b : Fin 16) (m : Fin 8) (e : EType) (r : Rm)
  /-- VMAX (R241). -/
  | vmax (d : Fin 16) (a : Fin 16) (b : Fin 16) (m : Fin 8) (e : EType) (r : Rm)
  /-- VMIN_N (R241). -/
  | vminN (d : Fin 16) (a : Fin 16) (b : Fin 16) (m : Fin 8) (e : EType)
  /-- VMAX_N (R241). -/
  | vmaxN (d : Fin 16) (a : Fin 16) (b : Fin 16) (m : Fin 8) (e : EType)
  /-- VABS (R241). -/
  | vabs (d : Fin 16) (a : Fin 16) (m : Fin 8) (e : EType) (r : Rm)
  /-- VNEG (R241). -/
  | vneg (d : Fin 16) (a : Fin 16) (m : Fin 8) (e : EType) (r : Rm)
  /-- VAND (R241). -/
  | vand (d : Fin 16) (a : Fin 16) (b : Fin 16) (m : Fin 8) (e : EType)
  /-- VOR (R241). -/
  | vor (d : Fin 16) (a : Fin 16) (b : Fin 16) (m : Fin 8) (e : EType)
  /-- VXOR (R241). -/
  | vxor (d : Fin 16) (a : Fin 16) (b : Fin 16) (m : Fin 8) (e : EType)
  /-- VSLL (R241). -/
  | vsll (d : Fin 16) (a : Fin 16) (b : Fin 16) (m : Fin 8) (e : EType)
  /-- VSRL (R241). -/
  | vsrl (d : Fin 16) (a : Fin 16) (b : Fin 16) (m : Fin 8) (e : EType)
  /-- VSRA (R241). -/
  | vsra (d : Fin 16) (a : Fin 16) (b : Fin 16) (m : Fin 8) (e : EType)
  /-- VFMA (R241). -/
  | vfma (d : Fin 16) (a : Fin 16) (b : Fin 16) (m : Fin 8) (e : EType) (r : Rm)
  /-- VFMS (R241). -/
  | vfms (d : Fin 16) (a : Fin 16) (b : Fin 16) (m : Fin 8) (e : EType) (r : Rm)
  /-- VDIV (R243). -/
  | vdiv (d : Fin 16) (a : Fin 16) (b : Fin 16) (m : Fin 8) (e : EType2) (r : Rm)
  /-- VSQRT (R243). -/
  | vsqrt (d : Fin 16) (a : Fin 16) (m : Fin 8) (e : EType2) (r : Rm)
  /-- VEXP (R243). -/
  | vexp (d : Fin 16) (a : Fin 16) (m : Fin 8) (e : EType2) (r : Rm)
  /-- VLOG (R243). -/
  | vlog (d : Fin 16) (a : Fin 16) (m : Fin 8) (e : EType2) (r : Rm)
  /-- VRCP (R243). -/
  | vrcp (d : Fin 16) (a : Fin 16) (m : Fin 8) (e : EType2) (r : Rm)
  /-- VRSQ (R243). -/
  | vrsq (d : Fin 16) (a : Fin 16) (m : Fin 8) (e : EType2) (r : Rm)
  /-- VTANH (R243). -/
  | vtanh (d : Fin 16) (a : Fin 16) (m : Fin 8) (e : EType2) (r : Rm)
  /-- VCMP (R244). -/
  | vcmp (k : Fin 8) (a : Fin 16) (b : Fin 16) (m : Fin 8) (e : EType) (c : VCond)
  /-- VMLOG (R245). -/
  | vmlog (k : Fin 8) (a : Fin 8) (b : Fin 8) (o : MLogOp)
  /-- VSEL (R246). -/
  | vsel (d : Fin 16) (a : Fin 16) (b : Fin 16) (m : Fin 8) (e : EType)
  /-- VCOMPRESS (R246). -/
  | vcompress (d : Fin 16) (a : Fin 16) (b : Fin 16) (m : Fin 8) (e : EType)
  /-- VEXPAND (R246). -/
  | vexpand (d : Fin 16) (a : Fin 16) (b : Fin 16) (m : Fin 8) (e : EType)
  /-- VPOPM (R247). -/
  | vpopm (g : Fin 16) (k : Fin 8)
  /-- VPERM (R248). -/
  | vperm (d : Fin 16) (a : Fin 16) (b : Fin 16) (m : Fin 8) (e : EType)
  /-- VSLIDE (R248). -/
  | vslide (d : Fin 16) (a : Fin 16) (g : Fin 16) (m : Fin 8) (e : EType)
  /-- VBCAST (R248). -/
  | vbcast (d : Fin 16) (g : Fin 16) (m : Fin 8) (e : EType)
  /-- VEXT (R248). -/
  | vext (g : Fin 16) (a : Fin 16) (h : Fin 16) (e : EType)
  /-- VINS (R248). -/
  | vins (d : Fin 16) (a : Fin 16) (g : Fin 16) (e : EType)
  /-- VRSUM (R249). -/
  | vrsum (d : Fin 16) (a : Fin 16) (m : Fin 8) (e : EType)
  /-- VRMAX (R249). -/
  | vrmax (d : Fin 16) (a : Fin 16) (m : Fin 8) (e : EType)
  /-- VRMIN (R249). -/
  | vrmin (d : Fin 16) (a : Fin 16) (m : Fin 8) (e : EType)
  /-- VCVT (R250). -/
  | vcvt (d : Fin 16) (a : Fin 16) (f : Fin 16) (e : EType)
  /-- VPOLY (R255). -/
  | vpoly (d : Fin 16) (a : Fin 16) (b : Fin 16) (e : EType)
  /-- VCOEF (R254). -/
  | vcoef (g : Fin 16)
  /-- VLD (R260). -/
  | vld (d : Fin 16) (g : Fin 16) (m : Fin 8) (e : EType)
  /-- VST (R260). -/
  | vst (d : Fin 16) (g : Fin 16) (m : Fin 8) (e : EType)
  /-- VLDS (R262). -/
  | vlds (d : Fin 16) (s : Fin 8) (m : Fin 8) (e : EType)
  /-- VSTS (R262). -/
  | vsts (d : Fin 16) (s : Fin 8) (m : Fin 8) (e : EType)
  /-- VLDX (R260). -/
  | vldx (d : Fin 16) (g : Fin 16) (b : Fin 16) (m : Fin 8) (e : EType)
  /-- VSTX (R260). -/
  | vstx (d : Fin 16) (g : Fin 16) (b : Fin 16) (m : Fin 8) (e : EType)
  /-- VLDQ (R270). -/
  | vldq (d : Fin 16) (c : Fin 32) (e : EType)
  /-- VSTQ (R270). -/
  | vstq (d : Fin 16) (c : Fin 32) (e : EType)
  /-- VREDQ (R271). -/
  | vredq (d : Fin 16) (c : Fin 32) (e : EType)
  /-- VQNT (R251). -/
  | vqnt (d : Fin 16) (a : Fin 16) (n : Fin 4) (e : EType)
  /-- VDQNT (R251). -/
  | vdqnt (d : Fin 16) (a : Fin 16) (n : Fin 4) (e : EType)
  /-- VSCL (R252). -/
  | vscl (d : Fin 16) (a : Fin 16) (b : Fin 16) (e : EType)
  /-- VMMB (R257). -/
  | vmmb (d : Fin 16) (a : Fin 16) (b : Fin 16) (e : EType)
  /-- VLGL (R258). -/
  | vlgl (g : Fin 16) (b : Fin 16)
  /-- SHSET (R263). -/
  | shset (a : Fin 32) (n : Fin 8)
  /-- SHGET (R263). -/
  | shget (a : Fin 32) (n : Fin 8)
  /-- SHADV (R263). -/
  | shadv (a : Fin 32) (n : Fin 8)
  /-- SHRST (R263). -/
  | shrst (n : Fin 8)
  /-- CBSET (R265). -/
  | cbset (a : Fin 32) (n : Fin 32)
  /-- CBWF (R266). -/
  | cbwf (p : Fin 16) (a : Fin 32) (n : Fin 32)
  /-- CBWE (R266). -/
  | cbwe (a : Fin 32) (n : Fin 32)
  /-- CBPA (R267). -/
  | cbpa (a : Fin 32) (n : Fin 32)
  /-- CBCA (R267). -/
  | cbca (a : Fin 32) (n : Fin 32)
  /-- CBEOS (R267). -/
  | cbeos (n : Fin 32)
  /-- QBIND_POP (R268). -/
  | qbindPop (d : Fin 32) (p : Fin 16) (n : Fin 32)
  /-- QBIND_PUSH (R268). -/
  | qbindPush (d : Fin 32) (a : Fin 32) (p : Fin 16) (n : Fin 32)
  /-- QFREE (R268). -/
  | qfree (d : Fin 32)
  /-- Tile command MWLD (R285). -/
  | mwld (t : TWord)
  /-- Tile command MSWAP (R286). -/
  | mswap (t : TWord)
  /-- Tile command MACT (R287). -/
  | mact (t : TWord)
  /-- Tile command MDRN (R288). -/
  | mdrn (t : TWord)
  /-- Tile command MZERO (R289). -/
  | mzero (t : TWord)
  /-- Tile command MSYNC (R290). -/
  | msync (t : TWord)
  /-- Tile command CPY_B (R292). -/
  | cpyB (t : TWord)
  /-- Tile command CPY_C (R293). -/
  | cpyC (t : TWord)
  /-- Tile command CPY_G (R295). -/
  | cpyG (t : TWord)
  /-- Tile command CPY_F (R296). -/
  | cpyF (t : TWord)
  /-- Tile command CRS (R299). -/
  | crs (t : TWord)
  /-- Tile command CAG (R299). -/
  | cag (t : TWord)
  /-- Tile command CAR (R299). -/
  | car (t : TWord)
  /-- Tile command CBC (R299). -/
  | cbc (t : TWord)
  /-- Event INSTRUCTION_COMPLETION (R17). -/
  | instructionCompletion
  /-- Event INSTRUCTION_FETCH_FILL (R181). -/
  | instructionFetchFill
  /-- Event COEFFICIENT_TABLE_LOAD (R255). -/
  | coefficientTableLoad
  /-- Event TIMER_PREEMPTION (R23). -/
  | timerPreemption
  /-- Event LMX_OVERRUN (R98). -/
  | lmxOverrun
  /-- Event SYSTEM_EVENT_ENTRY (R97). -/
  | systemEventEntry
  /-- Event POSTED_REPLY (R195). -/
  | postedReply
  /-- Event LATTICE_REFUSAL_TRAP (R195). -/
  | latticeRefusalTrap
  /-- Event LATTICE_REQUEST_APPLY (R54). -/
  | latticeRequestApply
  /-- Event THRESHOLD_READ_AT_HOME (R206). -/
  | thresholdReadAtHome
  /-- Event WAIT_WITHDRAWAL (R83). -/
  | waitWithdrawal
  /-- Event ARENA_FREEZE (R204). -/
  | arenaFreeze
  /-- Event REMOTE_WORD_ACCESS (R40). -/
  | remoteWordAccess
  /-- Event LOCALITY_MIGRATION (R40). -/
  | localityMigration
  /-- Event PUBLISH_PAGE_CHANGE (R187). -/
  | publishPageChange
  /-- Event MESSAGE_ARRIVAL (R101). -/
  | messageArrival
  /-- Event ANTI_MESSAGE_ARRIVAL (R84). -/
  | antiMessageArrival
  /-- Event ROLLBACK (R82). -/
  | rollback
  /-- Event WAKE_DELIVERY (R101). -/
  | wakeDelivery
  /-- Event TWAIT_EXPIRY (R226). -/
  | twaitExpiry
  /-- Event INBOX_OVERFLOW_TIMEOUT (R359). -/
  | inboxOverflowTimeout
  /-- Event WAITER_SPILL_TIMEOUT (R360). -/
  | waiterSpillTimeout
  /-- Event DERAILLEUR_MIGRATION (R112). -/
  | derailleurMigration
  /-- Event MIGRATION_INTAKE (R112). -/
  | migrationIntake
  /-- Event SAVE_COMPLETION (R105). -/
  | saveCompletion
  /-- Event CONTEXT_CACHE_WRITEBACK (R103). -/
  | contextCacheWriteback
  /-- Event PARKED_THREAD_EVICTION (R324). -/
  | parkedThreadEviction
  /-- Event DRIVER_STOP (R100). -/
  | driverStop
  /-- Event LAUNCH_STOP (R100). -/
  | launchStop
  /-- Event SWEEP_START (R89). -/
  | sweepStart
  /-- Event SWEEP_CONTROL_FLIT (R92). -/
  | sweepControlFlit
  /-- Event SWEEP_RESULT (R90). -/
  | sweepResult
  /-- Event LAUNCH_ACCEPT (R346). -/
  | launchAccept
  /-- Event LAUNCH_DISPATCH (R317). -/
  | launchDispatch
  /-- Event UNIT_PLACEMENT (R319). -/
  | unitPlacement
  /-- Event SLOT_FILL (R320). -/
  | slotFill
  /-- Event GRANT_RETRY (R372). -/
  | grantRetry
  /-- Event STEAL_REQUEST (R323). -/
  | stealRequest
  /-- Event STEAL_ANSWER (R323). -/
  | stealAnswer
  /-- Event LAUNCH_COMPLETION (R347). -/
  | launchCompletion
  /-- Event HOST_MESSAGE_WRITE (R349). -/
  | hostMessageWrite
  /-- Event ARBITER_SELECT (R31). -/
  | arbiterSelect
  /-- Event MXU_COMMAND_EXECUTE (R281). -/
  | mxuCommandExecute
  /-- Event DRAIN_SLOT_ARRIVAL (R288). -/
  | drainSlotArrival
  /-- Event COPY_EXECUTE (R291). -/
  | copyExecute
  /-- Event STREAMER_READ (R292). -/
  | streamerRead
  /-- Event COPY_CHANNEL_SLOT_ARRIVAL (R293). -/
  | copyChannelSlotArrival
  /-- Event COLLECTIVE_START (R297). -/
  | collectiveStart
  /-- Event WIRE_BLOCK_ARRIVAL (R137). -/
  | wireBlockArrival
  /-- Event WQTAIL_WRITE (R346). -/
  | wqtailWrite
  /-- Event WQCTL_WRITE (R345). -/
  | wqctlWrite
  /-- Event CQHEAD_WRITE (R346). -/
  | cqheadWrite
  /-- Event HMHEAD_WRITE (R349). -/
  | hmheadWrite
  /-- Event RPHEAD_WRITE (R348). -/
  | rpheadWrite
  /-- Event ELHEAD_WRITE (R368). -/
  | elheadWrite
  /-- Event TRHEAD_WRITE (R308). -/
  | trheadWrite
  /-- Event WRING_WRITE (R397). -/
  | wringWrite
  /-- Event CAPTURE_CONFIG_WRITE (R383). -/
  | captureConfigWrite
  /-- Event CAPTURE_CLEAR (R383). -/
  | captureClear
  /-- Event REGISTER_WRITE (R344). -/
  | registerWrite
  /-- Event BAD_REGISTER_ACCESS (R344). -/
  | badRegisterAccess
  /-- Event REGBUF (R350). -/
  | regbuf
  /-- Event FREEBUF (R350). -/
  | freebuf
  /-- Event REGARENA (R45). -/
  | regarena
  /-- Event FREEARENA (R350). -/
  | freearena
  /-- Event RETAG (R350). -/
  | retag
  /-- Event DRIVER_XINV (R234). -/
  | driverXinv
  /-- Event DRIVER_CINV (R234). -/
  | driverCinv
  /-- Event STOP (R351). -/
  | stop
  /-- Event RECLAIM (R108). -/
  | reclaim
  /-- Event RESTORE (R108). -/
  | restore
  /-- Event SAVERETRY (R105). -/
  | saveretry
  /-- Event CORECMD (R350). -/
  | corecmd
  /-- Event ROTKEY (R367). -/
  | rotkey
  /-- Event DIGEST (R392). -/
  | digest
  /-- Event UNKNOWN_DRIVER_COMMAND (R350). -/
  | unknownDriverCommand
  /-- Event DIGEST_PEER_MESSAGE (R392). -/
  | digestPeerMessage
  /-- Event DIGEST_TIMEOUT (R392). -/
  | digestTimeout
  /-- Event HOST_MEM_READ (R343). -/
  | hostMemRead
  /-- Event HOST_MEM_WRITE (R343). -/
  | hostMemWrite
  /-- Event GET_VERSION (R365). -/
  | getVersion
  /-- Event GET_CAPABILITIES (R365). -/
  | getCapabilities
  /-- Event NEGOTIATE_ALGORITHMS (R365). -/
  | negotiateAlgorithms
  /-- Event GET_DIGESTS (R365). -/
  | getDigests
  /-- Event GET_CERTIFICATE (R365). -/
  | getCertificate
  /-- Event CHALLENGE (R365). -/
  | challenge
  /-- Event GET_MEASUREMENTS (R365). -/
  | getMeasurements
  /-- Event POWER_ON (R364). -/
  | powerOn
  /-- Event THERMAL_SHUTDOWN (R381). -/
  | thermalShutdown
  /-- Event POWER_CAP_THROTTLE (R380). -/
  | powerCapThrottle
  /-- Event UCIE_MODULE_STATE_CHANGE (R362). -/
  | ucieModuleStateChange
  /-- Event FABRIC_REPLAY (R363). -/
  | fabricReplay
  /-- Event WELSA_PORT_STATE_CHANGE (R396). -/
  | welsaPortStateChange
  /-- Event WELSA_TRANSFER_TIMEOUT (R396). -/
  | welsaTransferTimeout
  /-- Event HBM_SCRUB (R389). -/
  | hbmScrub
  /-- Event MONITOR_LEVEL_SAMPLE (R384). -/
  | monitorLevelSample
  /-- Event UNASSIGNED_WORD (R150). -/
  | unassignedWord
  /-- Event POWER_REMOVAL (R365). -/
  | powerRemoval
deriving DecidableEq, Repr

end Sys2Proof
end

