-- ==== Sys2Proof/WellFormed.lean ====
section
/-! DEFINITION. Which terms of the syntax are instructions of the machine: the operand combinations that the opcode map leaves
unassigned (R150) are ill-formed. Events that name a core, die, cluster or queue the package does not have are ill-formed too. -/

namespace Sys2Proof

/-- The floating element types (Table 9.1). -/
def EType.floating : EType → Bool
  | .f64 => true
  | .f32 => true
  | .f16 => true
  | .bf16 => true
  | .i8 => false
  | .i16 => false
  | .i32 => false
  | .i64 => false

/-- Which element types a vector condition accepts (R244). -/
def VCond.allows : VCond → EType → Bool
  | .eq, _ => true
  | .ne, _ => true
  | .lt, _ => true
  | .ge, _ => true
  | .ltn, e => !e.floating
  | .gen, e => !e.floating
  | .un, e => e.floating

/-- The CSR numbers of Table 8.9. -/
def csrNumbers : List Nat :=
  [0x001, 0x002, 0x008, 0x009, 0x00A, 0x00B, 0x00C, 0x00D, 0x00E, 0x00F, 0x010, 0x011, 0x012, 0x013, 0x014, 0x015, 0x020, 0x021,
   0x022, 0x023, 0x040, 0x041, 0x042, 0x043, 0x044, 0x045, 0x046, 0x047, 0x080, 0x081, 0x082, 0x083]

/-- Well-formed instructions and events (R150; Tables 6.12 to 6.22). -/
def Instr.wf : Instr → Bool
  | .add _ _ _ => true
  | .sub _ _ _ => true
  | .mul _ _ _ => true
  | .mulh _ _ _ => true
  | .mulhn _ _ _ => true
  | .div _ _ _ => true
  | .divn _ _ _ => true
  | .rem _ _ _ => true
  | .remn _ _ _ => true
  | .and _ _ _ => true
  | .or _ _ _ => true
  | .xor _ _ _ => true
  | .andn _ _ _ => true
  | .orn _ _ _ => true
  | .sll _ _ _ => true
  | .srl _ _ _ => true
  | .sra _ _ _ => true
  | .ror _ _ _ => true
  | .min _ _ _ => true
  | .max _ _ _ => true
  | .minn _ _ _ => true
  | .maxn _ _ _ => true
  | .slt _ _ _ => true
  | .sltn _ _ _ => true
  | .addW _ _ _ => true
  | .subW _ _ _ => true
  | .mulW _ _ _ => true
  | .mulhW _ _ _ => true
  | .mulhnW _ _ _ => true
  | .divW _ _ _ => true
  | .divnW _ _ _ => true
  | .remW _ _ _ => true
  | .remnW _ _ _ => true
  | .sllW _ _ _ => true
  | .srlW _ _ _ => true
  | .sraW _ _ _ => true
  | .rorW _ _ _ => true
  | .minW _ _ _ => true
  | .maxW _ _ _ => true
  | .minnW _ _ _ => true
  | .maxnW _ _ _ => true
  | .sltW _ _ _ => true
  | .sltnW _ _ _ => true
  | .addi _ _ _ => true
  | .andi _ _ _ => true
  | .ori _ _ _ => true
  | .xori _ _ _ => true
  | .slti _ _ _ => true
  | .sltni _ _ _ => true
  | .slli _ _ _ => true
  | .srli _ _ _ => true
  | .srai _ _ _ => true
  | .rori _ _ _ => true
  | .slliW _ _ _ => true
  | .srliW _ _ _ => true
  | .sraiW _ _ _ => true
  | .roriW _ _ _ => true
  | .lui _ _ => true
  | .auipc _ _ => true
  | .clz _ _ => true
  | .ctz _ _ => true
  | .popc _ _ => true
  | .brev _ _ => true
  | .bswap _ _ => true
  | .bfx _ _ _ => true
  | .bfxn _ _ _ => true
  | .bfi _ _ _ => true
  | .hltw _ _ => true
  | .hpack _ _ _ _ => true
  | .hparse _ _ _ _ => true
  | .pcmp _ _ _ _ => true
  | .pcmpi _ _ _ _ => true
  | .plog _ _ _ _ => true
  | .ptog _ => true
  | .gtop _ => true
  | .sel _ _ _ _ => true
  | .jalr _ _ => true
  | .beq _ _ _ => true
  | .bne _ _ _ => true
  | .blt _ _ _ => true
  | .bge _ _ _ => true
  | .bltn _ _ _ => true
  | .bgen _ _ _ => true
  | .bp _ _ => true
  | .bnp _ _ => true
  | .jal _ _ => true
  | .ld _ _ _ _ => true
  | .ldn _ _ _ _ => true
  | .st _ _ _ _ => true
  | .ldx _ _ _ _ => true
  | .stx _ _ _ _ => true
  | .publish _ _ => true
  | .amoadd _ _ _ _ => true
  | .amoand _ _ _ _ => true
  | .amoor _ _ _ _ => true
  | .amoxor _ _ _ _ => true
  | .amomin _ _ _ _ => true
  | .amomax _ _ _ _ => true
  | .amoswp _ _ _ _ => true
  | .amocas _ _ _ _ => true
  | .fence k _ => k != 0
  | .ljoin _ _ => true
  | .ljoinR _ _ => true
  | .lfill _ _ => true
  | .lfillv _ _ => true
  | .lfillm _ _ _ => true
  | .lesum _ _ _ => true
  | .lwait _ _ b n _ => b.val + n.val ≤ 31
  | .lwaitf _ _ _ => true
  | .larm _ _ b n _ => b.val + n.val ≤ 31
  | .lfrz _ _ => true
  | .lfrza _ => true
  | .lxrd _ _ => true
  | .lxrdv _ _ => true
  | .lstat _ _ => true
  | .send d _ _ => d.val ≤ 28
  | .sendF d _ _ => d.val ≤ 28
  | .sendH d _ _ => d.val ≤ 28
  | .sendl _ _ _ _ => true
  | .sendlF _ _ _ _ => true
  | .recv _ _ => true
  | .recvp _ _ => true
  | .recvN _ _ => true
  | .recvpN _ _ => true
  | .vtset _ => true
  | .gvtrd _ => true
  | .cmtw => true
  | .spawnFifo _ _ _ => true
  | .spawnOrd _ _ _ => true
  | .spawnOpt _ _ _ => true
  | .spawnL _ _ _ => true
  | .spawnC _ _ _ => true
  | .exit => true
  | .yield => true
  | .gbar _ => true
  | .widf _ _ => true
  | .migr _ _ => true
  | .mpin _ => true
  | .twait _ => true
  | .csrr _ c => csrNumbers.contains c.toNat
  | .csrw _ _ c => csrNumbers.contains c.toNat
  | .csrs _ _ c => csrNumbers.contains c.toNat
  | .csrc _ _ c => csrNumbers.contains c.toNat
  | .eret => true
  | .brk => true
  | .wfi => true
  | .ctxsv _ _ => true
  | .ctxld _ _ => true
  | .slotctl _ _ _ => true
  | .xinv _ _ => true
  | .cinv _ _ => true
  | .trap _ => true
  | .vsetvl _ _ _ => true
  | .vadd _ _ _ _ e r => (e.floating || r == .rne)
  | .vsub _ _ _ _ e r => (e.floating || r == .rne)
  | .vmul _ _ _ _ e r => (e.floating || r == .rne)
  | .vmin _ _ _ _ e r => (e.floating || r == .rne)
  | .vmax _ _ _ _ e r => (e.floating || r == .rne)
  | .vminN _ _ _ _ e => !e.floating
  | .vmaxN _ _ _ _ e => !e.floating
  | .vabs _ _ _ e r => (e.floating || r == .rne)
  | .vneg _ _ _ e r => (e.floating || r == .rne)
  | .vand _ _ _ _ e => !e.floating
  | .vor _ _ _ _ e => !e.floating
  | .vxor _ _ _ _ e => !e.floating
  | .vsll _ _ _ _ e => !e.floating
  | .vsrl _ _ _ _ e => !e.floating
  | .vsra _ _ _ _ e => !e.floating
  | .vfma _ _ _ _ e r => (e.floating || r == .rne)
  | .vfms _ _ _ _ e r => (e.floating || r == .rne)
  | .vdiv _ _ _ _ _ _ => true
  | .vsqrt _ _ _ _ _ => true
  | .vexp _ _ _ _ _ => true
  | .vlog _ _ _ _ _ => true
  | .vrcp _ _ _ _ _ => true
  | .vrsq _ _ _ _ _ => true
  | .vtanh _ _ _ _ _ => true
  | .vcmp _ _ _ _ e c => c.allows e
  | .vmlog _ _ _ _ => true
  | .vsel _ _ _ _ _ => true
  | .vcompress _ _ _ _ _ => true
  | .vexpand _ _ _ _ _ => true
  | .vpopm _ _ => true
  | .vperm _ _ _ _ _ => true
  | .vslide _ _ _ _ _ => true
  | .vbcast _ _ _ _ => true
  | .vext _ _ _ _ => true
  | .vins _ _ _ _ => true
  | .vrsum _ _ _ _ => true
  | .vrmax _ _ _ _ => true
  | .vrmin _ _ _ _ => true
  | .vcvt _ _ f _ => (f.val ≤ 3 || (7 ≤ f.val && f.val ≤ 14))
  | .vpoly _ _ _ e => (e == .f64 || e == .f32)
  | .vcoef _ => true
  | .vld _ _ _ _ => true
  | .vst _ _ _ _ => true
  | .vlds _ _ _ _ => true
  | .vsts _ _ _ _ => true
  | .vldx _ _ _ _ _ => true
  | .vstx _ _ _ _ _ => true
  | .vldq _ _ _ => true
  | .vstq _ _ _ => true
  | .vredq _ _ _ => true
  | .vqnt _ _ _ e => (e == .f32 || e == .f16 || e == .bf16)
  | .vdqnt _ _ _ e => (e == .f32 || e == .f16 || e == .bf16)
  | .vscl _ _ _ e => e.floating
  | .vmmb _ _ _ e => (e == .f64 || e == .f32)
  | .vlgl _ _ => true
  | .shset _ _ => true
  | .shget _ _ => true
  | .shadv _ _ => true
  | .shrst _ => true
  | .cbset _ _ => true
  | .cbwf _ _ _ => true
  | .cbwe _ _ => true
  | .cbpa _ _ => true
  | .cbca _ _ => true
  | .cbeos _ => true
  | .qbindPop d _ _ => 28 ≤ d.val
  | .qbindPush d _ _ _ => 28 ≤ d.val
  | .qfree d => 28 ≤ d.val
  | .mwld _ => true
  | .mswap _ => true
  | .mact _ => true
  | .mdrn _ => true
  | .mzero _ => true
  | .msync _ => true
  | .cpyB _ => true
  | .cpyC _ => true
  | .cpyG _ => true
  | .cpyF _ => true
  | .crs _ => true
  | .cag _ => true
  | .car _ => true
  | .cbc _ => true
  | .instructionCompletion => true
  | .instructionFetchFill => true
  | .coefficientTableLoad => true
  | .timerPreemption => true
  | .lmxOverrun => true
  | .systemEventEntry => true
  | .postedReply => true
  | .latticeRefusalTrap => true
  | .latticeRequestApply => true
  | .thresholdReadAtHome => true
  | .waitWithdrawal => true
  | .arenaFreeze => true
  | .remoteWordAccess => true
  | .localityMigration => true
  | .publishPageChange => true
  | .messageArrival => true
  | .antiMessageArrival => true
  | .rollback => true
  | .wakeDelivery => true
  | .twaitExpiry => true
  | .inboxOverflowTimeout => true
  | .waiterSpillTimeout => true
  | .derailleurMigration => true
  | .migrationIntake => true
  | .saveCompletion => true
  | .contextCacheWriteback => true
  | .parkedThreadEviction => true
  | .driverStop => true
  | .launchStop => true
  | .sweepStart => true
  | .sweepControlFlit => true
  | .sweepResult => true
  | .launchAccept => true
  | .launchDispatch => true
  | .unitPlacement => true
  | .slotFill => true
  | .grantRetry => true
  | .stealRequest => true
  | .stealAnswer => true
  | .launchCompletion => true
  | .hostMessageWrite => true
  | .arbiterSelect => true
  | .mxuCommandExecute => true
  | .drainSlotArrival => true
  | .copyExecute => true
  | .streamerRead => true
  | .copyChannelSlotArrival => true
  | .collectiveStart => true
  | .wireBlockArrival => true
  | .wqtailWrite => true
  | .wqctlWrite => true
  | .cqheadWrite => true
  | .hmheadWrite => true
  | .rpheadWrite => true
  | .elheadWrite => true
  | .trheadWrite => true
  | .wringWrite => true
  | .captureConfigWrite => true
  | .captureClear => true
  | .registerWrite => true
  | .badRegisterAccess => true
  | .regbuf => true
  | .freebuf => true
  | .regarena => true
  | .freearena => true
  | .retag => true
  | .driverXinv => true
  | .driverCinv => true
  | .stop => true
  | .reclaim => true
  | .restore => true
  | .saveretry => true
  | .corecmd => true
  | .rotkey => true
  | .digest => true
  | .unknownDriverCommand => true
  | .digestPeerMessage => true
  | .digestTimeout => true
  | .hostMemRead => true
  | .hostMemWrite => true
  | .getVersion => true
  | .getCapabilities => true
  | .negotiateAlgorithms => true
  | .getDigests => true
  | .getCertificate => true
  | .challenge => true
  | .getMeasurements => true
  | .powerOn => true
  | .thermalShutdown => true
  | .powerCapThrottle => true
  | .ucieModuleStateChange => true
  | .fabricReplay => true
  | .welsaPortStateChange => true
  | .welsaTransferTimeout => true
  | .hbmScrub => true
  | .monitorLevelSample => true
  | .unassignedWord => true
  | .powerRemoval => true

/-- Whether a term is an instruction that a thread issues, not an event. -/
def Instr.isInstr : Instr → Bool
  | .add _ _ _ => true
  | .sub _ _ _ => true
  | .mul _ _ _ => true
  | .mulh _ _ _ => true
  | .mulhn _ _ _ => true
  | .div _ _ _ => true
  | .divn _ _ _ => true
  | .rem _ _ _ => true
  | .remn _ _ _ => true
  | .and _ _ _ => true
  | .or _ _ _ => true
  | .xor _ _ _ => true
  | .andn _ _ _ => true
  | .orn _ _ _ => true
  | .sll _ _ _ => true
  | .srl _ _ _ => true
  | .sra _ _ _ => true
  | .ror _ _ _ => true
  | .min _ _ _ => true
  | .max _ _ _ => true
  | .minn _ _ _ => true
  | .maxn _ _ _ => true
  | .slt _ _ _ => true
  | .sltn _ _ _ => true
  | .addW _ _ _ => true
  | .subW _ _ _ => true
  | .mulW _ _ _ => true
  | .mulhW _ _ _ => true
  | .mulhnW _ _ _ => true
  | .divW _ _ _ => true
  | .divnW _ _ _ => true
  | .remW _ _ _ => true
  | .remnW _ _ _ => true
  | .sllW _ _ _ => true
  | .srlW _ _ _ => true
  | .sraW _ _ _ => true
  | .rorW _ _ _ => true
  | .minW _ _ _ => true
  | .maxW _ _ _ => true
  | .minnW _ _ _ => true
  | .maxnW _ _ _ => true
  | .sltW _ _ _ => true
  | .sltnW _ _ _ => true
  | .addi _ _ _ => true
  | .andi _ _ _ => true
  | .ori _ _ _ => true
  | .xori _ _ _ => true
  | .slti _ _ _ => true
  | .sltni _ _ _ => true
  | .slli _ _ _ => true
  | .srli _ _ _ => true
  | .srai _ _ _ => true
  | .rori _ _ _ => true
  | .slliW _ _ _ => true
  | .srliW _ _ _ => true
  | .sraiW _ _ _ => true
  | .roriW _ _ _ => true
  | .lui _ _ => true
  | .auipc _ _ => true
  | .clz _ _ => true
  | .ctz _ _ => true
  | .popc _ _ => true
  | .brev _ _ => true
  | .bswap _ _ => true
  | .bfx _ _ _ => true
  | .bfxn _ _ _ => true
  | .bfi _ _ _ => true
  | .hltw _ _ => true
  | .hpack _ _ _ _ => true
  | .hparse _ _ _ _ => true
  | .pcmp _ _ _ _ => true
  | .pcmpi _ _ _ _ => true
  | .plog _ _ _ _ => true
  | .ptog _ => true
  | .gtop _ => true
  | .sel _ _ _ _ => true
  | .jalr _ _ => true
  | .beq _ _ _ => true
  | .bne _ _ _ => true
  | .blt _ _ _ => true
  | .bge _ _ _ => true
  | .bltn _ _ _ => true
  | .bgen _ _ _ => true
  | .bp _ _ => true
  | .bnp _ _ => true
  | .jal _ _ => true
  | .ld _ _ _ _ => true
  | .ldn _ _ _ _ => true
  | .st _ _ _ _ => true
  | .ldx _ _ _ _ => true
  | .stx _ _ _ _ => true
  | .publish _ _ => true
  | .amoadd _ _ _ _ => true
  | .amoand _ _ _ _ => true
  | .amoor _ _ _ _ => true
  | .amoxor _ _ _ _ => true
  | .amomin _ _ _ _ => true
  | .amomax _ _ _ _ => true
  | .amoswp _ _ _ _ => true
  | .amocas _ _ _ _ => true
  | .fence _ _ => true
  | .ljoin _ _ => true
  | .ljoinR _ _ => true
  | .lfill _ _ => true
  | .lfillv _ _ => true
  | .lfillm _ _ _ => true
  | .lesum _ _ _ => true
  | .lwait _ _ _ _ _ => true
  | .lwaitf _ _ _ => true
  | .larm _ _ _ _ _ => true
  | .lfrz _ _ => true
  | .lfrza _ => true
  | .lxrd _ _ => true
  | .lxrdv _ _ => true
  | .lstat _ _ => true
  | .send _ _ _ => true
  | .sendF _ _ _ => true
  | .sendH _ _ _ => true
  | .sendl _ _ _ _ => true
  | .sendlF _ _ _ _ => true
  | .recv _ _ => true
  | .recvp _ _ => true
  | .recvN _ _ => true
  | .recvpN _ _ => true
  | .vtset _ => true
  | .gvtrd _ => true
  | .cmtw => true
  | .spawnFifo _ _ _ => true
  | .spawnOrd _ _ _ => true
  | .spawnOpt _ _ _ => true
  | .spawnL _ _ _ => true
  | .spawnC _ _ _ => true
  | .exit => true
  | .yield => true
  | .gbar _ => true
  | .widf _ _ => true
  | .migr _ _ => true
  | .mpin _ => true
  | .twait _ => true
  | .csrr _ _ => true
  | .csrw _ _ _ => true
  | .csrs _ _ _ => true
  | .csrc _ _ _ => true
  | .eret => true
  | .brk => true
  | .wfi => true
  | .ctxsv _ _ => true
  | .ctxld _ _ => true
  | .slotctl _ _ _ => true
  | .xinv _ _ => true
  | .cinv _ _ => true
  | .trap _ => true
  | .vsetvl _ _ _ => true
  | .vadd _ _ _ _ _ _ => true
  | .vsub _ _ _ _ _ _ => true
  | .vmul _ _ _ _ _ _ => true
  | .vmin _ _ _ _ _ _ => true
  | .vmax _ _ _ _ _ _ => true
  | .vminN _ _ _ _ _ => true
  | .vmaxN _ _ _ _ _ => true
  | .vabs _ _ _ _ _ => true
  | .vneg _ _ _ _ _ => true
  | .vand _ _ _ _ _ => true
  | .vor _ _ _ _ _ => true
  | .vxor _ _ _ _ _ => true
  | .vsll _ _ _ _ _ => true
  | .vsrl _ _ _ _ _ => true
  | .vsra _ _ _ _ _ => true
  | .vfma _ _ _ _ _ _ => true
  | .vfms _ _ _ _ _ _ => true
  | .vdiv _ _ _ _ _ _ => true
  | .vsqrt _ _ _ _ _ => true
  | .vexp _ _ _ _ _ => true
  | .vlog _ _ _ _ _ => true
  | .vrcp _ _ _ _ _ => true
  | .vrsq _ _ _ _ _ => true
  | .vtanh _ _ _ _ _ => true
  | .vcmp _ _ _ _ _ _ => true
  | .vmlog _ _ _ _ => true
  | .vsel _ _ _ _ _ => true
  | .vcompress _ _ _ _ _ => true
  | .vexpand _ _ _ _ _ => true
  | .vpopm _ _ => true
  | .vperm _ _ _ _ _ => true
  | .vslide _ _ _ _ _ => true
  | .vbcast _ _ _ _ => true
  | .vext _ _ _ _ => true
  | .vins _ _ _ _ => true
  | .vrsum _ _ _ _ => true
  | .vrmax _ _ _ _ => true
  | .vrmin _ _ _ _ => true
  | .vcvt _ _ _ _ => true
  | .vpoly _ _ _ _ => true
  | .vcoef _ => true
  | .vld _ _ _ _ => true
  | .vst _ _ _ _ => true
  | .vlds _ _ _ _ => true
  | .vsts _ _ _ _ => true
  | .vldx _ _ _ _ _ => true
  | .vstx _ _ _ _ _ => true
  | .vldq _ _ _ => true
  | .vstq _ _ _ => true
  | .vredq _ _ _ => true
  | .vqnt _ _ _ _ => true
  | .vdqnt _ _ _ _ => true
  | .vscl _ _ _ _ => true
  | .vmmb _ _ _ _ => true
  | .vlgl _ _ => true
  | .shset _ _ => true
  | .shget _ _ => true
  | .shadv _ _ => true
  | .shrst _ => true
  | .cbset _ _ => true
  | .cbwf _ _ _ => true
  | .cbwe _ _ => true
  | .cbpa _ _ => true
  | .cbca _ _ => true
  | .cbeos _ => true
  | .qbindPop _ _ _ => true
  | .qbindPush _ _ _ _ => true
  | .qfree _ => true
  | .mwld _ => true
  | .mswap _ => true
  | .mact _ => true
  | .mdrn _ => true
  | .mzero _ => true
  | .msync _ => true
  | .cpyB _ => true
  | .cpyC _ => true
  | .cpyG _ => true
  | .cpyF _ => true
  | .crs _ => true
  | .cag _ => true
  | .car _ => true
  | .cbc _ => true
  | .instructionCompletion => false
  | .instructionFetchFill => false
  | .coefficientTableLoad => false
  | .timerPreemption => false
  | .lmxOverrun => false
  | .systemEventEntry => false
  | .postedReply => false
  | .latticeRefusalTrap => false
  | .latticeRequestApply => false
  | .thresholdReadAtHome => false
  | .waitWithdrawal => false
  | .arenaFreeze => false
  | .remoteWordAccess => false
  | .localityMigration => false
  | .publishPageChange => false
  | .messageArrival => false
  | .antiMessageArrival => false
  | .rollback => false
  | .wakeDelivery => false
  | .twaitExpiry => false
  | .inboxOverflowTimeout => false
  | .waiterSpillTimeout => false
  | .derailleurMigration => false
  | .migrationIntake => false
  | .saveCompletion => false
  | .contextCacheWriteback => false
  | .parkedThreadEviction => false
  | .driverStop => false
  | .launchStop => false
  | .sweepStart => false
  | .sweepControlFlit => false
  | .sweepResult => false
  | .launchAccept => false
  | .launchDispatch => false
  | .unitPlacement => false
  | .slotFill => false
  | .grantRetry => false
  | .stealRequest => false
  | .stealAnswer => false
  | .launchCompletion => false
  | .hostMessageWrite => false
  | .arbiterSelect => false
  | .mxuCommandExecute => false
  | .drainSlotArrival => false
  | .copyExecute => false
  | .streamerRead => false
  | .copyChannelSlotArrival => false
  | .collectiveStart => false
  | .wireBlockArrival => false
  | .wqtailWrite => false
  | .wqctlWrite => false
  | .cqheadWrite => false
  | .hmheadWrite => false
  | .rpheadWrite => false
  | .elheadWrite => false
  | .trheadWrite => false
  | .wringWrite => false
  | .captureConfigWrite => false
  | .captureClear => false
  | .registerWrite => false
  | .badRegisterAccess => false
  | .regbuf => false
  | .freebuf => false
  | .regarena => false
  | .freearena => false
  | .retag => false
  | .driverXinv => false
  | .driverCinv => false
  | .stop => false
  | .reclaim => false
  | .restore => false
  | .saveretry => false
  | .corecmd => false
  | .rotkey => false
  | .digest => false
  | .unknownDriverCommand => false
  | .digestPeerMessage => false
  | .digestTimeout => false
  | .hostMemRead => false
  | .hostMemWrite => false
  | .getVersion => false
  | .getCapabilities => false
  | .negotiateAlgorithms => false
  | .getDigests => false
  | .getCertificate => false
  | .challenge => false
  | .getMeasurements => false
  | .powerOn => false
  | .thermalShutdown => false
  | .powerCapThrottle => false
  | .ucieModuleStateChange => false
  | .fabricReplay => false
  | .welsaPortStateChange => false
  | .welsaTransferTimeout => false
  | .hbmScrub => false
  | .monitorLevelSample => false
  | .unassignedWord => false
  | .powerRemoval => false

/-- Events that name a core, die, cluster or queue the package has. -/
def Event.wf : Event → Bool
  | .instructionCompletion core _ => core < 1536
  | .instructionFetchFill core _ => core < 1536
  | .coefficientTableLoad core _ => core < 1536
  | .timerPreemption core _ => core < 1536
  | .lmxOverrun core => core < 1536
  | .systemEventEntry core => core < 1536
  | .postedReply _ => true
  | .latticeRefusalTrap core _ => core < 1536
  | .latticeRequestApply _ => true
  | .thresholdReadAtHome core _ => core < 1536
  | .waitWithdrawal _ => true
  | .arenaFreeze _ _ => true
  | .remoteWordAccess core _ => core < 1536
  | .localityMigration core _ _ => core < 1536
  | .publishPageChange core _ _ _ => core < 1536
  | .messageArrival _ => true
  | .antiMessageArrival _ => true
  | .rollback _ _ _ => true
  | .wakeDelivery _ => true
  | .twaitExpiry core _ => core < 1536
  | .inboxOverflowTimeout core => core < 1536
  | .waiterSpillTimeout core => core < 1536
  | .derailleurMigration core _ => core < 1536
  | .migrationIntake core _ => core < 1536
  | .saveCompletion core _ => core < 1536
  | .contextCacheWriteback core => core < 1536
  | .parkedThreadEviction core => core < 1536
  | .driverStop core _ => core < 1536
  | .launchStop _ _ _ => true
  | .sweepStart => true
  | .sweepControlFlit _ => true
  | .sweepResult _ => true
  | .launchAccept q => q < 4096
  | .launchDispatch _ => true
  | .unitPlacement die _ => die < 8
  | .slotFill core => core < 1536
  | .grantRetry core => core < 1536
  | .stealRequest die => die < 8
  | .stealAnswer victim thief => victim < 8 && thief < 8
  | .launchCompletion _ => true
  | .hostMessageWrite _ => true
  | .arbiterSelect cluster => cluster < 192
  | .mxuCommandExecute cluster => cluster < 192
  | .drainSlotArrival _ => true
  | .copyExecute core => core < 1536
  | .streamerRead core _ => core < 1536
  | .copyChannelSlotArrival _ => true
  | .collectiveStart core => core < 1536
  | .wireBlockArrival _ => true
  | .wqtailWrite q _ => q < 4096
  | .wqctlWrite q _ => q < 4096
  | .cqheadWrite q _ => q < 4096
  | .hmheadWrite q _ => q < 4096
  | .rpheadWrite q _ => q < 4096
  | .elheadWrite _ => true
  | .trheadWrite core _ => core < 1536
  | .wringWrite _ _ => true
  | .captureConfigWrite _ _ _ => true
  | .captureClear _ _ => true
  | .registerWrite _ _ _ => true
  | .badRegisterAccess _ _ _ => true
  | .regbuf => true
  | .freebuf => true
  | .regarena => true
  | .freearena => true
  | .retag => true
  | .driverXinv => true
  | .driverCinv => true
  | .stop => true
  | .reclaim => true
  | .restore => true
  | .saveretry => true
  | .corecmd => true
  | .rotkey => true
  | .digest => true
  | .unknownDriverCommand => true
  | .digestPeerMessage _ _ _ _ => true
  | .digestTimeout => true
  | .hostMemRead pa => pa < 2 ^ 52
  | .hostMemWrite pa _ => pa < 2 ^ 52
  | .getVersion => true
  | .getCapabilities => true
  | .negotiateAlgorithms _ _ => true
  | .getDigests => true
  | .getCertificate _ _ _ => true
  | .challenge _ => true
  | .getMeasurements _ => true
  | .powerOn _ => true
  | .thermalShutdown => true
  | .powerCapThrottle _ => true
  | .ucieModuleStateChange _ _ _ => true
  | .fabricReplay _ => true
  | .welsaPortStateChange _ _ _ => true
  | .welsaTransferTimeout _ => true
  | .hbmScrub granule _ => granule < 2 ^ 47
  | .monitorLevelSample _ _ _ => true
  | .unassignedWord _ => true
  | .powerRemoval => true

/-- The opcode-table row of an event. -/
def Event.row : Event → Instr
  | .instructionCompletion _ _ => .instructionCompletion
  | .instructionFetchFill _ _ => .instructionFetchFill
  | .coefficientTableLoad _ _ => .coefficientTableLoad
  | .timerPreemption _ _ => .timerPreemption
  | .lmxOverrun _ => .lmxOverrun
  | .systemEventEntry _ => .systemEventEntry
  | .postedReply _ => .postedReply
  | .latticeRefusalTrap _ _ => .latticeRefusalTrap
  | .latticeRequestApply _ => .latticeRequestApply
  | .thresholdReadAtHome _ _ => .thresholdReadAtHome
  | .waitWithdrawal _ => .waitWithdrawal
  | .arenaFreeze _ _ => .arenaFreeze
  | .remoteWordAccess _ _ => .remoteWordAccess
  | .localityMigration _ _ _ => .localityMigration
  | .publishPageChange _ _ _ _ => .publishPageChange
  | .messageArrival _ => .messageArrival
  | .antiMessageArrival _ => .antiMessageArrival
  | .rollback _ _ _ => .rollback
  | .wakeDelivery _ => .wakeDelivery
  | .twaitExpiry _ _ => .twaitExpiry
  | .inboxOverflowTimeout _ => .inboxOverflowTimeout
  | .waiterSpillTimeout _ => .waiterSpillTimeout
  | .derailleurMigration _ _ => .derailleurMigration
  | .migrationIntake _ _ => .migrationIntake
  | .saveCompletion _ _ => .saveCompletion
  | .contextCacheWriteback _ => .contextCacheWriteback
  | .parkedThreadEviction _ => .parkedThreadEviction
  | .driverStop _ _ => .driverStop
  | .launchStop _ _ _ => .launchStop
  | .sweepStart => .sweepStart
  | .sweepControlFlit _ => .sweepControlFlit
  | .sweepResult _ => .sweepResult
  | .launchAccept _ => .launchAccept
  | .launchDispatch _ => .launchDispatch
  | .unitPlacement _ _ => .unitPlacement
  | .slotFill _ => .slotFill
  | .grantRetry _ => .grantRetry
  | .stealRequest _ => .stealRequest
  | .stealAnswer _ _ => .stealAnswer
  | .launchCompletion _ => .launchCompletion
  | .hostMessageWrite _ => .hostMessageWrite
  | .arbiterSelect _ => .arbiterSelect
  | .mxuCommandExecute _ => .mxuCommandExecute
  | .drainSlotArrival _ => .drainSlotArrival
  | .copyExecute _ => .copyExecute
  | .streamerRead _ _ => .streamerRead
  | .copyChannelSlotArrival _ => .copyChannelSlotArrival
  | .collectiveStart _ => .collectiveStart
  | .wireBlockArrival _ => .wireBlockArrival
  | .wqtailWrite _ _ => .wqtailWrite
  | .wqctlWrite _ _ => .wqctlWrite
  | .cqheadWrite _ _ => .cqheadWrite
  | .hmheadWrite _ _ => .hmheadWrite
  | .rpheadWrite _ _ => .rpheadWrite
  | .elheadWrite _ => .elheadWrite
  | .trheadWrite _ _ => .trheadWrite
  | .wringWrite _ _ => .wringWrite
  | .captureConfigWrite _ _ _ => .captureConfigWrite
  | .captureClear _ _ => .captureClear
  | .registerWrite _ _ _ => .registerWrite
  | .badRegisterAccess _ _ _ => .badRegisterAccess
  | .regbuf => .regbuf
  | .freebuf => .freebuf
  | .regarena => .regarena
  | .freearena => .freearena
  | .retag => .retag
  | .driverXinv => .driverXinv
  | .driverCinv => .driverCinv
  | .stop => .stop
  | .reclaim => .reclaim
  | .restore => .restore
  | .saveretry => .saveretry
  | .corecmd => .corecmd
  | .rotkey => .rotkey
  | .digest => .digest
  | .unknownDriverCommand => .unknownDriverCommand
  | .digestPeerMessage _ _ _ _ => .digestPeerMessage
  | .digestTimeout => .digestTimeout
  | .hostMemRead _ => .hostMemRead
  | .hostMemWrite _ _ => .hostMemWrite
  | .getVersion => .getVersion
  | .getCapabilities => .getCapabilities
  | .negotiateAlgorithms _ _ => .negotiateAlgorithms
  | .getDigests => .getDigests
  | .getCertificate _ _ _ => .getCertificate
  | .challenge _ => .challenge
  | .getMeasurements _ => .getMeasurements
  | .powerOn _ => .powerOn
  | .thermalShutdown => .thermalShutdown
  | .powerCapThrottle _ => .powerCapThrottle
  | .ucieModuleStateChange _ _ _ => .ucieModuleStateChange
  | .fabricReplay _ => .fabricReplay
  | .welsaPortStateChange _ _ _ => .welsaPortStateChange
  | .welsaTransferTimeout _ => .welsaTransferTimeout
  | .hbmScrub _ _ => .hbmScrub
  | .monitorLevelSample _ _ _ => .monitorLevelSample
  | .unassignedWord _ => .unassignedWord
  | .powerRemoval => .powerRemoval

end Sys2Proof
end

