-- ==== Sys2Proof/Decode.lean ====
section
/-! DEFINITION. The decoder, from the encoding tables of chapters 6 to 10 (Tables 6.4 to 6.22), and after it the encoder.
The decoder is total on any word: a word the opcode map leaves unassigned (R150) decodes to no instruction. A word is a natural
number, its fields are quotients and remainders. -/

namespace Sys2Proof

/-- The code of a `Cond` (Table 6.2). -/
def Cond.code : Cond → Nat
  | .eq => 0
  | .ne => 1
  | .lt => 2
  | .ge => 3
  | .ltn => 4
  | .gen => 5

/-- The `Cond` of a code, if assigned. -/
def Cond.ofCode : Nat → Option Cond
  | 0 => some .eq
  | 1 => some .ne
  | 2 => some .lt
  | 3 => some .ge
  | 4 => some .ltn
  | 5 => some .gen
  | _ => none

/-- The code of a `VCond` (R244). -/
def VCond.code : VCond → Nat
  | .eq => 0
  | .ne => 1
  | .lt => 2
  | .ge => 3
  | .ltn => 4
  | .gen => 5
  | .un => 6

/-- The `VCond` of a code, if assigned. -/
def VCond.ofCode : Nat → Option VCond
  | 0 => some .eq
  | 1 => some .ne
  | 2 => some .lt
  | 3 => some .ge
  | 4 => some .ltn
  | 5 => some .gen
  | 6 => some .un
  | _ => none

/-- The code of a `PLogOp` (R175). -/
def PLogOp.code : PLogOp → Nat
  | .and => 0
  | .or => 1
  | .xor => 2
  | .andn => 3
  | .orn => 4
  | .xnor => 5

/-- The `PLogOp` of a code, if assigned. -/
def PLogOp.ofCode : Nat → Option PLogOp
  | 0 => some .and
  | 1 => some .or
  | 2 => some .xor
  | 3 => some .andn
  | 4 => some .orn
  | 5 => some .xnor
  | _ => none

/-- The code of a `MLogOp` (R245). -/
def MLogOp.code : MLogOp → Nat
  | .and => 0
  | .or => 1
  | .xor => 2
  | .andn => 3

/-- The `MLogOp` of a code, if assigned. -/
def MLogOp.ofCode : Nat → Option MLogOp
  | 0 => some .and
  | 1 => some .or
  | 2 => some .xor
  | 3 => some .andn
  | _ => none

/-- The code of a `Sz` (Table 6.2: codes 0 to 3). -/
def Sz.code : Sz → Nat
  | .b => 0
  | .h => 1
  | .w => 2
  | .d => 3

/-- The `Sz` of a code, if assigned. -/
def Sz.ofCode : Nat → Option Sz
  | 0 => some .b
  | 1 => some .h
  | 2 => some .w
  | 3 => some .d
  | _ => none

/-- The code of a `SzN` (Table 6.2: codes 4 to 6, less 4). -/
def SzN.code : SzN → Nat
  | .b => 0
  | .h => 1
  | .w => 2

/-- The `SzN` of a code, if assigned. -/
def SzN.ofCode : Nat → Option SzN
  | 0 => some .b
  | 1 => some .h
  | 2 => some .w
  | _ => none

/-- The code of a `EType` (Table 9.1). -/
def EType.code : EType → Nat
  | .f64 => 0
  | .f32 => 1
  | .f16 => 2
  | .bf16 => 3
  | .i8 => 4
  | .i16 => 5
  | .i32 => 6
  | .i64 => 7

/-- The `EType` of a code, if assigned. -/
def EType.ofCode : Nat → Option EType
  | 0 => some .f64
  | 1 => some .f32
  | 2 => some .f16
  | 3 => some .bf16
  | 4 => some .i8
  | 5 => some .i16
  | 6 => some .i32
  | 7 => some .i64
  | _ => none

/-- The code of a `EType2` (Table 9.1). -/
def EType2.code : EType2 → Nat
  | .f64 => 0
  | .f32 => 1

/-- The `EType2` of a code, if assigned. -/
def EType2.ofCode : Nat → Option EType2
  | 0 => some .f64
  | 1 => some .f32
  | _ => none

/-- The code of a `Rm` (Table 6.2). -/
def Rm.code : Rm → Nat
  | .rne => 0
  | .rtz => 1
  | .rup => 2
  | .rdn => 3

/-- The `Rm` of a code, if assigned. -/
def Rm.ofCode : Nat → Option Rm
  | 0 => some .rne
  | 1 => some .rtz
  | 2 => some .rup
  | 3 => some .rdn
  | _ => none

/-- The code of a `Scope` (Table 6.2). -/
def Scope.code : Scope → Nat
  | .thr => 0
  | .core => 1
  | .clu => 2
  | .die => 3
  | .pkg => 4
  | .sys => 5

/-- The `Scope` of a code, if assigned. -/
def Scope.ofCode : Nat → Option Scope
  | 0 => some .thr
  | 1 => some .core
  | 2 => some .clu
  | 3 => some .die
  | 4 => some .pkg
  | 5 => some .sys
  | _ => none

/-- The code of a `EsumT` (Table 8.1). -/
def EsumT.code : EsumT → Nat
  | .f32 => 0
  | .f64 => 1
  | .i64 => 2

/-- The `EsumT` of a code, if assigned. -/
def EsumT.ofCode : Nat → Option EsumT
  | 0 => some .f32
  | 1 => some .f64
  | 2 => some .i64
  | _ => none

/-- The code of a `SzA` (R188). -/
def SzA.code : SzA → Nat
  | .w => 2
  | .d => 3

/-- The `SzA` of a code, if assigned. -/
def SzA.ofCode : Nat → Option SzA
  | 2 => some .w
  | 3 => some .d
  | _ => none

/-- The code of a `SzX` (R184). -/
def SzX.code : SzX → Nat
  | .s .b => 0
  | .s .h => 1
  | .s .w => 2
  | .s .d => 3
  | .n .b => 4
  | .n .h => 5
  | .n .w => 6

/-- The `SzX` of a code, if assigned. -/
def SzX.ofCode : Nat → Option SzX
  | 0 => some (.s .b)
  | 1 => some (.s .h)
  | 2 => some (.s .w)
  | 3 => some (.s .d)
  | 4 => some (.n .b)
  | 5 => some (.n .h)
  | 6 => some (.n .w)
  | _ => none

/-- The code of a `TrigK` (Table 6.18). -/
def TrigK.code : TrigK → Nat
  | .val => 0
  | .mask => 1
  | .frozen => 3

/-- The `TrigK` of a code, if assigned. -/
def TrigK.ofCode : Nat → Option TrigK
  | 0 => some .val
  | 1 => some .mask
  | 3 => some .frozen
  | _ => none

/-- A `Fin` operand in `n` values from bit `lo` up. -/
def fin (w lo n : Nat) [NeZero n] : Fin n := Fin.ofNat n (w / 2 ^ lo)

/-- A bit-vector operand of `n` bits from bit `lo` up. -/
def imm (w lo n : Nat) : BitVec n := BitVec.ofNat n (w / 2 ^ lo)

/-- The field of `n` bits from bit `lo` up. -/
def fld (w lo n : Nat) : Nat := w / 2 ^ lo % 2 ^ n

/-- Major 0x01. -/
def decode01 (w : Nat) : Option Instr :=
  if fld w 0 10 = 0 then some (.add (fin w 20 32) (fin w 15 32) (fin w 10 32))
  else if fld w 0 10 = 1 then some (.sub (fin w 20 32) (fin w 15 32) (fin w 10 32))
  else if fld w 0 10 = 2 then some (.mul (fin w 20 32) (fin w 15 32) (fin w 10 32))
  else if fld w 0 10 = 3 then some (.mulh (fin w 20 32) (fin w 15 32) (fin w 10 32))
  else if fld w 0 10 = 4 then some (.mulhn (fin w 20 32) (fin w 15 32) (fin w 10 32))
  else if fld w 0 10 = 5 then some (.div (fin w 20 32) (fin w 15 32) (fin w 10 32))
  else if fld w 0 10 = 6 then some (.divn (fin w 20 32) (fin w 15 32) (fin w 10 32))
  else if fld w 0 10 = 7 then some (.rem (fin w 20 32) (fin w 15 32) (fin w 10 32))
  else if fld w 0 10 = 8 then some (.remn (fin w 20 32) (fin w 15 32) (fin w 10 32))
  else if fld w 0 10 = 9 then some (.and (fin w 20 32) (fin w 15 32) (fin w 10 32))
  else if fld w 0 10 = 10 then some (.or (fin w 20 32) (fin w 15 32) (fin w 10 32))
  else if fld w 0 10 = 11 then some (.xor (fin w 20 32) (fin w 15 32) (fin w 10 32))
  else if fld w 0 10 = 12 then some (.andn (fin w 20 32) (fin w 15 32) (fin w 10 32))
  else if fld w 0 10 = 13 then some (.orn (fin w 20 32) (fin w 15 32) (fin w 10 32))
  else if fld w 0 10 = 14 then some (.sll (fin w 20 32) (fin w 15 32) (fin w 10 32))
  else if fld w 0 10 = 15 then some (.srl (fin w 20 32) (fin w 15 32) (fin w 10 32))
  else if fld w 0 10 = 16 then some (.sra (fin w 20 32) (fin w 15 32) (fin w 10 32))
  else if fld w 0 10 = 17 then some (.ror (fin w 20 32) (fin w 15 32) (fin w 10 32))
  else if fld w 0 10 = 18 then some (.min (fin w 20 32) (fin w 15 32) (fin w 10 32))
  else if fld w 0 10 = 19 then some (.max (fin w 20 32) (fin w 15 32) (fin w 10 32))
  else if fld w 0 10 = 20 then some (.minn (fin w 20 32) (fin w 15 32) (fin w 10 32))
  else if fld w 0 10 = 21 then some (.maxn (fin w 20 32) (fin w 15 32) (fin w 10 32))
  else if fld w 0 10 = 22 then some (.slt (fin w 20 32) (fin w 15 32) (fin w 10 32))
  else if fld w 0 10 = 23 then some (.sltn (fin w 20 32) (fin w 15 32) (fin w 10 32))
  else none

/-- Major 0x02. -/
def decode02 (w : Nat) : Option Instr :=
  if fld w 0 10 = 0 then some (.addW (fin w 20 32) (fin w 15 32) (fin w 10 32))
  else if fld w 0 10 = 1 then some (.subW (fin w 20 32) (fin w 15 32) (fin w 10 32))
  else if fld w 0 10 = 2 then some (.mulW (fin w 20 32) (fin w 15 32) (fin w 10 32))
  else if fld w 0 10 = 3 then some (.mulhW (fin w 20 32) (fin w 15 32) (fin w 10 32))
  else if fld w 0 10 = 4 then some (.mulhnW (fin w 20 32) (fin w 15 32) (fin w 10 32))
  else if fld w 0 10 = 5 then some (.divW (fin w 20 32) (fin w 15 32) (fin w 10 32))
  else if fld w 0 10 = 6 then some (.divnW (fin w 20 32) (fin w 15 32) (fin w 10 32))
  else if fld w 0 10 = 7 then some (.remW (fin w 20 32) (fin w 15 32) (fin w 10 32))
  else if fld w 0 10 = 8 then some (.remnW (fin w 20 32) (fin w 15 32) (fin w 10 32))
  else if fld w 0 10 = 14 then some (.sllW (fin w 20 32) (fin w 15 32) (fin w 10 32))
  else if fld w 0 10 = 15 then some (.srlW (fin w 20 32) (fin w 15 32) (fin w 10 32))
  else if fld w 0 10 = 16 then some (.sraW (fin w 20 32) (fin w 15 32) (fin w 10 32))
  else if fld w 0 10 = 17 then some (.rorW (fin w 20 32) (fin w 15 32) (fin w 10 32))
  else if fld w 0 10 = 18 then some (.minW (fin w 20 32) (fin w 15 32) (fin w 10 32))
  else if fld w 0 10 = 19 then some (.maxW (fin w 20 32) (fin w 15 32) (fin w 10 32))
  else if fld w 0 10 = 20 then some (.minnW (fin w 20 32) (fin w 15 32) (fin w 10 32))
  else if fld w 0 10 = 21 then some (.maxnW (fin w 20 32) (fin w 15 32) (fin w 10 32))
  else if fld w 0 10 = 22 then some (.sltW (fin w 20 32) (fin w 15 32) (fin w 10 32))
  else if fld w 0 10 = 23 then some (.sltnW (fin w 20 32) (fin w 15 32) (fin w 10 32))
  else none

/-- Major 0x03. -/
def decode03 (w : Nat) : Option Instr :=
  some (.addi (fin w 20 32) (fin w 15 32) (imm w 0 15))

/-- Major 0x04. -/
def decode04 (w : Nat) : Option Instr :=
  some (.andi (fin w 20 32) (fin w 15 32) (imm w 0 15))

/-- Major 0x05. -/
def decode05 (w : Nat) : Option Instr :=
  some (.ori (fin w 20 32) (fin w 15 32) (imm w 0 15))

/-- Major 0x06. -/
def decode06 (w : Nat) : Option Instr :=
  some (.xori (fin w 20 32) (fin w 15 32) (imm w 0 15))

/-- Major 0x07. -/
def decode07 (w : Nat) : Option Instr :=
  some (.slti (fin w 20 32) (fin w 15 32) (imm w 0 15))

/-- Major 0x08. -/
def decode08 (w : Nat) : Option Instr :=
  some (.sltni (fin w 20 32) (fin w 15 32) (imm w 0 15))

/-- Major 0x09. -/
def decode09 (w : Nat) : Option Instr :=
  if fld w 6 6 = 0 ∧ fld w 12 3 = 0 then some (.slli (fin w 20 32) (fin w 15 32) (fin w 0 64))
  else if fld w 6 6 = 0 ∧ fld w 12 3 = 1 then some (.srli (fin w 20 32) (fin w 15 32) (fin w 0 64))
  else if fld w 6 6 = 0 ∧ fld w 12 3 = 2 then some (.srai (fin w 20 32) (fin w 15 32) (fin w 0 64))
  else if fld w 6 6 = 0 ∧ fld w 12 3 = 3 then some (.rori (fin w 20 32) (fin w 15 32) (fin w 0 64))
  else if fld w 5 1 = 0 ∧ fld w 6 6 = 0 ∧ fld w 12 3 = 4 then some (.slliW (fin w 20 32) (fin w 15 32) (fin w 0 32))
  else if fld w 5 1 = 0 ∧ fld w 6 6 = 0 ∧ fld w 12 3 = 5 then some (.srliW (fin w 20 32) (fin w 15 32) (fin w 0 32))
  else if fld w 5 1 = 0 ∧ fld w 6 6 = 0 ∧ fld w 12 3 = 6 then some (.sraiW (fin w 20 32) (fin w 15 32) (fin w 0 32))
  else if fld w 5 1 = 0 ∧ fld w 6 6 = 0 ∧ fld w 12 3 = 7 then some (.roriW (fin w 20 32) (fin w 15 32) (fin w 0 32))
  else none

/-- Major 0x0A. -/
def decode0A (w : Nat) : Option Instr :=
  if fld w 24 1 = 0 then Cond.ofCode (fld w 12 3) >>= fun c => some (.pcmpi (fin w 20 16) (fin w 15 32) c (imm w 0 12))
  else none

/-- Major 0x0B. -/
def decode0B (w : Nat) : Option Instr :=
  if fld w 3 7 = 0 ∧ fld w 24 1 = 0 then Cond.ofCode (fld w 0 3) >>= fun c => some (.pcmp (fin w 20 16) (fin w 15 32) (fin w 10 32) c)
  else if fld w 3 7 = 2 ∧ fld w 14 1 = 0 ∧ fld w 19 1 = 0 ∧ fld w 24 1 = 0 then PLogOp.ofCode (fld w 0 3) >>= fun o => some (.plog (fin w 20 16) (fin w 15 16) (fin w 10 16) o)
  else if fld w 0 10 = 24 ∧ fld w 10 5 = 0 ∧ fld w 15 5 = 0 then some (.ptog (fin w 20 32))
  else if fld w 0 10 = 25 ∧ fld w 10 5 = 0 ∧ fld w 20 5 = 0 then some (.gtop (fin w 15 32))
  else if fld w 4 6 = 2 then some (.sel (fin w 20 32) (fin w 15 32) (fin w 10 32) (fin w 0 16))
  else if fld w 0 10 = 48 ∧ fld w 10 5 = 0 then some (.jalr (fin w 20 32) (fin w 15 32))
  else none

/-- Major 0x0D. -/
def decode0D (w : Nat) : Option Instr :=
  some (.lui (fin w 20 32) (imm w 0 20))

/-- Major 0x0E. -/
def decode0E (w : Nat) : Option Instr :=
  some (.auipc (fin w 20 32) (imm w 0 20))

/-- Major 0x0F. -/
def decode0F (w : Nat) : Option Instr :=
  if fld w 0 10 = 0 ∧ fld w 10 5 = 0 then some (.clz (fin w 20 32) (fin w 15 32))
  else if fld w 0 10 = 1 ∧ fld w 10 5 = 0 then some (.ctz (fin w 20 32) (fin w 15 32))
  else if fld w 0 10 = 2 ∧ fld w 10 5 = 0 then some (.popc (fin w 20 32) (fin w 15 32))
  else if fld w 0 10 = 3 ∧ fld w 10 5 = 0 then some (.brev (fin w 20 32) (fin w 15 32))
  else if fld w 0 10 = 4 ∧ fld w 10 5 = 0 then some (.bswap (fin w 20 32) (fin w 15 32))
  else if fld w 0 10 = 8 then some (.bfx (fin w 20 32) (fin w 15 32) (fin w 10 32))
  else if fld w 0 10 = 9 then some (.bfxn (fin w 20 32) (fin w 15 32) (fin w 10 32))
  else if fld w 0 10 = 10 then some (.bfi (fin w 20 32) (fin w 15 32) (fin w 10 32))
  else if fld w 0 10 = 16 ∧ fld w 20 5 = 0 then some (.hltw (fin w 15 32) (fin w 10 32))
  else if fld w 3 7 = 8 then some (.hpack (fin w 20 32) (fin w 15 32) (fin w 10 32) (fin w 0 8))
  else if fld w 3 7 = 9 then some (.hparse (fin w 20 32) (fin w 15 32) (fin w 10 32) (fin w 0 8))
  else none

/-- Major 0x10. -/
def decode10 (w : Nat) : Option Instr :=
  if fld w 14 1 = 0 then Sz.ofCode (fld w 12 2) >>= fun s => some (.ld (fin w 20 32) (fin w 15 32) s (imm w 0 12))
  else if fld w 14 1 = 1 then SzN.ofCode (fld w 12 2) >>= fun s => some (.ldn (fin w 20 32) (fin w 15 32) s (imm w 0 12))
  else none

/-- Major 0x11. -/
def decode11 (w : Nat) : Option Instr :=
  if fld w 14 1 = 0 then Sz.ofCode (fld w 12 2) >>= fun s => some (.st (fin w 20 32) (fin w 15 32) s (imm w 0 12))
  else none

/-- Major 0x12. -/
def decode12 (w : Nat) : Option Instr :=
  if fld w 3 7 = 0 then SzX.ofCode (fld w 0 3) >>= fun s => some (.ldx (fin w 20 32) (fin w 15 32) (fin w 10 32) s)
  else if fld w 2 8 = 2 then Sz.ofCode (fld w 0 2) >>= fun s => some (.stx (fin w 20 32) (fin w 15 32) (fin w 10 32) s)
  else if fld w 0 10 = 16 ∧ fld w 20 5 = 0 then some (.publish (fin w 15 32) (fin w 10 32))
  else none

/-- Major 0x13. -/
def decode13 (w : Nat) : Option Instr :=
  if fld w 1 9 = 1 then SzA.ofCode (fld w 0 1 + 2) >>= fun s => some (.amoadd (fin w 20 32) (fin w 15 32) (fin w 10 32) s)
  else if fld w 1 9 = 5 then SzA.ofCode (fld w 0 1 + 2) >>= fun s => some (.amoand (fin w 20 32) (fin w 15 32) (fin w 10 32) s)
  else if fld w 1 9 = 9 then SzA.ofCode (fld w 0 1 + 2) >>= fun s => some (.amoor (fin w 20 32) (fin w 15 32) (fin w 10 32) s)
  else if fld w 1 9 = 13 then SzA.ofCode (fld w 0 1 + 2) >>= fun s => some (.amoxor (fin w 20 32) (fin w 15 32) (fin w 10 32) s)
  else if fld w 1 9 = 17 then SzA.ofCode (fld w 0 1 + 2) >>= fun s => some (.amomin (fin w 20 32) (fin w 15 32) (fin w 10 32) s)
  else if fld w 1 9 = 21 then SzA.ofCode (fld w 0 1 + 2) >>= fun s => some (.amomax (fin w 20 32) (fin w 15 32) (fin w 10 32) s)
  else if fld w 1 9 = 25 then SzA.ofCode (fld w 0 1 + 2) >>= fun s => some (.amoswp (fin w 20 32) (fin w 15 32) (fin w 10 32) s)
  else if fld w 1 9 = 29 then SzA.ofCode (fld w 0 1 + 2) >>= fun s => some (.amocas (fin w 20 32) (fin w 15 32) (fin w 10 32) s)
  else none

/-- Major 0x14. -/
def decode14 (w : Nat) : Option Instr :=
  if fld w 9 1 = 0 ∧ fld w 10 5 = 0 ∧ fld w 15 5 = 0 ∧ fld w 20 5 = 0 then Scope.ofCode (fld w 0 3) >>= fun s => some (.fence (imm w 3 6) s)
  else none

/-- Major 0x18. -/
def decode18 (w : Nat) : Option Instr :=
  some (.beq (fin w 20 32) (fin w 15 32) (imm w 0 15))

/-- Major 0x19. -/
def decode19 (w : Nat) : Option Instr :=
  some (.bne (fin w 20 32) (fin w 15 32) (imm w 0 15))

/-- Major 0x1A. -/
def decode1A (w : Nat) : Option Instr :=
  some (.blt (fin w 20 32) (fin w 15 32) (imm w 0 15))

/-- Major 0x1B. -/
def decode1B (w : Nat) : Option Instr :=
  some (.bge (fin w 20 32) (fin w 15 32) (imm w 0 15))

/-- Major 0x1C. -/
def decode1C (w : Nat) : Option Instr :=
  some (.bltn (fin w 20 32) (fin w 15 32) (imm w 0 15))

/-- Major 0x1D. -/
def decode1D (w : Nat) : Option Instr :=
  some (.bgen (fin w 20 32) (fin w 15 32) (imm w 0 15))

/-- Major 0x1E. -/
def decode1E (w : Nat) : Option Instr :=
  if fld w 15 5 = 0 ∧ fld w 24 1 = 0 then some (.bp (fin w 20 16) (imm w 0 15))
  else if fld w 15 5 = 0 ∧ fld w 24 1 = 1 then some (.bnp (fin w 20 16) (imm w 0 15))
  else none

/-- Major 0x1F. -/
def decode1F (w : Nat) : Option Instr :=
  some (.jal (fin w 20 32) (imm w 0 20))

/-- Major 0x20. -/
def decode20 (w : Nat) : Option Instr :=
  if fld w 0 6 = 0 ∧ fld w 6 4 = 0 ∧ fld w 20 5 = 0 then some (.ljoin (fin w 15 32) (fin w 10 32))
  else if fld w 0 6 = 0 ∧ fld w 6 4 = 1 ∧ fld w 20 5 = 0 then some (.ljoinR (fin w 15 32) (fin w 10 32))
  else if fld w 0 6 = 1 ∧ fld w 6 4 = 0 ∧ fld w 20 5 = 0 then some (.lfill (fin w 15 32) (fin w 10 32))
  else if fld w 0 6 = 2 ∧ fld w 6 4 = 0 ∧ fld w 14 1 = 0 ∧ fld w 20 5 = 0 then some (.lfillv (fin w 15 32) (fin w 10 16))
  else if fld w 0 6 = 3 ∧ fld w 9 1 = 0 ∧ fld w 20 5 = 0 then some (.lfillm (fin w 15 32) (fin w 10 32) (fin w 6 8))
  else if fld w 0 6 = 4 ∧ fld w 8 2 = 0 ∧ fld w 20 5 = 0 then EsumT.ofCode (fld w 6 2) >>= fun t => some (.lesum (fin w 15 32) (fin w 10 32) t)
  else if fld w 0 6 = 8 then TrigK.ofCode (fld w 6 2) >>= fun k => some (.lwait (fin w 20 32) (fin w 15 32) (fin w 10 32) (fin w 8 4) k)
  else if fld w 0 6 = 9 ∧ fld w 6 4 = 2 then some (.lwaitf (fin w 20 32) (fin w 15 32) (fin w 10 32))
  else if fld w 0 6 = 10 then TrigK.ofCode (fld w 6 2) >>= fun k => some (.larm (fin w 20 32) (fin w 15 32) (fin w 10 32) (fin w 8 4) k)
  else if fld w 0 6 = 16 ∧ fld w 6 4 = 0 ∧ fld w 10 5 = 0 then some (.lfrz (fin w 20 32) (fin w 15 32))
  else if fld w 0 6 = 17 ∧ fld w 6 4 = 0 ∧ fld w 10 5 = 0 ∧ fld w 20 5 = 0 then some (.lfrza (fin w 15 32))
  else if fld w 0 6 = 18 ∧ fld w 6 4 = 0 ∧ fld w 10 5 = 0 then some (.lxrd (fin w 20 32) (fin w 15 32))
  else if fld w 0 6 = 19 ∧ fld w 6 4 = 0 ∧ fld w 10 5 = 0 ∧ fld w 24 1 = 0 then some (.lxrdv (fin w 20 16) (fin w 15 32))
  else if fld w 0 6 = 20 ∧ fld w 6 4 = 0 ∧ fld w 10 5 = 0 then some (.lstat (fin w 20 32) (fin w 15 32))
  else none

/-- Major 0x21. -/
def decode21 (w : Nat) : Option Instr :=
  if fld w 0 10 = 0 then some (.send (fin w 20 32) (fin w 15 32) (fin w 10 32))
  else if fld w 0 10 = 1 then some (.sendF (fin w 20 32) (fin w 15 32) (fin w 10 32))
  else if fld w 0 10 = 2 then some (.sendH (fin w 20 32) (fin w 15 32) (fin w 10 32))
  else if fld w 3 7 = 1 then some (.sendl (fin w 20 32) (fin w 15 32) (fin w 10 32) (fin w 0 8))
  else if fld w 3 7 = 2 then some (.sendlF (fin w 20 32) (fin w 15 32) (fin w 10 32) (fin w 0 8))
  else if fld w 0 10 = 32 ∧ fld w 10 5 = 0 then some (.recv (fin w 20 32) (fin w 15 32))
  else if fld w 0 10 = 33 ∧ fld w 10 5 = 0 then some (.recvp (fin w 20 32) (fin w 15 32))
  else if fld w 0 10 = 34 ∧ fld w 10 5 = 0 then some (.recvN (fin w 20 32) (fin w 15 32))
  else if fld w 0 10 = 35 ∧ fld w 10 5 = 0 then some (.recvpN (fin w 20 32) (fin w 15 32))
  else if fld w 0 10 = 48 ∧ fld w 10 5 = 0 ∧ fld w 20 5 = 0 then some (.vtset (fin w 15 32))
  else if fld w 0 10 = 49 ∧ fld w 10 5 = 0 ∧ fld w 15 5 = 0 then some (.gvtrd (fin w 20 32))
  else if fld w 0 10 = 50 ∧ fld w 10 5 = 0 ∧ fld w 15 5 = 0 ∧ fld w 20 5 = 0 then some .cmtw
  else none

/-- Major 0x22. -/
def decode22 (w : Nat) : Option Instr :=
  if fld w 0 10 = 0 then some (.spawnFifo (fin w 20 32) (fin w 15 32) (fin w 10 32))
  else if fld w 0 10 = 1 then some (.spawnOrd (fin w 20 32) (fin w 15 32) (fin w 10 32))
  else if fld w 0 10 = 2 then some (.spawnOpt (fin w 20 32) (fin w 15 32) (fin w 10 32))
  else if fld w 0 10 = 4 then some (.spawnL (fin w 20 32) (fin w 15 32) (fin w 10 32))
  else if fld w 0 10 = 5 then some (.spawnC (fin w 20 32) (fin w 15 32) (fin w 10 32))
  else if fld w 0 10 = 16 ∧ fld w 10 5 = 0 ∧ fld w 15 5 = 0 ∧ fld w 20 5 = 0 then some .exit
  else if fld w 0 10 = 17 ∧ fld w 10 5 = 0 ∧ fld w 15 5 = 0 ∧ fld w 20 5 = 0 then some .yield
  else if fld w 0 10 = 18 ∧ fld w 15 5 = 0 ∧ fld w 20 5 = 0 then if h : fld w 10 5 < 6 then let l : Fin 6 := ⟨fld w 10 5, h⟩; some (.gbar l) else none
  else if fld w 0 10 = 19 ∧ fld w 15 5 = 0 then if h : fld w 10 5 < 6 then let n : Fin 6 := ⟨fld w 10 5, h⟩; some (.widf (fin w 20 32) n) else none
  else if fld w 0 10 = 20 ∧ fld w 10 5 = 0 then some (.migr (fin w 20 32) (fin w 15 32))
  else if fld w 0 10 = 21 ∧ fld w 11 4 = 0 ∧ fld w 15 5 = 0 ∧ fld w 20 5 = 0 then some (.mpin (fin w 10 2))
  else if fld w 0 10 = 22 ∧ fld w 10 5 = 0 ∧ fld w 20 5 = 0 then some (.twait (fin w 15 32))
  else none

/-- Major 0x30. -/
def decode30 (w : Nat) : Option Instr :=
  if fld w 12 3 = 0 ∧ fld w 15 5 = 0 then some (.csrr (fin w 20 32) (imm w 0 12))
  else if fld w 12 3 = 1 then some (.csrw (fin w 20 32) (fin w 15 32) (imm w 0 12))
  else if fld w 12 3 = 2 then some (.csrs (fin w 20 32) (fin w 15 32) (imm w 0 12))
  else if fld w 12 3 = 3 then some (.csrc (fin w 20 32) (fin w 15 32) (imm w 0 12))
  else none

/-- Major 0x31. -/
def decode31 (w : Nat) : Option Instr :=
  if fld w 0 10 = 0 ∧ fld w 10 5 = 0 ∧ fld w 15 5 = 0 ∧ fld w 20 5 = 0 then some .eret
  else if fld w 0 10 = 1 ∧ fld w 10 5 = 0 ∧ fld w 15 5 = 0 ∧ fld w 20 5 = 0 then some .brk
  else if fld w 0 10 = 2 ∧ fld w 10 5 = 0 ∧ fld w 15 5 = 0 ∧ fld w 20 5 = 0 then some .wfi
  else if fld w 0 10 = 3 ∧ fld w 10 5 = 0 then some (.ctxsv (fin w 20 32) (fin w 15 32))
  else if fld w 0 10 = 4 ∧ fld w 10 5 = 0 then some (.ctxld (fin w 20 32) (fin w 15 32))
  else if fld w 0 10 = 5 then some (.slotctl (fin w 20 32) (fin w 15 32) (fin w 10 32))
  else if fld w 0 10 = 6 ∧ fld w 20 5 = 0 then some (.xinv (fin w 15 32) (fin w 10 32))
  else if fld w 0 10 = 7 ∧ fld w 20 5 = 0 then some (.cinv (fin w 15 32) (fin w 10 32))
  else if fld w 8 2 = 1 ∧ fld w 10 5 = 0 ∧ fld w 15 5 = 0 ∧ fld w 20 5 = 0 then some (.trap (fin w 0 256))
  else none

/-- Major 0x40. -/
def decode40 (w : Nat) : Option Instr :=
  if fld w 0 5 = 0 then EType.ofCode (fld w 7 3) >>= fun e => Rm.ofCode (fld w 5 2) >>= fun r => some (.vadd (fin w 21 16) (fin w 17 16) (fin w 13 16) (fin w 10 8) e r)
  else if fld w 0 5 = 1 then EType.ofCode (fld w 7 3) >>= fun e => Rm.ofCode (fld w 5 2) >>= fun r => some (.vsub (fin w 21 16) (fin w 17 16) (fin w 13 16) (fin w 10 8) e r)
  else if fld w 0 5 = 2 then EType.ofCode (fld w 7 3) >>= fun e => Rm.ofCode (fld w 5 2) >>= fun r => some (.vmul (fin w 21 16) (fin w 17 16) (fin w 13 16) (fin w 10 8) e r)
  else if fld w 0 5 = 3 then EType.ofCode (fld w 7 3) >>= fun e => Rm.ofCode (fld w 5 2) >>= fun r => some (.vmin (fin w 21 16) (fin w 17 16) (fin w 13 16) (fin w 10 8) e r)
  else if fld w 0 5 = 4 then EType.ofCode (fld w 7 3) >>= fun e => Rm.ofCode (fld w 5 2) >>= fun r => some (.vmax (fin w 21 16) (fin w 17 16) (fin w 13 16) (fin w 10 8) e r)
  else if fld w 0 7 = 5 then EType.ofCode (fld w 7 3) >>= fun e => some (.vminN (fin w 21 16) (fin w 17 16) (fin w 13 16) (fin w 10 8) e)
  else if fld w 0 7 = 6 then EType.ofCode (fld w 7 3) >>= fun e => some (.vmaxN (fin w 21 16) (fin w 17 16) (fin w 13 16) (fin w 10 8) e)
  else if fld w 0 5 = 7 ∧ fld w 13 4 = 0 then EType.ofCode (fld w 7 3) >>= fun e => Rm.ofCode (fld w 5 2) >>= fun r => some (.vabs (fin w 21 16) (fin w 17 16) (fin w 10 8) e r)
  else if fld w 0 5 = 8 ∧ fld w 13 4 = 0 then EType.ofCode (fld w 7 3) >>= fun e => Rm.ofCode (fld w 5 2) >>= fun r => some (.vneg (fin w 21 16) (fin w 17 16) (fin w 10 8) e r)
  else if fld w 0 7 = 9 then EType.ofCode (fld w 7 3) >>= fun e => some (.vand (fin w 21 16) (fin w 17 16) (fin w 13 16) (fin w 10 8) e)
  else if fld w 0 7 = 10 then EType.ofCode (fld w 7 3) >>= fun e => some (.vor (fin w 21 16) (fin w 17 16) (fin w 13 16) (fin w 10 8) e)
  else if fld w 0 7 = 11 then EType.ofCode (fld w 7 3) >>= fun e => some (.vxor (fin w 21 16) (fin w 17 16) (fin w 13 16) (fin w 10 8) e)
  else if fld w 0 7 = 12 then EType.ofCode (fld w 7 3) >>= fun e => some (.vsll (fin w 21 16) (fin w 17 16) (fin w 13 16) (fin w 10 8) e)
  else if fld w 0 7 = 13 then EType.ofCode (fld w 7 3) >>= fun e => some (.vsrl (fin w 21 16) (fin w 17 16) (fin w 13 16) (fin w 10 8) e)
  else if fld w 0 7 = 14 then EType.ofCode (fld w 7 3) >>= fun e => some (.vsra (fin w 21 16) (fin w 17 16) (fin w 13 16) (fin w 10 8) e)
  else if fld w 0 5 = 16 then EType.ofCode (fld w 7 3) >>= fun e => Rm.ofCode (fld w 5 2) >>= fun r => some (.vfma (fin w 21 16) (fin w 17 16) (fin w 13 16) (fin w 10 8) e r)
  else if fld w 0 5 = 17 then EType.ofCode (fld w 7 3) >>= fun e => Rm.ofCode (fld w 5 2) >>= fun r => some (.vfms (fin w 21 16) (fin w 17 16) (fin w 13 16) (fin w 10 8) e r)
  else none

/-- Major 0x41. -/
def decode41 (w : Nat) : Option Instr :=
  if fld w 3 4 = 0 ∧ fld w 24 1 = 0 then EType.ofCode (fld w 7 3) >>= fun e => VCond.ofCode (fld w 0 3) >>= fun c => some (.vcmp (fin w 21 8) (fin w 17 16) (fin w 13 16) (fin w 10 8) e c)
  else if fld w 2 5 = 2 ∧ fld w 7 3 = 0 ∧ fld w 10 3 = 0 ∧ fld w 16 1 = 0 ∧ fld w 20 1 = 0 ∧ fld w 24 1 = 0 then MLogOp.ofCode (fld w 0 2) >>= fun o => some (.vmlog (fin w 21 8) (fin w 17 8) (fin w 13 8) o)
  else if fld w 0 7 = 16 then EType.ofCode (fld w 7 3) >>= fun e => some (.vsel (fin w 21 16) (fin w 17 16) (fin w 13 16) (fin w 10 8) e)
  else if fld w 0 7 = 17 then EType.ofCode (fld w 7 3) >>= fun e => some (.vcompress (fin w 21 16) (fin w 17 16) (fin w 13 16) (fin w 10 8) e)
  else if fld w 0 7 = 18 then EType.ofCode (fld w 7 3) >>= fun e => some (.vexpand (fin w 21 16) (fin w 17 16) (fin w 13 16) (fin w 10 8) e)
  else if fld w 0 7 = 19 ∧ fld w 7 3 = 0 ∧ fld w 10 3 = 0 ∧ fld w 13 4 = 0 ∧ fld w 20 1 = 0 then some (.vpopm (fin w 21 16) (fin w 17 8))
  else none

/-- Major 0x42. -/
def decode42 (w : Nat) : Option Instr :=
  if fld w 0 7 = 0 then EType.ofCode (fld w 7 3) >>= fun e => some (.vperm (fin w 21 16) (fin w 17 16) (fin w 13 16) (fin w 10 8) e)
  else if fld w 0 7 = 1 then EType.ofCode (fld w 7 3) >>= fun e => some (.vslide (fin w 21 16) (fin w 17 16) (fin w 13 16) (fin w 10 8) e)
  else if fld w 0 7 = 2 ∧ fld w 13 4 = 0 then EType.ofCode (fld w 7 3) >>= fun e => some (.vbcast (fin w 21 16) (fin w 17 16) (fin w 10 8) e)
  else if fld w 0 7 = 3 ∧ fld w 10 3 = 0 then EType.ofCode (fld w 7 3) >>= fun e => some (.vext (fin w 21 16) (fin w 17 16) (fin w 13 16) e)
  else if fld w 0 7 = 4 ∧ fld w 10 3 = 0 then EType.ofCode (fld w 7 3) >>= fun e => some (.vins (fin w 21 16) (fin w 17 16) (fin w 13 16) e)
  else none

/-- Major 0x43. -/
def decode43 (w : Nat) : Option Instr :=
  if fld w 0 7 = 0 ∧ fld w 13 4 = 0 then EType.ofCode (fld w 7 3) >>= fun e => some (.vrsum (fin w 21 16) (fin w 17 16) (fin w 10 8) e)
  else if fld w 0 7 = 1 ∧ fld w 13 4 = 0 then EType.ofCode (fld w 7 3) >>= fun e => some (.vrmax (fin w 21 16) (fin w 17 16) (fin w 10 8) e)
  else if fld w 0 7 = 2 ∧ fld w 13 4 = 0 then EType.ofCode (fld w 7 3) >>= fun e => some (.vrmin (fin w 21 16) (fin w 17 16) (fin w 10 8) e)
  else none

/-- Major 0x44. -/
def decode44 (w : Nat) : Option Instr :=
  if fld w 0 7 = 0 ∧ fld w 10 3 = 0 then EType.ofCode (fld w 7 3) >>= fun e => some (.vcvt (fin w 21 16) (fin w 17 16) (fin w 13 16) e)
  else none

/-- Major 0x45. -/
def decode45 (w : Nat) : Option Instr :=
  if fld w 0 7 = 0 ∧ fld w 10 3 = 0 then EType.ofCode (fld w 7 3) >>= fun e => some (.vpoly (fin w 21 16) (fin w 17 16) (fin w 13 16) e)
  else if fld w 0 7 = 1 ∧ fld w 7 3 = 0 ∧ fld w 10 3 = 0 ∧ fld w 13 4 = 0 ∧ fld w 21 4 = 0 then some (.vcoef (fin w 17 16))
  else none

/-- Major 0x46. -/
def decode46 (w : Nat) : Option Instr :=
  if fld w 0 7 = 0 ∧ fld w 13 4 = 0 then EType.ofCode (fld w 7 3) >>= fun e => some (.vld (fin w 21 16) (fin w 17 16) (fin w 10 8) e)
  else if fld w 0 7 = 1 ∧ fld w 13 4 = 0 then EType.ofCode (fld w 7 3) >>= fun e => some (.vst (fin w 21 16) (fin w 17 16) (fin w 10 8) e)
  else if fld w 0 7 = 2 ∧ fld w 13 4 = 0 ∧ fld w 20 1 = 0 then EType.ofCode (fld w 7 3) >>= fun e => some (.vlds (fin w 21 16) (fin w 17 8) (fin w 10 8) e)
  else if fld w 0 7 = 3 ∧ fld w 13 4 = 0 ∧ fld w 20 1 = 0 then EType.ofCode (fld w 7 3) >>= fun e => some (.vsts (fin w 21 16) (fin w 17 8) (fin w 10 8) e)
  else if fld w 0 7 = 4 then EType.ofCode (fld w 7 3) >>= fun e => some (.vldx (fin w 21 16) (fin w 17 16) (fin w 13 16) (fin w 10 8) e)
  else if fld w 0 7 = 5 then EType.ofCode (fld w 7 3) >>= fun e => some (.vstx (fin w 21 16) (fin w 17 16) (fin w 13 16) (fin w 10 8) e)
  else if fld w 0 7 = 6 ∧ fld w 10 3 = 0 ∧ fld w 13 3 = 0 then EType.ofCode (fld w 7 3) >>= fun e => some (.vldq (fin w 21 16) (fin w 16 32) e)
  else if fld w 0 7 = 7 ∧ fld w 10 3 = 0 ∧ fld w 13 3 = 0 then EType.ofCode (fld w 7 3) >>= fun e => some (.vstq (fin w 21 16) (fin w 16 32) e)
  else if fld w 0 7 = 8 ∧ fld w 10 3 = 0 ∧ fld w 13 3 = 0 then EType.ofCode (fld w 7 3) >>= fun e => some (.vredq (fin w 21 16) (fin w 16 32) e)
  else none

/-- Major 0x60. -/
def decode60 (w : Nat) : Option Instr :=
  if fld w 0 5 = 0 ∧ fld w 8 2 = 0 then EType2.ofCode (fld w 7 1) >>= fun e => Rm.ofCode (fld w 5 2) >>= fun r => some (.vdiv (fin w 21 16) (fin w 17 16) (fin w 13 16) (fin w 10 8) e r)
  else if fld w 0 5 = 1 ∧ fld w 8 2 = 0 ∧ fld w 13 4 = 0 then EType2.ofCode (fld w 7 1) >>= fun e => Rm.ofCode (fld w 5 2) >>= fun r => some (.vsqrt (fin w 21 16) (fin w 17 16) (fin w 10 8) e r)
  else if fld w 0 5 = 2 ∧ fld w 8 2 = 0 ∧ fld w 13 4 = 0 then EType2.ofCode (fld w 7 1) >>= fun e => Rm.ofCode (fld w 5 2) >>= fun r => some (.vexp (fin w 21 16) (fin w 17 16) (fin w 10 8) e r)
  else if fld w 0 5 = 3 ∧ fld w 8 2 = 0 ∧ fld w 13 4 = 0 then EType2.ofCode (fld w 7 1) >>= fun e => Rm.ofCode (fld w 5 2) >>= fun r => some (.vlog (fin w 21 16) (fin w 17 16) (fin w 10 8) e r)
  else if fld w 0 5 = 4 ∧ fld w 8 2 = 0 ∧ fld w 13 4 = 0 then EType2.ofCode (fld w 7 1) >>= fun e => Rm.ofCode (fld w 5 2) >>= fun r => some (.vrcp (fin w 21 16) (fin w 17 16) (fin w 10 8) e r)
  else if fld w 0 5 = 5 ∧ fld w 8 2 = 0 ∧ fld w 13 4 = 0 then EType2.ofCode (fld w 7 1) >>= fun e => Rm.ofCode (fld w 5 2) >>= fun r => some (.vrsq (fin w 21 16) (fin w 17 16) (fin w 10 8) e r)
  else if fld w 0 5 = 6 ∧ fld w 8 2 = 0 ∧ fld w 13 4 = 0 then EType2.ofCode (fld w 7 1) >>= fun e => Rm.ofCode (fld w 5 2) >>= fun r => some (.vtanh (fin w 21 16) (fin w 17 16) (fin w 10 8) e r)
  else none

/-- Major 0x68. -/
def decode68 (w : Nat) : Option Instr :=
  if fld w 0 7 = 0 ∧ fld w 10 3 = 0 ∧ fld w 15 2 = 0 then EType.ofCode (fld w 7 3) >>= fun e => some (.vqnt (fin w 21 16) (fin w 17 16) (fin w 13 4) e)
  else if fld w 0 7 = 1 ∧ fld w 10 3 = 0 ∧ fld w 15 2 = 0 then EType.ofCode (fld w 7 3) >>= fun e => some (.vdqnt (fin w 21 16) (fin w 17 16) (fin w 13 4) e)
  else if fld w 0 7 = 2 ∧ fld w 10 3 = 0 then EType.ofCode (fld w 7 3) >>= fun e => some (.vscl (fin w 21 16) (fin w 17 16) (fin w 13 16) e)
  else none

/-- Major 0x69. -/
def decode69 (w : Nat) : Option Instr :=
  if fld w 0 7 = 0 ∧ fld w 10 3 = 0 then EType.ofCode (fld w 7 3) >>= fun e => some (.vmmb (fin w 21 16) (fin w 17 16) (fin w 13 16) e)
  else if fld w 0 7 = 1 ∧ fld w 7 3 = 0 ∧ fld w 10 3 = 0 ∧ fld w 17 4 = 0 then some (.vlgl (fin w 21 16) (fin w 13 16))
  else none

/-- Major 0x70. -/
def decode70 (w : Nat) : Option Instr :=
  if fld w 3 7 = 0 ∧ fld w 10 5 = 0 then EType.ofCode (fld w 0 3) >>= fun e => some (.vsetvl (fin w 20 32) (fin w 15 32) e)
  else none

/-- Major 0x71. -/
def decode71 (w : Nat) : Option Instr :=
  if fld w 3 7 = 0 ∧ fld w 10 5 = 0 ∧ fld w 20 5 = 0 then some (.shset (fin w 15 32) (fin w 0 8))
  else if fld w 3 7 = 1 ∧ fld w 10 5 = 0 ∧ fld w 20 5 = 0 then some (.shget (fin w 15 32) (fin w 0 8))
  else if fld w 3 7 = 2 ∧ fld w 10 5 = 0 ∧ fld w 20 5 = 0 then some (.shadv (fin w 15 32) (fin w 0 8))
  else if fld w 3 7 = 3 ∧ fld w 10 5 = 0 ∧ fld w 15 5 = 0 ∧ fld w 20 5 = 0 then some (.shrst (fin w 0 8))
  else none

/-- Major 0x72. -/
def decode72 (w : Nat) : Option Instr :=
  if fld w 5 5 = 0 ∧ fld w 10 5 = 0 ∧ fld w 20 5 = 0 then some (.cbset (fin w 15 32) (fin w 0 32))
  else if fld w 5 5 = 1 ∧ fld w 10 5 = 0 ∧ fld w 24 1 = 0 then some (.cbwf (fin w 20 16) (fin w 15 32) (fin w 0 32))
  else if fld w 5 5 = 2 ∧ fld w 10 5 = 0 ∧ fld w 20 5 = 0 then some (.cbwe (fin w 15 32) (fin w 0 32))
  else if fld w 5 5 = 3 ∧ fld w 10 5 = 0 ∧ fld w 20 5 = 0 then some (.cbpa (fin w 15 32) (fin w 0 32))
  else if fld w 5 5 = 4 ∧ fld w 10 5 = 0 ∧ fld w 20 5 = 0 then some (.cbca (fin w 15 32) (fin w 0 32))
  else if fld w 5 5 = 5 ∧ fld w 10 5 = 0 ∧ fld w 15 5 = 0 ∧ fld w 20 5 = 0 then some (.cbeos (fin w 0 32))
  else if fld w 5 5 = 6 ∧ fld w 14 1 = 0 ∧ fld w 15 5 = 0 then some (.qbindPop (fin w 20 32) (fin w 10 16) (fin w 0 32))
  else if fld w 5 5 = 7 ∧ fld w 14 1 = 1 then some (.qbindPush (fin w 20 32) (fin w 15 32) (fin w 10 16) (fin w 0 32))
  else if fld w 0 10 = 256 ∧ fld w 10 5 = 0 ∧ fld w 15 5 = 0 then some (.qfree (fin w 20 32))
  else none

/-- The 32-bit instruction that a word encodes, before the checks of `Instr.wf` (Table 6.15). -/
def decodeRaw (w : Nat) : Option Instr :=
  match fld w 25 7 with
  | 0x01 => decode01 w
  | 0x02 => decode02 w
  | 0x03 => decode03 w
  | 0x04 => decode04 w
  | 0x05 => decode05 w
  | 0x06 => decode06 w
  | 0x07 => decode07 w
  | 0x08 => decode08 w
  | 0x09 => decode09 w
  | 0x0A => decode0A w
  | 0x0B => decode0B w
  | 0x0D => decode0D w
  | 0x0E => decode0E w
  | 0x0F => decode0F w
  | 0x10 => decode10 w
  | 0x11 => decode11 w
  | 0x12 => decode12 w
  | 0x13 => decode13 w
  | 0x14 => decode14 w
  | 0x18 => decode18 w
  | 0x19 => decode19 w
  | 0x1A => decode1A w
  | 0x1B => decode1B w
  | 0x1C => decode1C w
  | 0x1D => decode1D w
  | 0x1E => decode1E w
  | 0x1F => decode1F w
  | 0x20 => decode20 w
  | 0x21 => decode21 w
  | 0x22 => decode22 w
  | 0x30 => decode30 w
  | 0x31 => decode31 w
  | 0x40 => decode40 w
  | 0x41 => decode41 w
  | 0x42 => decode42 w
  | 0x43 => decode43 w
  | 0x44 => decode44 w
  | 0x45 => decode45 w
  | 0x46 => decode46 w
  | 0x60 => decode60 w
  | 0x68 => decode68 w
  | 0x69 => decode69 w
  | 0x70 => decode70 w
  | 0x71 => decode71 w
  | 0x72 => decode72 w
  | _ => none

/-- The 32-bit instruction that a word encodes (R149, R150). -/
def decode32 (w : Nat) : Option Instr := (decodeRaw w).filter Instr.wf

/-- The fields of a T word held as one number, word 0 lowest (R148, Table 6.13a). -/
def tword (w : Nat) : TWord :=
  { flags := imm w 0 12, guard := fin w 12 16, w1 := imm w 32 32, w2 := imm w 64 32, w3 := imm w 96 32, w4 := imm w 128 32,
    w5 := imm w 160 32, w6 := imm w 192 32, w7 := imm w 224 32 }

/-- The tile command that a 256-bit T word encodes: engine and command select it (Table 6.22). Reserved bits of flags and operand
words are checked at issue, when the guard reads one (R148, R274). -/
def decodeTile (w : Nat) : Option Instr :=
  let t := tword w
  match fld w 22 3, fld w 16 6 with
  | 0, 1 => some (.mwld t)
  | 0, 2 => some (.mswap t)
  | 0, 3 => some (.mact t)
  | 0, 4 => some (.mdrn t)
  | 0, 5 => some (.mzero t)
  | 0, 6 => some (.msync t)
  | 1, 1 => some (.cpyB t)
  | 1, 2 => some (.cpyC t)
  | 1, 3 => some (.cpyG t)
  | 1, 4 => some (.cpyF t)
  | 2, 1 => some (.crs t)
  | 2, 2 => some (.cag t)
  | 2, 3 => some (.car t)
  | 2, 4 => some (.cbc t)
  | _, _ => none

/-- Whether a word is word 0 of a T word: its major is 0x7E (R147). -/
def isTile (w : Nat) : Bool := fld w 25 7 == 0x7E

/-- The instruction at the front of 256 bits of code: a T word where the major is 0x7E, a 32-bit word otherwise (R147). -/
def decodeBits (w : Nat) : Option Instr := if isTile w then decodeTile w else decode32 (w % 2 ^ 32)

/-- The instruction that `nbits` bits of a table row encode, bits above them zero. -/
def decodeTableWord (nbits w : Nat) : Option Instr := decodeBits (w % 2 ^ nbits)

/-- The 32-bit code bytes of a word, in memory order. -/
def wordBytes (w : Nat) : List Byte := bytesOf 4 w

/-! ## The encoder -/

/-- A T word as one number (Table 6.13a). -/
def tileWord (engine command : Nat) (t : TWord) : Nat :=
  t.flags.toNat + t.guard.val * 2 ^ 12 + command * 2 ^ 16 + engine * 2 ^ 22 + 0x7E * 2 ^ 25 + t.w1.toNat * 2 ^ 32 + t.w2.toNat * 2 ^ 64
    + t.w3.toNat * 2 ^ 96 + t.w4.toNat * 2 ^ 128 + t.w5.toNat * 2 ^ 160 + t.w6.toNat * 2 ^ 192 + t.w7.toNat * 2 ^ 224

set_option maxHeartbeats 2000000 in
/-- The word, or T word, of a well-formed instruction, as one number; an event has no word (0). -/
def encode : Instr → Nat
  | .add d a b => 0x02000000 + d.val * 0x100000 + a.val * 0x8000 + b.val * 0x400
  | .sub d a b => 0x02000001 + d.val * 0x100000 + a.val * 0x8000 + b.val * 0x400
  | .mul d a b => 0x02000002 + d.val * 0x100000 + a.val * 0x8000 + b.val * 0x400
  | .mulh d a b => 0x02000003 + d.val * 0x100000 + a.val * 0x8000 + b.val * 0x400
  | .mulhn d a b => 0x02000004 + d.val * 0x100000 + a.val * 0x8000 + b.val * 0x400
  | .div d a b => 0x02000005 + d.val * 0x100000 + a.val * 0x8000 + b.val * 0x400
  | .divn d a b => 0x02000006 + d.val * 0x100000 + a.val * 0x8000 + b.val * 0x400
  | .rem d a b => 0x02000007 + d.val * 0x100000 + a.val * 0x8000 + b.val * 0x400
  | .remn d a b => 0x02000008 + d.val * 0x100000 + a.val * 0x8000 + b.val * 0x400
  | .and d a b => 0x02000009 + d.val * 0x100000 + a.val * 0x8000 + b.val * 0x400
  | .or d a b => 0x0200000A + d.val * 0x100000 + a.val * 0x8000 + b.val * 0x400
  | .xor d a b => 0x0200000B + d.val * 0x100000 + a.val * 0x8000 + b.val * 0x400
  | .andn d a b => 0x0200000C + d.val * 0x100000 + a.val * 0x8000 + b.val * 0x400
  | .orn d a b => 0x0200000D + d.val * 0x100000 + a.val * 0x8000 + b.val * 0x400
  | .sll d a b => 0x0200000E + d.val * 0x100000 + a.val * 0x8000 + b.val * 0x400
  | .srl d a b => 0x0200000F + d.val * 0x100000 + a.val * 0x8000 + b.val * 0x400
  | .sra d a b => 0x02000010 + d.val * 0x100000 + a.val * 0x8000 + b.val * 0x400
  | .ror d a b => 0x02000011 + d.val * 0x100000 + a.val * 0x8000 + b.val * 0x400
  | .min d a b => 0x02000012 + d.val * 0x100000 + a.val * 0x8000 + b.val * 0x400
  | .max d a b => 0x02000013 + d.val * 0x100000 + a.val * 0x8000 + b.val * 0x400
  | .minn d a b => 0x02000014 + d.val * 0x100000 + a.val * 0x8000 + b.val * 0x400
  | .maxn d a b => 0x02000015 + d.val * 0x100000 + a.val * 0x8000 + b.val * 0x400
  | .slt d a b => 0x02000016 + d.val * 0x100000 + a.val * 0x8000 + b.val * 0x400
  | .sltn d a b => 0x02000017 + d.val * 0x100000 + a.val * 0x8000 + b.val * 0x400
  | .addW d a b => 0x04000000 + d.val * 0x100000 + a.val * 0x8000 + b.val * 0x400
  | .subW d a b => 0x04000001 + d.val * 0x100000 + a.val * 0x8000 + b.val * 0x400
  | .mulW d a b => 0x04000002 + d.val * 0x100000 + a.val * 0x8000 + b.val * 0x400
  | .mulhW d a b => 0x04000003 + d.val * 0x100000 + a.val * 0x8000 + b.val * 0x400
  | .mulhnW d a b => 0x04000004 + d.val * 0x100000 + a.val * 0x8000 + b.val * 0x400
  | .divW d a b => 0x04000005 + d.val * 0x100000 + a.val * 0x8000 + b.val * 0x400
  | .divnW d a b => 0x04000006 + d.val * 0x100000 + a.val * 0x8000 + b.val * 0x400
  | .remW d a b => 0x04000007 + d.val * 0x100000 + a.val * 0x8000 + b.val * 0x400
  | .remnW d a b => 0x04000008 + d.val * 0x100000 + a.val * 0x8000 + b.val * 0x400
  | .sllW d a b => 0x0400000E + d.val * 0x100000 + a.val * 0x8000 + b.val * 0x400
  | .srlW d a b => 0x0400000F + d.val * 0x100000 + a.val * 0x8000 + b.val * 0x400
  | .sraW d a b => 0x04000010 + d.val * 0x100000 + a.val * 0x8000 + b.val * 0x400
  | .rorW d a b => 0x04000011 + d.val * 0x100000 + a.val * 0x8000 + b.val * 0x400
  | .minW d a b => 0x04000012 + d.val * 0x100000 + a.val * 0x8000 + b.val * 0x400
  | .maxW d a b => 0x04000013 + d.val * 0x100000 + a.val * 0x8000 + b.val * 0x400
  | .minnW d a b => 0x04000014 + d.val * 0x100000 + a.val * 0x8000 + b.val * 0x400
  | .maxnW d a b => 0x04000015 + d.val * 0x100000 + a.val * 0x8000 + b.val * 0x400
  | .sltW d a b => 0x04000016 + d.val * 0x100000 + a.val * 0x8000 + b.val * 0x400
  | .sltnW d a b => 0x04000017 + d.val * 0x100000 + a.val * 0x8000 + b.val * 0x400
  | .addi d a i => 0x06000000 + d.val * 0x100000 + a.val * 0x8000 + i.toNat
  | .andi d a i => 0x08000000 + d.val * 0x100000 + a.val * 0x8000 + i.toNat
  | .ori d a i => 0x0A000000 + d.val * 0x100000 + a.val * 0x8000 + i.toNat
  | .xori d a i => 0x0C000000 + d.val * 0x100000 + a.val * 0x8000 + i.toNat
  | .slti d a i => 0x0E000000 + d.val * 0x100000 + a.val * 0x8000 + i.toNat
  | .sltni d a i => 0x10000000 + d.val * 0x100000 + a.val * 0x8000 + i.toNat
  | .slli d a n => 0x12000000 + d.val * 0x100000 + a.val * 0x8000 + n.val
  | .srli d a n => 0x12001000 + d.val * 0x100000 + a.val * 0x8000 + n.val
  | .srai d a n => 0x12002000 + d.val * 0x100000 + a.val * 0x8000 + n.val
  | .rori d a n => 0x12003000 + d.val * 0x100000 + a.val * 0x8000 + n.val
  | .slliW d a n => 0x12004000 + d.val * 0x100000 + a.val * 0x8000 + n.val
  | .srliW d a n => 0x12005000 + d.val * 0x100000 + a.val * 0x8000 + n.val
  | .sraiW d a n => 0x12006000 + d.val * 0x100000 + a.val * 0x8000 + n.val
  | .roriW d a n => 0x12007000 + d.val * 0x100000 + a.val * 0x8000 + n.val
  | .lui d i => 0x1A000000 + d.val * 0x100000 + i.toNat
  | .auipc d i => 0x1C000000 + d.val * 0x100000 + i.toNat
  | .clz d a => 0x1E000000 + d.val * 0x100000 + a.val * 0x8000
  | .ctz d a => 0x1E000001 + d.val * 0x100000 + a.val * 0x8000
  | .popc d a => 0x1E000002 + d.val * 0x100000 + a.val * 0x8000
  | .brev d a => 0x1E000003 + d.val * 0x100000 + a.val * 0x8000
  | .bswap d a => 0x1E000004 + d.val * 0x100000 + a.val * 0x8000
  | .bfx d a b => 0x1E000008 + d.val * 0x100000 + a.val * 0x8000 + b.val * 0x400
  | .bfxn d a b => 0x1E000009 + d.val * 0x100000 + a.val * 0x8000 + b.val * 0x400
  | .bfi d a b => 0x1E00000A + d.val * 0x100000 + a.val * 0x8000 + b.val * 0x400
  | .hltw a b => 0x1E000010 + a.val * 0x8000 + b.val * 0x400
  | .hpack d a b n => 0x1E000040 + d.val * 0x100000 + a.val * 0x8000 + b.val * 0x400 + n.val
  | .hparse d a b n => 0x1E000048 + d.val * 0x100000 + a.val * 0x8000 + b.val * 0x400 + n.val
  | .pcmp p a b c => 0x16000000 + p.val * 0x100000 + a.val * 0x8000 + b.val * 0x400 + c.code
  | .pcmpi p a c i => 0x14000000 + p.val * 0x100000 + a.val * 0x8000 + c.code * 0x1000 + i.toNat
  | .plog d a b o => 0x16000010 + d.val * 0x100000 + a.val * 0x8000 + b.val * 0x400 + o.code
  | .ptog d => 0x16000018 + d.val * 0x100000
  | .gtop a => 0x16000019 + a.val * 0x8000
  | .sel d a b n => 0x16000020 + d.val * 0x100000 + a.val * 0x8000 + b.val * 0x400 + n.val
  | .jalr d a => 0x16000030 + d.val * 0x100000 + a.val * 0x8000
  | .beq a b o => 0x30000000 + a.val * 0x100000 + b.val * 0x8000 + o.toNat
  | .bne a b o => 0x32000000 + a.val * 0x100000 + b.val * 0x8000 + o.toNat
  | .blt a b o => 0x34000000 + a.val * 0x100000 + b.val * 0x8000 + o.toNat
  | .bge a b o => 0x36000000 + a.val * 0x100000 + b.val * 0x8000 + o.toNat
  | .bltn a b o => 0x38000000 + a.val * 0x100000 + b.val * 0x8000 + o.toNat
  | .bgen a b o => 0x3A000000 + a.val * 0x100000 + b.val * 0x8000 + o.toNat
  | .bp p o => 0x3C000000 + p.val * 0x100000 + o.toNat
  | .bnp p o => 0x3D000000 + p.val * 0x100000 + o.toNat
  | .jal d o => 0x3E000000 + d.val * 0x100000 + o.toNat
  | .ld d a s o => 0x20000000 + d.val * 0x100000 + a.val * 0x8000 + s.code * 0x1000 + o.toNat
  | .ldn d a s o => 0x20004000 + d.val * 0x100000 + a.val * 0x8000 + s.code * 0x1000 + o.toNat
  | .st d a s o => 0x22000000 + d.val * 0x100000 + a.val * 0x8000 + s.code * 0x1000 + o.toNat
  | .ldx d a b s => 0x24000000 + d.val * 0x100000 + a.val * 0x8000 + b.val * 0x400 + s.code
  | .stx d a b s => 0x24000008 + d.val * 0x100000 + a.val * 0x8000 + b.val * 0x400 + s.code
  | .publish a b => 0x24000010 + a.val * 0x8000 + b.val * 0x400
  | .amoadd d a b s => 0x26000002 + d.val * 0x100000 + a.val * 0x8000 + b.val * 0x400 + (s.code - 2)
  | .amoand d a b s => 0x2600000A + d.val * 0x100000 + a.val * 0x8000 + b.val * 0x400 + (s.code - 2)
  | .amoor d a b s => 0x26000012 + d.val * 0x100000 + a.val * 0x8000 + b.val * 0x400 + (s.code - 2)
  | .amoxor d a b s => 0x2600001A + d.val * 0x100000 + a.val * 0x8000 + b.val * 0x400 + (s.code - 2)
  | .amomin d a b s => 0x26000022 + d.val * 0x100000 + a.val * 0x8000 + b.val * 0x400 + (s.code - 2)
  | .amomax d a b s => 0x2600002A + d.val * 0x100000 + a.val * 0x8000 + b.val * 0x400 + (s.code - 2)
  | .amoswp d a b s => 0x26000032 + d.val * 0x100000 + a.val * 0x8000 + b.val * 0x400 + (s.code - 2)
  | .amocas d a b s => 0x2600003A + d.val * 0x100000 + a.val * 0x8000 + b.val * 0x400 + (s.code - 2)
  | .fence k s => 0x28000000 + k.toNat * 0x8 + s.code
  | .ljoin a b => 0x40000000 + a.val * 0x8000 + b.val * 0x400
  | .ljoinR a b => 0x40000040 + a.val * 0x8000 + b.val * 0x400
  | .lfill a b => 0x40000001 + a.val * 0x8000 + b.val * 0x400
  | .lfillv a v => 0x40000002 + a.val * 0x8000 + v.val * 0x400
  | .lfillm a b m => 0x40000003 + a.val * 0x8000 + b.val * 0x400 + m.val * 0x40
  | .lesum a b t => 0x40000004 + a.val * 0x8000 + b.val * 0x400 + t.code * 0x40
  | .lwait d a b n k => 0x40000008 + d.val * 0x100000 + a.val * 0x8000 + b.val * 0x400 + n.val * 0x100 + k.code * 0x40
  | .lwaitf d a b => 0x40000089 + d.val * 0x100000 + a.val * 0x8000 + b.val * 0x400
  | .larm d a b n k => 0x4000000A + d.val * 0x100000 + a.val * 0x8000 + b.val * 0x400 + n.val * 0x100 + k.code * 0x40
  | .lfrz d a => 0x40000010 + d.val * 0x100000 + a.val * 0x8000
  | .lfrza a => 0x40000011 + a.val * 0x8000
  | .lxrd d a => 0x40000012 + d.val * 0x100000 + a.val * 0x8000
  | .lxrdv v a => 0x40000013 + v.val * 0x100000 + a.val * 0x8000
  | .lstat d a => 0x40000014 + d.val * 0x100000 + a.val * 0x8000
  | .send d a b => 0x42000000 + d.val * 0x100000 + a.val * 0x8000 + b.val * 0x400
  | .sendF d a b => 0x42000001 + d.val * 0x100000 + a.val * 0x8000 + b.val * 0x400
  | .sendH d a b => 0x42000002 + d.val * 0x100000 + a.val * 0x8000 + b.val * 0x400
  | .sendl d a b n => 0x42000008 + d.val * 0x100000 + a.val * 0x8000 + b.val * 0x400 + n.val
  | .sendlF d a b n => 0x42000010 + d.val * 0x100000 + a.val * 0x8000 + b.val * 0x400 + n.val
  | .recv d a => 0x42000020 + d.val * 0x100000 + a.val * 0x8000
  | .recvp d a => 0x42000021 + d.val * 0x100000 + a.val * 0x8000
  | .recvN d a => 0x42000022 + d.val * 0x100000 + a.val * 0x8000
  | .recvpN d a => 0x42000023 + d.val * 0x100000 + a.val * 0x8000
  | .vtset a => 0x42000030 + a.val * 0x8000
  | .gvtrd d => 0x42000031 + d.val * 0x100000
  | .cmtw => 0x42000032
  | .spawnFifo d a b => 0x44000000 + d.val * 0x100000 + a.val * 0x8000 + b.val * 0x400
  | .spawnOrd d a b => 0x44000001 + d.val * 0x100000 + a.val * 0x8000 + b.val * 0x400
  | .spawnOpt d a b => 0x44000002 + d.val * 0x100000 + a.val * 0x8000 + b.val * 0x400
  | .spawnL d a b => 0x44000004 + d.val * 0x100000 + a.val * 0x8000 + b.val * 0x400
  | .spawnC d a b => 0x44000005 + d.val * 0x100000 + a.val * 0x8000 + b.val * 0x400
  | .exit => 0x44000010
  | .yield => 0x44000011
  | .gbar l => 0x44000012 + l.val * 0x400
  | .widf d n => 0x44000013 + d.val * 0x100000 + n.val * 0x400
  | .migr d a => 0x44000014 + d.val * 0x100000 + a.val * 0x8000
  | .mpin n => 0x44000015 + n.val * 0x400
  | .twait a => 0x44000016 + a.val * 0x8000
  | .csrr d c => 0x60000000 + d.val * 0x100000 + c.toNat
  | .csrw d a c => 0x60001000 + d.val * 0x100000 + a.val * 0x8000 + c.toNat
  | .csrs d a c => 0x60002000 + d.val * 0x100000 + a.val * 0x8000 + c.toNat
  | .csrc d a c => 0x60003000 + d.val * 0x100000 + a.val * 0x8000 + c.toNat
  | .eret => 0x62000000
  | .brk => 0x62000001
  | .wfi => 0x62000002
  | .ctxsv d a => 0x62000003 + d.val * 0x100000 + a.val * 0x8000
  | .ctxld d a => 0x62000004 + d.val * 0x100000 + a.val * 0x8000
  | .slotctl d a b => 0x62000005 + d.val * 0x100000 + a.val * 0x8000 + b.val * 0x400
  | .xinv a b => 0x62000006 + a.val * 0x8000 + b.val * 0x400
  | .cinv a b => 0x62000007 + a.val * 0x8000 + b.val * 0x400
  | .trap n => 0x62000100 + n.val
  | .vsetvl d a e => 0xE0000000 + d.val * 0x100000 + a.val * 0x8000 + e.code
  | .vadd d a b m e r => 0x80000000 + d.val * 0x200000 + a.val * 0x20000 + b.val * 0x2000 + m.val * 0x400 + e.code * 0x80 + r.code * 0x20
  | .vsub d a b m e r => 0x80000001 + d.val * 0x200000 + a.val * 0x20000 + b.val * 0x2000 + m.val * 0x400 + e.code * 0x80 + r.code * 0x20
  | .vmul d a b m e r => 0x80000002 + d.val * 0x200000 + a.val * 0x20000 + b.val * 0x2000 + m.val * 0x400 + e.code * 0x80 + r.code * 0x20
  | .vmin d a b m e r => 0x80000003 + d.val * 0x200000 + a.val * 0x20000 + b.val * 0x2000 + m.val * 0x400 + e.code * 0x80 + r.code * 0x20
  | .vmax d a b m e r => 0x80000004 + d.val * 0x200000 + a.val * 0x20000 + b.val * 0x2000 + m.val * 0x400 + e.code * 0x80 + r.code * 0x20
  | .vminN d a b m e => 0x80000005 + d.val * 0x200000 + a.val * 0x20000 + b.val * 0x2000 + m.val * 0x400 + e.code * 0x80
  | .vmaxN d a b m e => 0x80000006 + d.val * 0x200000 + a.val * 0x20000 + b.val * 0x2000 + m.val * 0x400 + e.code * 0x80
  | .vabs d a m e r => 0x80000007 + d.val * 0x200000 + a.val * 0x20000 + m.val * 0x400 + e.code * 0x80 + r.code * 0x20
  | .vneg d a m e r => 0x80000008 + d.val * 0x200000 + a.val * 0x20000 + m.val * 0x400 + e.code * 0x80 + r.code * 0x20
  | .vand d a b m e => 0x80000009 + d.val * 0x200000 + a.val * 0x20000 + b.val * 0x2000 + m.val * 0x400 + e.code * 0x80
  | .vor d a b m e => 0x8000000A + d.val * 0x200000 + a.val * 0x20000 + b.val * 0x2000 + m.val * 0x400 + e.code * 0x80
  | .vxor d a b m e => 0x8000000B + d.val * 0x200000 + a.val * 0x20000 + b.val * 0x2000 + m.val * 0x400 + e.code * 0x80
  | .vsll d a b m e => 0x8000000C + d.val * 0x200000 + a.val * 0x20000 + b.val * 0x2000 + m.val * 0x400 + e.code * 0x80
  | .vsrl d a b m e => 0x8000000D + d.val * 0x200000 + a.val * 0x20000 + b.val * 0x2000 + m.val * 0x400 + e.code * 0x80
  | .vsra d a b m e => 0x8000000E + d.val * 0x200000 + a.val * 0x20000 + b.val * 0x2000 + m.val * 0x400 + e.code * 0x80
  | .vfma d a b m e r => 0x80000010 + d.val * 0x200000 + a.val * 0x20000 + b.val * 0x2000 + m.val * 0x400 + e.code * 0x80 + r.code * 0x20
  | .vfms d a b m e r => 0x80000011 + d.val * 0x200000 + a.val * 0x20000 + b.val * 0x2000 + m.val * 0x400 + e.code * 0x80 + r.code * 0x20
  | .vdiv d a b m e r => 0xC0000000 + d.val * 0x200000 + a.val * 0x20000 + b.val * 0x2000 + m.val * 0x400 + e.code * 0x80 + r.code * 0x20
  | .vsqrt d a m e r => 0xC0000001 + d.val * 0x200000 + a.val * 0x20000 + m.val * 0x400 + e.code * 0x80 + r.code * 0x20
  | .vexp d a m e r => 0xC0000002 + d.val * 0x200000 + a.val * 0x20000 + m.val * 0x400 + e.code * 0x80 + r.code * 0x20
  | .vlog d a m e r => 0xC0000003 + d.val * 0x200000 + a.val * 0x20000 + m.val * 0x400 + e.code * 0x80 + r.code * 0x20
  | .vrcp d a m e r => 0xC0000004 + d.val * 0x200000 + a.val * 0x20000 + m.val * 0x400 + e.code * 0x80 + r.code * 0x20
  | .vrsq d a m e r => 0xC0000005 + d.val * 0x200000 + a.val * 0x20000 + m.val * 0x400 + e.code * 0x80 + r.code * 0x20
  | .vtanh d a m e r => 0xC0000006 + d.val * 0x200000 + a.val * 0x20000 + m.val * 0x400 + e.code * 0x80 + r.code * 0x20
  | .vcmp k a b m e c => 0x82000000 + k.val * 0x200000 + a.val * 0x20000 + b.val * 0x2000 + m.val * 0x400 + e.code * 0x80 + c.code
  | .vmlog k a b o => 0x82000008 + k.val * 0x200000 + a.val * 0x20000 + b.val * 0x2000 + o.code
  | .vsel d a b m e => 0x82000010 + d.val * 0x200000 + a.val * 0x20000 + b.val * 0x2000 + m.val * 0x400 + e.code * 0x80
  | .vcompress d a b m e => 0x82000011 + d.val * 0x200000 + a.val * 0x20000 + b.val * 0x2000 + m.val * 0x400 + e.code * 0x80
  | .vexpand d a b m e => 0x82000012 + d.val * 0x200000 + a.val * 0x20000 + b.val * 0x2000 + m.val * 0x400 + e.code * 0x80
  | .vpopm g k => 0x82000013 + g.val * 0x200000 + k.val * 0x20000
  | .vperm d a b m e => 0x84000000 + d.val * 0x200000 + a.val * 0x20000 + b.val * 0x2000 + m.val * 0x400 + e.code * 0x80
  | .vslide d a g m e => 0x84000001 + d.val * 0x200000 + a.val * 0x20000 + g.val * 0x2000 + m.val * 0x400 + e.code * 0x80
  | .vbcast d g m e => 0x84000002 + d.val * 0x200000 + g.val * 0x20000 + m.val * 0x400 + e.code * 0x80
  | .vext g a h e => 0x84000003 + g.val * 0x200000 + a.val * 0x20000 + h.val * 0x2000 + e.code * 0x80
  | .vins d a g e => 0x84000004 + d.val * 0x200000 + a.val * 0x20000 + g.val * 0x2000 + e.code * 0x80
  | .vrsum d a m e => 0x86000000 + d.val * 0x200000 + a.val * 0x20000 + m.val * 0x400 + e.code * 0x80
  | .vrmax d a m e => 0x86000001 + d.val * 0x200000 + a.val * 0x20000 + m.val * 0x400 + e.code * 0x80
  | .vrmin d a m e => 0x86000002 + d.val * 0x200000 + a.val * 0x20000 + m.val * 0x400 + e.code * 0x80
  | .vcvt d a f e => 0x88000000 + d.val * 0x200000 + a.val * 0x20000 + f.val * 0x2000 + e.code * 0x80
  | .vpoly d a b e => 0x8A000000 + d.val * 0x200000 + a.val * 0x20000 + b.val * 0x2000 + e.code * 0x80
  | .vcoef g => 0x8A000001 + g.val * 0x20000
  | .vld d g m e => 0x8C000000 + d.val * 0x200000 + g.val * 0x20000 + m.val * 0x400 + e.code * 0x80
  | .vst d g m e => 0x8C000001 + d.val * 0x200000 + g.val * 0x20000 + m.val * 0x400 + e.code * 0x80
  | .vlds d s m e => 0x8C000002 + d.val * 0x200000 + s.val * 0x20000 + m.val * 0x400 + e.code * 0x80
  | .vsts d s m e => 0x8C000003 + d.val * 0x200000 + s.val * 0x20000 + m.val * 0x400 + e.code * 0x80
  | .vldx d g b m e => 0x8C000004 + d.val * 0x200000 + g.val * 0x20000 + b.val * 0x2000 + m.val * 0x400 + e.code * 0x80
  | .vstx d g b m e => 0x8C000005 + d.val * 0x200000 + g.val * 0x20000 + b.val * 0x2000 + m.val * 0x400 + e.code * 0x80
  | .vldq d c e => 0x8C000006 + d.val * 0x200000 + c.val * 0x10000 + e.code * 0x80
  | .vstq d c e => 0x8C000007 + d.val * 0x200000 + c.val * 0x10000 + e.code * 0x80
  | .vredq d c e => 0x8C000008 + d.val * 0x200000 + c.val * 0x10000 + e.code * 0x80
  | .vqnt d a n e => 0xD0000000 + d.val * 0x200000 + a.val * 0x20000 + n.val * 0x2000 + e.code * 0x80
  | .vdqnt d a n e => 0xD0000001 + d.val * 0x200000 + a.val * 0x20000 + n.val * 0x2000 + e.code * 0x80
  | .vscl d a b e => 0xD0000002 + d.val * 0x200000 + a.val * 0x20000 + b.val * 0x2000 + e.code * 0x80
  | .vmmb d a b e => 0xD2000000 + d.val * 0x200000 + a.val * 0x20000 + b.val * 0x2000 + e.code * 0x80
  | .vlgl g b => 0xD2000001 + g.val * 0x200000 + b.val * 0x2000
  | .shset a n => 0xE2000000 + a.val * 0x8000 + n.val
  | .shget a n => 0xE2000008 + a.val * 0x8000 + n.val
  | .shadv a n => 0xE2000010 + a.val * 0x8000 + n.val
  | .shrst n => 0xE2000018 + n.val
  | .cbset a n => 0xE4000000 + a.val * 0x8000 + n.val
  | .cbwf p a n => 0xE4000020 + p.val * 0x100000 + a.val * 0x8000 + n.val
  | .cbwe a n => 0xE4000040 + a.val * 0x8000 + n.val
  | .cbpa a n => 0xE4000060 + a.val * 0x8000 + n.val
  | .cbca a n => 0xE4000080 + a.val * 0x8000 + n.val
  | .cbeos n => 0xE40000A0 + n.val
  | .qbindPop d p n => 0xE40000C0 + d.val * 0x100000 + p.val * 0x400 + n.val
  | .qbindPush d a p n => 0xE40040E0 + d.val * 0x100000 + a.val * 0x8000 + p.val * 0x400 + n.val
  | .qfree d => 0xE4000100 + d.val * 0x100000
  | .mwld t => tileWord 0 1 t
  | .mswap t => tileWord 0 2 t
  | .mact t => tileWord 0 3 t
  | .mdrn t => tileWord 0 4 t
  | .mzero t => tileWord 0 5 t
  | .msync t => tileWord 0 6 t
  | .cpyB t => tileWord 1 1 t
  | .cpyC t => tileWord 1 2 t
  | .cpyG t => tileWord 1 3 t
  | .cpyF t => tileWord 1 4 t
  | .crs t => tileWord 2 1 t
  | .cag t => tileWord 2 2 t
  | .car t => tileWord 2 3 t
  | .cbc t => tileWord 2 4 t
  | .instructionCompletion => 0
  | .instructionFetchFill => 0
  | .coefficientTableLoad => 0
  | .timerPreemption => 0
  | .lmxOverrun => 0
  | .systemEventEntry => 0
  | .postedReply => 0
  | .latticeRefusalTrap => 0
  | .latticeRequestApply => 0
  | .thresholdReadAtHome => 0
  | .waitWithdrawal => 0
  | .arenaFreeze => 0
  | .remoteWordAccess => 0
  | .localityMigration => 0
  | .publishPageChange => 0
  | .messageArrival => 0
  | .antiMessageArrival => 0
  | .rollback => 0
  | .wakeDelivery => 0
  | .twaitExpiry => 0
  | .inboxOverflowTimeout => 0
  | .waiterSpillTimeout => 0
  | .derailleurMigration => 0
  | .migrationIntake => 0
  | .saveCompletion => 0
  | .contextCacheWriteback => 0
  | .parkedThreadEviction => 0
  | .driverStop => 0
  | .launchStop => 0
  | .sweepStart => 0
  | .sweepControlFlit => 0
  | .sweepResult => 0
  | .launchAccept => 0
  | .launchDispatch => 0
  | .unitPlacement => 0
  | .slotFill => 0
  | .grantRetry => 0
  | .stealRequest => 0
  | .stealAnswer => 0
  | .launchCompletion => 0
  | .hostMessageWrite => 0
  | .arbiterSelect => 0
  | .mxuCommandExecute => 0
  | .drainSlotArrival => 0
  | .copyExecute => 0
  | .streamerRead => 0
  | .copyChannelSlotArrival => 0
  | .collectiveStart => 0
  | .wireBlockArrival => 0
  | .wqtailWrite => 0
  | .wqctlWrite => 0
  | .cqheadWrite => 0
  | .hmheadWrite => 0
  | .rpheadWrite => 0
  | .elheadWrite => 0
  | .trheadWrite => 0
  | .wringWrite => 0
  | .captureConfigWrite => 0
  | .captureClear => 0
  | .registerWrite => 0
  | .badRegisterAccess => 0
  | .regbuf => 0
  | .freebuf => 0
  | .regarena => 0
  | .freearena => 0
  | .retag => 0
  | .driverXinv => 0
  | .driverCinv => 0
  | .stop => 0
  | .reclaim => 0
  | .restore => 0
  | .saveretry => 0
  | .corecmd => 0
  | .rotkey => 0
  | .digest => 0
  | .unknownDriverCommand => 0
  | .digestPeerMessage => 0
  | .digestTimeout => 0
  | .hostMemRead => 0
  | .hostMemWrite => 0
  | .getVersion => 0
  | .getCapabilities => 0
  | .negotiateAlgorithms => 0
  | .getDigests => 0
  | .getCertificate => 0
  | .challenge => 0
  | .getMeasurements => 0
  | .powerOn => 0
  | .thermalShutdown => 0
  | .powerCapThrottle => 0
  | .ucieModuleStateChange => 0
  | .fabricReplay => 0
  | .welsaPortStateChange => 0
  | .welsaTransferTimeout => 0
  | .hbmScrub => 0
  | .monitorLevelSample => 0
  | .unassignedWord => 0
  | .powerRemoval => 0

/-- Word 0 of an instruction: what a fault reports as the instruction word (Table 4.1). -/
def encodeWord (i : Instr) : Word := BitVec.ofNat 64 (encode i % 2 ^ 32)

end Sys2Proof
end

