-- ==== Sys2Proof/Machine/Names.lean ====
section
/-! DEFINITION. The general registers that an instruction names as sources and as destinations, in the order in which they are read and
written (R158, R193). -/

namespace Sys2Proof

/-- Registers b to b + n − 1 (R193). -/
def runRegs (b : Fin 32) (n : Nat) : List (Fin 32) := (List.range n).map fun j => b + Fin.ofNat 32 j

/-- The registers that the substitution fields of a T word name; a field of zero names none (R148). -/
def TWord.regs (t : TWord) : List (Fin 32) :=
  ((List.range 6).map fun k => Fin.ofNat 32 (t.w7.toNat / 2 ^ (5 * k) % 32)).filter fun n => n != 0

/-- The registers of a trigger operand; with .FROZEN none is read (Table 8.5). -/
def trigRegs (b : Fin 32) (n : Fin 4) (k : TrigK) : List (Fin 32) := if k = .frozen then [] else runRegs b (n.val + 1)

/-- The general registers an instruction reads. -/
def Instr.srcs : Instr → List (Fin 32)
  | .add _ a b | .sub _ a b | .mul _ a b | .mulh _ a b | .mulhn _ a b | .div _ a b | .divn _ a b | .rem _ a b | .remn _ a b
  | .and _ a b | .or _ a b | .xor _ a b | .andn _ a b | .orn _ a b | .sll _ a b | .srl _ a b | .sra _ a b | .ror _ a b
  | .min _ a b | .max _ a b | .minn _ a b | .maxn _ a b | .slt _ a b | .sltn _ a b
  | .addW _ a b | .subW _ a b | .mulW _ a b | .mulhW _ a b | .mulhnW _ a b | .divW _ a b | .divnW _ a b | .remW _ a b | .remnW _ a b
  | .sllW _ a b | .srlW _ a b | .sraW _ a b | .rorW _ a b | .minW _ a b | .maxW _ a b | .minnW _ a b | .maxnW _ a b | .sltW _ a b
  | .sltnW _ a b | .bfx _ a b | .bfxn _ a b | .hpack _ a b _ | .sel _ a b _ => [a, b]
  | .addi _ a _ | .andi _ a _ | .ori _ a _ | .xori _ a _ | .slti _ a _ | .sltni _ a _ | .slli _ a _ | .srli _ a _ | .srai _ a _
  | .rori _ a _ | .slliW _ a _ | .srliW _ a _ | .sraiW _ a _ | .roriW _ a _ | .clz _ a | .ctz _ a | .popc _ a | .brev _ a | .bswap _ a
  | .hparse _ a _ _ | .pcmpi _ a _ _ | .gtop a | .jalr _ a | .vsetvl _ a _ => [a]
  | .bfi d a b => [a, b, d]
  | .hltw a b | .pcmp _ a b _ | .beq a b _ | .bne a b _ | .blt a b _ | .bge a b _ | .bltn a b _ | .bgen a b _ => [a, b]
  | .ld _ a _ _ | .ldn _ a _ _ => [a]
  | .st d a _ _ => [a, d]
  | .ldx _ a b _ => [a, b]
  | .stx d a b _ => [a, b, d]
  | .publish a b => [a, b]
  | .amoadd _ a b _ | .amoand _ a b _ | .amoor _ a b _ | .amoxor _ a b _ | .amomin _ a b _ | .amomax _ a b _ | .amoswp _ a b _ => [a, b]
  | .amocas d a b _ => [a, b, d]
  | .ljoin a b | .ljoinR a b | .lfill a b | .lfillm a b _ | .lesum a b _ | .lwaitf _ a b => [a, b]
  | .lfillv a _ | .lfrz _ a | .lfrza a | .lxrd _ a | .lxrdv _ a | .lstat _ a => [a]
  | .lwait _ a b n k => a :: trigRegs b n k
  | .larm d a b n k => a :: trigRegs b n k ++ runRegs d 3
  | .send d a b | .sendF d a b | .sendH d a b => a :: b :: runRegs d 4
  | .sendl d a b _ | .sendlF d a b _ => [a, b, d]
  | .recv _ a | .recvp _ a | .recvN _ a | .recvpN _ a | .vtset a | .migr _ a | .twait a => [a]
  | .spawnFifo d a b | .spawnOrd d a b | .spawnOpt d a b | .spawnL d a b | .spawnC d a b => [a, b, d]
  | .csrw _ a _ | .csrs _ a _ | .csrc _ a _ => [a]
  | .ctxsv d a | .ctxld d a => [a, d]
  | .slotctl _ a b => [a, b]
  | .xinv a b | .cinv a b => [a, b]
  | .shset a _ | .shget a _ | .shadv a _ | .cbset a _ | .cbwf _ a _ | .cbwe a _ | .cbpa a _ | .cbca a _ | .qbindPush _ a _ _ => [a]
  | .mwld t | .mswap t | .mact t | .mdrn t | .mzero t | .msync t | .cpyB t | .cpyC t | .cpyG t | .cpyF t | .crs t | .cag t | .car t
  | .cbc t => t.regs
  | _ => []

/-- The general registers an instruction writes. -/
def Instr.dsts : Instr → List (Fin 32)
  | .add d _ _ | .sub d _ _ | .mul d _ _ | .mulh d _ _ | .mulhn d _ _ | .div d _ _ | .divn d _ _ | .rem d _ _ | .remn d _ _
  | .and d _ _ | .or d _ _ | .xor d _ _ | .andn d _ _ | .orn d _ _ | .sll d _ _ | .srl d _ _ | .sra d _ _ | .ror d _ _
  | .min d _ _ | .max d _ _ | .minn d _ _ | .maxn d _ _ | .slt d _ _ | .sltn d _ _
  | .addW d _ _ | .subW d _ _ | .mulW d _ _ | .mulhW d _ _ | .mulhnW d _ _ | .divW d _ _ | .divnW d _ _ | .remW d _ _ | .remnW d _ _
  | .sllW d _ _ | .srlW d _ _ | .sraW d _ _ | .rorW d _ _ | .minW d _ _ | .maxW d _ _ | .minnW d _ _ | .maxnW d _ _ | .sltW d _ _
  | .sltnW d _ _ | .bfx d _ _ | .bfxn d _ _ | .bfi d _ _ | .hpack d _ _ _ | .sel d _ _ _ => [d]
  | .addi d _ _ | .andi d _ _ | .ori d _ _ | .xori d _ _ | .slti d _ _ | .sltni d _ _ | .slli d _ _ | .srli d _ _ | .srai d _ _
  | .rori d _ _ | .slliW d _ _ | .srliW d _ _ | .sraiW d _ _ | .roriW d _ _ | .clz d _ | .ctz d _ | .popc d _ | .brev d _ | .bswap d _
  | .jalr d _ | .vsetvl d _ _ => [d]
  | .lui d _ | .auipc d _ | .ptog d | .jal d _ | .widf d _ | .csrr d _ => [d]
  | .hparse d _ b _ => [d, b]
  | .ld d _ _ _ | .ldn d _ _ _ | .ldx d _ _ _ => [d]
  | .amoadd d _ _ _ | .amoand d _ _ _ | .amoor d _ _ _ | .amoxor d _ _ _ | .amomin d _ _ _ | .amomax d _ _ _ | .amoswp d _ _ _
  | .amocas d _ _ _ => [d]
  | .lwait d _ _ _ _ | .lwaitf d _ _ | .lfrz d _ | .lxrd d _ | .lstat d _ => [d]
  | .recv d _ | .recvp d _ | .recvN d _ | .recvpN d _ | .migr d _ => [d]
  | .gvtrd d => [d, d + 1]
  | .spawnFifo d _ _ | .spawnOrd d _ _ | .spawnOpt d _ _ | .spawnL d _ _ | .spawnC d _ _ => [d]
  | .csrw d _ _ | .csrs d _ _ | .csrc d _ _ | .ctxsv d _ | .ctxld d _ | .slotctl d _ _ => [d]
  | .cbwf _ a _ => [a]
  | _ => []

end Sys2Proof
end

