-- ==== Sys2Proof/Machine/State.lean ====
section
/-! DEFINITION. The machine's state as plain data: every piece of state the spec gives the package, the cores, the threads,
the engines, the command processor and the Plinth; the fault and refusal names; and the state after reset. -/

namespace Sys2Proof.Machine

/-- Why the machine stops with a fault. -/
inductive Fault
  /-- Raised by `step` where the turn counter names no core (`turn` is 1,536 or more). No run from reset reaches such a state.
  Safe: the hardware has no such state. -/
  | turnOutOfRange
deriving DecidableEq, Repr

/-- Why the model gives no next state. -/
inductive Refusal
  /-- Raised by `exec` for an instruction whose meaning is not written yet. Safe. -/
  | notModelled (mnemonic : String)
deriving DecidableEq, Repr

/-! ## Thread and slot -/

/-- Slot states (Table 1.4), with `reserved` for a slot kept for a grant or a migration intake, which reads as EMPTY (R375). -/
inductive SlotState | empty | run | busy | park | trap | save | reserved
deriving DecidableEq, Repr

/-- A shape record: base, extents, strides in elements, cursor (R24, Table 1.10). -/
structure Shape where
  base : Word
  ext : Vector (BitVec 32) 4
  str : Vector (BitVec 32) 4
  cur : Vector (BitVec 32) 4
deriving DecidableEq, Repr

/-- A queue binding of one of g28 to g31 (Table 1.9), with its end-of-stream predicate (R63). -/
structure Binding where
  cb : Fin 32
  push : Bool
  bound : Bool
  core : Nat
  pred : Fin 16
  /-- The core that bound it (R63). -/
  src : Nat
deriving DecidableEq, Repr

/-- The architectural state of a thread (R24, Table 1.6). Vector registers and masks have the K8 width; a K7 core uses the low half. -/
structure Thread where
  g : Vector Word 32
  p : BitVec 16
  pc : Word
  v : Vector (BitVec 1024) 16
  m : Vector (BitVec 128) 8
  sh : Vector Shape 8
  vl : Word
  rcnt : Word
  fmt : Vector Word 4
  fsc : Vector Word 4
  seed : Word
  lvt : Word
  vtwin : Word
  stwb : Word
  stwl : Word
  widl : Word
  mpin : Bool
  imode : IMode
  codelet : Bool
  bind : Vector Binding 4
deriving DecidableEq, Repr

/-- What a BUSY thread waits for (R18, R21, R22). -/
inductive BusyWhy
  /-- Nothing more: its completion is due. -/
  | completing
  /-- A miss of its instruction fetch (R181). -/
  | fetch
  /-- A VPOLY table load (R255). -/
  | coef
  /-- The next element of a VREDQ, before which it may be interrupted (R107). -/
  | elements
  /-- The local-memory lock (R18, R98). -/
  | lmx
  /-- A remote word access at another home (R40). -/
  | remote
  /-- A locality migration under way, with the homes of the remote word accesses that follow where it is refused (R40). -/
  | locality (words : List Nat)
  /-- Replies to its posted operations: all of them, or room for a seventeenth (R194, R196). -/
  | replies (all : Bool)
  /-- Its uncommitted history to empty (CMTW, EXIT, MIGR: R216, R220). -/
  | history
  /-- Its MXU commands to complete (EXIT: R220). -/
  | mxu
  /-- A free entry of a tile-command queue: engine 0, 1 or 2 (R273). -/
  | queue (engine : Nat)
  /-- A free commit-queue entry (R80). -/
  | commit
  /-- Room in the home's waiter spill region (R360). -/
  | spill
  /-- An arena freeze under way (R204). -/
  | freeze (asid arena : Nat)
  /-- Page changes of a PUBLISH still to make (R186). -/
  | publish (pages : Nat)
  /-- A free completion entry for SPAWN.L (R347). -/
  | accept
  /-- Room in the buffer for CBEOS (R13). -/
  | room (cb : Fin 32)
  /-- An event for WFI (R230). -/
  | event
  /-- The save that CTXSV began (R231). -/
  | save
  /-- A Welsa port that is down; 8 stands for a device that no VALID route leads to, 9 for a compute die that
  is cut off (R390, R395, R396). -/
  | port (p : Nat)
deriving DecidableEq, Repr

/-- What a PARK thread waits for (R21, Table 12.5). -/
inductive ParkWhy
  /-- A lattice cell: the trigger set, and the instruction as WKIND of Table 12.5 (0 LWAIT, 1 LWAITF, 2 LXRD, 3 GBAR). -/
  | cell (kind : Nat) (asid : Nat) (va : Word) (t : Trig)
  | recv
  | recvN
  | filled (core : Nat) (cb : Fin 32) (k : Nat)
  | free (core : Nat) (cb : Fin 32) (k : Nat)
  | bound (core : Nat) (cb : Fin 32) (push : Bool)
  | time (t : Nat)
deriving DecidableEq, Repr

/-- A pending refusal of a posted operation: cause code, tval, PC of the refused operation (R195, R277). -/
structure Refused where
  code : Nat
  tval : Word
  pc : Word
deriving DecidableEq, Repr

/-- What is deferred for a slot in TRAP or SAVE, or for a task that is not on a core (R22, R101, R106). -/
inductive Deferred
  | wake (w : Wake)
  | rollback (k : Key) (anti : Bool)
  | stop
deriving DecidableEq, Repr

/-- A slot of a core: its state, its thread and the thread's dispatch data, its bank of CSRs (R96, Table 8.9), and what is
outstanding or pending at it. -/
structure Slot where
  st : SlotState
  th : Thread
  /-- Whether the thread belongs to a launch (the system slot's firmware does not, R369). -/
  launched : Bool
  task : TaskId
  asid : Nat
  /-- Owner tag (R34). -/
  owner : Nat
  prio : Nat
  /-- The thread came from another core, or its recorded grant lies on one: its local-window accesses go to the granting core and are checked
  against that grant, not against this slot's registers (R43, R375). -/
  moved : Bool
  /-- The format records kept with the slot; `none` where the shadow is unused or refused (R122). -/
  recs : Vector (Option Nat) 4
  /-- Save area of a codelet (R325). -/
  area : Option Nat
  /-- The instruction outstanding in BUSY or PARK. -/
  out : Option Instr
  busy : BusyWhy
  park : ParkWhy
  /-- Turns and cycles spent in PARK (R324; monitor source 0x02). -/
  parkTurns : Nat
  parkAt : Nat
  /-- gtime at which a wait at the home for spill room began (R360). -/
  waitAt : Nat
  /-- Home cores of the posted operations without a reply (R194). -/
  posted : List Nat
  refused : List Refused
  /-- A machine check waiting for the boundary: SUB and tval (R94). -/
  mcheck : Option (Nat × Word)
  dstop : Bool
  timer : Bool
  /-- TRAP was entered from PARK (R374). -/
  fromPark : Bool
  deferred : List Deferred
  /-- The trigger set of the last threshold read or arming sent to its home: its local operands are read at issue (R205). -/
  trig : Option Trig
  /-- A vector access that has consulted the migration predictor and issues again (R260). -/
  consulted : Bool
  /-- GRANT events of earlier reservations of the slot that still stand in the event queue (R372). -/
  oldGrants : Nat
  /-- Home core of the last remote access (R40). -/
  lastHome : Option Nat
  /-- The die to which the thread migrated for capability (R40, R113). -/
  capDie : Option Nat
  /-- gtime of the migrate trap of a thread that has not issued since (monitor source 0x03). -/
  migrAt : Option Nat
  /-- What the Derailleur moves the thread in TRAP to: a core number or a die with 2,048 added for an accepted MIGR (R225), an absent
  group with 4,096 added for a migrate trap (R112). -/
  migrTo : Option Nat
  /-- The recorded grant of a codelet that has left its first slot (core, base, length). -/
  grantRec : Option (Nat × Nat × Nat)
  /-- Reserved for this task's image or grant (R372, R375). -/
  resv : Option QEntry
  /-- The save under way: address of the area and of the descriptor CTXSV named (zero for a save into the context cache), and WHY (R105). -/
  saveAt : Option (Word × Word × Nat)
  cause : Word
  epc : Word
  tval : Word
  insn : Bool
  quantum : Word
  grbase : Word
  grlen : Word
  lfpc : Word
deriving DecidableEq, Repr

/-! ## Core -/

/-- A circular-buffer descriptor (Table 2.7), with the token bits of its slots (R62) and the element positions of a partly popped
and a partly pushed slot (R63, R269). -/
structure Cb where
  base : Nat
  slotsz : Nat
  nslotm1 : Nat
  pptr : Nat
  cptr : Nat
  filled : Nat
  pkind : Nat
  eos : Bool
  en : Bool
  srccore : Nat
  haddr : Word
  /-- Slot index of the token, if one stands in the ring. -/
  token : Option Nat
  popPos : Nat
  pushPos : Nat
  /-- The task that enabled it (R378). -/
  user : Option TaskId
  /-- Saved and cleared with a reclaimed grant: channel writes aimed at it are held (R109). -/
  reclaimed : Bool
deriving DecidableEq, Repr

/-- A system event: a trap of a slot, a wake event with its kind and word, or a waiter scan request, which carries the cell's address space
beside its address (R97, R377, Tables 4.4 and 16.1). -/
inductive SysEvent
  | trap (slot : Fin 16)
  | wake (sub : Nat) (tval : Word)
  | scan (asid : Nat) (tval : Word)
deriving DecidableEq, Repr

/-- A tile command in a queue, with its substitutions resolved, and what it carries of its issuer. -/
structure QCmd where
  op : TileOp
  t : TWord
  slot : Fin 16
  task : TaskId
  /-- Whether a codelet issued it. -/
  codelet : Bool
  pc : Word
  asid : Nat
  owner : Nat
  seed : Word
  /-- The format record of an MDRN (R288). -/
  frec : Nat
  /-- Applied from the commit queue, with the entry's tag VT (R81, R277). -/
  held : Option Nat
  /-- gtime of issue (monitor source 0x04). -/
  at_ : Nat
  /-- The index list of a CPY.G, read at its start (R295). -/
  idx : List Byte
  /-- The slot size that a CPY.C met at its first slot (R277). -/
  sb : Nat
  /-- The byte stream the command has read and not yet placed (R291). -/
  stream : List Byte
  /-- Rows, stream bytes or slots already done. -/
  done : Nat
  /-- The Welsa port for which a transfer of the command waits, and since when (R396). -/
  away : Option (Nat × Nat)
deriving DecidableEq, Repr

/-- What a commit-queue entry holds (R79, R80). -/
inductive CommitAct
  | lattice (r : LatReq)
  | send (m : Msg)
  | host (m : HostMsg)
  | tile (c : QCmd)
deriving DecidableEq, Repr

/-- A commit-queue entry (R80). -/
structure CommitEntry where
  task : TaskId
  slot : Fin 16
  pc : Word
  tag : Key
  act : CommitAct
deriving DecidableEq, Repr

/-- An output-log entry: destination, VT, SWID and SEQ of a tentative send (R78). -/
structure SentLog where
  dwid : Word
  vt : Nat
  swid : Word
  seq : Nat
deriving DecidableEq, Repr

/-- An epoch of the Maquette: the message dequeued, the snapshot, the undo records (newest first), the output log, and the key of the message
dequeued before it, which the task's actions carry again after a rollback (R75, R76, R80). -/
structure Epoch where
  msg : Msg
  snap : Thread
  undo : List (Nat × List Byte)
  log : List SentLog
  prev : Option Key
  /-- The entry of the core's overflow region that the message keeps on the processed side of the inbox; a hardware entry otherwise (R73, R82). -/
  region : Option (Nat × Nat)
deriving DecidableEq, Repr

/-- A context image held in a context-cache entry or in flight: its bytes and where they are to go (R103, R105). -/
structure CtxEntry where
  task : TaskId
  /-- What follows a codelet; none for a task. -/
  let_ : Option LetRec
  prio : Nat
  img : List Byte
  /-- Slot the state came from (a save) or goes to (an intake). -/
  slot : Fin 16
  why : Nat
  incomplete : Bool
  /-- For a save to memory: the address of the area and of the descriptor that CTXSV named, and the address space it is translated in. -/
  dest : Option (Word × Word × Nat)
  /-- The records that follow the image of a reclaim (R108). -/
  tail : List Byte
  /-- Target of a migration, as `Slot.migrTo`. -/
  target : Option Nat
  /-- The check codes of a migration's flits (R112, R386). -/
  checks : List Nat
  /-- The sweep colour that a migration was sent under (R89). -/
  colour : Bool
deriving DecidableEq, Repr

/-- A waiter or arming entry at a home (R52, R207, Table 15.12). -/
structure Waiter where
  asid : Nat
  va : Word
  trig : Trig
  /-- 0 LWAIT, 1 LWAITF, 2 LXRD or LXRDV, 3 GBAR. -/
  kind : Nat
  /-- An arming entry of LARM: codelet PC, argument, priority, lvt. -/
  arm : Option (Word × Word × Nat × Word)
  /-- The waiter's core, or the codelet's target core. -/
  core : Nat
  slot : Fin 16
  task : TaskId
  pc : Word
  /-- The record of the waiter spill region that it takes, and the arena number of its cell when it was written (R360). -/
  spill : Option (Nat × Nat)
deriving DecidableEq, Repr

/-- A coefficient table held in a core's coefficient store (R254). -/
structure CoefTable where
  asid : Nat
  va : Word
  bytes : List Byte
deriving DecidableEq, Repr

/-- A copy of 32 bytes of frozen data: a line of an L1 instruction cache or of a remote-data cache (R42, R181), with its side-band bits: the state
codes of its words and the check code (R47, R386). -/
structure ILine where
  asid : Nat
  va : Nat
  bytes : List Byte
  codes : Nat
  check : Nat
deriving DecidableEq, Repr

/-- A line of a core's L1 data cache: 32 bytes with one valid bit per 8-byte word (R41). The bytes of a copy of frozen data stand in it; those of a
PRIVATE line, which the home core's L1 and L2 slice hold as one store (R40), are the memory's. -/
structure DLine where
  asid : Nat
  va : Nat
  frozen : Bool
  valid : Fin 16
  bytes : List Byte
  /-- Side-band bits of a frozen copy, as of an `ILine`. -/
  codes : Nat
  check : Nat
deriving DecidableEq, Repr

/-- A 256-byte block of an L2 slice, by physical address / 256, with one valid bit per 32-byte sector (R41). -/
structure L2Block where
  block : Nat
  valid : Nat
deriving DecidableEq, Repr

/-- An SRAM array other than local memory, whose words of 8 bytes carry SECDED (R388): a core's L1 data or instruction cache or its L2 slice, a die's
remote-data cache, a cluster's accumulators, a core's coefficient store. -/
inductive Sram
  | l1 (core : Nat)
  | l1i (core : Nat)
  | l2 (core : Nat)
  | rdc (die : Nat)
  | acc (cluster : Nat)
  | coef (core : Nat)
deriving DecidableEq, Repr

/-- Whether an array is an L2 slice. -/
def Sram.slice : Sram → Bool
  | .l2 _ => true
  | _ => false

/-- A core (R2, R15). -/
structure Core where
  slots : Vector Slot 16
  lmem : List Host.Cell
  /-- Local-memory words of 8 bytes that hold an uncorrectable SRAM error, by offset / 8 (R388). -/
  upset : List Nat
  /-- Granules of local memory, by offset / 32, whose check code does not match (R386, R387). -/
  spoilt : List Nat
  cbs : Vector Cb 32
  srpc : Word
  evbase : Word
  trctl : Bool
  eie : Bool
  lmx : Bool
  hslot : Fin 16
  /-- System-slot instructions issued while LMX is 1 (R98). -/
  lmxCount : Nat
  events : List SysEvent
  /-- Whether the event being handled is a waiter scan of this ASID (R377). -/
  scanAsid : Option Nat
  /-- The slot whose GRANT event is being handled (R372), and the hold-off of a refused grant: not before this gtime. -/
  granting : Option (Fin 16)
  grantHold : Option Nat
  /-- No eviction before this gtime: one was refused because the context cache was blocked (R324). -/
  evictHold : Nat
  /-- Whether the system slot has ever set EIE (R369). -/
  started : Bool
  dead : Bool
  /-- Field-layout table, descriptor k of layout n at 8n + k, and the launch whose image it holds (R171). -/
  layout : Vector (BitVec 16) 64
  layoutOf : Option Nat
  /-- Whether HLTW has changed the table since (R171). -/
  layoutDirty : Bool
  predictor : Vector (Fin 4) 64
  mxq : List QCmd
  /-- Commands of threads that wait BUSY for a queue entry, in the order of their issue turns (R29, R273). -/
  tileWait : List QCmd
  copyq : List QCmd
  /-- Copy commands in progress, at most four (R291). -/
  copying : List QCmd
  collq : List QCmd
  commitq : List CommitEntry
  cache : List CtxEntry
  intake : List CtxEntry
  runq : List QEntry
  /-- Codelets saved by CTXSV, with the address of their area: they have no directory entry. -/
  heldLets : List (Word × QEntry)
  coefs : List CoefTable
  /-- The L1 instruction cache, newest line first (R2, R181). -/
  icache : List ILine
  /-- The L1 data cache and the L2 slice, newest first (R2, R41). -/
  dcache : List DLine
  l2 : List L2Block
  waiters : List Waiter
  spilled : List Waiter
  /-- Messages and notices at the core's ingress for want of overflow room, with the gtime each came (R359). -/
  ingress : List (Msg × Nat)
  /-- Channel slots held before a landing buffer, and the buffer whose handler runs, with whether it handles a token (R294). -/
  landing : List ChanSlot
  landingCb : Option (Fin 32 × Bool)
  /-- Channel slots refused for a reclaimed task, kept by the sender (R109). -/
  heldSlots : List ChanSlot
  /-- Last writer of each traced sector (R308). -/
  lastWriter : Tbl (Nat × Nat)
  trbase : Word
  trsize : Word
  trtail : Word
  trhead : Word
  trlost : Word
  iobase : Word
  iosize : Word
  wsbase : Word
  wssize : Word
deriving DecidableEq, Repr

/-! ## Cluster -/

/-- A weight plane (R280): the weight and metadata bytes of its image (bytes past the end are zero), scales, TAG, WTYPE, SPARSE. -/
structure Plane where
  img : List Byte
  scale0 : Nat
  scale1 : Nat
  tag : Nat
  wtype : Nat
  sparse : Bool
deriving DecidableEq, Repr

/-- A cluster's MXU and arbiter (R30, R31, R280). Accumulators are keyed (core × 128 + row) × 256 + column; an unlisted one is +0. -/
structure Mxu where
  active : Plane
  shadow : Plane
  acc : Tbl (BitVec 32)
  mxwt : BitVec 32
  credit : Vector Nat 8
  p : Fin 8
  /-- The command selected and its core in the cluster (R281). -/
  running : Option (Fin 8 × QCmd)
deriving DecidableEq, Repr

/-! ## Tasks, launches, command processor -/

/-- Where a task is (Table 4.6a). -/
inductive Place
  /-- In a scheduler queue, not yet placed. -/
  | queued
  | on (core : Nat) (slot : Fin 16)
  /-- Swapped out on a core; its image stands in the context cache or in its save area. -/
  | out (core : Nat)
  /-- Held by the firmware of a core with the descriptor at this address (R374). -/
  | held (core : Nat) (desc : Word) (area : Word)
  /-- Reclaimed (R108). -/
  | reclaimed (core : Nat)
  | migrating
  | exited
deriving DecidableEq, Repr

/-- A message in an inbox, with the core and the entry where it stands in an overflow region (R73, R359). -/
structure InMsg where
  msg : Msg
  region : Option (Nat × Nat)
deriving DecidableEq, Repr

/-- A task-directory entry (R101, R104): the task's place, inbox, notices, history and counters. -/
structure Task where
  id : TaskId
  place : Place
  spawned : Bool
  imode : IMode
  prio : Nat
  owner : Nat
  seq : Nat
  episode : Vector Nat 6
  pending : Vector Bool 6
  area : Option Nat
  /-- The recorded grant: core, base, length (R372). -/
  grant : Option (Nat × Nat × Nat)
  /-- Unprocessed messages and waiting anti-messages, earliest arrival first. -/
  inbox : List InMsg
  notices : List InMsg
  /-- Held messages: tentative to a FIFO or exited task, or for a task in migration or TRAP (R74, R101). -/
  hold : List Msg
  epochs : List Epoch
  lastKey : Option Key
  refused : List Refused
  /-- Home cores of posted operations without a reply while the task is not in a slot (R161). -/
  posted : List Nat
  deferred : List Deferred
  /-- The image's PARKED bit, lvt and why the task waits, while it is not in a slot. -/
  parked : Bool
  lvt : Word
  vtwin : Word
  parkWhy : ParkWhy
  /-- A READY event has been posted (R374). -/
  ready : Bool
  /-- End-of-stream predicates and binding cores of its bindings while it is not in a slot. -/
  preds : List (Fin 16 × Nat)
  /-- A machine check not yet taken, the die it migrated to for capability, and when it took its migrate trap, while it is not in a slot. -/
  mcheck : Option (Nat × Word)
  capDie : Option Nat
  migrAt : Option Nat
deriving DecidableEq, Repr

/-- A dependence entry (Table 12.2). -/
structure Dep where
  handle : Nat
  arena : Bool
  mode : Nat
deriving DecidableEq, Repr

/-- The state of a launch at the command processor. -/
inductive LState
  /-- Accepted, waiting for its dependences or an Odometer slot. -/
  | waiting
  | live
  | stopped (k : StopKind)
  | ended
deriving DecidableEq, Repr

/-- A launch (R313 to R317, R328, R347), from acceptance to its completion record. -/
structure Launch where
  /-- Acceptance order, by which a launch without a number is named. -/
  key : Nat
  num : Nat
  /-- The 128-byte header (Table 12.1). -/
  hdr : BitVec 1024
  arg : Word
  fmt : Vector Word 4
  fsc : Vector Word 4
  deps : List Dep
  asid : Nat
  queue : Nat
  wqidx : Nat
  /-- SPAWN.L created it (R347). -/
  ofDevice : Bool
  st : LState
  odo : Option Nat
  /-- The package of its origin, where that is another one, whose root decides for it (R92). -/
  guest : Option Nat
  /-- The other packages that it is known to span: those that have exchanged a tracked transfer or a sweep report for it (R92). -/
  peers : List Nat
  /-- This package's own report of a sweep whose result waits for theirs (R92). -/
  due : Option SweepFlit
  gvt : Nat
  hzn : Nat
  /-- Sent and received counts of the two colours (R89). -/
  sent : Nat × Nat
  recv : Nat × Nat
  /-- The least VT of the messages sent under each colour since it came into force (R89). -/
  sentVt : Nat × Nat
  /-- Whether the last sweep balanced, and whether it found the launch idle or stalled (R90, R91). -/
  balanced : Bool
  sawEnd : Bool
  sawStall : Bool
  /-- Save areas taken (R325). -/
  areas : List Nat
  /-- Counts of its barrier cells, by their number in the barrier arena (R322). -/
  barrier : Tbl Nat
  /-- Work identifiers spawned (R218). -/
  spawned : List Word
  /-- Messages held for work identifiers not yet placed (R399). -/
  unplaced : List Msg
  first : Option Report
  others : Nat
  withdrawn : Nat
  waiting : List (List Byte)
  stops : Nat
deriving DecidableEq, Repr

/-- A registered arena: the descriptor of Table 2.3, with the number of slices still to freeze and the launches that froze it. -/
structure Arena where
  asid : Nat
  num : Nat
  kind : Nat
  size : Nat
  gbits : Nat
  fbits : Nat
  st : Nat
  base : Nat
  len : Nat
  nconf : Nat
deriving DecidableEq, Repr

/-- A buffer-table entry: handle, range, ASID, last writer and readers (R310). -/
structure Buffer where
  handle : Nat
  arena : Bool
  asid : Nat
  va : Nat
  len : Nat
  writer : Option Nat
  readers : List Nat
deriving DecidableEq, Repr

/-- A work-queue control page (Table 15.3). -/
structure WqPage where
  ctl : Word
  base : Word
  size : Word
  tail : Word
  head : Word
  cqbase : Word
  cqsize : Word
  cqtail : Word
  cqhead : Word
  hmbase : Word
  hmsize : Word
  hmtail : Word
  hmhead : Word
  rpbase : Word
  rpsize : Word
  rptail : Word
  rphead : Word
  err : Word
deriving DecidableEq, Repr

/-- The package registers of Table 15.2 other than PKGID, GTIME and KEYSEL. -/
structure Regs where
  bootst : Word
  ascbase : Word
  habase : Word
  welsaid : Word
  odoctl : Word
  dccmd : Word
  dcarg0 : Word
  dcarg1 : Word
  dcarg2 : Word
  dcres : Word
  dcbusy : Bool
  dcover : Bool
  dcstatus : Nat
  elbase : Word
  elsize : Word
  eltail : Word
  elhead : Word
  elctl : Word
  ellost : Word
  keysel : Vector Word 24
deriving DecidableEq, Repr

/-- Fleet registers (Table 17.1). -/
structure Fleet where
  scrubctl : Word
  scrubcnt : Word
  pwrcap : Word
  pwrnow : Word
  repgrp : Word
  diglast : Word
  wroute : Vector Word 64
  wring : Vector Word 16
deriving DecidableEq, Repr

/-- A link's status: STATE, far device, CRCERR, LLRETRY, REPLAY (Tables 15.9, 17.5). -/
structure Link where
  st : Nat
  peer : Nat
  crcerr : Nat
  llretry : Nat
  replay : Nat
deriving DecidableEq, Repr

/-- A monitor capture unit (Table 17.2). -/
structure Capture where
  ctl : Word
  min : Nat
  max : Nat
  cnt : Nat
  drop : Nat
  per : Nat
  hist : Vector Nat 32
  /-- The gtime of the last CLR: a sample of the same cycle is left unrecorded (R385). -/
  clearedAt : Option Nat
deriving DecidableEq, Repr

/-- A bucket in progress on a collective ring (R298, R299). -/
structure Bucket where
  core : Nat
  cmd : QCmd
  ring : Nat
  bucket : Nat
  nmem : Nat
  rank : Nat
  root : Nat
  scale : Nat
  member : List Nat
  count : Nat
  /-- Local blocks as formed: growth exponent and 32 elements each. -/
  blocks : List (Nat × List Byte)
  /-- The blocks met from the ring: block number and phase (R137). -/
  met : List (Nat × Bool)
  /-- Blocks received so far of each phase, and final blocks written. -/
  gotReduce : Nat
  gotSpread : Nat
  wrote : Nat
  /-- Final blocks whose write waits for a Welsa port: block, growth exponent, elements; the port, and since when (R396). -/
  late : List (Nat × Nat × List Byte)
  away : Option (Nat × Nat)
deriving DecidableEq, Repr

/-- An entry of a die's translation cache: address space, 4 KiB virtual page number, page-table entry and where it stands, and the die (R2,
R234). -/
structure TEntry where
  asid : Nat
  page : Nat
  pte : Nat
  at_ : Nat
  die : Nat
deriving DecidableEq, Repr

/-- The digest command waiting for its peers, and messages held (R392). -/
structure DigestWait where
  asid : Nat
  step : Nat
  digest : Word
  since : Nat
  differs : Option Word
  heard : List Nat
deriving DecidableEq, Repr

/-- An answer of the SPDM responder on the DOE mailbox (R365). -/
inductive SpdmResp
  | version
  | capabilities
  | algorithms
  | digests (d : List Byte)
  | certificate (c : List Byte)
  | challengeAuth (sig : List Byte)
  | measurements (m : List (Nat × Nat))
  | error
deriving DecidableEq, Repr

/-- The package (R1). Tables are sparse: an unlisted core, cluster, queue page, capture unit or link holds its reset value. -/
structure State where
  /-- The package time base (R15). -/
  gtime : Nat
  /-- The core whose turn is next in this cycle (the model's own: issuers of one cycle in core order, R30, R54). -/
  turn : Nat
  /-- Events in transit and inputs, first to take effect first (the model's own). -/
  agenda : List Event
  /-- Reads of free values so far (the model's own counter; see Config.freeWord). -/
  free : Nat
  powered : Bool
  /-- How the boot under way fails, where it does (R364). -/
  bootFail : Option BootFail
  /-- HBM bytes; an unlisted byte is zero (R364 step 5). -/
  mem : List Host.Cell
  /-- Lattice state codes of 8-byte words, keyed physical address / 8; an unlisted code is OPEN (R47). -/
  codes : Tbl (Fin 8)
  /-- Poisoned granules, keyed physical address / 32 (R389). -/
  poison : List Nat
  /-- Words with an uncorrectable error in SRAM arrays other than local memory: the array and the word's key in it (R388). -/
  upsets : List (Sram × Nat)
  /-- Key under which a granule was last written, keyed physical address / 32: group + 16 × version; unlisted 0 (R367). -/
  gkey : Tbl Nat
  /-- Version of each group's key, raised by ROTKEY (R367). -/
  keyVer : Vector Nat 16
  cores : Tbl Core
  mxus : Tbl Mxu
  tasks : List Task
  launches : List Launch
  nextKey : Nat
  nextNum : Nat
  arenas : List Arena
  buffers : List Buffer
  nextHandle : Nat
  /-- 4 KiB pages, by physical address / 4,096, that the host has written since the last launch was dispatched (Table 11.3a). -/
  hostPages : List Nat
  /-- Which launches have had the report of a CONFLICT cell: ASID, cell address, launch (R48). -/
  reported : List (Nat × Nat × Nat)
  /-- Arena spill bits: home core × 4,096 + arena number (R360). -/
  spillBits : List Nat
  /-- Ready queues of the eight dies (R317). -/
  ready : Vector (List QEntry) 8
  /-- Last steal request of each thief to each victim: thief × 8 + victim (R323), and requests outstanding. -/
  steals : Tbl Nat
  stealing : Vector Bool 8
  /-- Host messages waiting for ring room (R349). -/
  hostMsgs : List HostMsg
  /-- Translations held by the home translation units, newest first (R234). -/
  tcache : List TEntry
  /-- The remote-data cache of each die: copies of frozen lines of other dies, newest first (R2, R42). -/
  rdc : Tbl (List ILine)
  wq : Tbl WqPage
  regs : Regs
  fleet : Fleet
  /-- UCIe modules 0 to 31 (die × 4 + module) and Welsa ports at 32 to 39. -/
  links : Tbl Link
  captures : Tbl Capture
  /-- Replays and corrected HBM errors for the level sources of the monitors: source, die, gtime, newest first (Table 17.3). -/
  counted : List (Nat × Nat × Nat)
  /-- Compute dies cut off from every I/O die and neighbour since power-on (R362, R390). -/
  cutDies : List Nat
  buckets : List Bucket
  /-- Wire blocks that arrived before their command (R298), and blocks that left through a Welsa port. -/
  early : List WireBlock
  sentBlocks : List WireBlock
  /-- Blocks that wait for a Welsa port that is down: port, launch, gtime (R396). -/
  portWait : List (Nat × Nat × Nat × WireBlock)
  /-- Lattice requests that wait for a Welsa port that is down: port, gtime (R396). -/
  latWait : List (Nat × Nat × LatReq)
  /-- Sweep number and when the next sweep may start (R89, R93). -/
  sweep : Nat
  sweepAt : Nat
  /-- Reports of other package roots held for the sweep, and the control flits that left (R92). -/
  flits : List SweepFlit
  sentFlits : List SweepFlit
  /-- Control flits that wait for a Welsa port that is down: port, gtime (R396). -/
  flitWait : List (Nat × Nat × SweepFlit)
  digest : Option DigestWait
  /-- Digests that left for a peer: peer, group, step, digest; and those that wait for its port, with since when (R392, R396). -/
  sentDigests : List (Nat × Nat × Nat × Word)
  heldDigests : List (Nat × Nat × Nat × Word × Nat)
  /-- Peer digests held: peer, group, step, digest (R392). -/
  peers : List (Nat × Nat × Nat × Word)
  /-- Class of each unconsumed error record, oldest first, for ERRSUM (R368). -/
  errClasses : List Nat
  msixTable : Tbl Word
  msixPending : List Nat
  /-- Boot measurements by index (Table 15.10) and the last SPDM answer (R365). -/
  measures : List (Nat × Nat)
  spdm : Option SpdmResp
  /-- The last answer to a read by the host on CXL.mem, or to a read of a register that is no whole aligned word: the bytes, or poison (R343, R344,
  R387). -/
  hostRead : Option (List Byte)
  /-- Whether the power cap slows MXU and copy rates (R380). -/
  throttled : Bool
deriving DecidableEq, Repr

/-! ## Reset -/

/-- A shape record of a thread that has set none (R26). -/
def Shape.zero : Shape := ⟨0, .replicate 4 0, .replicate 4 0, .replicate 4 0⟩

/-- An unbound register (Table 1.9). -/
def Binding.none : Binding := ⟨0, false, false, 0, 0, 0⟩

/-- A thread with every register zero; p0 and m0 read as ones through the accessors (R24). -/
def Thread.zero : Thread :=
  { g := .replicate 32 0, p := 0, pc := 0, v := .replicate 16 0, m := .replicate 8 0, sh := .replicate 8 Shape.zero, vl := 0,
    rcnt := 0, fmt := .replicate 4 0, fsc := .replicate 4 0, seed := 0, lvt := 0, vtwin := 0, stwb := 0, stwl := 0, widl := 0,
    mpin := false, imode := .fifo, codelet := false, bind := .replicate 4 Binding.none }

/-- An EMPTY slot with its bank zero (R369, Table 8.9). Its `task` names launch 4,096, a number no launch has. -/
def Slot.reset : Slot :=
  { st := .empty, th := Thread.zero, launched := false, task := ⟨4096, 0⟩, asid := 0, owner := 0, prio := 0, moved := false,
    recs := .replicate 4 none, area := none, out := none, busy := .completing, park := .recv, parkTurns := 0, parkAt := 0,
    waitAt := 0, posted := [], refused := [], mcheck := none, dstop := false, timer := false, fromPark := false,
    deferred := [], trig := none, consulted := false, oldGrants := 0, lastHome := none, capDie := none, migrAt := none, migrTo := none, grantRec := none, resv := none, saveAt := none, cause := 0,
    epc := 0, tval := 0, insn := false, quantum := 0, grbase := 0, grlen := 0, lfpc := 0 }

/-- A disabled descriptor (Table 2.7). -/
def Cb.reset : Cb := ⟨0, 0, 0, 0, 0, 0, 0, false, false, 0, 0, none, 0, 0, none, false⟩

/-- A core at reset: every slot EMPTY, status EIE, LMX and DEFW 0, HSLOT 0 (Table 4.5), local memory zero. -/
def Core.reset : Core :=
  { slots := .replicate 16 Slot.reset, lmem := [], upset := [], spoilt := [], cbs := .replicate 32 Cb.reset, srpc := 0, evbase := 0, trctl := false,
    eie := false, lmx := false, hslot := 0, lmxCount := 0, events := [], scanAsid := none, granting := none, grantHold := none, evictHold := 0,
    started := false, dead := false, layout := .replicate 64 0, layoutOf := none, layoutDirty := false, predictor := .replicate 64 0, mxq := [], tileWait := [],
    copyq := [], copying := [], collq := [], commitq := [], cache := [], intake := [], runq := [], heldLets := [], coefs := [], icache := [], dcache := [], l2 := [],
    waiters := [], spilled := [], ingress := [], landing := [], landingCb := none, heldSlots := [], lastWriter := [], trbase := 0,
    trsize := 0, trtail := 0, trhead := 0, trlost := 0, iobase := 0, iosize := 0, wsbase := 0, wssize := 0 }

/-- A plane of zero weights (R280). -/
def Plane.zero : Plane := ⟨[], 0, 0, 0, 0, false⟩

/-- A cluster's MXU at reset: zero planes and accumulators, every weight and credit one, p = 0 (R31, R280, Table 1.11). -/
def Mxu.reset : Mxu := ⟨Plane.zero, Plane.zero, [], 0x11111111#32, .replicate 8 1, 0, none⟩

/-- A work-queue page at reset (Table 15.3). -/
def WqPage.reset : WqPage := ⟨0, 0, 0, 0, 0, 0, 0, 0, 0, 0, 0, 0, 0, 0, 0, 0, 0, 0⟩

/-- Package registers at reset (Table 15.2; ODOCTL EN 1, PERIOD 50, Table 3.4). -/
def Regs.reset : Regs :=
  { bootst := 0, ascbase := 0, habase := 0, welsaid := 0, odoctl := 0x321#64, dccmd := 0, dcarg0 := 0, dcarg1 := 0, dcarg2 := 0,
    dcres := 0, dcbusy := false, dcover := false, dcstatus := 0, elbase := 0, elsize := 0, eltail := 0, elhead := 0, elctl := 0,
    ellost := 0, keysel := .replicate 24 0 }

/-- Fleet registers at reset (Table 17.1). -/
def Fleet.reset : Fleet := ⟨0x180001#64, 0, 2200, 0, 0x1000000000000#64, 0, .replicate 64 0, .replicate 16 0⟩

/-- A link at reset (Tables 15.9, 17.5). -/
def Link.reset : Link := ⟨0, 0, 0, 0, 0⟩

/-- A capture unit at reset: CORE 0x7FF, MIN all ones, PER 1 (Table 17.2). -/
def Capture.reset : Capture := ⟨0x7FF00000000#64, 0xFFFFFFFF, 0, 0, 0, 1, .replicate 32 0, none⟩

/-- The machine right after reset: power is applied, every die but the Plinth is held in reset and the boot has not begun (R364),
every register has its "At reset" value, memory lists nothing. -/
def State.reset : State :=
  { gtime := 0, turn := 0, agenda := [], free := 0, powered := true, bootFail := none, mem := [], codes := [], poison := [], upsets := [], gkey := [],
    keyVer := .replicate 16 0, cores := [], mxus := [], tasks := [], launches := [], nextKey := 0, nextNum := 0, arenas := [],
    buffers := [], nextHandle := 1, hostPages := [], reported := [], spillBits := [], ready := .replicate 8 [], steals := [],
    stealing := .replicate 8 false, hostMsgs := [], tcache := [], rdc := [], wq := [], regs := Regs.reset, fleet := Fleet.reset,
    links := [], captures := [], counted := [], cutDies := [], buckets := [], early := [], sentBlocks := [], portWait := [], latWait := [], sweep := 0, sweepAt := 0, flits := [], sentFlits := [], flitWait := [], digest := none, sentDigests := [], heldDigests := [],
    peers := [], errClasses := [], msixTable := [], msixPending := [], measures := [], spdm := none, hostRead := none,
    throttled := false }

end Sys2Proof.Machine
end

