-- ==== Sys2Proof/Machine/Ops.lean ====
section
/-! DEFINITION. The named operations over memory, slots and queues that every meaning is written in; taking an exception and
returning from one; the outcome of an instruction. -/

namespace Sys2Proof.Machine

/-! ## Byte memory in canonical form -/

/-- The byte at an address of a byte memory; an unlisted byte is zero. -/
def Mem.get : List Host.Cell → Nat → Byte
  | [], _ => 0
  | (a', b) :: m, a => if a' = a then b else Mem.get m a

/-- A byte memory with one byte written: addresses stay rising and no zero byte is listed. -/
def Mem.set : List Host.Cell → Nat → Byte → List Host.Cell
  | [], a, b => if b = 0 then [] else [(a, b)]
  | (a', b') :: m, a, b =>
    if a' = a then (if b = 0 then Mem.set m a b else (a, b) :: m)
    else if a < a' ∧ b ≠ 0 then (a, b) :: (a', b') :: m
    else (a', b') :: Mem.set m a b

/-- Addresses rise, every listed address is at least `lo`, and no listed byte is zero. -/
def Mem.wfFrom : Nat → List Host.Cell → Bool
  | _, [] => true
  | lo, (a, b) :: m => decide (lo ≤ a) && (b != 0) && Mem.wfFrom (a + 1) m

/-- The canonical form of a byte memory. -/
def Mem.wf (m : List Host.Cell) : Bool := Mem.wfFrom 0 m

/-- `n` bytes from an address up. -/
def Mem.gets (m : List Host.Cell) (a : Nat) : Nat → List Byte
  | 0 => []
  | n + 1 => Mem.get m a :: Mem.gets m (a + 1) n

/-- Bytes written from an address up. -/
def Mem.sets (m : List Host.Cell) (a : Nat) : List Byte → List Host.Cell
  | [] => m
  | b :: bs => Mem.sets (Mem.set m a b) (a + 1) bs

/-! ## Cores, slots, tasks -/

/-- Core `c`; an unlisted core is in its reset state. -/
def State.core (s : State) (c : Nat) : Core := s.cores.getD c Core.reset

def State.setCore (s : State) (c : Nat) (k : Core) : State := { s with cores := s.cores.put c k }

def State.updCore (s : State) (c : Nat) (f : Core → Core) : State := s.setCore c (f (s.core c))

/-- Slot `sl` of core `c`. -/
def State.slot (s : State) (c : Nat) (sl : Fin 16) : Slot := (s.core c).slots[sl]

def State.setSlot (s : State) (c : Nat) (sl : Fin 16) (x : Slot) : State :=
  s.updCore c fun k => { k with slots := k.slots.set sl x }

def State.updSlot (s : State) (c : Nat) (sl : Fin 16) (f : Slot → Slot) : State := s.setSlot c sl (f (s.slot c sl))

/-- An issuing thread: its core and its slot. -/
structure Who where
  core : Nat
  slot : Fin 16
deriving DecidableEq, Repr

/-- The thread whose turn it is: slot gtime mod 16 of the core in turn (R15). -/
def State.who (s : State) : Who := ⟨s.turn, Fin.ofNat 16 s.gtime⟩

def State.at (s : State) (w : Who) : Slot := s.slot w.core w.slot

def State.upd (s : State) (w : Who) (f : Slot → Slot) : State := s.updSlot w.core w.slot f

/-- The thread in a slot. -/
def State.th (s : State) (w : Who) : Thread := (s.at w).th

def State.updTh (s : State) (w : Who) (f : Thread → Thread) : State := s.upd w fun x => { x with th := f x.th }

/-- Events appended to those in transit. -/
def State.post (s : State) (es : List Event) : State := { s with agenda := s.agenda ++ es }

/-- The die of a core, and whether it is a K8 die (R1, R7). -/
def dieOf (c : Nat) : Nat := c / 192

def isK8 (c : Nat) : Bool := decide (dieOf c < 6)

/-- Bytes of a vector register: VLEN / 8 (R2). -/
def vlenB (c : Nat) : Nat := if isK8 c then 128 else 64

/-- Capability groups of a die: all, or BASE, VEC and MXD (Table 4.10). -/
def dieCaps (d : Nat) : Nat := if d < 6 then 0x3F else 0x0B

/-- The launch of a number that has not completed. -/
def State.launch? (s : State) (n : Nat) : Option Launch := s.launches.find? fun l => l.num == n && l.st != .waiting

def State.updLaunch (s : State) (n : Nat) (f : Launch → Launch) : State :=
  { s with launches := updFirst (fun l => l.num == n && l.st != .waiting) f s.launches }

/-- The task-directory entry of a task (R101). -/
def State.task? (s : State) (t : TaskId) : Option Task := s.tasks.find? fun x => x.id == t

def State.updTask (s : State) (t : TaskId) (f : Task → Task) : State :=
  { s with tasks := updFirst (fun x => x.id == t) f s.tasks }

/-- Whether a task is speculative: it holds an open epoch (R75). -/
def State.speculative (s : State) (t : TaskId) : Bool :=
  match s.task? t with
  | some x => !x.epochs.isEmpty
  | none => false

/-- Whether a commit queue holds an entry of a task on its core (R80, R86). -/
def State.commits (s : State) (c : Nat) (t : TaskId) : Bool := (s.core c).commitq.any fun e => e.task == t

/-- Whether the thread in a slot is a task with a directory entry: of a launch, and no codelet (R13, R101). -/
def Slot.isTask (x : Slot) : Bool := x.launched && !x.th.codelet

/-- Whether the issuing thread is a speculative task. -/
def State.spec (s : State) (w : Who) : Bool := (s.at w).isTask && s.speculative (s.at w).task

/-- Whether the issuing thread holds uncommitted history (R75). -/
def State.history (s : State) (w : Who) : Bool :=
  (s.at w).isTask && (s.speculative (s.at w).task || s.commits w.core (s.at w).task)

/-! ## Physical memory -/

/-- Whether a physical address holds memory (R342). -/
def populated (pa : Nat) : Bool := decide (pa / 2 ^ 36 < 8 ∧ pa % 2 ^ 36 < 48 * 2 ^ 30)

/-- The key tag selected for a physical address: group and key version (R367, KEYSEL). -/
def State.keyTag (s : State) (pa : Nat) : Nat :=
  let r := 48 * (pa / 2 ^ 36) + pa % 2 ^ 36 / 2 ^ 30
  let g := (s.regs.keysel.toList.getD (r / 16) 0).toNat / 2 ^ (4 * (r % 16)) % 16
  g + 16 * s.keyVer.toList.getD g 0

/-- Whether an address is the model's name for memory of another package (R38): none of this package's 52-bit addresses. -/
def farAway (pa : Nat) : Bool := decide (2 ^ 60 ≤ pa)

/-- The moment at which memory of another package is looked at: between two moments it may have changed. -/
def State.moment (s : State) : Nat := 1536 * s.gtime + s.turn

/-- The plaintext byte that any requester reads at a physical address (R367). -/
def State.pbyte (s : State) (pa : Nat) : Byte :=
  if farAway pa then Config.farByte s.moment pa else
  let w := s.gkey.getD (pa / 32) 0
  let k := s.keyTag pa
  if w = k then Mem.get s.mem pa else Config.unrelated pa w k

/-- `n` plaintext bytes from a physical address up. -/
def State.pread (s : State) (pa : Nat) : Nat → List Byte
  | 0 => []
  | n + 1 => s.pbyte pa :: s.pread (pa + 1) n

/-- The lattice state code of the word at a physical address (R47). -/
def State.code (s : State) (pa : Nat) : Fin 8 :=
  if farAway pa then Fin.ofNat 8 (Config.farCode s.moment pa) else s.codes.getD (pa / 8) 0

/-- The state codes of a granule's four words, as the check code covers them (R386). -/
def State.granuleCodes (s : State) (g : Nat) : Nat :=
  (s.code (32 * g)).val + 8 * (s.code (32 * g + 8)).val + 64 * (s.code (32 * g + 16)).val + 512 * (s.code (32 * g + 24)).val

/-- The check code that a granule carries: it was formed of the bytes last written, and the code of an encrypted granule covers its plaintext
(R386). -/
def State.check (s : State) (g : Nat) : Nat := checkCode (Mem.gets s.mem (32 * g) 32) (s.granuleCodes g)

/-- Whether a granule's check code differs from that of the bytes it reads as: they can differ where its key has changed (R367, R387). -/
def State.mismatched (s : State) (g : Nat) : Bool :=
  s.gkey.getD g 0 != s.keyTag (32 * g) && s.check g != checkCode (s.pread (32 * g) 32) (s.granuleCodes g)

/-- Whether a reader of a granule finds a check-code mismatch: poison is handled as one (R387, R389). -/
def State.badGranule (s : State) (g : Nat) : Bool := s.poison.contains g || s.mismatched g

/-- The state codes of the words that a write of bytes at an address touches cleared: only cells carry one (R47). -/
def clearCodes (codes : Tbl (Fin 8)) (pa n : Nat) : Tbl (Fin 8) :=
  if codes.isEmpty then codes else (List.range ((pa + n + 7) / 8 - pa / 8)).foldl (fun t k => Tbl.del t (pa / 8 + k)) codes

/-- The granule brought under the key selected for it: bytes written under another key become what they read as (R367). -/
def State.rekey (s : State) (g : Nat) : State :=
  let k := s.keyTag (32 * g)
  if s.gkey.getD g 0 = k then s
  else { s with mem := Mem.sets s.mem (32 * g) (s.pread (32 * g) 32), gkey := if k = 0 then s.gkey.del g else s.gkey.put g k }

/-- Bytes written within one granule. A write of all 32 clears poison (R389); one of fewer bytes into a granule whose check code does not
match leaves it so. A word of an L2 slice written whole holds no error any more (R388). -/
def State.pwriteIn (s : State) (pa : Nat) (bs : List Byte) : State :=
  let g := pa / 32
  let bad := s.mismatched g
  let s := s.rekey g
  { s with mem := Mem.sets s.mem pa bs, codes := clearCodes s.codes pa bs.length,
           upsets := s.upsets.filter fun x => !(x.1.slice && decide (pa ≤ 8 * x.2) && decide (8 * x.2 + 8 ≤ pa + bs.length)),
           poison := if bs.length = 32 then s.poison.erase g else if bad && !s.poison.contains g then g :: s.poison else s.poison }

/-- Bytes written from a physical address up, granule by granule; `n` bounds the granules. -/
def State.pwriteN (s : State) (pa : Nat) (bs : List Byte) : Nat → State
  | 0 => s
  | n + 1 =>
    if bs.isEmpty then s
    else let k := 32 - pa % 32; (s.pwriteIn pa (bs.take k)).pwriteN (pa + k) (bs.drop k) n

/-- Whether an access to an address finds memory, here or in another package (R342). -/
def reaches (pa : Nat) : Bool := populated pa || farAway pa

/-- Bytes written from a physical address up; an unpopulated address keeps nothing (R342). -/
def State.pwrite (s : State) (pa : Nat) (bs : List Byte) : State :=
  if populated pa then s.pwriteN pa bs (bs.length / 32 + 2) else s

/-- A word read from or written to physical memory. -/
def State.pword (s : State) (pa : Nat) : Word := wordOf (s.pread pa 8)

/-- The granules of a span of physical memory whose check code does not match (R387). -/
def State.badIn (s : State) (pa n : Nat) : List Nat :=
  ((List.range ((pa + n + 31) / 32 - pa / 32)).map fun k => pa / 32 + k).filter s.badGranule

/-- The codes of `n` consecutive words set; those of another package's memory are not held here. -/
def State.setCodes (s : State) (pa : Nat) (c : Fin 8) : Nat → State
  | 0 => s
  | n + 1 =>
    if farAway pa then s else
    { s with codes := if c = 0 then s.codes.del (pa / 8) else s.codes.put (pa / 8) c }.setCodes (pa + 8) c n

/-! ## Local memory -/

/-- `n` bytes of a core's local memory (R43). -/
def State.lread (s : State) (c off n : Nat) : List Byte := Mem.gets (s.core c).lmem off n

/-- The units of `z` bytes that a span covers whole dropped from a list. -/
def uncovered (z off n : Nat) (xs : List Nat) : List Nat := xs.filter fun x => !(decide (off ≤ z * x) && decide (z * x + z ≤ off + n))

/-- Bytes written to a core's local memory; a word of the array written whole holds no error any more (R388), and a granule written whole has a
check code that matches (R386). -/
def State.lwrite (s : State) (c off : Nat) (bs : List Byte) : State :=
  s.updCore c fun k => { k with lmem := Mem.sets k.lmem off bs, upset := uncovered 8 off bs.length k.upset,
                                spoilt := uncovered 32 off bs.length k.spoilt }

/-- Whether a span of a core's local memory meets a word with an uncorrectable SRAM error (R388). -/
def State.upsetIn (s : State) (c off n : Nat) : Bool := (s.core c).upset.any fun x => decide (off < 8 * x + 8) && decide (8 * x < off + n)

/-- The granules of a span of a core's local memory whose check code does not match (R386). -/
def State.spoiltIn (s : State) (c off n : Nat) : List Nat := (s.core c).spoilt.filter fun x => decide (off < 32 * x + 32) && decide (32 * x < off + n)

/-- Whether one of `n` words of another SRAM array holds an uncorrectable error (R388). -/
def State.sramBad (s : State) (a : Sram) (k n : Nat) : Bool := s.upsets.any fun x => x.1 == a && decide (k ≤ x.2) && decide (x.2 < k + n)

/-- Words of an SRAM array written anew hold no error any more. -/
def State.refresh (s : State) (a : Sram) (k n : Nat) : State :=
  { s with upsets := s.upsets.filter fun x => !(x.1 == a && decide (k ≤ x.2) && decide (x.2 < k + n)) }

/-! ## Reports -/

/-- ERRSUM class of an error type (Table 15.11, R398). -/
def errClass (ty : Nat) : Nat :=
  if ty ≤ 2 then 0 else if ty = 0x10 then 1 else if ty ≤ 0x24 then 2 else if ty ≤ 0x33 then 3 else 4

/-- The 64 bytes of an error record (Table 15.11). -/
def errorRecord (ty sub core slot die module launch : Nat) (addr : Word) (gtime : Nat) : List Byte :=
  bytesOf 64 (ty % 256 + sub % 256 * 2 ^ 8 + core % 2048 * 2 ^ 16 + slot % 16 * 2 ^ 27 + die % 8 * 2 ^ 31 + module % 4 * 2 ^ 34
    + launch % 4096 * 2 ^ 36 + addr.toNat * 2 ^ 64 + gtime % 2 ^ 64 * 2 ^ 128)

/-- Whether ELSIZE enables the log: a power of two from 16 to 65,536 (Table 15.2). -/
def elSizeOk (n : Nat) : Bool := (List.range 13).any fun k => n == 2 ^ (k + 4)

/-- An MSI-X vector raised: its pending bit is set. -/
def State.raiseMsix (s : State) (v : Nat) : State :=
  if s.msixPending.contains v then s else { s with msixPending := v :: s.msixPending }

/-- An error record appended to the error-log ring, or counted as lost (R368). -/
def State.logError (s : State) (ty sub core slot die module launch : Nat) (addr : Word) : State :=
  let r := s.regs
  let n := r.elsize.toNat
  if r.elctl.toNat % 2 = 1 && elSizeOk n && decide ((r.eltail - r.elhead).toNat % 2 ^ 32 < n) then
    let s := s.pwrite (r.elbase.toNat + 64 * (r.eltail.toNat % n)) (errorRecord ty sub core slot die module launch addr s.gtime)
    let s := { s with regs := { s.regs with eltail := BitVec.ofNat 64 ((r.eltail.toNat + 1) % 2 ^ 32) }, errClasses := s.errClasses ++ [errClass ty] }
    s.raiseMsix (r.elctl.toNat / 2 % 2 ^ 11)
  else { s with regs := { r with ellost := if r.ellost.toNat < 2 ^ 32 - 1 then r.ellost + 1 else r.ellost } }

/-- The error records of granules whose check code does not match, where no thread's access found them (R387). -/
def State.logGranules (s : State) (gs : List Nat) : State :=
  gs.foldl (fun (s : State) g => s.logError 0x01 0x01 0x7FF 0 0 0 0xFFF (BitVec.ofNat 64 (32 * g))) s

/-- The launch number an error record or report names for a slot. -/
def Slot.launchNo (x : Slot) : Nat := if x.launched then x.task.launch else 0xFFF

/-- A machine check of a thread or of the system slot reported to the driver (Table 15.11 TYPE 0x01). -/
def State.logCheck (s : State) (w : Who) (sub : Nat) (addr : Word) : State :=
  s.logError 0x01 sub w.core w.slot.val 0 0 (s.at w).launchNo addr

/-- The launches with a thread on a core. -/
def State.launchesOn (s : State) (c : Nat) : List Nat :=
  ((s.core c).slots.toList.filterMap fun x => if x.st != .empty && x.st != .reserved && x.launched then some x.task.launch else none).dedup

/-- The command processor's report of a launch stopped on a machine check (log entry 53). -/
def checkReport (sub : Nat) (addr : Word) : Report := { src := 3, code := 0x20, sub := sub, core := 0x7FF, slot := 0, wid := 0, pc := 0, tval := addr, tag := 0, cmd := none }

/-! ## Monitor samples (R383 to R385) -/

/-- The fields of a capture unit's control word (Table 17.2). -/
def Capture.src (c : Capture) : Nat := c.ctl.toNat % 256
def Capture.en (c : Capture) : Bool := c.ctl.getLsbD 8
def Capture.holds (c : Capture) : Bool := c.ctl.getLsbD 9
def Capture.lfilt (c : Capture) : Bool := c.ctl.getLsbD 10
def Capture.launch (c : Capture) : Nat := bits c.ctl.toNat 23 12
def Capture.watched (c : Capture) : Nat := bits c.ctl.toNat 42 32

/-- The bucket of a value: 0 for 0, else Min(31, 1 + Floor(Log2 v)) (R384). -/
def bucketOf (v : Nat) : Nat := if v = 0 then 0 else min 31 (1 + Nat.log2 v)

/-- A sample at a time recorded, or counted in DROP while HOLD is set; one in the cycle of a CLR is left unrecorded (R384, R385). -/
def Capture.record (c : Capture) (now v : Nat) : Capture :=
  let v := Nat.min v (2 ^ 32 - 1)
  let up (x : Nat) : Nat := Nat.min (x + 1) (2 ^ 32 - 1)
  let b := bucketOf v
  if c.clearedAt = some now then c
  else if c.holds then { c with drop := up c.drop }
  else { c with min := Nat.min c.min v, max := Nat.max c.max v, cnt := (c.cnt + 1) % 2 ^ 64,
                hist := c.hist.setIfInBounds b (up (c.hist.toList.getD b 0)) }

/-- A sample of a source on a die: every enabled unit of the die that names the source, watches the core and admits the launch records it. -/
def State.sample (s : State) (src die core : Nat) (launch : Option Nat) (v : Nat) : State :=
  { s with captures := s.captures.map fun (k, c) =>
      if k / 32 = die ∧ c.en ∧ c.src = src ∧ (c.watched = 0x7FF ∨ c.watched = core) ∧ (!c.lfilt ∨ launch = some c.launch)
      then (k, c.record s.gtime v) else (k, c) }

/-- The launch of a slot's thread, for a sample. -/
def Slot.launch? (x : Slot) : Option Nat := if x.launched then some x.task.launch else none

/-- A thread that leaves PARK: the sample of source 0x02. -/
def State.unpark (s : State) (w : Who) : State :=
  let x := s.at w
  if x.st = .park then s.sample 0x02 (dieOf w.core) w.core x.launch? (s.gtime - x.parkAt) else s

/-! ## Taking an exception -/

/-- An event at the head of a core's queue; one that finds its 32 entries full enters there once the present head has been taken (R97). -/
def atHead (e : SysEvent) : List SysEvent → List SysEvent
  | [] => [e]
  | x :: es => if es.length < 31 then e :: x :: es else x :: e :: es

/-- A system event posted to a core: machine checks enter at the head, all others at the tail (R97). The first 32 entries are the
queue; later ones wait for room. -/
def State.postEvent (s : State) (c : Nat) (e : SysEvent) (head : Bool) : State :=
  s.updCore c fun k => { k with events := if head then atHead e k.events else k.events ++ [e] }

/-- A wake event of a kind (Tables 4.4 and 16.1). -/
def State.postWake (s : State) (c sub : Nat) (tval : Nat) : State := s.postEvent c (.wake sub (BitVec.ofNat 64 tval)) false

/-- The cause CSR: CODE, ASYNC and SUB (Table 4.2). -/
def causeWord (code : Nat) (async : Bool) (sub : Nat) : Word := BitVec.ofNat 64 (code % 64 + b2n async * 64 + sub % 256 * 256)

/-- A fault of any cause in the system slot: a machine check with SUB 0x07. The core stops taking events, the driver is informed and
every launch with a thread on the core is stopped (R99). -/
def State.systemFault (s : State) (c : Nat) (addr : Word) : State :=
  let s := s.logCheck ⟨c, 15⟩ 0x07 addr
  let s := s.updCore c fun k => { k with dead := true, slots := k.slots.set 15 { k.slots[15] with st := .trap } }
  s.post ((s.launchesOn c).map fun n => Event.launchStop n .fault (some (checkReport 7 addr)))

/-- Taking a trap (R94 to R97): the slot's bank receives cause, epc and tval, the slot enters TRAP and an event is posted. The saved
PC is `epc`; the handler is entered by the system slot (SYSTEM_EVENT_ENTRY). A migrate trap goes to the Derailleur instead
(R112), a machine check is also reported to the driver, and a trap in the system slot is a machine check with SUB 0x07 (R99). -/
def State.takeTrap (s : State) (w : Who) (code : Nat) (async : Bool) (sub : Nat) (tval epc : Word) (insn : Bool) : State :=
  if w.slot = 15 then s.systemFault w.core tval
  else
    let s := (s.unpark w).upd w fun x =>
      { x with st := .trap, cause := causeWord code async sub, epc := epc, tval := tval, insn := insn, fromPark := x.st == .park, consulted := false,
               migrAt := if code = 0x03 then some s.gtime else x.migrAt, migrTo := if code = 0x03 then some (4096 + sub) else none }
    if code = 0x03 then s.post [.derailleurMigration w.core w.slot]
    else
      let s := if code = 0x20 then s.logCheck w sub tval else s
      s.postEvent w.core (.trap w.slot) (code == 0x20)

/-- The return from a trap: the slot enters RUN at its epc (R97, R230). -/
def State.returnTrap (s : State) (w : Who) : State :=
  s.upd w fun x => { x with st := .run, out := none, insn := false, fromPark := false, th := { x.th with pc := x.epc } }

/-! ## The outcome of an instruction -/

/-- Ways an instruction does not run through: a trap with its code, tval and SUB and an error record (type and address) logged with it;
a park; a BUSY wait; a complete other next state; a refusal. -/
inductive Stop
  | trap (code : Nat) (tval : Word) (sub : Nat) (log : Option (Nat × Word))
  /-- A trap of a local-memory access, which has fixed latency (R17). -/
  | localTrap (code : Nat) (tval : Word) (sub : Nat)
  | park (p : ParkWhy)
  | busy (b : BusyWhy)
  | next (s : State)
  /-- The transfer to another package cannot leave: no VALID route to its device, or a port that is down (R395, R396). -/
  | away (dev : Nat)
deriving DecidableEq, Repr

/-- The result of part of an instruction. -/
abbrev M (α : Type) := Except Stop α

def fail (code : Nat) (tval : Word) : M α := .error (.trap code tval 0 none)

/-- An access whose traps are those of a fixed-latency instruction where `b` holds (R17). -/
def M.fixedIf (b : Bool) (x : M α) : M α :=
  match x with
  | .error (.trap code tval sub none) => if b then .error (.localTrap code tval sub) else x
  | x => x

/-- The priority of a cause (Table 4.1). -/
def causePrio (code : Nat) : Nat :=
  match code with
  | 0x20 => 0 | 0x01 => 1 | 0x04 => 2 | 0x02 => 3 | 0x03 => 3 | 0x12 => 4 | 0x13 => 4 | 0x08 => 5 | 0x05 => 6 | 0x06 => 7 | 0x07 => 8
  | 0x09 => 9 | 0x0A => 9 | 0x0B => 10 | 0x0C => 11 | 0x0D => 12 | 0x0E => 13 | 0x0F => 13 | 0x10 => 13 | 0x11 => 13 | 0x21 => 14
  | _ => 15

/-- A computation before a wait that the instruction also meets: a wait in a codelet is a codelet-park fault, so a fault of lower rank than
that one gives way to it (Table 4.1). -/
def M.beforeWait (x : M α) (wait : M β) : M α :=
  match x, wait with
  | .error (.trap code _ _ _), .error (.park p) => if 12 < causePrio code then .error (.park p) else x
  | _, _ => x

/-- The fault with code `code` where `b` holds. -/
def failIf (b : Bool) (code : Nat) (tval : Word) : M Unit := if b then fail code tval else .ok ()

/-- The binding of a register, if it is one of g28 to g31 and bound (R63). -/
def Thread.binding (t : Thread) (n : Fin 32) : Option Binding :=
  if h : 28 ≤ n.val then
    let b := t.bind[n.val - 28]'(by omega)
    if b.bound then some b else none
  else none

/-- Whether an instruction names a register that its thread has bound. -/
def State.namesBound (s : State) (w : Who) (i : Instr) : Bool := (i.srcs ++ i.dsts).any fun r => ((s.th w).binding r).isSome

/-- The instructions of Table 1.2's variable class. Local-memory accesses and SHSET or SHGET on the thread's own core are fixed: their
meanings say so. -/
def Instr.variable : Instr → Bool
  | .div .. | .divn .. | .rem .. | .remn .. | .divW .. | .divnW .. | .remW .. | .remnW .. => true
  | .ld .. | .ldn .. | .st .. | .ldx .. | .stx .. | .publish .. | .fence .. => true
  | .amoadd .. | .amoand .. | .amoor .. | .amoxor .. | .amomin .. | .amomax .. | .amoswp .. | .amocas .. => true
  | .ljoin .. | .ljoinR .. | .lfill .. | .lfillv .. | .lfillm .. | .lesum .. | .lwait .. | .lwaitf .. | .larm .. | .lfrz .. | .lfrza ..
  | .lxrd .. | .lxrdv .. | .lstat .. => true
  | .send .. | .sendF .. | .sendH .. | .sendl .. | .sendlF .. | .recv .. | .recvp .. | .recvN .. | .recvpN .. | .vtset .. | .gvtrd ..
  | .cmtw => true
  | .spawnFifo .. | .spawnOrd .. | .spawnOpt .. | .spawnL .. | .spawnC .. | .exit | .yield | .gbar .. | .widf .. | .mpin .. | .migr ..
  | .twait .. => true
  | .wfi | .ctxsv .. | .ctxld .. | .slotctl .. | .xinv .. | .cinv .. => true
  | .vdiv .. | .vsqrt .. | .vexp .. | .vlog .. | .vrcp .. | .vrsq .. | .vtanh .. | .vcoef .. => true
  | .vld .. | .vst .. | .vlds .. | .vsts .. | .vldx .. | .vstx .. | .vldq .. | .vstq .. | .vredq .. => true
  | .shset .. | .shget .. | .cbwf .. | .cbwe .. | .cbeos .. => true
  | _ => false

/-- The grant of a thread: its core, base and length. A migrated task's stands in its directory entry, a migrated codelet's goes with it
(R43, R115, R375). -/
def State.grant (s : State) (w : Who) : Nat × Nat × Nat :=
  let x := s.at w
  if !x.moved || w.slot.val ≥ 14 then (w.core, x.grbase.toNat, x.grlen.toNat)
  else (if x.th.codelet then x.grantRec else (s.task? x.task).bind Task.grant).getD (w.core, 0, 0)

/-- Whether QBIND.PUSH of a core number goes to another core (R268). -/
def otherCore (w : Who) (x : Word) : Bool := x.toNat % 2048 != 0x7FF && x.toNat % 2048 != w.core

/-- Whether an instruction has variable latency: by Table 1.2's division, or because it names a bound register. SHSET and SHGET vary where the
grant is on another core, QBIND.PUSH where the buffer is (R263, R268). -/
def State.varies (s : State) (w : Who) (i : Instr) : Bool :=
  (match i with
    | .shset .. | .shget .. => (s.grant w).1 != w.core
    | .qbindPush _ a _ _ => otherCore w (if a = 0 then 0 else (s.th w).g[a])
    | i => Instr.variable i) || s.namesBound w i

/-- A slot that begins to wait BUSY with its instruction outstanding (R20). -/
def State.waitBusy (s : State) (w : Who) (i : Instr) (b : BusyWhy) : State :=
  s.upd w fun x => { x with st := .busy, out := some i, busy := b, waitAt := if x.st == .busy then x.waitAt else s.gtime }

/-- A free value drawn (log entry 1). -/
def State.draw (s : State) : Word × State := (Config.freeWord s.free, { s with free := s.free + 1 })

/-- A command-processor report of a reason (Table 15.5). -/
def cpReport (reason : Nat) : Report := { src := 3, code := 0, sub := reason, core := 0x7FF, slot := 0, wid := 0, pc := 0, tval := 0, tag := 0, cmd := none }

/-- A launch stopped by the command processor for a reason that Table 15.5 gives no number: a free number stands in its report (log entry 73). -/
def State.cpStop (s : State) (launch : Nat) : State :=
  let (v, s) := s.draw
  s.post [.launchStop launch .fault (some (cpReport (v.toNat % 2 ^ 8)))]

/-- A link of the package: a UCIe module by die × 4 + module, a Welsa port at 32 + port (R361, R394). -/
def State.link (s : State) (n : Nat) : Link := s.links.getD n Link.reset

/-- Whether a link carries flits. -/
def Link.up (l : Link) : Bool := l.st == 1 || l.st == 2

/-- The Welsa port to a device: none without a VALID route; whether it is up (R395, R396). Number 64 stands for a compute die that is cut off,
behind a port 9 that never comes up (R390, log entry 86). -/
def State.portTo (s : State) (dev : Nat) : Option (Nat × Bool) :=
  if dev = 64 then some (9, false) else
  let r := (s.fleet.wroute.toList.getD dev 0).toNat
  if bitAt r 3 then some (r % 8, (s.link (32 + r % 8)).up) else none

/-- A thread whose transfer to another package cannot leave waits for the port its device is routed to (R396). A device without a VALID route
stops the thread's launch, once (R395). -/
def State.awaitPort (s : State) (w : Who) (i : Instr) (dev : Nat) : State :=
  match s.portTo dev with
  | some (p, _) => s.waitBusy w i (.port p)
  | none =>
    let x := s.at w
    let s' := s.waitBusy w i (.port 8)
    if x.launched && !(x.st == .busy && x.busy == .port 8) then s'.cpStop x.task.launch else s'

/-- A slot that parks (R21). -/
def State.parkSlot (s : State) (w : Who) (i : Instr) (p : ParkWhy) : State :=
  s.upd w fun x => { x with st := .park, out := some i, park := p, parkTurns := 0, parkAt := s.gtime }

/-- The next state of an instruction: a trap is taken on it precisely, from the state before it (R95); a park in a codelet is a
codelet-park fault (R13). -/
def finish (w : Who) (i : Instr) (s : State) : M State → Host.Outcome State Fault Refusal
  | .ok s' => .next s'
  | .error (.next s') => .next s'
  | .error (.away dev) => .next (s.awaitPort w i dev)
  | .error (.busy b) => .next (s.waitBusy w i b)
  | .error (.park p) =>
    if (s.at w).th.codelet then .next (s.takeTrap w 0x0D false 0 (encodeWord i) (s.th w).pc (s.varies w i))
    else .next (s.parkSlot w i p)
  | .error (.trap code tval sub log) =>
    let s := match log with
      | some (ty, a) => s.logError ty 0 w.core w.slot.val 0 0 (s.at w).launchNo a
      | none => s
    .next (s.takeTrap w code false sub tval (s.th w).pc (code == 0x03 || s.varies w i))
  | .error (.localTrap code tval sub) => .next (s.takeTrap w code false sub tval (s.th w).pc (s.namesBound w i))

/-- Bytes of an instruction in memory (R147). -/
def sizeOf' (i : Instr) : Nat := if isTile (encode i) then 32 else 4

/-- Issue of a variable-latency instruction whose effects are done: the thread goes on at `pc`, the slot is BUSY and its completion is in
transit (R17). -/
def State.retireVarTo (s : State) (w : Who) (i : Instr) (pc : Word) : State :=
  (s.upd w fun x => { x with st := .busy, out := some i, busy := .completing, consulted := false, th := { x.th with pc := pc } }).post
    [.instructionCompletion w.core w.slot]

/-- Completion of an instruction of fixed latency, after which the thread goes on at `pc` in RUN; naming a bound register makes the latency
variable (R17). -/
def State.retireTo (s : State) (w : Who) (i : Instr) (pc : Word) : State :=
  if s.namesBound w i then s.retireVarTo w i pc
  else s.upd w fun x => { x with st := .run, out := none, consulted := false, th := { x.th with pc := pc } }

/-- The address after an instruction. -/
def State.nextPc (s : State) (w : Who) (i : Instr) : Word := (s.th w).pc + BitVec.ofNat 64 (sizeOf' i)

/-- Completion of a fixed-latency instruction: PC moves past it. -/
def State.retire (s : State) (w : Who) (i : Instr) : State := s.retireTo w i (s.nextPc w i)

/-- Issue of a variable-latency instruction whose effects are done: PC moves past it. -/
def State.retireVar (s : State) (w : Who) (i : Instr) : State := s.retireVarTo w i (s.nextPc w i)

/-- The dies of a launch's placement set: DIESET of its header (Table 12.1). -/
def Launch.dieset (l : Launch) : Nat := l.hdr.toNat / 2 ^ 384 % 256

/-- Whether some die of a launch's placement set has a capability group (R111). -/
def State.groupSomewhere (s : State) (x : Slot) (g : Nat) : Bool :=
  match s.launch? x.task.launch with
  | some l => x.launched && (List.range 8).any fun d => bitAt l.dieset d && bitAt (dieCaps d) g
  | none => false

/-- The part of `Fate` after decode (R111): a system-only instruction outside slot 15 is illegal; an absent group is an extension
fault or a migrate trap. -/
def fate (w : Who) (i : Instr) (sys : Bool) (g : Nat) (s : State) : M Unit :=
  if sys && w.slot != 15 then fail 0x01 (encodeWord i)
  else if bitAt (dieCaps (dieOf w.core)) g then .ok ()
  else if w.slot.val ≥ 14 then .error (.trap 0x02 (encodeWord i) g none)
  else if s.groupSomewhere (s.at w) g then .error (.trap 0x03 (encodeWord i) g none)
  else .error (.trap 0x02 (encodeWord i) g none)

/-- An instruction of the thread whose turn it is: `Fate`, then its own body. -/
def issue (i : Instr) (sys : Bool) (g : Nat) (s : State) (body : Who → M State) : Host.Outcome State Fault Refusal :=
  finish s.who i s (do fate s.who i sys g s; body s.who)

end Sys2Proof.Machine
end

