-- ==== Sys2Proof/Machine/Access.lean ====
section
/-! DEFINITION. Where an address leads: placement windows and homes, the page-table walk, the page-kind and owner checks, the local
window and grants, and reads and writes of the place found. -/

namespace Sys2Proof.Machine

/-! ## Placement and translation -/

/-- A window descriptor's fields (Table 2.2). -/
def winMode (d : Nat) : Nat := d % 4
def winValid (d : Nat) : Bool := bitAt d 2
def winDieset (d : Nat) : Nat := bits d 15 8
def winDie (d : Nat) : Nat := bits d 18 16

/-- Page-table entry fields (Table 15.8). -/
def pteV (e : Nat) : Bool := bitAt e 0
def pteLeaf (e : Nat) : Bool := bitAt e 1
def pteSize (e : Nat) : Nat := bits e 3 2
def pteKind (e : Nat) : Nat := bits e 5 4
def pteR (e : Nat) : Bool := bitAt e 6
def pteW (e : Nat) : Bool := bitAt e 7
def pteX (e : Nat) : Bool := bitAt e 8
def ptePin (e : Nat) : Bool := bitAt e 9
def pteFrame (e : Nat) : Nat := bits e 51 12
def pteArena (e : Nat) : Nat := bits e 63 52
def pteCkind (e : Nat) : Nat := bits e 67 64
def pteOwner (e : Nat) : Nat := bits e 95 80

/-- Page kinds (Table 15.8, KIND). -/
def kPrivate : Nat := 0
def kLattice : Nat := 1
def kFrozen : Nat := 2
def kHostbuf : Nat := 3

/-- The virtual-address shift of a page size. -/
def pageShift : Nat → Nat
  | 0 => 12
  | 1 => 16
  | 2 => 21
  | _ => 30

/-- RotL16 of R38. -/
def rotl16 (x n : Nat) : Nat := x * 2 ^ n % 2 ^ 16 + x / 2 ^ (16 - n)

/-- The position of the `k`-th set bit, counted from the lowest as 0 (R38: NthSetBit); `fuel` bits are looked at. -/
def nthSet (x k : Nat) : Nat → Nat → Nat
  | 0, i => i
  | f + 1, i => if bitAt x i then (if k = 0 then i else nthSet x (k - 1) f (i + 1)) else nthSet x k f (i + 1)

/-- The number of set bits below `n`. -/
def popCount (x : Nat) : Nat → Nat
  | 0 => 0
  | n + 1 => b2n (bitAt x n) + popCount x n

/-- The home die and slice of an address under a window descriptor (R38). -/
def homeOf (va d : Nat) : Nat × Nat :=
  let h := Nat.xor (Nat.xor (bits va 27 12) (bits va 43 28)) (bits va 47 44)
  let h2 := Nat.xor (rotl16 h 7) (bits va 31 16)
  let slice := h2 * 192 / 2 ^ 16
  match winMode d with
  | 1 => (winDie d, slice)
  | 2 => (winDie d, bits va 47 40 % 192)
  | _ => (nthSet (winDieset d) (h * popCount (winDieset d) 8 / 2 ^ 16) 8 0, slice)

/-- The global number of the home core of a die and slice (R38). -/
def homeCore (p : Nat × Nat) : Nat := p.1 * 192 + p.2

/-- The device a SYSTEM address names: its Welsa device number (R38). -/
def deviceOf (va : Nat) : Nat := bits va 47 42

/-- A machine check on the thread's own access (Tables 4.1, 4.3). -/
def machineCheck (sub : Nat) (a : Nat) : M α := .error (.trap 0x20 (BitVec.ofNat 64 a) sub none)

/-- Address of a byte of local memory in the local window (R43). -/
def localVa (off : Nat) : Nat := 0x003F000000000000 + off

/-- What a read of local memory meets, with SUB and tval of its machine check: a double-bit error of a word, whose tval is 0 (R388), or a check code
that does not match, whose tval is the granule's address (R386, R387). -/
def State.unsound (s : State) (c off n : Nat) : Option (Nat × Word) :=
  if s.upsetIn c off n then some (0x02, 0)
  else (s.spoiltIn c off n).head?.map fun g => (0x01, BitVec.ofNat 64 (localVa (32 * g)))

/-- A thread's access that reads local memory (R387, R388). -/
def State.sound (s : State) (c off n : Nat) : M Unit :=
  match s.unsound c off n with
  | some (sub, tval) => machineCheck sub tval.toNat
  | none => .ok ()

/-- A page fault, or a malformed entry with its error record 0x24 (R354). -/
def pageFault (va : Nat) : M α := fail 0x09 (BitVec.ofNat 64 va)

def malformed (va : Nat) : M α := .error (.trap 0x09 (BitVec.ofNat 64 va) 0 (some (0x24, BitVec.ofNat 64 va)))

/-- Bytes a walker or a thread reads from physical memory: an unpopulated address is a machine check with SUB 0x09 (R342), a granule whose
check code does not match one with SUB 0x01 (R387, R389). -/
def State.checkedRead (s : State) (pa n : Nat) : M (List Byte) :=
  if farAway pa then .ok (s.pread pa n)
  else if !populated pa then machineCheck 0x09 pa
  else match s.badIn pa n with
    | g :: _ => machineCheck 0x01 (32 * g)
    | [] => .ok (s.pread pa n)

/-- The registered arena of a number in an address space (Table 2.3). -/
def State.arena? (s : State) (asid num : Nat) : Option Arena := s.arenas.find? fun a => a.asid == asid && a.num == num

/-- The context entry of an address space (Table 15.7). One that is not VALID, or has a reserved field set, is a page fault (R6, R352; log
entry 72). -/
def State.context (s : State) (asid va : Nat) : M Nat := do
  let c ← natOf <$> s.checkedRead (s.regs.ascbase.toNat + 32 * asid) 32
  failIf (!bitAt c 0 || bits c 9 1 != 0 || bits c 63 52 != 0 || bits c 255 128 != 0) 0x09 (BitVec.ofNat 64 va)
  .ok c

/-- The routing descriptor of an address: its window's, read from the ASID's window table (R37, R352). An invalid or ill-formed
descriptor is a page fault. -/
def State.window (s : State) (asid va : Nat) : M Nat := do
  let c ← s.context asid va
  let d ← natOf <$> s.checkedRead (bits c 127 64 + 16 * bits va 53 48) 16
  failIf (!winValid d || bits d 7 3 != 0 || bits d 127 19 != 0 || ((winMode d == 0 || winMode d == 3) && winDieset d == 0)) 0x09 (BitVec.ofNat 64 va)
  .ok d

/-- The registered arena whose range holds an address. -/
def State.arenaOver (s : State) (asid va : Nat) : Option Arena :=
  s.arenas.find? fun a => a.asid == asid && decide (a.base ≤ va ∧ va < a.base + a.len)

/-- Whether an entry met at a level is malformed (R354). The registered arena of a LATTICE entry is the one whose range holds the address. -/
def State.pteMalformed (s : State) (asid va e lvl : Nat) : Bool :=
  bits e 11 10 != 0 || bits e 79 68 != 0 || bits e 127 115 != 0
    || (pteLeaf e && !((lvl == 2 && pteSize e == 3) || (lvl == 3 && pteSize e == 2) || (lvl == 4 && pteSize e ≤ 1)))
    || (pteLeaf e && pteFrame e % 2 ^ (pageShift (pteSize e) - 12) != 0)
    || (!pteLeaf e && (lvl == 4 || pteFrame e % 2 != 0))
    || (pteLeaf e && pteKind e == kLattice && (match s.arenaOver asid va with
      | some a => a.kind != pteCkind e || a.num != pteArena e
      | none => true))

/-- Whether an entry's placement copy differs from the routing descriptor (R39). -/
def misplaced (e d va : Nat) : Bool :=
  bits e 101 96 != bits va 53 48 || bits e 103 102 != winMode d
    || (if winMode d == 0 || winMode d == 3 then bits e 111 104 != winDieset d || bits e 114 112 != 0
        else bits e 114 112 != winDie d || bits e 111 104 != 0)

/-- The table index of an address at a level (R353). -/
def walkIndex (va : Nat) : Nat → Nat
  | 0 => bits va 53 48
  | 1 => bits va 47 39
  | 2 => bits va 38 30
  | 3 => bits va 29 21
  | _ => bits va 20 12

/-- The walk from table `t` at level `lvl` to a leaf entry, with the physical address at which the entry stands (R354). -/
def State.walk (s : State) (asid va t lvl : Nat) : Nat → M (Nat × Nat)
  | 0 => pageFault va
  | f + 1 => do
    let a := t + 16 * walkIndex va lvl
    let e ← natOf <$> s.checkedRead a 16
    failIf (!pteV e) 0x09 (BitVec.ofNat 64 va)
    if s.pteMalformed asid va e lvl then malformed va
    else if pteLeaf e then .ok (e, a)
    else s.walk asid va (pteFrame e * 2 ^ 12) (lvl + 1) f

/-- What an access is for: it needs R, W or X of the page (R354) and has its row of Table 2.1. -/
inductive Acc | load | store | atomic | lread | lwrite | publish | csrc | cdst | fetch
deriving DecidableEq, Repr

/-- Whether a page's permissions accepts an access (R354). -/
def Acc.allowed (a : Acc) (e : Nat) : Bool :=
  match a with
  | .load | .lread | .csrc => pteR e
  | .store | .atomic | .lwrite | .publish | .cdst => pteW e
  | .fetch => pteX e

/-- A translated address: physical address, page-table entry, home core and where the entry stands. A home in another package has a number
from 1,536 up, its address names no memory here, and bit 128 of its entry is set (log entry 71). -/
structure Xlat where
  pa : Nat
  pte : Nat
  home : Nat
  at_ : Nat
deriving DecidableEq, Repr

/-- Whether an address's descriptor leads to another package. -/
def State.leaves (s : State) (d va : Nat) : Bool := winMode d == 3 && deviceOf va != s.regs.welsaid.toNat % 64

/-- The page-table entry of an address and where it stands, with its routing descriptor: through an entry of the translation cache where one
stands there (R234), else by a walk (R354). Another package is reached through its port, and what its translation unit finds is free. -/
def State.lookup (s : State) (asid va : Nat) : M (Nat × Nat × Nat) := do
  failIf (decide (2 ^ 54 ≤ va)) 0x09 (BitVec.ofNat 64 va)
  let d ← s.window asid va
  if s.leaves d va then
    match s.portTo (deviceOf va) with
    | some (_, true) =>
      match Config.farEntry s.moment (deviceOf va) asid va with
      | some e => .ok (d, e % 2 ^ 128 + 2 ^ 128, 2 ^ 60)
      | none => pageFault va
    | _ => .error (.away (deviceOf va))
  else
    match s.tcache.find? fun x => x.asid == asid && x.page == va / 2 ^ 12 with
    | some x => .ok (d, x.pte, x.at_)
    | none => do
      let c ← s.context asid va
      let (e, a) ← s.walk asid va (bits c 51 10 * 2 ^ 10) 0 5
      .ok (d, e, a)

/-- Translation of an address at its home die (R354); one that is cut off never answers (R390, log entry 86). -/
def State.translate (s : State) (asid va : Nat) (acc : Acc) : M Xlat := do
  let (d, e, a) ← s.lookup asid va
  failIf (misplaced e d va) 0x0A (BitVec.ofNat 64 va)
  failIf (!acc.allowed e) 0x09 (BitVec.ofNat 64 va)
  if s.leaves d va then
    .ok { pa := 2 ^ 60 + deviceOf va * 2 ^ 54 + va, pte := e, home := 1536 * (deviceOf va + 1) + homeCore (homeOf va d), at_ := a }
  else if s.cutDies.contains (dieOf (homeCore (homeOf va d))) then .error (.away 64)
  else .ok { pa := pteFrame e * 2 ^ 12 + va % 2 ^ pageShift (pteSize e), pte := e, home := homeCore (homeOf va d), at_ := a }

/-- The arena of a LATTICE entry, with its state (Table 2.3): a registered one, or another package's. -/
def State.arenaFor (s : State) (asid va e : Nat) : Option Arena :=
  if bitAt e 128 then
    let (z, g, f, st) := Config.farArena (deviceOf va) asid (pteArena e)
    some ⟨asid, pteArena e, pteCkind e, z, g, f, st, 0, 0, 0⟩
  else s.arena? asid (pteArena e)

/-- The state of the arena of a LATTICE page (Table 2.3): 2 is FROZEN. -/
def State.arenaState (s : State) (asid va e : Nat) : Nat := ((s.arenaFor asid va e).map Arena.st).getD 0

/-- Table 2.1: kind fault, ownership fault, write-after-freeze, in that priority. -/
def State.kindCheck (s : State) (asid owner : Nat) (exempt : Bool) (acc : Acc) (e va : Nat) : M Unit :=
  let tv : Word := BitVec.ofNat 64 va
  let own : M Unit := failIf (pteOwner e != owner && !exempt) 0x0C tv
  let k := pteKind e
  match acc with
  | .load => if k = kPrivate then own else failIf (k == kLattice && s.arenaState asid va e != 2) 0x0B tv
  | .csrc => if k = kPrivate then own else failIf (k == kLattice && s.arenaState asid va e != 2) 0x0B tv
  | .store => if k = kPrivate then own else if k = kLattice then fail 0x0B tv else failIf (k == kFrozen) 0x0E tv
  | .cdst => if k = kPrivate then own else if k = kLattice then fail 0x0B tv else failIf (k == kFrozen) 0x0E tv
  | .atomic => if k = kPrivate then own else if k = kFrozen then fail 0x0E tv else fail 0x0B tv
  | .lread | .lwrite => failIf (k != kLattice) 0x0B tv
  | .publish => if k = kPrivate then own else failIf (k != kFrozen) 0x0B tv
  | .fetch => failIf (!(k == kFrozen || (k == kLattice && s.arenaState asid va e == 2))) 0x0B tv

/-! ## Places -/

/-- Where an access goes: a core's local memory, or memory at a home. -/
inductive Loc
  | loc (core off : Nat)
  | mem (x : Xlat)
deriving DecidableEq, Repr

/-- Whether an address lies in the local window (R43). -/
def inLocal (va : Nat) : Bool := bits va 53 48 == 0x3F && decide (va < 2 ^ 54)

/-- The place of `n` bytes at a local-window address (R43): a page fault outside offset range, an ownership fault outside the grant. The
system slot is not checked. While LMX is 1 on the core the access waits (R98). -/
def State.localPlace (s : State) (w : Who) (va n : Nat) : M Loc := do
  failIf (bits va 47 20 != 0) 0x09 (BitVec.ofNat 64 va)
  let off := va % 2 ^ 20
  if w.slot = 15 then
    failIf (decide (2 ^ 20 < off + n)) 0x09 (BitVec.ofNat 64 va)
    .ok (.loc w.core off)
  else
    let (c, b, l) := s.grant w
    failIf (decide (off < b ∨ b + l < off + n)) 0x0C (BitVec.ofNat 64 va)
    if (s.core c).lmx then .error (.busy .lmx) else .ok (.loc c off)

/-- The place of an access of `n` bytes by a thread (R159): page fault on high bits, the local window, or translation and the checks
of Table 2.1. Handlers in slots 14 and 15 are exempt from the owner check (R34). -/
def State.place (s : State) (w : Who) (acc : Acc) (va n : Nat) : M Loc := do
  failIf (decide (2 ^ 54 ≤ va)) 0x09 (BitVec.ofNat 64 va)
  if inLocal va then
    s.localPlace w va n
  else
    let x := s.at w
    let t ← s.translate x.asid va acc
    s.kindCheck x.asid x.owner (decide (14 ≤ w.slot.val)) acc t.pte va
    if reaches t.pa then .ok (.mem t) else machineCheck 0x09 t.pa

/-- The words of 8 bytes that `n` bytes touch. -/
def wordsOf (va n : Nat) : Nat := (va + n + 7) / 8 - va / 8

/-- Bytes read in the L2 slice of their home: a granule whose check code does not match, or a double-bit error of the slice, is a machine check (R387,
R388). -/
def State.homeRead (s : State) (x : Xlat) (n : Nat) : M (List Byte) := do
  let bs ← s.checkedRead x.pa n
  if s.sramBad (.l2 x.home) (x.pa / 8) (wordsOf x.pa n) then machineCheck 0x02 0 else .ok bs

/-- Bytes read at a place (R387 for a poisoned granule, R388 for a word of an SRAM array). -/
def State.readAt (s : State) (l : Loc) (n : Nat) : M (List Byte) :=
  match l with
  | .loc c off => do s.sound c off n; .ok (s.lread c off n)
  | .mem x => s.homeRead x n

/-! ## Data caches (R41, R42) -/

/-- Lines of an L1 data cache and of an L1 instruction cache, blocks of an L2 slice, lines of a remote-data cache, and entries of a die's
translation cache (Table 0.2). A full one loses its oldest entry (log entry 23). -/
def dcacheLines : Nat := 2048
def icacheLines : Nat := 1024
def l2Blocks : Nat := 4096
def rdcLines : Nat := 2 ^ 20
def tcacheEntries : Nat := 4096

/-- Whether a page holds frozen data, of which cores keep copies (R42). -/
def State.frozenPage (s : State) (asid va e : Nat) : Bool :=
  pteKind e == kFrozen || (pteKind e == kLattice && s.arenaState asid va e == 2)

/-- The words of its line that an access of `n` bytes touches. -/
def wordMask (va n : Nat) : Nat :=
  (List.range 4).foldl (fun m k => if va % 32 < 8 * k + 8 ∧ 8 * k < va % 32 + n then m + 2 ^ k else m) 0

/-- A core's L1 data line at an address. -/
def Core.dline? (k : Core) (asid va : Nat) : Option DLine := k.dcache.find? fun l => l.asid == asid && l.va == va / 32 * 32

/-- A die's remote-data cache line at an address. -/
def State.rline? (s : State) (die asid va : Nat) : Option ILine :=
  (s.rdc.getD die []).find? fun l => l.asid == asid && l.va == va / 32 * 32

/-- The copy of a frozen granule that a core reads instead of the home's, and the array that holds it: its L1 or its die's remote-data cache
(R42). -/
def State.copy? (s : State) (c asid va n : Nat) : Option (ILine × Sram) :=
  let m := wordMask va n
  let far := (s.rline? (dieOf c) asid va).map fun l => (l, Sram.rdc (dieOf c))
  match (s.core c).dline? asid va with
  | some l => if l.frozen && Nat.land l.valid.val m == m then some (⟨l.asid, l.va, l.bytes, l.codes, l.check⟩, .l1 c) else far
  | none => far

/-- Key of a word in a cache that is looked up by virtual address. -/
def lineKey (asid va : Nat) : Nat := asid * 2 ^ 51 + va / 8

/-- The word errors that a read at the home of a line meets: in the home core's L1, where a thread of it finds valid words there, else in the home's
L2 slice (R40, R388). -/
def State.homeBad (s : State) (w : Who) (asid va : Nat) (x : Xlat) (n : Nat) : Bool :=
  let m := wordMask va n
  let hit := match (s.core w.core).dline? asid va with
    | some l => x.home == w.core && Nat.land l.valid.val m == m
    | none => false
  if hit then s.sramBad (.l1 w.core) (lineKey asid va) (wordsOf va n) else s.sramBad (.l2 x.home) (x.pa / 8) (wordsOf x.pa n)

/-- Bytes of a held copy, its granule at physical address `pa`: a double-bit error or a check code that does not match is a machine check (R387,
R388). -/
def State.readCopy (s : State) (y : ILine) (a : Sram) (pa va n : Nat) : M (List Byte) :=
  if s.sramBad a (lineKey y.asid va) (wordsOf va n) then machineCheck 0x02 0
  else if checkCode y.bytes y.codes ≠ y.check then machineCheck 0x01 (pa / 32 * 32)
  else .ok ((y.bytes.drop (va % 32)).take n)

/-- Bytes that a thread's load reads at a place: from a copy of frozen data where one is held, else at the home. -/
def State.loadAt (s : State) (w : Who) (va : Nat) (l : Loc) (n : Nat) : M (List Byte) :=
  match l with
  | .mem x =>
    let asid := (s.at w).asid
    match (if s.frozenPage asid va x.pte then s.copy? w.core asid va n else none) with
    | some (y, a) => s.readCopy y a x.pa va n
    | none => if s.homeBad w asid va x n then machineCheck 0x02 0 else s.checkedRead x.pa n
  | _ => s.readAt l n

/-- A line of an L1 data cache put in front; the oldest goes where the cache is full. -/
def Core.putLine (k : Core) (l : DLine) : Core :=
  { k with dcache := (l :: k.dcache.filter fun y => !(y.asid == l.asid && y.va == l.va)).take dcacheLines }

/-- A sector of an L2 slice made valid. A full slice loses its oldest block, and with its sectors their last writers (R308). -/
def Core.putSector (k : Core) (pa : Nat) : Core :=
  let b := pa / 256
  let old := ((k.l2.find? fun x => x.block == b).map L2Block.valid).getD 0
  let bs := ⟨b, Nat.lor old (2 ^ (pa / 32 % 8))⟩ :: k.l2.filter fun x => x.block != b
  let gone := (bs.drop l2Blocks).map L2Block.block
  { k with l2 := bs.take l2Blocks, lastWriter := k.lastWriter.filter fun e => !gone.contains (e.1 / 8) }

/-- Whether an L2 slice holds the sector of an address. -/
def Core.sector? (k : Core) (pa : Nat) : Bool := k.l2.any fun x => x.block == pa / 256 && bitAt x.valid (pa / 32 % 8)

/-- A merging fill: the invalid words of a line take the fill's bytes, the valid ones stay (R41). -/
def mergeWords (valid : Nat) (old new : List Byte) : List Byte :=
  (List.range 4).flatMap fun k => if bitAt valid k then (old.drop (8 * k)).take 8 else (new.drop (8 * k)).take 8

/-- A sector of memory at its home valid in the home's L2 slice. -/
def State.sector (s : State) (x : Xlat) : State :=
  if x.home < 1536 then
    let s := if (s.core x.home).sector? x.pa then s else s.refresh (.l2 x.home) (x.pa / 32 * 4) 4
    s.updCore x.home fun k => k.putSector x.pa
  else s

/-- A granule with its side-band bits, as a cache takes it from its home (R47, R386). -/
def State.lineOf (s : State) (asid va pa : Nat) : ILine :=
  let bs := s.pread pa 32
  let codes := s.granuleCodes (pa / 32)
  ⟨asid, va, bs, codes, checkCode bs codes⟩

/-- A frozen line that a core has read: in its L1, in its L2 slice's home, and in its die's remote-data cache where the home is on another die
(R41, R42). -/
def State.fillFrozen (s : State) (c asid va : Nat) (x : Xlat) : State :=
  let base := va / 32 * 32
  let new := match s.rline? (dieOf c) asid va with
    | some l => l
    | none => s.lineOf asid base (x.pa / 32 * 32)
  let whole : DLine := ⟨asid, base, true, 15, new.bytes, new.codes, new.check⟩
  let (line, full) : DLine × Bool := match (s.core c).dline? asid va with
    | some l =>
      if !l.frozen then (whole, false)
      else if l.valid = 15 then (l, true)
      else let bs := mergeWords l.valid.val l.bytes new.bytes; (⟨asid, base, true, 15, bs, new.codes, checkCode bs new.codes⟩, false)
    | none => (whole, false)
  let s := if full then s else s.refresh (.l1 c) (lineKey asid base) 4
  let s := (s.updCore c fun k => k.putLine line).sector x
  if dieOf x.home = dieOf c ∨ (s.rline? (dieOf c) asid va).isSome then s
  else { s.refresh (.rdc (dieOf c)) (lineKey asid base) 4 with rdc := s.rdc.put (dieOf c) ((new :: s.rdc.getD (dieOf c) []).take rdcLines) }

/-- A PRIVATE line that a thread of its home core has used: a whole word stored to becomes valid, anything else fetches the line (R41). -/
def State.fillPrivate (s : State) (c asid va n : Nat) (store : Bool) (x : Xlat) : State :=
  let m := wordMask va n
  let old := match (s.core c).dline? asid va with
    | some l => if l.frozen then 0 else l.valid.val
    | none => 0
  let whole := va % 8 == 0 && n == 8
  let valid := if store && whole then Nat.lor old m else if Nat.land old m = m then old else 15
  let s := if store && whole then (s.refresh (.l1 c) (lineKey asid va) 1).refresh (.l2 x.home) (x.pa / 8) 1
    else if valid = old then s else s.refresh (.l1 c) (lineKey asid (va / 32 * 32)) 4
  let s := s.updCore c fun k => k.putLine ⟨asid, va / 32 * 32, false, Fin.ofNat 16 valid, [], 0, 0⟩
  if store && whole then s else s.sector x

/-- What an access of a thread leaves in the caches (R40 to R42). Lines of LATTICE pages that are not frozen and of HOSTBUF pages are not
cached at cores. -/
def State.cached (s : State) (w : Who) (va n : Nat) (store : Bool) (l : Loc) : State :=
  match l with
  | .loc _ _ => s
  | .mem x =>
    let asid := (s.at w).asid
    if s.frozenPage asid va x.pte then s.fillFrozen w.core asid va x
    else if pteKind x.pte = kPrivate then (if x.home = w.core then s.fillPrivate w.core asid va n store x else s.sector x)
    else s

/-- Bytes written at a place. -/
def State.writeAt (s : State) (l : Loc) (bs : List Byte) : State :=
  match l with
  | .loc c off => s.lwrite c off bs
  | .mem x => s.pwrite x.pa bs

/-- Whether a place is the thread's own core's local memory, so that the access has fixed latency (R17). -/
def Loc.own (w : Who) : Loc → Bool
  | .loc c _ => c == w.core
  | .mem _ => false

/-! ## Trace ring -/

/-- The 64 bytes of a trace record (Table 11.2). -/
def traceRecord (va kind asid : Nat) (w : Who) (prev : Nat × Nat) (wid : Word) (launch : Nat) (lvt : Word) (gtime : Nat) : List Byte :=
  bytesOf 64 (va % 2 ^ 54 + kind * 2 ^ 54 + asid * 2 ^ 56 + w.core % 2048 * 2 ^ 64 + w.slot.val * 2 ^ 75 + prev.1 % 2048 * 2 ^ 80
    + prev.2 % 16 * 2 ^ 91 + wid.toNat * 2 ^ 128 + launch % 4096 * 2 ^ 192 + lvt.toNat * 2 ^ 256 + gtime % 2 ^ 64 * 2 ^ 320)

/-- A size register that names a ring: a power of two between two bounds. -/
def ringOk (lo hi n : Nat) : Bool := (List.range 21).any fun k => n == 2 ^ k && decide (lo ≤ n ∧ n ≤ hi)

/-- The trace of an access to a PRIVATE line (R308): kind 0 load, 1 store, 2 atomic. Each sector's last writer is kept whether or not tracing is
on. A record that finds no room is lost and counted, and so is one that finds no ring, which TRSIZE does not name (R358; log entry 87). -/
def State.trace (s : State) (w : Who) (kind va : Nat) (x : Xlat) : State :=
  let k := s.core x.home
  if pteKind x.pte != kPrivate || farAway x.pa then s
  else
    let t := s.at w
    let me := (w.core, w.slot.val)
    let s := match k.lastWriter.find? (x.pa / 32) with
      | some p =>
        if p = me || !k.trctl then s
        else
          let n := k.trsize.toNat
          if ringOk 16 (2 ^ 20) n && decide ((k.trtail - k.trhead).toNat < n) then
            (s.pwrite (k.trbase.toNat + 64 * (k.trtail.toNat % n))
              (traceRecord va kind t.asid w p t.task.wid t.launchNo t.th.lvt s.gtime)).updCore x.home
              fun k => { k with trtail := k.trtail + 1 }
          else s.updCore x.home fun k => { k with trlost := if k.trlost.toNat < 2 ^ 32 - 1 then k.trlost + 1 else k.trlost }
      | none => s
    if kind = 0 then s else s.updCore x.home fun k => { k with lastWriter := k.lastWriter.put (x.pa / 32) me }

/-! ## State window and undo log -/

/-- Whether a store lies inside a thread's state window (R76). -/
def inWindow (t : Thread) (va n : Nat) : Bool := decide (t.stwb.toNat ≤ va ∧ va + n ≤ t.stwb.toNat + t.stwl.toNat)

/-- The undo records of the granules from `g` up that the newest epoch has not logged yet (R76). -/
def undoOf (lm : List Host.Cell) (u : List (Nat × List Byte)) (g : Nat) : Nat → List (Nat × List Byte)
  | 0 => u
  | n + 1 =>
    let u := if u.any fun r => r.1 == 32 * g then u else (32 * g, Mem.gets lm (32 * g) 32) :: u
    undoOf lm u (g + 1) n

/-- The last element of a list changed. -/
def updLast (f : α → α) : List α → List α
  | [] => []
  | [x] => [f x]
  | x :: y :: xs => x :: updLast f (y :: xs)

/-- A local store by a thread: undo-logged in the newest epoch of a speculative task (R76). -/
def State.localStore (s : State) (w : Who) (c off : Nat) (bs : List Byte) : State :=
  let s :=
    if s.spec w then
      s.updTask (s.at w).task fun t =>
        { t with epochs := updLast (fun e => { e with undo := undoOf (s.core c).lmem e.undo (off / 32) ((off + bs.length + 31) / 32 - off / 32) }) t.epochs }
    else s
  s.lwrite c off bs

/-- The unsaved-state fault of a store by a speculative task outside its state window (Table 3.3). -/
def State.storeAllowed (s : State) (w : Who) (i : Instr) (va n : Nat) : M Unit :=
  failIf (s.spec w && !inWindow (s.th w) va n) 0x08 (encodeWord i)

end Sys2Proof.Machine
end

