-- ==== Sys2Proof/Machine/Operands.lean ====
section
/-! DEFINITION. Operand forms: general registers with their queue bindings, predicates, vector registers and masks, and the steps of a
circular buffer that bound registers share with the buffer instructions. -/

namespace Sys2Proof.Machine

/-! ## Circular-buffer steps -/

/-- The number of slots of a ring (Table 2.7). -/
def Cb.slots (b : Cb) : Nat := b.nslotm1 + 1

/-- Slot size in bytes, and the local-memory offset of a slot. -/
def Cb.bytes (b : Cb) : Nat := 32 * b.slotsz
def Cb.addr (b : Cb) (i : Nat) : Nat := b.base + b.bytes * i

/-- Filled slots before the token, if the token stands among the filled slots (R62). -/
def Cb.tokenAt (b : Cb) : Option Nat := b.token.map fun t => (t + b.slots - b.cptr) % b.slots

/-- The producer index advanced by `k` (R60). -/
def Cb.advP (b : Cb) (k : Nat) : Cb := { b with pptr := (b.pptr + k) % b.slots, filled := b.filled + k, pushPos := 0 }

/-- The consumer index advanced by `k`; a token passed over is consumed as any slot (R60, R62). -/
def Cb.advC (b : Cb) (k : Nat) : Cb :=
  let passed := match b.tokenAt with | some t => decide (t < k) | none => false
  { b with cptr := (b.cptr + k) % b.slots, filled := b.filled - k, popPos := 0, token := if passed then none else b.token }

/-- Descriptor `n` of a core. -/
def State.cb (s : State) (c : Nat) (n : Fin 32) : Cb := (s.core c).cbs[n]

def State.updCb (s : State) (c : Nat) (n : Fin 32) (f : Cb → Cb) : State :=
  s.updCore c fun k => { k with cbs := k.cbs.set n (f k.cbs[n]) }

/-- tval of a CB fault: buffer number and global core number (Table 4.1). -/
def cbTval (c : Nat) (n : Fin 32) : Word := BitVec.ofNat 64 (n.val + c % 2048 * 32)

/-- A CB fault (0x07). -/
def cbFault (c : Nat) (n : Fin 32) : M α := fail 0x07 (cbTval c n)

/-- Access to a core's local memory by a thread waits while the core's LMX is 1 (R18, R98). -/
def State.lockFree (s : State) (w : Who) (c : Nat) : M Unit :=
  if w.slot != 15 && (s.core c).lmx then .error (.busy .lmx) else .ok ()

/-! ## General registers -/

/-- An unsaved-state fault where a task that holds history names a bound register (R64, R158). -/
def State.chkBound (s : State) (w : Who) (i : Instr) : M Unit := failIf (s.history w && s.namesBound w i) 0x08 (encodeWord i)

/-- The CB faults of a source (R63, R158): one that is push-bound, or whose buffer is disabled. -/
def State.cbSrc (s : State) (w : Who) (n : Fin 32) : M Unit :=
  match (s.th w).binding n with
  | some b => if b.push || !(s.cb b.core b.cb).en then cbFault b.core b.cb else .ok ()
  | none => .ok ()

/-- Whether a buffer accepts a push through a binding: local production where the buffer was of the binding core, else the copy channel
from that core (R61, R63). -/
def Binding.accepts (b : Binding) (q : Cb) : Bool :=
  b.push && q.en && !q.eos && (if b.src = b.core then q.pkind == 0 else q.pkind == 1 && q.srccore == b.src)

/-- The CB faults of a destination (R61, R62, R63, R158): one that is pop-bound, or whose buffer does not accept the push. -/
def State.cbDst (s : State) (w : Who) (d : Fin 32) : M Unit :=
  match (s.th w).binding d with
  | some b => if b.accepts (s.cb b.core b.cb) then .ok () else cbFault b.core b.cb
  | none => .ok ()

/-- The CB faults of every general register that an instruction names, before any effect (R158). -/
def State.chkCb (s : State) (w : Who) (i : Instr) : M Unit := do
  i.srcs.forM (s.cbSrc w)
  i.dsts.forM (s.cbDst w)

/-- The bound-register faults of an instruction that has no condition of a rank between theirs (R158, Table 4.1). -/
def State.chkOps (s : State) (w : Who) (i : Instr) : M Unit := do
  s.chkBound w i
  s.chkCb w i

/-- A check whose failure gives way to a fault of higher rank that the later part `x` of the instruction would find (Table 4.1). -/
def M.orEarlier (chk : M Unit) (x : M α) : M Unit :=
  match chk, x with
  | .error (.trap code tval sub log), .error (.trap code' tval' sub' log') =>
    if causePrio code' < causePrio code then .error (.trap code' tval' sub' log') else .error (.trap code tval sub log)
  | chk, _ => chk

/-- An operand that may have to wait: the wait stands back behind the checks `chk`, which rank before it (Table 4.1). -/
def M.waitsAfter (x : M α) (chk : M Unit) : M α :=
  match x with
  | .error (.park p) => do chk; .error (.park p)
  | .error (.busy b) => do chk; .error (.busy b)
  | x => x

/-- A predicate written; p0 is hard-wired (R24). -/
def Thread.setP (t : Thread) (n : Fin 16) (b : Bool) : Thread :=
  if n = 0 then t else { t with p := if b then t.p ||| (1#16 <<< n.val) else t.p &&& ~~~(1#16 <<< n.val) }

/-- One element popped through a binding (R63): it waits on an empty buffer, and at the token returns zero, sets the bound predicate
and leaves the token. -/
def State.pop (s : State) (w : Who) (b : Binding) : M (Word × State) := do
  let q := s.cb b.core b.cb
  failIf (!q.en) 0x07 (cbTval b.core b.cb)
  if q.filled = 0 then .error (.park (.bound b.core b.cb false))
  else if q.tokenAt = some 0 then .ok (0, s.updTh w fun t => t.setP b.pred true)
  else
    s.lockFree w b.core
    s.sound b.core (q.addr q.cptr + 8 * q.popPos) 8
    let v := wordOf (s.lread b.core (q.addr q.cptr + 8 * q.popPos) 8)
    let q' := if 8 * (q.popPos + 1) ≥ q.bytes then q.advC 1 else { q with popPos := q.popPos + 1 }
    .ok (v, s.updCb b.core b.cb fun _ => q')

/-- A source register read at the issue turn (R158): g0 is zero, a pop-bound register pops, a push-bound one is a CB fault. -/
def State.readG (s : State) (w : Who) (n : Fin 32) : M (Word × State) :=
  if n = 0 then .ok (0, s)
  else match (s.th w).binding n with
    | none => .ok ((s.th w).g[n], s)
    | some b => if b.push then cbFault b.core b.cb else s.pop w b

/-- A destination register's CB fault, and the wait of a push-bound one for room in its buffer (R63, R158). -/
def State.chkDst (s : State) (w : Who) (d : Fin 32) : M Unit :=
  match (s.th w).binding d with
  | none => .ok ()
  | some b =>
    let q := s.cb b.core b.cb
    if !b.accepts q then cbFault b.core b.cb
    else if q.filled = q.slots then .error (.park (.bound b.core b.cb true))
    else s.lockFree w b.core

/-- A general register written: g0 discards, a push-bound register pushes one element, which `chkDst` has admitted (R63). -/
def State.writeG (s : State) (w : Who) (d : Fin 32) (v : Word) : State :=
  if d = 0 then s
  else match (s.th w).binding d with
    | none => s.updTh w fun t => { t with g := t.g.set d v }
    | some b =>
      let q := s.cb b.core b.cb
      let s := s.lwrite b.core (q.addr q.pptr + 8 * q.pushPos) (bytesOf 8 v.toNat)
      let q' := if 8 * (q.pushPos + 1) ≥ q.bytes then q.advP 1 else { q with pushPos := q.pushPos + 1 }
      s.updCb b.core b.cb fun _ => q'

/-- A destination checked and written. -/
def State.putG (s : State) (w : Who) (d : Fin 32) (v : Word) : M State := do
  s.chkDst w d
  .ok (s.writeG w d v)

/-- Two sources, a then b (R158). -/
def State.read2 (s : State) (w : Who) (a b : Fin 32) : M (Word × Word × State) := do
  let (x, s) ← s.readG w a
  let (y, s) ← s.readG w b
  .ok (x, y, s)

/-- A run of registers in ascending order (R193). -/
def State.readRun (s : State) (w : Who) (n : Fin 32) : Nat → M (List Word × State)
  | 0 => .ok ([], s)
  | k + 1 => do
    let (x, s) ← s.readG w n
    let (xs, s) ← s.readRun w (n + 1) k
    .ok (x :: xs, s)

/-! ## Vector registers and masks -/

/-- Vector register bytes as one number: bytes 0 to VLEN/8 − 1 (R24). -/
def State.readV (s : State) (w : Who) (n : Fin 16) : Nat := (s.th w).v[n].toNat % 2 ^ (8 * vlenB w.core)

def State.writeV (s : State) (w : Who) (n : Fin 16) (x : Nat) : State :=
  s.updTh w fun t => { t with v := t.v.set n (BitVec.ofNat 1024 (x % 2 ^ (8 * vlenB w.core))) }

/-- Mask bits as one number; m0 reads as all ones (R24). -/
def State.readM (s : State) (w : Who) (n : Fin 8) : Nat :=
  if n = 0 then 2 ^ vlenB w.core - 1 else (s.th w).m[n].toNat % 2 ^ vlenB w.core

def State.writeM (s : State) (w : Who) (n : Fin 8) (x : Nat) : State :=
  if n = 0 then s else s.updTh w fun t => { t with m := t.m.set n (BitVec.ofNat 128 (x % 2 ^ vlenB w.core)) }

/-- A V field that names a general register names g0 to g15 (Table 6.12). -/
def gv (n : Fin 16) : Fin 32 := ⟨n.val, by omega⟩

end Sys2Proof.Machine
end

