-- ==== Sys2Proof/Machine/Flags.lean ====
section
/-! DEFINITION. Every flag computation of the machine: the machine has no condition codes; its flags are the predicates p0 to p15, the
scalar and vector conditions that set them, and predicate and mask logic. -/

namespace Sys2Proof.Machine

/-- A predicate read; p0 reads as one (R24). -/
def Thread.getP (t : Thread) (n : Fin 16) : Bool := n == 0 || t.p.getLsbD n.val

def State.readP (s : State) (w : Who) (n : Fin 16) : Bool := (s.th w).getP n

def State.writeP (s : State) (w : Who) (n : Fin 16) (b : Bool) : State := s.updTh w fun t => t.setP n b

/-- The predicate word with bit 0 reading as one (R24, R175). -/
def Thread.predWord (t : Thread) : BitVec 16 := t.p ||| 1#16

end Sys2Proof.Machine

namespace Sys2Proof

/-- Order of keys (R66). -/
def Key.lt (a b : Key) : Bool :=
  decide (a.vt < b.vt) || (a.vt == b.vt && (decide (a.swid < b.swid) || (a.swid == b.swid && decide (a.seq < b.seq))))

/-- A scalar condition on two register values (R174). -/
def Cond.holds (c : Cond) (x y : Word) : Bool :=
  match c with
  | .eq => x == y
  | .ne => x != y
  | .lt => decide (x.toInt < y.toInt)
  | .ge => decide (y.toInt ≤ x.toInt)
  | .ltn => decide (x.toNat < y.toNat)
  | .gen => decide (y.toNat ≤ x.toNat)

/-- Predicate logic (R175). -/
def PLogOp.eval (o : PLogOp) (a b : Bool) : Bool :=
  match o with
  | .and => a && b
  | .or => a || b
  | .xor => a ^^ b
  | .andn => a && !b
  | .orn => a || !b
  | .xnor => !(a ^^ b)

/-- Mask logic, bit by bit below bit `l` (R245). -/
def MLogOp.eval (o : MLogOp) (l a b : Nat) : Nat :=
  let full := 2 ^ l - 1
  let a := a % 2 ^ l
  let b := b % 2 ^ l
  match o with
  | .and => Nat.land a b
  | .or => Nat.lor a b
  | .xor => Nat.xor a b
  | .andn => Nat.land a (Nat.xor b full)

end Sys2Proof
end

