-- ==== Sys2Proof/Machine/Shared.lean ====
section
/-! DEFINITION. What the lattice, message, task and engine instructions share: tracked transfers, synchronisation with posted replies,
the commit queue, run-queue entries and local areas. -/

namespace Sys2Proof.Machine

/-! ## Tracked transfers (R89) -/

/-- The sweep colour in force. -/
def State.colour (s : State) : Bool := s.sweep % 2 == 1

/-- One more in the count of a colour. -/
def addColour (c : Bool) (n : Nat) (x : Nat × Nat) : Nat × Nat := if c then (x.1, x.2 + n) else (x.1 + n, x.2)

/-- Tracked transfers of a launch sent under a colour. -/
def State.countSent (s : State) (launch : Nat) (c : Bool) (n : Nat) : State :=
  s.updLaunch launch fun l => { l with sent := addColour c n l.sent }

/-- A smaller value in the least of a colour. -/
def leastColour (c : Bool) (v : Nat) (x : Nat × Nat) : Nat × Nat := if c then (x.1, min x.2 v) else (min x.1 v, x.2)

/-- A message or anti-message of a launch sent under the colour it carries: counted, with its VT in the least of that colour (R89). -/
def State.countMsg (s : State) (m : Msg) : State :=
  s.updLaunch m.launch fun l =>
    { l with sent := addColour m.colour 1 l.sent, sentVt := if m.kind = 0 then leastColour m.colour m.vt l.sentVt else l.sentVt }

/-- Tracked transfers of a launch received, counted under the colour they carry. -/
def State.countRecv (s : State) (launch : Nat) (c : Bool) (n : Nat) : State :=
  s.updLaunch launch fun l => { l with recv := addColour c n l.recv }

/-- One less in the received count of a colour: a transfer that waits where it arrived is in transit still (R359). -/
def State.uncountRecv (s : State) (launch : Nat) (c : Bool) : State :=
  s.updLaunch launch fun l => { l with recv := if c then (l.recv.1, l.recv.2 - 1) else (l.recv.1 - 1, l.recv.2) }

/-- A package that a launch is known to span, having exchanged a tracked transfer or a sweep report for it (R92). -/
def State.meetPeer (s : State) (launch dev : Nat) : State :=
  if dev = s.regs.welsaid.toNat % 64 then s
  else s.updLaunch launch fun l => if l.peers.contains dev then l else { l with peers := l.peers ++ [dev] }

/-! ## Reports of a launch (R100) -/

/-- A fault report on its way to the command processor. -/
def State.report (s : State) (launch : Nat) (r : Report) : State := s.post [.launchStop launch .fault (some r)]

/-- Whether a launch has been stopped or has ended. -/
def State.stopped (s : State) (launch : Nat) : Bool :=
  match s.launch? launch with
  | some l => match l.st with | .live => false | _ => true
  | none => true

/-! ## Posted replies (R194 to R196) -/

/-- The first queued refusal taken as a synchronous trap with epc = `epc`; lfpc receives the PC of the refused operation (R195). -/
def State.takeRefusal (s : State) (w : Who) (insn : Bool) : State :=
  match (s.at w).refused with
  | [] => s
  | r :: rest => (s.upd w fun x => { x with refused := rest, lfpc := r.pc }).takeTrap w r.code false 0 r.tval (s.th w).pc insn

/-- A synchronising instruction waits for every reply, then takes the first refusal itself (R196). -/
def State.sync (s : State) (w : Who) : M Unit :=
  let x := s.at w
  if !x.posted.isEmpty then .error (.busy (.replies true))
  else if !x.refused.isEmpty then .error (.next (s.takeRefusal w true))
  else .ok ()

/-! ## The commit queue (R79, R80) -/

/-- The key of the message whose processing issued an action: the last message the task dequeued. -/
def State.tag (s : State) (w : Who) : Key := ((s.task? (s.at w).task).bind Task.lastKey).getD ⟨0, 0, 0⟩

/-- Whether a task holds an open epoch of a message key above `k`. -/
def State.opens (s : State) (t : TaskId) (k : Key) : Bool :=
  match s.task? t with
  | some x => x.epochs.any fun e => k.lt ⟨e.msg.vt, e.msg.swid.toNat, e.msg.seq⟩
  | none => false

/-- The entry of greatest tag. -/
def greatest : List CommitEntry → Option CommitEntry
  | [] => none
  | e :: es =>
    match greatest es with
    | none => some e
    | some g => if g.tag.lt e.tag then some e else some g

/-- An action placed in the core's commit queue; with 64 entries the issuer waits, and a task holding a greater tag is rolled back
(R80). -/
def State.hold (s0 s : State) (w : Who) (i : Instr) (act : CommitAct) : M State :=
  let k := s.core w.core
  let tag := s.tag w
  if k.commitq.length < 64 then
    .ok (s.updCore w.core fun k => { k with commitq := k.commitq ++ [⟨(s.at w).task, w.slot, (s.th w).pc, tag, act⟩] })
  else
    match greatest (k.commitq.filter fun e => e.task != (s.at w).task) with
    | some g =>
      if tag.lt g.tag && s.opens g.task tag then .error (.next ((s0.waitBusy w i .commit).post [.rollback g.task tag false]))
      else .error (.busy .commit)
    | none => .error (.busy .commit)

/-! ## Queue entries -/

/-- A codelet's entry in a core's run queue (R327): bound to the core. -/
def codeletEntry (task : TaskId) (pc arg lvt : Word) (prio : Nat) : QEntry :=
  { task := task, work := .codelet pc arg lvt, prio := prio, passes := 0, mode := 0, die := 0, groups := 0, bound := true, cluster := none,
    expl := false }

/-- An entry at the tail of a core's run queue. -/
def State.enqueue (s : State) (c : Nat) (e : QEntry) : State := s.updCore c fun k => { k with runq := k.runq ++ [e] }

/-- An entry at the tail of a die's ready queue. -/
def State.pushReady (s : State) (d : Nat) (e : QEntry) : State :=
  { s with ready := s.ready.setIfInBounds d (s.ready.toList.getD d [] ++ [e]) }

/-! ## Events -/

/-- The first event in transit taken, where `f` reads it: it leaves the agenda and acts. Otherwise nothing happens. -/
def takeEvent (s : State) (f : Event → Option (State → State)) : Host.Outcome State Fault Refusal :=
  match s.agenda with
  | [] => .next s
  | e :: rest =>
    match f e with
    | some g => .next (g { s with agenda := rest })
    | none => .next s

/-! ## Local areas -/

/-- A local-window area of `n` bytes that an instruction names: misalignment, then the grant; an address outside the local window lies
outside every grant (R201, R205, R210, R214). -/
def State.localArea (s : State) (w : Who) (va n align : Nat) : M Loc := do
  failIf (va % align != 0) 0x05 (BitVec.ofNat 64 va)
  failIf (decide (2 ^ 54 ≤ va)) 0x09 (BitVec.ofNat 64 va)
  if inLocal va then s.localPlace w va n else fail 0x0C (BitVec.ofNat 64 va)

/-- The same for an area that the instruction reads (R388). -/
def State.localSource (s : State) (w : Who) (va n align : Nat) : M Loc := do
  let l ← s.localArea w va n align
  match l with
  | .loc c off => do s.sound c off n; .ok l
  | .mem _ => .ok l

/-- The bytes of a local place. -/
def State.readLoc (s : State) (l : Loc) (n : Nat) : List Byte :=
  match l with
  | .loc c off => s.lread c off n
  | .mem _ => []

/-- A thread that wakes to issue its instruction again (R101). -/
def State.reissue (s : State) (w : Who) : State := (s.unpark w).upd w fun x => { x with st := .run, out := none }

/-! ## Blocks and chunks (R299) -/

/-- Wire blocks, blocks per chunk, and the chunk of a block. -/
def Bucket.nb (b : Bucket) : Nat := ceilDiv b.count 32
def Bucket.cl (b : Bucket) : Nat := ceilDiv b.nb (max 1 b.nmem)
def Bucket.chunk (b : Bucket) (i : Nat) : Nat := i / max 1 b.cl

/-- The blocks of chunk `c`. -/
def Bucket.chunkBlocks (b : Bucket) (c : Nat) : List Nat := (List.range b.nb).filter fun i => b.chunk i == c

/-- Whether a command reduces, and whether it spreads (Table 10.10). -/
def Bucket.reduces (b : Bucket) : Bool := b.cmd.op == .crs || b.cmd.op == .car
def Bucket.spreads (b : Bucket) : Bool := b.cmd.op != .crs

/-- The rank a block's reduction starts from, and the rank that holds its final form first. -/
def Bucket.starter (b : Bucket) (i : Nat) : Nat := (b.chunk i + 1) % max 1 b.nmem
def Bucket.holder (b : Bucket) (i : Nat) : Nat := if b.cmd.op = .cbc then b.root else b.chunk i

/-- Whether this rank forms a local block. -/
def Bucket.forms (b : Bucket) (i : Nat) : Bool := b.reduces || b.holder i == b.rank

/-- Whether this rank receives a block in a phase. -/
def Bucket.expects (b : Bucket) (spread : Bool) (i : Nat) : Bool :=
  decide (i < b.nb) && decide (1 < b.nmem) && (if spread then b.spreads && b.holder i != b.rank else b.reduces && b.starter i != b.rank)

/-- Whether this rank writes a block. -/
def Bucket.writes (b : Bucket) (i : Nat) : Bool := b.spreads || b.holder i == b.rank

/-- How many blocks satisfy a condition. -/
def Bucket.countOf (b : Bucket) (p : Nat → Bool) : Nat := ((List.range b.nb).filter p).length

/-- Whether a bucket lacks blocks of its peers. -/
def Bucket.lacksBlocks (b : Bucket) : Bool :=
  decide (b.gotReduce < b.countOf (b.expects false)) || decide (b.gotSpread < b.countOf (b.expects true))

end Sys2Proof.Machine
end

