-- ==== Sys2Proof/Machine/Header.lean ====
section
/-! DEFINITION. The fields of the launch header (Table 12.1), of the work-identifier layout (Table 1.1) and of messages (Table 3.1). -/

namespace Sys2Proof.Machine

/-- Fields of a 128-byte launch header held as a number (Table 12.1). -/
def hEntry (h : Nat) : Nat := bits h 53 0
def hImode (h : Nat) : Nat := bits h 55 54
def hVtime (h : Nat) : Bool := bitAt h 56
def hPrio (h : Nat) : Nat := bits h 58 57
def hExpl (h : Nat) : Bool := bitAt h 59
def hNogrid (h : Nat) : Bool := bitAt h 60
def hArg (h : Nat) : Nat := bits h 127 64
def hWidths (h : Nat) : Nat := bits h 163 128
def hOlvl (h : Nat) : Nat := bits h 166 164
def hCaps (h : Nat) : Nat := bits h 173 168
def hOtb (h : Nat) : Nat := bits h 191 176
/-- Extent of field `k`. -/
def hX (h k : Nat) : Nat := bits h (223 + 32 * k) (192 + 32 * k) + 1
def hDieset (h : Nat) : Nat := bits h 391 384
def hLplc (h l : Nat) : Nat := bits h (393 + 2 * l) (392 + 2 * l)
def hBcore (h : Nat) : Nat := bits h 414 404
def hTpc (h : Nat) : Nat := bits h 418 415
def hFmtblk (h : Nat) : Nat := bits h 501 448
def hVtbase (h : Nat) : Nat := bits h 575 512
def hVtwin (h : Nat) : Nat := bits h 639 576
def hStwoff (h : Nat) : Nat := bits h 659 640
def hStwl (h : Nat) : Nat := bits h 676 660
def hLmreq (h : Nat) : Nat := bits h 689 677
def hSeed (h : Nat) : Nat := bits h 767 704
def hSavebase (h : Nat) : Nat := bits h 821 768
def hSavelen (h : Nat) : Nat := bits h 851 832
def hSavecnt (h : Nat) : Nat := bits h 883 852
def hDeplist (h : Nat) : Nat := bits h 949 896
def hNdep (h : Nat) : Nat := bits h 957 950
def hHring (h : Nat) : Nat := bits h 971 960
def hIrq (h : Nat) : Bool := bitAt h 972
def hMsix (h : Nat) : Nat := bits h 983 973
/-- Address of the layout image (R171). -/
def hLayout (h : Nat) : Nat := bits h 1023 984 * 2 ^ 14

/-- A launch's header as a number. -/
def Launch.h (l : Launch) : Nat := l.hdr.toNat

/-- Width of work-identifier field `k` in a widths word. -/
def widthOf (ws k : Nat) : Nat := bits ws (6 * k + 5) (6 * k)

/-- Number of present fields. -/
def nlev (ws : Nat) : Nat := ((List.range 6).filter fun k => widthOf ws k != 0).length

/-- Sum of the widths of fields 0 to `k` − 1. -/
def widthSum (ws : Nat) : Nat → Nat
  | 0 => 0
  | k + 1 => widthSum ws k + widthOf ws k

/-- S: the sum of all widths. -/
def widS (ws : Nat) : Nat := widthSum ws 6

/-- The widl CSR (Table 1.1). -/
def widlOf (ws : Nat) : Nat := ws + nlev ws * 2 ^ 36

/-- Field `k` of a work identifier (R10). -/
def widField (ws wid k : Nat) : Nat := wid / 2 ^ (widS ws - widthSum ws (k + 1)) % 2 ^ widthOf ws k

/-- Fields 0 to `l` read together: the number of the level-l group (R11, R34). -/
def widGroup (ws wid l : Nat) : Nat := wid / 2 ^ (widS ws - widthSum ws (l + 1)) % 2 ^ 64

/-- Member count of a level-l group: the extents after l (R222). -/
def groupSize (h l : Nat) : Nat := (List.range 6).foldl (fun m k => if l < k then m * hX h k else m) 1

/-- Product of the extents of fields `a` to `b` − 1. -/
def extProd (h a b : Nat) : Nat := (List.range 6).foldl (fun m k => if a ≤ k ∧ k < b then m * hX h k else m) 1

/-- The owner tag of a task (R34, R326). -/
def ownerTag (h wid : Nat) : Nat := if hOlvl h = 7 then hOtb h else (hOtb h + widGroup (hWidths h) wid (hOlvl h)) % 2 ^ 16

/-- The inbox mode of a code. -/
def imodeOf : Nat → IMode | 0 => .fifo | 1 => .ordered | _ => .optimistic
def imodeCode : IMode → Nat | .fifo => 0 | .ordered => 1 | .optimistic => 2

end Sys2Proof.Machine

namespace Sys2Proof

/-- Payload length in 32-byte units, minus one. -/
def Msg.plen (m : Msg) : Nat := (m.payload.length + 31) / 32 - 1

/-- The 32-byte header as a program receives it: SEQ, TENT and COLOUR are zero (R67, Table 3.1). -/
def Msg.header (m : Msg) : List Byte :=
  bytesOf 32 (m.vt % 2 ^ 64 + m.swid.toNat * 2 ^ 64 + m.dwid.toNat * 2 ^ 128 + m.launch % 4096 * 2 ^ 192 + b2n m.anti * 2 ^ 236
    + b2n m.fifoClass * 2 ^ 238 + m.kind % 8 * 2 ^ 239 + m.plen % 8 * 2 ^ 243)

/-- The order key of a message (R66). -/
def Msg.key (m : Msg) : Key := ⟨m.vt, m.swid.toNat, m.seq⟩

end Sys2Proof

namespace Sys2Proof.Machine

/-- GVT and HZN of a launch: all ones without virtual time (R87). -/
def Launch.gvtOf (l : Launch) : Nat := if hVtime l.h then l.gvt else 2 ^ 64 - 1
def Launch.hznOf (l : Launch) : Nat := if hVtime l.h then l.hzn else 2 ^ 64 - 1

def State.gvtOf (s : State) (launch : Nat) : Nat := ((s.launch? launch).map Launch.gvtOf).getD (2 ^ 64 - 1)
def State.hznOf (s : State) (launch : Nat) : Nat := ((s.launch? launch).map Launch.hznOf).getD (2 ^ 64 - 1)

/-! ## Barrier cells (R322) -/

/-- The number of a level-`lvl` group's barrier cell among those of its launch: levels in order, groups by linear index. -/
def barrierIndex (h wid lvl : Nat) : Nat :=
  (List.range lvl).foldl (fun n l => n + extProd h 0 (l + 1)) 0
    + (List.range 6).foldl (fun n k => if k ≤ lvl then n * hX h k + widField (hWidths h) wid k else n) 0

/-- The number of a launch's barrier cells: those of the levels below its last; none without a grid. -/
def barrierCells (h : Nat) : Nat := if hNogrid h then 0 else (List.range (nlev (hWidths h) - 1)).foldl (fun n l => n + extProd h 0 (l + 1)) 0

/-- The address in ASID 0 of a launch's barrier cell `n`. -/
def barrierAt (launch n : Nat) : Nat := 62 * 2 ^ 48 + 8 * ((Config.barrierBase launch + n) % 2 ^ 45)

/-- Count of a barrier cell. -/
def Launch.barrierCount (l : Launch) (n : Nat) : Nat := l.barrier.getD n 0

/-- A barrier trigger: a value on a COUNT cell. -/
def barrierTrig (n : Nat) : Trig := ⟨.val, [BitVec.ofNat 64 n], []⟩

end Sys2Proof.Machine
end

