-- ==== Sys2Proof/Machine/LoadStore.lean ====
section
/-! DEFINITION. Loads, stores, PUBLISH, private atomics and FENCE, and the choice between a remote word access and a locality
migration (R40, R182 to R192). A body takes whether it already runs at the home of the line. -/

namespace Sys2Proof.Machine

/-! ## Remote lines (R40) -/

/-- The core at which an access executes when it is not the issuing one: the home of a PRIVATE line, or the granting core of a migrated
thread's local memory (R40, R43). -/
def remoteHome (w : Who) (l : Loc) : Option Nat :=
  match l with
  | .loc c _ => if c = w.core then none else some c
  | .mem x => if pteKind x.pte = kPrivate ∧ x.home ≠ w.core then some x.home else none

/-- Index of the migration predictor: PC[7:2]. -/
def predIndex (pc : Word) : Nat := bits pc.toNat 7 2

/-- The predictor and the remembered home after a remote access (R40). -/
def State.noteRemote (s : State) (w : Who) (h : Nat) : State :=
  let i := predIndex (s.th w).pc
  let c := ((s.core w.core).predictor.toList.getD i 0).val
  let c' := if (s.at w).lastHome = some h then min 3 (c + 1) else c - 1
  let s := s.updCore w.core fun k => { k with predictor := k.predictor.setIfInBounds i (Fin.ofNat 4 c') }
  s.upd w fun x => { x with lastHome := some h }

/-- The conditions of R40 and R107 on a locality migration that the issuing core can see. A K8 image is not taken to a K7 core, because a
locality migration translates nothing (R115). An access that has consulted the predictor does not consult it again (R260). -/
def State.mayMigrate (s : State) (w : Who) (h : Nat) : Bool :=
  let x := s.at w
  !x.consulted && decide (h < 1536) && decide (2 ≤ ((s.core w.core).predictor.toList.getD (predIndex x.th.pc) 0).val) && decide (w.slot.val < 14) && x.isTask && !x.th.mpin
    && !s.history w && x.th.rcnt == 0 && (isK8 h || !isK8 w.core)
    && (match x.capDie with | some d => d == dieOf h | none => true)

/-- The remote word accesses of one access, each of a word of 8 bytes at a home (R40). -/
def State.noteWords (s : State) (w : Who) (hs : List Nat) : State := hs.foldl (fun (s : State) h => s.noteRemote w h) s

/-- The words of `n` bytes of a local memory on another core, which an access reaches by remote word accesses (R40, R43). -/
def State.noteSpan (s : State) (w : Who) (l : Loc) (n : Nat) : State :=
  match remoteHome w l with
  | some h => s.noteWords w (List.replicate (ceilDiv n 8) h)
  | none => s

/-- An access that leaves for another core: a migration of the thread to `h`, or remote word accesses (R40). -/
def State.goRemote (s : State) (w : Who) (i : Instr) (migrates : Bool) (h : Nat) (words : List Nat) : M α :=
  if migrates && s.mayMigrate w h then
    .error (.next ((s.waitBusy w i (.locality words)).post [.localityMigration w.core w.slot h]))
  else .error (.next (((s.noteWords w words).waitBusy w i .remote).post [.remoteWordAccess w.core w.slot]))

/-- Whether a place is memory at a home, not a core's local memory. -/
def Loc.isMem : Loc → Bool
  | .loc _ _ => false
  | .mem _ => true

/-- An access executed at once, or sent to its home where `here` is false (R40). A local memory on another core is always reached by remote word
accesses (R43). -/
def State.route (s : State) (here : Bool) (w : Who) (i : Instr) (migrates : Bool) (l : Loc) : M Unit :=
  match remoteHome w l with
  | some h => if here then .ok () else s.goRemote w i (migrates && l.isMem) h [h]
  | none => .ok ()

/-- Completion of a load or store: fixed latency in the core's own local memory, else variable (R17). -/
def State.retireAt (s : State) (w : Who) (i : Instr) (l : Loc) : State := if l.own w then s.retire w i else s.retireVar w i

/-- The trace of an access, where it went to memory (R308). -/
def State.traceAt (s : State) (w : Who) (kind va : Nat) (l : Loc) : State :=
  match l with
  | .loc _ _ => s
  | .mem x => s.trace w kind va x

/-- Bytes stored at a place: undo-logged in local memory (R76). -/
def State.storeAt (s : State) (w : Who) (l : Loc) (bs : List Byte) : State :=
  match l with
  | .loc c off => s.localStore w c off bs
  | .mem _ => s.writeAt l bs

/-! ## LD, LDN, ST, LDX, STX -/

/-- Access sizes in bytes. -/
def szBytes : Sz → Nat | .b => 1 | .h => 2 | .w => 4 | .d => 8
def sznBytes : SzN → Nat | .b => 1 | .h => 2 | .w => 4

/-- Little-endian bytes sign- or zero-extended to a register value (R182). -/
def extend (signed : Bool) (bs : List Byte) : Word :=
  if signed then toWord (sext (8 * bs.length) (natOf bs)) else wordOf bs

/-- EA = g(a) + off × size (R182). -/
def State.eaOff (s : State) (w : Who) (a : Fin 32) (o : BitVec 12) (n : Nat) : M (Word × State) := do
  let (x, s) ← s.readG w a
  .ok (x + o.signExtend 64 * BitVec.ofNat 64 n, s)

/-- EA = g(a) + g(b) × size (R184). -/
def State.eaIdx (s : State) (w : Who) (a b : Fin 32) (n : Nat) : M (Word × State) := do
  let (x, y, s) ← s.read2 w a b
  .ok (x + y * BitVec.ofNat 64 n, s)

/-- Whether an access by a thread goes to its own core's local memory, and so has fixed latency (R17). -/
def State.ownLocal (s : State) (w : Who) (va : Nat) : Bool := inLocal va && (s.grant w).1 == w.core

/-- A load of `n` bytes (R159, R182, R185). Its conditions are met in the order of Table 4.1, the wait of a push-bound destination last. -/
def loadBody (here : Bool) (i : Instr) (d : Fin 32) (n : Nat) (signed : Bool)
    (ea : State → Who → M (Word × State)) (w : Who) (s0 : State) : M State := do
  s0.chkBound w i
  let (va, s) ← (ea s0 w).waitsAfter (s0.chkCb w i)
  M.fixedIf (s0.ownLocal w va.toNat && !s0.namesBound w i) do
    failIf (va.toNat % n != 0) 0x05 va
    s0.chkCb w i
    let l ← s.place w .load va.toNat n
    s.chkDst w d
    s0.route here w i true l
    let bs ← s.loadAt w va.toNat l n
    .ok ((((s.cached w va.toNat n false l).traceAt w 0 va.toNat l).writeG w d (extend signed bs)).retireAt w i l)

/-- A store of the low `n` bytes of a register read after the address operands (R183, R185), its conditions in the order of Table 4.1. -/
def storeBody (here : Bool) (i : Instr) (d : Fin 32) (n : Nat)
    (ea : State → Who → M (Word × State)) (w : Who) (s0 : State) : M State := do
  s0.chkBound w i
  let (va, s) ← (ea s0 w).waitsAfter (s0.chkCb w i)
  M.fixedIf (s0.ownLocal w va.toNat && !s0.namesBound w i) do
    s.storeAllowed w i va.toNat n
    failIf (va.toNat % n != 0) 0x05 va
    s0.chkCb w i
    let data := s.readG w d
    let l ← (s.place w .store va.toNat n).beforeWait data
    let (v, s) ← data
    s0.route here w i true l
    .ok ((((s.cached w va.toNat n true l).traceAt w 1 va.toNat l).storeAt w l (bytesOf n v.toNat)).retireAt w i l)

def ldBody (here : Bool) (d a : Fin 32) (z : Sz) (o : BitVec 12) : Who → State → M State :=
  loadBody here (.ld d a z o) d (szBytes z) true fun s w => s.eaOff w a o (szBytes z)

def ldnBody (here : Bool) (d a : Fin 32) (z : SzN) (o : BitVec 12) : Who → State → M State :=
  loadBody here (.ldn d a z o) d (sznBytes z) false fun s w => s.eaOff w a o (sznBytes z)

/-- ST reads its address register, then its data register (R158, R183). -/
def stBody (here : Bool) (d a : Fin 32) (z : Sz) (o : BitVec 12) : Who → State → M State :=
  storeBody here (.st d a z o) d (szBytes z) fun s w => s.eaOff w a o (szBytes z)

def ldxBody (here : Bool) (d a b : Fin 32) (z : SzX) : Who → State → M State :=
  match z with
  | .s z => loadBody here (.ldx d a b (.s z)) d (szBytes z) true fun s w => s.eaIdx w a b (szBytes z)
  | .n z => loadBody here (.ldx d a b (.n z)) d (sznBytes z) false fun s w => s.eaIdx w a b (sznBytes z)

def stxBody (here : Bool) (d a b : Fin 32) (z : Sz) : Who → State → M State :=
  storeBody here (.stx d a b z) d (szBytes z) fun s w => s.eaIdx w a b (szBytes z)

/-- LD (R182). -/
def execLd (d a : Fin 32) (z : Sz) (o : BitVec 12) (s : State) : Host.Outcome State Fault Refusal :=
  issue (.ld d a z o) false 0 s fun w => ldBody false d a z o w s

/-- LDN (R182). -/
def execLdn (d a : Fin 32) (z : SzN) (o : BitVec 12) (s : State) : Host.Outcome State Fault Refusal :=
  issue (.ldn d a z o) false 0 s fun w => ldnBody false d a z o w s

/-- ST (R183). -/
def execSt (d a : Fin 32) (z : Sz) (o : BitVec 12) (s : State) : Host.Outcome State Fault Refusal :=
  issue (.st d a z o) false 0 s fun w => stBody false d a z o w s

/-- LDX (R184). -/
def execLdx (d a b : Fin 32) (z : SzX) (s : State) : Host.Outcome State Fault Refusal :=
  issue (.ldx d a b z) false 0 s fun w => ldxBody false d a b z w s

/-- STX (R184). -/
def execStx (d a b : Fin 32) (z : Sz) (s : State) : Host.Outcome State Fault Refusal :=
  issue (.stx d a b z) false 0 s fun w => stxBody false d a b z w s

/-! ## PUBLISH -/

/-- The pages of a PUBLISH from `va` on: those that its check pass finds PRIVATE, with their translations. A page that is not wholly inside the
range faults before its other conditions (R186). -/
def State.publishCheck (s : State) (w : Who) (base len : Nat) (va : Nat) : Nat → M (List Xlat)
  | 0 => .ok []
  | n + 1 => do
    if base + len ≤ va then .ok []
    else
      failIf (inLocal va) 0x09 (BitVec.ofNat 64 va)
      let x := s.at w
      let (_, e, _) ← s.lookup x.asid va
      let z := 2 ^ pageShift (pteSize e)
      let p := va / z * z
      failIf (decide (p < base ∨ base + len < p + z)) 0x05 (BitVec.ofNat 64 p)
      let t ← s.translate x.asid va .publish
      s.kindCheck x.asid x.owner (decide (14 ≤ w.slot.val)) .publish t.pte p
      let rest ← s.publishCheck w base len (p + z) n
      .ok (if pteKind t.pte = kPrivate then { t with pa := p } :: rest else rest)

/-- Bits `p` to `p + w` − 1 of `h` replaced. -/
def putBitsIn (h p w v : Nat) : Nat := h % 2 ^ p + v % 2 ^ w * 2 ^ p + h / 2 ^ (p + w) * 2 ^ (p + w)

/-- The page-table entries of a page: a 64 KiB page has 16 alike, on a 16-entry boundary (R354). -/
def pageEntries (e at_ : Nat) : List Nat :=
  if pteSize e = 1 then (List.range 16).map fun k => at_ / 256 * 256 + 16 * k else [at_]

/-- A page made FROZEN at its home: bits [63:0] of each of its entries rewritten, in memory and in the translation units; the lines of the page
that stand in a home core's L1 stay as frozen copies (R186, R187, R355). `va` is an address of the page. -/
def State.freezePage (s : State) (asid va e at_ : Nat) : State :=
  if farAway at_ then s
  else
    let as := pageEntries e at_
    let z := 2 ^ pageShift (pteSize e)
    let frozen (l : DLine) : DLine :=
      if l.asid = asid ∧ l.va / z = va / z ∧ !l.frozen then
        match s.lookup asid l.va with
        | .ok (_, e, _) =>
          let y := s.lineOf asid l.va (pteFrame e * 2 ^ 12 + l.va % z)
          { l with frozen := true, bytes := y.bytes, codes := y.codes, check := y.check }
        | .error _ => l
      else l
    let s := { s with cores := s.cores.map fun (c, k) => (c, { k with dcache := k.dcache.map frozen }),
                      tcache := s.tcache.map fun x => if as.contains x.at_ then { x with pte := putBitsIn x.pte 4 2 kFrozen } else x }
    as.foldl (fun s a => s.pwrite a (bytesOf 8 (putBitsIn (natOf (s.pread a 8)) 4 2 kFrozen))) s

/-- PUBLISH: the check pass over every page of the range, then one page change here and the others in transit to their homes, in
ascending address (R186, R187). Its conditions are met in the order of Table 4.1. -/
def execPublish (a b : Fin 32) (s : State) : Host.Outcome State Fault Refusal :=
  let i := Instr.publish a b
  issue i false 0 s fun w => do
    s.chkBound w i
    failIf (s.spec w) 0x08 (encodeWord i)
    let (x, s1) ← (s.readG w a).waitsAfter (s.chkCb w i)
    failIf (x.toNat % 2 ^ 12 != 0) 0x05 x
    s.chkCb w i
    let (y, s) ← s1.readG w b
    let base := x.toNat
    let len := y.toNat
    failIf (len % 2 ^ 12 != 0) 0x05 x
    let ps ← s.publishCheck w base len base (len / 2 ^ 12)
    match ps with
    | [] => .ok (s.retireVar w i)
    | p :: rest =>
      let s := s.freezePage (s.at w).asid p.pa p.pte p.at_
      if rest.isEmpty then .ok (s.retireVar w i)
      else .ok ((s.waitBusy w i (.publish rest.length)).post
        (rest.map fun p => Event.publishPageChange w.core w.slot (s.at w).asid (BitVec.ofNat 64 p.pa)))

/-! ## Private atomics (R188 to R190) -/

/-- Operand size in bytes. -/
def szaBytes : SzA → Nat | .w => 4 | .d => 8

/-- The new word of an atomic at `n` bits from the old word, the operand and, for AMOCAS, the expected value (R189). -/
inductive AmoOp | add | and | or | xor | min | max | swp | cas
deriving DecidableEq, Repr

def AmoOp.eval (o : AmoOp) (n m b d : Nat) : Nat :=
  match o with
  | .add => (m + b) % 2 ^ n
  | .and => Nat.land m b
  | .or => Nat.lor m b
  | .xor => Nat.xor m b
  | .min => if sext n m ≤ sext n b then m else b
  | .max => if sext n m ≤ sext n b then b else m
  | .swp => b
  | .cas => if m = d then b else m

/-- The operand, the expected value of AMOCAS, and room for the result. -/
def State.amoOperands (s : State) (w : Who) (o : AmoOp) (d b : Fin 32) : M (Word × Word × State) := do
  let (y, s) ← s.readG w b
  let (x, s) ← if o = .cas then s.readG w d else .ok (0, s)
  s.chkDst w d
  .ok (y, x, s)

/-- An atomic: it executes at the home slice even on the home core, and counts as a remote access for the predictor (R189). -/
def amoBody (here : Bool) (i : Instr) (o : AmoOp) (d a b : Fin 32) (z : SzA) (w : Who) (s0 : State) : M State := do
  s0.chkBound w i
  let n := szaBytes z
  failIf (s0.spec w) 0x08 (encodeWord i)
  let (va, s) ← (s0.readG w a).waitsAfter (s0.chkCb w i)
  failIf (va.toNat % n != 0) 0x05 va
  s0.chkCb w i
  let ops := s.amoOperands w o d b
  let l ← (s.place w .atomic va.toNat n).beforeWait ops
  let (y, x, s) ← ops
  s0.route here w i false l
  let s := match l with
    | .mem t => if t.home = w.core then s.noteRemote w t.home else s
    | .loc _ _ => s
  let bs ← s.readAt l n
  let m := natOf bs
  let m' := o.eval (8 * n) m (y.toNat % 2 ^ (8 * n)) (x.toNat % 2 ^ (8 * n))
  let s := match l with
    | .mem t => s.sector t
    | .loc _ _ => s
  let s := s.traceAt w 2 va.toNat l
  let s := if o = .cas && m != x.toNat % 2 ^ (8 * n) then s else s.writeAt l (bytesOf n m')
  .ok ((s.writeG w d (extend true bs)).retireVar w i)

/-- AMOADD (R189). -/
def execAmoadd (d a b : Fin 32) (z : SzA) (s : State) : Host.Outcome State Fault Refusal :=
  issue (.amoadd d a b z) false 0 s fun w => amoBody false (.amoadd d a b z) .add d a b z w s

/-- AMOAND (R189). -/
def execAmoand (d a b : Fin 32) (z : SzA) (s : State) : Host.Outcome State Fault Refusal :=
  issue (.amoand d a b z) false 0 s fun w => amoBody false (.amoand d a b z) .and d a b z w s

/-- AMOOR (R189). -/
def execAmoor (d a b : Fin 32) (z : SzA) (s : State) : Host.Outcome State Fault Refusal :=
  issue (.amoor d a b z) false 0 s fun w => amoBody false (.amoor d a b z) .or d a b z w s

/-- AMOXOR (R189). -/
def execAmoxor (d a b : Fin 32) (z : SzA) (s : State) : Host.Outcome State Fault Refusal :=
  issue (.amoxor d a b z) false 0 s fun w => amoBody false (.amoxor d a b z) .xor d a b z w s

/-- AMOMIN (R189). -/
def execAmomin (d a b : Fin 32) (z : SzA) (s : State) : Host.Outcome State Fault Refusal :=
  issue (.amomin d a b z) false 0 s fun w => amoBody false (.amomin d a b z) .min d a b z w s

/-- AMOMAX (R189). -/
def execAmomax (d a b : Fin 32) (z : SzA) (s : State) : Host.Outcome State Fault Refusal :=
  issue (.amomax d a b z) false 0 s fun w => amoBody false (.amomax d a b z) .max d a b z w s

/-- AMOSWP (R189). -/
def execAmoswp (d a b : Fin 32) (z : SzA) (s : State) : Host.Outcome State Fault Refusal :=
  issue (.amoswp d a b z) false 0 s fun w => amoBody false (.amoswp d a b z) .swp d a b z w s

/-- AMOCAS (R189). -/
def execAmocas (d a b : Fin 32) (z : SzA) (s : State) : Host.Outcome State Fault Refusal :=
  issue (.amocas d a b z) false 0 s fun w => amoBody false (.amocas d a b z) .cas d a b z w s

/-! ## FENCE (R191, R192) -/

/-- Whether a home core lies within a scope of an issuing core (R192). -/
def inScope (sc : Scope) (core home : Nat) : Bool :=
  match sc with
  | .thr | .core => home == core
  | .clu => home / 8 == core / 8
  | .die => dieOf home == dieOf core
  | .pkg => decide (home < 1536)
  | .sys => true

/-- The posted operations a FENCE waits for: kind LT selected, home in scope. Accesses of every other kind are performed at completion
(R160), so none is outstanding. -/
def fenceWaits (k : BitVec 6) (sc : Scope) (core : Nat) (posted : List Nat) : Bool := k.getLsbD 4 && posted.any (inScope sc core)

/-- FENCE (R192). -/
def execFence (k : BitVec 6) (sc : Scope) (s : State) : Host.Outcome State Fault Refusal :=
  let i := Instr.fence k sc
  issue i false 0 s fun w =>
    if fenceWaits k sc w.core (s.at w).posted then .error (.busy (.replies true)) else .ok (s.retireVar w i)

end Sys2Proof.Machine
end

