-- ==== Sys2Proof/Machine/Numeric.lean ====
section
/-! DEFINITION. Number formats and exact arithmetic (chapter 5): decoding and encoding, rounding, conversion through format records,
S12 scales and block quantisation, the correctly rounded functions, reductions and ESUM. Values are exact rationals with a sign. -/

namespace Sys2Proof

/-- A value: NaN, an infinity, or (−1)^neg × n / d with d nonzero; zeros are signed (R117). -/
inductive Val
  | nan
  | inf (neg : Bool)
  | fin (neg : Bool) (n d : Nat)
deriving DecidableEq, Repr

/-- A floating-point format (R117): field widths, bias, whether it has infinities and NaNs, and its canonical NaN. -/
structure Fmt where
  ew : Nat
  tw : Nat
  bias : Nat
  hasInf : Bool
  hasNan : Bool
  nan : Nat
deriving DecidableEq, Repr

/-- Table 5.1. -/
def fp64 : Fmt := ⟨11, 52, 1023, true, true, 0x7FF8000000000000⟩
def fp32 : Fmt := ⟨8, 23, 127, true, true, 0x7FC00000⟩
def fp16 : Fmt := ⟨5, 10, 15, true, true, 0x7E00⟩
def bf16 : Fmt := ⟨8, 7, 127, true, true, 0x7FC0⟩
def e5m2 : Fmt := ⟨5, 2, 15, true, true, 0x7E⟩
def e4m3 : Fmt := ⟨4, 3, 7, false, true, 0x7F⟩
def e2m1 : Fmt := ⟨2, 1, 1, false, false, 0⟩

def Fmt.width (f : Fmt) : Nat := 1 + f.ew + f.tw

/-- `n / d × 2^e` as a numerator and a denominator. -/
def scale2 (n d : Nat) (e : Int) : Nat × Nat := if 0 ≤ e then (n * 2 ^ e.toNat, d) else (n, d * 2 ^ (-e).toNat)

/-- A signed finite value times a power of two. -/
def Val.pow2 (neg : Bool) (n : Nat) (e : Int) : Val := let (a, b) := scale2 n 1 e; .fin neg a b

/-- The value of an encoding (R117). -/
def Fmt.decode (f : Fmt) (x : Nat) : Val :=
  let t := x % 2 ^ f.tw
  let e := x / 2 ^ f.tw % 2 ^ f.ew
  let s := bitAt x (f.ew + f.tw)
  if e = 0 then Val.pow2 s t (1 - (f.bias : Int) - f.tw)
  else if f.hasInf && e == 2 ^ f.ew - 1 then (if t = 0 then .inf s else .nan)
  else if f.hasNan && !f.hasInf && e == 2 ^ f.ew - 1 && t == 2 ^ f.tw - 1 then .nan
  else Val.pow2 s (2 ^ f.tw + t) ((e : Int) - f.bias - f.tw)

/-- The least integer exponent `e` with `n / d < 2^(e + 1)`: the floor of its base-2 logarithm, for n > 0. -/
def floorLog2 (n d : Nat) : Int :=
  let l := (Nat.log2 n : Int) - Nat.log2 d
  let (a, b) := scale2 n d (-l)
  if a < b then l - 1 else if 2 * b ≤ a then l + 1 else l

/-- Rounding modes of R123. -/
inductive RMode | rne | rtz | rup | rdn | sr
deriving DecidableEq, Repr

/-- The mode an instruction names. -/
def Rm.mode : Rm → RMode | .rne => .rne | .rtz => .rtz | .rup => .rup | .rdn => .rdn

/-- Whether the magnitude `m + r / d` (0 < r < d, sign `neg`) rounds away from zero to `m + 1` (R123). `mix` is the random draw of SR. -/
def roundsUp (mode : RMode) (neg : Bool) (m r d mix : Nat) : Bool :=
  match mode with
  | .rne => decide (d < 2 * r) || (decide (2 * r = d) && m % 2 == 1)
  | .rtz => false
  | .rup => !neg
  | .rdn => neg
  | .sr => if neg then !decide (mix < (d - r) * 2 ^ 32 / d) else decide (mix < r * 2 ^ 32 / d)

/-- A rational rounded to an integer magnitude. -/
def roundNat (mode : RMode) (neg : Bool) (n d mix : Nat) : Nat :=
  let m := n / d
  let r := n % d
  if r = 0 then m else if roundsUp mode neg m r d mix then m + 1 else m

/-- RoundGrid of R123 on a floating format, for a finite value: the grid goes on without bound above the largest finite value. -/
def Fmt.grid (f : Fmt) (mode : RMode) (mix : Nat) (neg : Bool) (n d : Nat) : Val :=
  if n = 0 then .fin neg 0 1
  else
    let q := max (floorLog2 n d) (1 - (f.bias : Int)) - f.tw
    let (a, b) := scale2 n d (-q)
    Val.pow2 neg (roundNat mode neg a b mix) q

/-- The largest finite encoding of a format, sign 0 (Table 5.1). -/
def Fmt.maxEnc (f : Fmt) : Nat :=
  if f.hasInf then (2 ^ f.ew - 1) * 2 ^ f.tw - 1 else if f.hasNan then 2 ^ (f.ew + f.tw) - 2 else 2 ^ (f.ew + f.tw) - 1

/-- `n / d ≤ n' / d'`. -/
def ratLe (n d n' d' : Nat) : Bool := decide (n * d' ≤ n' * d)

/-- Whether a finite value's magnitude is above that of another. -/
def Val.absGt (a b : Val) : Bool :=
  match a, b with
  | .fin _ n d, .fin _ n' d' => !ratLe n d n' d'
  | .inf _, .fin .. => true
  | _, _ => false

/-- The encoding of a value that a format represents exactly; NaN and infinities where the format has them. -/
def Fmt.encode (f : Fmt) (v : Val) : Nat :=
  let sgn (b : Bool) : Nat := b2n b * 2 ^ (f.ew + f.tw)
  match v with
  | .nan => f.nan
  | .inf s => sgn s + (2 ^ f.ew - 1) * 2 ^ f.tw
  | .fin s n d =>
    if n = 0 then sgn s
    else
      let e := floorLog2 n d
      let q := max e (1 - (f.bias : Int)) - f.tw
      let (a, b) := scale2 n d (-q)
      let m := a / b
      if e < 1 - (f.bias : Int) then sgn s + m else sgn s + ((e + f.bias).toNat * 2 ^ f.tw + (m - 2 ^ f.tw))

/-- Round of R124: the result as a value of the format. -/
def Fmt.roundV (f : Fmt) (mode : RMode) (v : Val) : Val :=
  match v with
  | .nan => .nan
  | .inf s => .inf s
  | .fin s n d =>
    let y := f.grid mode 0 s n d
    let mx := f.decode f.maxEnc
    if y.absGt mx then
      if mode = .rtz ∨ (mode = .rup ∧ s) ∨ (mode = .rdn ∧ !s) then
        match mx with | .fin _ a b => .fin s a b | x => x
      else .inf s
    else y

/-- Round of R124: the encoding. -/
def Fmt.round (f : Fmt) (mode : RMode) (v : Val) : Nat := f.encode (f.roundV mode v)

/-! ## Exact operations -/

def Val.neg : Val → Val
  | .nan => .nan
  | .inf s => .inf (!s)
  | .fin s n d => .fin (!s) n d

def Val.abs : Val → Val
  | .nan => .nan
  | .inf _ => .inf false
  | .fin _ n d => .fin false n d

def Val.isNan : Val → Bool | .nan => true | _ => false
def Val.isZero : Val → Bool | .fin _ n _ => n == 0 | _ => false
def Val.isInf : Val → Bool | .inf _ => true | _ => false
def Val.signBit : Val → Bool | .nan => false | .inf s => s | .fin s _ _ => s

/-- An integer as a value. -/
def Val.ofInt (x : Int) : Val := .fin (decide (x < 0)) x.natAbs 1

/-- The exact sum; a zero sum of operands of unlike signs is +0, −0 under RDN (R241: IEEE 754 zeros). -/
def Val.add (mode : RMode) (a b : Val) : Val :=
  match a, b with
  | .nan, _ => .nan
  | _, .nan => .nan
  | .inf s, .inf t => if s = t then .inf s else .nan
  | .inf s, _ => .inf s
  | _, .inf t => .inf t
  | .fin s n d, .fin t n' d' =>
    let x := n * d'
    let y := n' * d
    if s = t then .fin s (x + y) (d * d')
    else if x = y then .fin (mode == .rdn) 0 1
    else if y < x then .fin s (x - y) (d * d')
    else .fin t (y - x) (d * d')

/-- The exact product. -/
def Val.mul (a b : Val) : Val :=
  match a, b with
  | .nan, _ => .nan
  | _, .nan => .nan
  | .inf s, .inf t => .inf (s ^^ t)
  | .inf s, .fin t n _ => if n = 0 then .nan else .inf (s ^^ t)
  | .fin s n _, .inf t => if n = 0 then .nan else .inf (s ^^ t)
  | .fin s n d, .fin t n' d' => .fin (s ^^ t) (n * n') (d * d')

/-- The exact quotient (IEEE 754 division, R132). -/
def Val.div (a b : Val) : Val :=
  match a, b with
  | .nan, _ => .nan
  | _, .nan => .nan
  | .inf _, .inf _ => .nan
  | .inf s, .fin t _ _ => .inf (s ^^ t)
  | .fin s _ _, .inf t => .fin (s ^^ t) 0 1
  | .fin s n d, .fin t n' d' =>
    if n' = 0 then (if n = 0 then .nan else .inf (s ^^ t)) else .fin (s ^^ t) (n * d') (d * n')

/-- a × b + c, rounded once. -/
def Fmt.fma (f : Fmt) (mode : RMode) (a b c : Val) : Val := f.roundV mode (Val.add mode (a.mul b) c)

/-- Numeric order of non-NaN values, −0 equal to +0. -/
def Val.lt (a b : Val) : Bool :=
  match a, b with
  | .nan, _ => false
  | _, .nan => false
  | .inf s, .inf t => s && !t
  | .inf s, _ => s
  | _, .inf t => !t
  | .fin s n d, .fin t n' d' =>
    if n = 0 ∧ n' = 0 then false
    else match s, t with
      | true, false => true
      | false, true => false
      | false, false => decide (n * d' < n' * d)
      | true, true => decide (n' * d < n * d')

def Val.eqv (a b : Val) : Bool := !a.isNan && !b.isNan && !a.lt b && !b.lt a

/-- IEEE total order on non-NaN values: −0 below +0 (R131). -/
def Val.totLt (a b : Val) : Bool := a.lt b || (a.eqv b && a.signBit && !b.signBit)

/-- The larger or smaller operand in total order; a NaN operand gives NaN (R131, R241). -/
def Val.maxT (a b : Val) : Val := if a.isNan || b.isNan then .nan else if a.totLt b then b else a
def Val.minT (a b : Val) : Val := if a.isNan || b.isNan then .nan else if b.totLt a then b else a

/-! ## Format codes and format records -/

/-- The floating format of a code of Table 5.2. -/
def floatOf : Nat → Option Fmt
  | 0 => some fp64
  | 1 => some fp32
  | 2 => some fp16
  | 3 => some bf16
  | 4 => some e4m3
  | 5 => some e5m2
  | 6 => some e2m1
  | _ => none

/-- Width and signedness of an integer code of Table 5.2. -/
def intOf : Nat → Option (Nat × Bool)
  | 7 => some (8, true)
  | 8 => some (16, true)
  | 9 => some (32, true)
  | 10 => some (64, true)
  | 11 => some (8, false)
  | 12 => some (16, false)
  | 13 => some (32, false)
  | 14 => some (64, false)
  | _ => none

/-- Bits of one element of a format code. -/
def codeBits (c : Nat) : Nat :=
  match floatOf c, intOf c with
  | some f, _ => f.width
  | none, some (w, _) => w
  | none, none => 0

/-- Fields of a format record held as its 256-bit image (Table 5.3). -/
def recFmt (r : Nat) : Nat := bits r 3 0
def recMode (r : Nat) : Nat := bits r 6 4
def recFtz (r : Nat) : Bool := bitAt r 7
def recKeepInf (r : Nat) : Bool := bitAt r 8
def recBlk (r : Nat) : Nat := bits r 10 9
def recHib (r : Nat) : Nat := bits r 127 64
def recLob (r : Nat) : Nat := bits r 191 128

/-- Block length of a record, 0 for none. -/
def recBlkLen (r : Nat) : Nat := match recBlk r with | 0 => 0 | 1 => 16 | 2 => 32 | _ => 64

/-- Whether a 64-bit bound is the extension of a value of an integer type. -/
def boundOk (w : Nat) (signed : Bool) (x : Nat) : Bool :=
  if signed then toWord (sext w x) == BitVec.ofNat 64 x else decide (x < 2 ^ w)

/-- A bound of an integer type as an integer. -/
def boundVal (signed : Bool) (x : Nat) : Int := if signed then sext 64 x else (x : Int)

/-- Whether the core refuses a record for its contents (R122). -/
def recBad (r : Nat) : Bool :=
  bits r 63 11 != 0 || bits r 255 192 != 0 || recFmt r == 15 || decide (5 ≤ recMode r) ||
  match floatOf (recFmt r), intOf (recFmt r) with
  | some f, _ =>
    (recKeepInf r && !f.hasInf) || decide (2 ^ f.width ≤ recHib r) || recLob r != 0 ||
      (match f.decode (recHib r) with | .fin s n _ => s || n == 0 | _ => true)
  | none, some (w, sg) =>
    recFtz r || recKeepInf r || !boundOk w sg (recHib r) || !boundOk w sg (recLob r)
      || decide (boundVal sg (recHib r) < boundVal sg (recLob r))
  | none, none => true

/-- The rounding mode of a record. -/
def recRm (r : Nat) : RMode := match recMode r with | 0 => .rne | 1 => .rtz | 2 => .rup | 3 => .rdn | _ => .sr

/-- Mix32 of R126. -/
def mix32 (seed wid idx : Nat) : Nat :=
  let m := 2 ^ 64
  let z := Nat.xor (Nat.xor (seed % m) (wid * 0x9E3779B97F4A7C15 % m)) (idx * 0xC2B2AE3D27D4EB4F % m)
  let z := Nat.xor z (z / 2 ^ 33) * 0xFF51AFD7ED558CCD % m
  let z := Nat.xor z (z / 2 ^ 33) * 0xC4CEB9FE1A85EC53 % m
  Nat.xor z (z / 2 ^ 33) / 2 ^ 32

/-- Whether a value is subnormal in a format. -/
def Fmt.subnormal (f : Fmt) (v : Val) : Bool :=
  match v with
  | .fin _ n d => n != 0 && decide (floorLog2 n d < 1 - (f.bias : Int))
  | _ => false

/-- A value written as the signed zero of its sign, where FTZ is set and it is subnormal. -/
def Fmt.flush (f : Fmt) (ftz : Bool) (v : Val) : Val := if ftz && f.subnormal v then .fin v.signBit 0 1 else v

/-- A rational rounded to an integer. -/
def roundInt (mode : RMode) (mix : Nat) (neg : Bool) (n d : Nat) : Int :=
  let m : Int := roundNat mode neg n d mix
  if neg then -m else m

/-- Convert of R125: the encoding in the record's format. `mix` is Mix32 of the element's index. -/
def convert (v : Val) (r mix : Nat) : Nat :=
  match floatOf (recFmt r) with
  | some f =>
    let b := f.decode (recHib r)
    let clamp (s : Bool) : Val := match b with | .fin _ n d => .fin s n d | x => x
    match v with
    | .nan => if f.hasNan then f.nan else 0
    | .inf s => if recKeepInf r then f.encode (.inf s) else f.encode (clamp s)
    | .fin s n d =>
      let y := f.grid (recRm r) mix s n d
      let y := if y.absGt b then clamp s else y
      f.encode (f.flush (recFtz r) y)
  | none =>
    let (w, sg) := (intOf (recFmt r)).getD (8, true)
    let enc (x : Int) : Nat := (x % (2 ^ w : Nat)).toNat
    match v with
    | .nan => 0
    | .inf s => enc (boundVal sg (if s then recLob r else recHib r))
    | .fin s n d => enc (min (max (roundInt (recRm r) mix s n d) (boundVal sg (recLob r))) (boundVal sg (recHib r)))

/-- The value of an encoding of a format code, FTZ applied (R125). -/
def codeVal (c : Nat) (ftz : Bool) (x : Nat) : Val :=
  match floatOf c with
  | some f => f.flush ftz (f.decode (x % 2 ^ f.width))
  | none =>
    match intOf c with
    | some (w, true) => Val.ofInt (sext w x)
    | some (w, false) => Val.ofInt (x % 2 ^ w : Nat)
    | none => .nan

/-! ## S12 scales (R120, R121, R127) -/

/-- The value of an S12 scale. -/
def s12 (x : Nat) : Val :=
  let e := bits x 11 4
  if e = 0 then .fin false 0 1 else if e = 255 then .nan else Val.pow2 false (16 + x % 16) ((e : Int) - 131)

/-- An element's value under a scale (R121). -/
def scaled (v s : Val) : Val :=
  match v, s with
  | .nan, _ => .nan
  | _, .nan => .nan
  | .inf t, .fin _ n _ => if n = 0 then .nan else .inf t
  | .fin t a b, .fin _ n d => if n = 0 then .fin false 0 1 else .fin t (a * n) (b * d)
  | v, _ => v

/-- The least S12 scale, from 0x010 to 0xFEF, at or above `n / d`. -/
def leastS12 (n d : Nat) : Nat :=
  let e := floorLog2 n d
  let (a, b) := scale2 (16 * n) d (-e)
  let m := ceilDiv a b
  let x : Int := if m = 32 then (e + 128) * 16 else (e + 127) * 16 + (m - 16 : Nat)
  if x < 0x010 then 0x010 else if 0xFEF < x then 0xFEF else x.toNat

/-- QuantBlock of R127: the scale and the element encodings. `mix i` is Mix32 of the i-th element's index. -/
def quantBlock (xs : List Val) (r : Nat) (mix : Nat → Nat) : Nat × List Nat :=
  if xs.any Val.isNan then (0xFF0, xs.map fun _ => convert .nan r 0)
  else
    let a := xs.foldl (fun m x => if x.abs.absGt m then x.abs else m) (.fin false 0 1)
    let s :=
      match a with
      | .fin _ n d =>
        if n = 0 then 0
        else match (floatOf (recFmt r)).map (fun f => f.decode (recHib r)) with
          | some (Val.fin _ hn hd) => leastS12 (n * hd) (d * hn)
          | _ =>
            match boundVal (((intOf (recFmt r)).map Prod.snd).getD true) (recHib r) with
            | .ofNat 0 => 0x010 + Config.zeroBoundScale n d % 0xFE0
            | .ofNat h => leastS12 n (d * h)
            | .negSucc _ => 0x010
      | _ => 0xFEF
    let zero (x : Val) : Nat := match floatOf (recFmt r) with | some f => f.encode (.fin x.signBit 0 1) | none => 0
    (s, (xs.zipIdx).map fun (x, i) => if s = 0 then zero x else convert (x.div (s12 s)) r (mix i))

/-! ## Reductions (R131) -/

/-- Tree of R131 over elements that may be masked off: the left part holds the greatest power of two below the length. -/
def treeFold {α : Type} (op : α → α → α) : Nat → List (Option α) → Option α
  | 0, _ => none
  | _ + 1, [] => none
  | _ + 1, [x] => x
  | f + 1, xs =>
    let h := 2 ^ Nat.log2 (xs.length - 1)
    match treeFold op f (xs.take h), treeFold op f (xs.drop h) with
    | none, r => r
    | l, none => l
    | some l, some r => some (op l r)

/-- Reduce of R131: groups of `g` elements folded by the tree, then into the accumulator in order. -/
def reduceGroups {α : Type} (op : α → α → α) (g : Nat) : Nat → α → List (Option α) → α
  | 0, acc, _ => acc
  | f + 1, acc, xs =>
    if xs.isEmpty then acc
    else
      let acc' := match treeFold op 16 (xs.take g) with | some t => op acc t | none => acc
      reduceGroups op g f acc' (xs.drop g)

/-! ## Correctly rounded functions (R132) -/

/-- The integer square root, by bits from `k` down. -/
def isqrt (n : Nat) : Nat := Nat.sqrt n

/-- A value that rounds as the square root of `n / d` does in every format of Table 5.1: the exact root, or a point strictly between the
neighbouring multiples of a step far below the format's least bit. -/
def sqrtPoint (n d : Nat) : Val :=
  let k : Int := 2 * (160 - floorLog2 n d / 2)
  let (a, b) := scale2 n d k
  let r := isqrt (a / b)
  if r * r * b = a then Val.pow2 false r (-(k / 2)) else Val.pow2 false (2 * r + 1) (-(k / 2) - 1)

/-- Bounds, in units of 2^−p, of the sum of t^i / i! over i below `n` and the remainder, for 0 ≤ t ≤ 1/2. -/
def expSeries (p tl th : Nat) : Nat → Nat → Nat → Nat → Nat × Nat
  | 0, _, ml, mh => (ml, mh + mh + 2)
  | n + 1, i, ml, mh =>
    let (sl, sh) := expSeries p tl th n (i + 1) (ml * tl / 2 ^ p / i) (mh * th / 2 ^ p / i + 1)
    (ml + sl, mh + sh)

/-- An interval squared `k` times, in units of 2^−p. -/
def sqIter (p : Nat) : Nat → Nat × Nat → Nat × Nat
  | 0, x => x
  | k + 1, (l, h) => sqIter p k (l * l / 2 ^ p, h * h / 2 ^ p + 1)

/-- Bounds of e^(n/d) in units of 2^−p, for 0 ≤ n/d < 2^13. -/
def expBounds (p n d : Nat) : Nat × Nat :=
  let t := n * 2 ^ (p - 22) / d
  sqIter p 22 (expSeries p t (t + 1) (p / 8 + 4) 1 (2 ^ p) (2 ^ p))

/-- Bounds of the sum of z^(2i+1)/(2i+1) and the remainder, in units of 2^−p, for z² between `l2` and `h2` at most 1/9. -/
def atanhSeries (p l2 h2 : Nat) : Nat → Nat → Nat → Nat → Nat × Nat
  | 0, _, _, zh => (0, zh + 1)
  | n + 1, i, zl, zh =>
    let (sl, sh) := atanhSeries p l2 h2 n (i + 2) (zl * l2 / 2 ^ p) (zh * h2 / 2 ^ p + 1)
    (zl / i + sl, zh / i + 1 + sh)

/-- Bounds of 2 atanh(a/b), in units of 2^−p, for 0 ≤ a/b ≤ 1/3. -/
def atanh2 (p a b : Nat) : Nat × Nat :=
  let z := a * 2 ^ p / b
  let (l, h) := atanhSeries p (z * z / 2 ^ p) ((z + 1) * (z + 1) / 2 ^ p + 1) (p / 3 + 4) 1 z (z + 1)
  (2 * l, 2 * h)

/-- Bounds of ln(n/d), in units of 2^−p. -/
def logBounds (p n d : Nat) : Int × Int :=
  let e0 := floorLog2 n d
  let (a, b) := scale2 n d (-e0)
  let e := if 4 * a < 6 * b then e0 else e0 + 1
  let (a, b) := scale2 n d (-e)
  let (l2, h2) := atanh2 p 1 3
  let (ml, mh) : Int × Int :=
    if b ≤ a then let (l, h) := atanh2 p (a - b) (a + b); ((l : Int), (h : Int))
    else let (l, h) := atanh2 p (b - a) (a + b); (-(h : Int), -(l : Int))
  let (el, eh) : Int × Int := if 0 ≤ e then (e * l2, e * h2) else (e * h2, e * l2)
  (el + ml, eh + mh)

/-- An integer in units of 2^−p as a value. -/
def fixVal (p : Nat) (x : Int) : Val := .fin (decide (x < 0)) x.natAbs (2 ^ p)

/-- Bounds of a transcendental function at precision `p`: 0 exp, 1 log, 2 tanh, of a nonzero finite argument in the middle range. -/
def vcrBounds (op p : Nat) (s : Bool) (n d : Nat) : Val × Val :=
  match op with
  | 0 =>
    let (l, h) := expBounds p n d
    if s then (.fin false (2 ^ p) h, .fin false (2 ^ p) l) else (.fin false l (2 ^ p), .fin false h (2 ^ p))
  | 1 => let (l, h) := logBounds p n d; (fixVal p l, fixVal p h)
  | _ =>
    let (l, h) := expBounds p (2 * n) d
    let q (x : Nat) : Val := .fin s (x - 2 ^ p) (x + 2 ^ p)
    if s then (q h, q l) else (q l, q h)

/-- The first precision at which both bounds round alike; a free value where none of the tried ones does (log entry 2). -/
def vcrSettle (op : Nat) (f : Fmt) (mode : RMode) (s : Bool) (n d : Nat) (free : Nat) : Nat → Nat → Nat
  | 0, _ => free
  | k + 1, p =>
    let (l, h) := vcrBounds op p s n d
    let x := f.round mode l
    if x = f.round mode h then x else vcrSettle op f mode s n d free k (2 * p)

/-- A point that rounds as every value strictly between 1 and 1 ± 2^−60 does. -/
def nearOne (above : Bool) : Val := .fin false (if above then 2 ^ 100 + 1 else 2 ^ 100 - 1) (2 ^ 100)

/-- VEXP, VLOG or VTANH of a value (R132, Table 5.4). -/
def vcrTrans (op : Nat) (f : Fmt) (mode : RMode) (free : Nat) (v : Val) : Nat :=
  match op, v with
  | _, .nan => f.nan
  | 0, .inf s => f.encode (if s then .fin false 0 1 else .inf false)
  | 1, .inf s => f.encode (if s then .nan else .inf false)
  | _, .inf s => f.encode (.fin s 1 1)
  | 0, .fin s n d =>
    if n = 0 then f.encode (.fin false 1 1)
    else if floorLog2 n d < -60 then f.round mode (nearOne !s)
    else if 11 ≤ floorLog2 n d then f.round mode (Val.pow2 false 1 (if s then -3000 else 3000))
    else vcrSettle 0 f mode s n d free 6 160
  | 1, .fin s n d =>
    if n = 0 then f.encode (.inf true)
    else if s then f.nan
    else if n = d then f.encode (.fin false 0 1)
    else vcrSettle 1 f mode s n d free 6 160
  | _, .fin s n d =>
    if n = 0 then f.encode (.fin s 0 1)
    else if floorLog2 n d < -60 then f.round mode (.fin s (n * (2 ^ 100 - 1)) (d * 2 ^ 100))
    else if 6 ≤ floorLog2 n d then f.round mode (match nearOne false with | .fin _ a b => .fin s a b | x => x)
    else vcrSettle 2 f mode s n d free 6 320

/-- VSQRT (Table 5.4). -/
def vcrSqrt (f : Fmt) (mode : RMode) (v : Val) : Nat :=
  match v with
  | .nan => f.nan
  | .inf s => if s then f.nan else f.encode (.inf false)
  | .fin s n d => if n = 0 then f.encode (.fin s 0 1) else if s then f.nan else f.round mode (sqrtPoint n d)

/-- VRSQ (Table 5.4). -/
def vcrRsq (f : Fmt) (mode : RMode) (v : Val) : Nat :=
  match v with
  | .nan => f.nan
  | .inf s => if s then f.nan else f.encode (.fin false 0 1)
  | .fin s n d => if n = 0 then f.encode (.inf s) else if s then f.nan else f.round mode (sqrtPoint d n)

/-- VRCP (Table 5.4). -/
def vcrRcp (f : Fmt) (mode : RMode) (v : Val) : Nat := f.round mode (Val.div (.fin false 1 1) v)

/-! ## ESUM (R49, R134) -/

/-- The contribution's q where it is admitted: none for NaN, infinity or a magnitude of 2^(87 − G − F) or more. -/
def esumQ (x : Val) (g f : Nat) : Option Int :=
  match x with
  | .fin s n d =>
    let (bn, bd) := scale2 1 1 ((87 : Int) - g - f)
    if ratLe bn bd n d then none else some (roundInt .rne 0 s (n * 2 ^ f) d)
  | _ => none

/-- RoundFP64(Q × 2^−F, RNE) as an encoding, Q the 88-bit two's-complement value. -/
def esumRead (q f : Nat) : Nat :=
  let z := sext 88 q
  fp64.round .rne (.fin (decide (z < 0)) z.natAbs (2 ^ f))

end Sys2Proof
end

