-- ==== Sys2Proof/Machine/Lattice.lean ====
section
/-! DEFINITION. Lattice cells at their homes and the lattice instructions: joins, fills, contributions, freezes, threshold reads and
arming (R46 to R57, R193 to R209). -/

namespace Sys2Proof.Machine

/-! ## Cells (R46, R47) -/

/-- Cell size in bytes of a SIZE code (Table 2.3). -/
def cellBytes : Nat → Nat
  | 0 => 8
  | 1 => 16
  | 2 => 32
  | 3 => 128
  | _ => 256

/-- A cell found at its home: its translation, arena and address. -/
structure Cell where
  x : Xlat
  ar : Arena
  va : Nat
deriving DecidableEq, Repr

def Cell.size (c : Cell) : Nat := cellBytes c.ar.size
def Cell.kind (c : Cell) : Nat := c.ar.kind

/-- The cell at an address: translation, page kind, and alignment to the cell size (R46, R197). -/
def State.cellAt (s : State) (asid va : Nat) (acc : Acc) : M Cell := do
  let x ← s.translate asid va acc
  s.kindCheck asid 0 true acc x.pte va
  if !reaches x.pa then machineCheck 0x09 x.pa
  else match s.arenaFor asid va x.pte with
    | none => malformed va
    | some ar =>
      failIf (va % cellBytes ar.size != 0) 0x05 (BitVec.ofNat 64 va)
      .ok ⟨x, ar, va⟩

/-- State code and bytes of a cell; a code above 4 is a machine check with SUB 0x03 (Table 2.5). -/
def State.readCell (s : State) (c : Cell) : M (Fin 8 × List Byte) := do
  let bs ← s.homeRead c.x c.size
  let k := s.code c.x.pa
  if k.val > 4 then machineCheck 0x03 (c.x.pa / 32 * 32) else .ok (k, bs)

/-- A cell written: its bytes and its code, which every word holds a copy of (R47). -/
def State.writeCell (s : State) (c : Cell) (bs : List Byte) (k : Fin 8) : State :=
  (s.pwrite c.x.pa bs).setCodes c.x.pa k (c.size / 8)

def frozenCode (k : Fin 8) : Bool := k == 2 || k == 3
def filledCode (k : Fin 8) : Bool := k == 1 || k == 3

/-- The position of an FP64 encoding in the total order of non-NaN values (R46). -/
def totKey (x : Nat) : Nat := if bitAt x 63 then 2 ^ 64 - 1 - x else x + 2 ^ 63

/-- The bottom value of a cell kind as an unsigned integer (Table 2.4). -/
def bottom : Nat → Nat
  | 0 => 2 ^ 63
  | 2 => 2 ^ 63 - 1
  | 3 => 2 ^ 64 - 1
  | 4 => 0xFFF0000000000000
  | 5 => 0x7FF0000000000000
  | _ => 0

/-! ## What an operation does to a cell -/

/-- The effect of an operation on a cell: the answer (0 acknowledgement, else a cause code), and the new bytes and code where it
changes the cell. -/
structure LatRes where
  ans : Nat
  new : Option (List Byte × Fin 8)
deriving DecidableEq, Repr

/-- Join(c, x) of Table 2.4 and Table 8.2, on the cell as an unsigned integer; none for a NaN into MAXF or MINF. -/
def joinValue (kind size : Nat) (c : Nat) (x : Word) : Option Nat :=
  let y := x.toNat
  match kind with
  | 0 => some (if sext 64 c < x.toInt then y else c)
  | 1 => some (max c y)
  | 2 => some (if x.toInt < sext 64 c then y else c)
  | 3 => some (min c y)
  | 4 => if (fp64.decode y).isNan then none else some (if totKey c < totKey y then y else c)
  | 5 => if (fp64.decode y).isNan then none else some (if totKey y < totKey c then y else c)
  | 6 => some (Nat.lor c (if size = 8 then y else 2 ^ (y % (8 * size))))
  | _ => some (min (c + y) (2 ^ 64 - 1))

/-- LJOIN (R57, R198, R199). -/
def joinRes (kind size : Nat) (k : Fin 8) (bs : List Byte) (x : Word) : LatRes :=
  if kind = 8 ∨ kind = 9 then ⟨0x0B, none⟩
  else if k = 4 then ⟨0x0F, none⟩
  else match joinValue kind size (natOf bs) x with
    | none => if frozenCode k then ⟨0x0E, none⟩ else ⟨0x0F, some (bs, 4)⟩
    | some v =>
      let bs' := bytesOf size v
      if bs' = bs then ⟨0, none⟩ else if frozenCode k then ⟨0x0E, none⟩ else ⟨0, some (bs', k)⟩

/-- A contribution's value by its type (R200). -/
def esumVal (t : EsumT) (x : Word) : Val :=
  match t with
  | .f32 => fp32.decode (x.toNat % 2 ^ 32)
  | .f64 => fp64.decode x.toNat
  | .i64 => Val.ofInt x.toInt

/-- EsumJoin (R49, R200): freeze first, then range, then guard. -/
def esumRes (ar : Arena) (k : Fin 8) (bs : List Byte) (t : EsumT) (x : Word) : LatRes :=
  if ar.kind ≠ 9 then ⟨0x0B, none⟩
  else if frozenCode k then ⟨0x0E, none⟩
  else match esumQ (esumVal t x) ar.gbits ar.fbits with
    | none => ⟨0x10, none⟩
    | some q =>
      let c := natOf bs
      let n := bits c 111 88
      if n + 1 = 2 ^ ar.gbits then ⟨0x11, none⟩
      else ⟨0, some (bytesOf 16 (((sext 88 c + q) % (2 ^ 88 : Nat)).toNat + (n + 1) * 2 ^ 88), k)⟩

/-- Bytes of `v` in the words a mask selects, bytes of `old` elsewhere. -/
def maskWords (mask : Nat) (v old : List Byte) : List Byte :=
  (v.zip old).zipIdx.map fun ((a, b), i) => if bitAt mask (i / 8) then a else b

/-- A fill of `v` in the words of `mask` (R48, R201). -/
def fillRes (kind : Nat) (sizeOk : Bool) (k : Fin 8) (bs v : List Byte) (mask : Nat) : LatRes :=
  if kind ≠ 8 ∨ !sizeOk then ⟨0x0B, none⟩
  else
    let same := maskWords mask v bs == bs
    match k with
    | 0 => ⟨0, some (maskWords mask v (List.replicate bs.length 0), 1)⟩
    | 1 => if same then ⟨0, none⟩ else ⟨0x0F, some (bs, 4)⟩
    | 3 => if same then ⟨0, none⟩ else ⟨0x0E, none⟩
    | 2 => ⟨0x0E, none⟩
    | _ => ⟨0x0F, none⟩

/-- LFRZ: OPEN becomes FROZEN; the answer is the status of R203. -/
def frzRes (k : Fin 8) (bs : List Byte) : LatRes :=
  if k = 4 then ⟨2, none⟩ else if frozenCode k then ⟨1, none⟩ else ⟨0, some (bs, if k = 1 then 3 else 2)⟩

/-- An operation on a cell by its request. -/
def latRes (ar : Arena) (k : Fin 8) (bs : List Byte) (op : LatOp) : LatRes :=
  let size := cellBytes ar.size
  match op with
  | .join x => joinRes ar.kind size k bs x
  | .esum t x => esumRes ar k bs t x
  | .fill x => fillRes ar.kind (size == 8) k bs (bytesOf 8 x.toNat) (2 ^ 32 - 1)
  | .fillV v => fillRes ar.kind (size == 8 || size == 32) k bs (v.take size) (2 ^ 32 - 1)
  | .fillM v m => fillRes ar.kind true k bs (v.take size) m
  | .frz | .frza => frzRes k bs

/-! ## Trigger sets and statuses (R50, R51) -/

/-- Whether the join unit accepts a trigger set (R50, Table 8.5). -/
def trigOk (ar : Arena) (t : Trig) : Bool :=
  let size := cellBytes ar.size
  let n := t.vals.length
  match t.kind with
  | .frozen => n == 1
  | .filled => ar.kind == 8
  | .mask => ar.kind == 6 && (if size = 32 then n == 4 else n == 1)
  | .val =>
    if ar.kind = 6 then false
    else if ar.kind = 8 then size == 8 && decide (1 ≤ n ∧ n ≤ 4) && decide t.vals.Nodup
    else n == 1 && !((ar.kind == 4 || ar.kind == 5) && t.vals.any fun v => (fp64.decode v.toNat).isNan)

/-- Whether a chain, COUNT or ESUM cell has passed a value trigger (Table 2.4). -/
def passedVal (kind c : Nat) (t : Word) : Bool :=
  match kind with
  | 0 => decide (t.toInt ≤ sext 64 c)
  | 2 => decide (sext 64 c ≤ t.toInt)
  | 3 => decide (c ≤ t.toNat)
  | 4 => decide (totKey t.toNat ≤ totKey c)
  | 5 => decide (totKey c ≤ totKey t.toNat)
  | 9 => decide (t.toNat ≤ bits c 111 88)
  | _ => decide (t.toNat ≤ c)

/-- The mask of a UNION trigger as an unsigned integer. -/
def trigMask (size : Nat) (t : Trig) : Nat :=
  if size = 256 then natOf t.maskBytes else natOf (t.vals.flatMap fun v => bytesOf 8 v.toNat)

/-- A status word: STATUS [2:0], INDEX [5:4] (R51). -/
def statusWord (st ix : Nat) : Word := BitVec.ofNat 64 (st + 16 * ix)

/-- The first status of Table 2.6 that holds. -/
def firstStatus (ar : Arena) (k : Fin 8) (bs : List Byte) (t : Trig) : Option Word :=
  let c := natOf bs
  let passed : Option Nat :=
    match t.kind with
    | .val =>
      if ar.kind = 8 then (if filledCode k then t.vals.findIdx? fun v => v.toNat == c else none)
      else t.vals.findIdx? fun v => passedVal ar.kind c v
    | .mask => let m := trigMask (cellBytes ar.size) t; if Nat.land m c = m then some 0 else none
    | _ => none
  if k = 4 then some (statusWord 5 0)
  else match passed with
    | some i => some (statusWord 0 i)
    | none =>
      if t.kind = .filled ∧ filledCode k then some (statusWord 2 0)
      else if t.kind = .val ∧ ar.kind = 8 ∧ filledCode k then some (statusWord 1 0)
      else if t.kind = .frozen ∧ frozenCode k then some (statusWord 3 0)
      else if frozenCode k then some (statusWord 4 0)
      else none

/-- The bytes a wake delivers: the cell's, and for ESUM its FP64 reading after them (R206, R208). -/
def wakeBytes (ar : Arena) (bs : List Byte) : List Byte :=
  if ar.kind = 9 then bs ++ bytesOf 8 (esumRead (natOf bs % 2 ^ 88) ar.fbits) else bs

/-! ## Conflict reports (R48) -/

/-- A launch's report of a CONFLICT cell: at most once per cell and launch. -/
def State.reportConflict (s : State) (asid va launch core slot : Nat) (wid : Word) : State :=
  if s.reported.contains (asid, va, launch) then s
  else { s with reported := (asid, va, launch) :: s.reported }.report launch ⟨4, 0x0F, 0, core, slot, wid, 0, BitVec.ofNat 64 va, 0, none⟩

/-! ## Waiters (R52, R53, R360) -/

/-- A waiter or arming entry that resolves with a status: a wake, or a codelet pushed unless the status is CONFLICT (R52, R207). That a CONFLICT which
frees an arming entry is reported to the arming launch, as a status met on the cell, is the model's choice (log entry 88). -/
def State.resolve (s : State) (x : Waiter) (st : Word) (data : List Byte) : State :=
  let s := if st = statusWord 5 0 ∧ (s.launch? x.task.launch).isSome then s.reportConflict x.asid x.va.toNat x.task.launch x.core x.slot.val x.task.wid else s
  match x.arm with
  | some (pc, arg, prio, lvt) =>
    if st = statusWord 5 0 then s
    else ((s.countSent x.task.launch s.colour 1).countRecv x.task.launch s.colour 1).enqueue x.core (codeletEntry x.task pc arg lvt prio)
  | none =>
    (s.countSent x.task.launch s.colour 1).post
      [.wakeDelivery ⟨x.core, x.slot, x.task, x.asid, x.va, st, data, s.colour, s.gtime⟩]

/-- Every waiter of a list that resolves on a cell is resolved; the others stay. -/
def State.resolveAll (s : State) (ar : Arena) (k : Fin 8) (bs : List Byte) (asid va : Nat) : List Waiter → State × List Waiter
  | [] => (s, [])
  | x :: xs =>
    match (if x.asid = asid ∧ x.va.toNat = va then firstStatus ar k bs x.trig else none) with
    | some st => (s.resolve x st (wakeBytes ar bs)).resolveAll ar k bs asid va xs
    | none => let (s, ys) := s.resolveAll ar k bs asid va xs; (s, x :: ys)

/-- After a change of a cell: the table's waiters are tested; where the arena's spill bit is set a scan request goes to the home
core's system slot (R52, R53). -/
def State.cellChanged (s : State) (c : Cell) (k : Fin 8) (bs : List Byte) : State :=
  let h := c.x.home
  let (s, ws) := s.resolveAll c.ar k bs c.ar.asid c.va (s.core h).waiters
  let s := s.updCore h fun q => { q with waiters := ws }
  if s.spillBits.contains (h * 4096 + c.ar.num) then s.postEvent h (.scan c.ar.asid (BitVec.ofNat 64 c.va)) false else s

/-- TKIND, NTRIGM1 and TRIG of a trigger set (Tables 12.5, 15.12). -/
def trigFields (t : Trig) : Nat × Nat × Nat :=
  ((match t.kind with | .val => 0 | .mask => 1 | .filled => 2 | .frozen => 3), t.vals.length - 1, natOf (t.vals.flatMap fun v => bytesOf 8 v.toNat))

/-- The 64 bytes of a waiter spill record (Table 15.12). -/
def spillRecord (x : Waiter) : List Byte :=
  let (k, n, tr) := trigFields x.trig
  let (arm, who, arg) := match x.arm with
    | some (pc, a, _, _) => (1, pc, a)
    | none => (0, x.task.wid, 0)
  bytesOf 64 (x.va.toNat % 2 ^ 54 + x.asid % 256 * 2 ^ 54 + arm * 2 ^ 62 + 2 ^ 63 + who.toNat * 2 ^ 64 + arg.toNat * 2 ^ 128
    + x.core % 2 ^ 11 * 2 ^ 192 + (if arm = 1 then 0 else x.slot.val) * 2 ^ 203 + x.task.launch % 2 ^ 12 * 2 ^ 207 + k * 2 ^ 219 + n % 4 * 2 ^ 221
    + tr % 2 ^ 256 * 2 ^ 256)

/-- The spilled waiters of a core replaced by some of them: the records of the others are free, with VALID 0, and a spill bit clears when no record
of its arena number remains. -/
def State.keepSpilled (s : State) (h : Nat) (ws : List Waiter) : State :=
  let k := s.core h
  let s := (k.spilled.filter fun x => !ws.contains x).foldl (fun (s : State) x =>
    match x.spill with
    | some (i, _) => let a := k.wsbase.toNat + 64 * i + 7; s.pwrite a [s.pbyte a &&& 0x7F]
    | none => s) s
  let left (b : Nat) : Bool := b / 4096 != h || ws.any fun x => x.spill.any fun y => y.2 % 4096 == b % 4096
  { s with spillBits := s.spillBits.filter left }.updCore h fun q => { q with spilled := ws }

/-- A scan of a cell's spilled waiters: those that resolve are resolved and their records freed (R360, R377). -/
def State.scanSpilled (s : State) (c : Cell) (k : Fin 8) (bs : List Byte) : State :=
  let h := c.x.home
  let (s, ws) := s.resolveAll c.ar k bs c.ar.asid c.va (s.core h).spilled
  s.keepSpilled h ws

/-- A free record of a core's waiter spill region (R360). -/
def Core.spillRoom (k : Core) : Option Nat :=
  if ringOk 16 (2 ^ 20) k.wssize.toNat && decide (k.spilled.length < k.wssize.toNat) then
    let used := k.spilled.filterMap fun x => x.spill.map Prod.fst
    some (((List.range (used.length + 1)).find? fun i => !used.contains i).getD 0)
  else none

/-- A waiter recorded at a home: in its 512-entry table, or spilled; none where the spill region has no room (R52, R53, R360). A waiter of
the same task on the same cell is replaced. Another package keeps the waiters of its own cells. -/
def State.addWaiter (s : State) (c : Cell) (x : Waiter) : Option State :=
  if farAway c.x.pa then some s else
  let h := c.x.home
  let stale (y : Waiter) : Bool := x.arm.isNone && y.arm.isNone && y.task == x.task && y.asid == x.asid && y.va == x.va
  let s := s.updCore h fun q => { q with waiters := q.waiters.filter fun y => !stale y }
  let s := if (s.core h).spilled.any stale then s.keepSpilled h ((s.core h).spilled.filter fun y => !stale y) else s
  let k := s.core h
  if k.waiters.length < 512 then some (s.updCore h fun q => { q with waiters := q.waiters ++ [x] })
  else match k.spillRoom with
    | some i =>
      let b := h * 4096 + c.ar.num
      let s := s.pwrite (k.wsbase.toNat + 64 * i) (spillRecord x)
      let s := s.updCore h fun q => { q with spilled := q.spilled ++ [{ x with spill := some (i, c.ar.num) }] }
      some { s with spillBits := if s.spillBits.contains b then s.spillBits else b :: s.spillBits }
    | none => none

/-! ## Barrier cells (R222, R322) -/

/-- A launch's barrier cell `n`: a COUNT cell of a barrier arena in ASID 0. -/
def barrierCell (launch n : Nat) : Cell :=
  let va := barrierAt launch n
  ⟨⟨0, 0, Config.barrierHome va % 1536, 0⟩, ⟨0, Config.barrierArena launch % 4096, 7, 0, 0, 0, 0, va, 8, 0⟩, va⟩

/-- A cell's state code and bytes as its count. -/
def barrierBytes (count : Nat) : List Byte := bytesOf 8 count

/-- The barrier cell at an address of ASID 0, with its count. -/
def State.barrierOver (s : State) (asid va : Nat) : Option (Cell × Nat) :=
  if asid ≠ 0 ∨ bits va 53 48 ≠ 62 ∨ 2 ^ 54 ≤ va then none
  else s.launches.findSome? fun l =>
    let n := (va % 2 ^ 48 / 8 + 2 ^ 45 - Config.barrierBase l.num % 2 ^ 45) % 2 ^ 45
    if l.st != .waiting && va % 8 == 0 && decide (n < barrierCells l.h) then some (barrierCell l.num n, l.barrierCount n) else none

/-- A barrier cell's count raised: its waiters are tested (R52, R222). -/
def State.joinBarrier (s : State) (launch n count : Nat) : State :=
  (s.updLaunch launch fun l => { l with barrier := l.barrier.put n count }).cellChanged (barrierCell launch n) 0 (barrierBytes count)

/-! ## Applying a request at the home (R54) -/

/-- A registered arena changed. -/
def State.updArena (s : State) (ar : Arena) (f : Arena → Arena) : State :=
  { s with arenas := updFirst (fun a => a.asid == ar.asid && a.num == ar.num) f s.arenas }

/-- A request's effect on its cell, and its answer. A conflict is reported in the name of the operation before the cell's waiters meet it, and one of
a commit queue's operation is left to its commit-time report (R48, R348). -/
def State.latApply (s : State) (r : LatReq) : M (State × Nat) := do
  let c ← s.cellAt r.asid r.va.toNat .lwrite
  let (k, bs) ← s.readCell c
  let res := latRes c.ar k bs r.op
  let s :=
    if res.ans = 0x0F then
      match r.tagVt with
      | none => s.reportConflict r.asid r.va.toNat r.task.launch r.core r.slot.val r.task.wid
      | some _ => { s with reported := (r.asid, r.va.toNat, r.task.launch) :: s.reported }
    else s
  let s := match (if farAway c.x.pa then none else res.new) with
    | none => s
    | some (bs', k') =>
      let s := s.writeCell c bs' k'
      let s := if k' = 4 then s.updArena c.ar fun a => { a with nconf := min (a.nconf + 1) (2 ^ 32 - 1) } else s
      s.cellChanged c k' bs'
  .ok (s, res.ans)

/-- The commit-time fault of a held operation stops its launch, before any later entry is applied (R81). -/
def State.commitFault (s : State) (r : LatReq) (code sub : Nat) (tval : Word) : State :=
  let e := Event.launchStop r.task.launch .fault
    (some ⟨2, code, sub, r.core, r.slot.val, r.task.wid, r.pc, tval, BitVec.ofNat 64 (r.tagVt.getD 0), none⟩)
  { s with agenda := e :: s.agenda }

/-- The answer to a request: a reply to a posted operation, or the launch stopped for one from the commit queue (R81, R195). -/
def State.answer (s : State) (r : LatReq) (code sub : Nat) (tval : Word) : State :=
  match r.tagVt with
  | some _ => if code = 0 then s else s.commitFault r code sub tval
  | none => s.post [.postedReply ⟨r.core, r.slot, r.task, r.codelet, r.pc, r.colour, r.home, if code = 0 then none else some (code, tval)⟩]

/-! ## Issue of posted operations (R194) -/

/-- The issuing core's checks of an address of a LATTICE page: bits [63:54], window 63 (R194). -/
def latAddress (va : Word) : M Unit := do
  failIf (decide (2 ^ 54 ≤ va.toNat)) 0x09 va
  failIf (inLocal va.toNat) 0x0B va

/-- The issuing core's checks of a cell address: alignment to 8, bits [63:54], window 63 (R194). -/
def latIssueCheck (va : Word) : M Unit := do
  failIf (va.toNat % 8 != 0) 0x05 va
  latAddress va

/-- The part of those checks that ranks before a CB fault of another operand (Table 4.1). -/
def latAligned (va : Word) : M Unit := failIf (va.toNat % 8 != 0) 0x05 va

/-- The home core that a lattice address is routed to; the issuing core where no descriptor routes it. -/
def State.latHome (s : State) (w : Who) (va : Nat) : Nat :=
  match s.window (s.at w).asid va with
  | .ok d => if s.leaves d va then 1536 * (deviceOf va + 1) + homeCore (homeOf va d) else homeCore (homeOf va d)
  | .error _ => w.core

/-- The request of an operation by a thread. -/
def State.latReq (s : State) (w : Who) (op : LatOp) (va : Word) : LatReq :=
  let x := s.at w
  ⟨op, x.asid, va, w.core, w.slot, x.task, x.th.codelet, x.th.pc, s.colour, s.latHome w va.toNat, none⟩

/-- A posted operation sent to its home, or held in the commit queue of a task with uncommitted history (R194, R79). A 17th without a
reply waits. -/
def State.postLat (s0 s : State) (w : Who) (i : Instr) (op : LatOp) (va : Word) : M State :=
  if s.history w then do
    let s ← s0.hold s w i (.lattice (s.latReq w op va))
    .ok (s.retireVar w i)
  else if 16 ≤ (s.at w).posted.length then .error (.busy (.replies false))
  else
    let r := s.latReq w op va
    let s := s.countSent (s.at w).task.launch s.colour 1
    .ok (((s.upd w fun x => { x with posted := x.posted ++ [r.home] }).post [.latticeRequestApply r]).retireVar w i)

/-- A posted operation of two registers. -/
def latPost (i : Instr) (a : Fin 32) (b : Option (Fin 32)) (rel : Bool) (op : State → Who → Word → M LatOp) (s0 : State) :
    Host.Outcome State Fault Refusal :=
  issue i false 0 s0 fun w => do
    s0.chkBound w i
    if rel then s0.sync w
    let (va, s) ← (s0.readG w a).waitsAfter (s0.chkCb w i)
    latAligned va
    s0.chkCb w i
    latIssueCheck va
    let (x, s) ← match b with
      | some b => s.readG w b
      | none => .ok (0, s)
    let o ← op s w x
    s0.postLat s w i o va

/-- LJOIN (R198). -/
def execLjoin (a b : Fin 32) (s : State) : Host.Outcome State Fault Refusal :=
  latPost (.ljoin a b) a (some b) false (fun _ _ x => .ok (.join x)) s

/-- LJOIN.R (R198): synchronising. -/
def execLjoinR (a b : Fin 32) (s : State) : Host.Outcome State Fault Refusal :=
  latPost (.ljoinR a b) a (some b) true (fun _ _ x => .ok (.join x)) s

/-- LESUM (R200). -/
def execLesum (a b : Fin 32) (t : EsumT) (s : State) : Host.Outcome State Fault Refusal :=
  latPost (.lesum a b t) a (some b) false (fun _ _ x => .ok (.esum t x)) s

/-- LFILL (R201). -/
def execLfill (a b : Fin 32) (s : State) : Host.Outcome State Fault Refusal :=
  latPost (.lfill a b) a (some b) false (fun _ _ x => .ok (.fill x)) s

/-- LFILLV: the first 32 bytes of the vector register are captured (R201, R202). -/
def execLfillv (a : Fin 32) (v : Fin 16) (s : State) : Host.Outcome State Fault Refusal :=
  latPost (.lfillv a v) a none false (fun s w _ => .ok (.fillV (bytesOf 32 (s.readV w v)))) s

/-- The size by which LFILLM checks and reads its source: that of the FILL cell at the address. Where the address leads to none, the home will
refuse the operation, and the source is taken as 8 bytes (log entry 69). -/
def State.fillSize (s : State) (w : Who) (va : Word) : Nat :=
  match s.cellAt (s.at w).asid va.toNat .lwrite with
  | .ok c => if c.kind = 8 then c.size else 8
  | .error _ => 8

/-- LFILLM: size bytes of local memory are captured; the size is that of the cell's arena, found by its page (R201). -/
def execLfillm (a b : Fin 32) (m : Fin 8) (s : State) : Host.Outcome State Fault Refusal :=
  let i := Instr.lfillm a b m
  issue i false 0 s fun w => do
    s.chkBound w i
    let (va, s1) ← (s.readG w a).waitsAfter (s.chkCb w i)
    latAligned va
    let size := s1.fillSize w va
    let src := s1.readG w b
    match src with
    | .ok (y, _) => failIf (y.toNat % min size 32 != 0) 0x05 y
    | .error _ => .ok ()
    s.chkCb w i
    latIssueCheck va
    let (y, s1) ← src
    let l ← s1.localSource w y.toNat size (min size 32)
    s.postLat (s1.noteSpan w l size) w i (.fillM (s1.readLoc l size) (s1.readM w m)) va

/-! ## Freezes (R203, R204) -/

/-- An operation whose issuer waits, BUSY, for its home (LFRZ, LFRZA). -/
def State.sendLat (s : State) (w : Who) (i : Instr) (op : LatOp) (va : Word) : State :=
  ((s.countSent (s.at w).task.launch s.colour 1).waitBusy w i .remote).post [.latticeRequestApply (s.latReq w op va)]

/-- LFRZ (R203). -/
def execLfrz (d a : Fin 32) (s : State) : Host.Outcome State Fault Refusal :=
  let i := Instr.lfrz d a
  issue i false 0 s fun w => do
    s.chkBound w i
    s.sync w
    let (va, s1) ← (s.readG w a).waitsAfter (s.chkCb w i)
    latAligned va
    s.chkCb w i
    latIssueCheck va
    s1.chkDst w d
    if s1.history w then
      let s ← s.hold s1 w i (.lattice (s1.latReq w .frz va))
      .ok ((s.writeG w d 3).retireVar w i)
    else .error (.next (s.sendLat w i .frz va))

/-- LFRZA (R204): its address may be any of a page, so that it needs no alignment (log entry 70). -/
def execLfrza (a : Fin 32) (s : State) : Host.Outcome State Fault Refusal :=
  let i := Instr.lfrza a
  issue i false 0 s fun w => do
    s.chkOps w i
    s.sync w
    let (va, s1) ← s.readG w a
    latAddress va
    if s1.history w then
      let s ← s.hold s1 w i (.lattice (s1.latReq w .frza va))
      .ok (s.retireVar w i)
    else .error (.next (s.sendLat w i .frza va))

/-- A freeze's answer at its thread: LFRZ writes its status and completes, LFRZA completes; each pops a pop-bound g(a) now (R95, R203, R204). -/
def State.freezeEnds (s : State) (w : Who) (status : Nat) : State :=
  let ends (i : Instr) (x : M State) : State := match x with
    | .ok s => s.retireVar w i
    | .error _ => s.reissue w
  match (s.at w).out with
  | some (.lfrz d a) => ends (.lfrz d a) do
      let (_, s) ← s.readG w a
      s.putG w d (BitVec.ofNat 64 status)
  | some (.lfrza a) => ends (.lfrza a) do
      let (_, s) ← s.readG w a
      .ok s
  | _ => s

/-- Whether a slot holds this task with an instruction in flight at a home. -/
def State.awaits (s : State) (w : Who) (t : TaskId) : Bool :=
  let x := s.at w
  x.st == .busy && x.busy == .remote && x.task == t

/-- The trap of an instruction whose home refused it: taken precisely on it (R33, R95). -/
def State.homeTrap (s : State) (w : Who) (code sub : Nat) (tval : Word) : State :=
  s.takeTrap w code false sub tval (s.th w).pc true

/-- LFRZA at the home: the arena's state moves, its cells are frozen in ARENA_FREEZE; at once where it is FROZEN already (R204). Of an arena of
another package only the completion is seen here. -/
def State.frzaApply (s : State) (r : LatReq) (w : Who) (ar : Arena) (far : Bool) : State :=
  let waits := r.tagVt.isNone && s.awaits w r.task
  if ar.st = 2 ∨ far then
    if waits then s.freezeEnds w 0 else s
  else
    let s := s.updArena ar fun a => { a with st := 1 }
    let s := if waits then s.upd w fun x => { x with busy := .freeze ar.asid ar.num } else s
    if ar.st = 0 then s.post [.arenaFreeze ar.asid ar.num] else s

/-- What a request comes to at its home: the new state and the answer. -/
def State.latOutcome (s : State) (r : LatReq) : M (State × Nat) :=
  if r.op = .frza then do
    let x ← s.translate r.asid r.va.toNat .lwrite
    s.kindCheck r.asid 0 true .lwrite x.pte r.va.toNat
    match s.arenaFor r.asid r.va.toNat x.pte with
    | some ar => .ok (s.frzaApply r ⟨r.core, r.slot⟩ ar (farAway x.pa), 0)
    | none => malformed r.va.toNat
  else s.latApply r

/-- A request whose transfer to another package cannot leave: it waits for its port, or, without a VALID route, stops its launch (R395, R396). -/
def State.latAway (s : State) (r : LatReq) (dev : Nat) : State :=
  match s.portTo dev with
  | some (p, _) => { s with latWait := s.latWait ++ [(p, s.gtime, r)] }
  | none => (if r.tagVt.isNone && (r.op = .frz || r.op = .frza) then
      s.upd ⟨r.core, r.slot⟩ fun x => if x.st = .busy ∧ x.busy = .remote ∧ x.task = r.task then { x with busy := .port 8 } else x
    else if r.tagVt.isNone then s.answer r 0 0 r.va else s).cpStop r.task.launch

/-- LATTICE_REQUEST_APPLY: the head request at its home (R54, R195, R203, R204). One for another package counts as received there (R92). A commit-queue entry of a launch that has been stopped before
its application is discarded (R81, R100). A malformed entry is logged (R354). -/
def State.latticeRequest (s0 : State) (r : LatReq) : State :=
  let w : Who := ⟨r.core, r.slot⟩
  let far := decide (1536 ≤ r.home)
  let s0 := if far then s0.meetPeer r.task.launch (r.home / 1536 - 1) else s0
  let s := if far then s0 else s0.countRecv r.task.launch r.colour 1
  if r.tagVt.isSome ∧ s.stopped r.task.launch then s else
  let sync := r.tagVt.isNone && (r.op = .frz || r.op = .frza)
  match s.latOutcome r with
  | .ok (s, n) =>
    if r.op = .frza then s
    else if sync then (if s.awaits w r.task then s.freezeEnds w n else s)
    else if r.op = .frz then s
    else s.answer r n 0 r.va
  | .error (.away dev) => s0.latAway r dev
  | .error (.trap code tval sub log) =>
    let s := match log with
      | some (ty, a) => s.logError ty 0 r.core r.slot.val 0 0 (if r.task.launch < 4096 then r.task.launch else 0xFFF) a
      | none => s
    if sync then (if s.awaits w r.task then s.homeTrap w code sub tval else s)
    else if code = 0x20 then
      (if r.tagVt.isSome then s.commitFault r code sub tval
           else (s.answer r 0 0 r.va).upd w fun x => if x.task = r.task then { x with mcheck := some (sub, tval) } else x)
    else s.answer r code sub tval
  | .error _ => s

/-- The error record of a read made for the package itself: a malformed entry's, or a mismatch's (R354, R387). -/
def State.logWalk (s : State) (e : Stop) : State :=
  match e with
  | .trap _ _ _ (some (ty, a)) => s.logError ty 0 0x7FF 0 0 0 0xFFF a
  | .trap 0x20 a sub none => s.logError 0x01 sub 0x7FF 0 0 0 0xFFF a
  | _ => s

/-- Every cell of an arena from `va` up is frozen, and its waiters resolved (R45, R56); cells that translate nowhere are passed over, and so is one
whose granule or code does not check, with its error record (R47, R387, log entry 58). -/
def State.freezeCells (s : State) (ar : Arena) (va : Nat) : Nat → State
  | 0 => s
  | n + 1 =>
    let s := match (do
        let x ← s.translate ar.asid va .lwrite
        let c : Cell := ⟨x, ar, va⟩
        let (k, bs) ← s.readCell c
        match (frzRes k bs).new with
        | some (_, k') =>
          let s := s.setCodes x.pa k' (c.size / 8)
          pure (s.cellChanged c k' bs)
        | none => pure s : M State) with
      | .ok s => s
      | .error e => s.logWalk e
    s.freezeCells ar (va + cellBytes ar.size) n

/-- The threads that await an arena's freeze complete (R204). -/
def State.freezeDone (s : State) (asid num : Nat) : State :=
  let ws := s.cores.flatMap fun (c, k) => (List.finRange 16).filterMap fun sl =>
    if k.slots[sl].st = .busy ∧ k.slots[sl].busy = .freeze asid num then some (Who.mk c sl) else none
  ws.foldl (fun s w => s.freezeEnds w 0) s

/-- ARENA_FREEZE: every cell of the arena is frozen, STATE becomes FROZEN, and the LFRZA that await it complete (R45, R204). -/
def State.freezeArena (s : State) (asid num : Nat) : State :=
  match s.arena? asid num with
  | none => s
  | some ar =>
    let s := s.freezeCells ar ar.base (ar.len / cellBytes ar.size)
    let s := s.updArena ar fun a => { a with st := 2 }
    s.freezeDone asid num

/-! ## Threshold reads (R205 to R208) -/

/-- The trigger kind of an instruction's suffix. -/
def tkindOf : TrigK → TKind | .val => .val | .mask => .mask | .frozen => .frozen

/-- The trigger set of LWAIT and LARM: values of `n` registers from b up, none read for .FROZEN; a 256-byte UNION takes its mask from local memory, which
the issuing core reads at issue: at the home it is the one that was sent (R205, Table 8.5). -/
def State.trigOf (s : State) (here : Bool) (w : Who) (ar : Arena) (k : TrigK) (vals : List Word) : M Trig :=
  if k = .mask ∧ ar.kind = 6 ∧ ar.size = 4 ∧ vals.length = 1 then
    match (if here then (s.at w).trig else none) with
    | some t => .ok t
    | none => do
      let l ← s.localSource w (vals.headD 0).toNat 256 32
      .ok ⟨.mask, vals, s.readLoc l 256⟩
  else .ok ⟨tkindOf k, vals, []⟩

/-- The register values of a trigger operand (Table 8.5); with .FROZEN, b is not read. -/
def State.trigVals (s : State) (w : Who) (b : Fin 32) (n : Fin 4) (k : TrigK) : M (List Word × State) :=
  if k = .frozen then .ok (List.replicate (n.val + 1) 0, s) else s.readRun w b (n.val + 1)

/-- A threshold read that no status resolves: a waiter is recorded and the thread parks, or waits BUSY for spill room; a codelet faults
(R52, R53, R206, R360). `s` is the state before the instruction. -/
def State.parkOnCell (s : State) (w : Who) (i : Instr) (c : Cell) (kind : Nat) (t : Trig) : M State :=
  let x := s.at w
  if x.th.codelet then fail 0x0D (encodeWord i)
  else match s.addWaiter c ⟨c.ar.asid, BitVec.ofNat 64 c.va, t, kind, none, w.core, w.slot, x.task, x.th.pc, none⟩ with
    | some s' => .error (.next (s'.parkSlot w i (.cell kind c.ar.asid (BitVec.ofNat 64 c.va) t)))
    | none => .error (.busy .spill)

/-- A CONFLICT status met by a thread of a launch is reported to it (R48). -/
def State.metStatus (s : State) (w : Who) (c : Cell) (st : Word) : State :=
  let x := s.at w
  if st = statusWord 5 0 ∧ x.launched then s.reportConflict c.ar.asid c.va x.task.launch w.core w.slot.val x.task.wid else s

/-- The remote word accesses of a 256-byte mask that stands in another core's local memory (R40, R43). -/
def State.noteMask (s : State) (w : Who) (t : Trig) : State :=
  match s.localPlace w (t.vals.headD 0).toNat 256 with
  | .ok l => if t.maskBytes.isEmpty then s else s.noteSpan w l 256
  | .error _ => s

/-- The request of a threshold read leaves for its home, with the trigger set that LWAIT and LARM read at issue (R205, R206). -/
def State.toHome (s : State) (here : Bool) (w : Who) (i : Instr) (t : Option Trig) : M Unit :=
  if here then .ok ()
  else
    let s := (t.map (s.noteMask w)).getD s
    .error (.next (((s.upd w fun x => { x with trig := t }).waitBusy w i .remote).post [.thresholdReadAtHome w.core w.slot]))

/-- The cell and the trigger set of LWAIT and LARM, as the home checks them (R50, R205). -/
def State.trigAt (s : State) (here : Bool) (w : Who) (va : Word) (b : Fin 32) (n : Fin 4) (k : TrigK) : M (Cell × Trig × State) := do
  let c ← s.cellAt (s.at w).asid va.toNat .lread
  let (vals, s) ← s.trigVals w b n k
  let t ← s.trigOf here w c.ar k vals
  failIf (!trigOk c.ar t) 0x06 va
  .ok (c, t, s)

/-- LWAIT (R205, R206). -/
def lwaitBody (here : Bool) (d a b : Fin 32) (n : Fin 4) (k : TrigK) (w : Who) (s0 : State) : M State := do
  let i := Instr.lwait d a b n k
  s0.chkBound w i
  let (va, s) ← (s0.readG w a).waitsAfter (s0.chkCb w i)
  latAligned va
  let read := s.trigAt here w va b n k
  (s0.chkCb w i).orEarlier read
  latIssueCheck va
  s0.toHome here w i (read.toOption.map fun r => r.2.1)
  let (c, t, s) ← read
  s.chkDst w d
  let (code, bs) ← s.readCell c
  match firstStatus c.ar code bs t with
  | some st => .ok (((s.metStatus w c st).writeG w d st).retireVar w i)
  | none => s0.parkOnCell w i c 0 t

/-- The cell and the destination of LWAITF, as the issuing core and the home check them (R205, R206). -/
def State.fillAt (s : State) (w : Who) (i : Instr) (va : Word) (b : Fin 32) : M (Cell × Loc × State) := do
  let c ← s.cellAt (s.at w).asid va.toNat .lread
  let (y, s) ← s.readG w b
  s.storeAllowed w i y.toNat c.size
  failIf (y.toNat % min c.size 32 != 0) 0x05 y
  failIf (!trigOk c.ar ⟨.filled, [0], []⟩) 0x06 va
  let l ← s.localArea w y.toNat c.size (min c.size 32)
  .ok (c, l, s)

/-- LWAITF (R205, R206). -/
def lwaitfBody (here : Bool) (d a b : Fin 32) (w : Who) (s0 : State) : M State := do
  let i := Instr.lwaitf d a b
  s0.chkBound w i
  let (va, s) ← (s0.readG w a).waitsAfter (s0.chkCb w i)
  latAligned va
  (s0.chkCb w i).orEarlier (s.fillAt w i va b)
  latIssueCheck va
  s0.toHome here w i none
  let (c, l, s) ← s.fillAt w i va b
  s.chkDst w d
  let t : Trig := ⟨.filled, [0], []⟩
  let (code, bs) ← s.readCell c
  match firstStatus c.ar code bs t with
  | some st =>
    let s := (s.metStatus w c st).writeG w d st
    let s := match l with
      | .loc q off => if st = statusWord 2 0 then (s.noteSpan w l c.size).localStore w q off bs else s
      | .mem _ => s
    .ok (s.retireVar w i)
  | none => s0.parkOnCell w i c 1 t

/-- What LXRD delivers of a cell: 8 bytes, or the FP64 reading of an ESUM (R208). -/
def lxrdValue (data : List Byte) : Word := if data.length = 24 then wordOf (data.drop 16) else wordOf (data.take 8)

/-- What LXRDV delivers: up to 32 bytes, other bytes zero. -/
def lxrdvValue (data : List Byte) : Nat := natOf (if data.length = 24 then data.take 16 else data.take 32)

/-- The bytes LXRD delivers on a status: those of a CONFLICT cell or a frozen EMPTY FILL read as zero (R208). -/
def lxrdData (ar : Arena) (code : Fin 8) (bs : List Byte) : List Byte :=
  if code = 4 ∨ (ar.kind = 8 ∧ code = 2) then List.replicate (wakeBytes ar bs).length 0 else wakeBytes ar bs

/-- LXRD and LXRDV: a threshold read with the trigger FROZEN (R208). -/
def lxrdBody (here : Bool) (i : Instr) (a : Fin 32) (d : Option (Fin 32)) (wide : Bool) (w : Who) (s0 : State)
    (put : State → List Byte → State) : M State := do
  s0.chkBound w i
  let (va, s) ← (s0.readG w a).waitsAfter (s0.chkCb w i)
  latAligned va
  (s0.chkCb w i).orEarlier (s.cellAt (s.at w).asid va.toNat .lread)
  latIssueCheck va
  s0.toHome here w i none
  let c ← s.cellAt (s.at w).asid va.toNat .lread
  failIf (decide (32 < c.size) || (!wide && c.size == 32)) 0x0B va
  match d with
  | some d => s.chkDst w d
  | none => .ok ()
  let t : Trig := ⟨.frozen, [0], []⟩
  let (code, bs) ← s.readCell c
  match firstStatus c.ar code bs t with
  | some st => .ok ((put (s.metStatus w c st) (lxrdData c.ar code bs)).retireVar w i)
  | none => s0.parkOnCell w i c 2 t

def lxrd (here : Bool) (d a : Fin 32) (w : Who) (s : State) : M State :=
  lxrdBody here (.lxrd d a) a (some d) false w s fun s bs => s.writeG w d (lxrdValue bs)

def lxrdv (here : Bool) (v : Fin 16) (a : Fin 32) (w : Who) (s : State) : M State :=
  lxrdBody here (.lxrdv v a) a none true w s fun s bs => s.writeV w v (lxrdvValue bs)

/-- The core a LARM names: the issuing core for 0x7FF or a target outside the launch's placement set (R207). -/
def State.armTarget (s : State) (w : Who) (x : Word) : Nat :=
  let c := x.toNat % 2 ^ 11
  match s.launch? (s.at w).task.launch with
  | some l => if c < 1536 && bitAt l.dieset (dieOf c) then c else w.core
  | none => w.core

/-- LARM (R207). -/
def larmBody (here : Bool) (d a b : Fin 32) (n : Fin 4) (k : TrigK) (w : Who) (s0 : State) : M State := do
  let i := Instr.larm d a b n k
  failIf (decide (29 < d.val)) 0x01 (encodeWord i)
  failIf (s0.history w) 0x08 (encodeWord i)
  let (va, s) ← (s0.readG w a).waitsAfter (s0.chkCb w i)
  latAligned va
  let read := s.trigAt here w va b n k
  (s0.chkCb w i).orEarlier read
  latIssueCheck va
  s0.toHome here w i (read.toOption.map fun r => r.2.1)
  let (c, t, s) ← read
  let (pc, s) ← s.readG w d
  let (arg, s) ← s.readG w (d + 1)
  let (tgt, s) ← s.readG w (d + 2)
  let (code, bs) ← s.readCell c
  let x := s.at w
  let e : Waiter := ⟨c.ar.asid, BitVec.ofNat 64 c.va, t, 0, some (pc, arg, x.prio, x.th.lvt), s.armTarget w tgt, 0, x.task, x.th.pc, none⟩
  match firstStatus c.ar code bs t with
  | some st => .ok (((s.metStatus w c st).resolve e st []).retireVar w i)
  | none =>
    match s.addWaiter c e with
    | some s => .ok (s.retireVar w i)
    | none => .error (.busy .spill)

/-- LWAIT: the request leaves for the cell's home (R205, R206). -/
def execLwait (d a b : Fin 32) (n : Fin 4) (k : TrigK) (s : State) : Host.Outcome State Fault Refusal :=
  issue (.lwait d a b n k) false 0 s fun w => lwaitBody false d a b n k w s

/-- LWAITF (R205, R206). -/
def execLwaitf (d a b : Fin 32) (s : State) : Host.Outcome State Fault Refusal :=
  issue (.lwaitf d a b) false 0 s fun w => lwaitfBody false d a b w s

/-- LARM (R207). -/
def execLarm (d a b : Fin 32) (n : Fin 4) (k : TrigK) (s : State) : Host.Outcome State Fault Refusal :=
  issue (.larm d a b n k) false 0 s fun w => larmBody false d a b n k w s

/-- LXRD (R208). -/
def execLxrd (d a : Fin 32) (s : State) : Host.Outcome State Fault Refusal :=
  issue (.lxrd d a) false 0 s fun w => lxrd false d a w s

/-- LXRDV (R208). -/
def execLxrdv (v : Fin 16) (a : Fin 32) (s : State) : Host.Outcome State Fault Refusal :=
  issue (.lxrdv v a) false 0 s fun w => lxrdv false v a w s

/-- THRESHOLD_READ_AT_HOME: the outstanding threshold read or arming of a slot is resolved or recorded (R206, R207). -/
def State.thresholdRead (s : State) (w : Who) : Host.Outcome State Fault Refusal :=
  let x := s.at w
  if x.st = .busy ∧ (x.busy = .remote ∨ x.busy = .spill) then
    match x.out with
    | some (.lwait d a b n k) => finish w (.lwait d a b n k) s (lwaitBody true d a b n k w s)
    | some (.lwaitf d a b) => finish w (.lwaitf d a b) s (lwaitfBody true d a b w s)
    | some (.larm d a b n k) => finish w (.larm d a b n k) s (larmBody true d a b n k w s)
    | some (.lxrd d a) => finish w (.lxrd d a) s (lxrd true d a w s)
    | some (.lxrdv v a) => finish w (.lxrdv v a) s (lxrdv true v a w s)
    | _ => .next s
  else .next s

/-! ## Wakes (R101) and withdrawals (R83) -/

/-- A wake's results written by the parked instruction it completes (R206, R208). -/
def State.wakeResult (s : State) (w : Who) (i : Instr) (k : Wake) : M State :=
  match i with
  | .lwait d _ _ _ _ => s.putG w d k.status
  | .lwaitf d _ b => do
    let s ← s.putG w d k.status
    if k.status = statusWord 2 0 then
      let (y, s) ← s.readG w b
      let l ← s.localArea w y.toNat k.data.length (min k.data.length 32)
      match l with
      | .loc q off => .ok ((s.noteSpan w l k.data.length).localStore w q off k.data)
      | .mem _ => .ok s
    else .ok s
  | .lxrd d _ => s.putG w d (if k.status = statusWord 5 0 then 0 else lxrdValue k.data)
  | .lxrdv v _ => .ok (s.writeV w v (if k.status = statusWord 5 0 then 0 else lxrdvValue k.data))
  | _ => .error (.busy .completing)

/-- A wake at a parked thread: its instruction completes with the wake's status; where it names a bound register or its results cannot
be written at once, it issues again and resolves at once (R51, R101). -/
def State.wakeThread (s : State) (w : Who) (k : Wake) : State :=
  match (s.at w).out with
  | some i =>
    if (s.th w).bind.toList.any Binding.bound then s.reissue w
    else match s.wakeResult w i k with
      | .ok s => (s.unpark w).retire w i
      | .error _ => s.reissue w
  | none => s.reissue w

/-- A withdrawn wait's entry leaves its home (R83). -/
def State.withdraw (s : State) (x : Withdrawal) : State :=
  let keep (y : Waiter) : Bool := !(y.arm.isNone && y.task == x.task && y.asid == x.asid && y.va == x.va)
  let s := (s.cores.filter fun x => x.2.spilled.any fun y => !keep y).foldl (fun (s : State) x => s.keepSpilled x.1 ((s.core x.1).spilled.filter keep)) s
  { s with cores := s.cores.map fun (c, k) => (c, { k with waiters := k.waiters.filter keep }) }

/-! ## LSTAT (R209) -/

/-- LSTAT: state code, cell kind and number of waiters. While the system slot handles a waiter scan it is translated in the scanning
arena's ASID, and the cell's spilled waiters are re-tested first (R209, R377). -/
def execLstat (d a : Fin 32) (s : State) : Host.Outcome State Fault Refusal :=
  let i := Instr.lstat d a
  issue i true 0 s fun w => do
    s.chkOps w i
    let (va, s) ← s.readG w a
    latIssueCheck va
    s.chkDst w d
    let asid := (s.core w.core).scanAsid.getD (s.at w).asid
    let (c, code, bs) ← match s.barrierOver asid va.toNat with
      | some (c, n) => .ok (c, 0, barrierBytes n)
      | none => do
        let c ← s.cellAt asid va.toNat .lread
        let (code, bs) ← s.readCell c
        .ok (c, code, bs)
    let s := if (s.core w.core).scanAsid.isSome then s.scanSpilled c code bs else s
    let q := s.core c.x.home
    let on (y : Waiter) : Bool := y.asid == asid && y.va == va
    let n := min ((q.waiters.filter on).length + (q.spilled.filter on).length) 0xFFFF
    .ok ((s.writeG w d (BitVec.ofNat 64 (code.val + c.kind * 2 ^ 8 + n * 2 ^ 16))).retireVar w i)

end Sys2Proof.Machine
end

