-- ==== Sys2Proof/Machine/Vtime.lean ====
section
/-! DEFINITION. Messages in motion and virtual time: arrival by the task's whereabouts, anti-messages, delivery, epochs, rollback, the
commit queue's application, fossil collection and the Odometer's terms (R65 to R92, R101, R399). -/

namespace Sys2Proof.Machine

/-! ## Sending -/

/-- A message leaves: it takes the colour in force, and counts as sent (R89). -/
def State.sendMsg (s : State) (m : Msg) : State :=
  let m := { m with colour := s.colour }
  (s.countMsg m).post [if m.anti then .antiMessageArrival m else .messageArrival m]

/-- A message returned to its sender as a dead letter (R68). -/
def State.deadLetter (s : State) (m : Msg) : State := s.sendMsg { m with kind := 1, anti := false }

/-- An engine-completion notice to a task (R32, R68). -/
def State.notify (s : State) (t : TaskId) (payload : List Byte) : State :=
  s.sendMsg ⟨0, t.wid, t.wid, t.launch, 0, false, false, false, 2, false, payload⟩

/-! ## Delivery (R71, Table 3.2) -/

/-- The unprocessed positive message of least key. -/
def leastMsg (ms : List InMsg) : Option InMsg :=
  ms.foldl (fun b x =>
    if x.msg.anti then b
    else match b with
      | none => some x
      | some y => if x.msg.key.lt y.msg.key then some x else b) none

/-- What RECV would deliver, and whether speculatively, before the reservation of R77: mode, GVT, HZN, W, inbox. -/
def pick (mode : IMode) (gvt hzn w : Nat) (ms : List InMsg) : Option (InMsg × Bool) :=
  match mode with
  | .fifo => (ms.find? fun x => !x.msg.anti && !x.msg.tent).map fun x => (x, false)
  | .ordered => (leastMsg ms).bind fun x => if x.msg.vt < hzn then some (x, false) else none
  | .optimistic => (leastMsg ms).bind fun x =>
      if x.msg.vt < hzn then some (x, false)
      else if x.msg.vt ≤ min (gvt + w) (2 ^ 64 - 1) then some (x, true) else none

/-- Bytes of the Maquette a task's epochs hold: the newest its whole reservation, earlier ones what they used (R77). -/
def epochBytes : List Epoch → Nat
  | [] => 0
  | [e] => 3584 + 5 * e.snap.stwl.toNat / 4
  | e :: es => 3072 + 40 * e.undo.length + 32 * e.log.length + epochBytes es

/-- The same, with the newest reservation reduced to its use, as opening an epoch does. -/
def epochUsed (es : List Epoch) : Nat := es.foldl (fun n e => n + (3072 + 40 * e.undo.length + 32 * e.log.length)) 0

/-- The core whose Maquette holds a task's history (R86). -/
def Place.home : Place → Option Nat
  | .on c _ => some c
  | .out c => some c
  | .held c _ _ => some c
  | .reclaimed c => some c
  | _ => none

/-- Whether a further epoch of a task fits the Maquette's 131,072 bytes (R77). -/
def State.reserves (s : State) (c : Nat) (t : Task) (stwl : Nat) : Bool :=
  let others := (s.tasks.filter fun x => x.place.home == some c && x.id != t.id).foldl (fun n x => n + epochBytes x.epochs) 0
  decide (others + epochUsed t.epochs + (3584 + 5 * stwl / 4) ≤ 131072)

/-- Whether RECV of a task in a slot can deliver now. -/
def State.recvReady (s : State) (c : Nat) (t : Task) (th : Thread) : Bool :=
  match pick t.imode (s.gvtOf t.id.launch) (s.hznOf t.id.launch) th.vtwin.toNat t.inbox with
  | some (_, true) => s.reserves c t th.stwl.toNat
  | some (_, false) => true
  | none => false

/-- Whether the parking instruction of a task that is not in a slot would accept what it has (R324, R374). -/
def State.outReady (s : State) (t : Task) : Bool :=
  match t.parkWhy with
  | .recv => (pick t.imode (s.gvtOf t.id.launch) (s.hznOf t.id.launch) t.vtwin.toNat t.inbox).isSome
  | .recvN => !t.notices.isEmpty
  | _ => false

/-! ## Making swapped-out tasks ready -/

/-- A saved task's entry in its core's run queue (R102, R324). -/
def savedEntry (t : Task) : QEntry :=
  { task := t.id, work := .saved, prio := t.prio, passes := 0, mode := 0, die := 0, groups := 0, bound := true, cluster := none, expl := false }

/-- A swapped-out task becomes ready: it enters its core's run queue once; a task held by the firmware has one READY posted
(R101, R324, R374). -/
def State.makeReady (s : State) (t : Task) : State :=
  match t.place with
  | .out c =>
    if !t.parked then s
    else (s.updTask t.id fun x => { x with parked := false }).enqueue c (savedEntry t)
  | .held c desc _ =>
    if !t.parked || t.ready then s
    else (s.updTask t.id fun x => { x with ready := true }).postWake c 0x07 desc.toNat
  | _ => s

/-- A task whose inbox or bounds have changed: a parked RECV that can deliver issues again, a swapped-out one becomes ready. -/
def State.poke (s : State) (t : Task) : State :=
  match t.place with
  | .on c sl =>
    let x := s.slot c sl
    if x.st = .park ∧ ((x.park = .recv ∧ s.recvReady c t x.th) ∨ (x.park = .recvN ∧ !t.notices.isEmpty)) then s.reissue ⟨c, sl⟩
    else s
  | _ => if s.outReady t then s.makeReady t else s

def State.pokeId (s : State) (t : TaskId) : State :=
  match s.task? t with
  | some x => s.poke x
  | none => s

/-! ## Inbox room (R73, R359) -/

/-- The inbox entries of a task: of its unprocessed messages, of those that its open epochs have dequeued, which a rollback returns to the
unprocessed side, and of its notices (R68, R73, R82). -/
def Task.entries (t : Task) : List (Option (Nat × Nat)) := (t.inbox ++ t.notices).map InMsg.region ++ t.epochs.map Epoch.region

/-- Hardware inbox entries of a core in use. -/
def State.hardUsed (s : State) (c : Nat) : Nat :=
  s.tasks.foldl (fun n t => if t.place.home = some c then n + (t.entries.filter Option.isNone).length else n) 0

/-- Entries of a core's inbox overflow region in use. -/
def State.regionUsed (s : State) (c : Nat) : List Nat :=
  s.tasks.flatMap fun t => t.entries.filterMap fun x => x.bind fun r => if r.1 = c then some r.2 else none

/-- The least number that a list does not hold. -/
def freeIndex (used : List Nat) : Nat := ((List.range (used.length + 1)).find? fun i => !used.contains i).getD 0

/-- Entries of a core's inbox overflow region. -/
def Core.ioEntries (k : Core) : Nat := if ringOk 16 (2 ^ 20) k.iosize.toNat then k.iosize.toNat else 0

/-- A free entry of a core's overflow region. -/
def State.regionRoom (s : State) (c : Nat) : Option Nat :=
  let used := s.regionUsed c
  if used.length < (s.core c).ioEntries then some (freeIndex used) else none

/-- The 288 bytes of an entry of an overflow region: the header with TENT and COLOUR, and the payload (R359). -/
def regionEntry (m : Msg) : List Byte :=
  bytesOf 32 (natOf m.header + b2n m.tent * 2 ^ 237 + b2n m.colour * 2 ^ 242) ++ (m.payload ++ List.replicate 256 0).take 256

/-- An entry of a core's overflow region written. -/
def State.writeRegion (s : State) (c i : Nat) (m : Msg) : State := s.pwrite ((s.core c).iobase.toNat + 288 * i) (regionEntry m)

/-- Whether a message or notice finds an entry at a core: a hardware one where its task is in a slot, or one of the overflow region. -/
def State.inboxRoom (s : State) (c : Nat) (inSlot : Bool) : Bool := (inSlot && decide (s.hardUsed c < 256)) || (s.regionRoom c).isSome

/-- The hardware entry of greatest key among those whose key is above that of an arriving message: it makes room for it (R73). A notice has no
key and displaces none (log entry 33). -/
def State.displaced (s : State) (c : Nat) (m : Msg) : Option (TaskId × InMsg) :=
  if m.kind ≠ 0 then none
  else
    let hard := s.tasks.flatMap fun t => if t.place.home = some c then (t.inbox.filter fun x => x.region.isNone).map fun x => (t.id, x) else []
    hard.foldl (fun b x =>
      if !m.key.lt x.2.msg.key then b
      else match b with
        | none => some x
        | some y => if y.2.msg.key.lt x.2.msg.key then some x else b) none

/-- A message or notice appended to a task's inbox or notice queue. -/
def State.append (s : State) (t : TaskId) (x : InMsg) : State :=
  if x.msg.kind = 0 then s.updTask t fun y => { y with inbox := y.inbox ++ [x] } else s.updTask t fun y => { y with notices := y.notices ++ [x] }

/-- A message or anti-message that joins an ingress, where it is in transit still (R359). -/
def State.toIngress (s : State) (c : Nat) (m : Msg) : State :=
  (s.uncountRecv m.launch m.colour).updCore c fun k => { k with ingress := k.ingress ++ [(m, s.gtime)] }

/-- A message or notice given an entry at its task's core: a hardware entry for a task in a slot; with none free the message of greatest key goes
to the overflow region; else it waits at the core's ingress, in transit still (R73, R359). -/
def State.putEntry (s : State) (t : TaskId) (c : Nat) (inSlot : Bool) (m : Msg) : State :=
  if inSlot && decide (s.hardUsed c < 256) then s.append t ⟨m, none⟩
  else match s.regionRoom c with
    | none => s.toIngress c m
    | some i =>
      match (if inSlot then s.displaced c m else none) with
      | some (id, y) =>
        let s := s.updTask id fun z => { z with inbox := updFirst (fun x => x == y) (fun x => { x with region := some (c, i) }) z.inbox }
        (s.writeRegion c i y.msg).append t ⟨m, none⟩
      | none => (s.writeRegion c i m).append t ⟨m, some (c, i)⟩

/-- The entry of a task's inbox that leaves the region of core `c` first: in key order for ordered messages, in arrival order for FIFO-class
ones (R359). -/
def Task.firstIn (t : Task) (c : Nat) : Option InMsg :=
  let xs := t.inbox.filter fun x => x.region.any fun r => r.1 == c
  if t.imode = .fifo then xs.head?
  else xs.foldl (fun b x => match b with | none => some x | some y => if x.msg.key.lt y.msg.key then some x else b) none

/-- One message or notice moves from the core's region to its hardware entries where one is free (R73, R359): a message of the first task of the
directory that has one there, before a notice (log entry 33: the rules order the entries of one task only). -/
def State.refill (s : State) (c : Nat) : State :=
  let here (t : Task) : Bool := match t.place with | .on c' _ => c' == c | _ => false
  let put (z : InMsg) (xs : List InMsg) : List InMsg := updFirst (fun x => x == z) (fun x => { x with region := none }) xs
  let notice (t : Task) : Option InMsg := t.notices.find? fun x => x.region.any fun r => r.1 == c
  if 256 ≤ s.hardUsed c then s
  else match (s.tasks.filter here).findSome? fun t => (t.firstIn c).map fun x => (t.id, x) with
    | some (t, x) => s.updTask t fun y => { y with inbox := put x y.inbox }
    | none =>
      match (s.tasks.filter here).findSome? fun t => (notice t).map fun x => (t.id, x) with
      | some (t, x) => s.updTask t fun y => { y with notices := put x y.notices }
      | none => s

/-! ## Arrival (R101, Table 4.6a) -/

/-- Whether a message is the positive twin of an anti-message: an ordered message with the same destination, VT, sender and SEQ (R84, R337). -/
def twin (a m : Msg) : Bool := !m.anti && m.kind == 0 && m.launch == a.launch && m.dwid == a.dwid && m.vt == a.vt && m.swid == a.swid && m.seq == a.seq

/-- Whether a message to a work identifier with bits above S set (R212). -/
def Launch.noSuchWid (l : Launch) (wid : Word) : Bool := decide (2 ^ widS (hWidths l.h) ≤ wid.toNat)

/-- Whether an earlier message of the same sender to the same destination still waits at a core's ingress: messages of one sender to one
destination arrive in the order sent (R212). -/
def Core.behind (k : Core) (m : Msg) : Bool :=
  k.ingress.any fun x => x.1.launch == m.launch && x.1.swid == m.swid && x.1.dwid == m.dwid && x.1.kind == m.kind

/-- The core at whose ingress an earlier message of its order waits (R212, R336). -/
def State.behindAt (s : State) (m : Msg) : Option Nat := s.cores.findSome? fun x => if x.2.behind m then some x.1 else none

/-- A message placed in a task's inbox or notice queue at a core; a waiting anti-message annihilates it; a straggler asks for a rollback
(R73, R82, R84). -/
def State.enterInbox (s : State) (t : Task) (c : Nat) (inSlot : Bool) (m : Msg) : State :=
  if !m.anti && t.inbox.any (fun x => x.msg.anti && twin x.msg m) then
    s.updTask t.id fun x => { x with inbox := delFirst (fun y => y.msg.anti && twin y.msg m) x.inbox }
  else if !s.inboxRoom c inSlot then s.toIngress c m
  else
    let s := s.putEntry t.id c inSlot m
    let straggler := m.kind == 0 && !m.anti && !t.epochs.isEmpty && (match t.lastKey with | some k => m.key.lt k | none => false)
    let s := if straggler then s.post [.rollback t.id m.key false] else s
    s.pokeId t.id

/-- Whether a message is held at the directory as tentative (R74): HZN, in which it counts at VT + 1, has not passed its VT (log entry 30). -/
def State.tentHeld (s : State) (m : Msg) : Bool := m.tent && !decide (m.vt < s.hznOf m.launch)

/-- Whether a task is on a die that is cut off, where nothing arrives any more (R390, log entry 86). -/
def State.lost (s : State) (t : Task) : Bool := t.place.home.any fun c => s.cutDies.contains (dieOf c)

/-- A message or notice delivered by the addressed task's location (R68, R74, R101, R212, R399). Where an earlier one of its order still waits at an
ingress it waits behind that one; `first` says that it has waited there itself and is the first. -/
def State.deliver (s : State) (first : Bool) (m : Msg) : State :=
  match s.launch? m.launch with
  | none => s
  | some l =>
    if s.stopped m.launch then s
    else
      let dest := if m.kind = 1 then m.swid else m.dwid
      let hold (s : State) (t : Task) : State := s.updTask t.id fun x => { x with hold := x.hold ++ [m] }
      if m.kind = 0 ∧ l.noSuchWid dest then s.deadLetter m
      else match (if first then none else s.behindAt m) with
      | some c => s.toIngress c m
      | none => match s.task? ⟨m.launch, dest⟩ with
        | none => s.updLaunch m.launch fun l => { l with unplaced := l.unplaced ++ [m] }
        | some t =>
          let keep := m.kind = 0 ∧ t.imode = .fifo ∧ s.tentHeld m
          if s.lost t then hold s t else
          match t.place with
          | .queued => s.updLaunch m.launch fun l => { l with unplaced := l.unplaced ++ [m] }
          | .exited => if m.kind ≠ 0 then s else if s.tentHeld m then hold s t else s.deadLetter m
          | .migrating => hold s t
          | .on c sl =>
            let x := s.slot c sl
            if x.st = .trap then (hold s t).postWake c 0x01 sl.val
            else if x.st = .save then hold s t
            else if keep then hold s t
            else s.enterInbox t c true m
          | .out c | .held c _ _ | .reclaimed c => if keep then hold s t else s.enterInbox t c false m

/-- MESSAGE_ARRIVAL: the message is counted as received and delivered (R89, R101); one that waits at the ingress counts when it enters. -/
def State.messageArrives (s : State) (m : Msg) : State := (s.countRecv m.launch m.colour 1).deliver false m

/-- An anti-message at the core of its task: an unprocessed twin is annihilated, one dequeued is rolled back, and with neither it waits in an
inbox entry (R84). -/
def State.antiMeets (s : State) (t : Task) (c : Nat) (inSlot : Bool) (m : Msg) : State :=
  if t.inbox.any fun x => twin m x.msg then s.updTask t.id fun x => { x with inbox := delFirst (fun y => twin m y.msg) x.inbox }
  else if t.epochs.any fun e => twin m e.msg then s.post [.rollback t.id m.key true]
  else s.enterInbox t c inSlot m

/-- A twin that waits at a core's ingress annihilated: it counts as received (R84, R359). -/
def State.dropAtIngress (s : State) (m : Msg) : State :=
  { s.countRecv m.launch ((s.cores.flatMap fun (_, k) => k.ingress.filter fun x => twin m x.1).head?.map (fun x => x.1.colour) |>.getD m.colour) 1 with
    cores := s.cores.map fun (c, k) => (c, { k with ingress := k.ingress.filter fun x => !twin m x.1 }) }

/-- ANTI_MESSAGE_ARRIVAL: it annihilates its twin where that is unprocessed or held, asks for a rollback where it has been dequeued, and
waits where it has not arrived (R84, R101). One whose destination cannot exist finds no twin, which went back as a dead letter at once (R212), and
is held as if for a work identifier not yet placed, until the launch ends (log entry 76). `first` is as for `State.deliver`. -/
def State.antiArrives (s : State) (first : Bool) (m : Msg) : State :=
  let s := s.countRecv m.launch m.colour 1
  match s.launch? m.launch with
  | none => s
  | some l =>
    if s.stopped m.launch then s
    else if l.unplaced.any (twin m) then
      s.updLaunch m.launch fun l => { l with unplaced := delFirst (twin m) l.unplaced }
    else if s.cores.any fun (_, k) => k.ingress.any fun x => twin m x.1 then s.dropAtIngress m
    else match (if first then none else s.behindAt m) with
    | some c => s.toIngress c m
    | none => match s.task? ⟨m.launch, m.dwid⟩ with
      | none => s.updLaunch m.launch fun l => { l with unplaced := l.unplaced ++ [m] }
      | some t =>
        let hold (s : State) : State := s.updTask t.id fun x => { x with hold := x.hold ++ [m] }
        if t.hold.any (twin m) then s.updTask t.id fun x => { x with hold := delFirst (twin m) x.hold }
        else if s.lost t then hold s
        else match t.place with
          | .queued => s.updLaunch m.launch fun l => { l with unplaced := l.unplaced ++ [m] }
          | .exited | .migrating => hold s
          | .on c sl =>
            if (s.slot c sl).st = .trap then (hold s).postWake c 0x01 sl.val
            else if (s.slot c sl).st = .save then hold s
            else s.antiMeets t c true m
          | .out c | .held c _ _ | .reclaimed c => s.antiMeets t c false m

/-- A held message or anti-message given to its task again; one that is released is tentative no more (R74). -/
def State.redeliver (s : State) (m : Msg) : State :=
  if m.anti then (s.countMsg m).antiArrives false m
  else s.deliver false (if s.tentHeld m then m else { m with tent := false })

/-- The task that a message or notice is for. -/
def msgDest (m : Msg) : TaskId := ⟨m.launch, if m.kind = 1 then m.swid else m.dwid⟩

/-- What waits at ingresses for a task, with its core, taken from there. -/
def State.unwait (s : State) (t : TaskId) : State × List (Nat × Msg × Nat) :=
  ({ s with cores := s.cores.map fun (c, k) => (c, { k with ingress := k.ingress.filter fun x => msgDest x.1 != t }) },
    s.cores.flatMap fun (c, k) => (k.ingress.filter fun x => msgDest x.1 == t).map fun x => (c, x))

/-- The same put back, at the core where the task now is: it follows a task that has left its core (R112, R336, R359). -/
def State.rewait (s : State) (t : TaskId) (xs : List (Nat × Msg × Nat)) : State :=
  let home := (s.task? t).bind fun t => t.place.home
  xs.foldl (fun s x => s.updCore (home.getD x.1) fun k => { k with ingress := k.ingress ++ [x.2] }) s

/-- Messages held for a task delivered again, oldest first, after `f` has seen to older ones and before what waits at its ingress, which came after
them: at placement, at the end of a TRAP, of a save or of an intake (R101, R212, R399). -/
def State.releaseAfter (s : State) (t : TaskId) (f : State → State) : State :=
  match s.task? t with
  | none => f s
  | some x =>
    let (s, late) := s.unwait t
    let s := (f s).updTask t fun y => { y with hold := [] }
    (x.hold.foldl (fun s m => s.redeliver m) s).rewait t late

def State.release (s : State) (t : TaskId) : State :=
  match s.task? t with
  | none => s
  | some x => if x.hold.isEmpty then s else s.releaseAfter t id

/-- Messages held for a work identifier delivered at its placement (R399). -/
def State.releasePlaced (s : State) (t : TaskId) : State :=
  match s.launch? t.launch with
  | none => s
  | some l =>
    let (mine, rest) := l.unplaced.partition fun m => (if m.kind = 1 then m.swid else m.dwid) == t.wid
    let s := s.updLaunch t.launch fun l => { l with unplaced := rest }
    mine.foldl (fun s m => s.redeliver m) s

/-! ## Rollback (R82, R83) -/

/-- Undo records written back, newest first (R82 step 2). -/
def State.undo (s : State) (c : Nat) (es : List Epoch) : State :=
  es.reverse.foldl (fun s e => e.undo.foldl (fun s r => s.lwrite c r.1 r.2) s) s

/-- The epochs that a straggler or anti-message of key `k` undoes: from the rollback epoch on; those before it stay (R82 step 1). -/
def splitEpochs (es : List Epoch) (k : Key) (anti : Bool) : List Epoch × List Epoch :=
  es.span fun e => if anti then e.msg.key.lt k else !k.lt e.msg.key

/-- Steps 2 to 5 of R82 over the epochs `gone` of a task whose grant lies on core `gc` and whose commit queue is on core `c`. -/
def State.undoEpochs (s : State) (t : Task) (c gc : Nat) (kept gone : List Epoch) : State :=
  match gone with
  | [] => s
  | e :: _ =>
    let s := s.undo gc gone
    let s := gone.foldl (fun s e => e.log.foldl (fun s x =>
      s.sendMsg ⟨x.vt, x.swid, x.dwid, t.id.launch, x.seq, true, false, false, 0, false, []⟩) s) s
    let s := s.updCore c fun k => { k with commitq := k.commitq.filter fun y => !(y.task == t.id && !y.tag.lt e.msg.key) }
    s.updTask t.id fun x =>
      { x with inbox := x.inbox ++ gone.map (fun e => ⟨e.msg, e.region⟩), epochs := kept, lastKey := e.prev }

/-- The twin annihilated after a rollback for an anti-message (R82 step 5, R84). -/
def State.annihilate (s : State) (t : TaskId) (k : Key) : State :=
  s.updTask t fun x => { x with inbox := delFirst (fun y => !y.msg.anti && y.msg.key == k) x.inbox }

/-- The core that holds a task's grant. -/
def State.grantCoreOf (s : State) (w : Who) : Nat := (s.grant w).1

/-- A rollback of a task in a slot: the snapshot is restored, steps 2 to 5 of R82 follow, a parked wait is withdrawn, and the thread
resumes at the restored RECV (R82, R83). -/
def State.rollThread (s : State) (w : Who) (t : Task) (k : Key) (anti : Bool) : State :=
  let (kept, gone) := splitEpochs t.epochs k anti
  match gone with
  | [] => s
  | e :: _ =>
    let x := s.at w
    let s := match x.st, x.park with
      | .park, .cell _ asid va _ => s.post [.waitWithdrawal ⟨t.id, asid, va⟩]
      | _, _ => s
    let s := s.undoEpochs t w.core (s.grantCoreOf w) kept gone
    let s := if anti then s.annihilate t.id k else s
    (s.unpark w).upd w fun x => { x with st := .run, out := none, th := e.snap }

/-- Whether a thread takes a rollback at a later boundary only: in TRAP and SAVE, and in BUSY, where its instruction completes first (R83). A wait
for the task's own history to empty, or for an entry of the commit queue, is over with the rollback, because it cannot end before the straggler is
processed (log entry 77). -/
def Slot.rollsLater (x : Slot) : Bool :=
  match x.st, x.busy with
  | .trap, _ | .save, _ => true
  | .busy, .history | .busy, .commit => false
  | .busy, _ => true
  | _, _ => false

/-- ROLLBACK: taken at the boundary of a thread in RUN or PARK, deferred in BUSY, TRAP and SAVE and for a task that is not on a core. One
merged into an earlier rollback has undone its epochs already: an anti-message then only annihilates its twin (R83, R84, R101). -/
def State.rollback (s : State) (t : TaskId) (k : Key) (anti : Bool) : State :=
  match s.task? t with
  | none => s
  | some x =>
    match x.place with
    | .on c sl =>
      if (s.slot c sl).rollsLater then s.updSlot c sl fun y => { y with deferred := y.deferred ++ [.rollback k anti] }
      else if anti && !x.epochs.any (fun e => e.msg.key == k) then s.annihilate t k
      else s.rollThread ⟨c, sl⟩ x k anti
    | .exited => s
    | _ => (s.updTask t fun x => { x with deferred := x.deferred ++ [.rollback k anti] }).makeReady x

/-! ## Wakes (R101) -/

/-- A wake given to its thread: to a parked one, deferred in TRAP and SAVE, recorded for a task elsewhere, discarded where the task no
longer waits on that cell (R83, R101). -/
def State.giveWake (s : State) (k : Wake) : State :=
  match s.task? k.task with
  | none =>
    let w : Who := ⟨k.core, k.slot⟩
    let x := s.at w
    if x.st = .park ∧ x.task = k.task then s.wakeThread w k else s
  | some t =>
    match t.place with
    | .on c sl =>
      let w : Who := ⟨c, sl⟩
      let x := s.at w
      match x.st, x.park with
      | .park, .cell _ asid va _ => if asid = k.asid ∧ va = k.va then s.wakeThread w k else s
      | .trap, _ => s.upd w fun x => { x with deferred := x.deferred ++ [.wake k] }
      | .save, _ => s.upd w fun x => { x with deferred := x.deferred ++ [.wake k] }
      | _, _ => s
    | .exited => s
    | .queued => s
    | .migrating => s.updTask t.id fun x => { x with deferred := x.deferred ++ [.wake k] }
    | _ => s.makeReady t

/-- WAKE_DELIVERY: the wake is counted as received and given to its thread (R89, R101). -/
def State.wake (s : State) (k : Wake) : State :=
  ((s.countRecv k.task.launch k.colour 1).sample 0x01 (dieOf k.core) k.core (some k.task.launch) (s.gtime - k.at_)).giveWake k

/-! ## Commit (R81, R90) -/

/-- An entry applied: the request, message or host message takes its colour and leaves; a tile command enters its engine's queue
(R81, R277). -/
def State.applyEntry (s : State) (c : Nat) (e : CommitEntry) : State :=
  match e.act with
  | .lattice r =>
    (s.countSent e.task.launch s.colour 1).post [.latticeRequestApply { r with colour := s.colour, tagVt := some e.tag.vt }]
  | .send m => s.sendMsg m
  | .host m => (s.countSent m.launch s.colour 1).post [.hostMessageWrite { m with colour := s.colour }]
  | .tile q =>
    let q := { q with held := some e.tag.vt }
    match q.op with
    | .cpyB | .cpyC | .cpyG | .cpyF => s.updCore c fun k => { k with copyq := k.copyq ++ [q] }
    | .crs | .cag | .car | .cbc => s.updCore c fun k => { k with collq := k.collq ++ [q] }
    | _ => s.updCore c fun k => { k with mxq := k.mxq ++ [q] }

/-- Whether an entry's engine has a free place. -/
def Core.hasRoom (k : Core) (e : CommitEntry) : Bool :=
  match e.act with
  | .tile q =>
    match q.op with
    | .crs | .cag | .car | .cbc => decide (k.collq.length < 4)
    | _ => decide (k.copyq.length < 8)
  | _ => true

/-- The entry to apply next among those of a launch whose tag VT is below `g`: least tag, issue order within one tag. -/
def nextEntry (launch g : Nat) : List CommitEntry → Option CommitEntry
  | [] => none
  | e :: es =>
    let r := nextEntry launch g es
    if e.task.launch = launch ∧ e.tag.vt < g then
      match r with
      | some b => if b.tag.lt e.tag then some b else some e
      | none => some e
    else r

/-- The due entries of a core applied in order. One whose engine's queue is full waits, and with it the later entries of its task, `held` (R81,
R278). -/
def State.commitRun (s : State) (c launch g : Nat) (held : List TaskId) : Nat → State
  | 0 => s
  | n + 1 =>
    match nextEntry launch g ((s.core c).commitq.filter fun e => !held.contains e.task) with
    | none => s
    | some e =>
      if (s.core c).hasRoom e then
        ((s.updCore c fun k => { k with commitq := delFirst (fun x => x == e) k.commitq }).applyEntry c e).commitRun c launch g held n
      else s.commitRun c launch g (e.task :: held) n

def State.commitCore (s : State) (c launch g : Nat) (n : Nat) : State := s.commitRun c launch g [] n

/-- Every core's due entries applied, and the epochs of the launch below GVT discarded (R81, R90). -/
def State.commitLaunch (s : State) (launch : Nat) : State :=
  let g := s.gvtOf launch
  let s := (s.cores.map Prod.fst).foldl (fun s c => s.commitCore c launch g 64) s
  { s with tasks := s.tasks.map fun t =>
      if t.id.launch = launch then { t with epochs := t.epochs.filter fun e => !decide (e.msg.vt < g) } else t }

/-! ## The Odometer's terms (R88) -/

/-- The greatest virtual time. -/
def topVt : Nat := 2 ^ 64 - 1

/-- A term pair: the GVT term and the HZN term. -/
abbrev Term := Nat × Nat

def Term.min (a b : Term) : Term := (Nat.min a.1 b.1, Nat.min a.2 b.2)

def termOf (x : Nat) : Term := (Nat.min x topVt, Nat.min x topVt)

/-- A message in an inbox or held: a positive one counts at VT and VT + 1, an anti-message at VT; inbox entries that follow a migrating task are
forwarded ones, in transit (R88, R112). -/
def msgTerm (m : Msg) : Term := if m.anti then termOf m.vt else (m.vt, Nat.min (m.vt + 1) topVt)

/-- The lvt of a codelet that a queue entry starts. -/
def codeletLvt (e : QEntry) : Option Word :=
  match e.work with
  | .codelet _ _ lvt => some lvt
  | .savedCodelet r => some r.lvt
  | _ => none

/-- Every queue entry of the package, those in transit included. -/
def State.allEntries (s : State) : List QEntry :=
  s.ready.toList.flatten ++ s.cores.flatMap (fun (_, k) => k.runq ++ k.heldLets.map Prod.snd ++ (k.slots.toList.filterMap Slot.resv)) ++
    s.agenda.flatMap fun e => match e with | .unitPlacement _ u => u.entries | _ => []

/-- Whether a task's thread counts lvt + 1: not exited, not parked in the message form of RECV (R88). -/
def State.taskTerm (s : State) (t : Task) : Term :=
  match t.place with
  | .exited => (topVt, topVt)
  | .on c sl =>
    let x := s.slot c sl
    if x.st = .park ∧ x.park = .recv then (topVt, topVt) else termOf (x.th.lvt.toNat + 1)
  | _ => if t.parked ∧ t.parkWhy = .recv then (topVt, topVt) else termOf (t.lvt.toNat + 1)

/-- The least of the terms of R88 for a launch. A notice has no virtual time (R68); an anti-message whose rollback is due or deferred still waits. -/
def State.terms (s : State) (launch : Nat) : Term :=
  let ms (xs : List Msg) : List Term := (xs.filter fun m => m.launch == launch && m.kind == 0).map msgTerm
  let transit : List Term := s.agenda.filterMap fun e => match e with
    | .messageArrival m | .antiMessageArrival m => if m.launch = launch ∧ m.kind = 0 then some (termOf m.vt) else none
    | .rollback t k true => if t.launch = launch then some (termOf k.vt) else none
    | _ => none
  let ingress : List Term := s.cores.flatMap fun (_, k) => k.ingress.filterMap fun (m, _) =>
    if m.launch = launch ∧ m.kind = 0 then some (termOf m.vt) else none
  let antis (ds : List Deferred) : List Term := ds.filterMap fun d => match d with | .rollback k true => some (termOf k.vt) | _ => none
  let boxes := s.tasks.flatMap fun t => if t.id.launch = launch then
      (if t.place = .migrating then t.inbox.map (fun x => termOf x.msg.vt) else ms (t.inbox.map InMsg.msg)) ++ ms t.hold ++ antis t.deferred else []
  let unplaced := match s.launch? launch with | some l => ms l.unplaced | none => []
  let commits : List Term := s.cores.flatMap fun (_, k) => k.commitq.filterMap fun e => match e.act with
    | .send m => if m.launch = launch then some (termOf m.vt) else none
    | .host m => if m.launch = launch then some (termOf m.vt) else none
    | _ => none
  let slots := s.cores.flatMap fun (_, k) => k.slots.toList.flatMap fun x => if x.launched ∧ x.task.launch = launch then antis x.deferred else []
  let moving : List Term := s.cores.flatMap fun (_, k) => k.intake.filterMap fun e =>
    if e.task.launch = launch then e.let_.map fun r => termOf (r.lvt.toNat + 1) else none
  let tasks := s.tasks.filterMap fun t => if t.id.launch = launch then some (s.taskTerm t) else none
  let lets : List Term := s.cores.flatMap fun (_, k) => k.slots.toList.filterMap fun x =>
    if x.st ≠ .empty ∧ x.st ≠ .reserved ∧ x.launched ∧ x.th.codelet ∧ x.task.launch = launch then some (termOf (x.th.lvt.toNat + 1)) else none
  let queued : List Term := s.allEntries.filterMap fun e =>
    if e.task.launch = launch then (codeletLvt e).map fun l => termOf (l.toNat + 1) else none
  let arms : List Term := s.cores.flatMap fun (_, k) => (k.waiters ++ k.spilled).filterMap fun x =>
    if x.task.launch = launch then x.arm.map fun a => termOf (a.2.2.2.toNat + 1) else none
  (transit ++ ingress ++ boxes ++ unplaced ++ commits ++ slots ++ moving ++ tasks ++ lets ++ queued ++ arms).foldl Term.min (topVt, topVt)

/-- Whether a task that migrates or waits in CMTW holds nothing that GVT has not passed: GVT > lvt, no epoch, no commit-queue entry
(R86, R216). The history of a stopped launch is discarded, and its GVT moves no more (R100). -/
def State.clear (s : State) (w : Who) : Bool :=
  s.stopped (s.at w).task.launch || (!s.history w && decide ((s.th w).lvt.toNat < s.gvtOf (s.at w).task.launch))

end Sys2Proof.Machine
end

