-- ==== Sys2Proof/Machine/Context.lean ====
section
/-! DEFINITION. Context images and the saves and loads that use them: the image's layout and its refusal, the thread-context cache,
save areas, swapped-out tasks, ends and discards, and the load of an image into a slot (R27, R28, R100 to R109, R114, R171, R373,
R374). -/

namespace Sys2Proof.Machine

/-! ## The context image (R27, Tables 1.7 to 1.10) -/

/-- Length of an image in bytes, by the generation of the core that writes it. -/
def imgLen (k8 : Bool) : Nat := if k8 then 3072 else 2048

/-- A queue-binding word (Table 1.9). -/
def bindWord (b : Binding) : Nat := b.cb.val + 32 * b2n b.push + 64 * b2n b.bound + 256 * (b.core % 2 ^ 11)

/-- A shape record in the image (Table 1.10). -/
def Shape.bytes (h : Shape) : List Byte :=
  bytesOf 8 h.base.toNat ++ (h.ext.toList ++ h.str.toList ++ h.cur.toList).flatMap fun x => bytesOf 4 x.toNat

/-- What an image says of its origin. -/
structure ImgHead where
  core : Nat
  slot : Fin 16
  task : TaskId
  asid : Nat
  why : Nat
  parked : Bool
  migr : Bool

/-- The 32-byte header (Table 1.8), with VALID = 1. -/
def ImgHead.bytes (h : ImgHead) (t : Thread) : List Byte :=
  let k8 := isK8 h.core
  bytesOf 32 (1 + (if k8 then 4 else 2) + 2 ^ 8 + imgLen k8 / 32 * 2 ^ 16 + h.task.launch % 2 ^ 12 * 2 ^ 32 + h.asid % 2 ^ 8 * 2 ^ 44
    + h.slot.val * 2 ^ 52 + h.task.wid.toNat * 2 ^ 64 + h.core % 2 ^ 11 * 2 ^ 128 + h.why % 16 * 2 ^ 144 + b2n t.mpin * 2 ^ 192
    + imodeCode t.imode * 2 ^ 193 + b2n t.codelet * 2 ^ 195 + b2n h.parked * 2 ^ 196 + b2n h.migr * 2 ^ 197)

/-- Whether general register `n` is bound. -/
def Thread.isBound (t : Thread) (n : Fin 32) : Bool := (t.binding n).isSome

/-- The image body from offset 0x020, with PC = `pc` (Table 1.7). -/
def imgBody (k8 : Bool) (t : Thread) (pc : Word) : List Byte :=
  let vb := if k8 then 128 else 64
  (List.finRange 32).flatMap (fun n => bytesOf 8 (if n = 0 || t.isBound n then 0 else t.g[n].toNat))
  ++ bytesOf 8 (pc.toNat % 2 ^ 54) ++ bytesOf 8 t.predWord.toNat ++ bytesOf 8 t.vl.toNat ++ bytesOf 8 t.rcnt.toNat
  ++ t.fmt.toList.flatMap (fun x => bytesOf 8 x.toNat) ++ t.fsc.toList.flatMap (fun x => bytesOf 8 x.toNat)
  ++ bytesOf 8 t.seed.toNat ++ bytesOf 8 t.lvt.toNat ++ bytesOf 8 t.vtwin.toNat ++ bytesOf 8 t.stwb.toNat ++ bytesOf 8 t.stwl.toNat
  ++ bytesOf 8 t.widl.toNat ++ t.bind.toList.flatMap (fun b => bytesOf 4 (bindWord b)) ++ t.sh.toList.flatMap Shape.bytes
  ++ (List.finRange 8).flatMap (fun n => bytesOf (vb / 8) (if n = 0 then 2 ^ vb - 1 else (t.m.get n).toNat))
  ++ List.replicate (if k8 then 0 else 64) 0
  ++ t.v.toList.flatMap (fun x => bytesOf vb x.toNat)

/-- The context image of a thread. -/
def image (h : ImgHead) (t : Thread) (pc : Word) : List Byte := h.bytes t ++ imgBody (isK8 h.core) t pc

/-- A field of an image: `n` bytes at an offset, as an unsigned integer. -/
def imgN (img : List Byte) (off n : Nat) : Nat := natOf ((img.drop off).take n)

/-- A shape record read from an image. -/
def imgShape (img : List Byte) (off : Nat) : Shape :=
  let ws (o : Nat) : Vector (BitVec 32) 4 := Vector.ofFn fun k => BitVec.ofNat 32 (imgN img (off + o + 4 * k.val) 4)
  { base := BitVec.ofNat 64 (imgN img off 8), ext := ws 8, str := ws 24, cur := ws 40 }

/-- Whether a shape record's cursor is admitted (R28). -/
def Shape.cursorOk (h : Shape) : Bool :=
  if h.ext.toList.all fun e => e != 0 then (h.cur.toList.zip h.ext.toList).all fun (c, e) => decide (c.toNat < e.toNat)
  else h.cur.toList.all fun c => c == 0

/-- What follows a thread of its bindings beside its image. -/
def Thread.bindRec (t : Thread) : List (Fin 16 × Nat) := t.bind.toList.map fun b => (b.pred, b.src)

/-- A queue binding read from an image, with the end-of-stream predicate and the binding core that follow the thread. -/
def imgBind (img : List Byte) (pred : Fin 16 × Nat) (k : Nat) : Binding :=
  let x := imgN img (0x1B0 + 4 * k) 4
  { cb := Fin.ofNat 32 x, push := bitAt x 5, bound := bitAt x 6, core := bits x 18 8, pred := pred.1, src := pred.2 }

/-- Whether a core of a generation loads an image (R28, R114). -/
def imageOk (k8 : Bool) (img : List Byte) : Bool :=
  let h := imgN img 0 32
  let src8 := bits h 2 1 == 2
  let res (off lo : Nat) : Bool := imgN img off 8 / 2 ^ lo == 0
  bitAt h 0 && (bits h 2 1 == 1 || bits h 2 1 == 2) && bits h 15 8 == 1 && bits h 31 16 == (if src8 then 96 else 64)
    && decide (bits h 147 144 ≤ 3) && decide (bits h 194 193 ≤ 2)
    && bits h 7 3 == 0 && bits h 63 56 == 0 && bits h 143 139 == 0 && bits h 191 148 == 0 && bits h 255 198 == 0
    && res 0x120 54 && res 0x128 16 && bits (imgN img 0x130 8) 31 14 == 0 && bits (imgN img 0x130 8) 63 60 == 0 && res 0x1A8 39
    && ((List.range 4).all fun k => let x := imgN img (0x1B0 + 4 * k) 4; !bitAt x 7 && x / 2 ^ 19 == 0)
    && (src8 || imgN img 0x3C0 64 == 0)
    && ((List.range 8).all fun k => (imgShape img (0x1C0 + 56 * k)).cursorOk)
    && (k8 || !src8 || bitAt h 197)

/-- The thread of an image on a core of a generation: a K7 image leaves the upper halves zero on K8, a K8 image loses them on K7 (R114).
`preds` is what follows the thread of its bindings. -/
def imageThread (k8 : Bool) (img : List Byte) (preds : List (Fin 16 × Nat)) : Thread :=
  let h := imgN img 0 32
  let vb := if bits h 2 1 = 2 then 128 else 64
  let keep := if k8 then vb else min vb 64
  let w8 (off : Nat) : Word := BitVec.ofNat 64 (imgN img off 8)
  let bind : Vector Binding 4 := Vector.ofFn fun k => imgBind img (preds.getD k.val (0, 0)) k.val
  { g := Vector.ofFn fun n => if n.val = 0 || (28 ≤ n.val && (bind.toList.getD (n.val - 28) Binding.none).bound) then 0 else w8 (0x020 + 8 * n.val)
    p := BitVec.ofNat 16 (imgN img 0x128 2)
    pc := w8 0x120
    v := Vector.ofFn fun n => BitVec.ofNat 1024 (imgN img (0x400 + vb * n.val) keep)
    m := Vector.ofFn fun n => BitVec.ofNat 128 (imgN img (0x380 + vb / 8 * n.val) (keep / 8))
    sh := Vector.ofFn fun n => imgShape img (0x1C0 + 56 * n.val)
    vl := w8 0x130
    rcnt := w8 0x138
    fmt := Vector.ofFn fun n => w8 (0x140 + 8 * n.val)
    fsc := Vector.ofFn fun n => w8 (0x160 + 8 * n.val)
    seed := w8 0x180
    lvt := w8 0x188
    vtwin := w8 0x190
    stwb := w8 0x198
    stwl := w8 0x1A0
    widl := w8 0x1A8
    mpin := bitAt h 192
    imode := imodeOf (bits h 194 193)
    codelet := bitAt h 195
    bind := bind }

/-- PARKED of an image. -/
def imgParked (img : List Byte) : Bool := bitAt (imgN img 0 32) 196

/-! ## Slots and ends -/

/-- A slot emptied: its bank, its remembered home and nothing else stand (R40, R376, Table 8.9). -/
def Slot.emptied (x : Slot) : Slot :=
  { Slot.reset with cause := x.cause, epc := x.epc, tval := x.tval, quantum := x.quantum, grbase := x.grbase, grlen := x.grlen,
                    lfpc := x.lfpc, lastHome := x.lastHome, oldGrants := x.oldGrants }

/-- A save area returned to its launch's pool (R325). -/
def State.freeArea (s : State) (launch : Nat) (a : Option Nat) : State :=
  match a with
  | some n => s.updLaunch launch fun l => { l with areas := l.areas.erase n }
  | none => s

/-- The FREE event of an ended task or codelet: slot, and the base of a grant that it held, on whatever core (R371, R373). -/
def State.postFree (s : State) (c : Nat) (slot : Nat) (grant : Option (Nat × Nat × Nat)) : State :=
  let s := s.postWake c 0x06 (match grant with
    | some (_, b, _) => slot + 16 + b % 2 ^ 20 * 2 ^ 16
    | none => slot)
  s.updCore c fun k => { k with grantHold := none }

/-- The recorded grant of the thread in a slot: core, base and length, where it holds one (R326, R372). -/
def State.grantOf (s : State) (w : Who) : Option (Nat × Nat × Nat) :=
  let x := s.at w
  if x.isTask then (s.task? x.task).bind Task.grant
  else if x.moved || x.grantRec.isSome then x.grantRec
  else if x.grlen = 0 then none else some (w.core, x.grbase.toNat, x.grlen.toNat)

/-- A swapped-out task of a stopped launch is discarded: READY where the firmware holds it and none was posted, FREE, its area back to the
pool, its inbox and history dropped (R100, R325, R373, R374). -/
def State.discardTask (s : State) (t : Task) : State :=
  let s := match t.place with
    | .held c desc _ => if t.ready then s else s.postWake c 0x07 desc.toNat
    | _ => s
  let s := match t.place.home with
    | some c => s.postFree c 0xF t.grant
    | none => s
  let s := match t.place.home with
    | some c => s.updCore c fun k => { k with cache := k.cache.filter fun e => e.task != t.id || e.let_.isSome }
    | none => s
  let s := s.freeArea t.id.launch t.area
  s.updTask t.id fun x =>
    { x with place := .exited, inbox := [], notices := [], hold := [], epochs := [], refused := [], deferred := [], area := none }

/-! ## The thread-context cache (R103) -/

/-- Entries in use: images, and entries reserved with a migration intake (R375). -/
def Core.cacheUsed (k : Core) : Nat := k.cache.length + k.intake.length

/-- The entry to evict: the least recently filled one that is not save-incomplete (R103). -/
def Core.victim (k : Core) : Option CtxEntry := k.cache.find? fun e => !e.incomplete

/-- Whether every entry is save-incomplete, so that no save starts (R103, R105). -/
def Core.blocked (k : Core) : Bool := decide (8 ≤ k.cacheUsed) && k.cache.all CtxEntry.incomplete && k.intake.isEmpty

/-- The save area of number `n` of a launch (R325). -/
def Launch.areaVa (l : Launch) (n : Nat) : Nat := hSavebase l.h + n * hSavelen l.h * 32

/-- Where `n` bytes of a save area lie: the core's local window, never translated, or a pinned page (R104, R105). -/
def State.savePlace (s : State) (c asid va n : Nat) : M Loc := do
  failIf (decide (2 ^ 54 ≤ va)) 0x09 (BitVec.ofNat 64 va)
  if inLocal va then
    failIf (bits va 47 20 != 0 || decide (2 ^ 20 < va % 2 ^ 20 + n)) 0x09 (BitVec.ofNat 64 va)
    .ok (.loc c (va % 2 ^ 20))
  else
    let x ← s.translate asid va .store
    s.kindCheck asid 0 true .store x.pte va
    failIf (!ptePin x.pte) 0x09 (BitVec.ofNat 64 va)
    if !reaches x.pa then machineCheck 0x09 x.pa else .ok (.mem x)

/-- Granules written in ascending address; the address of the first that fails stops the save (R105 step 3). -/
def State.saveGranules (s : State) (c asid va : Nat) (bs : List Byte) : Nat → State × Option Nat
  | 0 => (s, none)
  | n + 1 =>
    if bs.isEmpty then (s, none)
    else match s.savePlace c asid va 32 with
      | .ok l => (s.writeAt l (bs.take 32)).saveGranules c asid (va + 32) (bs.drop 32) n
      | .error e => (s.logWalk e, some va)

/-- Steps 3 and 4 of R105: the body from offset 0x020, then the header with VALID = 1. -/
def State.saveBytes (s : State) (c asid va : Nat) (bs : List Byte) : State × Option Nat :=
  match s.saveGranules c asid (va + 32) (bs.drop 32) (bs.length / 32 + 1) with
  | (s, some a) => (s, some a)
  | (s, none) => s.saveGranules c asid va (bs.take 32) 1

/-- Save area and address space of an entry that is written back to its task's area (R103). -/
def State.homeArea (s : State) (e : CtxEntry) : Option (Nat × Nat) :=
  match s.launch? e.task.launch with
  | none => none
  | some l =>
    let a := match e.let_ with
      | some r => r.area
      | none => (s.task? e.task).bind Task.area
    a.map fun n => (l.areaVa n, l.asid)

/-- The error record of a stopped save, and its machine check with SUB 0x04 (R105, R357). -/
def State.saveFailed (s : State) (c slot launch addr : Nat) : State := s.logError 0x10 0x04 c slot 0 0 launch (BitVec.ofNat 64 addr)

/-- An entry replaced by its save-incomplete form. -/
def markIncomplete (e : CtxEntry) (k : Core) : Core :=
  { k with cache := updFirst (fun x => x == e) (fun x => { x with incomplete := true }) k.cache }

/-- CONTEXT_CACHE_WRITEBACK: the victim is written to its task's save area and its entry freed; a failing granule leaves it
save-incomplete (R103, R105). -/
def State.writeBack (s : State) (c : Nat) : State :=
  match (s.core c).victim with
  | none => s
  | some e =>
    match s.homeArea e with
    | none => s.updCore c fun k => { k with cache := k.cache.erase e }
    | some (va, asid) =>
      match s.saveBytes c asid va (e.img ++ e.tail) with
      | (s, none) => s.updCore c fun k => { k with cache := k.cache.erase e }
      | (s, some a) => (s.updCore c (markIncomplete e)).saveFailed c e.slot.val e.task.launch a

/-! ## Saving a thread (R102, R103, R105) -/

/-- A save begins: the slot enters SAVE, and its completion is in transit behind the write-back it needs. -/
def State.beginSave (s : State) (w : Who) (why : Nat) (area desc : Word) : State :=
  let k := s.core w.core
  let s := (s.unpark w).upd w fun x => { x with saveAt := some (area, desc, why), fromPark := x.fromPark || x.st == .park, st := .save,
                                                epc := if x.st == .trap then x.epc else x.th.pc }
  s.post ((if 8 ≤ k.cacheUsed then [.contextCacheWriteback w.core] else []) ++ [.saveCompletion w.core w.slot])

/-- What follows a codelet out of a slot. -/
def State.letRec (s : State) (w : Who) : LetRec :=
  let x := s.at w
  ⟨x.area, x.th.lvt, x.th.bindRec, s.grantOf w, x.migrAt, x.capDie⟩

/-- The image of the thread in a slot that is in SAVE or in TRAP: PC is its epc (R95, R112). -/
def State.imageIn (s : State) (w : Who) (why : Nat) (migr : Bool) : List Byte :=
  let x := s.at w
  image ⟨w.core, w.slot, x.task, x.asid, why, x.fromPark, migr⟩ x.th x.epc

/-- The context-cache entry of the thread in a slot. -/
def State.ctxEntry (s : State) (w : Who) (why : Nat) (dest : Option (Word × Word × Nat)) (tail : List Byte) : CtxEntry :=
  let x := s.at w
  { task := x.task, let_ := if x.th.codelet then some (s.letRec w) else none, prio := x.prio,
    img := s.imageIn w why (why = 2 && (match x.migrTo with | some t => decide (t < 4096) | none => false)),
    slot := w.slot, why := why, incomplete := false, dest := dest, tail := tail, target := x.migrTo, checks := [], colour := s.colour }

/-- A task's directory entry takes over what its slot held: pending faults, deferred items, what it waits for (R101, R161, R195). -/
def State.stow (s : State) (w : Who) (pl : Place) : State :=
  let x := s.at w
  let wakes := x.deferred.any fun d => match d with | .wake _ => true | _ => false
  let rest := x.deferred.filter fun d => match d with | .wake _ => false | _ => true
  let s := if x.th.codelet then s else s.updTask x.task fun t =>
    { t with place := pl, parked := x.fromPark, lvt := x.th.lvt, vtwin := x.th.vtwin, parkWhy := x.park, ready := false,
             preds := x.th.bindRec, refused := t.refused ++ x.refused, posted := t.posted ++ x.posted,
             deferred := t.deferred ++ rest ++ (if x.dstop then [.stop] else []), mcheck := x.mcheck, capDie := x.capDie, migrAt := x.migrAt }
  let s := s.upd w Slot.emptied
  if wakes then (match s.task? x.task with | some t => s.makeReady t | none => s) else s

/-- A task that has become swapped out: discarded where its launch is stopped; its held messages follow it; deferred rollbacks, and messages
its parking instruction accepts, make it ready (R100, R101, R106). -/
def State.swappedOut (s : State) (id : TaskId) : State :=
  if s.stopped id.launch then (match s.task? id with | some t => s.discardTask t | none => s)
  else
    let s := s.release id
    match s.task? id with
    | none => s
    | some t => if !t.deferred.isEmpty || s.outReady t then s.makeReady t else s

/-- A codelet's queue entry after it has left its slot. -/
def savedLetEntry (task : TaskId) (r : LetRec) (prio : Nat) : QEntry :=
  { task := task, work := .savedCodelet r, prio := prio, passes := 0, mode := 0, die := 0, groups := 0, bound := true, cluster := none,
    expl := false }

/-- A pre-emption save done: the image stands in the cache; a task that was not parked is queued on its core (R102, R103, R324). -/
def State.cacheSaved (s : State) (w : Who) : State :=
  let x := s.at w
  let e := s.ctxEntry w 0 none []
  let s := s.updCore w.core fun k => { k with cache := k.cache ++ [e] }
  let s := s.stow w (.out w.core)
  match e.let_ with
  | some r => if s.stopped x.task.launch then (s.freeArea x.task.launch r.area).updCore w.core fun k => { k with cache := k.cache.erase e }
              else s.enqueue w.core (savedLetEntry x.task r x.prio)
  | none =>
    let s := s.swappedOut x.task
    match s.task? x.task with
    | some t => if !t.parked && t.place == .out w.core && !x.fromPark then s.enqueue w.core (savedEntry t) else s
    | none => s

/-- The die and affinity of a migrated thread's ready-queue entry: the capable dies for an absent group, the named die or the named core's
die for MIGR (R113, R225). -/
def migrEntry (e : QEntry) (target : Option Nat) : QEntry :=
  match target with
  | none => e
  | some t =>
    if 4096 ≤ t then { e with mode := 2, groups := 2 ^ (t - 4096), bound := false }
    else { e with mode := 1, die := if 2048 ≤ t then t - 2048 else dieOf t, bound := true }

/-- A save to memory done (R105 step 4): CTXSV leaves the task with the firmware, a migration queues it on its target die, a reclaim leaves it
to RESTORE. `die` is the target die of a migration. -/
def State.areaSaved (s : State) (w : Who) (e : CtxEntry) (die : Nat) : State :=
  let x := s.at w
  match e.why with
  | 1 =>
    let (area, desc) := match e.dest with | some (a, d, _) => (a, d) | none => (0, 0)
    let s := s.stow w (.held w.core desc area)
    match e.let_ with
    | some r => if s.stopped x.task.launch then s.freeArea x.task.launch r.area
                else s.updCore w.core fun k => { k with heldLets := k.heldLets ++ [(area, savedLetEntry x.task r x.prio)] }
    | none => s.swappedOut x.task
  | 2 =>
    let s := s.stow w (.out w.core)
    let s := match e.let_ with | some _ => s | none => s.swappedOut x.task
    if s.stopped x.task.launch then (match e.let_ with | some r => s.freeArea x.task.launch r.area | none => s)
    else
      let q := match e.let_ with
        | some r => savedLetEntry x.task r x.prio
        | none => match s.task? x.task with
          | some t => savedEntry t
          | none => savedLetEntry x.task ⟨none, 0, [], none, none, none⟩ 0
      s.pushReady die (migrEntry q e.target)
  | _ => (s.stow w (.reclaimed w.core)).swappedOut x.task

/-! ## Targets of a migration (R113, R361) -/

/-- Hop distance between two compute dies (R361). -/
def hops (a b : Nat) : Nat := if a = b then 0 else if (a + 1) % 8 = b ∨ (b + 1) % 8 = a then 1 else 2

/-- The dies of a set in order of hop distance from a die, ties to the lower number. -/
def diesByHops (src : Nat) (ok : Nat → Bool) : List Nat :=
  (List.range 3).flatMap fun h => (List.range 8).filter fun d => ok d && hops src d == h

/-- The candidate dies of the Derailleur for a thread, nearest first (R113, R225). -/
def State.targetDies (s : State) (w : Who) : List Nat :=
  let x := s.at w
  match s.launch? x.task.launch, x.migrTo with
  | some l, some t =>
    if 4096 ≤ t then diesByHops (dieOf w.core) fun d => bitAt l.dieset d && bitAt (dieCaps d) (t - 4096)
    else if 2048 ≤ t then [t - 2048] else [dieOf t]
  | _, _ => []

/-! ## Completion of a save -/

/-- CTXSV completes with its status in g(d) (R231). -/
def State.ctxsvDone (s : State) (c status : Nat) : State :=
  let w : Who := ⟨c, 15⟩
  match (s.at w).out with
  | some (.ctxsv d a) =>
    if (s.at w).st = .busy ∧ (s.at w).busy = .save then (s.writeG w d (BitVec.ofNat 64 status)).retireVar w (.ctxsv d a) else s
  | _ => s

/-- The driver's RECLAIM completes with its status (Table 15.6). -/
def State.driverDone (s : State) (status : Nat) : State :=
  if s.regs.dcbusy then { s with regs := { s.regs with dcbusy := false, dcstatus := status } } else s

/-- The core's descriptors whose BASE lies in a range (R108). -/
def Cb.inRange (b : Cb) (base len : Nat) : Bool := decide (base ≤ b.base ∧ b.base < base + len)

/-- A descriptor's 24 bytes (Table 2.7). -/
def Cb.bytes24 (b : Cb) : List Byte :=
  bytesOf 24 (b.base % 2 ^ 20 + b.slotsz % 2 ^ 12 * 2 ^ 20 + b.nslotm1 % 2 ^ 8 * 2 ^ 32 + b.pptr % 2 ^ 8 * 2 ^ 40 + b.cptr % 2 ^ 8 * 2 ^ 48
    + b.filled % 2 ^ 9 * 2 ^ 64 + b.pkind % 4 * 2 ^ 73 + b2n b.eos * 2 ^ 75 + b2n b.en * 2 ^ 76 + b.srccore % 2 ^ 11 * 2 ^ 77
    + b.haddr.toNat % 2 ^ 54 * 2 ^ 128)

/-- The part of a thread's recorded grant that lies on a core: its base and length; nothing, (0, 0), where it lies elsewhere (R108). -/
def grantOn (c : Nat) : Option (Nat × Nat × Nat) → Nat × Nat
  | some (gc, b, l) => if gc = c then (b, l) else (0, 0)
  | none => (0, 0)

/-- The records of a reclaim after the image: grant record, descriptors, grant contents (Tables 4.8, 4.9). -/
def State.reclaimTail (s : State) (c base len : Nat) : List Byte :=
  let k := s.core c
  let mask := (List.finRange 32).foldl (fun m n => if k.cbs[n].inRange base len then m + 2 ^ n.val else m) 0
  bytesOf 32 (base % 2 ^ 20 + len % 2 ^ 21 * 2 ^ 20 + mask * 2 ^ 64)
    ++ (List.finRange 32).flatMap (fun n => if k.cbs[n].inRange base len then k.cbs[n].bytes24 else List.replicate 24 0)
    ++ s.lread c base len

/-- The reclaimed grant and its descriptors cleared; which task used a buffer, and the positions in a partly popped or pushed slot, stay with
it for the restore (R108 step 3). -/
def State.clearGrant (s : State) (c base len : Nat) : State :=
  s.updCore c fun k =>
    { k with lmem := Mem.sets k.lmem base (List.replicate len 0),
             cbs := k.cbs.map fun b => if b.inRange base len then { Cb.reset with reclaimed := b.en, user := b.user, popPos := b.popPos, pushPos := b.pushPos }
                              else b }

/-- The outcome of a save to memory, whole or stopped at a granule. A RECLAIM whose save stops there leaves BUSY, so that SAVERETRY can be
issued, with a free value as STATUS, for which the spec has no code. -/
def State.areaTried (s : State) (w : Who) (e : CtxEntry) (r : State × Option Nat) : State :=
  match r with
  | (s', none) =>
    let s' := s'.updCore w.core fun k => { k with cache := k.cache.filter fun x => !(x.slot == w.slot && x.incomplete && x.dest.isSome) }
    let g := grantOn w.core (s.grantOf w)
    let s' := if e.why = 3 then s'.clearGrant w.core g.1 g.2 else s'
    let s' := s'.areaSaved w e ((s.targetDies w).headD (dieOf w.core))
    if e.why = 1 then s'.ctxsvDone w.core 0 else if e.why = 3 then s'.driverDone 0 else s'
  | (s', some a) =>
    let s' := s'.saveFailed w.core w.slot.val e.task.launch a
    let s' := if (s'.core w.core).cache.any fun x => x.slot == w.slot && x.incomplete && x.dest.isSome then s'
      else s'.updCore w.core fun k => { k with cache := k.cache ++ [{ e with incomplete := true }] }
    if e.why = 1 then
      ((s'.upd w fun x => { x with cause := causeWord 0x20 true 4, tval := BitVec.ofNat 64 a }).postEvent w.core (.trap w.slot) true).ctxsvDone w.core 3
    else if e.why = 3 then (let (v, s') := s'.draw; s'.driverDone (v.toNat % 256))
    else s'

/-- The destination of a save to memory: the area, and the address space it is translated in: ASID 0 for CTXSV (R369), else the launch's. -/
def State.saveDest (s : State) (w : Who) (area desc : Word) (why : Nat) : Word × Word × Nat :=
  (area, desc, if why = 1 then 0 else (s.at w).asid)

/-- SAVE_COMPLETION: with an entry free in the context cache the image is formed and stored or written out; else the write-back comes
first (R103, R105). A slot with a save-incomplete entry waits for SAVERETRY. -/
def State.saveDone (s : State) (w : Who) : State :=
  let x := s.at w
  let k := s.core w.core
  match x.st, x.saveAt with
  | .save, some (area, desc, why) =>
    if k.cache.any fun e => e.slot == w.slot && e.incomplete && e.dest.isSome then s
    else if 8 ≤ k.cacheUsed then
      if k.victim.isSome then s.post [.contextCacheWriteback w.core, .saveCompletion w.core w.slot] else s
    else if why = 0 then s.cacheSaved w
    else
      let g := grantOn w.core (s.grantOf w)
      let tail := if why = 3 then s.reclaimTail w.core g.1 g.2 else []
      let e := s.ctxEntry w why (some (s.saveDest w area desc why)) tail
      s.areaTried w e (s.saveBytes w.core (s.saveDest w area desc why).2.2 area.toNat (e.img ++ e.tail))
  | _, _ => s

/-- Whether a slot's save can go on at its turn. -/
def State.saveDue (s : State) (w : Who) : Bool :=
  let k := s.core w.core
  (s.at w).st == .save && !(k.cache.any fun e => e.slot == w.slot && e.incomplete && e.dest.isSome)
    && (decide (k.cacheUsed < 8) || k.victim.isSome)

/-- Steps 3 and 4 of R105 for a swapped-out task that is reclaimed, from its context-cache entry, which names slot 15: no user slot. A granule
that fails leaves the entry save-incomplete, and the command ends with a free value as STATUS. -/
def State.reclaimOutSave (s : State) (c : Nat) (e : CtxEntry) (va asid : Nat) : State :=
  match s.saveBytes c asid va (e.img ++ e.tail) with
  | (s, some a) => let (v, s) := (s.saveFailed c e.slot.val e.task.launch a).draw; s.driverDone (v.toNat % 256)
  | (s, none) =>
    let g := grantOn c ((s.task? e.task).bind Task.grant)
    ((s.clearGrant c g.1 g.2).updCore c fun k => { k with cache := k.cache.erase e }).driverDone 0

/-- SAVERETRY of one save-incomplete entry: the save restarts at step 3 of R105; a write-back's entry is freed when it succeeds. -/
def State.retrySave (s : State) (c : Nat) (e : CtxEntry) : State :=
  match e.dest with
  | some (area, _, asid) =>
    let w : Who := ⟨c, e.slot⟩
    if e.slot = 15 then s.reclaimOutSave c e area.toNat asid
    else s.areaTried w e (s.saveBytes c asid area.toNat (e.img ++ e.tail))
  | none =>
    match s.homeArea e with
    | none => s.updCore c fun k => { k with cache := k.cache.erase e }
    | some (va, asid) =>
      match s.saveBytes c asid va (e.img ++ e.tail) with
      | (s, none) => s.updCore c fun k => { k with cache := k.cache.erase e }
      | (s, some a) => s.saveFailed c e.slot.val e.task.launch a

/-! ## Format records and layouts kept with a core (R122, R171) -/

/-- The bytes of a format record, read as the thread's own load, from a FROZEN page or a FROZEN arena's page (R122). -/
def State.recordBytes (s : State) (asid owner : Nat) (p : Word) : M (List Byte) := do
  failIf (p.toNat % 32 != 0) 0x05 p
  failIf (decide (2 ^ 54 ≤ p.toNat) || inLocal p.toNat) 0x09 p
  let x ← s.translate asid p.toNat .load
  s.kindCheck asid owner false .load x.pte p.toNat
  failIf (!s.frozenPage asid p.toNat x.pte) 0x0B p
  s.checkedRead x.pa 32

/-- A format record as a core keeps it: none for an unused or a refused shadow (R122). -/
def State.record (s : State) (asid owner : Nat) (p : Word) : Option Nat :=
  if p = 0 then none
  else match s.recordBytes asid owner p with
    | .ok bs => if recBad (natOf bs) then none else some (natOf bs)
    | .error _ => none

def State.records (s : State) (asid owner : Nat) (fmt : Vector Word 4) : Vector (Option Nat) 4 := fmt.map (s.record asid owner)

/-- The error records of the reads of a thread's format records (R354). -/
def State.logRecords (s : State) (asid owner : Nat) (fmt : Vector Word 4) : State :=
  fmt.toList.foldl (fun (s : State) p => if p = 0 then s else match s.recordBytes asid owner p with | .ok _ => s | .error e => s.logWalk e) s

/-- `n` bytes of frozen data of an address space, read by the device for itself. -/
def State.frozenRead (s : State) (asid va n : Nat) : M (List Byte) := do
  failIf (decide (2 ^ 54 ≤ va) || inLocal va) 0x09 (BitVec.ofNat 64 va)
  let x ← s.translate asid va .load
  failIf (!(pteKind x.pte == kFrozen)) 0x0B (BitVec.ofNat 64 va)
  s.checkedRead x.pa n

/-- The error record of a read that the package makes for itself (R354). -/
def State.logRead (s : State) (r : M α) : State := match r with | .ok _ => s | .error e => s.logWalk e

/-- The layout image of a launch as a core's table holds it: descriptor k of layout n at byte 16n + 2k (R171). -/
def State.layoutImage (s : State) (l : Launch) : M (Vector (BitVec 16) 64) := do
  let bs ← s.frozenRead l.asid (hLayout l.h) 128
  .ok (Vector.ofFn fun i => BitVec.ofNat 16 (natOf ((bs.drop (2 * i.val)).take 2)))

/-- Whether a core's field-layout table holds the image of a launch: the one loaded for it, or one of the same contents (R171). -/
def State.holdsLayout (s : State) (c : Nat) (l : Launch) : Bool :=
  let k := s.core c
  (k.layoutOf == some l.num && !k.layoutDirty)
    || (match s.layoutImage l with | .ok t => decide (t = k.layout) | .error _ => false)

/-- Whether a core may take a thread of a launch by its field-layout table: it names no layouts, the table holds its image, or the table holds the
image of no other launch of which a thread holds a slot (R171). -/
def State.layoutFits (s : State) (c launch : Nat) : Bool :=
  match s.launch? launch with
  | none => false
  | some l =>
    decide (hLayout l.h = 0) || s.holdsLayout c l
      || !((s.core c).slots.toList.any fun x => x.launched && x.st != .empty && x.task.launch != launch
            && (match s.launch? x.task.launch with
                | some o => decide (hLayout o.h ≠ 0) && ((s.core c).layoutOf == some o.num || s.holdsLayout c o)
                | none => false))

/-- The launch's layouts loaded into a core's table where it does not hold them (R171). The image was read when the launch was accepted; where it
can no longer be read the table stays as it is, and the thread is placed (log entry 79). -/
def State.loadLayout (s : State) (c launch : Nat) : State :=
  match s.launch? launch with
  | none => s
  | some l =>
    if hLayout l.h = 0 || s.holdsLayout c l then s
    else match s.layoutImage l with
      | .ok t => s.updCore c fun k => { k with layout := t, layoutOf := some launch, layoutDirty := false }
      | .error e => s.logWalk e

/-! ## Loading an image into a slot (R28, R83, R101, R114, R232) -/

/-- Inbox entries of a task that comes to a core from elsewhere: each takes an entry there, or waits at the ingress, in transit, as one that
arrives does (R112, R359). -/
def State.rehome (s : State) (t : Task) (c : Nat) : State :=
  if t.place.home = some c then s
  else
    let s := s.updTask t.id fun y => { y with inbox := [], notices := [] }
    (t.inbox ++ t.notices).foldl (fun (s : State) x =>
      ((s.countSent t.id.launch s.colour 1).countRecv t.id.launch s.colour 1).putEntry t.id c true { x.msg with colour := s.colour }) s

/-- Deferred items applied to a task that is in a slot again: rollbacks before its first instruction, a driver stop (R22, R83, R101). -/
def State.applyDeferred (s : State) (w : Who) (ds : List Deferred) : State :=
  ds.foldl (fun s d =>
    match d with
    | .wake k => s.giveWake k
    | .rollback k anti => s.rollback (s.at w).task k anti
    | .stop => s.upd w fun x => { x with dstop := true }) s

/-- The thread of an image placed in a slot: RUN, or PARK with its parking instruction to issue again (R21). The bank stands (R376). `intake` says
that it has come from another core. One that migrated for capability is then bound to this die (R113). -/
def State.placeImage (s : State) (w : Who) (id : TaskId) (img : List Byte) (r : Option LetRec) (prio : Nat) (intake : Bool) : State :=
  match s.launch? id.launch with
  | none => s
  | some l =>
    let t? := s.task? id
    let preds := match r with | some r => r.preds | none => (t?.map Task.preds).getD []
    let th := imageThread (isK8 w.core) img preds
    let owner := ownerTag l.h id.wid.toNat
    let s := (s.loadLayout w.core id.launch).logRecords l.asid owner th.fmt
    let grant := match r with | some r => r.grant | none => t?.bind Task.grant
    let s := s.upd w fun x =>
      { x.emptied with
        st := if imgParked img then .park else .run, th := th, launched := true, task := id, asid := l.asid, owner := owner, prio := prio,
        moved := intake || (match grant with | some (c, _, _) => c != w.core | none => false)
        recs := s.records l.asid owner th.fmt, consulted := x.consulted
        area := match r with | some r => r.area | none => t?.bind Task.area
        parkAt := s.gtime, grantRec := match r with | some r => r.grant | none => none
        capDie := ((match r with | some r => r.capDie | none => t?.bind Task.capDie)).map fun _ => dieOf w.core, dstop := s.stopped id.launch
        migrAt := match r with | some r => r.migrAt | none => t?.bind Task.migrAt }
    match r, t? with
    | none, some t =>
      let s := s.upd w fun x => { x with park := t.parkWhy, refused := t.refused, posted := t.posted, mcheck := t.mcheck }
      let s := s.updCore w.core fun k => { k with cache := k.cache.filter fun e => !(e.task == id && e.let_.isNone) }
      let s := s.updTask id fun t =>
        { t with place := .on w.core w.slot, refused := [], posted := [], deferred := [], mcheck := none, migrAt := none, parked := false,
                 ready := false }
      let s := if t.place.home = some w.core then s.release id else s.releaseAfter id fun s => s.rehome t w.core
      s.applyDeferred w t.deferred
    | some _, _ => s.updCore w.core fun k => { k with cache := k.cache.filter fun e => !(e.task == id && e.let_ == r) }
    | _, _ => s

/-- An image refused on load: a machine check with SUB 0x05 to the driver; the task stays swapped out (R105, R232). -/
def State.imageRefused (s : State) (w : Who) (launch : Nat) (addr : Nat) : State :=
  s.logError 0x01 0x05 w.core w.slot.val 0 0 launch (BitVec.ofNat 64 addr)

/-- A granule of a save area as it is read back. -/
def State.loadPlace (s : State) (c asid va : Nat) : M Loc := do
  if inLocal va then
    failIf (bits va 47 20 != 0) 0x09 (BitVec.ofNat 64 va)
    .ok (.loc c (va % 2 ^ 20))
  else
    let x ← s.translate asid va .load
    .ok (.mem x)

/-- The bytes of an image at an address of a core's local window or of an address space: header first, then its length. -/
def State.readImage (s : State) (c asid va : Nat) : M (List Byte) := do
  failIf (va % 32 != 0 || decide (2 ^ 54 ≤ va)) 0x09 (BitVec.ofNat 64 va)
  let part (s : State) (a n : Nat) : M (List Byte) :=
    (List.range (n / 32)).foldlM (fun bs i => do
      let l ← s.loadPlace c asid (a + 32 * i)
      let x ← s.readAt l 32
      .ok (bs ++ x)) []
  let h ← part s va 32
  let n := min (imgN h 2 2 * 32) 3072
  let b ← part s (va + 32) (n - 32)
  .ok (h ++ b)

/-- The image of a swapped-out task or codelet at dispatch: its context-cache entry on the core, else its save area (R103, R113). -/
def State.savedImage (s : State) (c : Nat) (id : TaskId) (r : Option LetRec) : M (List Byte) :=
  match (s.core c).cache.find? fun e => e.task == id && e.let_ == r && !(e.incomplete && e.dest.isSome) with
  | some e => .ok e.img
  | none =>
    match s.launch? id.launch, (match r with | some r => r.area | none => (s.task? id).bind Task.area) with
    | some l, some n => s.readImage c l.asid (l.areaVa n)
    | _, _ => pageFault 0

end Sys2Proof.Machine
end

