-- ==== Sys2Proof/Machine/Vector.lean ====
section
/-! DEFINITION. Vector instructions that touch no memory but the coefficient store: strips, element-wise arithmetic, correctly rounded
functions, masks, permutes, reductions, conversion, table functions and batched matrices (R235 to R258). Elements are held as
their encodings. -/

namespace Sys2Proof

/-- Element size in bytes (Table 9.1). -/
def EType.size : EType → Nat
  | .f64 => 8 | .f32 => 4 | .f16 => 2 | .bf16 => 2 | .i8 => 1 | .i16 => 2 | .i32 => 4 | .i64 => 8

/-- The floating format of an element type. -/
def EType.fmt : EType → Option Fmt
  | .f64 => some fp64 | .f32 => some fp32 | .f16 => some fp16 | .bf16 => some Sys2Proof.bf16
  | .i8 => none | .i16 => none | .i32 => none | .i64 => none

/-- The element type of a correctly rounded function (R243). -/
def EType2.etype : EType2 → EType | .f64 => .f64 | .f32 => .f32

def EType2.fmt : EType2 → Fmt | .f64 => fp64 | .f32 => fp32

/-- Element `i` of `es` bytes of a register (R235). -/
def elem (es i x : Nat) : Nat := x / 2 ^ (8 * es * i) % 2 ^ (8 * es)

/-- A register of elements of `es` bytes, element 0 first; every byte above them is zero (R237). -/
def packE (es : Nat) : List Nat → Nat
  | [] => 0
  | v :: vs => v % 2 ^ (8 * es) + 2 ^ (8 * es) * packE es vs

/-! ## Element operations (Table 9.4, R242) -/

/-- A floating operation on encodings, or an integer one. -/
def EType.by (e : EType) (f : Fmt → Nat) (g : Nat → Nat) : Nat :=
  match e.fmt with
  | some x => f x
  | none => g (8 * e.size)

def vAdd (e : EType) (r : Rm) (x y : Nat) : Nat :=
  e.by (fun f => f.round r.mode (Val.add r.mode (f.decode x) (f.decode y))) fun _ => x + y

def vSub (e : EType) (r : Rm) (x y : Nat) : Nat :=
  e.by (fun f => f.round r.mode (Val.add r.mode (f.decode x) (f.decode y).neg)) fun w => x + 2 ^ w - y

def vMul (e : EType) (r : Rm) (x y : Nat) : Nat :=
  e.by (fun f => f.round r.mode ((f.decode x).mul (f.decode y))) fun _ => x * y

def vMin (e : EType) (x y : Nat) : Nat :=
  e.by (fun f => f.encode (Val.minT (f.decode x) (f.decode y))) fun w => if sext w y < sext w x then y else x

def vMax (e : EType) (x y : Nat) : Nat :=
  e.by (fun f => f.encode (Val.maxT (f.decode x) (f.decode y))) fun w => if sext w x < sext w y then y else x

def vAbs (e : EType) (x : Nat) : Nat := e.by (fun f => f.encode (f.decode x).abs) fun w => (sext w x).natAbs

def vNeg (e : EType) (x : Nat) : Nat := e.by (fun f => f.encode (f.decode x).neg) fun w => 2 ^ w - x

/-- z + x × y, or z − x × y where `sub` holds, rounded once. -/
def vFma (sub : Bool) (e : EType) (r : Rm) (x y z : Nat) : Nat :=
  e.by (fun f => let x := f.decode x; f.encode (f.fma r.mode (if sub then x.neg else x) (f.decode y) (f.decode z)))
    fun w => if sub then z + (2 ^ w - x * y % 2 ^ w) else z + x * y

def vSra (e : EType) (x y : Nat) : Nat :=
  let w := 8 * e.size
  ((sext w x / (2 ^ (y % w) : Nat)) % (2 ^ w : Nat)).toNat

/-- The sum, maximum or minimum of a reduction (R131). -/
inductive RedOp | sum | max | min
deriving DecidableEq, Repr

def RedOp.eval (o : RedOp) (e : EType) (l r : Nat) : Nat :=
  match o with
  | .sum => vAdd e .rne l r % 2 ^ (8 * e.size)
  | .max => vMax e l r
  | .min => vMin e l r

/-- A vector condition on two elements (R244). -/
def VCond.holds (c : VCond) (e : EType) (x y : Nat) : Bool :=
  match e.fmt with
  | some f =>
    let x := f.decode x
    let y := f.decode y
    match c with
    | .eq => x.eqv y
    | .ne => !x.eqv y
    | .lt => x.lt y
    | .ge => !x.isNan && !y.isNan && !x.lt y
    | .un => x.isNan || y.isNan
    | .ltn => false
    | .gen => false
  | none =>
    let w := 8 * e.size
    match c with
    | .eq => x == y
    | .ne => x != y
    | .lt => decide (sext w x < sext w y)
    | .ge => decide (sext w y ≤ sext w x)
    | .ltn => decide (x < y)
    | .gen => decide (y ≤ x)
    | .un => false

/-- An element converted to an element type under RNE (R250). -/
def vCvt (e : EType) (v : Val) : Nat :=
  e.by (fun f => f.round .rne v) fun w =>
    let lo : Int := -(2 ^ (w - 1) : Nat)
    let hi : Int := (2 ^ (w - 1) : Nat) - 1
    let x : Int :=
      match v with
      | .nan => 0
      | .inf s => if s then lo else hi
      | .fin s n d => min (max (roundInt .rne 0 s n d) lo) hi
    (x % (2 ^ w : Nat)).toNat

end Sys2Proof

namespace Sys2Proof.Machine

/-! ## The strip (R236, R237) -/

/-- Fields of vl (Table 9.2). -/
def Thread.vlN (t : Thread) : Nat := bits t.vl.toNat 8 0
def Thread.vlE (t : Thread) : Nat := ((EType.ofCode (bits t.vl.toNat 11 9)).getD .f64).size
def Thread.vlLgd (t : Thread) : Nat := bits t.vl.toNat 13 12
def Thread.vlSidx (t : Thread) : Nat := bits t.vl.toNat 59 32

/-- The strip's byte length L. -/
def Thread.vlL (t : Thread) : Nat := t.vlN * t.vlE

/-- A lane group's side and element count (R256), and the elements of one unit of R246. -/
def Thread.lgSide (t : Thread) : Nat := 2 ^ t.vlLgd
def Thread.unit (t : Thread) : Nat := if t.vlLgd = 0 then 1 else t.lgSide * t.lgSide

/-- The vl value of a strip. -/
def vlWord (n e lgd sidx : Nat) : Word := BitVec.ofNat 64 (n % 2 ^ 9 + e * 2 ^ 9 + lgd * 2 ^ 12 + sidx * 2 ^ 32)

/-- Illegal instruction, with the instruction's word. -/
def illegalIf (i : Instr) (b : Bool) : M Unit := failIf b 0x01 (encodeWord i)

/-- An etype whose strip exceeds VLEN is an illegal-instruction fault before any effect (R237). -/
def State.fits (s : State) (w : Who) (i : Instr) (es : Nat) : M Unit := illegalIf i (decide (vlenB w.core < (s.th w).vlN * es))

/-- Whether element `k` is active under a mask register (R237). -/
def State.active (s : State) (w : Who) (m : Fin 8) (k : Nat) : Bool := m == 0 || bitAt (s.readM w m) (k * (s.th w).vlE)

/-- Elements 0 to N − 1 of a vector register. -/
def State.elems (s : State) (w : Who) (es : Nat) (v : Fin 16) : List Nat :=
  let x := s.readV w v
  (List.range (s.th w).vlN).map fun k => elem es k x

/-- The destination of an element-wise instruction: an inactive element keeps its value (R237). -/
def State.writeElems (s : State) (w : Who) (es : Nat) (m : Fin 8) (d : Fin 16) (f : Nat → Nat → Nat) : State :=
  let old := s.readV w d
  s.writeV w d (packE es ((List.range (s.th w).vlN).map fun k => let o := elem es k old; if s.active w m k then f k o else o))

/-! ## VSETVL -/

/-- The operands of VSETVL that are illegal (R239). -/
def vlIllegal (e : EType) (x : Nat) : Bool :=
  let lgd := bits x 61 60
  let g := 2 ^ lgd * 2 ^ lgd
  bits x 63 62 != 0 || lgd == 3 || (lgd != 0 && (decide (64 < g * e.size) || bits x 31 0 % g != 0))

/-- VSETVL (R239): what its operand makes illegal ranks before the bound-register faults (Table 4.1). -/
def execVsetvl (d a : Fin 32) (e : EType) (s : State) : Host.Outcome State Fault Refusal :=
  let i := Instr.vsetvl d a e
  issue i false 1 s fun w => do
    let v := s.readG w a
    match v with
    | .ok (x, _) => illegalIf i (vlIllegal e x.toNat)
    | .error _ => .ok ()
    s.chkOps w i
    let (x, s) ← v
    let x := x.toNat
    let avl := bits x 31 0
    let lgd := bits x 61 60
    let n := Nat.min avl (vlenB w.core / e.size)
    let s ← s.putG w d (BitVec.ofNat 64 n)
    .ok ((s.updTh w fun t => { t with vl := vlWord n e.code lgd (bits x 59 32) }).retire w i)

/-! ## Element-wise arithmetic (R241, R242) -/

/-- An element-wise instruction: `f` of va[k], vb[k] and the old vd[k]. -/
def vecOp (i : Instr) (d a b : Fin 16) (m : Fin 8) (e : EType) (f : Nat → Nat → Nat → Nat) (s : State) :
    Host.Outcome State Fault Refusal :=
  issue i false 1 s fun w => do
    s.fits w i e.size
    let x := s.readV w a
    let y := s.readV w b
    .ok ((s.writeElems w e.size m d fun k o => f (elem e.size k x) (elem e.size k y) o).retire w i)

/-- VADD (R241). -/
def execVadd (d a b : Fin 16) (m : Fin 8) (e : EType) (r : Rm) (s : State) : Host.Outcome State Fault Refusal :=
  vecOp (.vadd d a b m e r) d a b m e (fun x y _ => vAdd e r x y) s

/-- VSUB (R241). -/
def execVsub (d a b : Fin 16) (m : Fin 8) (e : EType) (r : Rm) (s : State) : Host.Outcome State Fault Refusal :=
  vecOp (.vsub d a b m e r) d a b m e (fun x y _ => vSub e r x y) s

/-- VMUL (R241). -/
def execVmul (d a b : Fin 16) (m : Fin 8) (e : EType) (r : Rm) (s : State) : Host.Outcome State Fault Refusal :=
  vecOp (.vmul d a b m e r) d a b m e (fun x y _ => vMul e r x y) s

/-- VMIN (R241). -/
def execVmin (d a b : Fin 16) (m : Fin 8) (e : EType) (r : Rm) (s : State) : Host.Outcome State Fault Refusal :=
  vecOp (.vmin d a b m e r) d a b m e (fun x y _ => vMin e x y) s

/-- VMAX (R241). -/
def execVmax (d a b : Fin 16) (m : Fin 8) (e : EType) (r : Rm) (s : State) : Host.Outcome State Fault Refusal :=
  vecOp (.vmax d a b m e r) d a b m e (fun x y _ => vMax e x y) s

/-- VMIN.N (R241). -/
def execVminN (d a b : Fin 16) (m : Fin 8) (e : EType) (s : State) : Host.Outcome State Fault Refusal :=
  vecOp (.vminN d a b m e) d a b m e (fun x y _ => Nat.min x y) s

/-- VMAX.N (R241). -/
def execVmaxN (d a b : Fin 16) (m : Fin 8) (e : EType) (s : State) : Host.Outcome State Fault Refusal :=
  vecOp (.vmaxN d a b m e) d a b m e (fun x y _ => Nat.max x y) s

/-- VABS (R241). -/
def execVabs (d a : Fin 16) (m : Fin 8) (e : EType) (r : Rm) (s : State) : Host.Outcome State Fault Refusal :=
  vecOp (.vabs d a m e r) d a a m e (fun x _ _ => vAbs e x) s

/-- VNEG (R241). -/
def execVneg (d a : Fin 16) (m : Fin 8) (e : EType) (r : Rm) (s : State) : Host.Outcome State Fault Refusal :=
  vecOp (.vneg d a m e r) d a a m e (fun x _ _ => vNeg e x) s

/-- VAND (R241). -/
def execVand (d a b : Fin 16) (m : Fin 8) (e : EType) (s : State) : Host.Outcome State Fault Refusal :=
  vecOp (.vand d a b m e) d a b m e (fun x y _ => Nat.land x y) s

/-- VOR (R241). -/
def execVor (d a b : Fin 16) (m : Fin 8) (e : EType) (s : State) : Host.Outcome State Fault Refusal :=
  vecOp (.vor d a b m e) d a b m e (fun x y _ => Nat.lor x y) s

/-- VXOR (R241). -/
def execVxor (d a b : Fin 16) (m : Fin 8) (e : EType) (s : State) : Host.Outcome State Fault Refusal :=
  vecOp (.vxor d a b m e) d a b m e (fun x y _ => Nat.xor x y) s

/-- VSLL (R241). -/
def execVsll (d a b : Fin 16) (m : Fin 8) (e : EType) (s : State) : Host.Outcome State Fault Refusal :=
  vecOp (.vsll d a b m e) d a b m e (fun x y _ => x * 2 ^ (y % (8 * e.size))) s

/-- VSRL (R241). -/
def execVsrl (d a b : Fin 16) (m : Fin 8) (e : EType) (s : State) : Host.Outcome State Fault Refusal :=
  vecOp (.vsrl d a b m e) d a b m e (fun x y _ => x / 2 ^ (y % (8 * e.size))) s

/-- VSRA (R241). -/
def execVsra (d a b : Fin 16) (m : Fin 8) (e : EType) (s : State) : Host.Outcome State Fault Refusal :=
  vecOp (.vsra d a b m e) d a b m e (fun x y _ => vSra e x y) s

/-- VFMA (R241). -/
def execVfma (d a b : Fin 16) (m : Fin 8) (e : EType) (r : Rm) (s : State) : Host.Outcome State Fault Refusal :=
  vecOp (.vfma d a b m e r) d a b m e (fun x y z => vFma false e r x y z) s

/-- VFMS (R241). -/
def execVfms (d a b : Fin 16) (m : Fin 8) (e : EType) (r : Rm) (s : State) : Host.Outcome State Fault Refusal :=
  vecOp (.vfms d a b m e r) d a b m e (fun x y z => vFma true e r x y z) s

/-! ## Correctly rounded functions (R243, R132) -/

/-- A correctly rounded function: group VCR, variable latency. The strip check is an illegal-instruction fault, which Table 4.1 ranks
before the migrate trap of a core without the group. -/
def vcrOp (i : Instr) (d a b : Fin 16) (m : Fin 8) (e : EType2) (f : Nat → Nat → Nat) (s : State) : Host.Outcome State Fault Refusal :=
  let w := s.who
  finish w i s do
    s.fits w i e.etype.size
    fate w i false 2 s
    let es := e.etype.size
    let x := s.readV w a
    let y := s.readV w b
    .ok ((s.writeElems w es m d fun k _ => f (elem es k x) (elem es k y)).retireVar w i)

/-- VDIV (R243). -/
def execVdiv (d a b : Fin 16) (m : Fin 8) (e : EType2) (r : Rm) (s : State) : Host.Outcome State Fault Refusal :=
  vcrOp (.vdiv d a b m e r) d a b m e (fun x y => e.fmt.round r.mode ((e.fmt.decode x).div (e.fmt.decode y))) s

/-- VSQRT (R243). -/
def execVsqrt (d a : Fin 16) (m : Fin 8) (e : EType2) (r : Rm) (s : State) : Host.Outcome State Fault Refusal :=
  vcrOp (.vsqrt d a m e r) d a a m e (fun x _ => vcrSqrt e.fmt r.mode (e.fmt.decode x)) s

/-- VEXP, VLOG or VTANH (codes 0, 1, 2) of an encoding. -/
def vTrans (op : Nat) (e : EType2) (r : Rm) (x : Nat) : Nat :=
  vcrTrans op e.fmt r.mode (Config.vcrFree op e.code r.code x) (e.fmt.decode x)

/-- VEXP (R243). -/
def execVexp (d a : Fin 16) (m : Fin 8) (e : EType2) (r : Rm) (s : State) : Host.Outcome State Fault Refusal :=
  vcrOp (.vexp d a m e r) d a a m e (fun x _ => vTrans 0 e r x) s

/-- VLOG (R243). -/
def execVlog (d a : Fin 16) (m : Fin 8) (e : EType2) (r : Rm) (s : State) : Host.Outcome State Fault Refusal :=
  vcrOp (.vlog d a m e r) d a a m e (fun x _ => vTrans 1 e r x) s

/-- VRCP (R243). -/
def execVrcp (d a : Fin 16) (m : Fin 8) (e : EType2) (r : Rm) (s : State) : Host.Outcome State Fault Refusal :=
  vcrOp (.vrcp d a m e r) d a a m e (fun x _ => vcrRcp e.fmt r.mode (e.fmt.decode x)) s

/-- VRSQ (R243). -/
def execVrsq (d a : Fin 16) (m : Fin 8) (e : EType2) (r : Rm) (s : State) : Host.Outcome State Fault Refusal :=
  vcrOp (.vrsq d a m e r) d a a m e (fun x _ => vcrRsq e.fmt r.mode (e.fmt.decode x)) s

/-- VTANH (R243). -/
def execVtanh (d a : Fin 16) (m : Fin 8) (e : EType2) (r : Rm) (s : State) : Host.Outcome State Fault Refusal :=
  vcrOp (.vtanh d a m e r) d a a m e (fun x _ => vTrans 2 e r x) s

/-! ## Masks, select and compaction (R244 to R247) -/

/-- `n` mask bits, lowest first. -/
def maskOf : List Bool → Nat
  | [] => 0
  | b :: bs => b2n b + 2 * maskOf bs

/-- VCMP: each element's mask bits, ES(ETYPE) of them (R244). -/
def execVcmp (k : Fin 8) (a b : Fin 16) (m : Fin 8) (e : EType) (c : VCond) (s : State) : Host.Outcome State Fault Refusal :=
  let i := Instr.vcmp k a b m e c
  issue i false 1 s fun w => do
    s.fits w i e.size
    let x := s.readV w a
    let y := s.readV w b
    let r := (List.range (s.th w).vlN).flatMap fun j =>
      List.replicate (s.th w).vlE (s.active w m j && c.holds e (elem e.size j x) (elem e.size j y))
    .ok ((s.writeM w k (maskOf r)).retire w i)

/-- VMLOG (R245). -/
def execVmlog (k a b : Fin 8) (o : MLogOp) (s : State) : Host.Outcome State Fault Refusal :=
  let i := Instr.vmlog k a b o
  issue i false 1 s fun w => .ok ((s.writeM w k (o.eval (s.th w).vlL (s.readM w a) (s.readM w b))).retire w i)

/-- The units of a list of elements. -/
def unitsOf (u : Nat) (xs : List Nat) : List (List Nat) := (List.range (xs.length / u)).map fun k => (xs.drop (u * k)).take u

/-- VSEL, VCOMPRESS or VEXPAND: the destination's units from those of va and vb and their selection (R246). -/
def selOp (i : Instr) (d a b : Fin 16) (m : Fin 8) (e : EType)
    (f : List (Bool × List Nat) → List (List Nat) → List (List Nat)) (s : State) : Host.Outcome State Fault Refusal :=
  issue i false 1 s fun w => do
    s.fits w i e.size
    let u := (s.th w).unit
    let xs := unitsOf u (s.elems w e.size a)
    let ys := unitsOf u (s.elems w e.size b)
    let sel := xs.zipIdx.map fun (x, k) => (s.active w m (k * u), x)
    .ok ((s.writeV w d (packE e.size (f sel ys).flatten)).retire w i)

/-- The selected units first, then units from the front of vb. -/
def compressed (sel : List (Bool × List Nat)) (ys : List (List Nat)) : List (List Nat) :=
  let xs := (sel.filter Prod.fst).map Prod.snd
  xs ++ ys.take (sel.length - xs.length)

/-- Selected units take those of va in order, the others keep vb's. -/
def expanded : List Bool → List (List Nat) → List (List Nat) → List (List Nat)
  | true :: ps, x :: xs, _ :: ys => x :: expanded ps xs ys
  | false :: ps, xs, y :: ys => y :: expanded ps xs ys
  | _, _, _ => []

/-- VSEL (R246). -/
def execVsel (d a b : Fin 16) (m : Fin 8) (e : EType) (s : State) : Host.Outcome State Fault Refusal :=
  selOp (.vsel d a b m e) d a b m e (fun sel ys => (sel.zip ys).map fun ((p, x), y) => if p then x else y) s

/-- VCOMPRESS (R246). -/
def execVcompress (d a b : Fin 16) (m : Fin 8) (e : EType) (s : State) : Host.Outcome State Fault Refusal :=
  selOp (.vcompress d a b m e) d a b m e compressed s

/-- VEXPAND (R246). -/
def execVexpand (d a b : Fin 16) (m : Fin 8) (e : EType) (s : State) : Host.Outcome State Fault Refusal :=
  selOp (.vexpand d a b m e) d a b m e (fun sel ys => expanded (sel.map Prod.fst) (sel.map Prod.snd) ys) s

/-- VPOPM (R247). -/
def execVpopm (g : Fin 16) (k : Fin 8) (s : State) : Host.Outcome State Fault Refusal :=
  let i := Instr.vpopm g k
  issue i false 1 s fun w => do
    let n := ((List.range (s.th w).vlN).filter fun j => s.active w k j).length
    let s ← s.putG w (gv g) (BitVec.ofNat 64 n)
    .ok (s.retire w i)

/-! ## Permutes (R248) -/

/-- A general register named in a V field: g0 to g15, never bound (Table 6.12). -/
def Thread.vg (t : Thread) (n : Fin 16) : Word := if n = 0 then 0 else t.g[gv n]

/-- A permute: `f` gives element k of the destination. -/
def permOp (i : Instr) (d : Fin 16) (m : Fin 8) (e : EType) (f : State → Who → Nat → Nat) (s : State) :
    Host.Outcome State Fault Refusal :=
  issue i false 1 s fun w => do
    s.fits w i e.size
    .ok ((s.writeElems w e.size m d fun k _ => f s w k).retire w i)

/-- VPERM (R248). -/
def execVperm (d a b : Fin 16) (m : Fin 8) (e : EType) (s : State) : Host.Outcome State Fault Refusal :=
  permOp (.vperm d a b m e) d m e (fun s w k =>
    let j := elem e.size k (s.readV w b)
    if j < (s.th w).vlN then elem e.size j (s.readV w a) else 0) s

/-- VSLIDE (R248). -/
def execVslide (d a g : Fin 16) (m : Fin 8) (e : EType) (s : State) : Host.Outcome State Fault Refusal :=
  permOp (.vslide d a g m e) d m e (fun s w k =>
    let j : Int := k + ((s.th w).vg g).toInt
    if 0 ≤ j ∧ j < (s.th w).vlN then elem e.size j.toNat (s.readV w a) else 0) s

/-- VBCAST (R248). -/
def execVbcast (d g : Fin 16) (m : Fin 8) (e : EType) (s : State) : Host.Outcome State Fault Refusal :=
  permOp (.vbcast d g m e) d m e (fun s w _ => ((s.th w).vg g).toNat) s

/-- VEXT (R248). -/
def execVext (g a h : Fin 16) (e : EType) (s : State) : Host.Outcome State Fault Refusal :=
  let i := Instr.vext g a h e
  issue i false 1 s fun w => do
    s.fits w i e.size
    let (j, s) ← s.readG w (gv h)
    let x := elem e.size j.toNat (s.readV w a)
    let v := if j.toNat < (s.th w).vlN then (if e.floating then BitVec.ofNat 64 x else toWord (sext (8 * e.size) x)) else 0
    let s ← s.putG w (gv g) v
    .ok (s.retire w i)

/-- VINS (R248). -/
def execVins (d a g : Fin 16) (e : EType) (s : State) : Host.Outcome State Fault Refusal :=
  let i := Instr.vins d a g e
  issue i false 1 s fun w => do
    s.fits w i e.size
    let (j, s) ← s.readG w (gv g)
    let x := elem e.size 0 (s.readV w a)
    .ok ((s.writeElems w e.size 0 d fun k o => if k = j.toNat then x else o).retire w i)

/-! ## Reductions (R249) -/

/-- A reduction into element 0 of vd; every other byte is written as zero. -/
def redOp (i : Instr) (o : RedOp) (d a : Fin 16) (m : Fin 8) (e : EType) (s : State) : Host.Outcome State Fault Refusal :=
  issue i false 1 s fun w => do
    s.fits w i e.size
    let xs := (s.elems w e.size a).zipIdx.map fun (x, k) => if s.active w m k then some x else none
    let acc := reduceGroups (o.eval e) (64 / e.size) (xs.length + 1) (elem e.size 0 (s.readV w d)) xs
    .ok ((s.writeV w d (acc % 2 ^ (8 * e.size))).retire w i)

/-- VRSUM (R249). -/
def execVrsum (d a : Fin 16) (m : Fin 8) (e : EType) (s : State) : Host.Outcome State Fault Refusal :=
  redOp (.vrsum d a m e) .sum d a m e s

/-- VRMAX (R249). -/
def execVrmax (d a : Fin 16) (m : Fin 8) (e : EType) (s : State) : Host.Outcome State Fault Refusal :=
  redOp (.vrmax d a m e) .max d a m e s

/-- VRMIN (R249). -/
def execVrmin (d a : Fin 16) (m : Fin 8) (e : EType) (s : State) : Host.Outcome State Fault Refusal :=
  redOp (.vrmin d a m e) .min d a m e s

/-! ## Conversion and scaling (R250 to R252) -/

/-- VCVT (R250). -/
def execVcvt (d a f : Fin 16) (e : EType) (s : State) : Host.Outcome State Fault Refusal :=
  let i := Instr.vcvt d a f e
  issue i false 1 s fun w => do
    let z := codeBits f.val / 8
    s.fits w i z
    s.fits w i e.size
    let x := s.readV w a
    .ok ((s.writeElems w e.size 0 d fun k _ => vCvt e (codeVal f.val false (elem z k x))).retire w i)

/-- The record of a shadow that VQNT and VDQNT accept for an element type (R251). -/
def State.quantRec (s : State) (w : Who) (i : Instr) (n : Fin 4) (e : EType) : M Nat := do
  match (s.at w).recs[n] with
  | none => fail 0x01 (encodeWord i)
  | some r =>
    let b := codeBits (recFmt r)
    illegalIf i (decide (2 ≤ recBlk r) || b == 64 || decide (8 * e.size < b) || (recBlk r == 1 && b == 8 * e.size))
    .ok r

/-- Byte offset of the scales in the packed layout (R251). -/
def scaleOff (n b : Nat) : Nat := 8 * ceilDiv (n * b) 64

/-- Values packed at `b` bits each. -/
def packBits (b : Nat) : List Nat → Nat
  | [] => 0
  | x :: xs => x % 2 ^ b + 2 ^ b * packBits b xs

/-- Blocks of `n` elements of a list with the index of their first. -/
def blocksOf {α : Type} (n : Nat) (xs : List α) : List (Nat × List α) :=
  (List.range (ceilDiv xs.length n)).map fun k => (n * k, (xs.drop (n * k)).take n)

/-- VQNT (R251). -/
def execVqnt (d a : Fin 16) (n : Fin 4) (e : EType) (s : State) : Host.Outcome State Fault Refusal :=
  let i := Instr.vqnt d a n e
  issue i false 1 s fun w => do
    s.fits w i e.size
    let r ← s.quantRec w i n e
    let t := s.th w
    let b := codeBits (recFmt r)
    let xs := (s.elems w e.size a).map fun x => codeVal e.code false x
    let mix (k : Nat) : Nat := mix32 t.seed.toNat (s.at w).task.wid.toNat (t.vlSidx + k)
    let v :=
      if recBlk r = 1 then
        let qs := (blocksOf 16 xs).map fun (k, ys) => quantBlock ys r fun j => mix (k + j)
        packBits b (qs.flatMap Prod.snd) + 2 ^ (8 * scaleOff xs.length b) * packBits 16 (qs.map Prod.fst)
      else packBits b (xs.zipIdx.map fun (x, k) => convert x r (mix k))
    .ok ((s.writeV w d v).retire w i)

/-- VDQNT (R251). -/
def execVdqnt (d a : Fin 16) (n : Fin 4) (e : EType) (s : State) : Host.Outcome State Fault Refusal :=
  let i := Instr.vdqnt d a n e
  issue i false 1 s fun w => do
    s.fits w i e.size
    let r ← s.quantRec w i n e
    let b := codeBits (recFmt r)
    let x := s.readV w a
    let so := scaleOff (s.th w).vlN b
    let f (k : Nat) : Nat :=
      let q := codeVal (recFmt r) (recFtz r) (x / 2 ^ (b * k))
      let v := if recBlk r = 1 then scaled q (s12 (x / 2 ^ (8 * (so + 2 * (k / 16))) % 2 ^ 12)) else q
      e.by (fun y => y.round .rne v) fun _ => 0
    .ok ((s.writeElems w e.size 0 d fun k _ => f k).retire w i)

/-- VSCL (R252). -/
def execVscl (d a b : Fin 16) (e : EType) (s : State) : Host.Outcome State Fault Refusal :=
  let i := Instr.vscl d a b e
  issue i false 1 s fun w => do
    s.fits w i e.size
    let x := s.readV w a
    let y := s.readV w b
    .ok ((s.writeElems w e.size 0 d fun k _ =>
      e.by (fun f => f.round .rne (scaled (f.decode (elem e.size k x)) (s12 (elem 2 k y % 2 ^ 12)))) fun _ => 0).retire w i)

/-! ## Batched small matrices (R256 to R258) -/

/-- Entry (r, c) of the product of VMMB for the group whose first element is `b` (R257). -/
def mmbEntry (f : Fmt) (d : Nat) (x y z : Nat → Nat) (b r c : Nat) : Nat :=
  (List.range d).foldl (fun acc k => f.encode (f.fma .rne (f.decode (x (b + r * d + k))) (f.decode (y (b + k * d + c))) (f.decode acc)))
    (z (b + r * d + c))

/-- VMMB (R257). -/
def execVmmb (d a b : Fin 16) (e : EType) (s : State) : Host.Outcome State Fault Refusal :=
  let i := Instr.vmmb d a b e
  issue i false 1 s fun w => do
    let t := s.th w
    illegalIf i (t.vlLgd == 0)
    s.fits w i e.size
    let el (v : Fin 16) (k : Nat) : Nat := elem e.size k (s.readV w v)
    let q := t.lgSide
    .ok ((s.writeElems w e.size 0 d fun k _ =>
      let o := k % t.unit
      e.by (fun f => mmbEntry f q (el a) (el b) (el d) (k - o) (o / q) (o % q)) fun _ => 0).retire w i)

/-- VLGL (R258). -/
def execVlgl (g b : Fin 16) (s : State) : Host.Outcome State Fault Refusal :=
  let i := Instr.vlgl g b
  issue i false 1 s fun w => do
    let t := s.th w
    illegalIf i (t.vlLgd == 0)
    let n := ((List.range (t.vlN / t.unit)).filter fun j => elem t.vlE (j * t.unit) (s.readV w b) != 0).length
    let s ← s.putG w (gv g) (BitVec.ofNat 64 n)
    .ok (s.retire w i)

/-! ## Table functions (R253 to R255) -/

/-- Header fields of a coefficient table (Table 9.6). -/
def tabFmt (h : Nat) : Nat := bits h 3 0
def tabDeg (h : Nat) : Nat := bits h 7 4
def tabSegs (h : Nat) : Nat := bits h 15 8 + 1
def tabShift (h : Nat) : Int := sext 8 (bits h 23 16)
def tabX0 (h : Nat) : Val := fp64.decode (bits h 127 64)

/-- Element size and total length of a table. -/
def tabEs (h : Nat) : Nat := if tabFmt h = 0 then 8 else 4
def tabLen (h : Nat) : Nat := 32 + tabEs h * tabSegs h * (tabDeg h + 1)

/-- Whether a table is refused for its header (R253). -/
def tabBad (h : Nat) : Bool :=
  bits h 63 24 != 0 || bits h 255 128 != 0 || decide (2 ≤ tabFmt h) || decide (4096 < tabLen h)
    || (match tabX0 h with | .fin .. => false | _ => true)

/-- `n` granules of 32 bytes read from frozen pages of an address space (R253). -/
def State.readFrozen (s : State) (asid va : Nat) : Nat → M (List Byte)
  | 0 => .ok []
  | n + 1 => do
    failIf (decide (2 ^ 54 ≤ va)) 0x09 (BitVec.ofNat 64 va)
    failIf (inLocal va) 0x0B (BitVec.ofNat 64 va)
    let x ← s.translate asid va .load
    s.kindCheck asid 0 true .fetch x.pte va
    let bs ← s.checkedRead x.pa 32
    let rest ← s.readFrozen asid (va + 32) n
    .ok (bs ++ rest)

/-- A table loaded from memory with the faults of R254. -/
def State.loadTable (s : State) (w : Who) (i : Instr) (va : Word) : M CoefTable := do
  let a := (s.at w).asid
  failIf (va.toNat % 32 != 0) 0x05 va
  let hb ← s.readFrozen a va.toNat 1
  let h := natOf hb
  illegalIf i (tabBad h)
  let bs ← s.readFrozen a va.toNat (ceilDiv (tabLen h) 32)
  .ok ⟨a, va, bs⟩

/-- Bytes of the coefficient store (R254). -/
def coefBytes (ts : List CoefTable) : Nat := (ts.map fun t => t.bytes.length).sum

/-- The newest tables that fit the 8 KiB store. -/
def coefFit : Nat → List CoefTable → List CoefTable
  | _, [] => []
  | n, t :: ts => if t.bytes.length ≤ n then t :: coefFit (n - t.bytes.length) ts else []

/-- A table put into the core's coefficient store; the oldest leave it. -/
def State.keepTable (s : State) (c : Nat) (t : CoefTable) : State :=
  (s.refresh (.coef c) (lineKey t.asid t.va.toNat) (t.bytes.length / 8)).updCore c fun k =>
    { k with coefs := coefFit 8192 (t :: k.coefs.filter fun x => !(x.asid == t.asid && x.va == t.va)) }

/-- VCOEF (R254). -/
def execVcoef (g : Fin 16) (s : State) : Host.Outcome State Fault Refusal :=
  let i := Instr.vcoef g
  issue i false 1 s fun w => do
    let (va, s) ← s.readG w (gv g)
    let t ← s.loadTable w i va
    .ok ((s.keepTable w.core t).retireVar w i)

/-- The segment of an argument (R255). -/
def polySeg (h : Nat) (x : Val) : Nat :=
  let top := tabSegs h - 1
  match Val.add .rne x (tabX0 h).neg with
  | .nan => 0
  | .inf s => if s then 0 else top
  | .fin s n d => if s then 0 else let (a, b) := scale2 n d (tabShift h); Nat.min (a / b) top

/-- Poly(x) of R255 on the bytes of a table. -/
def poly (f : Fmt) (bs : List Byte) (x : Nat) : Nat :=
  let h := natOf (bs.take 32)
  let v := f.decode x
  if v.isNan then f.nan
  else
    let k := polySeg h v
    let st := match scale2 k 1 (-(tabShift h)) with | (a, b) => Val.fin false a b
    let t := f.roundV .rne (Val.add .rne v (Val.add .rne (tabX0 h) st).neg)
    let c (j : Nat) : Val := f.decode (natOf ((bs.drop (32 + tabEs h * (k * (tabDeg h + 1) + j))).take (tabEs h)))
    f.encode ((List.range (tabDeg h)).foldr (fun j y => f.fma .rne y t (c j)) (c (tabDeg h)))

/-- VPOLY with its table at hand: a double-bit error of the store is a machine check (R388), a table of another format an illegal-instruction fault
(R255). -/
def State.vpoly (s : State) (w : Who) (i : Instr) (d a : Fin 16) (e : EType) (t : CoefTable) : M State := do
  if s.sramBad (.coef w.core) (lineKey t.asid t.va.toNat) (t.bytes.length / 8) then machineCheck 0x02 0
  illegalIf i (tabFmt (natOf (t.bytes.take 32)) != e.code)
  let x := s.readV w a
  .ok ((s.writeElems w e.size 0 d fun k _ => e.by (fun f => poly f t.bytes (elem e.size k x)) fun _ => 0).retire w i)

/-- VPOLY: a table that is not in the coefficient store is loaded first, with the slot BUSY (R255). -/
def execVpoly (d a b : Fin 16) (e : EType) (s : State) : Host.Outcome State Fault Refusal :=
  let i := Instr.vpoly d a b e
  issue i false 1 s fun w => do
    s.fits w i e.size
    let va : Word := BitVec.ofNat 64 (s.readV w b % 2 ^ 64)
    match (s.core w.core).coefs.find? fun t => t.asid == (s.at w).asid && t.va == va with
    | some t => s.vpoly w i d a e t
    | none => .error (.next ((s.waitBusy w i .coef).post [.coefficientTableLoad w.core w.slot]))

/-- COEFFICIENT_TABLE_LOAD: the load ends and the slot is ready, so that VPOLY issues at its next turn; or VPOLY takes the load's fault (R18,
R255). -/
def execCoefficientTableLoad (s : State) : Host.Outcome State Fault Refusal :=
  match s.agenda with
  | .coefficientTableLoad c sl :: rest =>
    let s := { s with agenda := rest }
    let w : Who := ⟨c, sl⟩
    match (s.at w).busy, (s.at w).out with
    | .coef, some (.vpoly d a b e) =>
      let i := Instr.vpoly d a b e
      finish w i s do
        let t ← s.loadTable w i (BitVec.ofNat 64 (s.readV w b % 2 ^ 64))
        illegalIf i (tabFmt (natOf (t.bytes.take 32)) != e.code)
        .ok ((s.keepTable w.core t).upd w fun x => { x with st := .run, out := none })
    | _, _ => .next s
  | _ => .next s

end Sys2Proof.Machine
end

