-- ==== Sys2Proof/Machine/VectorMem.lean ====
section
/-! DEFINITION. Vector loads and stores and shape records (R259 to R263). -/

namespace Sys2Proof.Machine

/-! ## Shape records (R261) -/

/-- Whether any extent is zero. -/
def Shape.unset (h : Shape) : Bool := h.ext.toList.any (· == 0)

/-- Extents and cursor of a dimension. -/
def Shape.e (h : Shape) (k : Nat) : Nat := (h.ext.toList.getD k 0).toNat
def Shape.c (h : Shape) (k : Nat) : Nat := (h.cur.toList.getD k 0).toNat
def Shape.s (h : Shape) (k : Nat) : Int := (h.str.toList.getD k 0).toInt

/-- The position p and the period P. -/
def Shape.pos (h : Shape) : Nat := h.c 0 + h.e 0 * (h.c 1 + h.e 1 * (h.c 2 + h.e 2 * h.c 3))
def Shape.period (h : Shape) : Nat := h.e 0 * h.e 1 * h.e 2 * h.e 3

/-- Coordinate `k` of a position. -/
def Shape.coord (h : Shape) (p : Nat) : Nat → Nat
  | 0 => p % h.e 0
  | 1 => p / h.e 0 % h.e 1
  | 2 => p / (h.e 0 * h.e 1) % h.e 2
  | _ => p / (h.e 0 * h.e 1 * h.e 2)

/-- Addr(p, E). -/
def Shape.addr (h : Shape) (p es : Nat) : Word :=
  h.base + toWord ((es : Int) * ((h.coord p 0 : Int) * h.s 0 + (h.coord p 1 : Int) * h.s 1 + (h.coord p 2 : Int) * h.s 2 + (h.coord p 3 : Int) * h.s 3))

/-- The cursor set to a position. -/
def Shape.setPos (h : Shape) (p : Nat) : Shape := { h with cur := Vector.ofFn fun k => BitVec.ofNat 32 (h.coord p k.val) }

/-- Advance(k) by a signed count. -/
def Shape.advance (h : Shape) (k : Int) : Shape := h.setPos (((h.pos : Int) + k) % (h.period : Int)).toNat

/-- A record changed. -/
def State.updShape (s : State) (w : Who) (n : Fin 8) (f : Shape → Shape) : State :=
  s.updTh w fun t => { t with sh := t.sh.set n (f t.sh[n]) }

/-- The local place of a shape record: a multiple of 8 in window 63, else a kind fault (R263). -/
def State.shapePlace (s : State) (w : Who) (va : Word) : M Loc := do
  failIf (decide (2 ^ 54 ≤ va.toNat)) 0x09 va
  failIf (va.toNat % 8 != 0 || !inLocal va.toNat) 0x0B va
  s.localPlace w va.toNat 56

/-- SHSET (R263). -/
def execShset (a : Fin 32) (n : Fin 8) (s : State) : Host.Outcome State Fault Refusal :=
  let i := Instr.shset a n
  issue i false 1 s fun w => do
    s.chkOps w i
    let (va, s) ← s.readG w a
    let l ← s.shapePlace w va
    let bs ← s.readAt l 56
    let h := imgShape bs 0
    illegalIf i (h.unset || (List.range 4).any fun k => decide (h.e k ≤ h.c k))
    .ok (((s.noteSpan w l 56).updShape w n fun _ => h).retireAt w i l)

/-- SHGET: a local store (R263). -/
def execShget (a : Fin 32) (n : Fin 8) (s : State) : Host.Outcome State Fault Refusal :=
  let i := Instr.shget a n
  issue i false 1 s fun w => do
    let h := (s.th w).sh[n]
    illegalIf i h.unset
    s.chkOps w i
    let (va, s) ← s.readG w a
    s.storeAllowed w i va.toNat 56
    let l ← s.shapePlace w va
    .ok (((s.noteSpan w l 56).storeAt w l h.bytes).retireAt w i l)

/-- SHADV (R263). -/
def execShadv (a : Fin 32) (n : Fin 8) (s : State) : Host.Outcome State Fault Refusal :=
  let i := Instr.shadv a n
  issue i false 1 s fun w => do
    illegalIf i (s.th w).sh[n].unset
    s.chkOps w i
    let (k, s) ← s.readG w a
    .ok ((s.updShape w n fun h => h.advance k.toInt).retire w i)

/-- SHRST (R263). -/
def execShrst (n : Fin 8) (s : State) : Host.Outcome State Fault Refusal :=
  let i := Instr.shrst n
  issue i false 1 s fun w => do
    illegalIf i (s.th w).sh[n].unset
    .ok ((s.updShape w n fun h => { h with cur := .replicate 4 0 }).retire w i)

/-! ## Vector memory access (R260) -/

/-- The rank of what stops one element: faults by priority, then a wait. -/
def Stop.rank : Stop → Nat
  | .trap code _ _ _ | .localTrap code _ _ => causePrio code
  | .busy _ | .park _ | .away _ => 21
  | .next _ => 22

/-- One element's access checked. -/
def State.elemPlace (s : State) (w : Who) (store : Bool) (va : Word) (es : Nat) : M (Word × Loc) := do
  failIf (va.toNat % es != 0) 0x05 va
  let l ← s.place w (if store then .store else .load) va.toNat es
  .ok (va, l)

/-- All elements' accesses, or what stops them: the cause of least priority number, of the least index (R260). -/
def gather : List (M α) → M (List α)
  | [] => .ok []
  | x :: xs =>
    match x, gather xs with
    | .ok a, .ok as => .ok (a :: as)
    | .ok _, .error e => .error e
    | .error e, .ok _ => .error e
    | .error e, .error e' => .error (if e.rank ≤ e'.rank then e else e')

/-- The places of a vector access's elements, or what stops it. What a load reads is checked with the places, so that a machine check of one element
ranks before a fault of another (R260, Table 4.1). -/
def State.elemPlaces (s : State) (w : Who) (store : Bool) (es : Nat) (eas : List Word) : M (List (Word × Loc)) :=
  let places := eas.map fun a => s.elemPlace w store a es
  match gather places with
  | .ok xs => .ok xs
  | .error e =>
    match gather (places.map fun p => do let x ← p; s.loadAt w x.1.toNat x.2 es) with
    | .ok _ => .error e
    | .error e' => .error (if store then e else e')

/-- The place for which the predictor is consulted: the first element's homed on another core, else the first on another core's local memory
(R40, R43, R260). -/
def firstRemote (w : Who) (ls : List Loc) : Option Loc :=
  match ls.find? fun l => l.isMem && (remoteHome w l).isSome with
  | some l => some l
  | none => ls.find? fun l => (remoteHome w l).isSome

/-- The remote word accesses of a vector access: one for each word of 8 bytes that is homed on another core, in element order (R40). -/
def remoteWords (w : Who) (xs : List (Word × Loc)) : List Nat :=
  ((xs.filterMap fun x => (remoteHome w x.2).map fun h => (x.1.toNat / 8, h)).dedup).map Prod.snd

/-- Whether every active element of a vector access lies in the thread's own core's local memory, so that its latency is fixed (R17, R260). -/
def State.allLocal (s : State) (w : Who) (eas : List Word) : Bool := eas.all fun a => s.ownLocal w a.toNat

/-- A vector load or store: `ea` gives the address of element k (R260). All elements are checked, then the thread or the accesses leave for
another core, then the elements are read or written. -/
def vmemBody (here : Bool) (i : Instr) (store : Bool) (d : Fin 16) (m : Fin 8) (e : EType) (ea : State → Who → Nat → Word)
    (after : State → Who → State) (w : Who) (s : State) : M State := do
  let es := e.size
  s.fits w i es
  let act := (List.range (s.th w).vlN).filter fun k => s.active w m k
  M.fixedIf (s.allLocal w (act.map (ea s w))) do
    failIf (store && s.spec w && act.any fun k => !inWindow (s.th w) (ea s w k).toNat es) 0x08 (encodeWord i)
    let xs ← s.elemPlaces w store es (act.map (ea s w))
    match (if here then none else firstRemote w (xs.map Prod.snd)) with
    | some l => s.goRemote w i l.isMem ((remoteHome w l).getD 0) (remoteWords w xs)
    | none => .ok ()
    let bss ← if store then .ok [] else gather (xs.map fun x => s.loadAt w x.1.toNat x.2 es)
    let t := xs.foldl (fun t x => (t.cached w x.1.toNat es store x.2).traceAt w (if store then 1 else 0) x.1.toNat x.2) s
    let v := s.readV w d
    let t :=
      if store then (act.zip xs).foldl (fun t (k, x) => t.storeAt w x.2 (bytesOf es (elem es k v))) t
      else t.writeElems w es m d fun k _ => natOf ((((act.zip bss).find? fun y => y.1 == k).map Prod.snd).getD [])
    let t := after t w
    .ok (if xs.all fun x => x.2.own w then t.retire w i else t.retireVar w i)

/-- VLD, VST: g(n) + i × ES. -/
def eaUnit (g : Fin 16) (es : Nat) (s : State) (w : Who) (k : Nat) : Word := (s.th w).vg g + BitVec.ofNat 64 (k * es)

/-- VLDX, VSTX: g(n) + ES × vb[i], the index signed. -/
def eaIndexed (g b : Fin 16) (es : Nat) (s : State) (w : Who) (k : Nat) : Word :=
  (s.th w).vg g + toWord ((es : Int) * sext (8 * es) (elem es k (s.readV w b)))

/-- VLDS, VSTS: by the walk from the cursor (R262). -/
def eaShape (n : Fin 8) (es : Nat) (s : State) (w : Who) (k : Nat) : Word :=
  let h := (s.th w).sh[n]
  h.addr ((h.pos + k) % h.period) es

/-- The cursor's advance by N at completion (R262). -/
def stepShape (n : Fin 8) (s : State) (w : Who) : State := s.updShape w n fun h => h.advance (s.th w).vlN

def vldBody (here : Bool) (d g : Fin 16) (m : Fin 8) (e : EType) : Who → State → M State :=
  vmemBody here (.vld d g m e) false d m e (eaUnit g e.size) fun s _ => s

def vstBody (here : Bool) (d g : Fin 16) (m : Fin 8) (e : EType) : Who → State → M State :=
  vmemBody here (.vst d g m e) true d m e (eaUnit g e.size) fun s _ => s

def vldxBody (here : Bool) (d g b : Fin 16) (m : Fin 8) (e : EType) : Who → State → M State :=
  vmemBody here (.vldx d g b m e) false d m e (eaIndexed g b e.size) fun s _ => s

def vstxBody (here : Bool) (d g b : Fin 16) (m : Fin 8) (e : EType) : Who → State → M State :=
  vmemBody here (.vstx d g b m e) true d m e (eaIndexed g b e.size) fun s _ => s

/-- A shaped access: a record with a zero extent is an illegal-instruction fault (R261). -/
def shapedBody (here : Bool) (i : Instr) (store : Bool) (d : Fin 16) (n : Fin 8) (m : Fin 8) (e : EType) (w : Who) (s : State) : M State := do
  illegalIf i (s.th w).sh[n].unset
  vmemBody here i store d m e (eaShape n e.size) (stepShape n) w s

def vldsBody (here : Bool) (d : Fin 16) (n m : Fin 8) (e : EType) : Who → State → M State :=
  shapedBody here (.vlds d n m e) false d n m e

def vstsBody (here : Bool) (d : Fin 16) (n m : Fin 8) (e : EType) : Who → State → M State :=
  shapedBody here (.vsts d n m e) true d n m e

/-- VLD (R260). -/
def execVld (d g : Fin 16) (m : Fin 8) (e : EType) (s : State) : Host.Outcome State Fault Refusal :=
  issue (.vld d g m e) false 1 s fun w => vldBody false d g m e w s

/-- VST (R260). -/
def execVst (d g : Fin 16) (m : Fin 8) (e : EType) (s : State) : Host.Outcome State Fault Refusal :=
  issue (.vst d g m e) false 1 s fun w => vstBody false d g m e w s

/-- VLDS (R262). -/
def execVlds (d : Fin 16) (n m : Fin 8) (e : EType) (s : State) : Host.Outcome State Fault Refusal :=
  issue (.vlds d n m e) false 1 s fun w => vldsBody false d n m e w s

/-- VSTS (R262). -/
def execVsts (d : Fin 16) (n m : Fin 8) (e : EType) (s : State) : Host.Outcome State Fault Refusal :=
  issue (.vsts d n m e) false 1 s fun w => vstsBody false d n m e w s

/-- VLDX (R260). -/
def execVldx (d g b : Fin 16) (m : Fin 8) (e : EType) (s : State) : Host.Outcome State Fault Refusal :=
  issue (.vldx d g b m e) false 1 s fun w => vldxBody false d g b m e w s

/-- VSTX (R260). -/
def execVstx (d g b : Fin 16) (m : Fin 8) (e : EType) (s : State) : Host.Outcome State Fault Refusal :=
  issue (.vstx d g b m e) false 1 s fun w => vstxBody false d g b m e w s

end Sys2Proof.Machine
end

