-- ==== Sys2Proof/Machine/Buffers.lean ====
section
/-! DEFINITION. Circular-buffer instructions, queue bindings and the queue vector instructions (R264 to R272). -/

namespace Sys2Proof.Machine

/-- A task that holds uncommitted history takes an unsaved-state fault on every CB instruction (R64, R264). -/
def State.cbSaved (s : State) (w : Who) (i : Instr) : M Unit := failIf (s.history w) 0x08 (encodeWord i)

/-- Whether a descriptor's whole range lies in a range of local memory. -/
def Cb.within (b : Cb) (base len : Nat) : Bool := decide (base ≤ b.base ∧ b.base + b.bytes * b.slots ≤ base + len)

/-- Whether a range of local memory lies in the grant of a thread on its own core. The system slot has no grant to keep (R43). -/
def State.inGrant (s : State) (w : Who) (b : Cb) : Bool :=
  let (c, base, len) := s.grant w
  w.slot == 15 || (c == w.core && b.within base len)

/-- The named descriptor's range must lie in the thread's grant (R264). -/
def State.cbOwned (s : State) (w : Who) (n : Fin 32) : M Cb := do
  let q := s.cb w.core n
  if s.inGrant w q then .ok q else cbFault w.core n

/-- Whether a register of some thread is bound to a side of a buffer (R269). -/
def State.bound (s : State) (c : Nat) (n : Fin 32) (push : Bool) : Bool :=
  s.cores.any fun (_, k) => k.slots.toList.any fun x =>
    x.st != .empty && x.st != .reserved && x.th.bind.toList.any fun b => b.bound && b.push == push && b.cb == n && b.core == c

/-- A descriptor as CBSET reads it, FILLED and EOS clear, with the offence of R59 or R265 in the image. -/
def cbOf (x : Nat) (user : Option TaskId) : Cb × Bool :=
  ({ base := bits x 19 0, slotsz := bits x 31 20, nslotm1 := bits x 39 32, pptr := bits x 47 40, cptr := bits x 55 48, filled := 0,
     pkind := bits x 74 73, eos := false, en := bitAt x 76, srccore := bits x 87 77, haddr := BitVec.ofNat 64 (bits x 181 128),
     token := none, popPos := 0, pushPos := 0, user := user, reclaimed := false },
   bits x 63 56 != 0 || bits x 127 88 != 0 || bits x 191 182 != 0 || bits x 31 20 == 0 || bits x 19 0 % 32 != 0
     || decide (2 ^ 20 < bits x 19 0 + bits x 31 20 * 32 * (bits x 39 32 + 1)) || bits x 74 73 == 3
     || bits x 47 40 != bits x 55 48 || decide (bits x 39 32 < bits x 47 40) || bits x 72 64 != 0 || bitAt x 75)

/-- CBSET (R59, R265). The range that R264 checks is that of the new image; where the descriptor's old range lies does not matter (log entry 94). -/
def execCbset (a n : Fin 32) (s : State) : Host.Outcome State Fault Refusal :=
  let i := Instr.cbset a n
  issue i false 1 s fun w => do
    s.cbSaved w i
    let (va, s1) ← (s.readG w a).waitsAfter (s.chkCb w i)
    failIf (va.toNat % 8 != 0) 0x05 va
    s.chkCb w i
    let s := s1
    let l ← s.localSource w va.toNat 24 8
    let (q, bad) := cbOf (natOf (s.readLoc l 24)) (if (s.at w).launched then some (s.at w).task else none)
    let old := s.cb w.core n
    if bad || !s.inGrant w q || (q.en && old.en && old.filled != 0 && !old.eos) then cbFault w.core n
    else .ok ((s.updCb w.core n fun _ => q).retire w i)

/-- What a wait for `k` filled slots comes to: a CB fault, an end with the data slots before the token, or the wait goes on (R60, R62, R266). -/
def Cb.waitFilled (q : Cb) (k : Nat) : Option (Option (Option Nat)) :=
  if !q.en || decide (q.slots < k) then none
  else
    let tok := match q.tokenAt with | some t => if t < k ∧ t < q.filled then some t else none | none => none
    match tok with
    | some t => some (some (some t))
    | none => if k ≤ q.filled then some (some none) else some none

/-- What a wait for `k` free slots comes to: a CB fault, an end, or the wait goes on. -/
def Cb.waitFree (q : Cb) (k : Nat) : Option Bool :=
  if !q.en || decide (q.slots < k) then none else some (decide (q.filled + k ≤ q.slots))

/-- CBWF (R266). -/
def execCbwf (p : Fin 16) (a n : Fin 32) (s : State) : Host.Outcome State Fault Refusal :=
  let i := Instr.cbwf p a n
  issue i false 1 s fun w => do
    s.cbSaved w i
    s.chkCb w i
    let q ← s.cbOwned w n
    let (k, s) ← s.readG w a
    match q.waitFilled k.toNat with
    | none => cbFault w.core n
    | some (some (some t)) => .ok (((s.writeP w p true).writeG w a (BitVec.ofNat 64 t)).retireVar w i)
    | some (some none) => .ok ((s.writeP w p false).retireVar w i)
    | some none => .error (.park (.filled w.core n k.toNat))

/-- CBWE (R266). -/
def execCbwe (a n : Fin 32) (s : State) : Host.Outcome State Fault Refusal :=
  let i := Instr.cbwe a n
  issue i false 1 s fun w => do
    s.cbSaved w i
    s.chkCb w i
    let _ ← s.cbOwned w n
    let (k, s) ← s.readG w a
    match (s.cb w.core n).waitFree k.toNat with
    | none => cbFault w.core n
    | some true => .ok (s.retireVar w i)
    | some false => .error (.park (.free w.core n k.toNat))

/-- CBPA (R267, R269). -/
def execCbpa (a n : Fin 32) (s : State) : Host.Outcome State Fault Refusal :=
  let i := Instr.cbpa a n
  issue i false 1 s fun w => do
    s.cbSaved w i
    s.chkCb w i
    let q ← s.cbOwned w n
    if !q.en || q.pkind != 0 || q.eos || s.bound w.core n true then cbFault w.core n
    else
      let (k, s) ← s.readG w a
      let q := s.cb w.core n
      if q.slots < q.filled + k.toNat then cbFault w.core n
      else .ok ((if k = 0 then s else s.updCb w.core n fun q => q.advP k.toNat).retire w i)

/-- CBCA (R267, R269). -/
def execCbca (a n : Fin 32) (s : State) : Host.Outcome State Fault Refusal :=
  let i := Instr.cbca a n
  issue i false 1 s fun w => do
    s.cbSaved w i
    s.chkCb w i
    let q ← s.cbOwned w n
    if !q.en || s.bound w.core n false then cbFault w.core n
    else
      let (k, s) ← s.readG w a
      let q := s.cb w.core n
      if q.filled < k.toNat then cbFault w.core n
      else .ok ((if k = 0 then s else s.updCb w.core n fun q => q.advC k.toNat).retire w i)

/-- The token written into the next slot (R62). -/
def Cb.putToken (q : Cb) : Cb := { q.advP 1 with token := some q.pptr, eos := true }

/-- CBEOS: it waits, BUSY, for a free slot (R267). -/
def execCbeos (n : Fin 32) (s : State) : Host.Outcome State Fault Refusal :=
  let i := Instr.cbeos n
  issue i false 1 s fun w => do
    s.cbSaved w i
    let q ← s.cbOwned w n
    if !q.en || q.eos || !(q.pkind == 0 || (q.pkind == 2 && w.slot == 14)) || s.bound w.core n true then cbFault w.core n
    else if q.filled = q.slots then .error (.busy (.room n))
    else .ok ((s.updCb w.core n fun q => q.putToken).retireVar w i)

/-- The binding of one of g28 to g31 set. -/
def State.setBinding (s : State) (w : Who) (d : Fin 32) (b : Binding) : State :=
  s.updTh w fun t => { t with bind := t.bind.setIfInBounds (d.val - 28) b }

/-- A register to bind: g28 to g31 (R268), not yet bound. -/
def State.chkBind (s : State) (w : Who) (i : Instr) (c : Nat) (d n : Fin 32) : M Unit := do
  illegalIf i (decide (d.val < 28))
  if ((s.th w).binding d).isSome then cbFault c n else .ok ()

/-- QBIND.POP (R268, R269). -/
def execQbindPop (d : Fin 32) (p : Fin 16) (n : Fin 32) (s : State) : Host.Outcome State Fault Refusal :=
  let i := Instr.qbindPop d p n
  issue i false 1 s fun w => do
    illegalIf i (decide (d.val < 28))
    s.cbSaved w i
    let _ ← s.cbOwned w n
    s.chkBind w i w.core d n
    if s.bound w.core n false then cbFault w.core n
    else .ok ((s.setBinding w d ⟨n, false, true, w.core, p, w.core⟩).retire w i)

/-- QBIND.PUSH: to a buffer of the issuing core, or to a remote one checked at that core (R63, R268, R269). -/
def execQbindPush (d a : Fin 32) (p : Fin 16) (n : Fin 32) (s : State) : Host.Outcome State Fault Refusal :=
  let i := Instr.qbindPush d a p n
  issue i false 1 s fun w => do
    illegalIf i (decide (d.val < 28))
    s.cbSaved w i
    s.chkCb w i
    let (x, s) ← s.readG w a
    let c := if x.toNat % 2048 = 0x7FF then w.core else x.toNat % 2048
    s.chkBind w i c d n
    let q := s.cb c n
    let ok := if c = w.core then s.inGrant w q else decide (c < 1536) && q.pkind == 1 && q.srccore == w.core
    if !ok || s.bound c n true then cbFault c n
    else
      let s := s.setBinding w d ⟨n, true, true, c, p, w.core⟩
      .ok (if c = w.core then s.retire w i else s.retireVar w i)

/-- QFREE (R63, R268). -/
def execQfree (d : Fin 32) (s : State) : Host.Outcome State Fault Refusal :=
  let i := Instr.qfree d
  issue i false 1 s fun w => do
    illegalIf i (decide (d.val < 28))
    s.cbSaved w i
    .ok ((s.setBinding w d Binding.none).retire w i)

/-! ## Queue vector instructions (R270, R271) -/

/-- VLDQ (R270). -/
def execVldq (d : Fin 16) (c : Fin 32) (e : EType) (s : State) : Host.Outcome State Fault Refusal :=
  let i := Instr.vldq d c e
  issue i false 1 s fun w => do
    s.fits w i e.size
    s.cbSaved w i
    let q ← s.cbOwned w c
    let n := (s.th w).vlN * e.size
    if !q.en || decide (q.bytes < n) || s.bound w.core c false then cbFault w.core c
    else if q.filled = 0 then .error (.park (.filled w.core c 1))
    else if q.tokenAt = some 0 then cbFault w.core c
    else
      s.lockFree w w.core
      s.sound w.core (q.addr q.cptr) n
      .ok (((s.writeV w d (natOf (s.lread w.core (q.addr q.cptr) n))).updCb w.core c fun q => q.advC 1).retireVar w i)

/-- VSTQ (R270). -/
def execVstq (d : Fin 16) (c : Fin 32) (e : EType) (s : State) : Host.Outcome State Fault Refusal :=
  let i := Instr.vstq d c e
  issue i false 1 s fun w => do
    s.fits w i e.size
    s.cbSaved w i
    let q ← s.cbOwned w c
    let n := (s.th w).vlN * e.size
    if !q.en || decide (q.bytes < n) || q.pkind != 0 || q.eos || s.bound w.core c true then cbFault w.core c
    else if q.filled = q.slots then .error (.park (.free w.core c 1))
    else
      s.lockFree w w.core
      .ok (((s.lwrite w.core (q.addr q.pptr) (bytesOf q.bytes (s.readV w d % 2 ^ (8 * n)))).updCb w.core c fun q => q.advP 1).retireVar w i)

/-- A register with element `i` replaced. -/
def putElem (es i v x : Nat) : Nat :=
  x % 2 ^ (8 * es * i) + v % 2 ^ (8 * es) * 2 ^ (8 * es * i) + x / 2 ^ (8 * es * (i + 1)) * 2 ^ (8 * es * (i + 1))

/-- One element folded into the pending subtrees: the element's carry up the levels whose bit of q is one (R271). -/
def redCarry (f : Nat → Nat → Nat) (es q x t : Nat) : Nat → Nat → Nat × Nat
  | 0, l => (l, t)
  | n + 1, l => if bitAt q l then redCarry f es q x (f (elem es (1 + l) x) t) n (l + 1) else (l, t)

/-- Element `i` of the slot taken into vd (R271). -/
def redElem (f : Nat → Nat → Nat) (es x i v : Nat) : Nat :=
  let g := 64 / es
  let q := i % g
  let (l, t) := redCarry f es q x v 7 0
  if q = g - 1 then putElem es 0 (f (elem es 0 x) t) x else putElem es (1 + l) t x

/-- The pending subtrees of a short last group, folded from the smallest level up (R271). -/
def redLast (f : Nat → Nat → Nat) (es m x : Nat) : Option Nat :=
  (List.range 7).foldl (fun r l =>
    if bitAt (m % (64 / es)) l then some (match r with | none => elem es (1 + l) x | some r => f (elem es (1 + l) x) r) else r) none

/-- VREDQ: one element of the slot at each turn, from element rcnt on, BUSY between them. Before each element the thread may be interrupted, with
the partial sum in vd and the count in rcnt (R107, R271). -/
def execVredq (d : Fin 16) (c : Fin 32) (e : EType) (s : State) : Host.Outcome State Fault Refusal :=
  let i := Instr.vredq d c e
  issue i false 1 s fun w => do
    s.fits w i e.size
    s.cbSaved w i
    let q ← s.cbOwned w c
    if !q.en || s.bound w.core c false then cbFault w.core c
    else if q.filled = 0 then .error (.park (.filled w.core c 1))
    else if q.tokenAt = some 0 then cbFault w.core c
    else
      s.lockFree w w.core
      let es := e.size
      let m := q.bytes / es
      let r := (s.th w).rcnt.toNat
      let f := RedOp.sum.eval e
      let (x, r) ←
        if r < m then do
          s.sound w.core (q.addr q.cptr + es * r) es
          .ok (redElem f es (s.readV w d) r (natOf (s.lread w.core (q.addr q.cptr + es * r) es)), r + 1)
        else .ok (s.readV w d, r)
      if r < m then .ok (((s.writeV w d x).updTh w fun t => { t with rcnt := BitVec.ofNat 64 r }).waitBusy w i .elements)
      else
        let v := match redLast f es m x with | some t => f (elem es 0 x) t | none => elem es 0 x
        let s := (s.writeV w d (v % 2 ^ (8 * es))).updTh w fun t => { t with rcnt := 0 }
        .ok ((s.updCb w.core c fun q => q.advC 1).retireVar w i)

end Sys2Proof.Machine
end

