-- ==== Sys2Proof/Machine/Launch.lean ====
section
/-! DEFINITION. Launches at the command processor: the checks on a header, acceptance, dispatch and dealing, and completion
(R87, R310, R313 to R318, R322, R328, R329, R345 to R348). -/

namespace Sys2Proof.Machine

/-! ## The checks of Table 12.3 -/

/-- What the command processor keeps of an admitted header: format and scale pointers, and dependences. -/
structure Admitted where
  fmt : Vector Word 4
  fsc : Vector Word 4
  deps : List Dep
deriving DecidableEq, Repr

/-- Reserved fields of the header (Table 12.1). -/
def hReservedZero (h : Nat) : Bool :=
  bits h 63 61 == 0 && !bitAt h 167 && bits h 175 174 == 0 && bits h 447 419 == 0 && bits h 511 502 == 0 && bits h 703 690 == 0
    && bits h 831 822 == 0 && bits h 895 884 == 0 && bits h 959 958 == 0

/-- WIDTHS meet R10. -/
def widthsOk (ws : Nat) : Bool :=
  widthOf ws 0 != 0 && ((List.range 5).all fun k => widthOf ws k != 0 || widthOf ws (k + 1) == 0) && decide (widS ws ≤ 64)

/-- Extents against widths (reason 0x04). -/
def extentsOk (h : Nat) : Bool :=
  ((List.range 6).all fun k =>
    decide (hX h k ≤ 2 ^ widthOf (hWidths h) k) && (!hNogrid h || hX h k == 1)) && decide (extProd h 0 6 ≤ 2 ^ 32)

/-- Dies of a set that implement every group of a mask. -/
def dieOk (dieset caps d : Nat) : Bool := bitAt dieset d && (List.range 6).all fun g => !bitAt caps g || bitAt (dieCaps d) g

/-- DIESET and CAPS (reason 0x07). -/
def placementOk (h : Nat) : Bool :=
  hDieset h != 0 && (List.range 6).all fun g => !bitAt (hCaps h) g || (List.range 8).any fun d => bitAt (hDieset h) d && bitAt (dieCaps d) g

/-- Explicit placement (reason 0x08). -/
def explOk (h : Nat) : Bool :=
  !hExpl h || (hTpc h != 0 &&
    (let n := ceilDiv (extProd h 0 6) (hTpc h)
     decide (hBcore h + n ≤ 1536) && (List.range 8).all fun d =>
       bitAt (hDieset h) d || decide (hBcore h + n ≤ 192 * d ∨ 192 * (d + 1) ≤ hBcore h)))

/-- Local memory and state window (reason 0x09). -/
def windowsOk (h : Nat) : Bool :=
  decide (hLmreq h ≤ 4096 ∧ hStwl h ≤ 2 ^ 16) && hStwoff h % 32 == 0 && hStwl h % 32 == 0
    && (hStwl h == 0 || decide (hStwoff h + hStwl h ≤ hLmreq h * 256))

/-- The save-area pool (reason 0x0A). -/
def saveOk (h : Nat) : Bool :=
  hSavecnt h != 0 && decide ((if (List.range 6).any fun d => bitAt (hDieset h) d then 96 else 64) ≤ hSavelen h) && hSavebase h % 32 == 0

/-- The format block, read on a FROZEN page: eight pointers (R314). -/
def State.formatBlock (s : State) (asid h : Nat) : M (List Nat) :=
  if hFmtblk h = 0 then .ok (List.replicate 8 0)
  else do
    failIf (hFmtblk h % 64 != 0) 0x05 0
    let bs ← s.frozenRead asid (hFmtblk h) 64
    .ok ((List.range 8).map fun n => natOf ((bs.drop (8 * n)).take 8))

/-- The dependence list, read on FROZEN or HOSTBUF pages (R315). -/
def State.depList (s : State) (asid h : Nat) : M (List Nat) := do
  failIf (hNdep h != 0 && hDeplist h % 8 != 0) 0x05 0
  (List.range (hNdep h)).foldlM (fun ds i => do
    let va := hDeplist h + 8 * i
    failIf (decide (2 ^ 54 ≤ va) || inLocal va) 0x09 0
    let x ← s.translate asid va .load
    failIf (!(pteKind x.pte == kFrozen || pteKind x.pte == kHostbuf)) 0x0B 0
    let bs ← s.checkedRead x.pa 8
    .ok (ds ++ [natOf bs])) []

/-- A dependence entry (Table 12.2). -/
def depOf (x : Nat) : Dep := ⟨if bitAt x 32 then bits x 11 0 else bits x 31 0, bitAt x 32, bits x 34 33⟩

/-- Whether an entry names something the table holds for the address space (reason 0x0C). The number of an arena takes the whole HANDLE field: one
with bits [31:12] set names none (log entry 90). -/
def State.depOk (s : State) (asid x : Nat) : Bool :=
  let d := depOf x
  if d.arena then decide (bits x 31 0 < 4096) && (s.arena? asid d.handle).isSome
  else d.mode != 3 && s.buffers.any fun b => !b.arena && b.handle == d.handle

/-- A layout image whose every descriptor HLTW would take (R172, reason 0x0E). -/
def State.layoutOk (s : State) (asid h : Nat) : Bool :=
  hLayout h == 0 || match s.frozenRead asid (hLayout h) 128 with
    | .ok bs => (List.range 64).all fun i =>
        let d := natOf ((bs.drop (2 * i)).take 2)
        d / 2 ^ 11 == 0 && decide (bits d 10 6 ≤ 16 ∧ bits d 5 0 + bits d 10 6 ≤ 64)
    | .error _ => false

/-- The error records of the reads that checking a header takes (R354). -/
def State.logHeader (s : State) (asid h : Nat) : State :=
  let s := (s.logRead (s.formatBlock asid h)).logRead (s.depList asid h)
  if hLayout h = 0 then s else s.logRead (s.frozenRead asid (hLayout h) 128)

/-- The first failing condition of Table 12.3, or what the header brings. A list or a format block of which a part cannot be read is not tested for
reserved fields (log entry 91). -/
def State.accepts (s : State) (asid h : Nat) : Except Nat Admitted :=
  let fb := (s.formatBlock asid h).toOption
  let dl := (s.depList asid h).toOption
  let fbRes := match fb with | some ps => ps.all fun p => p / 2 ^ 54 == 0 | none => true
  let dlRes := match dl with | some ds => ds.all fun x => x / 2 ^ 35 == 0 | none => true
  if !(hReservedZero h && fbRes && dlRes) then .error 0x01
  else if hEntry h % 4 != 0 || hImode h == 3 then .error 0x02
  else if !widthsOk (hWidths h) then .error 0x03
  else if !extentsOk h then .error 0x04
  else if hOlvl h == 6 || (hOlvl h != 7 && decide (nlev (hWidths h) ≤ hOlvl h)) then .error 0x05
  else if (hImode h == 1 || hImode h == 2) && !hVtime h then .error 0x06
  else if !placementOk h then .error 0x07
  else if !explOk h then .error 0x08
  else if !windowsOk h then .error 0x09
  else if !saveOk h then .error 0x0A
  else match fb, dl with
    | some ps, some ds =>
      if !(ds.all fun x => s.depOk asid x) then .error 0x0C
      else if 2 ^ 24 < barrierCells h then .error 0x0D
      else if !s.layoutOk asid h then .error 0x0E
      else .ok ⟨Vector.ofFn fun n => BitVec.ofNat 64 (ps.getD n.val 0), Vector.ofFn fun n => BitVec.ofNat 64 (ps.getD (4 + n.val) 0),
                ds.map depOf⟩
    | _, _ => .error 0x0B

/-! ## Launch numbers and work queues -/

/-- A launch that has no number yet. -/
def noNumber : Nat := 4096

/-- The first number from `n` on in the cycle of launch numbers that no launch holds; `f` numbers are tried (R317). -/
def State.freeNumber (s : State) (n : Nat) : Nat → Option Nat
  | 0 => none
  | f + 1 => if s.launches.any fun l => l.num == n then s.freeNumber ((n + 1) % 4096) f else some n

/-- The next launch number (R317). -/
def State.number? (s : State) : Option Nat := s.freeNumber s.nextNum 4096

/-- The control page of a work queue. -/
def State.wqPage (s : State) (q : Nat) : WqPage := s.wq.getD q WqPage.reset

def State.updWq (s : State) (q : Nat) (f : WqPage → WqPage) : State := { s with wq := s.wq.put q (f (s.wqPage q)) }

/-- A free-running 32-bit counter plus one. -/
def inc32 (x : Word) : Word := BitVec.ofNat 64 ((x.toNat + 1) % 2 ^ 32)

/-- Entries between two free-running 32-bit counters. -/
def span32 (tail head : Word) : Nat := (tail.toNat + 2 ^ 32 - head.toNat % 2 ^ 32) % 2 ^ 32

/-- Accepted launches of a queue that have no completion record yet. -/
def State.owed (s : State) (q : Nat) : Nat := (s.launches.filter fun l => l.queue == q).length

/-- Whether a queue has a completion entry to reserve (R346). -/
def State.cqRoom (s : State) (q : Nat) : Bool :=
  let p := s.wqPage q
  decide (span32 p.cqtail p.cqhead + s.owed q < p.cqsize.toNat)

/-- Whether the command processor may accept a queue's next record: none of the queue's earlier records still waits (R317, R346). -/
def State.acceptDue (s : State) (q : Nat) : Bool :=
  let p := s.wqPage q
  p.ctl.getLsbD 0 && span32 p.tail p.head != 0 && s.cqRoom q && s.number?.isSome
    && !(s.launches.any fun l => l.queue == q && l.st == .waiting && !l.ofDevice)

/-- The completion record (Table 15.4). -/
def completionRecord (num status : Nat) (phase : Bool) (reason : Nat) (trunc : Bool) (wqidx naux nrec rpidx gtime : Nat) : List Byte :=
  bytesOf 32 (num % 2 ^ 12 + status * 2 ^ 12 + b2n phase * 2 ^ 15 + reason % 256 * 2 ^ 16 + b2n trunc * 2 ^ 24 + wqidx % 2 ^ 32 * 2 ^ 32
    + naux % 2 ^ 32 * 2 ^ 64 + nrec % 2 ^ 32 * 2 ^ 96 + rpidx % 2 ^ 32 * 2 ^ 128 + gtime % 2 ^ 64 * 2 ^ 192)

/-- PHASE of the entry a counter names: 1 on the first pass (R347). -/
def phaseOf (tail size : Nat) : Bool := tail / size % 2 == 0

/-- A report record at RPTAIL, where it fits (R348). -/
def State.writeReport (s : State) (q : Nat) (r : List Byte) : State × Bool :=
  let p := s.wqPage q
  if span32 p.rptail p.rphead < p.rpsize.toNat then
    ((s.pwrite (p.rpbase.toNat + 64 * (p.rptail.toNat % p.rpsize.toNat)) r).updWq q fun p => { p with rptail := inc32 p.rptail }, true)
  else (s, false)

/-- Report records in order; the number written. -/
def State.writeReports (s : State) (q : Nat) : List (List Byte) → State × Nat
  | [] => (s, 0)
  | r :: rs =>
    match s.writeReport q r with
    | (s, true) => let (s, n) := s.writeReports q rs; (s, n + 1)
    | (s, false) => (s, 0)

/-- Reports, then the completion record, CQTAIL and the vector, in that order (R347). -/
def State.complete (s : State) (q num status reason wqidx naux : Nat) (reports : List (List Byte)) (irq : Option Nat) : State :=
  let rpidx := (s.wqPage q).rptail.toNat
  let (s, n) := s.writeReports q reports
  let p := s.wqPage q
  let size := max 1 p.cqsize.toNat
  let s := s.pwrite (p.cqbase.toNat + 32 * (p.cqtail.toNat % size))
    (completionRecord num status (phaseOf p.cqtail.toNat size) reason (decide (n < reports.length)) wqidx naux n rpidx s.gtime)
  let s := s.updWq q fun p => { p with cqtail := inc32 p.cqtail }
  match irq with
  | some v => s.raiseMsix v
  | none => s

/-- The interrupt a header asks for. -/
def hIrqVec (h : Nat) : Option Nat := if hIrq h then some (hMsix h) else none

/-- A launch as accepted (R346): from its queue's ring at `wqidx`, or from SPAWN.L, whose WQIDX is all ones (Table 15.4). -/
def newLaunch (key num h asid q : Nat) (wqidx : Option Nat) (arg : Word) (a : Admitted) : Launch :=
  { key := key, num := num, hdr := BitVec.ofNat 1024 h, arg := arg, fmt := a.fmt, fsc := a.fsc, deps := a.deps, asid := asid, queue := q,
    wqidx := wqidx.getD (2 ^ 32 - 1), ofDevice := wqidx.isNone, st := .waiting, odo := none, guest := none, peers := [], due := none,
    gvt := hVtbase h, hzn := hVtbase h, sent := (0, 0), recv := (0, 0), sentVt := (2 ^ 64 - 1, 2 ^ 64 - 1), balanced := false, sawEnd := false, sawStall := false, areas := [], barrier := [], spawned := [], unplaced := [], first := none, others := 0,
    withdrawn := 0, waiting := [], stops := 0 }

/-- LAUNCH_ACCEPT: the record at WQHEAD is read, WQHEAD advances, and the header is refused at once or waits for its dependences
(R316, R317, R346). -/
def State.accept (s : State) (q : Nat) : State :=
  if !s.acceptDue q then s
  else
    let p := s.wqPage q
    let asid := bits p.ctl.toNat 15 8
    let h := natOf (s.pread (p.base.toNat + 128 * (p.head.toNat % max 1 p.size.toNat)) 128)
    let wqidx := p.head.toNat % 2 ^ 32
    let s := s.updWq q fun p => { p with head := inc32 p.head }
    let r := s.accepts asid h
    let s := s.logHeader asid h
    match r with
    | .error r =>
      let n := s.number?.getD s.nextNum
      { s.complete q n 4 r wqidx 0 [] (hIrqVec h) with nextNum := (n + 1) % 4096 }
    | .ok a =>
      let l := newLaunch s.nextKey noNumber h asid q (some wqidx) (BitVec.ofNat 64 (hArg h)) a
      { s with launches := s.launches ++ [l], nextKey := s.nextKey + 1 }.post [.launchDispatch l.key]

/-! ## Dispatch of a launch (R87, R310, R317, R318, R335) -/

/-- Whether two dependences name one object. -/
def Dep.same (a b : Dep) : Bool := a.arena == b.arena && a.handle == b.handle

/-- Whether an earlier launch that has not ended holds a launch back (Table 11.3a). -/
def holdsBack (e l : Launch) : Bool :=
  decide (e.key < l.key) && l.deps.any fun d => e.deps.any fun x =>
    d.same x && (!d.arena || e.asid == l.asid) && (x.mode != 0 || d.mode != 0)

/-- Whether a launch may be dispatched: its dependences hold and an Odometer slot is free. -/
def State.dispatchDue (s : State) (l : Launch) : Bool :=
  l.st == .waiting && !(s.launches.any fun e => holdsBack e l) && decide ((s.launches.filter fun e => e.odo.isSome).length < 64)
    && (l.num != noNumber || s.number?.isSome)

/-- Work identifier of a linear index (R318). -/
def widOfIndex (h t : Nat) : Nat :=
  (List.range 6).foldl (fun w k =>
    let f := t / extProd h (k + 1) 6 % hX h k
    w * 2 ^ widthOf (hWidths h) k + f) 0

/-- The entry of a grid task. -/
def gridEntry (l : Launch) (t : Nat) (expl : Bool) : QEntry :=
  let h := l.h
  { task := ⟨l.num, BitVec.ofNat 64 (widOfIndex h t)⟩, work := .task l.arg (imodeOf (hImode h)) (BitVec.ofNat 64 (hVtbase h)) false,
    prio := hPrio h, passes := 0, mode := if hCaps h = 0 then 0 else 2, die := 0, groups := hCaps h, bound := false, cluster := none,
    expl := expl }

/-- A new directory entry, of a task not yet placed (R101). -/
def newTask (id : TaskId) (imode : IMode) (prio owner : Nat) (lvt vtwin : Word) (spawned : Bool) : Task :=
  { id := id, place := .queued, spawned := spawned, imode := imode, prio := prio, owner := owner, seq := 0, episode := .replicate 6 0,
    pending := .replicate 6 false, area := none, grant := none, inbox := [], notices := [], hold := [], epochs := [], lastKey := none,
    refused := [], posted := [], deferred := [], parked := false, lvt := lvt, vtwin := vtwin, parkWhy := .recv, ready := false, preds := [],
    mcheck := none, capDie := none, migrAt := none }

/-- The least level whose LPLC is not FREE (R318). -/
def bindingLevel (h : Nat) : Option Nat := (List.range (nlev (hWidths h))).find? fun l => hLplc h l != 0

/-- The units of a grid, in ascending linear index, each with its first index and size. -/
def gridUnits (h : Nat) : List (Nat × Nat) :=
  let total := if hNogrid h then 1 else extProd h 0 6
  let size := match bindingLevel h with
    | some b => groupSize h b
    | none => 1
  (List.range (ceilDiv total size)).map fun u => (u * size, size)

/-- The dies units are dealt to: those of DIESET that implement CAPS, ascending. -/
def dealDies (h : Nat) : List Nat := (List.range 8).filter (dieOk (hDieset h) (hCaps h))

/-- The grid dealt (R318): units in transit to the dies in turn, or, with EXPL, entries on the named cores' run queues. -/
def State.deal (s : State) (l : Launch) : State :=
  let h := l.h
  let total := if hNogrid h then 1 else extProd h 0 6
  let owner (e : QEntry) : Nat := ownerTag h e.task.wid.toNat
  let es := (List.range total).map fun t => gridEntry l t (hExpl h)
  let entry (e : QEntry) : Task :=
    newTask e.task (imodeOf (hImode h)) e.prio (owner e) (BitVec.ofNat 64 (hVtbase h)) (BitVec.ofNat 64 (hVtwin h)) false
  let s := { s with tasks := s.tasks ++ es.map entry }
  if hExpl h then
    (es.zipIdx).foldl (fun s (e, t) => s.enqueue (hBcore h + t / max 1 (hTpc h)) e) s
  else
    let dies := dealDies h
    let place := match bindingLevel h with | some b => hLplc h b | none => 0
    s.post ((gridUnits h).zipIdx.map fun ((t0, n), u) =>
      Event.unitPlacement (dies.getD (u % max 1 dies.length) 0) ⟨l.num, place, (es.drop t0).take n⟩)

/-- Cells of an arena set to bottom with state OPEN; cells that translate nowhere are passed over, with the error record of a malformed entry (R45,
R354). -/
def State.resetCells (s : State) (ar : Arena) (va : Nat) : Nat → State
  | 0 => s
  | n + 1 =>
    let s := match s.translate ar.asid va .lwrite with
      | .ok x =>
        if populated x.pa then
          (s.pwrite x.pa (bytesOf (cellBytes ar.size) (if ar.kind = 6 ∨ ar.kind = 8 ∨ ar.kind = 9 then 0 else bottom ar.kind))).setCodes x.pa 0
            (cellBytes ar.size / 8)
        else s
      | .error e => s.logWalk e
    s.resetCells ar (va + cellBytes ar.size) n

/-- Copies of frozen data discarded in every L1 cache, coefficient store and remote-data cache, where they hold a granule that `p` names by address
space and virtual address (CINV, R234). -/
def State.dropWhere (s : State) (p : Nat → Nat → Bool) : State :=
  { s with cores := s.cores.map (fun (c, k) =>
             (c, { k with icache := k.icache.filter fun i => !p i.asid i.va, dcache := k.dcache.filter fun l => !(l.frozen && p l.asid l.va),
                          coefs := k.coefs.filter fun t =>
                            !((List.range (t.bytes.length / 32 + 1)).any fun i => p t.asid (t.va.toNat / 32 * 32 + 32 * i)) })),
           rdc := s.rdc.map (fun (d, ls) => (d, ls.filter fun i => !p i.asid i.va)) }

/-- CINV of a range; an empty one holds no granule (R234). -/
def State.dropCopies (s : State) (asid va len : Nat) : State :=
  s.dropWhere fun a v => a == asid && decide (len ≠ 0 ∧ v < va + len ∧ va / 32 * 32 < v + 32)

/-- The physical 4 KiB page of a virtual address, where its home holds it in this package. -/
def State.pageOf (s : State) (asid va : Nat) : Option Nat :=
  match s.lookup asid va with
  | .ok (_, e, _) => if bitAt e 128 then none else some (pteFrame e + va % 2 ^ pageShift (pteSize e) / 2 ^ 12)
  | .error _ => none

/-- CINV of the pages that the host has written since they were last read (Table 11.3a). -/
def State.dropHostPages (s : State) : State :=
  if s.hostPages.isEmpty then s
  else { s.dropWhere (fun a v => (s.pageOf a v).any s.hostPages.contains) with hostPages := [] }

/-- An arena recycled to bottom after CINV of its range (R45, R310). -/
def State.recycle (s : State) (ar : Arena) : State :=
  let s := s.dropCopies ar.asid ar.base ar.len
  let s := s.resetCells ar ar.base (ar.len / cellBytes ar.size)
  let s := s.updArena ar fun a => { a with st := 0, nconf := 0 }
  { s with reported := s.reported.filter fun (a, va, _) => !(a == ar.asid && decide (ar.base ≤ va ∧ va < ar.base + ar.len)) }

/-- The buffer-table actions before a launch is dispatched (Table 11.3a): CINV of the pages that the host wrote, recycles, and the record of who
reads and writes. -/
def State.tableActions (s : State) (l : Launch) : State :=
  l.deps.foldl (fun s d =>
    let s := if d.arena && d.mode == 3 then (match s.arena? l.asid d.handle with | some ar => s.recycle ar | none => s) else s
    let mark (b : Buffer) : Buffer :=
      { b with writer := if d.mode = 0 then b.writer else some l.num,
               readers := if d.mode = 0 ∨ d.mode = 2 then b.readers ++ [l.num] else b.readers }
    { s with buffers := updFirst (fun b => b.arena == d.arena && b.handle == d.handle && (!d.arena || b.asid == l.asid)) mark s.buffers }) s.dropHostPages

/-- An Odometer slot that no launch holds. -/
def State.freeOdo (s : State) : Option Nat := (List.range 64).find? fun o => !(s.launches.any fun l => l.odo == some o)

/-- LAUNCH_DISPATCH: number, buffer-table actions, Odometer slot with GVT and HZN at VTBASE, barrier cells at bottom, and the deal
(R87, R310, R317, R318, R322, R335). -/
def State.dispatch (s : State) (key : Nat) : State :=
  match s.launches.find? fun l => l.key == key with
  | none => s
  | some l =>
    if !s.dispatchDue l then s
    else
      let n := if l.num = noNumber then s.number?.getD s.nextNum else l.num
      let s := if l.num = noNumber then { s with nextNum := (n + 1) % 4096 } else s
      let l' := { l with num := n, st := .live, odo := s.freeOdo, barrier := [] }
      let s := { s with launches := updFirst (fun x => x.key == key) (fun _ => l') s.launches }
      (s.tableActions l').deal l'

/-! ## Stops (R100) -/

/-- A queue entry of a launch dropped: its task ends, its save area returns to the pool. -/
def State.dropEntry (s : State) (e : QEntry) : State :=
  match e.work with
  | .savedCodelet r => s.freeArea e.task.launch r.area
  | .codelet .. => s
  | _ => match s.task? e.task with
    | some t => match t.place with
      | .on _ _ | .migrating | .exited => s
      | _ => s.discardTask t
    | none => s

/-- The entries of a launch dropped from every queue (R100 step 1, R317). -/
def State.dropQueued (s : State) (launch : Nat) : State :=
  let mine (e : QEntry) : Bool := e.task.launch == launch
  let es := s.ready.toList.flatten.filter mine
    ++ s.cores.flatMap (fun (_, k) => k.runq.filter mine ++ (k.heldLets.map Prod.snd).filter mine)
  let s := { s with ready := s.ready.map fun l => l.filter fun e => !mine e,
                    cores := s.cores.map fun (c, k) =>
                      (c, { k with runq := k.runq.filter fun e => !mine e, heldLets := k.heldLets.filter fun e => !mine e.2 }) }
  es.foldl State.dropEntry s

/-- A GRANT event whose reserved slot is given up settles nothing: the one that is being handled, or the one that still stands in the event queue
(R372). -/
def State.dropGrant (s : State) (w : Who) : State :=
  if (s.core w.core).granting = some w.slot then s.updCore w.core fun k => { k with granting := none }
  else s.upd w fun x => { x with oldGrants := x.oldGrants + 1 }

/-- Reserved slots of a stopped launch that await a grant are given up; their areas return to the pool. -/
def State.dropReserved (s : State) (launch : Nat) : State :=
  let ws := s.cores.flatMap fun (c, k) => (List.finRange 16).filterMap fun sl =>
    match k.slots[sl].st, k.slots[sl].resv with
    | .reserved, some e => if e.task.launch = launch then some (Who.mk c sl, e) else none
    | _, _ => none
  ws.foldl (fun s (w, e) =>
    let s := match e.work with
      | .task .. | .codelet .. => s.freeArea launch (s.at w).area
      | _ => s
    ((s.upd w Slot.emptied).dropGrant w).dropEntry e) s

/-- LARM entries, waiters, commit-queue entries and queued engine commands of a launch dropped from a core. -/
def Core.dropWork (k : Core) (launch : Nat) : Core :=
  let other (t : TaskId) : Bool := t.launch != launch
  { k with waiters := k.waiters.filter (fun x => other x.task), tileWait := k.tileWait.filter (fun q => other q.task),
           commitq := k.commitq.filter fun e => other e.task, mxq := k.mxq.filter fun q => other q.task,
           copyq := k.copyq.filter fun q => other q.task,
           collq := k.collq.filter fun q => other q.task, landing := k.landing.filter fun x => other x.task,
           ingress := k.ingress.filter fun x => x.1.launch != launch }

/-- The threads of a launch that wait for a tile-command queue go on: their commands are dropped (R100). -/
def State.dropTileWait (s : State) (launch : Nat) : State :=
  (s.cores.flatMap fun (c, k) => (k.tileWait.filter fun q => q.task.launch == launch).map fun q => Who.mk c q.slot).foldl (fun (s : State) w =>
    (s.upd w fun x => { x with busy := .completing }).post [.instructionCompletion w.core w.slot]) s

/-- The spilled waiters of a launch dropped, and their records freed. -/
def State.dropSpilled (s : State) (launch : Nat) : State :=
  (s.cores.filter fun x => x.2.spilled.any fun y => y.task.launch == launch).foldl (fun (s : State) x =>
    s.keepSpilled x.1 (x.2.spilled.filter fun y => y.task.launch != launch)) s

/-- What a stopped launch has at its tasks, cores and engines discarded (R100 steps 1, 3 and 4). Started commands complete, but those that
wait are abandoned: buckets that lack blocks here, MXU and copy commands when they next find themselves waiting. -/
def State.dropWork (s : State) (launch : Nat) : State :=
  let clear (t : Task) : Task :=
    if t.id.launch = launch then { t with inbox := [], notices := [], hold := [], epochs := [], refused := [] } else t
  let s := (s.dropTileWait launch).dropSpilled launch
  let goes (b : Bucket) : Bool := b.cmd.task.launch != launch || !b.lacksBlocks
  let leaves (x : WireBlock) : Bool := (s.buckets.filter goes).any fun b => b.ring == x.ring && b.bucket == x.bucket
  { s with cores := s.cores.map (fun (c, k) => (c, k.dropWork launch)), buckets := s.buckets.filter goes,
           portWait := s.portWait.filter (fun x => x.2.1 != launch || leaves x.2.2.2), latWait := s.latWait.filter (fun x => x.2.2.task.launch != launch),
           flitWait := s.flitWait.filter (fun x => x.2.2.launch != launch), flits := s.flits.filter (fun f => f.launch != launch),
           hostMsgs := s.hostMsgs.filter (fun m => m.launch != launch), tasks := s.tasks.map clear }

/-- Driver stops on their way to every thread of a launch (R100 step 2). -/
def State.stopThreads (s : State) (launch : Nat) : State :=
  s.post (s.cores.flatMap fun (c, k) => (List.finRange 16).filterMap fun sl =>
    let x := k.slots[sl]
    if x.launched && x.st != .empty && x.st != .reserved && x.task.launch == launch then some (Event.driverStop c sl) else none)

/-- The swapped-out tasks of a stopped launch discarded, READY posted for those the firmware holds (R100, R374). -/
def State.discardAll (s : State) (launch : Nat) : State :=
  s.tasks.foldl (fun s t =>
    if t.id.launch = launch then
      match (s.task? t.id).map Task.place with
      | some (.out _) | some (.held ..) | some (.reclaimed _) | some .queued =>
        (match s.task? t.id with | some t => s.discardTask t | none => s)
      | _ => s
    else s) s

/-- LAUNCH_STOP at the command processor: the first fault report is kept and later ones counted; the first stop marks the launch and
takes its steps (R100, R351). -/
def State.stopLaunch (s : State) (launch : Nat) (kind : StopKind) (rep : Option Report) : State :=
  match s.launch? launch with
  | none => s
  | some l =>
    let s := match rep with
      | some r => s.updLaunch launch fun l => match l.first with
        | none => match l.st with
          | .stopped .driver | .stopped .stall => { l with others := l.others + 1 }
          | _ => { l with first := some r }
        | some _ => { l with others := l.others + 1 }
      | none => s
    match l.st with
    | .live =>
      let arms := s.cores.foldl (fun n (_, k) =>
        n + ((k.waiters ++ k.spilled).filter fun x => x.task.launch == launch && x.arm.isSome).length) 0
      let s := s.updLaunch launch fun l => { l with st := .stopped kind, withdrawn := l.withdrawn + arms, odo := none, due := none, unplaced := [] }
      (((((s.dropQueued launch).dropReserved launch).dropWork launch).discardAll launch).stopThreads launch)
    | .stopped _ => if kind = .driver then s.updLaunch launch fun l => { l with others := l.others + 1 } else s
    | _ => s

/-! ## Completion (R328, R329, R347, R348) -/

/-- The 64 bytes of a fault report (Table 15.5). -/
def reportRecord (r : Report) : List Byte :=
  bytesOf 64 (r.src % 8 + r.code % 64 * 2 ^ 3 + r.sub % 256 * 2 ^ 9 + r.core % 2 ^ 11 * 2 ^ 17 + r.slot % 16 * 2 ^ 28 + r.wid.toNat * 2 ^ 64
    + r.pc.toNat * 2 ^ 128 + r.tval.toNat * 2 ^ 192 + r.tag.toNat * 2 ^ 256)

/-- Status code, reason and report records of a launch that ends or has been stopped (Tables 12.4, 15.4, R348). -/
def Launch.outcome (l : Launch) : Nat × Nat × Nat × List (List Byte) :=
  match l.st with
  | .stopped .fault => match l.first with
    | some r => (1, r.code, l.others, [reportRecord r])
    | none => (1, 0, l.others, [])
  | .stopped .stall => (2, 0, l.waiting.length, l.waiting)
  | .stopped .driver => (3, 0, 0, [reportRecord { src := 3, code := 0x21, sub := 2, core := 0x7FF, slot := 0, wid := 0, pc := 0, tval := 0, tag := 0, cmd := none }])
  | _ => (0, 0, l.withdrawn, [])

/-- LAUNCH_COMPLETION: reports, completion record, CQTAIL, vector; then the launch's number, slots and directory entries are free, and
its barrier arena is recycled (R322, R347). Arenas it froze stand in memory already (R310). -/
def State.completeLaunch (s : State) (launch : Nat) : State :=
  match s.launch? launch with
  | none => s
  | some l =>
    match l.st with
    | .waiting | .live => s
    | _ =>
      let (status, reason, naux, reps) := l.outcome
      let s := s.complete l.queue l.num status reason l.wqidx naux reps (hIrqVec l.h)
      { s with launches := delFirst (fun x => x.key == l.key) s.launches, cores := s.cores.map (fun (c, k) =>
                 (c, if k.layoutOf = some launch then { k with layoutOf := none } else k)), tasks := s.tasks.filter fun t => t.id.launch != launch,
               reported := s.reported.filter fun (_, _, n) => n != launch,
               buffers := s.buffers.map fun b => { b with readers := b.readers.filter fun n => n != launch } }

end Sys2Proof.Machine
end

