-- ==== Sys2Proof/Machine/Place.lean ====
section
/-! DEFINITION. Die schedulers and run queues: placement of units, offers, aging, the filling of slots, grants, entry state, stealing and
eviction (R26, R319 to R327, R331, R372). -/

namespace Sys2Proof.Machine

/-! ## Free slots and eligibility -/

/-- Whether a slot is a user slot that is EMPTY and not reserved. -/
def Core.freeSlot (k : Core) (sl : Fin 16) : Bool := decide (sl.val < 14) && k.slots[sl].st == .empty

/-- The EMPTY user slots of a core. -/
def Core.freeSlots (k : Core) : List (Fin 16) := (List.finRange 16).filter k.freeSlot

/-- A launch's save-area pool has a free area; the one of lowest number (R325). -/
def Launch.freeArea (l : Launch) : Option Nat := (List.range (min (hSavecnt l.h) (l.areas.length + 1))).find? fun n => !l.areas.contains n

/-- What a dispatch of an entry needs of the firmware (R372): RESUME, length in 256-byte units, and recorded base. -/
def State.grantNeed (s : State) (e : QEntry) : Option (Bool × Nat × Nat) :=
  let resume (g : Option (Nat × Nat × Nat)) : Option (Bool × Nat × Nat) := g.map fun (_, b, n) => (true, n / 256, b)
  match e.work with
  | .saved => resume ((s.task? e.task).bind Task.grant)
  | .savedCodelet r => resume r.grant
  | _ => match s.launch? e.task.launch with
    | some l => if hLmreq l.h = 0 then none else some (false, hLmreq l.h, 0)
    | none => none

/-- The task that a RECLAIM under way waits for (R86, R108): it is not ready meanwhile. -/
def State.reclaims (s : State) (id : TaskId) : Bool :=
  let r := s.regs
  r.dcbusy && r.dccmd.toNat % 256 == 9 && id == ⟨r.dcarg1.toNat, r.dcarg2⟩

/-- Whether a core can take work: its firmware has started it, it is not DEAD and its die is not cut off (R369, R390). -/
def State.usable (s : State) (c : Nat) : Bool := (s.core c).started && !(s.core c).dead && !s.cutDies.contains (dieOf c)

/-- Whether a core may take an entry now (R171, R319, R320, R325, R369, R372). -/
def State.eligible (s : State) (c : Nat) (e : QEntry) : Bool :=
  let k := s.core c
  s.usable c && s.layoutFits c e.task.launch && (match e.cluster with | some q => q == c / 8 | none => true)
    && (match e.work with
        | .task .. | .codelet .. => ((s.launch? e.task.launch).bind Launch.freeArea).isSome
        | .saved => !s.reclaims e.task
        | _ => true)
    && (match k.grantHold with
        | some t => (s.grantNeed e).isNone || decide (t ≤ s.gtime)
        | none => true)

/-- The eligible entry a queue gives out: highest priority, oldest. -/
def bestOf (ok : QEntry → Bool) (q : List QEntry) : Option QEntry := argMin QEntry.prio (q.filter ok)

/-- One pass counted by an entry passed over; on the 64th it moves to the tail of the next higher priority (R321). -/
def age (ok : QEntry → Bool) (q : List QEntry) : List QEntry :=
  let q := q.map fun e => if ok e && e.prio != 0 then { e with passes := e.passes + 1 } else e
  q.filter (fun e => decide (e.passes < 64))
    ++ (q.filter fun e => decide (64 ≤ e.passes)).map fun e => { e with passes := 0, prio := e.prio - 1 }

/-- A queue after it has given out an entry (R321). -/
def giveOut (ok : QEntry → Bool) (e : QEntry) (q : List QEntry) : List QEntry := age ok (q.erase e)

/-- The cores of a die. -/
def coresOf (d : Nat) : List Nat := (List.range 192).map fun k => 192 * d + k

/-- The own run-queue entry of a core that it may take. -/
def State.ownEntry (s : State) (c : Nat) : Option QEntry := bestOf (s.eligible c) (s.core c).runq

/-- Whether a core takes its own entry before a die entry of priority `p`. -/
def State.prefersOwn (s : State) (c p : Nat) : Bool :=
  match s.ownEntry c with
  | some e => decide (e.prio ≤ p)
  | none => false

/-- The entry that the die scheduler offers a core: its best eligible one, unless a core with more EMPTY slots is offered it first (R320). -/
def State.offer (s : State) (c : Nat) : Option QEntry :=
  let d := dieOf c
  match bestOf (s.eligible c) (s.ready.toList.getD d []) with
  | none => none
  | some e =>
    let n := (s.core c).freeSlots.length
    let first (c' : Nat) : Bool :=
      let n' := (s.core c').freeSlots.length
      n' != 0 && (decide (n < n') || (n == n' && decide (c' < c))) && s.eligible c' e && !s.prefersOwn c' e.prio
    if (s.cores.map Prod.fst).any fun c' => dieOf c' == d && c' != c && first c' then none else some e

/-! ## Entry state (R26, R326, R331) -/

/-- Base of the local window. -/
def localBase : Nat := 0x003F000000000000

/-- The thread a new task or codelet starts as. -/
def entryThread (l : Launch) (gb gl : Nat) (wid pc arg lvt : Word) (imode : IMode) (codelet : Bool) : Thread :=
  let h := l.h
  { Thread.zero with
    g := ((Thread.zero.g.set 2 (if hLmreq h = 0 then 0 else BitVec.ofNat 64 (localBase + gb + gl))).set 3 wid).set 4 arg
    pc := pc, fmt := l.fmt, fsc := l.fsc, seed := BitVec.ofNat 64 (hSeed h), lvt := lvt, vtwin := BitVec.ofNat 64 (hVtwin h)
    stwb := BitVec.ofNat 64 (localBase + gb + hStwoff h), stwl := BitVec.ofNat 64 (hStwl h), widl := BitVec.ofNat 64 (widlOf (hWidths h))
    imode := imode, codelet := codelet }

/-- A new task or codelet enters a slot in RUN (R26). -/
def State.startThread (s : State) (w : Who) (l : Launch) (e : QEntry) (area : Option Nat) (gb gl : Nat) (pc arg lvt : Word) (imode : IMode)
    (codelet : Bool) : State :=
  let owner := ownerTag l.h e.task.wid.toNat
  let s := (s.loadLayout w.core l.num).logRecords l.asid owner l.fmt
  s.upd w fun x =>
    { x.emptied with st := .run, th := entryThread l gb gl e.task.wid pc arg lvt imode codelet, launched := true, task := e.task, asid := l.asid,
                     owner := owner, prio := e.prio, recs := s.records l.asid owner l.fmt, area := area,
                     grbase := BitVec.ofNat 64 gb, grlen := BitVec.ofNat 64 gl, dstop := s.stopped l.num }

/-- An entry enters a slot with its grant: a new task or codelet starts, a saved one is loaded (R103, R320, R399). A refused image leaves the
slot EMPTY and the task swapped out. A codelet keeps a priority that aging has raised; a task has its own again (log entry 92). -/
def State.enterSlot (s : State) (w : Who) (e : QEntry) (area : Option Nat) (gb gl : Nat) : State :=
  match s.launch? e.task.launch with
  | none => s.upd w Slot.emptied
  | some l =>
    let load (r : Option LetRec) : State :=
      let s := s.upd w fun x => { x with grbase := BitVec.ofNat 64 gb, grlen := BitVec.ofNat 64 gl }
      match s.savedImage w.core e.task r with
      | .ok img =>
        if imageOk (isK8 w.core) img then
          s.placeImage w e.task img r (match r with | some _ => e.prio | none => ((s.task? e.task).map Task.prio).getD e.prio) false
        else (s.imageRefused w l.num 0).upd w Slot.emptied
      | .error x => ((s.logWalk x).imageRefused w l.num 0).upd w Slot.emptied
    match e.work with
    | .saved => load none
    | .savedCodelet r => load (some r)
    | .codelet pc arg lvt => s.startThread w l e area gb gl pc arg lvt .fifo true
    | .task arg imode lvt _ =>
      let prio := ((s.task? e.task).map Task.prio).getD e.prio
      let s := s.startThread w l { e with prio := prio } area gb gl (BitVec.ofNat 64 (hEntry l.h)) arg lvt imode false
      let ds := ((s.task? e.task).map Task.deferred).getD []
      let s := s.updTask e.task fun t =>
        { t with place := .on w.core w.slot, area := area, grant := if hLmreq l.h = 0 then none else some (w.core, gb, gl), deferred := [] }
      (s.releasePlaced e.task).applyDeferred w ds

/-! ## Grants (R372) -/

/-- The tval of a GRANT event (Table 16.1). -/
def grantTval (slot : Nat) (need : Bool × Nat × Nat) : Nat :=
  slot + b2n need.1 * 16 + need.2.1 % 2 ^ 13 * 2 ^ 5 + need.2.2 % 2 ^ 20 * 2 ^ 18

/-- An entry given to an EMPTY slot: at once, or reserved with a GRANT event posted (R320, R325, R372). -/
def State.dispatchEntry (s : State) (w : Who) (e : QEntry) : State :=
  let new := match e.work with | .task .. | .codelet .. => true | _ => false
  let area := if new then (s.launch? e.task.launch).bind Launch.freeArea else none
  let s := match area with
    | some n => s.updLaunch e.task.launch fun l => { l with areas := l.areas ++ [n] }
    | none => s
  match s.grantNeed e with
  | some need =>
    ((s.loadLayout w.core e.task.launch).upd w fun x =>
      { x.emptied with st := .reserved, resv := some e, area := area, launched := true, task := e.task }).postWake w.core 0x05 (grantTval w.slot.val need)
  | none => s.enterSlot w e area 0 0

/-- The ERET that ends the handling of a GRANT event: the reserved slot's grant is accepted or refused (R372). -/
def State.grantDone (s : State) (c : Nat) : State :=
  match (s.core c).granting with
  | none => s
  | some sl =>
    let w : Who := ⟨c, sl⟩
    let s := s.updCore c fun k => { k with granting := none }
    let x := s.at w
    match x.st, x.resv with
    | .reserved, some e =>
      match s.grantNeed e with
      | none => s.enterSlot w e x.area 0 0
      | some (_, units, _) =>
        let b := x.grbase.toNat
        let n := x.grlen.toNat
        if b % 256 = 0 ∧ 256 * units ≤ n ∧ b + n ≤ 2 ^ 20 then s.enterSlot w e x.area b (256 * units)
        else
          let s := s.freeArea e.task.launch x.area
          (s.upd w Slot.emptied).updCore c fun k => { k with runq := e :: k.runq, grantHold := some (s.gtime + 4096) }
    | _, _ => s

/-! ## SLOT_FILL (R320) -/

/-- SLOT_FILL: the lowest-numbered EMPTY user slot takes the core's own entry or its die's, the one of higher priority. -/
def State.fillSlot (s : State) (c : Nat) : State :=
  match (s.core c).freeSlots with
  | [] => s
  | sl :: _ =>
    let w : Who := ⟨c, sl⟩
    let ok := s.eligible c
    let own := s.ownEntry c
    let die := s.offer c
    let takeOwn (e : QEntry) : State := (s.updCore c fun k => { k with runq := giveOut ok e k.runq }).dispatchEntry w e
    let takeDie (e : QEntry) : State :=
      { s with ready := s.ready.setIfInBounds (dieOf c) (giveOut ok e (s.ready.toList.getD (dieOf c) [])) }.dispatchEntry w { e with passes := 0 }
    match own, die with
    | some e, some f => if e.prio ≤ f.prio then takeOwn e else takeDie f
    | some e, none => takeOwn e
    | none, some f => takeDie f
    | none, none => s

/-- Whether a core can fill a slot now. -/
def State.fillDue (s : State) (c : Nat) : Bool :=
  let k := s.core c
  s.usable c && !k.freeSlots.isEmpty && ((s.ownEntry c).isSome || (s.offer c).isSome)

/-- SLOT_FILL (R320). -/
def execSlotFill (s : State) : Host.Outcome State Fault Refusal :=
  takeEvent s fun e => match e with | .slotFill c => some fun s => s.fillSlot c | _ => none

/-- GRANT_RETRY: 4,096 cycles have passed since a grant was refused; the core may post GRANT again (R372). -/
def execGrantRetry (s : State) : Host.Outcome State Fault Refusal :=
  takeEvent s fun e => match e with
    | .grantRetry c => some fun s => s.updCore c fun k => { k with grantHold := none }
    | _ => none

/-! ## UNIT_PLACEMENT (R319) -/

/-- Free user slots of a core less the entries placed on its run queue. -/
def State.coreRoom (s : State) (c : Nat) : Int := ((s.core c).freeSlots.length : Int) - (s.core c).runq.length

/-- Free user slots of a cluster less the entries tagged with it. -/
def State.clusterRoom (s : State) (q : Nat) : Int :=
  (((List.range 8).foldl (fun n k => n + (s.core (8 * q + k)).freeSlots.length) 0 : Nat) : Int)
    - ((s.ready.toList.getD (q / 24) []).filter fun e => e.cluster == some q).length

/-- The member of a list of greatest `f`, the first of several. -/
def argMax (f : Nat → Int) : List Nat → Option Nat
  | [] => none
  | x :: xs =>
    match argMax f xs with
    | none => some x
    | some y => if f y ≤ f x then some x else some y

/-- A list cut into runs of equal key. -/
def runsBy (key : QEntry → Nat) : List QEntry → List (List QEntry)
  | [] => []
  | x :: xs =>
    match runsBy key xs with
    | [] => [[x]]
    | [] :: rest => [x] :: rest
    | (y :: ys) :: rest => if key x = key y then (x :: y :: ys) :: rest else [x] :: (y :: ys) :: rest

/-- The entries of a level-`lvl` group placed on a die: CORE to one run queue, CLUSTER tagged with one cluster, deeper levels inside it; the
rest stay in the die queue (R318, R319). -/
def State.placeGroup (s : State) (d h : Nat) (cl : Option Nat) (lvl : Nat) (es : List QEntry) : Nat → State
  | 0 => es.foldl (fun s e => s.pushReady d { e with cluster := cl }) s
  | f + 1 =>
    if nlev (hWidths h) ≤ lvl then es.foldl (fun s e => s.pushReady d { e with cluster := cl }) s
    else
      let cores := match cl with
        | some q => (List.range 8).map fun k => 8 * q + k
        | none => coresOf d
      match hLplc h lvl with
      | 3 => match argMax s.coreRoom cores with
        | some c => es.foldl (fun s e => s.enqueue c e) s
        | none => s
      | m =>
        let cl := if m = 2 ∧ cl.isNone then argMax s.clusterRoom ((List.range 24).map fun q => 24 * d + q) else cl
        (runsBy (fun e => widGroup (hWidths h) e.task.wid.toNat (lvl + 1)) es).foldl (fun s g => s.placeGroup d h cl (lvl + 1) g f) s

/-- UNIT_PLACEMENT: a unit reaches its die; one of a stopped launch is dropped (R317, R319). -/
def State.placeUnit (s : State) (d : Nat) (u : DealtUnit) : State :=
  match s.launch? u.launch with
  | none => s
  | some l =>
    if s.stopped u.launch then u.entries.foldl State.dropEntry s
    else
      let es := u.entries.map fun e => { e with bound := u.place != 0 }
      s.placeGroup d l.h none ((bindingLevel l.h).getD 6) es 7

/-- UNIT_PLACEMENT (R319). -/
def execUnitPlacement (s : State) : Host.Outcome State Fault Refusal :=
  takeEvent s fun e => match e with | .unitPlacement d u => some fun s => s.placeUnit d u | _ => none

/-! ## Stealing (R323) -/

/-- Whether a victim may answer a thief with an entry. -/
def State.stealable (s : State) (thief : Nat) (e : QEntry) : Bool :=
  !e.bound && !e.expl && e.mode != 1
    && (match s.launch? e.task.launch with
        | some l => dieOk l.dieset (Nat.lor (hCaps l.h) (if e.mode = 2 then e.groups else 0)) thief
        | none => false)
    && (match e.work with
        | .saved => match s.task? e.task with
          | some t => t.grant.isNone && t.epochs.isEmpty && !(s.cores.any fun (_, k) => k.commitq.any fun c => c.task == e.task)
          | none => false
        | .savedCodelet r => r.grant.isNone
        | _ => true)

/-- A die scheduler is idle: no entry of its queues is eligible for any of its cores, and a user slot is EMPTY. -/
def State.idleDie (s : State) (d : Nat) : Bool :=
  let cs := s.cores.filter fun (c, _) => dieOf c == d && s.usable c
  cs.any (fun (_, k) => !k.freeSlots.isEmpty) && !((s.ready.toList.getD d []).any fun e => cs.any fun (c, _) => s.eligible c e)

/-- The dies a thief asks, in order: its neighbours ascending, then the others ascending (R323). -/
def victims (thief : Nat) : List Nat :=
  let ring := (List.range 8).filter fun d => hops thief d == 1
  ring ++ (List.range 8).filter fun d => hops thief d == 2

/-- Whether a thief may send a request to a victim: at most one every 256 cycles. -/
def State.mayAsk (s : State) (thief v : Nat) : Bool :=
  match s.steals.find? (8 * thief + v) with
  | some t => decide (t + 256 ≤ s.gtime)
  | none => true

/-- A request sent to the next victim of a list that may be asked; with none left the thief has no request outstanding. -/
def State.askNext (s : State) (thief : Nat) (vs : List Nat) : State :=
  match vs.find? (s.mayAsk thief) with
  | some v =>
    { s with steals := s.steals.put (8 * thief + v) s.gtime, stealing := s.stealing.setIfInBounds thief true }.post [.stealAnswer v thief]
  | none => { s with stealing := s.stealing.setIfInBounds thief false }

/-- STEAL_REQUEST of an idle die scheduler. -/
def State.stealAsk (s : State) (d : Nat) : State :=
  if s.stealing.toList.getD d false || !s.idleDie d then s else s.askNext d (victims d)

/-- STEAL_ANSWER: the victim gives out its best entry for the thief and ages those passed over, or the thief asks the next die (R321, R323,
R330). The entry keeps a priority that aging has raised (log entry 92). -/
def State.stealGive (s : State) (v thief : Nat) : State :=
  let q := s.ready.toList.getD v []
  let ok := s.stealable thief
  match bestOf ok q with
  | some e =>
    let s := { s with ready := s.ready.setIfInBounds v (giveOut ok e q), stealing := s.stealing.setIfInBounds thief false }
    s.pushReady thief { e with passes := 0 }
  | none => s.askNext thief (((victims thief).dropWhile fun d => d != v).drop 1)

/-- STEAL_REQUEST (R323). -/
def execStealRequest (s : State) : Host.Outcome State Fault Refusal :=
  takeEvent s fun e => match e with | .stealRequest d => some fun s => s.stealAsk d | _ => none

/-- STEAL_ANSWER (R323). -/
def execStealAnswer (s : State) : Host.Outcome State Fault Refusal :=
  takeEvent s fun e => match e with | .stealAnswer v t => some fun s => s.stealGive v t | _ => none

/-! ## Eviction (R324) -/

/-- Whether a parked thread may be evicted. -/
def Slot.evictable (x : Slot) : Bool :=
  x.st == .park && x.launched && !x.th.codelet && decide (64 ≤ x.parkTurns)
    && (match x.park with | .cell .. | .recv | .recvN => true | _ => false)

/-- The user slot whose evictable thread has been parked longest; of several that parked in one cycle, the lowest-numbered (log entry 93). -/
def Core.longestParked (k : Core) : Option (Fin 16) :=
  argMinSlot ((List.finRange 16).filter fun sl => decide (sl.val < 14) && (k.slots[sl]).evictable)
where
  argMinSlot : List (Fin 16) → Option (Fin 16)
    | [] => none
    | x :: xs =>
      match argMinSlot xs with
      | none => some x
      | some y => if k.slots[x].parkAt ≤ k.slots[y].parkAt then some x else some y

/-- Whether a core evicts: an eligible entry waits, no user slot is EMPTY, a parked thread may go, and no refused eviction holds it off. -/
def State.evictDue (s : State) (c : Nat) : Bool :=
  let k := s.core c
  decide (k.evictHold ≤ s.gtime) && k.freeSlots.isEmpty && (s.ownEntry c).isSome && k.longestParked.isSome

/-- PARKED_THREAD_EVICTION: a pre-emption save of the thread parked longest; with the context cache blocked it is tried again after 64
turns (R324). -/
def State.evict (s : State) (c : Nat) : State :=
  if !s.evictDue c then s
  else match (s.core c).longestParked with
    | none => s
    | some sl =>
      let w : Who := ⟨c, sl⟩
      if (s.core c).blocked then s.updCore c fun k => { k with evictHold := s.gtime + 64 * 16 } else s.beginSave w 0 0 0

/-- PARKED_THREAD_EVICTION (R324). -/
def execParkedThreadEviction (s : State) : Host.Outcome State Fault Refusal :=
  takeEvent s fun e => match e with | .parkedThreadEviction c => some fun s => s.evict c | _ => none

/-! ## Entries created by SPAWN (R319) -/

/-- The die of an entry created by SPAWN with MODE `m`, named die and groups, by a thread on die `d` (R319). -/
def spawnDie (l : Launch) (d m named groups : Nat) : Nat :=
  let ok (x : Nat) : Bool := dieOk l.dieset (if m = 2 then groups else 0) x
  if m = 1 then named else if ok d then d else (diesByHops d ok).headD d

end Sys2Proof.Machine
end

