-- ==== Sys2Proof/Machine/Migrate.lean ====
section
/-! DEFINITION. The Derailleur: capability migration, MIGR and locality migration, the reservation of a target, intake; and the events of
saves (R40, R105, R112, R113, R115, R116, R338, R375). -/

namespace Sys2Proof.Machine

/-! ## What a migration waits for -/

/-- Whether a tile command is one that the thread in a slot issued. -/
def QCmd.by (q : QCmd) (w : Who) (x : Slot) : Bool := q.task == x.task && q.codelet == x.th.codelet && (!x.th.codelet || q.slot == w.slot)

/-- Whether a thread has commands in its core's MXU queue or running in the cluster's MXU (R112 step 2). -/
def State.mxuBusy (s : State) (w : Who) : Bool :=
  let x := s.at w
  ((s.core w.core).mxq.any fun q => q.by w x)
    || (match (s.mxus.getD (w.core / 8) Mxu.reset).running with
        | some (k, q) => k.val == w.core % 8 && q.by w x
        | none => false)

/-- Whether a thread has drained: replies to its posted operations, its MXU commands and, where `hist` is set, its uncommitted history
(R86, R112, R161). -/
def State.drained (s : State) (w : Who) (hist : Bool) : Bool :=
  let x := s.at w
  x.posted.isEmpty && !s.mxuBusy w && (!hist || !x.isTask || s.clear w)

/-- Whether the Derailleur moves a slot's thread. -/
def Slot.derails (x : Slot) : Bool := x.st == .trap && x.migrTo.isSome

/-! ## Reservation (R338, R375) -/

/-- Whether a core takes a thread of a launch into an EMPTY user slot: R171 lets it, and it is neither DEAD nor on a die that is cut off (R171, R369,
R390). -/
def State.takesThread (s : State) (launch c : Nat) : Bool := s.usable c && !(s.core c).freeSlots.isEmpty && s.layoutFits c launch

/-- Whether an entry of the context cache can be had for an intake: not where every entry is save-incomplete or reserved (R375). -/
def Core.entryOpen (k : Core) : Bool := decide (k.cacheUsed < 8) || k.victim.isSome

/-- The core a die scheduler reserves a slot on: among those that can take the thread, the one of most EMPTY user slots, ties to the lower number;
none where that core's context cache has no entry to give (R338, R375). -/
def State.intakeCore (s : State) (cores : List Nat) (launch : Nat) : Option Nat :=
  (argMax (fun c => ((s.core c).freeSlots.length : Int)) (cores.filter (s.takesThread launch))).filter fun c => (s.core c).entryOpen

/-- The check codes of an image's flits (R112, R386). -/
def flitChecks (img : List Byte) : List Nat := (List.range (img.length / 32)).map fun i => checkCode ((img.drop (32 * i)).take 32) 0

/-- The image of a thread sent to slot `sl` of a core: the slot and a context-cache entry are reserved there, the source slot is freed, the task
is in migration, and its inbox entries follow (R112 steps 3 to 6). One that migrates for capability is bound to its new die, until a MIGR
(R113). -/
def State.moveImage (s : State) (w : Who) (c : Nat) (sl : Fin 16) : State :=
  let x := s.at w
  let n := match s.task? x.task with
    | some t => if x.isTask then t.inbox.length + t.notices.length else 0
    | none => 0
  let s := s.upd w fun x => { x with capDie := match x.migrTo with
    | some t => if 4096 ≤ t then some (dieOf c) else none
    | none => x.capDie }
  let e := s.ctxEntry w 2 none []
  let e := { e with slot := sl, incomplete := true, checks := flitChecks e.img }
  let s := (s.countSent x.task.launch s.colour (n + 1)).countRecv x.task.launch s.colour n
  let s := s.stow w .migrating
  let away (q : InMsg) : InMsg := { q with region := none }
  let s := if x.isTask then s.updTask x.task fun t => { t with inbox := t.inbox.map away, notices := t.notices.map away } else s
  let s := (s.loadLayout c x.task.launch).updSlot c sl fun y =>
    { y.emptied with st := .reserved, launched := true, task := x.task, consulted := x.consulted }
  (s.updCore c fun k => { k with intake := k.intake ++ [e] }).post [.migrationIntake c sl]

/-- The image of a thread sent to a core's lowest-numbered EMPTY slot. Where its context cache is full an entry is written back first; a write-back
that fails leaves the thread where it is, to be moved later (R103, R375). -/
def State.sendImage (s : State) (w : Who) (c : Nat) : State :=
  let s := if 8 ≤ (s.core c).cacheUsed then s.writeBack c else s
  match (s.core c).freeSlots with
  | [] => s
  | sl :: _ => if 8 ≤ (s.core c).cacheUsed then s else s.moveImage w c sl

/-- DERAILLEUR_MIGRATION: once the thread has drained, the nearest candidate die with a free slot takes it; with none, its image goes to its
save area and its entry to the nearest candidate die's queue (R112, R113). -/
def State.derail (s : State) (w : Who) : State :=
  let x := s.at w
  if !(x.derails && s.drained w true) then s
  else
    let dies := s.targetDies w
    let cores (d : Nat) : List Nat := match x.migrTo with
      | some t => if t < 2048 then [t] else coresOf d
      | none => []
    match (dies.filterMap fun d => s.intakeCore (cores d) x.task.launch).head? with
    | some c => s.sendImage w c
    | none =>
      if (s.core w.core).blocked then s
      else match s.launch? x.task.launch, x.area with
        | some l, some n =>
          let cap := match x.migrTo with | some t => if 4096 ≤ t then dies.head? else none | none => x.capDie
          (s.upd w fun x => { x with capDie := cap }).beginSave w 2 (BitVec.ofNat 64 (l.areaVa n)) 0
        | _, _ => s

/-- LOCALITY_MIGRATION: the home core takes the thread when it has a free user slot and the thread has drained, else the access is remote
(R40, R115). A thread whose MXU commands or replies are outstanding waits. -/
def State.localMigrate (s : State) (w : Who) (home : Nat) : State :=
  let x := s.at w
  match x.st, x.busy with
  | .busy, .locality words =>
    if !(s.takesThread x.task.launch home && (s.core home).entryOpen) then
      ((s.noteWords w words).upd w fun x => { x with busy := .remote }).post [.remoteWordAccess w.core w.slot]
    else if !s.drained w false then s
    else (s.upd w fun x => { x with epc := x.th.pc, fromPark := false, migrTo := none, consulted := true }).sendImage w home
  | _, _ => s

/-- MIGRATION_INTAKE: the last flit arrives, the migration packet counts as received, and the intake event is posted (R89, R112). A flit whose check
code does not match is a machine check to the driver, and the launch is stopped. A core whose system slot is lost ends the thread of a stopped
launch itself (R99, R100). -/
def State.intakeArrives (s : State) (c : Nat) (sl : Fin 16) : State :=
  match (s.core c).intake.find? fun e => e.slot == sl with
  | none => s
  | some e =>
    let s := s.countRecv e.task.launch e.colour 1
    let s := if e.checks = flitChecks e.img then s
      else (s.logError 0x01 0x01 c sl.val 0 0 e.task.launch 0).report e.task.launch (checkReport 1 0)
    if (s.core c).dead && s.stopped e.task.launch then
      let s := (s.updCore c fun k => { k with intake := k.intake.erase e }).updSlot c sl Slot.emptied
      match e.let_ with
      | some r => s.freeArea e.task.launch r.area
      | none => match s.task? e.task with
        | some t => s.discardTask t
        | none => s
    else
      (s.updCore c fun k => { k with intake := k.intake.map fun x => if x.slot = sl then { x with incomplete := false } else x }).postWake
        c 0x03 sl.val

/-! ## Events -/

/-- DERAILLEUR_MIGRATION (R112). -/
def execDerailleurMigration (s : State) : Host.Outcome State Fault Refusal :=
  takeEvent s fun e => match e with | .derailleurMigration c sl => some fun s => s.derail ⟨c, sl⟩ | _ => none

/-- LOCALITY_MIGRATION (R40). -/
def execLocalityMigration (s : State) : Host.Outcome State Fault Refusal :=
  takeEvent s fun e => match e with | .localityMigration c sl h => some fun s => s.localMigrate ⟨c, sl⟩ h | _ => none

/-- MIGRATION_INTAKE (R112). -/
def execMigrationIntake (s : State) : Host.Outcome State Fault Refusal :=
  takeEvent s fun e => match e with | .migrationIntake c sl => some fun s => s.intakeArrives c sl | _ => none

/-- SAVE_COMPLETION (R105). -/
def execSaveCompletion (s : State) : Host.Outcome State Fault Refusal :=
  takeEvent s fun e => match e with | .saveCompletion c sl => some fun s => s.saveDone ⟨c, sl⟩ | _ => none

/-- CONTEXT_CACHE_WRITEBACK (R103). -/
def execContextCacheWriteback (s : State) : Host.Outcome State Fault Refusal :=
  takeEvent s fun e => match e with | .contextCacheWriteback c => some fun s => s.writeBack c | _ => none

end Sys2Proof.Machine
end

