-- ==== Sys2Proof/Machine/Task.lean ====
section
/-! DEFINITION. The task instructions: SPAWN, EXIT, YIELD, GBAR, WIDF, MPIN, MIGR and TWAIT, and the end of a thread (R217 to R226). -/

namespace Sys2Proof.Machine

/-! ## The end of a thread (R68, R220, R233, R373) -/

/-- What becomes of an exited task's unprocessed message: a tentative one that is not final yet is held, any other returns to its sender
(R68, R74). -/
def State.orphan (s : State) (id : TaskId) (m : Msg) : State :=
  if m.anti || s.tentHeld m then s.updTask id fun t => { t with hold := t.hold ++ [m] } else s.deadLetter m

/-- The task marked exited: unprocessed messages become dead letters, notices are discarded (R220 step 3). -/
def State.exitTask (s : State) (t : Task) : State :=
  let s := s.updTask t.id fun x =>
    { x with place := .exited, inbox := [], notices := [], hold := [], epochs := [], refused := [], posted := [], deferred := [], area := none }
  if s.stopped t.id.launch then s
  else (t.inbox.map InMsg.msg ++ t.hold).foldl (fun s m => s.orphan t.id m) s

/-- A thread leaves its user slot for good: it exits, its area returns to the pool, the slot is EMPTY and FREE is posted (R220, R325, R373). -/
def State.endThread (s : State) (w : Who) : State :=
  let x := s.at w
  let g := s.grantOf w
  let s := s.unpark w
  let s := match s.task? x.task with
    | some t => if x.isTask then s.exitTask t else s
    | none => s
  let s := s.freeArea x.task.launch x.area
  let s := s.upd w Slot.emptied
  if w.slot.val < 14 then s.postFree w.core w.slot.val g else s

/-- The end of a landing handler: the slot it has written is published, unless the token woke it, and the landing slot is EMPTY (R61, R294). -/
def State.landingEnd (s : State) (w : Who) : State :=
  let s := match (s.core w.core).landingCb with
    | some (n, false) => s.updCb w.core n fun b => b.advP 1
    | _ => s
  (s.updCore w.core fun k => { k with landingCb := none }).upd w Slot.emptied

/-- EXIT: it waits for replies, for its uncommitted history and for its MXU commands, then ends the thread (R220, R278). In slot 14 it ends the
landing handler (R294). -/
def execExit (s : State) : Host.Outcome State Fault Refusal :=
  issue .exit false 0 s fun w => do
    s.sync w
    if s.history w && !s.stopped (s.at w).task.launch then .error (.busy .history)
    else if s.mxuBusy w then .error (.busy .mxu)
    else .ok (if w.slot = 14 then s.landingEnd w else s.endThread w)

/-! ## SPAWN (R217 to R219) -/

/-- Reserved fields and MODE of an affinity word (Table 8.8). -/
def affinityOk (x : Nat) : Bool := bits x 1 0 != 3 && !bitAt x 5 && x / 2 ^ 14 == 0

/-- A refused status with its reason. -/
def refusedStatus (reason : Nat) : Word := BitVec.ofNat 64 (1 + reason * 2 ^ 8)

/-- MODE 1 and MODE 2 against the launch's DIESET (reason 0x07). -/
def affinityDies (l : Launch) (x : Nat) : Bool :=
  match bits x 1 0 with
  | 1 => bitAt l.dieset (bits x 4 2)
  | 2 => (List.range 6).all fun g => !bitAt (bits x 11 6) g || (List.range 8).any fun d => bitAt l.dieset d && bitAt (dieCaps d) g
  | _ => true

/-- The queue entry of spawned work (R319). -/
def spawnEntry (id : TaskId) (work : Work) (x : Nat) : QEntry :=
  { task := id, work := work, prio := bits x 13 12, passes := 0, mode := bits x 1 0, die := bits x 4 2, groups := bits x 11 6, bound := false,
    cluster := none, expl := false }

/-- Work handed to the die scheduler its affinity word names. -/
def State.spawnWork (s : State) (w : Who) (l : Launch) (id : TaskId) (work : Work) (x : Nat) : State :=
  s.pushReady (spawnDie l (dieOf w.core) (bits x 1 0) (bits x 4 2) (bits x 11 6)) (spawnEntry id work x)

/-- The conditions of R219 that every SPAWN form shares, and its operands: g(a), g(b) and the affinity word g(d). A bound d is a CB fault, since
it is read and written (R158). -/
def State.spawnOperands (s : State) (w : Who) (i : Instr) (d a b : Fin 32) : M (Word × Word × Word × State) := do
  failIf (s.history w) 0x08 (encodeWord i)
  s.chkCb w i
  let (x, s) ← s.readG w a
  let (y, s) ← s.readG w b
  let (z, s) ← s.readG w d
  .ok (x, y, z, s)

/-- The header that SPAWN.L names: 128 bytes on a FROZEN page. -/
def State.headerAt (s : State) (w : Who) (va : Word) : M (List Byte) := do
  failIf (decide (2 ^ 54 ≤ va.toNat) || inLocal va.toNat) 0x09 va
  let t ← s.translate (s.at w).asid va.toNat .load
  failIf (pteKind t.pte != kFrozen) 0x0B va
  s.checkedRead t.pa 128

/-- A SPAWN by a thread that belongs to no launch: nothing is spawned, and the status is a free value (log entry 78). -/
def State.noSpawn (s : State) (w : Who) (i : Instr) (d : Fin 32) : State :=
  let (v, s) := s.draw
  (s.writeG w d v).retireVar w i

/-- SPAWN.FIFO, .ORD and .OPT: a task of the caller's launch (R217, R218). -/
def spawnTask (i : Instr) (mode : IMode) (d a b : Fin 32) (s0 : State) : Host.Outcome State Fault Refusal :=
  issue i false 0 s0 fun w => do
    let x := s0.at w
    match s0.launch? x.task.launch with
    | none => do
      let (_, _, _, s) ← s0.spawnOperands w i d a b
      .ok (s.noSpawn w i d)
    | some l =>
      failIf (mode != .fifo && !hVtime l.h) 0x01 (encodeWord i)
      let (wid, arg, aff, s) ← s0.spawnOperands w i d a b
      let z := aff.toNat
      let id : TaskId := ⟨l.num, wid⟩
      let done (s : State) (st : Word) : M State := .ok ((s.writeG w d st).retireVar w i)
      if !affinityOk z then done s (refusedStatus 0x01)
      else if l.noSuchWid wid then done s (refusedStatus 0x03)
      else if !affinityDies l z then done s (refusedStatus 0x07)
      else if (s.task? id).isSome then done s 2
      else
        let t := newTask id mode (bits z 13 12) (ownerTag l.h wid.toNat) x.th.lvt (BitVec.ofNat 64 (hVtwin l.h)) true
        let s := { s with tasks := s.tasks ++ [t] }.spawnWork w l id (.task arg mode x.th.lvt true) z
        done s 0

/-- SPAWN.FIFO (R217). -/
def execSpawnFifo (d a b : Fin 32) (s : State) : Host.Outcome State Fault Refusal := spawnTask (.spawnFifo d a b) .fifo d a b s

/-- SPAWN.ORD (R217). -/
def execSpawnOrd (d a b : Fin 32) (s : State) : Host.Outcome State Fault Refusal := spawnTask (.spawnOrd d a b) .ordered d a b s

/-- SPAWN.OPT (R217). -/
def execSpawnOpt (d a b : Fin 32) (s : State) : Host.Outcome State Fault Refusal := spawnTask (.spawnOpt d a b) .optimistic d a b s

/-- SPAWN.C: a codelet at g(a) with argument g(b) (R217, R218). -/
def execSpawnC (d a b : Fin 32) (s0 : State) : Host.Outcome State Fault Refusal :=
  let i := Instr.spawnC d a b
  issue i false 0 s0 fun w => do
    let (pc, arg, aff, s) ← s0.spawnOperands w i d a b
    let x := s.at w
    let z := aff.toNat
    match s.launch? x.task.launch with
    | none => .ok (s.noSpawn w i d)
    | some l =>
      let done (s : State) (st : Word) : M State := .ok ((s.writeG w d st).retireVar w i)
      if !affinityOk z then done s (refusedStatus 0x01)
      else if pc.toNat % 4 != 0 then done s (refusedStatus 0x02)
      else if !affinityDies l z then done s (refusedStatus 0x07)
      else done (s.spawnWork w l x.task (.codelet pc arg x.th.lvt) z) 0

/-- SPAWN.L: the launch header at g(a), on a FROZEN page, is checked as a host record is; the launch runs in the caller's address space and
completes in its oldest ancestor's queue (R218, R316, R326, R347). An address in the local window or above the address space is a page fault, since
no such address translates (log entry 80). -/
def execSpawnL (d a b : Fin 32) (s0 : State) : Host.Outcome State Fault Refusal :=
  let i := Instr.spawnL d a b
  issue i false 0 s0 fun w => do
    failIf (s0.history w) 0x08 (encodeWord i)
    let (va, s1) ← (s0.readG w a).waitsAfter (s0.chkCb w i)
    failIf (va.toNat % 128 != 0) 0x05 va
    s0.chkCb w i
    let bs ← (s1.headerAt w va).beforeWait (s1.read2 w b d)
    let (arg, aff, s) ← s1.read2 w b d
    let x := s.at w
    let h := natOf bs
    match s.launch? x.task.launch with
    | none => .ok (s.noSpawn w i d)
    | some l =>
      let done (s : State) (st : Word) : M State := .ok ((s.writeG w d st).retireVar w i)
      if !affinityOk aff.toNat then done s (refusedStatus 0x01)
      else if !affinityDies l aff.toNat then done s (refusedStatus 0x07)
      else match s.accepts x.asid h with
        | .error r => done (s.logHeader x.asid h) (refusedStatus r)
        | .ok ad =>
          match (if s.cqRoom l.queue then s.number? else none) with
          | none => .error (.busy .accept)
          | some n =>
            let q := newLaunch s.nextKey n h x.asid l.queue none arg ad
            let s := { s with launches := s.launches ++ [q], nextKey := s.nextKey + 1, nextNum := (n + 1) % 4096 }
            done (s.post [.launchDispatch q.key]) (BitVec.ofNat 64 (n * 2 ^ 32))

/-! ## YIELD (R221) -/

/-- YIELD: with a task of the same or a higher priority in the core's run queue the thread is saved and queued; otherwise nothing. -/
def execYield (s : State) : Host.Outcome State Fault Refusal :=
  issue .yield false 0 s fun w => do
    let x := s.at w
    failIf x.th.codelet 0x0D (encodeWord .yield)
    let waits (e : QEntry) : Bool := decide (e.prio ≤ x.prio) && (match e.work with | .task .. | .saved => true | _ => false)
    if decide (w.slot.val < 14) && (s.core w.core).runq.any waits && !(s.core w.core).blocked then
      .ok ((s.updTh w fun t => { t with pc := t.pc + 4 }).beginSave w 0 0 0)
    else .ok (s.retireVar w .yield)

/-! ## GBAR (R222, R223) -/

/-- GBAR L (R222): it joins the group's cell once an episode and awaits its count there, as LWAIT does. A thread without a launch has no level
(log entry 78). -/
def execGbar (lv : Fin 6) (s0 : State) : Host.Outcome State Fault Refusal :=
  let i := Instr.gbar lv
  issue i false 0 s0 fun w => do
    let x := s0.at w
    match s0.launch? x.task.launch, s0.task? x.task with
    | some l, some t =>
      let n := nlev (hWidths l.h)
      failIf (decide (n ≤ lv.val) || (t.spawned && !x.th.codelet)) 0x01 (encodeWord i)
      failIf (s0.history w) 0x08 (encodeWord i)
      failIf x.th.codelet 0x0D (encodeWord i)
      s0.sync w
      if lv.val + 1 = n then .ok (s0.retireVar w i)
      else
        let ix := barrierIndex l.h x.task.wid.toNat lv.val
        let c := barrierCell l.num ix
        let pend := t.pending[lv]
        let e := if pend then t.episode[lv] else (t.episode[lv] + 1) % 2 ^ 32
        let count := if pend then l.barrierCount ix else min (l.barrierCount ix + 1) (2 ^ 64 - 1)
        let s := if pend then s0 else
          (s0.joinBarrier l.num ix count).updTask t.id fun t => { t with episode := t.episode.set lv e, pending := t.pending.set lv true }
        let goal := e * groupSize l.h lv.val
        if goal ≤ count then .ok ((s.updTask t.id fun t => { t with pending := t.pending.set lv false }).retireVar w i)
        else
          let tr := barrierTrig goal
          match s.addWaiter c ⟨0, BitVec.ofNat 64 c.va, tr, 3, none, w.core, w.slot, x.task, x.th.pc, none⟩ with
          | some s => .error (.next (s.parkSlot w i (.cell 3 0 (BitVec.ofNat 64 c.va) tr)))
          | none => .error (.next (s.waitBusy w i .spill))
    | _, _ => fail 0x01 (encodeWord i)

/-! ## WIDF, MPIN, MIGR, TWAIT (R224 to R226) -/

/-- WIDF: field n of WorkId(), 0 where the field is absent. -/
def execWidf (d : Fin 32) (n : Fin 6) (s : State) : Host.Outcome State Fault Refusal :=
  let i := Instr.widf d n
  issue i false 0 s fun w => do
    s.chkOps w i
    let x := s.at w
    let ws := x.th.widl.toNat % 2 ^ 36
    let s ← s.putG w d (if nlev ws ≤ n.val then 0 else BitVec.ofNat 64 (widField ws x.task.wid.toNat n.val))
    .ok (s.retireVar w i)

/-- MPIN: the pin flag. -/
def execMpin (n : Fin 2) (s : State) : Host.Outcome State Fault Refusal :=
  issue (.mpin n) false 0 s fun w => .ok ((s.updTh w fun t => { t with mpin := n == 1 }).retireVar w (.mpin n))

/-- Byte length of the strip vl describes: N × ES(ETYPE) (R114, R236). -/
def stripBytes (vl : Word) : Nat := bits vl.toNat 8 0 * (match bits vl.toNat 11 9 with | 0 => 8 | 1 => 4 | 2 => 2 | 3 => 2 | 4 => 1 | 5 => 2 | 6 => 4 | _ => 8)

/-- MIGR: its tests in order; an accepted one waits, BUSY, until its uncommitted history is gone, and leaves for the Derailleur with its status
written (R86, R114, R225). -/
def execMigr (d a : Fin 32) (s : State) : Host.Outcome State Fault Refusal :=
  let i := Instr.migr d a
  issue i false 0 s fun w => do
    s.chkBound w i
    s.sync w
    s.chkCb w i
    let (v, s) ← s.readG w a
    s.chkDst w d
    let x := s.at w
    let byDie := bitAt v.toNat 63
    let core := bits v.toNat 10 0
    let die := if byDie then bits v.toNat 2 0 else dieOf core
    let dieset := ((s.launch? x.task.launch).map Launch.dieset).getD 0
    let done (st : Word) : M State := .ok ((s.writeG w d st).retireVar w i)
    if (!byDie && decide (1536 ≤ core)) || !bitAt dieset die then done 2
    else if (if byDie then dieOf w.core == die else w.core == core) then done 0
    else if x.th.mpin || x.th.rcnt != 0 || (decide (6 ≤ die) && decide (64 < stripBytes x.th.vl)) then done 1
    else if (s.history w || (x.st == .busy && x.busy == .history)) && !s.clear w then .error (.busy .history)
    else
      .ok (((s.writeG w d 0).upd w fun x =>
        { x with st := .trap, out := none, epc := x.th.pc + 4, fromPark := false, insn := false,
                 migrTo := some (if byDie then 2048 + die else core) }).post [.derailleurMigration w.core w.slot])

/-- TWAIT: parks until gtime ≥ g(a). -/
def execTwait (a : Fin 32) (s0 : State) : Host.Outcome State Fault Refusal :=
  let i := Instr.twait a
  issue i false 0 s0 fun w => do
    s0.chkOps w i
    let (t, s) ← s0.readG w a
    if t.toNat ≤ s.gtime then .ok (s.retireVar w i) else .error (.park (.time t.toNat))

/-- TWAIT_EXPIRY: the time base has reached the time awaited; the thread issues its instruction again and finds it so (R226). -/
def execTwaitExpiry (s : State) : Host.Outcome State Fault Refusal :=
  takeEvent s fun e => match e with
    | .twaitExpiry c sl => some fun s =>
      let w : Who := ⟨c, sl⟩
      match (s.at w).st, (s.at w).park with
      | .park, .time t => if t ≤ s.gtime then s.reissue w else s
      | _, _ => s
    | _ => none

end Sys2Proof.Machine
end

