-- ==== Sys2Proof/Machine/System.lean ====
section
/-! DEFINITION. The system instructions: CSR access, ERET, CTXSV, CTXLD, SLOTCTL, XINV and CINV (R227 to R234, R370, R372, R374 to R378). -/

namespace Sys2Proof.Machine

/-! ## CSR access (R227, R228, Table 8.9) -/

/-- The bank an instruction reaches: the system slot reaches that of status.HSLOT (R96). -/
def State.bank (s : State) (w : Who) : Who := if w.slot = 15 then ⟨w.core, (s.core w.core).hslot⟩ else w

/-- Whether something is deferred for a slot: a wake, rollback or signal, or, during a save, a message (R22, R101, R106, R231). -/
def State.defers (s : State) (w : Who) : Bool :=
  let x := s.at w
  !x.deferred.isEmpty || (x.st == .save && x.isTask && (match s.task? x.task with
    | some t => t.hold.any fun m => m.anti || !(t.imode == .fifo && s.tentHeld m)
    | none => false))

/-- The status CSR (Table 4.5, R370). -/
def State.status (s : State) (w : Who) : Nat :=
  let k := s.core w.core
  if w.slot = 15 then
    let x := k.slots[k.hslot]
    b2n k.eie + b2n k.lmx * 2 + b2n (s.defers ⟨w.core, k.hslot⟩) * 4 + k.hslot.val * 2 ^ 4 + b2n x.insn * 2 ^ 16
  else b2n (s.at w).insn * 2 ^ 16

/-- The cap CSR (Table 4.11). -/
def capWord (c : Nat) : Nat := dieCaps (dieOf c) + (if isK8 c then 2 else 1) * 2 ^ 8

/-- The MXU of a core's cluster. -/
def State.mxu (s : State) (cluster : Nat) : Mxu := s.mxus.getD cluster Mxu.reset

def State.updMxu (s : State) (cluster : Nat) (f : Mxu → Mxu) : State := { s with mxus := s.mxus.put cluster (f (s.mxu cluster)) }

/-- The value of a CSR as a thread reads it. -/
def State.csrValue (s : State) (w : Who) (c : Nat) : Word :=
  let t := s.th w
  let x := s.at (s.bank w)
  let k := s.core w.core
  match c with
  | 0x001 => t.vl
  | 0x002 => t.rcnt
  | 0x008 => t.fmt[0] | 0x009 => t.fmt[1] | 0x00A => t.fmt[2] | 0x00B => t.fmt[3]
  | 0x00C => t.fsc[0] | 0x00D => t.fsc[1] | 0x00E => t.fsc[2] | 0x00F => t.fsc[3]
  | 0x010 => t.seed
  | 0x011 => t.lvt
  | 0x012 => t.vtwin
  | 0x013 => t.stwb
  | 0x014 => t.stwl
  | 0x015 => t.widl
  | 0x020 => BitVec.ofNat 64 (capWord w.core)
  | 0x021 => BitVec.ofNat 64 (8 * vlenB w.core)
  | 0x022 => BitVec.ofNat 64 s.gtime
  | 0x023 => BitVec.ofNat 64 (if (s.at w).launched then s.gvtOf (s.at w).task.launch else 2 ^ 64 - 1)
  | 0x040 => BitVec.ofNat 64 (s.status w)
  | 0x041 => x.cause
  | 0x042 => x.epc
  | 0x043 => x.tval
  | 0x044 => x.quantum
  | 0x045 => x.grbase
  | 0x046 => x.grlen
  | 0x047 => x.lfpc
  | 0x080 => k.srpc
  | 0x081 => k.evbase
  | 0x082 => (s.mxu (w.core / 8)).mxwt.setWidth 64
  | 0x083 => BitVec.ofNat 64 (b2n k.trctl)
  | _ => 0

/-- CSRs that only the system slot reaches. -/
def csrSystem (c : Nat) : Bool := decide (0x080 ≤ c)

/-- CSRs that every slot writes, and those that only the system slot writes (Table 8.9). -/
def csrUserRw (c : Nat) : Bool := c == 0x002 || c == 0x012 || c == 0x013 || c == 0x014
def csrSystemRw (c : Nat) : Bool := decide (0x040 ≤ c ∧ c ≤ 0x047) || csrSystem c

/-- A weight word with zero fields stored as one (Table 1.11). -/
def weightWord (v : Word) : BitVec 32 :=
  BitVec.ofNat 32 ((List.range 8).foldl (fun n k => n + (max 1 (bits v.toNat (4 * k + 3) (4 * k))) * 2 ^ (4 * k)) 0)

/-- A CSR written; reserved bits ignore writes. Setting EIE lets dispatch begin; setting LMX restarts its count (R98, R369). -/
def State.csrPut (s : State) (w : Who) (c : Nat) (v : Word) : State :=
  let b := s.bank w
  match c with
  | 0x002 => s.updTh w fun t => { t with rcnt := v }
  | 0x012 => s.updTh w fun t => { t with vtwin := v }
  | 0x013 => s.updTh w fun t => { t with stwb := v }
  | 0x014 => s.updTh w fun t => { t with stwl := v }
  | 0x040 => s.updCore w.core fun k =>
      { k with eie := v.getLsbD 0, lmx := v.getLsbD 1, started := k.started || v.getLsbD 0,
               lmxCount := if v.getLsbD 1 && k.lmx then k.lmxCount else 0 }
  | 0x041 => s.upd b fun x => { x with cause := v &&& 0xFF7F#64 }
  | 0x042 => s.upd b fun x => { x with epc := v }
  | 0x043 => s.upd b fun x => { x with tval := v }
  | 0x044 => s.upd b fun x => { x with quantum := v, timer := false }
  | 0x045 => s.upd b fun x => { x with grbase := v }
  | 0x046 => s.upd b fun x => { x with grlen := v }
  | 0x047 => s.upd b fun x => { x with lfpc := v }
  | 0x080 => s.updCore w.core fun k => { k with srpc := v }
  | 0x081 => s.updCore w.core fun k => { k with evbase := v }
  | 0x082 => s.updMxu (w.core / 8) fun m => { m with mxwt := weightWord v }
  | 0x083 => s.updCore w.core fun k => { k with trctl := v.getLsbD 0 }
  | _ => s

/-- A CSR access: the faults of R227, the old value to g(d), the new value where the form writes one. -/
def csrBody (i : Instr) (d : Fin 32) (a : Option (Fin 32)) (c : Nat) (new : Word → Word → Word) (w : Who) (s0 : State) : M State := do
  let sys := w.slot == 15
  failIf (csrSystem c && !sys) 0x01 (encodeWord i)
  failIf (a.isSome && !(csrUserRw c || (sys && csrSystemRw c))) 0x01 (encodeWord i)
  failIf (a.isSome && s0.spec w && (c == 0x012 || c == 0x013 || c == 0x014)) 0x08 (encodeWord i)
  s0.chkOps w i
  match a with
  | none =>
    let s ← s0.putG w d (s0.csrValue w c)
    .ok (s.retire w i)
  | some a =>
    let (x, s) ← s0.readG w a
    let t := s.csrValue w c
    s.chkDst w d
    .ok (((s.csrPut w c (new t x)).writeG w d t).retire w i)

/-- CSRR (R227). -/
def execCsrr (d : Fin 32) (c : BitVec 12) (s : State) : Host.Outcome State Fault Refusal :=
  issue (.csrr d c) false 0 s fun w => csrBody (.csrr d c) d none c.toNat (fun t _ => t) w s

/-- CSRW (R227). -/
def execCsrw (d a : Fin 32) (c : BitVec 12) (s : State) : Host.Outcome State Fault Refusal :=
  issue (.csrw d a c) false 0 s fun w => csrBody (.csrw d a c) d (some a) c.toNat (fun _ x => x) w s

/-- CSRS; with a = 0 nothing is written (R227). -/
def execCsrs (d a : Fin 32) (c : BitVec 12) (s : State) : Host.Outcome State Fault Refusal :=
  issue (.csrs d a c) false 0 s fun w => csrBody (.csrs d a c) d (if a = 0 then none else some a) c.toNat (fun t x => t ||| x) w s

/-- CSRC; with a = 0 nothing is written (R227). -/
def execCsrc (d a : Fin 32) (c : BitVec 12) (s : State) : Host.Outcome State Fault Refusal :=
  issue (.csrc d a c) false 0 s fun w => csrBody (.csrc d a c) d (if a = 0 then none else some a) c.toNat (fun t x => t &&& ~~~x) w s

/-! ## ERET (R97, R230, R372) -/

/-- A slot returned from TRAP: RUN at its epc; held messages are delivered and deferred items applied (R22, R101). -/
def State.resumeSlot (s : State) (w : Who) : State :=
  let x := s.at w
  if x.st != .trap then s
  else
    let s := (s.returnTrap w).upd w fun x => { x with deferred := [], migrTo := none }
    (if x.isTask then s.release x.task else s).applyDeferred w x.deferred

/-- ERET: the slot HSLOT is returned where it is still in TRAP, a pending grant is settled, and the system slot resumes at srpc with
EIE set. -/
def execEret (s : State) : Host.Outcome State Fault Refusal :=
  issue .eret true 0 s fun w =>
    let k := s.core w.core
    let s := if k.hslot = 15 then s else s.resumeSlot ⟨w.core, k.hslot⟩
    let s := (s.grantDone w.core).updCore w.core fun k => { k with eie := true, started := true, scanAsid := none }
    .ok (s.upd w fun x => { x with st := .run, out := none, th := { x.th with pc := k.srpc } })

/-! ## CTXSV (R231) -/

/-- A save-area descriptor read by the system slot: BASE and LEN32, where its reserved bits are zero and BASE is a multiple of 32; it lies in the
local window or on a pinned page (R6, Table 4.7). -/
def State.readDescriptor (s : State) (w : Who) (va : Word) : M (Option (Nat × Nat)) := do
  failIf (va.toNat % 16 != 0) 0x05 va
  let l ← s.place w .load va.toNat 16
  match l with
  | .mem x => failIf (!ptePin x.pte) 0x09 va
  | .loc _ _ => .ok ()
  let d ← natOf <$> s.readAt l 16
  .ok (if bits d 63 54 = 0 ∧ bits d 127 84 = 0 ∧ d % 32 = 0 then some (bits d 53 0, bits d 83 64) else none)

/-- CTXSV: slot Bits(g(d), 3, 0) into the area of the descriptor at g(a). A malformed descriptor is refused as step 1 of R105 refuses an area that is
too small (log entry 81). -/
def execCtxsv (d a : Fin 32) (s : State) : Host.Outcome State Fault Refusal :=
  let i := Instr.ctxsv d a
  issue i true 0 s fun w => do
    s.chkOps w i
    let (va, s) ← s.readG w a
    let (x, s) ← s.readG w d
    let sl : Fin 16 := Fin.ofNat 16 x.toNat
    let v : Who := ⟨w.core, sl⟩
    let done (st : Word) : M State := .ok ((s.writeG w d st).retireVar w i)
    if 14 ≤ sl.val ∨ (s.at v).st ≠ .trap then done 2
    else
      match ← s.readDescriptor w va with
      | none => done 1
      | some (base, len) =>
        if len < imgLen (isK8 w.core) / 32 then done 1
        else if (s.core w.core).blocked then done 4
        else .ok ((s.waitBusy w i .save).beginSave v 1 (BitVec.ofNat 64 base) va)

/-! ## CTXLD (R232, R338, R375) -/

/-- A queue without the entry of a task that CTXLD has loaded. -/
def State.unqueue (s : State) (c : Nat) (id : TaskId) : State :=
  s.updCore c fun k => { k with runq := k.runq.filter fun e => !(e.task == id && e.work == .saved) }

/-- An image refused under R28: the machine check goes to the driver; a reservation lapses (R232, R338). -/
def State.ctxldRefused (s : State) (v : Who) (launch addr : Nat) : State :=
  let s := s.imageRefused v launch addr
  if (s.at v).st = .reserved then (s.updCore v.core fun k => { k with intake := k.intake.filter fun e => e.slot != v.slot }).upd v Slot.emptied
  else s

/-- CTXLD of the intake image of a reserved slot. -/
def State.loadIntake (s : State) (v : Who) : State × Word :=
  match (s.core v.core).intake.find? fun e => e.slot == v.slot && !e.incomplete with
  | none => (s, 3)
  | some e =>
    if imageOk (isK8 v.core) e.img then
      let s := s.updCore v.core fun k => { k with intake := k.intake.erase e }
      (s.placeImage v e.task e.img e.let_ e.prio true, 0)
    else
      let s := s.ctxldRefused v e.task.launch 0
      (if e.let_.isSome then s else s.updTask e.task fun t => { t with place := .out v.core }, 1)

/-- An image placed by CTXLD. A core whose field-layout table R171 bars the thread from places nothing, and the status is a free value (log entry
82). One refused under R28 is status 1. -/
def State.loadImage (s : State) (v : Who) (id : TaskId) (img : List Byte) (r : Option LetRec) (prio : Nat) (va : Word) : State × Word :=
  if !imageOk (isK8 v.core) img then (s.ctxldRefused v id.launch va.toNat, 1)
  else if !s.layoutFits v.core id.launch then (let (f, s) := s.draw; (s, f))
  else (s.placeImage v id img r prio false, 0)

/-- CTXLD of an image at an address: of a task swapped out on this core, or of a codelet CTXSV saved. A slot reserved for a saved task's grant takes
that task's image only (R375). -/
def State.loadFrom (s : State) (v : Who) (va : Word) : M (State × Word) := do
  let img ← s.readImage v.core (s.at ⟨v.core, 15⟩).asid va.toNat
  let h := imgN img 0 32
  let id : TaskId := ⟨bits h 43 32, BitVec.ofNat 64 (bits h 127 64)⟩
  let x := s.at v
  let kept := match x.resv with
    | some e => e.task == id && e.work == .saved && !bitAt h 195
    | none => false
  if x.st = .reserved ∧ !kept then .ok (s, 2)
  else if bitAt h 195 then
    match (s.core v.core).heldLets.find? fun e => e.1 == va && e.2.task == id with
    | some (_, e) =>
      let r := match e.work with | .savedCodelet r => some r | _ => none
      let (s', st) := s.loadImage v id img r e.prio va
      .ok (if (s'.at v).st = .empty then s' else s'.updCore v.core fun k => { k with heldLets := k.heldLets.erase (va, e) }, st)
    | none => .ok (s, 3)
  else
    match s.task? id with
    | none => .ok (s, 3)
    | some t =>
      let here := match t.place with
        | .held c _ _ | .out c => c == v.core
        | _ => false
      if !here then .ok (s, 3)
      else
        let (s', st) := s.loadImage v id img none t.prio va
        .ok (if (s'.task? id).any (fun t => t.place == .on v.core v.slot) then s'.unqueue v.core id else s', st)

/-- CTXLD: the image at g(a), or the intake image where g(a) is 0, into slot Bits(g(d), 3, 0). Slot 14, which no image is loaded into, gives status 2
as a slot that is neither EMPTY nor reserved does (log entry 83). -/
def execCtxld (d a : Fin 32) (s : State) : Host.Outcome State Fault Refusal :=
  let i := Instr.ctxld d a
  issue i true 0 s fun w => do
    s.chkOps w i
    let (va, s) ← s.readG w a
    let (x, s) ← s.readG w d
    let sl : Fin 16 := Fin.ofNat 16 x.toNat
    let v : Who := ⟨w.core, sl⟩
    let st := (s.at v).st
    if 14 ≤ sl.val ∨ (st ≠ .empty ∧ st ≠ .reserved) then .ok ((s.writeG w d 2).retireVar w i)
    else
      let (s, r) ← if va = 0 then .ok (s.loadIntake v) else s.loadFrom v va
      .ok ((s.writeG w d r).retireVar w i)

/-! ## SLOTCTL (R233) -/

/-- The refusals that a slot's thread has not taken, reported to its launch, unless the thread holds driver stop (R100, R233). -/
def State.reportRefused (s : State) (w : Who) : State :=
  let x := s.at w
  if x.dstop || x.cause.toNat % 64 == 0x21 then s else x.refused.foldl (fun s r =>
    s.report x.task.launch { src := 0, code := r.code, sub := 0, core := w.core, slot := w.slot.val, wid := x.task.wid, pc := r.pc, tval := r.tval, tag := 0, cmd := none }) s

/-- The thread of a slot in TRAP ended without waiting: a task with open epochs is first rolled back over all of them, with no snapshot
restored; refusals not taken are reported to the launch, a landing handler's to that whose task enabled its buffer (R100, R233, R378). A landing handler that ends so has not
ended by EXIT: the slot that it served is not published (R294, log entry 84). -/
def State.endTrapped (s : State) (w : Who) : State :=
  let x := s.at w
  if !x.launched then
    (if w.slot = 14 then (s.reportRefused w).updCore w.core fun k => { k with landingCb := none } else s).upd w Slot.emptied
  else
    let s := match s.task? x.task with
      | some t => if x.isTask && !s.stopped x.task.launch then s.undoEpochs t w.core (s.grantCoreOf w) [] t.epochs else s
      | none => s
    (s.reportRefused w).endThread w

/-- ENDF's report of the slot's cause (R233, Table 15.5); none for a driver stop. A landing handler's goes to the launch whose task enabled its
buffer (R378). A conflict fault carries the PC of the refused operation (R348). -/
def State.endReport (s : State) (w : Who) : State :=
  let x := s.at w
  if x.cause.toNat % 64 = 0x21 then s
  else s.report x.task.launch { src := 0, code := x.cause.toNat % 64, sub := bits x.cause.toNat 15 8, core := w.core, slot := w.slot.val, wid := x.task.wid,
                                pc := if x.cause.toNat % 64 = 0x0F then x.lfpc else x.epc, tval := x.tval, tag := 0, cmd := none }

/-- The state code of Table 1.4 that SLOTCTL STATE gives; a reserved slot reads as EMPTY (R375). -/
def stateCode : SlotState → Nat
  | .empty | .reserved => 0
  | .run => 1
  | .busy => 2
  | .park => 3
  | .trap => 4
  | .save => 5

/-- SLOTCTL: operation Bits(g(a), 2, 0) on slot Bits(g(b), 3, 0) (Table 8.10). -/
def execSlotctl (d a b : Fin 32) (s : State) : Host.Outcome State Fault Refusal :=
  let i := Instr.slotctl d a b
  issue i true 0 s fun w => do
    s.chkOps w i
    let (x, y, s) ← s.read2 w a b
    s.chkDst w d
    let sl : Fin 16 := Fin.ofNat 16 y.toNat
    let v : Who := ⟨w.core, sl⟩
    let done (s : State) (n : Nat) : M State := .ok ((s.writeG w d (BitVec.ofNat 64 n)).retireVar w i)
    let trapped := sl != 15 && (s.at v).st == .trap
    match x.toNat % 8 with
    | 0 => if trapped then done (s.endTrapped v) 0 else done s 1
    | 1 => if trapped then done ((s.endReport v).endTrapped v) 0 else done s 1
    | 2 =>
      if !trapped || sl == 14 then done s 1
      else if (s.core w.core).blocked then done s 2
      else done (s.beginSave v 0 0 0) 0
    | 3 => done (s.updCore w.core fun k => { k with hslot := sl }) 0
    | 4 => done s (stateCode (s.at v).st)
    | _ => done s 7

/-! ## XINV, CINV (R234) -/

/-- Translations dropped by scope: a page of an ASID, an ASID, or all. -/
def State.dropXlat (s : State) (va scope asid : Nat) : State :=
  { s with tcache := s.tcache.filter fun x =>
      match scope with
      | 0 => !(x.asid == asid && x.page * 2 ^ 12 / 2 ^ pageShift (pteSize x.pte) == va / 2 ^ pageShift (pteSize x.pte))
      | 1 => x.asid != asid
      | _ => false }

/-- XINV a, b. -/
def execXinv (a b : Fin 32) (s : State) : Host.Outcome State Fault Refusal :=
  let i := Instr.xinv a b
  issue i true 0 s fun w => do
    s.chkOps w i
    let (x, y, s) ← s.read2 w a b
    .ok ((s.dropXlat x.toNat (bits y.toNat 9 8) (bits y.toNat 7 0)).retireVar w i)

/-- CINV a, b: every copy of frozen data of the range is discarded. -/
def execCinv (a b : Fin 32) (s : State) : Host.Outcome State Fault Refusal :=
  let i := Instr.cinv a b
  issue i true 0 s fun w => do
    s.chkOps w i
    let (x, y, s) ← s.read2 w a b
    .ok ((s.dropCopies (bits y.toNat 55 48) x.toNat (bits y.toNat 47 0)).retireVar w i)

end Sys2Proof.Machine
end

