-- ==== Sys2Proof/Machine/Matrix.lean ====
section
/-! DEFINITION. The arithmetic of the matrix unit and of the collective engines: operand types, weight images, K-blocks, wire blocks and hops
(R128, R129, R135 to R138, R282 to R284). -/

namespace Sys2Proof

/-! ## Operand types (R282) -/

/-- The format of an operand type code: 0 E4M3, 1 E5M2, 2 E2M1, 3 BF16. -/
def typeFmt : Nat → Fmt
  | 0 => e4m3
  | 1 => e5m2
  | 2 => e2m1
  | _ => bf16

/-- Whether the MXU implements a combination of WTYPE and SPARSE, and of ATYPE with them (Table 10.3). -/
def wtypeOk (wt : Nat) (sparse : Bool) : Bool := decide (wt < 4) && !(wt == 3 && sparse)
def combOk (wt at_ : Nat) (sparse : Bool) : Bool :=
  wtypeOk wt sparse && (if wt ≤ 1 then decide (at_ ≤ 1) else at_ == wt)

/-- Logical products per K-block, row bytes and weight-image bytes (Table 10.3). -/
def kbOf (wt : Nat) (sparse : Bool) : Nat := (if wt = 2 then 256 else 128) * (if sparse then 2 else 1)
def rlen (wt : Nat) (sparse : Bool) : Nat := if wt = 3 then 256 else if sparse then 256 else 128
def weightLen (wt : Nat) (sparse : Bool) : Nat := if !sparse then 32800 else if wt = 2 then 49184 else 40992

/-- The byte at an offset; bytes past the end read as zero. -/
def byteAt (bs : List Byte) (o : Nat) : Nat := (bs.getD o 0).toNat

/-- Nibble `k`, even ones low. -/
def nibbleAt (bs : List Byte) (k : Nat) : Nat := byteAt bs (k / 2) / 2 ^ (4 * (k % 2)) % 16

def halfAt (bs : List Byte) (o : Nat) : Nat := byteAt bs o + 256 * byteAt bs (o + 1)

/-- Activation `k` of a row (R284). -/
def actAt (at_ : Nat) (row : List Byte) (k : Nat) : Val :=
  (typeFmt at_).decode (if at_ = 2 then nibbleAt row k else if at_ = 3 then halfAt row (2 * k) else byteAt row k)

/-- Stored weight `k` of column `n` (Table 10.4). -/
def weightAt (wt : Nat) (img : List Byte) (k n : Nat) : Val :=
  (typeFmt wt).decode (if wt = 2 then nibbleAt (img.drop (128 * k)) n else if wt = 3 then halfAt img (256 * k + 2 * n) else byteAt img (256 * k + n))

/-- The products of a column's block: pairs of activation and weight; in a sparse plane those the metadata names (R283, R287). -/
def blockPairs (wt at_ : Nat) (sparse : Bool) (img row : List Byte) (n : Nat) : List (Val × Val) :=
  if !sparse then (List.range (kbOf wt false)).map fun k => (actAt at_ row k, weightAt wt img k n)
  else (List.range (kbOf wt true / 4)).flatMap fun j =>
    let m := nibbleAt (img.drop 32800) (256 * j + n)
    [(actAt at_ row (4 * j + m % 4), weightAt wt img (2 * j) n), (actAt at_ row (4 * j + m / 4), weightAt wt img (2 * j + 1) n)]

/-- A finite operand in units of 2^−16, which every FP8 and FP4 value is a multiple of. -/
def Val.units16 : Val → Int
  | .fin s n d => let x : Int := n * 2 ^ 16 / d; if s then -x else x
  | _ => 0

/-- The exact block sum with its special cases (R128). -/
def blockSum (ps : List (Val × Val)) : Val :=
  let sp := (ps.map fun (a, w) => a.mul w).filter fun p => p.isNan || p.isInf
  if ps.any (fun (a, w) => a.isNan || w.isNan) || sp.any Val.isNan then .nan
  else if sp.any (fun p => p.signBit) && sp.any (fun p => !p.signBit) then .nan
  else match sp.head? with
    | some p => p
    | none =>
      let z : Int := (ps.map fun p => (p.1.units16 * p.2.units16 : Int)).sum
      .fin (decide (z < 0)) z.natAbs (2 ^ 32)

/-- BlockStep: the accumulator after one K-block, as FP32 encodings (R128). -/
def blockStep (acc : Nat) (ps : List (Val × Val)) (sa sw : Nat) : Nat :=
  let b := blockSum ps
  let a := s12 sa
  let w := s12 sw
  let p := a.mul w
  let c : Val :=
    if a.isNan || w.isNan then .nan
    else if p.isZero then (match b with | .fin .. => .fin false 0 1 | _ => .nan)
    else match b with
      | .fin _ 0 _ => .fin false 0 1
      | _ => fp32.roundV .rne (b.mul p)
  fp32.round .rne (Val.add .rne (fp32.decode acc) c)

/-- One level of the BF16 tree: neighbours added, rounded to FP32. -/
def pairSums : List Val → List Val
  | x :: y :: xs => fp32.roundV .rne (Val.add .rne x y) :: pairSums xs
  | xs => xs

/-- Bf16Block: 64 products summed in the fixed tree (R129). -/
def bf16Block (acc : Nat) (ps : List (Val × Val)) : Nat :=
  let t := ps.map fun (a, w) => fp32.roundV .rne (a.mul w)
  let t := pairSums (pairSums (pairSums (pairSums (pairSums (pairSums t)))))
  fp32.round .rne (Val.add .rne (fp32.decode acc) (t.headD (.fin false 0 1)))

/-! ## Wire blocks (R135 to R138) -/

/-- The integer value of an E4M3 element in units of 2^−9; 0 for NaN (R135). -/
def elemUnits (e : Nat) : Int :=
  match e4m3.decode e with
  | .fin s n d => let x : Int := n * 2 ^ 9 / d; if s then -x else x
  | _ => 0

def elemNan (e : Nat) : Bool := (e4m3.decode e).isNan

/-- A sum modulo 255, in 0 to 254. -/
def mod255 (x : Int) : Nat := (x % 255).toNat

/-- The block residue (R135). -/
def residue (es : List Nat) : Nat := mod255 ((es.map elemUnits).sum)

/-- The header of Table 5.5: SCALE, GROW, a reserved bit, RES and SEQ (R135). -/
def wireHeader (scale grow res seq : Nat) : BitVec 32 :=
  BitVec.ofNat 32 (scale % 2 ^ 12 + grow % 2 ^ 3 * 2 ^ 12 + res % 2 ^ 8 * 2 ^ 16 + seq % 2 ^ 8 * 2 ^ 24)

/-- The fields of a wire block's header. The receiver has no use for the reserved bit (log entry 54). -/
def WireBlock.scale (x : WireBlock) : Nat := bits x.hdr.toNat 11 0
def WireBlock.grow (x : WireBlock) : Nat := bits x.hdr.toNat 14 12
def WireBlock.res (x : WireBlock) : Nat := bits x.hdr.toNat 23 16
def WireBlock.seq (x : WireBlock) : Nat := bits x.hdr.toNat 31 24

/-- The elements of a wire block, and its 36 bytes as they cross a link. -/
def WireBlock.elems (x : WireBlock) : List Byte := x.body.toList
def WireBlock.bytes (x : WireBlock) : List Byte := bytesOf 4 x.hdr.toNat ++ x.elems

/-- Whether the check code of a block's elements, in a buffer or on a link, matches (R386). -/
def WireBlock.whole (x : WireBlock) : Bool := checkCode x.elems 0 == x.check

/-- Elements of a wire block rounded onto the E4M3 grid at a growth exponent, or none where one passes 448 (R136, R137).
A value is a sign and a ratio, in units of the scale. -/
def growTo (vs : List (Option (Bool × Nat × Nat))) : Nat → Nat → Option (Nat × List Nat)
  | 0, _ => none
  | f + 1, g =>
    let q (v : Option (Bool × Nat × Nat)) : Val :=
      match v with
      | none => .nan
      | some (s, n, d) => e4m3.grid .rne 0 s n (d * 2 ^ g)
    let qs := vs.map q
    if qs.any fun x => x.absGt (.fin false 448 1) then growTo vs f (g + 1) else some (g, qs.map e4m3.encode)

/-- A block formed from FP32 encodings under a scale: growth and elements; none is a collective overflow. A NaN scale makes every element
0x7F (R136). Under a zero scale a zero value has no stated quotient: its element is free. -/
def formBlock (scale : Nat) (xs : List Nat) : Option (Nat × List Nat) :=
  match s12 scale with
  | .fin _ 0 _ =>
    if xs.all fun x => (fp32.decode x).isZero || (fp32.decode x).isNan then
      some (0, xs.map fun x => if (fp32.decode x).isNan then 0x7F else Config.zeroScaleElem % 256)
    else none
  | .fin _ sn sd =>
    let vs := xs.map fun x => match fp32.decode x with
      | .nan => some none
      | .inf _ => none
      | .fin s n d => some (some (s, n * sd, d * sn))
    if vs.any Option.isNone then none else growTo (vs.map fun v => v.getD none) 8 0
  | _ => some (0, xs.map fun _ => 0x7F)

/-- The first element at which a block overflows, for the report (R138). -/
def overflowAt (scale : Nat) (xs : List Nat) : Nat := ((List.range xs.length).find? fun k => (formBlock scale [xs.getD k 0]).isNone).getD 0

/-- Why a hop fails. -/
inductive HopFail | overflow (elem : Nat) | integrity
deriving DecidableEq, Repr

/-- Hop(A, B): growth and elements of the output (R137). The residues of the inputs have been checked, and with them the first check on the sums
holds; the second one is over every z[i], those of NaN elements included, whose q[i] and d[i] are 0. -/
def hop (ga : Nat) (ea : List Nat) (gb : Nat) (eb : List Nat) : Except HopFail (Nat × List Nat) :=
  let gm := min ga gb
  let zs := (ea.zip eb).map fun (a, b) => elemUnits a * 2 ^ (ga - gm) + elemUnits b * 2 ^ (gb - gm)
  let ns := (ea.zip eb).map fun (a, b) => elemNan a || elemNan b
  let vs : List (Option (Bool × Nat × Nat)) :=
    (zs.zip ns).map fun (z, n) => if n then none else some (decide (z < 0), z.natAbs * 2 ^ gm, 2 ^ 9)
  let g := max ga gb
  match growTo vs (8 - g) g with
  | some (g, es) =>
    let qs := es.map elemUnits
    let ds : List Int := ((zs.zip ns).zip qs).map fun ((z, n), q) => if n then 0 else z - q * 2 ^ (g - gm)
    if mod255 zs.sum = mod255 (qs.sum * 2 ^ (g - gm) + ds.sum) then .ok (g, es) else .error .integrity
  | none => .error (.overflow (((List.range zs.length).find? fun k => (growTo [vs.getD k none] 1 7).isNone).getD 0))

/-- The value that a rank writes for an element of a final block (R299). -/
def finalValue (scale g e : Nat) : Nat :=
  fp32.round .rne (scaled ((e4m3.decode e).mul (.fin false (2 ^ g) 1)) (s12 scale))

end Sys2Proof
end

