-- ==== Sys2Proof/Machine/Tile.lean ====
section
/-! DEFINITION. Tile commands at issue: guard, substitutions, the checks of R274 in their order, and the engine's queue or the commit queue
(R148, R273 to R278; the issue checks of R285 to R298). -/

namespace Sys2Proof

/-- The words that hold the destination of CPY.B, CPY.G and CPY.F. -/
def TileOp.dstWords (o : TileOp) : List Nat := if o = .cpyF then [1, 2] else [3, 4]

/-- Engine and command codes (Table 6.22). -/
def TileOp.engine : TileOp → Nat
  | .mwld | .mswap | .mact | .mdrn | .mzero | .msync => 0
  | .cpyB | .cpyC | .cpyG | .cpyF => 1
  | .crs | .cag | .car | .cbc => 2

def TileOp.cmd : TileOp → Nat
  | .mwld => 1 | .mswap => 2 | .mact => 3 | .mdrn => 4 | .mzero => 5 | .msync => 6
  | .cpyB => 1 | .cpyC => 2 | .cpyG => 3 | .cpyF => 4
  | .crs => 1 | .cag => 2 | .car => 3 | .cbc => 4

/-! ## Fields (Tables 10.5, 10.7, 10.8, 10.10) -/

namespace TWord

def fl (t : TWord) (hi lo : Nat) : Nat := bits t.flags.toNat hi lo
def note (t : TWord) : Bool := bitAt t.flags.toNat 0
def wtype (t : TWord) : Nat := t.fl 3 1
def sparse (t : TWord) : Bool := bitAt t.flags.toNat 4
def atype (t : TWord) : Nat := t.fl 7 5
def za (t : TWord) : Bool := bitAt t.flags.toNat 8
def fsh (t : TWord) : Fin 4 := Fin.ofNat 4 (t.fl 2 1)
def osc (t : TWord) : Bool := bitAt t.flags.toNat 3
def clr (t : TWord) : Bool := bitAt t.flags.toNat 4
def dmode (t : TWord) : Nat := t.fl 2 1
def rowslot (t : TWord) : Bool := bitAt t.flags.toNat 3
def eos (t : TWord) : Bool := bitAt t.flags.toNat 4
/-- EOS of CPY.C. -/
def ceos (t : TWord) : Bool := bitAt t.flags.toNat 1

def cbn (t : TWord) : Fin 32 := Fin.ofNat 32 t.w1.toNat
def dcoreM (t : TWord) : Nat := bits t.w1.toNat 7 5
def rows (t : TWord) : Nat := bits t.w1.toNat 14 8 + 1
def row0 (t : TWord) : Nat := bits t.w1.toNat 21 15
def cols (t : TWord) : Nat := bits t.w1.toNat 23 22
def tag (t : TWord) : Nat := t.w2.toNat % 2 ^ 16
def oscale (t : TWord) : Nat := t.w2.toNat % 2 ^ 12

/-- The 64-bit fields of words 1 and 2, and of words 3 and 4. -/
def lo64 (t : TWord) : Nat := t.w1.toNat + 2 ^ 32 * t.w2.toNat
def hi64 (t : TWord) : Nat := t.w3.toNat + 2 ^ 32 * t.w4.toNat
def rl (t : TWord) : Nat := t.w5.toNat % 2 ^ 16 * 32
def nrows (t : TWord) : Nat := t.w5.toNat / 2 ^ 16 + 1
def spitch (t : TWord) : Int := t.w6.toInt
def idxOff (t : TWord) : Nat := t.w6.toNat % 2 ^ 20
def iw (t : TWord) : Nat := if bitAt t.w6.toNat 20 then 8 else 4
/-- CPY.C: source offset, length in bytes, destination buffer and core. -/
def coff (t : TWord) : Nat := t.w1.toNat % 2 ^ 20
def clen (t : TWord) : Nat := t.w2.toNat % 2 ^ 16 * 32
def dcb (t : TWord) : Fin 32 := Fin.ofNat 32 t.w3.toNat
def dcore (t : TWord) : Nat := bits t.w3.toNat 15 5

end TWord

/-- Bytes that a CPY.B, CPY.G or CPY.F places. -/
def TileOp.total (o : TileOp) (t : TWord) : Nat :=
  match o with
  | .cpyB | .cpyG => t.nrows * t.rl
  | .cpyF => t.w5.toNat * 32
  | .cpyC => t.clen
  | _ => 0

/-- The columns an MDRN drains (R288). -/
def TWord.drained (t : TWord) : List Nat :=
  match t.cols with
  | 0 => List.range 256
  | 1 => List.range 128
  | _ => (List.range 128).map (· + 128)

/-- The register that names operand word `k`; zero for none (Table 6.14). -/
def TWord.subst (t : TWord) (k : Nat) : Nat := bits t.w7.toNat (5 * k - 1) (5 * k - 5)

/-- PAIR1 and PAIR3, and whether the second field of a pair is not zero, which is unassigned. -/
def TWord.pair1 (t : TWord) : Bool := bitAt t.w7.toNat 30
def TWord.pair3 (t : TWord) : Bool := bitAt t.w7.toNat 31
def TWord.pairBad (t : TWord) : Bool := (t.pair1 && t.subst 2 != 0) || (t.pair3 && t.subst 4 != 0)

/-- The operand words as units: a pair of words from one register, or one word. -/
def TWord.units (t : TWord) : List (Nat × Bool) :=
  (if t.pair1 then [(1, true)] else [(1, false), (2, false)]) ++ (if t.pair3 then [(3, true)] else [(3, false), (4, false)])
    ++ [(5, false), (6, false)]

/-- Operand word `k`. -/
def TWord.word (t : TWord) (k : Nat) : BitVec 32 := [t.w1, t.w2, t.w3, t.w4, t.w5, t.w6].getD (k - 1) 0

/-- A T word with its operand words resolved. -/
def TWord.withWords (t : TWord) (ws : List (BitVec 32)) : TWord :=
  let x (k : Nat) : BitVec 32 := ws.getD (k - 1) 0
  { t with w1 := x 1, w2 := x 2, w3 := x 3, w4 := x 4, w5 := x 5, w6 := x 6, w7 := 0 }

/-- Whether reserved bits, a type code or a field's range make a T word illegal (R150, R274 step 1, R285 to R298), as far as the operand words
that `k` says are known tell. -/
def TileOp.illegal (o : TileOp) (k : Nat → Bool) (t : TWord) : Bool :=
  let f := t.flags.toNat
  let w1 (b : Bool) : Bool := k 1 && b
  let w2 (b : Bool) : Bool := k 2 && b
  let w3 (b : Bool) : Bool := k 3 && b
  let w5 (b : Bool) : Bool := k 5 && b
  let w6 (b : Bool) : Bool := k 6 && b
  let z (ns : List Nat) : Bool := ns.any fun n => k n && [t.w1, t.w2, t.w3, t.w4, t.w5, t.w6].getD (n - 1) 0 != 0
  let dm : Bool := t.dmode == 3 || (t.eos && decide (t.dmode < 2))
  let far (x : Nat) : Bool := (t.dmode == 1 && decide (2 ^ 20 ≤ x)) || (t.dmode == 2 && decide (32 ≤ x))
  let dst : Bool := k 3 && k 4 && far t.hi64
  let past : Bool := w1 (decide (128 < t.row0 + t.rows))
  match o with
  | .mwld => decide (32 ≤ f) || decide (4 ≤ t.wtype) || w1 (t.w1.toNat / 32 != 0) || w2 (t.w2.toNat / 2 ^ 16 != 0) || z [3, 4, 5, 6]
  | .mswap => decide (2 ≤ f) || z [1, 2, 3, 4, 5, 6]
  | .mact => decide (512 ≤ f) || decide (4 ≤ t.wtype) || decide (4 ≤ t.atype) || w1 (t.dcoreM != 0 || t.w1.toNat / 2 ^ 22 != 0)
      || w2 (t.w2.toNat / 2 ^ 16 != 0) || z [3, 4, 5, 6] || past
  | .mdrn => decide (32 ≤ f) || w1 (t.w1.toNat / 2 ^ 24 != 0 || t.cols == 3) || w2 (t.w2.toNat / 2 ^ 12 != 0) || z [4, 5, 6] || past
  | .mzero => decide (2 ≤ f) || w1 (t.w1.toNat % 2 ^ 8 != 0 || t.w1.toNat / 2 ^ 22 != 0) || z [2, 3, 4, 5, 6] || past
  | .msync => f != 0 || z [2, 3, 4, 5, 6]
  | .cpyB => decide (32 ≤ f) || dm || dst || w5 (t.rl == 0)
  | .cpyG => decide (32 ≤ f) || dm || dst || w5 (t.rl == 0) || w6 (t.w6.toNat / 2 ^ 21 != 0)
  | .cpyC => decide (4 ≤ f) || w1 (t.w1.toNat / 2 ^ 20 != 0) || w2 (t.w2.toNat / 2 ^ 16 != 0) || w3 (t.w3.toNat / 2 ^ 16 != 0) || z [4, 5, 6]
      || w3 (decide (1536 ≤ t.dcore)) || w2 (decide (2 ^ 20 < t.clen) || (t.clen == 0 && !t.ceos))
  | .cpyF => decide (32 ≤ f) || t.rowslot || dm || (k 1 && k 2 && far t.lo64) || w5 (t.w5 == 0) || z [6]
  | .crs | .cag | .car | .cbc => decide (2 ≤ f) || w5 (t.w5 == 0 || decide (2 ^ 24 < t.w5.toNat))

/-- The destination of CPY.B, CPY.G and CPY.F. -/
def TileOp.dst (o : TileOp) (t : TWord) : Nat := if o = .cpyF then t.lo64 else t.hi64

end Sys2Proof

namespace Sys2Proof.Machine

/-! ## Substitution (R148) -/

/-- A register of a T word read behind a stop `e?` of an earlier one: no element is popped any more. -/
def State.readBehind (s : State) (w : Who) (e? : Option Stop) (n : Fin 32) : M (Word × State) :=
  match e? with
  | some e => if ((s.th w).binding n).isSome then .error e else s.readG w n
  | none => s.readG w n

/-- Resolve: operand words from their registers at the issue turn, in ascending order; the numbers of those that cannot be read, which stand as the
program holds them; and what stops the first of them, `e?` being a stop met before. -/
def State.resolve? (s : State) (w : Who) (t : TWord) (e? : Option Stop) : List (Nat × Bool) → List (BitVec 32) × State × List Nat × Option Stop
  | [] => ([], s, [], e?)
  | (k, two) :: rest =>
    let n := t.subst k
    let go (ws : List (BitVec 32)) (s : State) (e? : Option Stop) (open_ : List Nat) : List (BitVec 32) × State × List Nat × Option Stop :=
      let (xs, s, ks, e?) := s.resolve? w t e? rest
      (ws ++ xs, s, open_ ++ ks, e?)
    if n = 0 then go (if two then [0, 0] else [t.word k]) s e? []
    else match s.readBehind w e? (Fin.ofNat 32 n) with
      | .ok (v, s) => go (v.setWidth 32 :: if two then [(v >>> 32).setWidth 32] else []) s e? []
      | .error e => go (t.word k :: if two then [t.word (k + 1)] else []) s (some e) (k :: if two then [k + 1] else [])

/-! ## The checks of R274 -/

/-- The record of an MDRN's shadow: FMT 0x1 to 0x6, BLK 0 (R288). -/
def State.drainRec (s : State) (w : Who) (i : Instr) (n : Fin 4) : M Nat :=
  match (s.at w).recs[n] with
  | some r => if 1 ≤ recFmt r ∧ recFmt r ≤ 6 ∧ recBlk r = 0 then .ok r else fail 0x01 (encodeWord i)
  | none => fail 0x01 (encodeWord i)

/-- Step 1: decode, combination and capability group; the record of an MDRN (R110, R111, R282, R288). -/
def State.tileDecode (s : State) (w : Who) (i : Instr) (o : TileOp) (k : Nat → Bool) (t : TWord) : M Nat := do
  illegalIf i (o.illegal k t || ((s.th w).codelet && (t.note || o == .msync)))
  let r ← if o = .mdrn then s.drainRec w i t.fsh else .ok 0
  let comb := match o with
    | .mwld => wtypeOk t.wtype t.sparse
    | .mact => combOk t.wtype t.atype t.sparse
    | _ => true
  failIf (!comb) 0x04 (encodeWord i)
  let mxs := match o with
    | .mwld | .mact => t.wtype == 2 || t.sparse
    | .mdrn => recFmt r == 6
    | _ => false
  fate w i false (if mxs then 4 else 3) s
  .ok r

/-- Whether every operand word of a list is known. -/
def allKnown (k : Nat → Bool) (ns : List Nat) : Bool := ns.all k

/-- Step 3: alignment. An SPITCH that is no multiple of 32 has its own sign-extended value as tval (log entry 97). -/
def tileAligned (o : TileOp) (k : Nat → Bool) (t : TWord) : M Unit :=
  let al (ns : List Nat) (bad : Bool) (va : Nat) : M Unit := failIf (allKnown k ns && bad) 0x05 (BitVec.ofNat 64 va)
  let d : M Unit := match t.dmode with
    | 0 => al o.dstWords (o.dst t % 32 != 0) (o.dst t)
    | 1 => al o.dstWords (o.dst t % 32 != 0) (localVa (o.dst t))
    | _ => .ok ()
  match o with
  | .cpyB => do
    al [1, 2] (t.lo64 % 32 != 0) t.lo64
    failIf (k 6 && t.spitch % 32 != 0) 0x05 (toWord t.spitch)
    d
  | .cpyG => do
    al [6] (t.idxOff % 8 != 0) (localVa t.idxOff)
    al [1, 2] (t.lo64 % 32 != 0) t.lo64
    d
  | .cpyF => d
  | .cpyC => al [1] (t.coff % 32 != 0) (localVa t.coff)
  | .crs | .cag | .car | .cbc => do
    al [1, 2] (t.lo64 % 64 != 0) t.lo64
    al [3, 4] (t.hi64 % 32 != 0) t.hi64
  | _ => .ok ()

/-- Whether a buffer of the issuing core takes slots from a command (R288, R291). -/
def State.cbTakes (s : State) (c : Nat) (n : Fin 32) (size : Nat) : Bool :=
  let q := s.cb c n
  q.en && q.pkind == 0 && !q.eos && !s.bound c n true && decide (size ≤ q.bytes)

/-- Step 4: buffers of the issuing core (R285, R287, R288, R291). -/
def State.tileBuffers (s : State) (w : Who) (o : TileOp) (k : Nat → Bool) (t : TWord) (r : Nat) : M Unit :=
  let named := if o.engine = 0 then [1] else o.dstWords
  let need (ok : Bool) (n : Fin 32) : M Unit := if ok || !allKnown k named then .ok () else cbFault w.core n
  let q := s.cb w.core t.cbn
  let open_ := q.en && !s.bound w.core t.cbn false
  match o with
  | .mwld => need (open_ && decide (ceilDiv (weightLen t.wtype t.sparse) q.bytes ≤ q.slots)) t.cbn
  | .mact => need (open_ && decide (rlen t.wtype t.sparse + 2 ≤ q.bytes)) t.cbn
  | .mdrn => need (t.dcoreM != w.core % 8 || s.cbTakes w.core t.cbn (t.drained.length * codeBits (recFmt r) / 8)) t.cbn
  | .cpyB | .cpyG | .cpyF =>
    let n := Fin.ofNat 32 (o.dst t)
    need (t.dmode != 2 || s.cbTakes w.core n 0) n
  | _ => .ok ()

/-- Steps 5 and 6: address bits, and a source in window 63. -/
def tileAddresses (o : TileOp) (k : Nat → Bool) (t : TWord) : M Unit :=
  let hi (ns : List Nat) (va : Nat) : M Unit := failIf (allKnown k ns && decide (2 ^ 54 ≤ va)) 0x09 (BitVec.ofNat 64 va)
  let d : M Unit := if t.dmode = 0 then hi o.dstWords (o.dst t) else .ok ()
  match o with
  | .cpyB => do
    hi [1, 2] t.lo64
    d
    failIf (allKnown k [1, 2] && inLocal t.lo64) 0x0B (BitVec.ofNat 64 t.lo64)
  | .cpyG => do
    hi [1, 2] t.lo64
    d
  | .cpyF => d
  | .crs | .cag | .car | .cbc => do
    hi [1, 2] t.lo64
    hi [3, 4] t.hi64
  | _ => .ok ()

/-- Step 7: a local range in the grant; tval is the first address outside it. An empty range whose offset lies outside the grant is outside it (log
entry 95). -/
def State.tileRange (s : State) (w : Who) (off n : Nat) : M Unit :=
  let (c, b, l) := s.grant w
  if w.slot = 15 then .ok ()
  else if c ≠ w.core then fail 0x0C (BitVec.ofNat 64 (localVa off))
  else if off < b ∨ b + l < off + n then
    fail 0x0C (BitVec.ofNat 64 (localVa (if b ≤ off ∧ off < b + l then b + l else off)))
  else .ok ()

def State.tileGrant (s : State) (w : Who) (o : TileOp) (k : Nat → Bool) (t : TWord) : M Unit :=
  let range (ns : List Nat) (off n : Nat) : M Unit := if allKnown k ns then s.tileRange w off n else .ok ()
  let d : M Unit := if t.dmode = 1 then range (5 :: o.dstWords) (o.dst t) (o.total t) else .ok ()
  match o with
  | .cpyC => range [1, 2] t.coff t.clen
  | .cpyB | .cpyF => d
  | .cpyG => do
    range [5, 6] t.idxOff (t.iw * t.nrows)
    d
  | _ => .ok ()

/-- The command as its queue holds it. -/
def State.qcmd (s : State) (w : Who) (o : TileOp) (t : TWord) (r : Nat) : QCmd :=
  let x := s.at w
  { op := o, t := t, slot := w.slot, task := x.task, codelet := x.th.codelet, pc := x.th.pc, asid := x.asid, owner := x.owner, seed := x.th.seed,
    frec := r, held := none, at_ := s.gtime, idx := [], sb := 0, stream := [], done := 0, away := none }

/-- Whether an engine's queue has a free entry: eight for the MXU and for copies, four for collectives (R273). -/
def Core.queueFree (k : Core) (engine : Nat) : Bool :=
  match engine with
  | 0 => decide (k.mxq.length < 8)
  | 1 => decide (k.copyq.length < 8)
  | _ => decide (k.collq.length < 4)

/-- A command at the tail of its engine's queue. -/
def Core.enter (k : Core) (q : QCmd) : Core :=
  match q.op.engine with
  | 0 => { k with mxq := k.mxq ++ [q] }
  | 1 => { k with copyq := k.copyq ++ [q] }
  | _ => { k with collq := k.collq ++ [q] }

/-- A command at the tail of its engine's queue. With no free entry it waits behind those that wait already, resolved, and its thread is BUSY
(R29, R273). -/
def State.pushCmd (s : State) (w : Who) (i : Instr) (q : QCmd) : State :=
  let k := s.core w.core
  if k.queueFree q.op.engine && !(k.tileWait.any fun x => x.op.engine == q.op.engine) then (s.updCore w.core fun k => k.enter q).retire w i
  else (s.updCore w.core fun k => { k with tileWait := k.tileWait ++ [q] }).upd w fun x =>
    { x with st := .busy, out := some i, busy := .queue q.op.engine, th := { x.th with pc := s.nextPc w i } }

/-- Waiting commands enter in the cycle in which entries free, first come first, and their threads' instructions complete (R29, R273). `n` bounds
the commands. -/
def State.queueRun (s : State) (c : Nat) : Nat → State
  | 0 => s
  | n + 1 =>
    match (s.core c).tileWait.find? fun q => (s.core c).queueFree q.op.engine with
    | none => s
    | some q =>
      let w : Who := ⟨c, q.slot⟩
      (((s.updCore c fun k => { k with tileWait := k.tileWait.erase q }.enter q).upd w fun x => { x with busy := .completing }).post
        [.instructionCompletion c q.slot]).queueRun c n

def State.queueNext (s : State) (c : Nat) : State := s.queueRun c (s.core c).tileWait.length

/-- The checks of R274 that rank before a stop `e` of an operand (Table 4.1): a CB fault stands behind the alignment, a wait behind them all. -/
def tileBefore (e : Stop) (aligned rest : M Unit) : M Unit :=
  match e with
  | .trap .. | .localTrap .. => aligned
  | _ => do
    aligned
    rest

/-- A tile command at issue: a guard of zero makes it a no-operation; else it is resolved, checked and queued, or held in the commit queue
for a task with uncommitted history (R148, R273, R274, R278). An operand that cannot be read stops it in the order of the checks. -/
def tileIssue (o : TileOp) (i : Instr) (t0 : TWord) (s0 : State) : Host.Outcome State Fault Refusal :=
  let w := s0.who
  finish w i s0 do
    if !s0.readP w t0.guard then .ok (s0.retire w i)
    else
      let (ws, s, open_, stop) := s0.resolve? w t0 none t0.units
      let t := t0.withWords ws
      let k (n : Nat) : Bool := !open_.contains n
      illegalIf i t0.pairBad
      let r ← s.tileDecode w i o k t
      s0.chkBound w i
      failIf (o.engine == 0 && s.history w) 0x08 (encodeWord i)
      let rest : M Unit := do
        s.tileBuffers w o k t r
        tileAddresses o k t
        s.tileGrant w o k t
      match stop with
      | some e =>
        tileBefore e (tileAligned o k t) (do s0.chkCb w i; rest)
        .error e
      | none =>
        tileAligned o k t
        rest
        let q := s.qcmd w o t r
        if s.history w then do
          let s ← s0.hold s w i (.tile q)
          .ok (s.retire w i)
        else .ok (s.pushCmd w i q)

/-- MWLD (R285). -/
def execMwld (t : TWord) (s : State) : Host.Outcome State Fault Refusal := tileIssue .mwld (.mwld t) t s

/-- MSWAP (R286). -/
def execMswap (t : TWord) (s : State) : Host.Outcome State Fault Refusal := tileIssue .mswap (.mswap t) t s

/-- MACT (R287). -/
def execMact (t : TWord) (s : State) : Host.Outcome State Fault Refusal := tileIssue .mact (.mact t) t s

/-- MDRN (R288). -/
def execMdrn (t : TWord) (s : State) : Host.Outcome State Fault Refusal := tileIssue .mdrn (.mdrn t) t s

/-- MZERO (R289). -/
def execMzero (t : TWord) (s : State) : Host.Outcome State Fault Refusal := tileIssue .mzero (.mzero t) t s

/-- MSYNC (R290). -/
def execMsync (t : TWord) (s : State) : Host.Outcome State Fault Refusal := tileIssue .msync (.msync t) t s

/-- CPY.B (R292). -/
def execCpyB (t : TWord) (s : State) : Host.Outcome State Fault Refusal := tileIssue .cpyB (.cpyB t) t s

/-- CPY.C (R293). -/
def execCpyC (t : TWord) (s : State) : Host.Outcome State Fault Refusal := tileIssue .cpyC (.cpyC t) t s

/-- CPY.G (R295). -/
def execCpyG (t : TWord) (s : State) : Host.Outcome State Fault Refusal := tileIssue .cpyG (.cpyG t) t s

/-- CPY.F (R296). -/
def execCpyF (t : TWord) (s : State) : Host.Outcome State Fault Refusal := tileIssue .cpyF (.cpyF t) t s

/-- CRS (R298, R299). -/
def execCrs (t : TWord) (s : State) : Host.Outcome State Fault Refusal := tileIssue .crs (.crs t) t s

/-- CAG (R298, R299). -/
def execCag (t : TWord) (s : State) : Host.Outcome State Fault Refusal := tileIssue .cag (.cag t) t s

/-- CAR (R298, R299). -/
def execCar (t : TWord) (s : State) : Host.Outcome State Fault Refusal := tileIssue .car (.car t) t s

/-- CBC (R298, R299). -/
def execCbc (t : TWord) (s : State) : Host.Outcome State Fault Refusal := tileIssue .cbc (.cbc t) t s

end Sys2Proof.Machine
end

