-- ==== Sys2Proof/Machine/Engines.lean ====
section
/-! DEFINITION. The engines that run tile commands: notices, engine faults and refusals, the MXU arbiter and the MXU, the copy engines with
their channels, and the landing slot (R31, R61, R109, R273 to R296). -/

namespace Sys2Proof.Machine

/-! ## Completion, faults, refusals (R275 to R277) -/

/-- Whether a command belongs to a launch that has been stopped or has ended. Commands of the system slot belong to none. -/
def State.cmdStopped (s : State) (q : QCmd) : Bool := decide (q.task.launch < 4096) && s.stopped q.task.launch

/-- The completion payload (Table 10.1). -/
def noticePayload (q : QCmd) (count bucket : Nat) : List Byte :=
  bytesOf 32 (q.pc.toNat + q.op.engine * 2 ^ 64 + q.op.cmd * 2 ^ 72 + (if q.op = .msync then q.t.w1.toNat else 0) * 2 ^ 96
    + count % 2 ^ 64 * 2 ^ 128 + bucket % 2 ^ 64 * 2 ^ 192)

/-- A command's completion: its notice, where it asks for one and has a task (R275). -/
def State.cmdNotice (s : State) (q : QCmd) (count bucket : Nat) : State :=
  if (q.t.note || q.op == .msync) && !q.codelet && decide (q.task.launch < 4096) then s.notify q.task (noticePayload q count bucket) else s

/-- An engine fault reported (R276). -/
def State.engineReport (s : State) (core : Nat) (q : QCmd) (reason cause : Nat) (tval : Word) : State :=
  s.report q.task.launch { src := 1, code := cause, sub := reason, core := core, slot := q.slot.val, wid := q.task.wid, pc := q.pc, tval := tval,
                           tag := 0, cmd := some (q.op.engine, q.op.cmd) }

/-- An engine fault whose reason has no tval in the spec: a free value stands there. -/
def State.engineReportFree (s : State) (core : Nat) (q : QCmd) (reason : Nat) : State :=
  let (v, s) := s.draw
  s.engineReport core q reason 0 v

/-- A machine check that an engine meets: the error record and the stop of the command's launch (R342, R387, R388). -/
def State.engineCheck (s : State) (core : Nat) (q : QCmd) (sub : Nat) (tval : Word) : State :=
  let s := s.logError 0x01 sub core q.slot.val 0 0 (if q.task.launch < 4096 then q.task.launch else 0xFFF) tval
  s.post [.launchStop q.task.launch .fault (some (checkReport sub tval))]

/-- An engine's failed access, `ended` being the state without its command: an engine fault 0x04 with its cause, or, for a machine check, the
error record and the stop of the launch (R276, R342, R387). A transfer to another package waits for its port, and stops the launch where no
VALID route leads there (R395, R396): `waits` is told the port. -/
def State.engineAccess (ended : State) (waits : Nat → State) (core : Nat) (q : QCmd) (e : Stop) : State :=
  match e with
  | .trap 0x20 tval sub _ => ended.engineCheck core q sub tval
  | .trap code tval _ log =>
    let s := match log with
      | some (ty, a) => ended.logError ty 0 core q.slot.val 0 0 (if q.task.launch < 4096 then q.task.launch else 0xFFF) a
      | none => ended
    s.engineReport core q 0x04 code tval
  | .away dev => match ended.portTo dev with
    | some (p, _) => waits p
    | none => ended.cpStop q.task.launch
  | _ => ended

/-- A refusal pending at a thread: with its slot, or with its directory entry while it is not in one; reported to the launch where the thread
has ended (R195, R277). `src` is the report's SRC and SUB. -/
def State.pendRefusal (s : State) (core : Nat) (slot : Fin 16) (task : TaskId) (codelet : Bool) (src : Nat × Nat) (r : Refused) : State :=
  let gone : State := s.report task.launch ⟨src.1, r.code, src.2, core, slot.val, task.wid, r.pc, r.tval, 0, none⟩
  let put (w : Who) : State := s.upd w fun x => { x with refused := x.refused ++ [r] }
  let here (w : Who) : Bool :=
    let x := s.at w
    x.st != .empty && x.st != .reserved && x.task == task && x.th.codelet == codelet
  if codelet || 4096 ≤ task.launch then (if here ⟨core, slot⟩ then put ⟨core, slot⟩ else gone)
  else match s.task? task with
    | none => gone
    | some t => match t.place with
      | .on c sl => put ⟨c, sl⟩
      | .exited | .queued => gone
      | _ => s.updTask task fun t => { t with refused := t.refused ++ [r] }

/-- A refused command: the CB fault waits at its thread, or stops the launch of a command applied from a commit queue (R277). -/
def State.refuseCmd (s : State) (core : Nat) (q : QCmd) (dst : Nat) (cb : Fin 32) : State :=
  match q.held with
  | some vt => s.report q.task.launch ⟨2, 0x07, 0, core, q.slot.val, q.task.wid, q.pc, cbTval dst cb, BitVec.ofNat 64 vt, none⟩
  | none => s.pendRefusal core q.slot q.task q.codelet (1, 0) ⟨0x07, cbTval dst cb, q.pc⟩

/-! ## Buffers as engines meet them -/

/-- Slots of a buffer that an arriving slot may take: those not filled and not promised to a landing handler (R61, R294). -/
def State.roomAt (s : State) (c : Nat) (n : Fin 32) : Nat :=
  let k := s.core c
  let b := k.cbs[n]
  b.slots - b.filled - (k.landing.filter fun x => x.cb == n).length - (match k.landingCb with | some (m, _) => if m = n then 1 else 0 | none => 0)

/-- Whether a buffer accepts slots of a channel or of a drain from a core (R277, R288, R293). -/
def Cb.takesFrom (b : Cb) (src : Nat) (drain : Bool) : Bool :=
  b.en && !b.eos && b.srccore == src && (b.pkind == 1 || (!drain && b.pkind == 2))

/-- A data slot written at PPTR, filled out with zeros. -/
def State.fillSlotAt (s : State) (c : Nat) (n : Fin 32) (data : List Byte) : State :=
  let b := s.cb c n
  s.lwrite c (b.addr b.pptr) (data ++ List.replicate (b.bytes - data.length) 0)

/-! ## The arbiter (R31) -/

/-- Whether a queue head matches the active tag. -/
def headMatches (m : Mxu) (q : QCmd) : Bool := q.op != .mact || q.t.tag == m.active.tag

/-- Weight of core `c` of a cluster (Table 1.11). -/
def Mxu.weight (m : Mxu) (c : Nat) : Nat := bits m.mxwt.toNat (4 * c + 3) (4 * c)

/-- Select() of R31: the queue heads by core; the choice and the MXU's new credits and pointer. -/
def Mxu.select (m : Mxu) (head : Fin 8 → Option QCmd) : Option (Fin 8 × QCmd × Mxu) :=
  let ready := (List.finRange 8).filter fun c => (head c).isSome
  if ready.isEmpty then none
  else
    let m := if ready.any fun c => m.credit[c] != 0 then m else { m with credit := Vector.ofFn fun c => m.weight c.val }
    let cand := ready.filter fun c => m.credit[c] != 0
    let pref := cand.filter fun c => match head c with | some q => headMatches m q | none => false
    let pool := if pref.isEmpty then cand else pref
    match ((List.finRange 8).map fun k => m.p + k).find? fun c => pool.contains c with
    | none => none
    | some c => (head c).map fun q => (c, q, { m with credit := m.credit.set c (m.credit[c] - 1), p := c + 1 })

/-- ARBITER_SELECT: the next command of a cluster, where the MXU can accept one (R31, R281). -/
def State.arbiter (s : State) (cl : Nat) : State :=
  let m := s.mxu cl
  if m.running.isSome then s
  else match m.select fun c => (s.core (8 * cl + c.val)).mxq.head? with
    | none => s
    | some (c, q, m) =>
      ((s.updCore (8 * cl + c.val) fun k => { k with mxq := k.mxq.tail }).updMxu cl fun _ => { m with running := some (c, q) }).queueNext
        (8 * cl + c.val)

/-! ## The MXU (R280 to R290) -/

/-- Key of an accumulator. -/
def accKey (k : Fin 8) (row col : Nat) : Nat := (k.val * 128 + row) * 256 + col

/-- An accumulator set; +0 is unlisted. -/
def accPut (t : Tbl (BitVec 32)) (key v : Nat) : Tbl (BitVec 32) :=
  if v % 2 ^ 32 = 0 then t.del key else t.put key (BitVec.ofNat 32 v)

/-- The columns of a weight type. -/
def colsOf (wt : Nat) : List Nat := List.range (if wt = 3 then 128 else 256)

/-- One activation row against the active plane (R287). -/
def mactRow (m : Mxu) (q : QCmd) (k : Fin 8) (slot : List Byte) (r : Nat) : Tbl (BitVec 32) :=
  let t := q.t
  let sa := halfAt slot (rlen t.wtype t.sparse)
  (colsOf t.wtype).foldl (fun acc n =>
    let key := accKey k r n
    let a := if t.za then 0 else (acc.getD key 0).toNat
    let ps := blockPairs t.wtype t.atype t.sparse m.active.img slot n
    accPut acc key (if t.wtype = 3 then bf16Block (bf16Block a (ps.take 64)) (ps.drop 64)
      else blockStep a ps sa (if n / 128 = 0 then m.active.scale0 else m.active.scale1))) m.acc

/-- The bytes of a drained row (R288). -/
def drainRow (m : Mxu) (q : QCmd) (k : Fin 8) (r : Nat) : List Byte :=
  let b := codeBits (recFmt q.frec)
  let xs := q.t.drained.map fun n =>
    let x := fp32.decode (m.acc.getD (accKey k r n) 0).toNat
    let x := if q.t.osc then scaled x (s12 q.t.oscale) else x
    convert x q.frec (mix32 q.seed.toNat q.task.wid.toNat (q.t.w3.toNat + 256 * r + n))
  bytesOf (q.t.drained.length * b / 8) (packBits b xs)

/-- The accumulators of a drained row cleared where CLR asks. -/
def clearRow (m : Mxu) (q : QCmd) (k : Fin 8) (r : Nat) : Tbl (BitVec 32) :=
  if q.t.clr then q.t.drained.foldl (fun acc n => acc.del (accKey k r n)) m.acc else m.acc

/-- The shadow plane that an image loads (R283, R285). -/
def planeOf (t : TWord) (bs : List Byte) : Plane :=
  ⟨bs.take (weightLen t.wtype t.sparse), halfAt bs 32768 % 2 ^ 12, halfAt bs 32770 % 2 ^ 12, t.tag, t.wtype, t.sparse⟩

/-- The MXU free again. -/
def State.mxuIdle (s : State) (cl : Nat) : State := s.updMxu cl fun m => { m with running := none }

/-- The running command with a row more done. -/
def State.mxuNext (s : State) (cl : Nat) : State :=
  s.updMxu cl fun m => { m with running := m.running.map fun (k, q) => (k, { q with done := q.done + 1 }) }

/-- A command that ends with its notice. -/
def State.mxuEnd (s : State) (cl : Nat) (q : QCmd) (count : Nat) : State := (s.mxuIdle cl).cmdNotice q count 0

/-- An engine fault of the running MXU command. -/
def State.mxuFault (s : State) (cl core : Nat) (q : QCmd) (reason : Nat) : State := (s.mxuIdle cl).engineReportFree core q reason

/-- What a command finds in the buffer it consumes: an engine fault, a wait for slots, one for the local-memory lock, bytes it cannot read, with SUB
and tval (R386 to R388), or its slots. -/
inductive Feed | fault (reason : Nat) | wait | locked | broken (sub : Nat) (tval : Word) | slots (bs : List Byte)
deriving DecidableEq, Repr

/-- `n` filled slots from CPTR (R285, R287). -/
def State.feed (s : State) (c : Nat) (cb : Fin 32) (ok : Bool) (n : Nat) : Feed :=
  let b := s.cb c cb
  if !b.en || !ok then .fault 0x02
  else if (match b.tokenAt with | some t => decide (t < n) | none => false) then .fault 0x03
  else if b.filled < n then .wait
  else if (s.core c).lmx then .locked
  else match (List.range n).findSome? fun i => s.unsound c (b.addr ((b.cptr + i) % b.slots)) b.bytes with
  | some (sub, tval) => .broken sub tval
  | none => .slots ((List.range n).flatMap fun i => s.lread c (b.addr ((b.cptr + i) % b.slots)) b.bytes)

/-- The running MXU command ended by a machine check of its read (R387, R388). -/
def State.mxuBroken (s : State) (cl core : Nat) (q : QCmd) (sub : Nat) (tval : Word) : State := (s.mxuIdle cl).engineCheck core q sub tval

/-- Whether columns of a row of accumulators hold a double-bit error: a word of the array holds two (R388). -/
def State.accBad (s : State) (cl : Nat) (k : Fin 8) (row : Nat) (cols : List Nat) : Bool :=
  cols.any fun n => s.sramBad (.acc cl) (accKey k row n / 2) 1

/-- Words of accumulators written anew: `n` columns of each of `rows` rows. -/
def State.accFresh (s : State) (cl : Nat) (k : Fin 8) (row rows n : Nat) : State :=
  (List.range rows).foldl (fun (s : State) r => s.refresh (.acc cl) (accKey k (row + r) 0 / 2) (n / 2)) s

/-- A running command that waits for slots of a buffer or for a restore: dropped where its launch is stopped (R100). -/
def State.mxuWait (s : State) (cl : Nat) (q : QCmd) : State := if s.cmdStopped q then s.mxuIdle cl else s

/-- One step of an MDRN: a row into a buffer of its own core, or a row sent to another core of the cluster (R288). -/
def State.drainStep (s : State) (cl : Nat) (k : Fin 8) (q : QCmd) : State :=
  let c := 8 * cl + k.val
  let d := 8 * cl + q.t.dcoreM
  let b := s.cb d q.t.cbn
  let row := q.t.row0 + q.done
  let size := q.t.drained.length * codeBits (recFmt q.frec) / 8
  if d = c then
    if !b.en || b.pkind != 0 || b.eos || decide (b.bytes < size) then s.mxuFault cl c q 0x02
    else if b.filled = b.slots then s.mxuWait cl q
    else if (s.core c).lmx then s
    else if s.accBad cl k row q.t.drained then s.mxuBroken cl c q 0x02 0
    else
      let data := drainRow (s.mxu cl) q k row
      let s := (s.fillSlotAt c q.t.cbn data).updCb c q.t.cbn fun b => b.advP 1
      (s.updMxu cl fun m => { m with acc := clearRow m q k row }).mxuNext cl
  else if b.reclaimed then s.mxuWait cl q
  else if b.takesFrom c true && decide (size ≤ b.bytes) && s.roomAt d q.t.cbn == 0 then s.mxuWait cl q
  else if b.takesFrom c true && decide (size ≤ b.bytes) && (s.core d).lmx then s
  else if s.accBad cl k row q.t.drained then s.mxuBroken cl c q 0x02 0
  else s.post [.drainSlotArrival ⟨true, s.colour, d, q.t.cbn, c, q.task, drainRow (s.mxu cl) q k row, false⟩]

/-- MXU_COMMAND_EXECUTE: the running command takes one step: a row of MACT or MDRN, or the whole of another (R281, R285 to R290). -/
def State.mxuStep (s : State) (cl : Nat) : State :=
  match (s.mxu cl).running with
  | none => s
  | some (k, q) =>
    let c := 8 * cl + k.val
    let m := s.mxu cl
    let t := q.t
    let b := s.cb c t.cbn
    match q.op with
    | .mwld =>
      let n := ceilDiv (weightLen t.wtype t.sparse) (max 1 b.bytes)
      match s.feed c t.cbn (decide (0 < b.bytes ∧ n ≤ b.slots)) n with
      | .fault r => s.mxuFault cl c q r
      | .wait => s.mxuWait cl q
      | .locked => s
      | .broken sub tval => s.mxuBroken cl c q sub tval
      | .slots bs =>
        let s := (s.updMxu cl fun m => { m with shadow := planeOf t bs }).updCb c t.cbn fun b => b.advC n
        s.mxuEnd cl q 0
    | .mswap => (s.updMxu cl fun m => { m with active := m.shadow, shadow := m.active }).mxuEnd cl q 0
    | .mzero =>
      let clear (m : Mxu) : Mxu :=
        { m with acc := m.acc.filter fun (a, _) => !(decide (accKey k t.row0 0 ≤ a ∧ a < accKey k (t.row0 + t.rows) 0)) }
      ((s.updMxu cl clear).accFresh cl k t.row0 t.rows 256).mxuEnd cl q t.rows
    | .mact =>
      if t.rows ≤ q.done then s.mxuEnd cl q t.rows
      else if m.active.tag ≠ t.tag ∨ m.active.wtype ≠ t.wtype ∨ m.active.sparse ≠ t.sparse then s.mxuFault cl c q 0x01
      else match s.feed c t.cbn (decide (rlen t.wtype t.sparse + 2 ≤ b.bytes)) 1 with
        | .fault r => s.mxuFault cl c q r
        | .wait => s.mxuWait cl q
        | .locked => s
        | .broken sub tval => s.mxuBroken cl c q sub tval
        | .slots bs =>
          if !t.za && s.accBad cl k (t.row0 + q.done) (colsOf t.wtype) then s.mxuBroken cl c q 0x02 0
          else
            let s := (s.updMxu cl fun m => { m with acc := mactRow m q k bs (t.row0 + q.done) }).updCb c t.cbn fun b => b.advC 1
            (s.accFresh cl k (t.row0 + q.done) 1 (colsOf t.wtype).length).mxuNext cl
    | .mdrn => if t.rows ≤ q.done then s.mxuEnd cl q t.rows else s.drainStep cl k q
    | _ => s.mxuEnd cl q 0

/-- DRAIN_SLOT_ARRIVAL: the destination checks the slot; a slot too small is an engine fault, a buffer that no longer accepts the drain
refuses it, one of a reclaimed grant holds it back (R109, R277, R288). -/
def State.drainArrives (s : State) (x : ChanSlot) : State :=
  let cl := x.src / 8
  match (s.mxu cl).running with
  | none => s
  | some (k, q) =>
    let b := s.cb x.dst x.cb
    if q.op ≠ .mdrn ∨ 8 * cl + k.val ≠ x.src ∨ b.reclaimed then s
    else if !b.takesFrom x.src true then (s.mxuIdle cl).refuseCmd x.src q x.dst x.cb
    else if b.bytes < x.data.length then s.mxuFault cl x.src q 0x02
    else if s.roomAt x.dst x.cb = 0 then s
    else
      let s := (s.fillSlotAt x.dst x.cb x.data).updCb x.dst x.cb fun b => b.advP 1
      (s.updMxu cl fun m => { m with acc := clearRow m q k (q.t.row0 + q.done) }).mxuNext cl

/-! ## Copy engines (R291 to R296) -/

/-- The buffer a copy command names: core and number. -/
def QCmd.buffer (q : QCmd) (c : Nat) : Option (Nat × Fin 32) :=
  match q.op with
  | .cpyC => some (q.t.dcore, q.t.dcb)
  | _ => if q.t.dmode = 2 then some (c, Fin.ofNat 32 (q.op.dst q.t)) else none

/-- A copy command in progress changed, found by its time of issue. -/
def State.updCopy (s : State) (c key : Nat) (f : QCmd → QCmd) : State :=
  s.updCore c fun k => { k with copying := updFirst (fun q => q.at_ == key) f k.copying }

/-- A copy command that leaves the engine. -/
def State.dropCopy (s : State) (c : Nat) (q : QCmd) : State :=
  s.updCore c fun k => { k with copying := delFirst (fun x => x.at_ == q.at_) k.copying,
                                heldSlots := if q.op = .cpyC then [] else k.heldSlots }

/-- A copy command complete: its sample and its notice, with the bytes it wrote (R275, R384). -/
def State.copyDone (s : State) (c : Nat) (q : QCmd) : State :=
  ((s.dropCopy c q).sample 0x04 (dieOf c) c (if q.task.launch < 4096 then some q.task.launch else none) (s.gtime - q.at_)).cmdNotice q
    (q.op.total q.t) 0

/-- An engine fault of a copy command without a tval in the spec. -/
def State.copyFault (s : State) (c : Nat) (q : QCmd) (reason : Nat) : State := (s.dropCopy c q).engineReportFree c q reason

/-- A copy command that waits for slots of a buffer, for a restore, or behind a port that never comes up: dropped where its launch is stopped
(R100). -/
def State.copyWait (s : State) (c : Nat) (q : QCmd) : State := if s.cmdStopped q then s.dropCopy c q else s

/-- The commands in progress that keep the head of a core's copy queue from starting: all four of them, or those that name its buffer, and for a
CPY.C another CPY.C (R291, R293). -/
def Core.copyBlockers (k : Core) (c : Nat) (q : QCmd) : List QCmd :=
  if 4 ≤ k.copying.length then k.copying
  else k.copying.filter fun x => (q.op == .cpyC && x.op == .cpyC) || ((q.buffer c).isSome && x.buffer c == q.buffer c)

/-- Whether the head of a core's copy queue may start; a CPY.G reads local memory as it starts, which the lock holds up (R98). -/
def Core.copyMayStart (k : Core) (c : Nat) (q : QCmd) : Bool := (k.copyBlockers c q).isEmpty && !(q.op == .cpyG && k.lmx)

/-- What an index list in local memory fails with, for a CPY.G. -/
def State.listBad (s : State) (c : Nat) (q : QCmd) : Option (Nat × Word) :=
  if q.op = .cpyG then s.unsound c q.t.idxOff (q.t.iw * q.t.nrows) else none

/-- Commands started from the head of a core's copy queue; a CPY.G reads its index list at its start (R295). -/
def State.startCopies (s : State) (c : Nat) : Nat → State
  | 0 => s
  | n + 1 =>
    match (s.core c).copyq with
    | [] => s
    | q :: rest =>
      if !(s.core c).copyMayStart c q then s
      else match s.listBad c q with
      | some (sub, tval) => (((s.updCore c fun k => { k with copyq := rest }).queueNext c).engineCheck c q sub tval).startCopies c n
      | none =>
        let q := if q.op = .cpyG then { q with idx := s.lread c q.t.idxOff (q.t.iw * q.t.nrows) } else q
        ((s.updCore c fun k => { k with copyq := rest, copying := k.copying ++ [q] }).queueNext c).startCopies c n

/-- The bytes of the next slot that a command's stream fills: up to a slot, the rest of its row with ROWSLOT, the rest of the stream. -/
def QCmd.slotNeed (q : QCmd) (sb : Nat) : Nat :=
  let placed := q.done - q.stream.length
  if q.t.rowslot && q.op != .cpyF then min sb (q.t.rl - placed % q.t.rl) else min sb (q.op.total q.t - placed)

/-- Slots of a stream placed in the command's buffer while it has room, then the token and completion; `none` where the command has ended. -/
def State.flush (s : State) (c : Nat) (q : QCmd) : Nat → State × Option QCmd
  | 0 => (s, some q)
  | n + 1 =>
    let cb := Fin.ofNat 32 (q.op.dst q.t)
    let b := s.cb c cb
    let put (q : QCmd) (s : State) : State := s.updCopy c q.at_ fun _ => q
    if !b.en || b.pkind != 0 || b.eos then (s.copyFault c q 0x02, none)
    else
      let need := q.slotNeed b.bytes
      let due := if q.stream.isEmpty then decide (q.done = q.op.total q.t) else decide (need ≤ q.stream.length)
      if q.stream.isEmpty && due && !q.t.eos then (s.copyDone c q, none)
      else if !due then (s, some q)
      else if b.filled = b.slots then
        if s.cmdStopped q then (s.dropCopy c q, none) else (s, some q)
      else if (s.core c).lmx then (s, some q)
      else if q.stream.isEmpty then ((s.updCb c cb fun b => b.putToken).copyDone c q, none)
      else
        let s := (s.fillSlotAt c cb (q.stream.take need)).updCb c cb fun b => b.advP 1
        let q := { q with stream := q.stream.drop need }
        (put q s).flush c q n

/-- Granules written at virtual addresses, each checked as a copy destination; the first that fails ends the command (R33, R291). -/
def State.writeGranules (s : State) (c : Nat) (q : QCmd) (va : Nat) (bs : List Byte) : Nat → State × Option Stop
  | 0 => (s, none)
  | n + 1 =>
    if bs.isEmpty then (s, none)
    else
      let r : M State := do
        let va := va % 2 ^ 64
        failIf (decide (2 ^ 54 ≤ va)) 0x09 (BitVec.ofNat 64 va)
        failIf (inLocal va) 0x0B (BitVec.ofNat 64 va)
        let x ← s.translate q.asid va .cdst
        s.kindCheck q.asid q.owner false .cdst x.pte va
        if reaches x.pa then .ok (s.pwrite x.pa (bs.take 32)) else machineCheck 0x09 x.pa
      match r with
      | .ok s => s.writeGranules c q (va + 32) (bs.drop 32) n
      | .error e => (s, some e)

/-- A copy command's failed access: it ends, or waits in the engine for its port; behind a cut-off die, no longer than its launch lasts. -/
def State.copyAccess (s : State) (c : Nat) (q : QCmd) (e : Stop) : State :=
  (s.dropCopy c q).engineAccess
    (fun p =>
      let s := s.updCopy c q.at_ fun q => { q with away := some (q.away.getD (p, s.gtime)) }
      if p = 9 then s.copyWait c q else s) c q e

/-- Bytes of a command's stream put at its destination: memory, local memory, or the stream awaiting its buffer (R291). -/
def State.putStream (s : State) (c : Nat) (q : QCmd) (bs : List Byte) : State :=
  let dst := q.op.dst q.t + q.done
  let next (s : State) (stream : List Byte) : State :=
    s.updCopy c q.at_ fun q => { q with done := q.done + bs.length, stream := stream, away := none }
  match q.t.dmode with
  | 0 =>
    match s.writeGranules c q dst bs (bs.length / 32 + 1) with
    | (s, none) => next s []
    | (s, some e) => s.copyAccess c q e
  | 1 => next (s.lwrite c dst bs) []
  | _ => next s (q.stream ++ bs)

/-- The address of row `i` of a command's source (R292, R295). -/
def QCmd.rowAddr (q : QCmd) (i : Nat) : Nat :=
  match q.op with
  | .cpyG => (q.t.lo64 + natOf ((q.idx.drop (q.t.iw * i)).take q.t.iw) * q.t.rl) % 2 ^ 64
  | _ => (toWord ((q.t.lo64 : Int) + (i : Int) * q.t.spitch)).toNat

/-- STREAMER_READ: the next piece of a command's source, up to a 4 KiB boundary and the end of its row, is read at its home and pushed back
(R291, R292, R295). -/
def State.streamRead (s : State) (c key : Nat) : State :=
  match (s.core c).copying.find? fun q => q.at_ == key with
  | none => s
  | some q =>
    if q.op.total q.t ≤ q.done ∨ !(q.op == .cpyB || q.op == .cpyG) then s
    else
      let off := q.done % max 1 q.t.rl
      let va := (q.rowAddr (q.done / max 1 q.t.rl) + off) % 2 ^ 64
      let n := min (q.t.rl - off) (4096 - va % 4096)
      let r : M (List Byte) := do
        failIf (decide (2 ^ 54 ≤ va)) 0x09 (BitVec.ofNat 64 va)
        failIf (inLocal va) 0x0B (BitVec.ofNat 64 va)
        let x ← s.translate q.asid va .csrc
        s.kindCheck q.asid q.owner false .csrc x.pte va
        s.homeRead x n
      match r with
      | .ok bs => s.putStream c q bs
      | .error e => s.copyAccess c q e

/-- `n` bytes of a fill pattern from stream position `o` (R296). -/
def patternBytes (p o n : Nat) : List Byte := (List.range n).map fun j => BitVec.ofNat 8 (p / 2 ^ (8 * ((o + j) % 8)))

/-- Whether a command needs more of its source before it can place anything. -/
def QCmd.hungry (q : QCmd) (sb : Nat) : Bool :=
  decide (q.done < q.op.total q.t) && (q.t.dmode != 2 || decide (q.stream.length < q.slotNeed sb))

/-- One step of a CPY.B, CPY.G or CPY.F in progress. -/
def State.copyStep (s : State) (c : Nat) (q : QCmd) : State :=
  let r : State × Option QCmd :=
    if q.t.dmode = 2 then s.flush c q 257
    else if q.done = q.op.total q.t then (s.copyDone c q, none)
    else if q.t.dmode = 1 && (s.core c).lmx then (s, none)
    else (s, some q)
  match r with
  | (s, none) => s
  | (s, some q) =>
    if !q.hungry (s.cb c (Fin.ofNat 32 (q.op.dst q.t))).bytes then s
    else if q.op = .cpyF then
      let n := min 4096 (q.op.total q.t - q.done)
      s.putStream c q (patternBytes q.t.hi64 q.done n)
    else s.post [.streamerRead c q.at_]

/-- Whether a destination holds a channel back: a reclaim, a full ring, a landing slot in TRAP, or a die that is cut off (R61, R99, R109, R390). -/
def State.chanShut (s : State) (dst : Nat) (cb : Fin 32) : Bool :=
  let b := s.cb dst cb
  b.reclaimed || s.roomAt dst cb == 0 || (b.pkind == 2 && (s.slot dst 14).st == .trap) || s.cutDies.contains (dieOf dst)

/-- Whether a destination can take a channel slot now: it does not hold the channel back, and its memory is not locked (R98). -/
def State.chanReady (s : State) (dst : Nat) (cb : Fin 32) : Bool := !s.chanShut dst cb && !(s.core dst).lmx

/-- A channel slot on its way: a tracked transfer (R89, R293). -/
def State.sendSlot (s : State) (x : ChanSlot) : State :=
  let x := { x with colour := s.colour }
  (s.countSent x.task.launch x.colour 1).post [.copyChannelSlotArrival x]

/-- One step of a CPY.C: the next slot or the token goes to the destination core (R293). `done` counts bytes sent, and one more for the
token. The command is complete once no slot of it stands before a landing handler: every slot must be written (R275, R294). -/
def State.chanStep (s : State) (c : Nat) (q : QCmd) : State :=
  let d := q.t.dcore
  let b := s.cb d q.t.dcb
  let len := q.t.clen
  if q.done = len + (if q.t.ceos then 1 else 0) then
    (if (s.core d).landing.any fun x => x.src == c && x.cb == q.t.dcb then s else s.copyDone c q)
  else
    let accepts := b.takesFrom c false && (q.sb == 0 || q.sb == b.bytes)
    if (b.reclaimed || accepts) && s.chanShut d q.t.dcb then s.copyWait c q
    else if accepts && ((s.core d).lmx || (s.core c).lmx) then s
    else if !accepts && b.takesFrom c false then (s.dropCopy c q).refuseCmd c q d q.t.dcb
    else
      let n := min b.bytes (len - q.done)
      let s := s.updCopy c q.at_ fun q => { q with sb := b.bytes }
      match (if q.done < len then s.unsound c (q.t.coff + q.done) n else none) with
      | some (sub, tval) => (s.dropCopy c q).engineCheck c q sub tval
      | none =>
      if q.done < len then s.sendSlot ⟨false, false, d, q.t.dcb, c, q.task, s.lread c (q.t.coff + q.done) n, false⟩
      else s.sendSlot ⟨false, false, d, q.t.dcb, c, q.task, [], true⟩

/-- COPY_EXECUTE on a core: a slot kept by the channel goes on once its destination takes it; commands start; each command in progress takes
a step (R109, R291, R293). -/
def State.copyRun (s : State) (c : Nat) : State :=
  let s := s.startCopies c 4
  (s.core c).copying.foldl (fun s q =>
    match (s.core c).copying.find? fun x => x.at_ == q.at_ with
    | none => s
    | some q =>
      if q.op = .cpyC then
        match (s.core c).heldSlots with
        | x :: rest =>
          if s.cmdStopped q && s.chanShut x.dst x.cb then s.dropCopy c q
          else if s.chanReady x.dst x.cb || !(s.cb x.dst x.cb).reclaimed && !(s.cb x.dst x.cb).takesFrom c false then
            (s.updCore c fun k => { k with heldSlots := rest }).sendSlot x
          else s
        | [] => s.chanStep c q
      else s.copyStep c q) s

/-- COPY_CHANNEL_SLOT_ARRIVAL: the destination checks the buffer, the token included, and takes the slot: filled at once, or handed to the
landing slot; a slot it cannot take stays with the channel; a refused one ends the command (R62, R109, R272, R277, R293, R294). -/
def State.chanArrives (s : State) (x : ChanSlot) : State :=
  let s := s.countRecv x.task.launch x.colour 1
  match (s.core x.src).copying.find? fun q => q.op == .cpyC with
  | none => s
  | some q =>
    let b := s.cb x.dst x.cb
    let sent (s : State) : State := s.updCopy x.src q.at_ fun q => { q with done := q.done + (if x.token then 1 else x.data.length) }
    if !b.reclaimed && !b.takesFrom x.src false then (s.dropCopy x.src q).refuseCmd x.src q x.dst x.cb
    else if !s.chanReady x.dst x.cb then s.updCore x.src fun k => { k with heldSlots := k.heldSlots ++ [x] }
    else if b.pkind = 2 then sent (s.updCore x.dst fun k => { k with landing := k.landing ++ [x] })
    else if x.token then sent (s.updCb x.dst x.cb fun b => b.putToken)
    else sent ((s.fillSlotAt x.dst x.cb x.data).updCb x.dst x.cb fun b => b.advP 1)

/-! ## The landing slot (R294, R378) -/

/-- Whether the landing slot of a core can start its next handler. -/
def State.landingDue (s : State) (c : Nat) : Bool :=
  let k := s.core c
  !k.landing.isEmpty && k.slots[14].st == .empty && !k.lmx

/-- The landing slot started on the next arrived slot or token: g4 its address, g5 the bytes that arrived, g6 the buffer, g7 whether it is
the token; grbase and grlen hold the ring. What the handler does as a codelet it does for the launch whose task enabled the descriptor, under
work identifier 0 (R294, R378, log entry 74). No creator gives the handler an lvt: a free value stands there. -/
def State.landingStart (s : State) (c : Nat) : State :=
  match (s.core c).landing with
  | [] => s
  | x :: rest =>
    if !s.landingDue c then s
    else
      let b := s.cb c x.cb
      let s := s.updCore c fun k => { k with landing := rest, landingCb := some (x.cb, x.token) }
      let s := if x.token then s else s.fillSlotAt c x.cb x.data
      let len := b.bytes * b.slots
      let user : TaskId := ⟨(b.user.map TaskId.launch).getD 4096, 0⟩
      let l? := s.launch? user.launch
      let (v, s) := s.draw
      let th := match l? with
        | some l => entryThread l b.base len 0 b.haddr 0 v .fifo true
        | none => { Thread.zero with pc := b.haddr, lvt := v, codelet := true }
      let g := (((th.g.set 4 (BitVec.ofNat 64 (localVa (b.addr b.pptr)))).set 5 (BitVec.ofNat 64 x.data.length)).set 6
        (BitVec.ofNat 64 x.cb.val)).set 7 (if x.token then 1 else 0)
      let asid := (l?.map Launch.asid).getD 0
      let recs := s.records asid 0 th.fmt
      let s := s.logRecords asid 0 th.fmt
      s.upd ⟨c, 14⟩ fun y =>
        { y.emptied with st := .run, th := { th with g := g }, task := user, asid := asid, recs := recs,
                         grbase := BitVec.ofNat 64 b.base, grlen := BitVec.ofNat 64 len }

/-! ## Events -/

/-- ARBITER_SELECT (R31). -/
def execArbiterSelect (s : State) : Host.Outcome State Fault Refusal :=
  takeEvent s fun e => match e with | .arbiterSelect cl => some fun s => s.arbiter cl | _ => none

/-- MXU_COMMAND_EXECUTE (R281). -/
def execMxuCommandExecute (s : State) : Host.Outcome State Fault Refusal :=
  takeEvent s fun e => match e with | .mxuCommandExecute cl => some fun s => s.mxuStep cl | _ => none

/-- DRAIN_SLOT_ARRIVAL (R288). -/
def execDrainSlotArrival (s : State) : Host.Outcome State Fault Refusal :=
  takeEvent s fun e => match e with | .drainSlotArrival x => some fun s => s.drainArrives x | _ => none

/-- COPY_EXECUTE (R291). -/
def execCopyExecute (s : State) : Host.Outcome State Fault Refusal :=
  takeEvent s fun e => match e with | .copyExecute c => some fun s => s.copyRun c | _ => none

/-- STREAMER_READ (R292). -/
def execStreamerRead (s : State) : Host.Outcome State Fault Refusal :=
  takeEvent s fun e => match e with | .streamerRead c key => some fun s => s.streamRead c key | _ => none

/-- COPY_CHANNEL_SLOT_ARRIVAL (R293): a landing handler starts at once where the landing slot is free (R294). -/
def execCopyChannelSlotArrival (s : State) : Host.Outcome State Fault Refusal :=
  takeEvent s fun e => match e with | .copyChannelSlotArrival x => some fun s => (s.chanArrives x).landingStart x.dst | _ => none

end Sys2Proof.Machine
end

