-- ==== Sys2Proof/Machine/Collective.lean ====
section
/-! DEFINITION. The collective engines: descriptors, buckets, the phases of a collective, hops and final blocks, and the retirement of buckets
(R135 to R138, R297 to R300, R395, R397). The other members are other packages: their blocks arrive as events, and blocks for them leave through
a Welsa port. -/

namespace Sys2Proof.Machine

/-! ## Rings and descriptors (R297, R397) -/

/-- A ring's OUT port, where the ring is configured: EN set, OUT and IN on one I/O die. -/
def State.ringOut (s : State) (r : Nat) : Option Nat :=
  let v := (s.fleet.wring.toList.getD r 0).toNat
  if bitAt v 0 && bits v 3 1 / 4 == bits v 6 4 / 4 then some (bits v 3 1) else none

/-- A descriptor's fields (Table 10.9). -/
structure CollDesc where
  ring : Nat
  nmem : Nat
  rank : Nat
  root : Nat
  scale : Nat
  member : List Nat
deriving DecidableEq, Repr

def collDesc (d : Nat) : CollDesc :=
  let n := bits d 14 8
  ⟨bits d 3 0, n, bits d 21 16, bits d 29 24, bits d 43 32, (List.range n).map fun i => bits d (512 + 8 * i + 5) (512 + 8 * i)⟩

/-- Whether the engine takes a descriptor (R297). -/
def State.descOk (s : State) (d : Nat) : Bool :=
  let c := collDesc d
  bits d 7 4 == 0 && !bitAt d 15 && bits d 23 22 == 0 && bits d 31 30 == 0 && bits d 511 44 == 0
    && ((List.range 64).all fun i => if i < c.nmem then bits d (512 + 8 * i + 7) (512 + 8 * i + 6) == 0 else bits d (512 + 8 * i + 7) (512 + 8 * i) == 0)
    && decide (1 ≤ c.nmem ∧ c.nmem ≤ 64 ∧ c.rank < c.nmem ∧ c.root < c.nmem) && decide c.member.Nodup
    && c.member.getD c.rank 64 == s.regs.welsaid.toNat % 64 && (s.ringOut c.ring).isSome

/-- The descriptor's 128 bytes, read on FROZEN pages. -/
def State.readDesc (s : State) (asid va : Nat) : M Nat := do
  let a ← s.frozenRead asid va 64
  let b ← s.frozenRead asid (va + 64) 64
  .ok (natOf (a ++ b))

/-! ## The buffer (R298) -/

/-- A granule of the command's buffer: a page PRIVATE to the issuer's group. -/
def State.bufPlace (s : State) (q : QCmd) (va : Nat) (acc : Acc) : M Xlat := do
  failIf (decide (2 ^ 54 ≤ va)) 0x09 (BitVec.ofNat 64 va)
  failIf (inLocal va) 0x0B (BitVec.ofNat 64 va)
  let x ← s.translate q.asid va acc
  failIf (!(pteKind x.pte == kPrivate)) 0x0B (BitVec.ofNat 64 va)
  failIf (pteOwner x.pte != q.owner) 0x0C (BitVec.ofNat 64 va)
  if reaches x.pa then .ok x else machineCheck 0x09 x.pa

/-- `n` bytes of the buffer from a multiple of 32 on. -/
def State.readBuf (s : State) (q : QCmd) (va n : Nat) : M (List Byte) := do
  let bs ← (List.range (ceilDiv n 32)).foldlM (fun bs i => do
    let x ← s.bufPlace q (va + 32 * i) .csrc
    let _ ← s.bufPlace q (va + 32 * i) .cdst
    let b ← s.checkedRead x.pa 32
    .ok (bs ++ b)) []
  .ok (bs.take n)

/-- Bytes written into the buffer from a multiple of 32 on; bytes past them stand. The stop of a granule that cannot be written. -/
def State.writeBuf (s : State) (q : QCmd) (va : Nat) (bs : List Byte) : Nat → State × Option Stop
  | 0 => (s, none)
  | n + 1 =>
    if bs.isEmpty then (s, none)
    else match s.bufPlace q va .cdst with
      | .ok x => (s.pwrite x.pa (bs.take 32)).writeBuf q (va + 32) (bs.drop 32) n
      | .error e => (s, some e)

/-- COUNT of a command, and the bytes of its buffer. -/
def QCmd.count (q : QCmd) : Nat := q.t.w5.toNat

/-- The FP32 encodings of little-endian bytes; `n` values. -/
def fp32s (bs : List Byte) : Nat → List Nat
  | 0 => []
  | n + 1 => natOf (bs.take 4) :: fp32s (bs.drop 4) n

/-! ## Faults (R138, R276) -/

/-- The scale that the blocks carry: a NaN scale travels as 0xFF0 (R136). -/
def wireScale (x : Nat) : Nat := if bits x 11 4 = 255 then 0xFF0 else x

/-- A bucket gone from those in progress. -/
def State.dropBucket (s : State) (b : Bucket) : State :=
  { s with buckets := s.buckets.filter fun x => !(x.ring == b.ring && x.bucket == b.bucket) }

/-- A collective's engine fault: the bucket is gone and the launch is stopped. tval holds the bucket, SEQ and element (R138). -/
def State.collFault (s : State) (b : Bucket) (reason seq elem : Nat) : State :=
  (s.dropBucket b).engineReport b.core b.cmd reason 0
    (BitVec.ofNat 64 (b.bucket % 2 ^ 32 + seq % 256 * 2 ^ 32 + elem % 32 * 2 ^ 40))

/-- A bucket in progress changed. -/
def State.updBucket (s : State) (b : Bucket) (f : Bucket → Bucket) : State :=
  { s with buckets := updFirst (fun x => x.ring == b.ring && x.bucket == b.bucket) f s.buckets }

/-- A bucket in progress on a ring. -/
def State.bucket? (s : State) (ring bucket : Nat) : Option Bucket := s.buckets.find? fun b => b.ring == ring && b.bucket == bucket

/-! ## Sending and writing (R89, R299, R395) -/

/-- A block sent to the next rank by the port that its device is routed to: a tracked transfer of the launch. Without a VALID route the launch is
stopped; with the port down the block waits (R92, R395, R396). -/
def State.sendBlock (s : State) (b : Bucket) (spread : Bool) (i hops : Nat) (x : Nat × List Byte) : State :=
  let next := b.member.getD ((b.rank + 1) % max 1 b.nmem) 0
  let es : Vector Byte 32 := Vector.ofFn fun k => x.2.getD k.val 0
  let w : WireBlock := { ring := b.ring, bucket := b.bucket, block := i, spread := spread, hops := hops,
                         hdr := wireHeader b.scale x.1 (residue (es.toList.map BitVec.toNat)) i, body := es,
                         fromDev := s.regs.welsaid.toNat % 64, colour := s.colour, check := checkCode es.toList 0 }
  match s.portTo next with
  | none => (s.dropBucket b).cpStop b.cmd.task.launch
  | some (p, up) =>
    let s := (s.countSent b.cmd.task.launch s.colour 1).meetPeer b.cmd.task.launch next
    if up then { s with sentBlocks := s.sentBlocks ++ [w] } else { s with portWait := s.portWait ++ [(p, b.cmd.task.launch, s.gtime, w)] }

/-- A final block written into the buffer: values past COUNT are not written (R299). A write to another package whose port is down waits (R396). -/
def State.writeBlock (s : State) (b : Bucket) (i : Nat) (x : Nat × List Byte) : State :=
  let n := min 32 (b.count - 32 * i)
  let bs := (x.2.take n).flatMap fun e => bytesOf 4 (finalValue b.scale x.1 e.toNat)
  match s.writeBuf b.cmd (b.cmd.t.hi64 + 128 * i) bs 5 with
  | (s, none) => s.updBucket b fun y => { y with wrote := y.wrote + 1 }
  | (s, some e) => (s.dropBucket b).engineAccess
      (fun p => s.updBucket b fun y => { y with late := y.late ++ [(i, x)], away := some (y.away.getD (p, s.gtime)) }) b.core b.cmd e

/-- A final block at the rank that holds it first: written where this rank writes it, and spread (R299). -/
def State.finalBlock (s : State) (b : Bucket) (i : Nat) (x : Nat × List Byte) : State :=
  let s := if b.writes i then s.writeBlock b i x else s
  if b.spreads && decide (1 < b.nmem) && (s.bucket? b.ring b.bucket).isSome then s.sendBlock b true i 1 x else s

/-! ## Retirement (R298, R300) -/

/-- Whether a rank has received and written every block that its command has for it, and its own blocks have left. -/
def State.bucketDone (s : State) (b : Bucket) : Bool :=
  b.gotReduce == b.countOf (b.expects false) && b.gotSpread == b.countOf (b.expects true) && b.wrote == b.countOf b.writes
    && !(s.portWait.any fun x => x.2.2.2.ring == b.ring && x.2.2.2.bucket == b.bucket)

/-- Finished buckets of a ring retired in ascending order, each with its notice. -/
def State.retireBuckets (s : State) (ring : Nat) : Nat → State
  | 0 => s
  | n + 1 =>
    match argMin Bucket.bucket (s.buckets.filter fun b => b.ring == ring) with
    | none => s
    | some b =>
      if s.bucketDone b then
        ({ s with buckets := s.buckets.filter fun x => !(x.ring == ring && x.bucket == b.bucket) }.cmdNotice b.cmd b.count b.bucket).retireBuckets ring n
      else s

/-! ## Arrival of a block (R137, R299) -/

/-- A block that meets its bucket: the checks, the hop, and what this rank does with the result. A block beyond those that this rank has to receive is
an engine fault; one that it does not expect, or has met before, is a collective-integrity report (R137, R300). -/
def State.meetBlock (s : State) (b : Bucket) (x : WireBlock) : State :=
  let s := (s.countRecv b.cmd.task.launch x.colour 1).meetPeer b.cmd.task.launch x.fromDev
  let es := x.elems.map BitVec.toNat
  let bad : Bool := x.fromDev != b.member.getD ((b.rank + b.nmem - 1) % max 1 b.nmem) 64 || x.scale != b.scale || x.seq != x.block % 256
    || residue es != x.res
  let full : Bool := if x.spread then b.gotSpread == b.countOf (b.expects true) else b.gotReduce == b.countOf (b.expects false)
  if !x.whole then (s.dropBucket b).engineCheck b.core b.cmd 0x01 0
  else if bad then s.collFault b 0x07 x.seq 0
  else if full || decide (b.nb ≤ x.block) then s.collFault b 0x09 x.seq 0
  else if !b.expects x.spread x.block || b.met.contains (x.block, x.spread) then s.collFault b 0x07 x.seq 0
  else
  let s := s.updBucket b fun y => { y with met := y.met ++ [(x.block, x.spread)] }
  if x.spread then
    let s := s.updBucket b fun y => { y with gotSpread := y.gotSpread + 1 }
    let s := s.writeBlock b x.block (x.grow, x.elems)
    let far := (b.rank + b.nmem - b.holder x.block) % max 1 b.nmem
    if far + 1 < b.nmem && (s.bucket? b.ring b.bucket).isSome then s.sendBlock b true x.block (far + 1) (x.grow, x.elems) else s
  else
    let s := s.updBucket b fun y => { y with gotReduce := y.gotReduce + 1 }
    let own := b.blocks.getD x.block (0, [])
    match hop x.grow es own.1 (own.2.map BitVec.toNat) with
    | .error (.overflow k) => s.collFault b 0x06 x.seq k
    | .error .integrity => s.collFault b 0x07 x.seq 0
    | .ok (g, e) =>
      let y := (g, e.map (BitVec.ofNat 8))
      if b.chunk x.block = b.rank then s.finalBlock b x.block y
      else s.sendBlock b false x.block ((b.rank + b.nmem - b.starter x.block) % max 1 b.nmem + 1) y

/-- WIRE_BLOCK_ARRIVAL: the block meets its bucket, or is buffered until its command starts (R298). Its check code is formed as it comes in (R386). -/
def State.blockArrives (s : State) (x : WireBlock) : State :=
  let x := { x with check := checkCode x.elems 0 }
  match s.bucket? x.ring x.bucket with
  | none => { s with early := s.early ++ [x] }
  | some b => (s.meetBlock b x).retireBuckets x.ring 64

/-- Writes of final blocks that waited for a Welsa port made again (R396). -/
def State.lateBlocks (s : State) : State :=
  (s.buckets.filter fun b => !b.late.isEmpty).foldl (fun (s : State) b =>
    let s := s.updBucket b fun y => { y with late := [], away := none }
    (b.late.foldl (fun (s : State) x => if (s.bucket? b.ring b.bucket).isSome then s.writeBlock b x.1 x.2 else s) s).retireBuckets b.ring 64) s

/-! ## Start of a command (R297 to R299) -/

/-- The local blocks of a bucket; the failing block and element where one overflows (R136). -/
def Bucket.formAll (b : Bucket) (vals : List Nat) : Except (Nat × Nat) (List (Nat × List Byte)) :=
  (List.range b.nb).foldlM (fun (bs : List (Nat × List Byte)) i =>
    if b.forms i then
      let xs := (List.range 32).map fun k => vals.getD (32 * i + k) 0
      match formBlock b.scale xs with
      | some (g, es) => .ok (bs ++ [(g, es.map (BitVec.ofNat 8))])
      | none => .error (i, overflowAt b.scale xs)
    else .ok (bs ++ [(0, [])])) []

/-- What a rank does of itself once its command has started: reductions it starts, blocks it spreads, its own results in a ring of one. -/
def State.openBucket (s : State) (b : Bucket) : State :=
  (List.range b.nb).foldl (fun (s : State) i =>
    if (s.bucket? b.ring b.bucket).isNone then s
    else
      let x := b.blocks.getD i (0, [])
      if b.nmem = 1 then s.finalBlock b i x
      else if b.reduces then (if b.starter i = b.rank then s.sendBlock b false i 1 x else s)
      else if b.holder i = b.rank then s.finalBlock b i x
      else s) s

/-- Blocks that came before their command. -/
def State.meetEarly (s : State) (b : Bucket) : State :=
  let mine (x : WireBlock) : Bool := x.ring == b.ring && x.bucket == b.bucket
  let xs := s.early.filter mine
  xs.foldl (fun (s : State) x =>
    match s.bucket? b.ring b.bucket with
    | none => s
    | some b => s.meetBlock b x) { s with early := s.early.filter fun x => !mine x }

/-- COLLECTIVE_START: the head of a core's collective queue starts; with 64 buckets of its ring in progress it stays, and so it does while its
descriptor or its buffer cannot be reached (R297, R298, R396). -/
def State.collStart (s : State) (c : Nat) : State :=
  match (s.core c).collq with
  | [] => s
  | q :: rest =>
    let s' := (s.updCore c fun k => { k with collq := rest }).queueNext c
    let waits (p : Nat) : State := s.updCore c fun k => { k with collq := { q with away := some (q.away.getD (p, s.gtime)) } :: rest }
    match s.readDesc q.asid q.t.lo64 with
    | .error e => s'.engineAccess waits c q e
    | .ok d =>
      if !s.descOk d then s'.engineReportFree c q 0x05
      else
        let x := collDesc d
        let n := q.t.w6.toNat
        if (s.bucket? x.ring n).isSome then s'.engineReportFree c q 0x08
        else if 64 ≤ (s.buckets.filter fun b => b.ring == x.ring).length then s
        else match s.readBuf q q.t.hi64 (4 * q.count) with
          | .error e => s'.engineAccess waits c q e
          | .ok bs =>
            let b : Bucket := { core := c, cmd := { q with away := none }, ring := x.ring, bucket := n, nmem := x.nmem, rank := x.rank, root := x.root,
                                scale := wireScale x.scale, member := x.member, count := q.count, blocks := [], met := [], gotReduce := 0, gotSpread := 0,
                                wrote := 0, late := [], away := none }
            match b.formAll (fp32s bs q.count) with
            | .error (i, k) => s'.collFault b 0x06 (i % 256) k
            | .ok blocks =>
              let b := { b with blocks := blocks }
              ((State.openBucket { s' with buckets := s'.buckets ++ [b] } b).meetEarly b).retireBuckets b.ring 64

/-- COLLECTIVE_START (R297). -/
def execCollectiveStart (s : State) : Host.Outcome State Fault Refusal :=
  takeEvent s fun e => match e with | .collectiveStart c => some fun s => s.collStart c | _ => none

/-- WIRE_BLOCK_ARRIVAL (R137, R298). -/
def execWireBlockArrival (s : State) : Host.Outcome State Fault Refusal :=
  takeEvent s fun e => match e with | .wireBlockArrival x => some fun s => s.blockArrives x | _ => none

end Sys2Proof.Machine
end

