-- ==== Sys2Proof/Machine/Control.lean ====
section
/-! DEFINITION. Branches, jumps, and the traps and returns a program asks for itself: TRAP, BRK, ERET and WFI
(R178 to R180, R229, R230). -/

namespace Sys2Proof.Machine

/-- The target of a branch: PC + 4 × SignExt(off) (R178). -/
def branchTarget (pc : Word) (o : BitVec n) : Word := pc + (o.signExtend 64 <<< 2)

/-- A conditional branch (R178). -/
def branch (i : Instr) (c : Cond) (a b : Fin 32) (o : BitVec 15) (s : State) : Host.Outcome State Fault Refusal :=
  issue i false 0 s fun w => do
    s.chkOps w i
    let pc := (s.th w).pc
    let (x, y, s) ← s.read2 w a b
    .ok (s.retireTo w i (if c.holds x y then branchTarget pc o else pc + 4))

/-- BEQ (R178). -/
def execBeq (a b : Fin 32) (o : BitVec 15) (s : State) : Host.Outcome State Fault Refusal := branch (.beq a b o) .eq a b o s

/-- BNE (R178). -/
def execBne (a b : Fin 32) (o : BitVec 15) (s : State) : Host.Outcome State Fault Refusal := branch (.bne a b o) .ne a b o s

/-- BLT (R178). -/
def execBlt (a b : Fin 32) (o : BitVec 15) (s : State) : Host.Outcome State Fault Refusal := branch (.blt a b o) .lt a b o s

/-- BGE (R178). -/
def execBge (a b : Fin 32) (o : BitVec 15) (s : State) : Host.Outcome State Fault Refusal := branch (.bge a b o) .ge a b o s

/-- BLTN (R178). -/
def execBltn (a b : Fin 32) (o : BitVec 15) (s : State) : Host.Outcome State Fault Refusal := branch (.bltn a b o) .ltn a b o s

/-- BGEN (R178). -/
def execBgen (a b : Fin 32) (o : BitVec 15) (s : State) : Host.Outcome State Fault Refusal := branch (.bgen a b o) .gen a b o s

/-- A branch on a predicate (R179). -/
def branchP (i : Instr) (p : Fin 16) (sense : Bool) (o : BitVec 15) (s : State) : Host.Outcome State Fault Refusal :=
  issue i false 0 s fun w =>
    let pc := (s.th w).pc
    .ok (s.retireTo w i (if s.readP w p == sense then branchTarget pc o else pc + 4))

/-- BP (R179). -/
def execBp (p : Fin 16) (o : BitVec 15) (s : State) : Host.Outcome State Fault Refusal := branchP (.bp p o) p true o s

/-- BNP (R179). -/
def execBnp (p : Fin 16) (o : BitVec 15) (s : State) : Host.Outcome State Fault Refusal := branchP (.bnp p o) p false o s

/-- JAL (R180). -/
def execJal (d : Fin 32) (o : BitVec 20) (s : State) : Host.Outcome State Fault Refusal :=
  let i := Instr.jal d o
  issue i false 0 s fun w => do
    s.chkOps w i
    let pc := (s.th w).pc
    let s ← s.putG w d (pc + 4)
    .ok (s.retireTo w i (branchTarget pc o))

/-- JALR: a target that is not a multiple of 4 is a misalignment fault (R180). -/
def execJalr (d a : Fin 32) (s : State) : Host.Outcome State Fault Refusal :=
  let i := Instr.jalr d a
  issue i false 0 s fun w => do
    s.chkBound w i
    let pc := (s.th w).pc
    let (t, s1) ← (s.readG w a).waitsAfter (s.chkCb w i)
    failIf (t.toNat % 4 != 0) 0x05 t
    s.chkCb w i
    let s ← s1.putG w d (pc + 4)
    .ok (s.retireTo w i t)

/-- TRAP: cause 0x12 with SUB n, on itself (R229). -/
def execTrap (n : Fin 256) (s : State) : Host.Outcome State Fault Refusal :=
  let i := Instr.trap n
  issue i false 0 s fun _ => .error (.trap 0x12 (encodeWord i) n.val none)

/-- BRK: cause 0x13, on itself (R229). -/
def execBrk (s : State) : Host.Outcome State Fault Refusal := issue .brk false 0 s fun _ => fail 0x13 (encodeWord .brk)

/-- WFI: completes at once when the system event queue holds an event; otherwise the system slot is not ready until one is posted
(R97, R230). -/
def execWfi (s : State) : Host.Outcome State Fault Refusal :=
  issue .wfi true 0 s fun w =>
    if (s.core w.core).events.isEmpty then .error (.busy .event) else .ok (s.retireVar w .wfi)

end Sys2Proof.Machine
end

