-- ==== Sys2Proof/Machine/Events.lean ====
section
/-! DEFINITION. The events of a core: completion, instruction fetch, asynchronous traps, system events, replies, remote accesses, page changes,
the arrivals of messages and wakes, timeouts and driver stops (R17 to R23, R52 to R54, R81 to R101, R181, R187, R195, R359, R360). -/

namespace Sys2Proof.Machine

/-- An event whose step can end in any of the three outcomes. -/
def takeEventO (s : State) (f : Event → Option (State → Host.Outcome State Fault Refusal)) : Host.Outcome State Fault Refusal :=
  match s.agenda with
  | [] => .next s
  | e :: rest =>
    match f e with
    | some g => g { s with agenda := rest }
    | none => .next s

/-! ## Completion (R17) -/

/-- A variable-latency instruction whose effects stand completes: the thread is ready again. -/
def State.completes (s : State) (w : Who) : State :=
  let x := s.at w
  if x.st = .busy ∧ x.busy = .completing then s.upd w fun x => { x with st := .run, out := none } else s

/-- INSTRUCTION_COMPLETION (R17). -/
def execInstructionCompletion (s : State) : Host.Outcome State Fault Refusal :=
  takeEvent s fun e => match e with | .instructionCompletion c sl => some fun s => s.completes ⟨c, sl⟩ | _ => none

/-! ## Fetch (R181) -/

/-- The address a thread fetches from: PC holds a multiple of 4 (R24), so bits [1:0] take no part. -/
def Thread.fetchVa (t : Thread) : Nat := t.pc.toNat / 4 * 4

/-- The core's copy of the 32 bytes of frozen code around an address. -/
def Core.line? (k : Core) (asid va : Nat) : Option ILine := k.icache.find? fun l => l.asid == asid && l.va == va / 32 * 32

/-- A translation kept in the translation cache of its home die; the oldest of a full one goes (R2, R234). -/
def State.keepXlat (s : State) (asid va : Nat) (t : Xlat) : State :=
  let die := dieOf t.home
  if farAway t.pa || s.tcache.any fun y => y.asid == asid && y.page == va / 2 ^ 12 then s
  else
    let mine := (s.tcache.filter fun y => y.die == die).take (tcacheEntries - 1)
    { s with tcache := ⟨asid, va / 2 ^ 12, t.pte, t.at_, die⟩ :: mine ++ s.tcache.filter fun y => y.die != die }

/-- The line of a thread's next instruction read at its home, checked at that instruction; the home keeps the translation (R181, R234). -/
def State.fetchLine (s : State) (w : Who) : M State := do
  let x := s.at w
  let va := x.th.fetchVa
  failIf (decide (2 ^ 54 ≤ va)) 0x09 x.th.pc
  failIf (inLocal va) 0x0B x.th.pc
  let t ← s.translate x.asid va .fetch
  s.kindCheck x.asid x.owner true .fetch t.pte va
  let _ ← s.checkedRead (t.pa / 32 * 32) 32
  if s.sramBad (.l2 t.home) (t.pa / 32 * 4) 4 then machineCheck 0x02 0
  else
    let line := s.lineOf x.asid (va / 32 * 32) (t.pa / 32 * 32)
    let s := s.refresh (.l1i w.core) (lineKey x.asid (va / 32 * 32)) 4
    .ok ((s.updCore w.core fun k => { k with icache := (line :: k.icache).take icacheLines }).keepXlat x.asid va t)

/-- What a thread finds wrong with the code bytes that its core holds for it, `n` from its PC on: a double-bit error of the array, or a line whose
check code does not match, with SUB and tval of its machine check (R387, R388). -/
def State.codeBad (s : State) (w : Who) (n : Nat) : Option (Nat × Word) :=
  let asid := (s.at w).asid
  let va := (s.th w).fetchVa
  if s.sramBad (.l1i w.core) (lineKey asid va) (wordsOf va n) then some (0x02, 0)
  else match (s.core w.core).line? asid va with
    | some l =>
      if checkCode l.bytes l.codes = l.check then none
      else some (0x01, BitVec.ofNat 64 (match s.translate asid va .fetch with | .ok t => t.pa / 32 * 32 | .error _ => va / 32 * 32))
    | none => none

/-- The trap of a failed fetch, with epc and tval the PC that failed (R181); a machine check keeps its granule address (Table 4.1). -/
def State.fetchFault (s : State) (w : Who) (code sub : Nat) (tval : Word) (log : Option (Nat × Word)) : State :=
  let s := match log with
    | some (ty, a) => s.logError ty 0 w.core w.slot.val 0 0 (s.at w).launchNo a
    | none => s
  s.takeTrap w code false sub (if code = 0x20 then tval else (s.th w).pc) (s.th w).pc false

/-- A wait for a Welsa port. -/
def BusyWhy.isPort : BusyWhy → Bool
  | .port _ => true
  | _ => false

/-- INSTRUCTION_FETCH_FILL: the line arrives and the thread is ready, or the fetch faults. A fetch from another package waits for its port, and
without a VALID route stops the launch (R395, R396). -/
def State.fetchFill (s : State) (w : Who) : State :=
  let x := s.at w
  if x.st = .busy ∧ (x.busy = .fetch ∨ (x.out.isNone ∧ x.busy.isPort)) then
    match s.fetchLine w with
    | .ok s => s.upd w fun x => { x with st := .run }
    | .error (.trap code tval sub log) => s.fetchFault w code sub tval log
    | .error (.away dev) => (s.awaitPort w .exit dev).upd w fun x => { x with out := none }
    | .error _ => s
  else s

/-- INSTRUCTION_FETCH_FILL (R181). -/
def execInstructionFetchFill (s : State) : Host.Outcome State Fault Refusal :=
  takeEvent s fun e => match e with | .instructionFetchFill c sl => some fun s => s.fetchFill ⟨c, sl⟩ | _ => none

/-! ## Asynchronous traps (R22, R23, R94, R100) -/

/-- A slot that can take an asynchronous trap: at an instruction boundary, parked (R21), or between two elements of a VREDQ (R107). -/
def Slot.atBoundary (x : Slot) : Bool := x.st == .run || x.st == .park || (x.st == .busy && x.busy == .elements)

/-- TIMER_PREEMPTION: the quantum has run out (R23). -/
def State.timerTrap (s : State) (w : Who) : State :=
  let x := s.at w
  if x.atBoundary && x.timer then (s.upd w fun x => { x with timer := false }).takeTrap w 0x22 true 0 0 x.th.pc (x.st == .busy) else s

/-- TIMER_PREEMPTION (R23). -/
def execTimerPreemption (s : State) : Host.Outcome State Fault Refusal :=
  takeEvent s fun e => match e with | .timerPreemption c sl => some fun s => s.timerTrap ⟨c, sl⟩ | _ => none

/-- A driver stop reaching a thread (R100 step 2): at its boundary, after a BUSY instruction or a TRAP, or with the save that is under way.
On a core whose system slot is lost the core ends the thread itself, as END would. -/
def State.stopThread (s : State) (w : Who) : State :=
  let x := s.at w
  if x.st = .empty ∨ x.st = .reserved ∨ !x.launched ∨ !s.stopped x.task.launch then s
  else if x.st = .busy ∧ x.busy ≠ .elements then s.upd w fun x => { x with dstop := true }
  else if x.st = .save then s.upd w fun x => { x with dstop := true }
  else if (s.core w.core).dead then s.endTrapped w
  else if x.st = .trap then
    if x.derails || x.cause.toNat % 64 == 0x21 then s.upd w fun x => { x with dstop := true }
    else s.upd w fun x => { x with deferred := x.deferred ++ [.stop] }
  else (s.upd w fun x => { x with dstop := false }).takeTrap w 0x21 true 0 0 x.th.pc (x.st == .busy)

/-- DRIVER_STOP (R100). -/
def execDriverStop (s : State) : Host.Outcome State Fault Refusal :=
  takeEvent s fun e => match e with | .driverStop c sl => some fun s => s.stopThread ⟨c, sl⟩ | _ => none

/-- LMX_OVERRUN: the lock is cleared before the 257th instruction issues, and an error record is written (R98). -/
def State.lmxOver (s : State) (c : Nat) : State :=
  let k := s.core c
  if k.lmx && decide (256 ≤ k.lmxCount) then
    (s.updCore c fun k => { k with lmx := false, lmxCount := 0 }).logError 0x01 0x06 c 15 0 0 0xFFF 0
  else s

/-- LMX_OVERRUN (R98). -/
def execLmxOverrun (s : State) : Host.Outcome State Fault Refusal :=
  takeEvent s fun e => match e with | .lmxOverrun c => some fun s => s.lmxOver c | _ => none

/-! ## System events (R97, R370) -/

/-- The slot whose grant the ERET of an event settles: the one that a GRANT event names, but for an event that an earlier reservation of it left in
the queue (R372). -/
def Core.grantSlot (k : Core) : SysEvent → Option (Fin 16)
  | .wake 0x05 v => if (k.slots[Fin.ofNat 16 v.toNat]).oldGrants = 0 then some (Fin.ofNat 16 v.toNat) else none
  | _ => k.granting

/-- One GRANT event of an earlier reservation less in the queue. -/
def State.oldGrant (s : State) (c : Nat) : SysEvent → State
  | .wake 0x05 v => s.updSlot c (Fin.ofNat 16 v.toNat) fun x => { x with oldGrants := x.oldGrants - 1 }
  | _ => s

/-- SYSTEM_EVENT_ENTRY: the system slot takes the head event of its core's queue. A GRANT event names the slot whose grant is settled at its
ERET (R372); a scan request, the address space LSTAT then reads (R377). -/
def State.eventEntry (s : State) (c : Nat) : State :=
  let k := s.core c
  match k.events with
  | [] => s
  | e :: rest =>
    if !(k.eie && !k.dead && k.slots[15].st == .run) then s
    else
      let slot : Fin 16 := match e with | .trap sl => sl | _ => 15
      let s := s.updCore c fun k =>
        { k with events := rest, srpc := k.slots[15].th.pc, hslot := slot, eie := false,
                 scanAsid := (match e with | .scan a _ => some a | _ => none),
                 granting := k.grantSlot e }
      let s := s.oldGrant c e
      let bank (s : State) (sub : Nat) (v : Word) : State := s.upd ⟨c, 15⟩ fun x => { x with cause := causeWord 0x23 true sub, tval := v }
      let s := match e with
        | .trap _ => s
        | .wake sub v => bank s sub v
        | .scan _ v => bank s 0x02 v
      s.updTh ⟨c, 15⟩ fun t => { t with pc := k.evbase }

/-- SYSTEM_EVENT_ENTRY (R97). -/
def execSystemEventEntry (s : State) : Host.Outcome State Fault Refusal :=
  takeEvent s fun e => match e with | .systemEventEntry c => some fun s => s.eventEntry c | _ => none

/-! ## Replies (R195) -/

/-- A thread's posted operation has been answered by its home: in its slot, or in its directory entry. -/
def State.replied (s : State) (r : Reply) : State :=
  let pop (w : Who) : State := s.upd w fun x => { x with posted := x.posted.erase r.home }
  if r.codelet || decide (4096 ≤ r.task.launch) then
    let x := s.at ⟨r.core, r.slot⟩
    if x.st != .empty && x.st != .reserved && x.task == r.task && x.th.codelet == r.codelet then pop ⟨r.core, r.slot⟩ else s
  else match s.task? r.task with
    | none => s
    | some t => match t.place with
      | .on c sl => pop ⟨c, sl⟩
      | .exited | .queued => s
      | _ => s.updTask r.task fun t => { t with posted := t.posted.erase r.home }

/-- POSTED_REPLY: a refusal waits for its thread's next boundary; that of a thread that has ended is reported to its launch. -/
def State.replyArrives (s : State) (r : Reply) : State :=
  let s := s.replied r
  match r.refusal with
  | none => s
  | some (code, va) => s.pendRefusal r.core r.slot r.task r.codelet (0, 0) ⟨code, va, r.pc⟩

/-- POSTED_REPLY (R195). -/
def execPostedReply (s : State) : Host.Outcome State Fault Refusal :=
  takeEvent s fun e => match e with | .postedReply r => some fun s => s.replyArrives r | _ => none

/-- LATTICE_REFUSAL_TRAP: the first pending refusal is taken at a boundary (R195); a VREDQ completes first (R107). -/
def State.refusalTrap (s : State) (w : Who) : State := if (s.at w).atBoundary && (s.at w).st != .busy then s.takeRefusal w false else s

/-- LATTICE_REFUSAL_TRAP (R195). -/
def execLatticeRefusalTrap (s : State) : Host.Outcome State Fault Refusal :=
  takeEvent s fun e => match e with | .latticeRefusalTrap c sl => some fun s => s.refusalTrap ⟨c, sl⟩ | _ => none

/-! ## The lattice at its homes -/

/-- LATTICE_REQUEST_APPLY (R54). -/
def execLatticeRequestApply (s : State) : Host.Outcome State Fault Refusal :=
  takeEvent s fun e => match e with | .latticeRequestApply r => some fun s => s.latticeRequest r | _ => none

/-- THRESHOLD_READ_AT_HOME (R206, R207). -/
def execThresholdReadAtHome (s : State) : Host.Outcome State Fault Refusal :=
  takeEventO s fun e => match e with | .thresholdReadAtHome c sl => some fun s => s.thresholdRead ⟨c, sl⟩ | _ => none

/-- WAIT_WITHDRAWAL (R83). -/
def execWaitWithdrawal (s : State) : Host.Outcome State Fault Refusal :=
  takeEvent s fun e => match e with | .waitWithdrawal x => some fun s => s.withdraw x | _ => none

/-- ARENA_FREEZE (R45, R204). -/
def execArenaFreeze (s : State) : Host.Outcome State Fault Refusal :=
  takeEvent s fun e => match e with | .arenaFreeze asid num => some fun s => s.freezeArena asid num | _ => none

/-! ## Remote accesses and page changes (R40, R187) -/

/-- The access of an instruction as it runs at the home of its line. -/
def homeBody : Instr → Option (Who → State → M State)
  | .ld d a z o => some (ldBody true d a z o)
  | .ldn d a z o => some (ldnBody true d a z o)
  | .st d a z o => some (stBody true d a z o)
  | .ldx d a b z => some (ldxBody true d a b z)
  | .stx d a b z => some (stxBody true d a b z)
  | .amoadd d a b z => some (amoBody true (.amoadd d a b z) .add d a b z)
  | .amoand d a b z => some (amoBody true (.amoand d a b z) .and d a b z)
  | .amoor d a b z => some (amoBody true (.amoor d a b z) .or d a b z)
  | .amoxor d a b z => some (amoBody true (.amoxor d a b z) .xor d a b z)
  | .amomin d a b z => some (amoBody true (.amomin d a b z) .min d a b z)
  | .amomax d a b z => some (amoBody true (.amomax d a b z) .max d a b z)
  | .amoswp d a b z => some (amoBody true (.amoswp d a b z) .swp d a b z)
  | .amocas d a b z => some (amoBody true (.amocas d a b z) .cas d a b z)
  | .vld d g m e => some (vldBody true d g m e)
  | .vst d g m e => some (vstBody true d g m e)
  | .vldx d g b m e => some (vldxBody true d g b m e)
  | .vstx d g b m e => some (vstxBody true d g b m e)
  | .vlds d n m e => some (vldsBody true d n m e)
  | .vsts d n m e => some (vstsBody true d n m e)
  | _ => none

/-- REMOTE_WORD_ACCESS: the outstanding access of a slot is performed at its home and answered. -/
def State.remoteAccess (s : State) (w : Who) : Host.Outcome State Fault Refusal :=
  let x := s.at w
  if x.st = .busy ∧ x.busy = .remote then
    match x.out with
    | some i => match homeBody i with
      | some f => finish w i s (f w s)
      | none => .next s
    | none => .next s
  else .next s

/-- REMOTE_WORD_ACCESS (R40). -/
def execRemoteWordAccess (s : State) : Host.Outcome State Fault Refusal :=
  takeEventO s fun e => match e with | .remoteWordAccess c sl => some fun s => s.remoteAccess ⟨c, sl⟩ | _ => none

/-- PUBLISH_PAGE_CHANGE: a page that is still PRIVATE becomes FROZEN at its home; with the last page the PUBLISH completes (R186, R187). A page
that translates no more, after it passed the check, is left as it is and counts as changed (log entry 75). -/
def State.pageChange (s : State) (w : Who) (asid : Nat) (va : Word) : State :=
  let s := match s.translate asid va.toNat .publish with
    | .ok t => if pteKind t.pte = kPrivate then s.freezePage asid va.toNat t.pte t.at_ else s
    | .error e => s.logWalk e
  let x := s.at w
  match x.st, x.busy, x.out with
  | .busy, .publish n, some i => if n ≤ 1 then s.retireVar w i else s.upd w fun x => { x with busy := .publish (n - 1) }
  | _, _, _ => s

/-- PUBLISH_PAGE_CHANGE (R187). -/
def execPublishPageChange (s : State) : Host.Outcome State Fault Refusal :=
  takeEvent s fun e => match e with | .publishPageChange c sl a va => some fun s => s.pageChange ⟨c, sl⟩ a va | _ => none

/-! ## Messages, anti-messages, rollbacks, wakes (R82, R84, R101) -/

/-- MESSAGE_ARRIVAL (R101). -/
def execMessageArrival (s : State) : Host.Outcome State Fault Refusal :=
  takeEvent s fun e => match e with | .messageArrival m => some fun s => s.messageArrives m | _ => none

/-- ANTI_MESSAGE_ARRIVAL (R84). -/
def execAntiMessageArrival (s : State) : Host.Outcome State Fault Refusal :=
  takeEvent s fun e => match e with | .antiMessageArrival m => some fun s => s.antiArrives false m | _ => none

/-- ROLLBACK (R82). -/
def execRollback (s : State) : Host.Outcome State Fault Refusal :=
  takeEvent s fun e => match e with | .rollback t k anti => some fun s => s.rollback t k anti | _ => none

/-- WAKE_DELIVERY (R101). -/
def execWakeDelivery (s : State) : Host.Outcome State Fault Refusal :=
  takeEvent s fun e => match e with | .wakeDelivery k => some fun s => s.wake k | _ => none

/-! ## Timeouts (R359, R360) -/

/-- The wait that stops a launch, in cycles. -/
def longWait : Nat := 2 ^ 24

/-- INBOX_OVERFLOW_TIMEOUT: a message or notice has waited at a core's ingress for 2^24 cycles (R359). -/
def State.inboxTimeout (s : State) (c : Nat) : State :=
  match (s.core c).ingress.find? fun x => decide (x.2 + longWait ≤ s.gtime) && !s.stopped x.1.launch with
  | some (m, _) => s.report m.launch (cpReport 0x03)
  | none => s

/-- INBOX_OVERFLOW_TIMEOUT (R359). -/
def execInboxOverflowTimeout (s : State) : Host.Outcome State Fault Refusal :=
  takeEvent s fun e => match e with | .inboxOverflowTimeout c => some fun s => s.inboxTimeout c | _ => none

/-- A thread that has waited 2^24 cycles for room in a home's spill region. -/
def Slot.spillLate (x : Slot) (now : Nat) : Bool := x.st == .busy && x.busy == .spill && decide (x.waitAt + longWait ≤ now)

/-- WAITER_SPILL_TIMEOUT (R360): the launches of such threads of a core are stopped. -/
def State.spillTimeout (s : State) (c : Nat) : State :=
  ((s.core c).slots.toList.filter fun x => x.spillLate s.gtime && x.launched && !s.stopped x.task.launch).foldl (fun s x => s.report x.task.launch (cpReport 0x04)) s

/-- WAITER_SPILL_TIMEOUT (R360). -/
def execWaiterSpillTimeout (s : State) : Host.Outcome State Fault Refusal :=
  takeEvent s fun e => match e with | .waiterSpillTimeout c => some fun s => s.spillTimeout c | _ => none

/-! ## Launches (R100, R316, R317, R346, R347) -/

/-- LAUNCH_STOP (R100). -/
def execLaunchStop (s : State) : Host.Outcome State Fault Refusal :=
  takeEvent s fun e => match e with | .launchStop l k r => some fun s => s.stopLaunch l k r | _ => none

/-- LAUNCH_ACCEPT (R346). -/
def execLaunchAccept (s : State) : Host.Outcome State Fault Refusal :=
  takeEvent s fun e => match e with | .launchAccept q => some fun s => s.accept q | _ => none

/-- LAUNCH_DISPATCH (R317). -/
def execLaunchDispatch (s : State) : Host.Outcome State Fault Refusal :=
  takeEvent s fun e => match e with | .launchDispatch k => some fun s => s.dispatch k | _ => none

/-- Whether a thread, a save, a migration or a reservation of a launch is still under way, so that its completion record waits
(R100 steps 2 and 4). -/
def State.launchBusy (s : State) (n : Nat) : Bool :=
  s.cores.any fun (_, k) =>
    (k.slots.toList.any fun x => x.st != .empty && x.launched && x.task.launch == n)
      || (k.intake.any fun e => e.task.launch == n) || (k.copying.any fun q => q.task.launch == n)
      || (s.mxus.any fun (_, m) => match m.running with | some (_, q) => q.task.launch == n | none => false)
      || s.buckets.any fun b => b.cmd.task.launch == n

/-- LAUNCH_COMPLETION: of a launch that has ended, or of a stopped one once nothing of it is left on the cores (R347). -/
def State.launchCompletes (s : State) (n : Nat) : State := if s.launchBusy n then s else s.completeLaunch n

/-- LAUNCH_COMPLETION (R347). -/
def execLaunchCompletion (s : State) : Host.Outcome State Fault Refusal :=
  takeEvent s fun e => match e with | .launchCompletion n => some fun s => s.launchCompletes n | _ => none

/-! ## Host messages (R349) -/

/-- The 64 bytes of a host message. -/
def hostRecord (m : HostMsg) (phase : Bool) : List Byte :=
  bytesOf 32 (m.vt % 2 ^ 64 + m.tag.toNat * 2 ^ 64 + m.swid.toNat * 2 ^ 128 + m.launch % 4096 * 2 ^ 192 + b2n phase * 2 ^ 207) ++ m.payload.take 32

/-- HOST_MESSAGE_WRITE: the record enters the ring of the launch's HRING queue, waits while that is full or an earlier record for it waits, or stops
the launch where the queue has no ring (R349). -/
def State.hostWrite (s : State) (m : HostMsg) : State :=
  match s.launch? m.launch with
  | none => s
  | some l =>
    let recvd (s : State) : State := s.countRecv m.launch m.colour 1
    if s.stopped m.launch then recvd s
    else
      let q := hHring l.h
      let p := s.wqPage q
      let n := p.hmsize.toNat
      if q = 0xFFF ∨ n = 0 ∨ !p.ctl.getLsbD 0 then (recvd s).report m.launch (cpReport 0x01)
      else if span32 p.hmtail p.hmhead < n ∧ !(s.hostMsgs.any fun x => (s.launch? x.launch).any fun y => hHring y.h == q) then
        (((recvd s).pwrite (p.hmbase.toNat + 64 * (p.hmtail.toNat % n)) (hostRecord m (phaseOf p.hmtail.toNat n))).updWq q fun p =>
          { p with hmtail := inc32 p.hmtail })
      else { s with hostMsgs := s.hostMsgs ++ [m] }

/-- Waiting host messages enter their rings in the order in which they came, as far as there is room (R349). -/
def State.hostDrain (s : State) : State := s.hostMsgs.foldl (fun (s : State) m => s.hostWrite m) { s with hostMsgs := [] }

/-- HOST_MESSAGE_WRITE (R349). -/
def execHostMessageWrite (s : State) : Host.Outcome State Fault Refusal :=
  takeEvent s fun e => match e with | .hostMessageWrite m => some fun s => s.hostWrite m | _ => none

/-! ## Words that are no instruction (R150) -/

/-- UNASSIGNED_WORD: the issuing thread takes an illegal-instruction fault with the word as tval. -/
def execUnassignedWord (s : State) : Host.Outcome State Fault Refusal :=
  takeEvent s fun e => match e with
    | .unassignedWord w => some fun s => s.takeTrap s.who 0x01 false 0 (w.setWidth 64) (s.th s.who).pc false
    | _ => none

end Sys2Proof.Machine
end

