-- ==== Sys2Proof/Machine/Odometer.lean ====
section
/-! DEFINITION. The Odometer: sweeps, GVT and HZN, and the decision that a launch has ended or stalled (R74, R81, R87 to R93, R279, R325,
R329, R399). -/

namespace Sys2Proof.Machine

/-! ## Engine work of a launch (R91, R279) -/

/-- What an engine holds of a launch: nothing, a command that waits with its buffer or bucket, or work. -/
inductive Held
  | none
  | waits (core : Nat) (q : QCmd) (cb : Fin 32)
  | work
deriving DecidableEq, Repr

/-- A running MXU command: it waits only for slots of a buffer, or it works (R279, R281). A drain that waits for a buffer of another core is held with
that core (log entry 96). -/
def State.mxuHeld (s : State) (cl n : Nat) : Held :=
  match (s.mxu cl).running with
  | none => .none
  | some (k, q) =>
    if q.task.launch ≠ n then .none
    else
      let c := 8 * cl + k.val
      let t := q.t
      let b := s.cb c t.cbn
      let d := 8 * cl + t.dcoreM
      let short (m : Nat) : Held := if b.en && decide (b.filled < m) && b.tokenAt.all fun t => decide (m ≤ t) then .waits c q t.cbn else .work
      match q.op with
      | .mwld => short (ceilDiv (weightLen t.wtype t.sparse) (max 1 b.bytes))
      | .mact => if q.done < t.rows then short 1 else .work
      | .mdrn =>
        if t.rows ≤ q.done then .work
        else if d = c then (if b.en && b.filled == b.slots then .waits c q t.cbn else .work)
        else if !(s.cb d t.cbn).reclaimed && s.roomAt d t.cbn == 0 then .waits d q t.cbn else .work
      | _ => .work

/-- A copy command in progress: it waits only for slots of its buffer, or it works. A channel that waits for a buffer of another core is held with its
own core (log entry 96). -/
def State.copyHeld (s : State) (c : Nat) (q : QCmd) : Held :=
  match q.buffer c with
  | none => .work
  | some (d, cb) =>
    let b := s.cb d cb
    if q.op = .cpyC then
      if b.takesFrom c false && !b.reclaimed && s.roomAt d cb == 0 && (s.core c).heldSlots.isEmpty then .waits c q cb else .work
    else if b.en && b.filled == b.slots && !q.hungry b.bytes && (!q.stream.isEmpty || q.t.eos) then .waits c q cb else .work

/-- Everything the engines hold of a launch, but for commands that stand behind a waiting one of the same launch, and behind nothing else (R279). -/
def State.engineHeld (s : State) (n : Nat) : List Held :=
  let mine (q : QCmd) : Bool := q.task.launch == n
  let waits : Held → Bool | .waits .. => true | _ => false
  let mxu := (List.range 192).map fun cl => s.mxuHeld cl n
  let cores := s.cores.flatMap fun (c, k) =>
    let running := (k.copying.filter mine).map (s.copyHeld c)
    let behindMxu := waits (s.mxuHeld (c / 8) n)
    let stuck (q : QCmd) : Bool := mine q && waits (s.copyHeld c q)
    let behindCopy := match k.copyq with
      | q :: _ => mine q && !(q.op == .cpyG && k.lmx) && !(k.copyBlockers c q).isEmpty && (k.copyBlockers c q).all stuck
      | [] => false
    running
      ++ (if !behindMxu && k.mxq.any mine then [.work] else [])
      ++ (if !behindCopy && k.copyq.any mine then [.work] else [])
      ++ (if k.collq.any mine || k.heldSlots.any (fun x => x.task.launch == n) || k.landing.any (fun x => x.task.launch == n) then [.work] else [])
  let landing := s.cores.flatMap fun (_, k) => match k.landingCb with
    | some (cb, _) => if (k.cbs[cb].user.map TaskId.launch) = some n then [Held.work] else []
    | none => []
  let port := if s.portWait.any fun x => x.2.1 == n then [Held.work] else []
  (mxu ++ cores ++ landing ++ port).filter fun h => h != .none

/-! ## What is left of a launch (R91) -/

/-- A queue entry of a launch that waits only for a save area (R325). -/
def Launch.awaitsArea (l : Launch) (e : QEntry) : Bool :=
  (match e.work with | .task .. | .codelet .. => true | _ => false) && l.freeArea.isNone

/-- Occupied slots of a launch, with their places. -/
def State.threadsOf (s : State) (n : Nat) : List Who :=
  s.cores.flatMap fun (c, k) => (List.finRange 16).filterMap fun sl =>
    let x := k.slots[sl]
    if x.st != .empty && x.launched && x.task.launch == n then some ⟨c, sl⟩ else none

/-- Whether a launch holds a message: in an inbox, held at a task, at an ingress, or at the command processor. Messages held for work identifiers
not placed do not count (R399). -/
def State.holdsMsg (s : State) (n : Nat) : Bool :=
  s.tasks.any (fun t => t.id.launch == n && !(t.inbox.isEmpty && t.hold.isEmpty))
    || s.cores.any (fun (_, k) => k.ingress.any fun x => x.1.launch == n) || s.hostMsgs.any (fun m => m.launch == n)

/-- Whether a commit queue holds an entry of a launch. -/
def State.commitsOf (s : State) (n : Nat) : Bool := s.cores.any fun (_, k) => k.commitq.any fun e => e.task.launch == n

/-- Whether nothing of a launch is left (R91). -/
def State.nothingLeft (s : State) (n : Nat) : Bool :=
  !(s.tasks.any fun t => t.id.launch == n && t.place != .exited)
    && (s.threadsOf n).isEmpty && !(s.allEntries.any fun e => e.task.launch == n)
    && !(s.cores.any fun (_, k) => k.intake.any fun e => e.task.launch == n)
    && !s.commitsOf n && (s.engineHeld n).isEmpty && !(s.buckets.any fun b => b.cmd.task.launch == n) && !s.holdsMsg n

/-- Whether a thread in a slot only waits: parked, but not on the time base, with nothing pending (R91, R226). -/
def Slot.idles (x : Slot) : Bool :=
  x.st == .park && (match x.park with | .time _ => false | _ => true) && x.refused.isEmpty && x.mcheck.isNone && !x.dstop

/-- Whether a parked task has a message that its RECV would accept under the GVT and HZN in force. -/
def State.deliverable (s : State) (t : Task) : Bool :=
  let why (p : ParkWhy) (w : Nat) : Bool :=
    match p with
    | .recv => (pick t.imode (s.gvtOf t.id.launch) (s.hznOf t.id.launch) w t.inbox).isSome
    | .recvN => !t.notices.isEmpty
    | _ => false
  match t.place with
  | .on c sl => why (s.slot c sl).park (s.slot c sl).th.vtwin.toNat
  | _ => why t.parkWhy t.vtwin.toNat

/-- Whether a task of a launch only waits, in a slot or swapped out (R91, R374). -/
def State.taskWaits (s : State) (t : Task) : Bool :=
  match t.place with
  | .exited => true
  | .on c sl => (s.slot c sl).idles && !s.deliverable t
  | .out _ | .held .. | .reclaimed _ =>
    t.parked && !t.ready && !s.deliverable t && t.deferred.isEmpty && t.refused.isEmpty && t.mcheck.isNone
      && (match t.parkWhy with | .time _ => false | _ => true)
  | .queued => true
  | .migrating => false

/-- Whether a bucket waits for a peer's blocks only (R279). One that has them all and waits for a lower bucket, or that waits for a port, is engine
work held. -/
def Bucket.awaitsPeer (b : Bucket) : Bool := b.late.isEmpty && b.lacksBlocks

/-- Whether nothing of a launch can go on while something of it waits (R91). -/
def State.onlyWaits (s : State) (n : Nat) : Bool :=
  match s.launch? n with
  | none => false
  | some l =>
    let entries := s.allEntries.filter fun e => e.task.launch == n
    let spilled := s.cores.any fun (_, k) => k.spilled.any fun x => x.task.launch == n
    let parked := s.tasks.any fun t => t.id.launch == n && (match t.place with | .on .. => true | .out _ | .held .. | .reclaimed _ => true | _ => false)
    let engines := s.engineHeld n
    let buckets := s.buckets.filter fun b => b.cmd.task.launch == n
    let waiting := parked || spilled || engines.any (fun h => h != .work) || !buckets.isEmpty || !entries.isEmpty
    (s.threadsOf n).all (fun w => (s.at w).idles) && (s.tasks.all fun t => t.id.launch != n || s.taskWaits t)
      && entries.all l.awaitsArea && !(s.cores.any fun (_, k) => k.intake.any fun e => e.task.launch == n)
      && !s.commitsOf n && !engines.contains .work && buckets.all Bucket.awaitsPeer && !(s.hostMsgs.any fun m => m.launch == n)
      && !(s.cores.any fun (_, k) => k.ingress.any fun x => x.1.launch == n) && waiting

/-! ## Waiter records (R329, Table 12.5) -/

/-- The 64 bytes of a waiter record. -/
def waiterRecord (addr wkind tkind ntrig wid core slot cbn pc trig : Nat) : List Byte :=
  bytesOf 64 (addr % 2 ^ 54 + wkind * 2 ^ 54 + tkind * 2 ^ 58 + ntrig % 4 * 2 ^ 60 + wid * 2 ^ 64 + core % 2 ^ 11 * 2 ^ 128 + slot * 2 ^ 139
    + cbn * 2 ^ 143 + pc * 2 ^ 192 + trig % 2 ^ 256 * 2 ^ 256)

/-- The record of a parked thread. -/
def parkRecord (p : ParkWhy) (wid core slot pc : Nat) : List Byte :=
  match p with
  | .cell kind _ va t =>
    let (k, m, tr) := trigFields t
    waiterRecord va.toNat kind (if kind = 3 then 0 else k) (if kind = 3 then 0 else m) wid core slot 0 pc tr
  | .recv | .recvN | .time _ => waiterRecord 0 4 0 0 wid core slot 0 pc 0
  | .filled _ cb _ => waiterRecord 0 5 0 0 wid core slot cb.val pc 0
  | .free _ cb _ => waiterRecord 0 6 0 0 wid core slot cb.val pc 0
  | .bound _ cb _ => waiterRecord 0 7 0 0 wid core slot cb.val pc 0

/-- Slot and PC of a swapped-out task, from its image; a free value stands for those of an image that cannot be read. -/
def State.imagePlace (s : State) (t : Task) : State × Nat × Nat :=
  let img := match t.place with
    | .held c _ area => s.readImage c 0 area.toNat
    | .out c | .reclaimed c => s.savedImage c t.id none
    | _ => pageFault 0
  match img with
  | .ok b => (s, bits (imgN b 0 8) 55 52, imgN b 0x120 8)
  | .error e => let (v, s) := (s.logWalk e).draw; (s, v.toNat % 14, v.toNat % 2 ^ 54)

/-- The waiter records of a launch: parked threads, waiting engine commands, spill records and entries that await a save area. CORE of a command's
record is the core that it is held with (log entry 96). -/
def State.waiterRecords (s : State) (n : Nat) : State × List (List Byte) :=
  let slots := (s.threadsOf n).map fun w =>
    let x := s.at w
    parkRecord x.park x.task.wid.toNat w.core w.slot.val x.th.pc.toNat
  let engines := (s.engineHeld n).filterMap fun h => match h with
    | .waits c q cb => some (waiterRecord 0 8 0 0 q.task.wid.toNat c 0 cb.val q.pc.toNat 0)
    | _ => none
  let colls := (s.buckets.filter fun b => b.cmd.task.launch == n).map fun b =>
    waiterRecord 0 10 0 0 b.cmd.task.wid.toNat b.core 0 0 b.cmd.pc.toNat (b.ring + b.bucket * 2 ^ 64)
  let spills := s.cores.flatMap fun (_, k) => (k.spilled.filter fun x => x.task.launch == n).map fun x =>
    let (tk, m, tr) := trigFields x.trig
    waiterRecord x.va.toNat 9 tk m x.task.wid.toNat 0x7FF 0 0 0 tr
  let areas := (s.allEntries.filter fun e => e.task.launch == n).map fun e => waiterRecord 0 11 0 0 e.task.wid.toNat 0x7FF 0 0 0 0
  let outs := s.tasks.filter fun t => t.id.launch == n && (match t.place with | .out _ | .held .. | .reclaimed _ => true | _ => false)
  outs.foldl (fun (s, rs) t =>
    let (s, slot, pc) := s.imagePlace t
    (s, rs ++ [parkRecord t.parkWhy t.id.wid.toNat (t.place.home.getD 0) slot pc])) (s, slots ++ engines ++ colls ++ spills ++ areas)

/-! ## Sweeps (R89 to R93) -/

/-- PERIOD and EN of ODOCTL. -/
def Regs.sweepPeriod (r : Regs) : Nat := 64 * max 1 (bits r.odoctl.toNat 19 4)

/-- The part of a colour of counts, or of least VTs. -/
def ofColour (c : Bool) (x : Nat × Nat) : Nat := if c then x.2 else x.1

/-- The least VT of a colour that comes into force anew: nothing has been sent under it. -/
def freshColour (c : Bool) (x : Nat × Nat) : Nat × Nat := if c then (x.1, 2 ^ 64 - 1) else (2 ^ 64 - 1, x.2)

/-- Whether a sweep has not completed: a launch still waits for the reports of other packages (R92, R93). -/
def State.sweepOpen (s : State) : Bool := s.launches.any fun l => l.st == .live && l.due.isSome

/-- SWEEP_START: the sweep's colour comes into force, and its result is due for every live launch. A sweep starts only once the one before it has
completed (R93). -/
def State.sweepBegin (s : State) : State :=
  if s.regs.odoctl.getLsbD 0 && !s.sweepOpen then
    let live := s.launches.filter fun (l : Launch) => l.st == .live && l.odo.isSome
    { s with sweep := s.sweep + 1, sweepAt := s.gtime + s.regs.sweepPeriod,
             launches := s.launches.map fun (l : Launch) => { l with sentVt := freshColour (!s.colour) l.sentVt } }.post
      (live.map fun (l : Launch) => Event.sweepResult l.num)
  else s

/-- SWEEP_START (R89). -/
def execSweepStart (s : State) : Host.Outcome State Fault Refusal :=
  takeEvent s fun e => match e with | .sweepStart => some fun s => s.sweepBegin | _ => none

/-- The sample of source 0x0A: the least lvt among a launch's running tasks on a die, or on the core watched, less GVT; only units with LFILT
record it (R384). -/
def State.gvtLag (s : State) (n : Nat) : State :=
  let lvts (ok : Nat → Bool) : List Nat := s.cores.flatMap fun (c, k) => if ok c then
      k.slots.toList.filterMap fun x => if (x.st == .run || x.st == .busy) && x.isTask && x.task.launch == n then some x.th.lvt.toNat else none
    else []
  { s with captures := s.captures.map fun (i, u) =>
      if u.src = 0x0A ∧ u.en ∧ u.lfilt ∧ u.launch = n then
        match (lvts fun c => dieOf c == i / 32 && (u.watched == 0x7FF || u.watched == c)).min? with
        | some v => (i, u.record s.gtime (v - s.gvtOf n))
        | none => (i, u)
      else (i, u) }

/-- Tentative messages held at the directory and now final are released, and parked receivers look again (R71, R74). -/
def State.advanced (s : State) (n : Nat) : State :=
  let due (m : Msg) : Bool := m.anti == false && m.kind == 0 && !s.tentHeld m
  let go (s : State) (t : Task) : State :=
    (t.hold.filter due).foldl (fun s m => s.redeliver m) (s.updTask t.id fun x => { x with hold := x.hold.filter fun m => !due m })
  (s.tasks.filter fun t => t.id.launch == n).foldl (fun (s : State) (t : Task) =>
    let s := match t.place with
      | .migrating => s
      | .on c sl => if (s.slot c sl).st = SlotState.trap ∨ (s.slot c sl).st = SlotState.save then s else go s t
      | _ => go s t
    s.pokeId t.id) s

/-- A launch that has ended: its arms are withdrawn and counted, messages for work identifiers never placed are discarded, its Odometer slot
is free (R87, R91, R399). -/
def State.endLaunch (s : State) (n : Nat) : State :=
  let arm (x : Waiter) : Bool := x.task.launch == n && x.arm.isSome
  let arms := s.cores.foldl (fun m (_, k) => m + ((k.waiters ++ k.spilled).filter arm).length) 0
  let s := s.updLaunch n fun l => { l with st := .ended, odo := none, withdrawn := arms, unplaced := [] }
  s.dropWork n

/-- GVT and HZN take a sweep's minima; the commit queues are applied, epochs discarded and held messages released under them (R74, R81, R90). -/
def State.sweepCommits (s : State) (n g h : Nat) : State :=
  let s := s.updLaunch n fun l => if hVtime l.h then { l with gvt := max l.gvt g, hzn := max (max l.hzn h) (max l.gvt g) } else l
  (s.commitLaunch n).advanced n

/-- A launch ends, or is stopped as stalled with its waiter records. -/
def State.stall (s : State) (n : Nat) : State :=
  let (s, rs) := s.waiterRecords n
  (s.updLaunch n fun l => { l with waiting := rs }).stopLaunch n .stall none

/-- A control flit sent to another package's root: by the port that its device is routed to; with the port down it waits, and without a VALID route it
stops its launch (R395, R396). -/
def State.sendFlit (s : State) (f : SweepFlit) : State :=
  match s.portTo f.dev with
  | some (_, true) => { s with sentFlits := s.sentFlits ++ [f] }
  | some (p, false) => { s with flitWait := s.flitWait ++ [(p, s.gtime, f)] }
  | none => s.cpStop f.launch

/-- This package's own report of a launch for a sweep: the closing colour's counts, the least of its messages' VTs and of the terms, and whether the
launch is idle or stalled here (R89). -/
def State.ownReport (s : State) (l : Launch) : SweepFlit :=
  let c := !s.colour
  let (g, h) := s.terms l.num
  let least := ofColour c l.sentVt
  let left := s.nothingLeft l.num
  { dev := 0, result := false, launch := l.num, sent := ofColour c l.sent, recvd := ofColour c l.recv, gvt := min g least, hzn := min h least,
    idle := left, stalled := !left && s.onlyWaits l.num }

/-- The next report of a launch from each package, as they came. -/
def firstFlits : List SweepFlit → List SweepFlit
  | [] => []
  | f :: fs => f :: (firstFlits fs).filter fun x => x.dev != f.dev

/-- SWEEP_CONTROL_FLIT: another package root's report is held for the sweep, which goes on where it has waited for it; what the origin of a launch
returns is taken, and the launch is known to have its origin there (R92, R384, log entry 85). -/
def State.controlFlit (s : State) (f : SweepFlit) : State :=
  match s.launch? f.launch with
  | none => s
  | some l =>
    if l.st ≠ .live ∨ l.odo.isNone then s
    else
      let again (s : State) : State := if l.due.isSome then s.post [.sweepResult f.launch] else s
      if !f.result then again ({ s with flits := s.flits ++ [f] }.meetPeer f.launch f.dev)
      else
        let s := ((s.updLaunch f.launch fun l => { l with guest := some f.dev }).sweepCommits f.launch f.gvt f.hzn).gvtLag f.launch
        if f.idle then s.endLaunch f.launch else if f.stalled then s.stall f.launch else again s

/-- SWEEP_CONTROL_FLIT (R92). -/
def execSweepControlFlit (s : State) : Host.Outcome State Fault Refusal :=
  takeEvent s fun e => match e with | .sweepControlFlit f => some fun s => s.controlFlit f | _ => none

/-- The closing colour's sums, with the reports `fs` of other packages, balance or not. After two balanced sweeps GVT and HZN take the minima; and the
launch ends, or is stopped as stalled, where both sweeps found it so, under the GVT and HZN then in force. Every package that reported is told (R74,
R81, R89 to R92). -/
def State.sweepJoins (s : State) (l : Launch) (own : SweepFlit) (fs : List SweepFlit) : State :=
  let n := l.num
  let sent := fs.foldl (fun m f => m + f.sent) own.sent
  let recvd := fs.foldl (fun m f => m + f.recvd) own.recvd
  let (g, h) := fs.foldl (fun (t : Term) f => t.min (f.gvt, f.hzn)) (own.gvt, own.hzn)
  let balanced := sent == recvd
  let s := { s with flits := fs.foldl List.erase s.flits }
  let s := if balanced && l.balanced then s.sweepCommits n g h else s
  let left := s.nothingLeft n && fs.all fun f => f.idle
  let stuck := !left && (s.nothingLeft n || s.onlyWaits n) && fs.all fun f => f.idle || f.stalled
  let s := (s.updLaunch n fun l => { l with due := none, balanced := balanced, sawEnd := balanced && left, sawStall := balanced && stuck }).gvtLag n
  let ends := balanced && l.balanced && l.sawEnd && left
  let stalls := balanced && l.balanced && l.sawStall && stuck && !ends
  let s := fs.foldl (fun (s : State) f => s.sendFlit ⟨f.dev, true, n, 0, 0, s.gvtOf n, s.hznOf n, ends, stalls⟩) s
  if ends then s.endLaunch n else if stalls then s.stall n else s

/-- SWEEP_RESULT: the root of a launch's origin takes the sweep's result once every package that the launch is known to span has reported, and its own
report waits till then; the root of another package sends its report to the origin (R90 to R92). -/
def State.sweepEnds (s : State) (n : Nat) : State :=
  match s.launch? n with
  | none => s
  | some l =>
    if l.st ≠ .live ∨ l.odo.isNone then s
    else
      let own := l.due.getD (s.ownReport l)
      match l.guest with
      | some d => (s.updLaunch n fun l => { l with due := none }).sendFlit { own with dev := d }
      | none =>
        let fs := firstFlits (s.flits.filter fun f => f.launch == n)
        if l.peers.all fun d => fs.any fun f => f.dev == d then s.sweepJoins l own fs
        else s.updLaunch n fun l => { l with due := some own }

/-- SWEEP_RESULT (R90, R91). -/
def execSweepResult (s : State) : Host.Outcome State Fault Refusal :=
  takeEvent s fun e => match e with | .sweepResult n => some fun s => s.sweepEnds n | _ => none

end Sys2Proof.Machine
end

