-- ==== Sys2Proof/Machine/HostIf.lean ====
section
/-! DEFINITION. The host interface: the BAR registers and their writes, the work queues' control pages, the driver's commands and CXL.mem
(R342 to R351, R357, R358, R382, R383). -/

namespace Sys2Proof.Machine

/-! ## The state the registers show -/

/-- The package is ready: boot step 6 has been reached and has not failed (R364). -/
def State.ready? (s : State) : Bool := s.powered && bits s.regs.bootst.toNat 2 0 == 6 && !s.regs.bootst.getLsbD 3

/-- Whether a launch is live: dispatched, and its completion record not yet written. -/
def State.anyLive (s : State) : Bool := s.launches.any fun l => l.st != .waiting

/-- A number in the low bits of a register. -/
def regWord (v : Word) (hi lo : Nat) : Word := BitVec.ofNat 64 (bits v.toNat hi lo * 2 ^ lo)

/-- ERRSUM: a bit for each class with an unconsumed record (Table 15.2). -/
def State.errsum (s : State) : Word :=
  BitVec.ofNat 64 ((List.range 5).foldl (fun n c => if s.errClasses.contains c then n + 2 ^ c else n) 0)

/-- CORESTAT (R358). -/
def State.corestat (s : State) (c : Nat) : Word :=
  let k := s.core c
  BitVec.ofNat 64 (b2n k.dead + b2n (k.cache.any CtxEntry.incomplete) * 2 + k.freeSlots.length * 2 ^ 8)

/-- DCSTAT (Table 15.2). -/
def Regs.dcstat (r : Regs) : Word := BitVec.ofNat 64 (b2n r.dcbusy + b2n r.dcover * 2 + r.dcstatus % 256 * 2 ^ 8)

/-- A link's status words (Tables 15.9, 17.5). -/
def Link.word (l : Link) (k : Nat) : Word :=
  BitVec.ofNat 64 (match k with
    | 0 => l.st % 4 + l.peer % 64 * 2 ^ 8
    | 1 => l.crcerr % 2 ^ 32 + l.llretry % 2 ^ 32 * 2 ^ 32
    | 2 => l.replay % 2 ^ 32
    | _ => 0)

def State.capture (s : State) (die unit : Nat) : Capture := s.captures.getD (32 * die + unit) Capture.reset

/-! ## Register reads (R344) -/

/-- A register of a work queue's control page (Table 15.3). -/
def WqPage.read (p : WqPage) : Nat → Word
  | 0x000 => p.ctl | 0x008 => p.base | 0x010 => p.size | 0x018 => p.tail | 0x020 => p.head
  | 0x028 => p.cqbase | 0x030 => p.cqsize | 0x038 => p.cqtail | 0x040 => p.cqhead
  | 0x048 => p.hmbase | 0x050 => p.hmsize | 0x058 => p.hmtail | 0x060 => p.hmhead
  | 0x068 => p.rpbase | 0x070 => p.rpsize | 0x078 => p.rptail | 0x080 => p.rphead
  | 0x088 => p.err | _ => 0

/-- A package register (Table 15.2). -/
def State.packageReg (s : State) (off : Nat) : Word :=
  let r := s.regs
  match off with
  | 0x000 => 0xC404 | 0x008 => r.bootst | 0x010 => r.ascbase | 0x018 => r.habase | 0x020 => r.welsaid | 0x028 => r.odoctl
  | 0x030 => BitVec.ofNat 64 s.gtime | 0x040 => r.dccmd | 0x048 => r.dcarg0 | 0x050 => r.dcarg1 | 0x058 => r.dcarg2 | 0x060 => r.dcres
  | 0x068 => r.dcstat | 0x080 => r.elbase | 0x088 => r.elsize | 0x090 => r.eltail | 0x098 => r.elhead | 0x0A0 => r.elctl
  | 0x0A8 => r.ellost | 0x0B0 => s.errsum
  | _ => if 0x100 ≤ off ∧ off ≤ 0x1B8 then r.keysel.toList.getD ((off - 0x100) / 8) 0 else 0

/-- A register of a core's block (R358). -/
def State.coreReg (s : State) (c off : Nat) : Word :=
  let k := s.core c
  match off with
  | 0x00 => k.trbase | 0x08 => k.trsize | 0x10 => k.trtail | 0x18 => k.trhead | 0x20 => k.trlost | 0x28 => s.corestat c
  | 0x30 => k.iobase | 0x38 => k.iosize | 0x40 => k.wsbase | 0x48 => k.wssize | _ => 0

/-- A word of a capture unit (Table 17.2). -/
def Capture.read (u : Capture) (off : Nat) : Word :=
  match off with
  | 0x00 => u.ctl | 0x08 => BitVec.ofNat 64 u.min | 0x10 => BitVec.ofNat 64 u.max | 0x18 => BitVec.ofNat 64 u.cnt
  | 0x20 => BitVec.ofNat 64 u.drop | 0x28 => BitVec.ofNat 64 u.per
  | _ =>
    if 0x80 ≤ off ∧ off < 0x100 then
      BitVec.ofNat 64 (u.hist.toList.getD ((off - 0x80) / 4) 0 + u.hist.toList.getD ((off - 0x80) / 4 + 1) 0 * 2 ^ 32)
    else 0

/-- A fleet register (Table 17.1). -/
def State.fleetReg (s : State) (off : Nat) : Word :=
  let f := s.fleet
  match off with
  | 0x000 => f.scrubctl | 0x008 => f.scrubcnt | 0x010 => f.pwrcap | 0x018 => f.pwrnow | 0x020 => f.repgrp | 0x028 => f.diglast
  | _ =>
    if 0x1000 ≤ off ∧ off < 0x1100 then (s.link (32 + (off - 0x1000) / 32)).word (off % 32 / 8)
    else if 0x1100 ≤ off ∧ off < 0x1300 then f.wroute.toList.getD ((off - 0x1100) / 8) 0
    else if 0x1400 ≤ off ∧ off < 0x1480 then f.wring.toList.getD ((off - 0x1400) / 8) 0
    else 0

/-- What a whole, aligned register read returns. A register not listed reads as zero (R344); before boot step 6 all but BOOTST read as ones
(R364). An access that is not a whole aligned word reads as ones. -/
def State.regRead (s : State) (bar off : Nat) : Word :=
  if off % 8 ≠ 0 then BitVec.allOnes 64
  else if !s.ready? then (if bar = 2 ∧ off = 8 then s.regs.bootst else BitVec.allOnes 64)
  else if bar = 0 then (if off < 2 ^ 24 then (s.wqPage (off / 2 ^ 12)).read (off % 2 ^ 12) else 0)
  else if off < 0x1000 then s.packageReg off
  else if 0x10000 ≤ off ∧ off < 0x18000 then s.msixTable.getD ((off - 0x10000) / 8) 0
  else if 0x18000 ≤ off ∧ off < 0x18100 then
    BitVec.ofNat 64 ((List.range 64).foldl (fun n j => if s.msixPending.contains (8 * (off - 0x18000) + j) then n + 2 ^ j else n) 0)
  else if 0x100000 ≤ off ∧ off < 0x100000 + 128 * 1536 then s.coreReg ((off - 0x100000) / 128) (off % 128)
  else if 0x200000 ≤ off ∧ off < 0x200000 + 1024 then linkReg s off
  else if 0x310000 ≤ off ∧ off < 0x312000 then s.fleetReg (off - 0x310000)
  else if 0x300000 ≤ off ∧ off < 0x310000 then
    (s.capture ((off - 0x300000) / 0x2000) ((off - 0x300000) % 0x2000 / 0x100)).read (off % 0x100)
  else 0
where
  /-- A status word of a UCIe module (Table 15.9). -/
  linkReg (s : State) (off : Nat) : Word :=
    let o := off - 0x200000
    (s.link (o / 128 * 4 + o % 128 / 32)).word (o % 32 / 8)

/-! ## Work-queue pages (R345, R346) -/

/-- A queue error recorded where none stands yet (Table 15.3). -/
def WqPage.fail (p : WqPage) (e : Nat) : WqPage := if p.err = 0 then { p with err := BitVec.ofNat 64 e } else p

/-- A size register holds a power of two between two bounds. -/
def pow2In (lo hi n : Nat) : Bool := ringOk lo hi n

/-- Sizes valid and bases aligned, as enabling a queue requires. -/
def WqPage.enableOk (p : WqPage) : Bool :=
  pow2In 2 65536 p.size.toNat && pow2In 2 65536 p.cqsize.toNat && pow2In 16 (2 ^ 20) p.rpsize.toNat
    && p.base.toNat % 128 == 0 && p.cqbase.toNat % 32 == 0 && p.rpbase.toNat % 64 == 0

/-- Whether WQTAIL stands more than the ring ahead of WQHEAD (R346). -/
def WqPage.tailOver (p : WqPage) : Bool := decide (p.size.toNat < span32 p.tail p.head)

/-- WQCTL written: ASID only while EN is 0; EN from 0 to 1 on a valid page, which clears WQERR (R345); EN clears again where WQTAIL is too far
ahead (R346). -/
def WqPage.setCtl (p : WqPage) (v : Word) : WqPage :=
  let en := p.ctl.getLsbD 0
  if en then
    let p := if bits v.toNat 15 8 = bits p.ctl.toNat 15 8 then p else p.fail 0x02
    { p with ctl := BitVec.ofNat 64 (b2n (v.getLsbD 0) + bits p.ctl.toNat 15 8 * 2 ^ 8) }
  else
    let a := bits v.toNat 15 8 * 2 ^ 8
    if !v.getLsbD 0 then { p with ctl := BitVec.ofNat 64 a }
    else if !p.enableOk then { p with ctl := BitVec.ofNat 64 a, err := 0x01 }
    else if p.tailOver then { p with ctl := BitVec.ofNat 64 a, err := 0x03 }
    else { p with ctl := BitVec.ofNat 64 (a + 1), err := 0 }

/-- WQTAIL written; a tail more than the ring ahead of WQHEAD is a queue error (R346). -/
def WqPage.setTail (p : WqPage) (v : Word) : WqPage :=
  let p := { p with tail := regWord v 31 0 }
  if p.ctl.getLsbD 0 && p.tailOver then
    { p.fail 0x03 with ctl := BitVec.ofNat 64 (bits p.ctl.toNat 15 8 * 2 ^ 8) }
  else p

/-- A base or size register written, which counts only while EN is 0 (R345). -/
def WqPage.setRing (p : WqPage) (f : WqPage → WqPage) : WqPage := if p.ctl.getLsbD 0 then p.fail 0x02 else f p

/-- A register of a control page written; read-only and unlisted offsets ignore it. -/
def WqPage.write (p : WqPage) (off : Nat) (v : Word) : WqPage :=
  match off with
  | 0x000 => p.setCtl v
  | 0x008 => p.setRing fun p => { p with base := v }
  | 0x010 => p.setRing fun p => { p with size := v }
  | 0x018 => p.setTail v
  | 0x028 => p.setRing fun p => { p with cqbase := v }
  | 0x030 => p.setRing fun p => { p with cqsize := v }
  | 0x040 => { p with cqhead := regWord v 31 0 }
  | 0x048 => p.setRing fun p => { p with hmbase := v }
  | 0x050 => p.setRing fun p => { p with hmsize := v }
  | 0x060 => { p with hmhead := regWord v 31 0 }
  | 0x068 => p.setRing fun p => { p with rpbase := v }
  | 0x070 => p.setRing fun p => { p with rpsize := v }
  | 0x080 => { p with rphead := regWord v 31 0 }
  | _ => p

/-! ## Package, core and fleet registers -/

/-- An error record of a register access or of a link, which names no core (Table 15.11). -/
def State.logHost (s : State) (ty : Nat) (addr : Nat) : State := s.logError ty 0 0x7FF 0 0 0 0xFFF (BitVec.ofNat 64 addr)

/-- A register that may be written only while no launch is live (Table 15.2, R358). -/
def State.whileIdle (s : State) (off : Nat) (f : State → State) : State := if s.anyLive then s.logHost 0x23 off else f s

/-- ELHEAD written: the records passed are consumed, and with them their classes in ERRSUM (R368). -/
def State.setElhead (s : State) (v : Word) : State :=
  let v := regWord v 31 0
  { s with regs := { s.regs with elhead := v },
           errClasses := s.errClasses.drop (s.errClasses.length - span32 s.regs.eltail v) }

/-- The event that a driver command's OP stands for (Table 15.6). -/
def commandEvent (op : Nat) : Event :=
  match op with
  | 0x01 => .regbuf | 0x02 => .freebuf | 0x03 => .regarena | 0x04 => .freearena | 0x05 => .retag | 0x06 => .driverXinv
  | 0x07 => .driverCinv | 0x08 => .stop | 0x09 => .reclaim | 0x0A => .restore | 0x0B => .saveretry | 0x0C => .corecmd
  | 0x0D => .rotkey | 0x0E => .digest | _ => .unknownDriverCommand

/-- DCCMD written (R350): with GO set it starts a command, or sets OVERRUN while one is under way. Its reserved bits stay zero (R6). -/
def State.setDccmd (s : State) (v : Word) : State :=
  let r := s.regs
  if r.dcbusy then { s with regs := { r with dcover := true } }
  else
    let w := v &&& 0x80000000000000FF
    if v.getLsbD 63 then { s with regs := { r with dccmd := w, dcbusy := true, dcover := false } }.post [commandEvent (v.toNat % 256)]
    else { s with regs := { r with dccmd := w } }

/-- A package register written (Table 15.2). -/
def State.writePackage (s : State) (off : Nat) (v : Word) : State :=
  let r := s.regs
  match off with
  | 0x010 => s.whileIdle off fun s => { s with regs := { r with ascbase := regWord v 51 13 } }
  | 0x018 => s.whileIdle off fun s => { s with regs := { r with habase := regWord v 51 15 } }
  | 0x020 => s.whileIdle off fun s => { s with regs := { r with welsaid := regWord v 5 0 } }
  | 0x028 => { s with regs := { r with odoctl := BitVec.ofNat 64 (v.toNat % 2 + max 1 (bits v.toNat 19 4) * 2 ^ 4) } }
  | 0x040 => s.setDccmd v
  | 0x048 => { s with regs := { r with dcarg0 := v } }
  | 0x050 => { s with regs := { r with dcarg1 := v } }
  | 0x058 => { s with regs := { r with dcarg2 := v } }
  | 0x080 => { s with regs := { r with elbase := v } }
  | 0x088 => { s with regs := { r with elsize := v } }
  | 0x098 => s.setElhead v
  | 0x0A0 => { s with regs := { r with elctl := regWord v 11 0 } }
  | _ =>
    if 0x100 ≤ off ∧ off ≤ 0x1B8 then
      s.whileIdle off fun s => { s with regs := { r with keysel := r.keysel.setIfInBounds ((off - 0x100) / 8) v } }
    else s

/-- A register of a core's block written (R358). -/
def State.writeCore (s : State) (c off : Nat) (v : Word) : State :=
  let reg := 0x100000 + 128 * c + off
  match off with
  | 0x00 => s.updCore c fun k => if k.trctl then k else { k with trbase := v }
  | 0x08 => s.updCore c fun k => if k.trctl then k else { k with trsize := v }
  | 0x18 => s.updCore c fun k => { k with trhead := v }
  | 0x30 => s.whileIdle reg fun s => s.updCore c fun k => { k with iobase := v }
  | 0x38 => s.whileIdle reg fun s => s.updCore c fun k => { k with iosize := v }
  | 0x40 => s.whileIdle reg fun s => s.updCore c fun k => { k with wsbase := v }
  | 0x48 => s.whileIdle reg fun s => s.updCore c fun k => { k with wssize := v }
  | _ => s

/-- A capture unit cleared (Table 17.2, CLR) in a cycle. -/
def Capture.clear (u : Capture) (now : Nat) : Capture :=
  { u with min := 0xFFFFFFFF, max := 0, cnt := 0, drop := 0, hist := .replicate 32 0, clearedAt := some now }

/-- A capture unit's control word written: a reserved source is stored as 0; a change of SRC, LFILT, LAUNCH or CORE, and CLR, clear the unit. -/
def Capture.setCtl (u : Capture) (now : Nat) (v : Word) : Capture :=
  let n := v.toNat
  let src := if n % 256 ≤ 0x0A then n % 256 else 0
  let ctl : Word := BitVec.ofNat 64 (src + bits n 10 8 * 2 ^ 8 + bits n 23 12 * 2 ^ 12 + bits n 42 32 * 2 ^ 32)
  let old := u.ctl.toNat
  let same := old % 256 == src && bits old 10 10 == bits n 10 10 && bits old 23 12 == bits n 23 12 && bits old 42 32 == bits n 42 32
  let u := { u with ctl := ctl }
  if same && !v.getLsbD 11 then u else u.clear now

def State.updCapture (s : State) (die unit : Nat) (f : Capture → Capture) : State :=
  { s with captures := s.captures.put (32 * die + unit) (f (s.capture die unit)) }

/-- A word of a capture unit written: SRC to CORE, or PER. -/
def State.writeCapture (s : State) (die unit off : Nat) (v : Word) : State :=
  match off with
  | 0x00 => s.updCapture die unit fun u => u.setCtl s.gtime v
  | 0x28 => s.updCapture die unit fun u => { u with per := max 1 (bits v.toNat 15 0) }
  | _ => s

/-- WRING r written; ignored with an error record while a bucket of the ring is in progress (R397). -/
def State.setWring (s : State) (r : Nat) (v : Word) : State :=
  if s.buckets.any fun b => b.ring == r then s.logHost 0x23 (0x311400 + 8 * r)
  else { s with fleet := { s.fleet with wring := s.fleet.wring.setIfInBounds r (regWord v 6 0) } }

/-- A fleet register written (Table 17.1). -/
def State.writeFleet (s : State) (off : Nat) (v : Word) : State :=
  let f := s.fleet
  let n := v.toNat
  match off with
  | 0x000 => { s with fleet := { f with scrubctl := BitVec.ofNat 64 (n % 2 + max 1 (bits n 31 16) * 2 ^ 16) } }
  | 0x010 => { s with fleet := { f with pwrcap := BitVec.ofNat 64 (min 2200 (max 600 (n % 2 ^ 16))) } }
  | 0x020 =>
    { s with fleet := { f with repgrp := BitVec.ofNat 64 (bits n 2 0 + bits n 19 8 * 2 ^ 8 + bits n 31 24 * 2 ^ 24 + max 1 (bits n 63 32) * 2 ^ 32) } }
  | _ =>
    if 0x1100 ≤ off ∧ off < 0x1300 then { s with fleet := { f with wroute := f.wroute.setIfInBounds ((off - 0x1100) / 8) (regWord v 3 0) } }
    else if 0x1400 ≤ off ∧ off < 0x1480 then s.setWring ((off - 0x1400) / 8) v
    else s

/-- A whole, aligned register write (R344); before boot step 6 it is discarded (R364). -/
def State.regWrite (s : State) (bar off : Nat) (v : Word) : State :=
  if !s.ready? then s
  else if bar = 0 then (if off < 2 ^ 24 then s.updWq (off / 2 ^ 12) fun p => p.write (off % 2 ^ 12) v else s)
  else if bar ≠ 2 then s
  else if off < 0x1000 then s.writePackage off v
  else if 0x10000 ≤ off ∧ off < 0x18000 then { s with msixTable := s.msixTable.put ((off - 0x10000) / 8) v }
  else if 0x100000 ≤ off ∧ off < 0x100000 + 128 * 1536 then s.writeCore ((off - 0x100000) / 128) (off % 128) v
  else if 0x310000 ≤ off ∧ off < 0x312000 then s.writeFleet (off - 0x310000) v
  else if 0x300000 ≤ off ∧ off < 0x310000 then
    s.writeCapture ((off - 0x300000) / 0x2000) ((off - 0x300000) % 0x2000 / 0x100) (off % 0x100) v
  else s

/-- A register access that is no whole aligned word: a read returns all ones, and an error record is logged (R344). -/
def State.badAccess (s : State) (off : Nat) (read : Bool) : State :=
  let s := if read then { s with hostRead := some (List.replicate 8 0xFF) } else s
  if s.ready? then s.logHost 0x22 off else s

/-- REGISTER_WRITE (R344): an access that is not a whole aligned word is a bad register access. -/
def execRegisterWrite (s : State) : Host.Outcome State Fault Refusal :=
  takeEvent s fun e => match e with
    | .registerWrite bar off v => some fun s =>
      if off % 8 = 0 then s.regWrite bar off v else s.badAccess off false
    | _ => none

/-- BAD_REGISTER_ACCESS (R344). -/
def execBadRegisterAccess (s : State) : Host.Outcome State Fault Refusal :=
  takeEvent s fun e => match e with | .badRegisterAccess _ off read => some fun s => s.badAccess off read | _ => none

/-- WQTAIL_WRITE (R346). -/
def execWqtailWrite (s : State) : Host.Outcome State Fault Refusal :=
  takeEvent s fun e => match e with | .wqtailWrite q v => some fun s => s.regWrite 0 (0x1000 * q + 0x018) v | _ => none

/-- WQCTL_WRITE (R345). -/
def execWqctlWrite (s : State) : Host.Outcome State Fault Refusal :=
  takeEvent s fun e => match e with | .wqctlWrite q v => some fun s => s.regWrite 0 (0x1000 * q) v | _ => none

/-- CQHEAD_WRITE (R346). -/
def execCqheadWrite (s : State) : Host.Outcome State Fault Refusal :=
  takeEvent s fun e => match e with | .cqheadWrite q v => some fun s => s.regWrite 0 (0x1000 * q + 0x040) v | _ => none

/-- HMHEAD_WRITE (R349). -/
def execHmheadWrite (s : State) : Host.Outcome State Fault Refusal :=
  takeEvent s fun e => match e with | .hmheadWrite q v => some fun s => s.regWrite 0 (0x1000 * q + 0x060) v | _ => none

/-- RPHEAD_WRITE (R348). -/
def execRpheadWrite (s : State) : Host.Outcome State Fault Refusal :=
  takeEvent s fun e => match e with | .rpheadWrite q v => some fun s => s.regWrite 0 (0x1000 * q + 0x080) v | _ => none

/-- ELHEAD_WRITE (R368). -/
def execElheadWrite (s : State) : Host.Outcome State Fault Refusal :=
  takeEvent s fun e => match e with | .elheadWrite v => some fun s => s.regWrite 2 0x098 v | _ => none

/-- TRHEAD_WRITE (R308, R358). -/
def execTrheadWrite (s : State) : Host.Outcome State Fault Refusal :=
  takeEvent s fun e => match e with | .trheadWrite c v => some fun s => s.regWrite 2 (0x100018 + 128 * c) v | _ => none

/-- WRING_WRITE (R397). -/
def execWringWrite (s : State) : Host.Outcome State Fault Refusal :=
  takeEvent s fun e => match e with | .wringWrite r v => some fun s => s.regWrite 2 (0x311400 + 8 * r.val) v | _ => none

/-- CAPTURE_CONFIG_WRITE (R383). -/
def execCaptureConfigWrite (s : State) : Host.Outcome State Fault Refusal :=
  takeEvent s fun e => match e with
    | .captureConfigWrite d u v => some fun s => s.regWrite 2 (0x300000 + 0x2000 * d.val + 0x100 * u.val) v
    | _ => none

/-- CAPTURE_CLEAR: CLR written (R383). -/
def execCaptureClear (s : State) : Host.Outcome State Fault Refusal :=
  takeEvent s fun e => match e with
    | .captureClear d u => some fun s => if s.ready? then s.updCapture d.val u.val fun x => x.clear s.gtime else s
    | _ => none

/-! ## CXL.mem (R309, R343, R387) -/

/-- Whether the host-access map admits a physical address. -/
def State.hostMapped (s : State) (pa : Nat) : Bool :=
  let j := pa / 2 ^ 21
  bitAt (s.pbyte (s.regs.habase.toNat + j / 8)).toNat (j % 8)

/-- A page: kind, first physical address, length. -/
structure Page where
  kind : Nat
  base : Nat
  len : Nat
deriving DecidableEq, Repr

/-- The page of the frame that holds a physical address, among the entries below a table. -/
def State.pageUnder (s : State) (pa t lvl : Nat) : Nat → Option Page
  | 0 => none
  | f + 1 =>
    ((List.range (if lvl = 0 then 64 else 512)).findSome? fun i =>
      let a := t + 16 * i
      if !populated a then none
      else
        let e := natOf (s.pread a 16)
        if !pteV e then none
        else if pteLeaf e then
          let b := pteFrame e * 2 ^ 12
          let n := 2 ^ pageShift (pteSize e)
          if b ≤ pa ∧ pa < b + n then some ⟨pteKind e, b, n⟩ else none
        else s.pageUnder pa (pteFrame e * 2 ^ 12) (lvl + 1) f)

/-- The page that holds a physical address in some valid address space. -/
def State.hostPage (s : State) (pa : Nat) : Option Page :=
  (List.range 256).findSome? fun a =>
    let c := natOf (s.pread (s.regs.ascbase.toNat + 32 * a) 32)
    if bitAt c 0 then s.pageUnder pa (bits c 51 10 * 2 ^ 10) 0 5 else none

/-- `n` words from an address up made free values, and of a LATTICE page their state codes too (R343). -/
def State.scramble (s : State) (pa : Nat) (lattice : Bool) : Nat → State
  | 0 => s
  | n + 1 =>
    let (v, s) := s.draw
    let s := s.pwrite pa (bytesOf 8 v.toNat)
    let s := if lattice then (let (k, s) := s.draw; s.setCodes pa (Fin.ofNat 8 k.toNat) 1) else s
    s.scramble (pa + 8) lattice n

/-- HOST_MEM_WRITE: within the map it is performed; one to a page that is neither HOSTBUF nor FROZEN leaves the page's contents undefined; a
FROZEN page written is noted (R310, R343). -/
def State.hostWriteMem (s : State) (pa : Nat) (bs : List Byte) : State :=
  if !s.ready? || !populated pa then s.logHost 0x21 pa
  else if !s.hostMapped pa then s.logHost 0x20 pa
  else match s.hostPage pa with
    | none => s.pwrite pa bs
    | some p =>
      if p.kind = kHostbuf then s.pwrite pa bs
      else if p.kind = kFrozen then
        let s := s.pwrite pa bs
        if s.hostPages.contains (pa / 2 ^ 12) then s else { s with hostPages := pa / 2 ^ 12 :: s.hostPages }
      else s.scramble p.base (p.kind == kLattice) (p.len / 8)

/-- HOST_MEM_WRITE (R343). -/
def execHostMemWrite (s : State) : Host.Outcome State Fault Refusal :=
  takeEvent s fun e => match e with | .hostMemWrite pa bs => some fun s => s.hostWriteMem pa bs | _ => none

/-- HOST_MEM_READ: a line of 64 bytes, all ones where it is refused or unpopulated, CXL poison on a check-code mismatch (R342, R343, R387). -/
def State.hostReadMem (s : State) (pa : Nat) : State :=
  let a := pa / 64 * 64
  let ones : Option (List Byte) := some (List.replicate 64 0xFF)
  if !s.ready? || !populated a then { s.logHost 0x21 pa with hostRead := ones }
  else if !s.hostMapped a then { s.logHost 0x20 pa with hostRead := ones }
  else match s.badIn a 64 with
    | [] => { s with hostRead := some (s.pread a 64) }
    | gs => { s.logGranules gs with hostRead := none }

/-- HOST_MEM_READ (R343). -/
def execHostMemRead (s : State) : Host.Outcome State Fault Refusal :=
  takeEvent s fun e => match e with | .hostMemRead pa => some fun s => s.hostReadMem pa | _ => none

end Sys2Proof.Machine
end

