-- ==== Sys2Proof/Machine/Driver.lean ====
section
/-! DEFINITION. The driver's commands (R44, R45, R105, R108, R109, R234, R350, R351, R357, R367, Table 15.6), but for DIGEST. A command acts on
the operand registers DCARG0 to DCARG2 and ends by writing STATUS and clearing BUSY. -/

namespace Sys2Proof.Machine

/-- A command's end: STATUS written and BUSY cleared. -/
def State.dcEnd (s : State) (status : Nat) : State := { s with regs := { s.regs with dcbusy := false, dcstatus := status } }

/-- A command's end with a result value. -/
def State.dcEndWith (s : State) (res : Word) : State := { s.dcEnd 0 with regs := { (s.dcEnd 0).regs with dcres := res } }

/-- A driver command that runs as one step on its operands. -/
def driverCommand (s : State) (e : Event) (f : State → Nat → Nat → Nat → State) : Host.Outcome State Fault Refusal :=
  takeEvent s fun x => if x = e then some fun s => f s s.regs.dcarg0.toNat s.regs.dcarg1.toNat s.regs.dcarg2.toNat else none

/-! ## Buffers and arenas -/

/-- Whether a launch that has been accepted and has not completed names a buffer handle or an arena of its address space. -/
def State.named (s : State) (arena : Bool) (asid handle : Nat) : Bool :=
  s.launches.any fun l => (!arena || l.asid == asid) && l.deps.any fun d => d.arena == arena && d.handle == handle

/-- The least handle from `n` up that no buffer holds; `f` are tried. -/
def State.freeHandle (s : State) (n : Nat) : Nat → Nat
  | 0 => n
  | f + 1 => if s.buffers.any fun b => !b.arena && b.handle == n then s.freeHandle (if n = 2 ^ 32 - 1 then 1 else n + 1) f else n

/-- REGBUF: VA, length, ASID (Table 15.6). -/
def State.regbuf (s : State) (va len asid : Nat) : State :=
  if 256 ≤ asid ∨ len = 0 ∨ 2 ^ 54 < va + len then s.dcEnd 0x01
  else if 65535 ≤ (s.buffers.filter fun b => !b.arena).length then s.dcEnd 0x06
  else
    let h := s.freeHandle s.nextHandle 65536
    let b : Buffer := ⟨h, false, asid, va, len, none, []⟩
    { s with buffers := s.buffers ++ [b], nextHandle := if h = 2 ^ 32 - 1 then 1 else h + 1 }.dcEndWith (BitVec.ofNat 64 h)

/-- FREEBUF: a buffer that no live launch names. -/
def State.freebuf (s : State) (h : Nat) : State :=
  if !(s.buffers.any fun b => !b.arena && b.handle == h) then s.dcEnd 0x03
  else if s.named false 0 h then s.dcEnd 0x04
  else { s with buffers := s.buffers.filter fun b => b.arena || b.handle != h }.dcEnd 0

/-- KIND and SIZE of Table 2.4. -/
def kindSizeOk (kind size : Nat) : Bool :=
  match kind with
  | 6 => size == 0 || size == 2 || size == 4
  | 8 => size == 0 || size == 2 || size == 3 || size == 4
  | 9 => size == 1
  | _ => decide (kind ≤ 7) && size == 0

/-- The descriptor of an arena (Table 2.3), where R44 admits it. -/
def arenaOf? (d : Nat) : Option Arena :=
  let kind := bits d 3 0
  let size := bits d 6 4
  let g := bits d 12 8
  let f := bits d 19 13
  let base := bits d 127 64
  let len := bits d 191 128
  let reserved := bitAt d 7 || bits d 63 22 != 0 || decide (2 ^ 54 ≤ base) || bits d 255 212 != 0 || bits d 511 288 != 0
  let gf := if kind = 9 then decide (1 ≤ g ∧ g ≤ 24 ∧ f ≤ 64) else g == 0 && f == 0
  if reserved || !kindSizeOk kind size || !gf || base % 4096 != 0 || len % 4096 != 0 then none
  else some ⟨bits d 199 192, bits d 211 200, kind, size, g, f, 0, base, len, 0⟩

/-- REGARENA: registers and initialises an arena (R44, R45). A number registered already is registered anew unless a live launch names it; copies
of what its old range held frozen stay in the caches (log entry 89). -/
def State.regarena (s : State) (pa : Nat) : State :=
  if pa % 64 ≠ 0 then s.dcEnd 0x01
  else match s.checkedRead pa 64 with
    | .error e => (s.logWalk e).dcEnd 0x01
    | .ok bs => match arenaOf? (natOf bs) with
      | none => s.dcEnd 0x01
      | some a =>
        if 4096 ≤ (s.arenas.filter fun x => x.asid == a.asid).length then s.dcEnd 0x06
        else if s.named true a.asid a.num then s.dcEnd 0x04
        else
          let other (asid num : Nat) : Bool := !(asid == a.asid && num == a.num)
          let b : Buffer := ⟨a.num, true, a.asid, a.base, a.len, none, []⟩
          let s := { s with arenas := (s.arenas.filter fun (x : Arena) => other x.asid x.num) ++ [a],
                            buffers := (s.buffers.filter fun (x : Buffer) => !x.arena || other x.asid x.handle) ++ [b] }
          (s.resetCells a a.base (a.len / cellBytes a.size)).dcEndWith (BitVec.ofNat 64 a.num)

/-- FREEARENA: ASID, arena; CINV of its range. -/
def State.freearena (s : State) (asid num : Nat) : State :=
  if 256 ≤ asid ∨ 4096 ≤ num then s.dcEnd 0x01
  else match s.arena? asid num with
    | none => s.dcEnd 0x03
    | some a =>
      if s.named true asid num then s.dcEnd 0x04
      else
        let s := s.dropCopies asid a.base a.len
        let s := { s with arenas := s.arenas.filter fun (x : Arena) => !(x.asid == asid && x.num == num),
                          buffers := s.buffers.filter fun (x : Buffer) => !(x.arena && x.asid == asid && x.handle == num) }
        s.dcEnd 0

/-- The page at an address re-tagged: what its homes hold of it written back, its translation dropped, owner and kind rewritten in each of its entries
(R354), and the state codes of words that are LATTICE no longer cleared (R47). The address of the next page. One that has no entry is passed over,
with the error record of its walk. -/
def State.retagPage (s : State) (asid va owner kind : Nat) : State × Nat :=
  match (do let c ← s.context asid va; s.walk asid va (bits c 51 10 * 2 ^ 10) 0 5) with
  | .ok (e, a) =>
    let z := 2 ^ pageShift (pteSize e)
    let put (s : State) (a : Nat) : State := s.pwrite a (bytesOf 16 (putBitsIn (putBitsIn (natOf (s.pread a 16)) 4 2 kind) 80 16 owner))
    let home (l : DLine) : Bool := l.frozen || l.asid != asid || l.va / z != va / z
    let s := s.dropXlat va 0 asid
    let s := { s with cores := s.cores.map (fun (c, k) => (c, { k with dcache := k.dcache.filter home })),
                      codes := if pteKind e = kLattice then clearCodes s.codes (pteFrame e * 2 ^ 12) z else s.codes }
    ((pageEntries e a).foldl put s, va / z * z + z)
  | .error e => (s.logWalk e, va / 4096 * 4096 + 4096)

/-- Every page of a range re-tagged. -/
def State.retagRange (s : State) (asid stop va owner kind : Nat) : Nat → State
  | 0 => s
  | n + 1 =>
    if stop ≤ va then s
    else let (s, va) := s.retagPage asid va owner kind; s.retagRange asid stop va owner kind n

/-- RETAG: handle, owner tag, kind (Table 15.6). -/
def State.retag (s : State) (h owner kind : Nat) : State :=
  if 2 ^ 16 ≤ owner ∨ !(kind == kPrivate || kind == kFrozen) then s.dcEnd 0x01
  else match s.buffers.find? fun b => !b.arena && b.handle == h with
    | none => s.dcEnd 0x03
    | some b =>
      if s.named false 0 h then s.dcEnd 0x04
      else (s.retagRange b.asid (b.va + b.len) b.va owner kind (b.len / 4096 + 2)).dcEnd 0

/-- REGBUF (R350). -/
def execRegbuf (s : State) : Host.Outcome State Fault Refusal := driverCommand s .regbuf fun s a b c => s.regbuf a b c

/-- FREEBUF (R350). -/
def execFreebuf (s : State) : Host.Outcome State Fault Refusal := driverCommand s .freebuf fun s a _ _ => s.freebuf a

/-- REGARENA (R45). -/
def execRegarena (s : State) : Host.Outcome State Fault Refusal := driverCommand s .regarena fun s a _ _ => s.regarena a

/-- FREEARENA (R350). -/
def execFreearena (s : State) : Host.Outcome State Fault Refusal := driverCommand s .freearena fun s a b _ => s.freearena a b

/-- RETAG (R350). -/
def execRetag (s : State) : Host.Outcome State Fault Refusal := driverCommand s .retag fun s a b c => s.retag a b c

/-- XINV by the driver (R234). -/
def execDriverXinv (s : State) : Host.Outcome State Fault Refusal :=
  driverCommand s .driverXinv fun s a b _ => (s.dropXlat a (bits b 9 8) (bits b 7 0)).dcEnd 0

/-- CINV by the driver (R234). -/
def execDriverCinv (s : State) : Host.Outcome State Fault Refusal :=
  driverCommand s .driverCinv fun s a b _ => (s.dropCopies (bits b 55 48) a (bits b 47 0)).dcEnd 0

/-! ## STOP (R100, R351) -/

/-- STOP: queue, launch, each a number below 4,096. A launch that waits to be dispatched is stopped where it stands; one that has ended is none. -/
def State.stopCmd (s : State) (q n : Nat) : State :=
  if 4096 ≤ q ∨ 4096 ≤ n then s.dcEnd 0x01
  else match s.launches.find? fun l => l.num == n && l.queue == q && l.st != .ended with
  | none => s.dcEnd 0x03
  | some l =>
    match l.st with
    | .waiting =>
      { s with launches := updFirst (fun x => x.key == l.key) (fun x => { x with st := .stopped .driver }) s.launches }.dcEnd 0
    | _ => (s.stopLaunch n .driver none).dcEnd 0

/-- STOP (R351). -/
def execStop (s : State) : Host.Outcome State Fault Refusal := driverCommand s .stop fun s a b _ => s.stopCmd a b

/-! ## RECLAIM, RESTORE, SAVERETRY (R105, R108, R109, R357) -/

/-- The 32-byte units that a reclaim's save needs (R108). -/
def reclaimUnits (k8 : Bool) (glen : Nat) : Nat := imgLen k8 / 32 + 1 + 24 + glen / 32

/-- The header of an image with WHY = 3 (Table 1.8). -/
def withWhy3 (img : List Byte) : List Byte :=
  img.take 18 ++ [BitVec.ofNat 8 (3 + (imgN img 18 1) / 16 * 16)] ++ img.drop 19

/-- A swapped-out task reclaimed: a context-cache entry, which the image has or takes as R103 provides, keeps the image and the records of
Table 4.8 until they stand in the task's area (R105). -/
def State.reclaimOut (s : State) (c : Nat) (t : Task) (va asid : Nat) (g : Nat × Nat) : State :=
  let k := s.core c
  let mine (e : CtxEntry) : Bool := e.task == t.id && e.let_.isNone
  if k.blocked then s.dcEnd 0x09
  else if 8 ≤ k.cacheUsed ∧ !(k.cache.any mine) then s.writeBack c
  else match s.savedImage c t.id none with
    | .error x => let (v, s) := ((s.logWalk x).imageRefused ⟨c, 0⟩ t.id.launch va).draw; s.dcEnd (v.toNat % 256)
    | .ok img =>
      let e : CtxEntry := { task := t.id, let_ := none, prio := t.prio, img := withWhy3 img, slot := 15, why := 3, incomplete := true,
                            dest := some (BitVec.ofNat 64 va, 0, asid), tail := s.reclaimTail c g.1 g.2, target := none, checks := [], colour := false }
      let s := s.updCore c fun k => { k with runq := k.runq.filter fun e => !(e.task == t.id && e.work == .saved),
                                             cache := k.cache.filter (fun e => !mine e) ++ [e] }
      (s.updTask t.id fun t => { t with place := .reclaimed c }).reclaimOutSave c e va asid

/-- RECLAIM: core, launch, WID. It waits, BUSY, while the task holds uncommitted history, is in the middle of an instruction or is in TRAP; then
the task is saved with its grant (R22, R86, R105, R108, R351). -/
def State.reclaim (s : State) (c n wid : Nat) : State :=
  if 1536 ≤ c ∨ 4096 ≤ n then s.dcEnd 0x01
  else match s.launch? n, s.task? ⟨n, BitVec.ofNat 64 wid⟩ with
  | some l, some t =>
    let g := grantOn c t.grant
    let short := decide (hSavelen l.h < reclaimUnits (isK8 c) g.2)
    let va := match t.area with | some a => l.areaVa a | none => 0
    if s.stopped n then s.dcEnd 0x03
    else match t.place with
      | .on d sl =>
        let w : Who := ⟨c, sl⟩
        if d ≠ c then s.dcEnd 0x03
        else if short then s.dcEnd 0x05
        else if !(s.at w).atBoundary || !s.clear w then s
        else if (s.core c).blocked then s.dcEnd 0x09
        else s.beginSave w 3 (BitVec.ofNat 64 va) 0
      | .out d =>
        if d ≠ c then s.dcEnd 0x03
        else if short then s.dcEnd 0x05
        else if !t.epochs.isEmpty || s.commits c t.id || decide (s.gvtOf n ≤ t.lvt.toNat) then s
        else s.reclaimOut c t va l.asid g
      | _ => s.dcEnd 0x03
  | _, _ => s.dcEnd 0x03

/-- RECLAIM (R108). -/
def execReclaim (s : State) : Host.Outcome State Fault Refusal := driverCommand s .reclaim fun s a b c => s.reclaim a b c

/-- Bytes of a save area read back in granules. -/
def State.areaRead (s : State) (c asid va n : Nat) : M (List Byte) :=
  (List.range (ceilDiv n 32)).foldlM (fun bs i => do
    let l ← s.loadPlace c asid (va + 32 * i)
    let x ← s.readAt l 32
    .ok (bs ++ x)) []

/-- A descriptor of a reclaim area restored (Tables 2.7, 4.8): its token, if EOS is set and it is still in the ring, is the last slot
pushed. -/
def restoreCb (old : Cb) (x : Nat) (user : TaskId) : Cb :=
  let (b, _) := cbOf x (some user)
  let filled := bits x 72 64
  let eos := bitAt x 75
  { b with filled := filled, eos := eos, token := if eos && filled != 0 then some ((b.pptr + b.slots - 1) % b.slots) else none,
           popPos := old.popPos, pushPos := old.pushPos }

/-- Whether a saved descriptor breaks Table 2.7: a reserved field, or the reserved PKIND (R6). -/
def cbReserved (x : Nat) : Bool := bits x 63 56 != 0 || bits x 127 88 != 0 || bits x 191 182 != 0 || bits x 74 73 == 3

/-- The grant contents, then the descriptors, put back from a reclaim area (R108); a grant record that breaks Table 4.9, or a descriptor that breaks
Table 2.7, is refused (R6). -/
def State.restoreArea (s : State) (c : Nat) (t : Task) (va asid : Nat) : M State := do
  let h ← s.areaRead c asid va 32
  let n := imgN h 2 2 * 32
  let r ← natOf <$> s.areaRead c asid (va + n) 32
  let base := bits r 19 0
  let len := bits r 40 20
  let mask := bits r 95 64
  failIf (bits r 63 41 != 0 || bits r 255 96 != 0 || base % 256 != 0 || len % 256 != 0 || decide (2 ^ 20 < len)) 0x01 0
  let ds ← s.areaRead c asid (va + n + 32) 768
  let desc (i : Fin 32) : Nat := natOf ((ds.drop (24 * i.val)).take 24)
  failIf ((List.finRange 32).any fun i => bitAt mask i.val && cbReserved (desc i)) 0x01 0
  let bs ← s.areaRead c asid (va + n + 800) len
  let s2 := s.lwrite c base (bs.take len)
  let back (k : Core) (i : Fin 32) : Cb :=
    if bitAt mask i.val then restoreCb k.cbs[i] (desc i) t.id else k.cbs[i]
  .ok (s2.updCore c fun (k : Core) => { k with cbs := Vector.ofFn (back k) })

/-- Whether a reclaimed task's save has stopped at a granule: it waits for SAVERETRY (R105). -/
def State.saveStands (s : State) (c : Nat) (id : TaskId) : Bool := (s.core c).cache.any fun e => e.task == id && e.incomplete && e.dest.isSome

/-- Whether a restored parked task is ready to run at once. -/
def State.rouses (s : State) (id : TaskId) : Bool :=
  match s.task? id with
  | some t => !t.deferred.isEmpty || s.outReady t
  | none => false

/-- RESTORE: core, launch, WID. The task is swapped out again with its grant in place, and its held channels go on (R108, R109, R351). -/
def State.restore (s : State) (c n wid : Nat) : State :=
  if 1536 ≤ c ∨ 4096 ≤ n then s.dcEnd 0x01
  else match s.launch? n, s.task? ⟨n, BitVec.ofNat 64 wid⟩ with
  | some l, some t =>
    if s.stopped n || t.place != .reclaimed c || s.saveStands c t.id then s.dcEnd 0x03
    else
      let va := match t.area with | some a => l.areaVa a | none => 0
      match s.restoreArea c t va l.asid with
      | .error x => let (v, s) := ((s.logWalk x).imageRefused ⟨c, 0⟩ n va).draw; s.dcEnd (v.toNat % 256)
      | .ok s =>
        let s := s.updTask t.id fun t => { t with place := .out c }
        let s :=
          if !t.parked then s.enqueue c (savedEntry t)
          else if s.rouses t.id then s.makeReady t
          else s
        s.dcEnd 0
  | _, _ => s.dcEnd 0x03

/-- RESTORE (R108). -/
def execRestore (s : State) : Host.Outcome State Fault Refusal := driverCommand s .restore fun s a b c => s.restore a b c

/-- SAVERETRY: every save-incomplete save of a core restarts at step 3 of R105. -/
def State.saveretry (s : State) (c : Nat) : State :=
  if 1536 ≤ c then s.dcEnd 0x01
  else (((s.core c).cache.filter CtxEntry.incomplete).foldl (fun s e => s.retrySave c e) s).dcEnd 0

/-- SAVERETRY (R105). -/
def execSaveretry (s : State) : Host.Outcome State Fault Refusal := driverCommand s .saveretry fun s a _ _ => s.saveretry a

/-! ## CORECMD, ROTKEY, unknown commands -/

/-- CORECMD: a wake event of kind 0x04 with the command word (Table 4.4). -/
def execCorecmd (s : State) : Host.Outcome State Fault Refusal :=
  driverCommand s .corecmd fun s a b _ => if 1536 ≤ a then s.dcEnd 0x01 else (s.postWake a 0x04 b).dcEnd 0

/-- ROTKEY: a new key for an ASID group of which no ASID is VALID (R367). -/
def State.rotkey (s : State) (g : Nat) : State :=
  if 16 ≤ g then s.dcEnd 0x01
  else if (List.range 16).any fun j => bitAt (natOf (s.pread (s.regs.ascbase.toNat + 32 * (16 * g + j)) 1)) 0 then s.dcEnd 0x04
  else { s with keyVer := s.keyVer.setIfInBounds g (s.keyVer.toList.getD g 0 + 1) }.dcEnd 0

/-- ROTKEY (R367). -/
def execRotkey (s : State) : Host.Outcome State Fault Refusal := driverCommand s .rotkey fun s a _ _ => s.rotkey a

/-- UNKNOWN_DRIVER_COMMAND: STATUS 0x02 (R350). -/
def execUnknownDriverCommand (s : State) : Host.Outcome State Fault Refusal :=
  driverCommand s .unknownDriverCommand fun s _ _ _ => s.dcEnd 0x02

end Sys2Proof.Machine
end

