-- ==== Sys2Proof/Machine/Fleet.lean ====
section
/-! DEFINITION. Replica digests: the driver command DIGEST, the peers' messages and their timeout (R391 to R393). -/

namespace Sys2Proof.Machine

/-- One bit shifted into the CRC of ECMA-182. -/
def crc64Bit (crc : Word) : Word := if crc.getLsbD 63 then (crc <<< 1) ^^^ 0x42F0E1EBA9EA3693#64 else crc <<< 1

/-- Crc64 over bytes, bits taken most significant first (R391). -/
def crc64 : Word → List Byte → Word
  | crc, [] => crc
  | crc, b :: bs => crc64 ((List.range 8).foldl (fun c _ => crc64Bit c) (crc ^^^ (b.setWidth 64 <<< 56))) bs

/-- The digest carried over `n` cells of an arena from `va` up. -/
def State.digestCells (s : State) (a : Arena) (crc : Word) (va : Nat) : Nat → M Word
  | 0 => .ok crc
  | n + 1 => do
    let x ← s.translate a.asid va .lread
    let (k, bs) ← s.readCell ⟨x, a, va⟩
    s.digestCells a (crc64 crc (bytesOf 8 va ++ bs ++ [BitVec.ofNat 8 k.val])) (va + cellBytes a.size) n

/-- The digest of a list of arenas (R391). -/
def State.digestOf (s : State) : Word → List Arena → M Word
  | crc, [] => .ok crc
  | crc, a :: as => do
    let c ← s.digestCells a crc a.base (a.len / cellBytes a.size)
    s.digestOf c as

/-- The arena numbers of the list that DCARG1 names. -/
def arenaNumbers : List Byte → List Nat
  | a :: b :: rest => (a.toNat + 256 * b.toNat) :: arenaNumbers rest
  | _ => []

/-- The fields of REPGRP (Table 17.1). -/
def State.repOn (s : State) : Bool := s.fleet.repgrp.getLsbD 0
def State.repPeers (s : State) : List Nat :=
  let r := s.fleet.repgrp.toNat
  [bits r 13 8, bits r 19 14].take (bits r 2 1)
def State.repGroup (s : State) : Nat := bits s.fleet.repgrp.toNat 31 24
def State.repTimeout (s : State) : Nat := bits s.fleet.repgrp.toNat 63 32 * 1024

/-- Every work queue of the address space loses EN with WQERR 0x04; a record of type 0x40 holds the differing digest (R393). -/
def State.disagree (s : State) (asid : Nat) (d : Word) : State :=
  let hit (p : WqPage) : Bool := bits p.ctl.toNat 15 8 == asid
  let stop (p : WqPage) : WqPage := { p.fail 0x04 with ctl := BitVec.ofNat 64 (asid * 2 ^ 8) }
  let s := (List.range 4096).foldl (fun (s : State) q => if hit (s.wqPage q) then s.updWq q stop else s) s
  s.logError 0x40 0 0x7FF 0 0 0 0xFFF d

/-- The DIGEST command ends: agreement, disagreement, or a peer not heard. -/
def State.digestEnd (s : State) (w : DigestWait) (late : Bool) : State :=
  let s := { s with digest := none }
  match w.differs with
  | some d => (s.disagree w.asid d).dcEnd 0x07
  | none => s.dcEnd (if late then 0x08 else 0x00)

/-- A peer's digest of the step compared. -/
def DigestWait.hear (w : DigestWait) (peer : Nat) (d : Word) : DigestWait :=
  { w with heard := w.heard ++ [peer], differs := w.differs.or (if d = w.digest then none else some d) }

/-- The command ends once every peer has been heard. -/
def State.digestNext (s : State) (w : DigestWait) : State :=
  if s.repPeers.all fun p => w.heard.contains p then s.digestEnd w false else { s with digest := some w }

/-- The digest sent to a peer as a Welsa control flit; one whose port is down waits, and one without a VALID route goes nowhere (R392, R395, R396). -/
def State.sendDigest (s : State) (m : Nat × Nat × Nat × Word) : State :=
  match s.portTo m.1 with
  | some (_, true) => { s with sentDigests := s.sentDigests ++ [m] }
  | some (_, false) => { s with heldDigests := s.heldDigests ++ [(m.1, m.2.1, m.2.2.1, m.2.2.2, s.gtime)] }
  | none => s

/-- Waiting digests sent once their port has come up (R396). -/
def State.resendDigests (s : State) : State :=
  let up (m : Nat × Nat × Nat × Word × Nat) : Bool := match s.portTo m.1 with | some (_, b) => b | none => true
  (s.heldDigests.filter up).foldl (fun (s : State) m => s.sendDigest (m.1, m.2.1, m.2.2.1, m.2.2.2.1))
    { s with heldDigests := s.heldDigests.filter fun m => !up m }

/-- The digest sent to every peer; held messages of the peers compared as the wait begins. -/
def State.digestBegin (s : State) (w : DigestWait) : State :=
  let s := s.repPeers.foldl (fun (s : State) p => s.sendDigest (p, s.repGroup, w.step, w.digest)) s
  let mine (m : Nat × Nat × Nat × Word) : Bool := s.repPeers.contains m.1 && m.2.1 == s.repGroup && m.2.2.1 == w.step
  let held := s.peers.filter mine
  { s with peers := s.peers.filter fun m => !mine m }.digestNext (held.foldl (fun (w : DigestWait) (m : Nat × Nat × Nat × Word) => w.hear m.1 m.2.2.2) w)

/-- The granules of an arena's cells whose check code does not match. -/
def State.badCells (s : State) (a : Arena) : List Nat :=
  ((List.range (a.len / cellBytes a.size)).flatMap fun i => match s.translate a.asid (a.base + i * cellBytes a.size) .lread with
    | .ok x => s.badIn x.pa (cellBytes a.size)
    | .error _ => []).dedup

/-- The digest computed, with the values that do not come of a readable cell left open; the error records of mismatches. -/
def State.digestValue (s : State) (as : List Arena) : Word × State :=
  match s.digestOf 0 as with
  | .ok d => (d, s)
  | .error _ => (s.logGranules (as.flatMap s.badCells)).draw

/-- DIGEST on its operands (R392). -/
def State.digestCmd (s : State) (a0 a1 a2 : Nat) : State :=
  let asid := a0 % 256
  if bits a0 15 8 ≠ 0 ∨ 2 ^ 48 ≤ a0 ∨ a1 % 8 ≠ 0 ∨ a2 = 0 ∨ 4096 < a2 then s.dcEnd 0x01
  else match s.checkedRead a1 (2 * a2) with
    | .error _ => (s.logGranules (s.badIn a1 (2 * a2))).dcEnd 0x01
    | .ok bs =>
      let found := (arenaNumbers bs).map fun n => s.arena? asid n
      if found.any Option.isNone then s.dcEnd 0x03
      else
        let as := found.filterMap id
        if as.any fun a => a.st != 2 then s.dcEnd 0x01
        else
          let (d, s) := s.digestValue as
          let s := { s with regs := { s.regs with dcres := d }, fleet := { s.fleet with diglast := d } }
          if s.repOn then s.digestBegin ⟨asid, bits a0 47 16, d, s.gtime, none, []⟩ else s.dcEnd 0x00

/-- DIGEST (R392). -/
def execDigest (s : State) : Host.Outcome State Fault Refusal := driverCommand s .digest fun s a b c => s.digestCmd a b c

/-- A peer's message held, one for each peer; a later step replaces it. -/
def State.holdPeer (s : State) (peer group step : Nat) (d : Word) : State :=
  match s.peers.find? fun m => m.1 == peer with
  | some m => if m.2.2.1 < step then { s with peers := (s.peers.filter fun m => m.1 != peer) ++ [(peer, group, step, d)] } else s
  | none => { s with peers := s.peers ++ [(peer, group, step, d)] }

/-- A peer's message compared where the command waits for it, and held otherwise. -/
def State.peerArrives (s : State) (peer group step : Nat) (d : Word) : State :=
  match s.digest with
  | some w =>
    if s.repPeers.contains peer && group == s.repGroup && step == w.step && !w.heard.contains peer then s.digestNext (w.hear peer d)
    else s.holdPeer peer group step d
  | none => s.holdPeer peer group step d

/-- DIGEST_PEER_MESSAGE (R392, R393). -/
def execDigestPeerMessage (s : State) : Host.Outcome State Fault Refusal :=
  takeEvent s fun e => match e with | .digestPeerMessage p g st d => some fun s => s.peerArrives p g st d | _ => none

/-- Whether TIMEOUT has passed since the DIGEST command began to wait. -/
def State.digestLate (s : State) : Bool :=
  match s.digest with
  | some w => decide (s.repTimeout ≤ s.gtime - w.since)
  | none => false

/-- DIGEST_TIMEOUT (R392). -/
def execDigestTimeout (s : State) : Host.Outcome State Fault Refusal :=
  takeEvent s fun e => match e with
    | .digestTimeout => some fun s => match s.digest with | some w => if s.digestLate then s.digestEnd w true else s | none => s
    | _ => none

end Sys2Proof.Machine
end

