-- ==== Sys2Proof/Machine/Integer.lean ====
section
/-! DEFINITION. Integer instructions: register, immediate and bit operations, message headers, predicates and select
(R162 to R177). -/

namespace Sys2Proof.Machine

/-- A two-source operation of fixed or variable latency: sources a and b, result to d (R158, R163, R165). -/
def alu (i : Instr) (d a b : Fin 32) (var : Bool) (f : Word → Word → Word) (s : State) : Host.Outcome State Fault Refusal :=
  issue i false 0 s fun w => do
    s.chkOps w i
    let (x, y, s) ← s.read2 w a b
    let s ← s.putG w d (f x y)
    .ok (if var then s.retireVar w i else s.retire w i)

/-- A one-source operation of fixed latency. -/
def alu1 (i : Instr) (d a : Fin 32) (f : Word → Word) (s : State) : Host.Outcome State Fault Refusal :=
  issue i false 0 s fun w => do
    s.chkOps w i
    let (x, s) ← s.readG w a
    let s ← s.putG w d (f x)
    .ok (s.retire w i)

/-- A .W form: the 32-bit result sign-extended (R158). -/
def wform (f : BitVec 32 → BitVec 32 → BitVec 32) (x y : Word) : Word := (f (x.setWidth 32) (y.setWidth 32)).signExtend 64

/-! ## Table 7.1, at width n -/

def opAdd (x y : BitVec n) : BitVec n := x + y
def opSub (x y : BitVec n) : BitVec n := x - y
def opMul (x y : BitVec n) : BitVec n := x * y
/-- The high half of the signed product. -/
def opMulh (x y : BitVec n) : BitVec n := BitVec.ofInt n (x.toInt * y.toInt / (2 ^ n : Nat))
/-- The high half of the unsigned product. -/
def opMulhn (x y : BitVec n) : BitVec n := BitVec.ofNat n (x.toNat * y.toNat / 2 ^ n)
/-- SDiv of R164; the overflowing quotient wraps to the dividend. -/
def opDiv (x y : BitVec n) : BitVec n := if y = 0 then -1 else BitVec.ofInt n (x.toInt.tdiv y.toInt)
/-- UDiv of R164. -/
def opDivn (x y : BitVec n) : BitVec n := if y = 0 then -1 else BitVec.ofNat n (x.toNat / y.toNat)
/-- SRem of R164. -/
def opRem (x y : BitVec n) : BitVec n := if y = 0 then x else BitVec.ofInt n (x.toInt.tmod y.toInt)
/-- URem of R164. -/
def opRemn (x y : BitVec n) : BitVec n := if y = 0 then x else BitVec.ofNat n (x.toNat % y.toNat)
def opAnd (x y : Word) : Word := x &&& y
def opOr (x y : Word) : Word := x ||| y
def opXor (x y : Word) : Word := x ^^^ y
def opAndn (x y : Word) : Word := x &&& ~~~y
def opOrn (x y : Word) : Word := x ||| ~~~y
/-- Shifts take the amount modulo the width. -/
def opSll (x y : BitVec n) : BitVec n := x <<< (y.toNat % n)
def opSrl (x y : BitVec n) : BitVec n := x >>> (y.toNat % n)
def opSra (x y : BitVec n) : BitVec n := x.sshiftRight (y.toNat % n)
def opRor (x y : BitVec n) : BitVec n := x.rotateRight (y.toNat % n)
def opMin (x y : BitVec n) : BitVec n := if x.toInt ≤ y.toInt then x else y
def opMax (x y : BitVec n) : BitVec n := if x.toInt ≤ y.toInt then y else x
def opMinn (x y : BitVec n) : BitVec n := if x.toNat ≤ y.toNat then x else y
def opMaxn (x y : BitVec n) : BitVec n := if x.toNat ≤ y.toNat then y else x
def opSlt (x y : BitVec n) : BitVec n := if x.toInt < y.toInt then 1 else 0
def opSltn (x y : BitVec n) : BitVec n := if x.toNat < y.toNat then 1 else 0

/-- ADD (R163). -/
def execAdd (d a b : Fin 32) (s : State) : Host.Outcome State Fault Refusal :=
  alu (.add d a b) d a b false opAdd s

/-- SUB (R163). -/
def execSub (d a b : Fin 32) (s : State) : Host.Outcome State Fault Refusal :=
  alu (.sub d a b) d a b false opSub s

/-- MUL (R163). -/
def execMul (d a b : Fin 32) (s : State) : Host.Outcome State Fault Refusal :=
  alu (.mul d a b) d a b false opMul s

/-- MULH (R163). -/
def execMulh (d a b : Fin 32) (s : State) : Host.Outcome State Fault Refusal :=
  alu (.mulh d a b) d a b false opMulh s

/-- MULHN (R163). -/
def execMulhn (d a b : Fin 32) (s : State) : Host.Outcome State Fault Refusal :=
  alu (.mulhn d a b) d a b false opMulhn s

/-- DIV (R163, R164). -/
def execDiv (d a b : Fin 32) (s : State) : Host.Outcome State Fault Refusal :=
  alu (.div d a b) d a b true opDiv s

/-- DIVN (R163, R164). -/
def execDivn (d a b : Fin 32) (s : State) : Host.Outcome State Fault Refusal :=
  alu (.divn d a b) d a b true opDivn s

/-- REM (R163, R164). -/
def execRem (d a b : Fin 32) (s : State) : Host.Outcome State Fault Refusal :=
  alu (.rem d a b) d a b true opRem s

/-- REMN (R163, R164). -/
def execRemn (d a b : Fin 32) (s : State) : Host.Outcome State Fault Refusal :=
  alu (.remn d a b) d a b true opRemn s

/-- AND (R163). -/
def execAnd (d a b : Fin 32) (s : State) : Host.Outcome State Fault Refusal :=
  alu (.and d a b) d a b false opAnd s

/-- OR (R163). -/
def execOr (d a b : Fin 32) (s : State) : Host.Outcome State Fault Refusal :=
  alu (.or d a b) d a b false opOr s

/-- XOR (R163). -/
def execXor (d a b : Fin 32) (s : State) : Host.Outcome State Fault Refusal :=
  alu (.xor d a b) d a b false opXor s

/-- ANDN (R163). -/
def execAndn (d a b : Fin 32) (s : State) : Host.Outcome State Fault Refusal :=
  alu (.andn d a b) d a b false opAndn s

/-- ORN (R163). -/
def execOrn (d a b : Fin 32) (s : State) : Host.Outcome State Fault Refusal :=
  alu (.orn d a b) d a b false opOrn s

/-- SLL (R163). -/
def execSll (d a b : Fin 32) (s : State) : Host.Outcome State Fault Refusal :=
  alu (.sll d a b) d a b false opSll s

/-- SRL (R163). -/
def execSrl (d a b : Fin 32) (s : State) : Host.Outcome State Fault Refusal :=
  alu (.srl d a b) d a b false opSrl s

/-- SRA (R163). -/
def execSra (d a b : Fin 32) (s : State) : Host.Outcome State Fault Refusal :=
  alu (.sra d a b) d a b false opSra s

/-- ROR (R163). -/
def execRor (d a b : Fin 32) (s : State) : Host.Outcome State Fault Refusal :=
  alu (.ror d a b) d a b false opRor s

/-- MIN (R163). -/
def execMin (d a b : Fin 32) (s : State) : Host.Outcome State Fault Refusal :=
  alu (.min d a b) d a b false opMin s

/-- MAX (R163). -/
def execMax (d a b : Fin 32) (s : State) : Host.Outcome State Fault Refusal :=
  alu (.max d a b) d a b false opMax s

/-- MINN (R163). -/
def execMinn (d a b : Fin 32) (s : State) : Host.Outcome State Fault Refusal :=
  alu (.minn d a b) d a b false opMinn s

/-- MAXN (R163). -/
def execMaxn (d a b : Fin 32) (s : State) : Host.Outcome State Fault Refusal :=
  alu (.maxn d a b) d a b false opMaxn s

/-- SLT (R163). -/
def execSlt (d a b : Fin 32) (s : State) : Host.Outcome State Fault Refusal :=
  alu (.slt d a b) d a b false opSlt s

/-- SLTN (R163). -/
def execSltn (d a b : Fin 32) (s : State) : Host.Outcome State Fault Refusal :=
  alu (.sltn d a b) d a b false opSltn s

/-- ADD.W (R163). -/
def execAddW (d a b : Fin 32) (s : State) : Host.Outcome State Fault Refusal :=
  alu (.addW d a b) d a b false (wform opAdd) s

/-- SUB.W (R163). -/
def execSubW (d a b : Fin 32) (s : State) : Host.Outcome State Fault Refusal :=
  alu (.subW d a b) d a b false (wform opSub) s

/-- MUL.W (R163). -/
def execMulW (d a b : Fin 32) (s : State) : Host.Outcome State Fault Refusal :=
  alu (.mulW d a b) d a b false (wform opMul) s

/-- MULH.W (R163). -/
def execMulhW (d a b : Fin 32) (s : State) : Host.Outcome State Fault Refusal :=
  alu (.mulhW d a b) d a b false (wform opMulh) s

/-- MULHN.W (R163). -/
def execMulhnW (d a b : Fin 32) (s : State) : Host.Outcome State Fault Refusal :=
  alu (.mulhnW d a b) d a b false (wform opMulhn) s

/-- DIV.W (R163, R164). -/
def execDivW (d a b : Fin 32) (s : State) : Host.Outcome State Fault Refusal :=
  alu (.divW d a b) d a b true (wform opDiv) s

/-- DIVN.W (R163, R164). -/
def execDivnW (d a b : Fin 32) (s : State) : Host.Outcome State Fault Refusal :=
  alu (.divnW d a b) d a b true (wform opDivn) s

/-- REM.W (R163, R164). -/
def execRemW (d a b : Fin 32) (s : State) : Host.Outcome State Fault Refusal :=
  alu (.remW d a b) d a b true (wform opRem) s

/-- REMN.W (R163, R164). -/
def execRemnW (d a b : Fin 32) (s : State) : Host.Outcome State Fault Refusal :=
  alu (.remnW d a b) d a b true (wform opRemn) s

/-- SLL.W (R163). -/
def execSllW (d a b : Fin 32) (s : State) : Host.Outcome State Fault Refusal :=
  alu (.sllW d a b) d a b false (wform opSll) s

/-- SRL.W (R163). -/
def execSrlW (d a b : Fin 32) (s : State) : Host.Outcome State Fault Refusal :=
  alu (.srlW d a b) d a b false (wform opSrl) s

/-- SRA.W (R163). -/
def execSraW (d a b : Fin 32) (s : State) : Host.Outcome State Fault Refusal :=
  alu (.sraW d a b) d a b false (wform opSra) s

/-- ROR.W (R163). -/
def execRorW (d a b : Fin 32) (s : State) : Host.Outcome State Fault Refusal :=
  alu (.rorW d a b) d a b false (wform opRor) s

/-- MIN.W (R163). -/
def execMinW (d a b : Fin 32) (s : State) : Host.Outcome State Fault Refusal :=
  alu (.minW d a b) d a b false (wform opMin) s

/-- MAX.W (R163). -/
def execMaxW (d a b : Fin 32) (s : State) : Host.Outcome State Fault Refusal :=
  alu (.maxW d a b) d a b false (wform opMax) s

/-- MINN.W (R163). -/
def execMinnW (d a b : Fin 32) (s : State) : Host.Outcome State Fault Refusal :=
  alu (.minnW d a b) d a b false (wform opMinn) s

/-- MAXN.W (R163). -/
def execMaxnW (d a b : Fin 32) (s : State) : Host.Outcome State Fault Refusal :=
  alu (.maxnW d a b) d a b false (wform opMaxn) s

/-- SLT.W (R163). -/
def execSltW (d a b : Fin 32) (s : State) : Host.Outcome State Fault Refusal :=
  alu (.sltW d a b) d a b false (wform opSlt) s

/-- SLTN.W (R163). -/
def execSltnW (d a b : Fin 32) (s : State) : Host.Outcome State Fault Refusal :=
  alu (.sltnW d a b) d a b false (wform opSltn) s

/-! ## Immediate forms (R166 to R168) -/

/-- ADDI (R166). -/
def execAddi (d a : Fin 32) (i : BitVec 15) (s : State) : Host.Outcome State Fault Refusal :=
  alu1 (.addi d a i) d a (fun x => opAdd x (i.signExtend 64)) s

/-- ANDI (R166). -/
def execAndi (d a : Fin 32) (i : BitVec 15) (s : State) : Host.Outcome State Fault Refusal :=
  alu1 (.andi d a i) d a (fun x => opAnd x (i.setWidth 64)) s

/-- ORI (R166). -/
def execOri (d a : Fin 32) (i : BitVec 15) (s : State) : Host.Outcome State Fault Refusal :=
  alu1 (.ori d a i) d a (fun x => opOr x (i.setWidth 64)) s

/-- XORI (R166). -/
def execXori (d a : Fin 32) (i : BitVec 15) (s : State) : Host.Outcome State Fault Refusal :=
  alu1 (.xori d a i) d a (fun x => opXor x (i.setWidth 64)) s

/-- SLTI (R166). -/
def execSlti (d a : Fin 32) (i : BitVec 15) (s : State) : Host.Outcome State Fault Refusal :=
  alu1 (.slti d a i) d a (fun x => opSlt x (i.signExtend 64)) s

/-- SLTNI (R166). -/
def execSltni (d a : Fin 32) (i : BitVec 15) (s : State) : Host.Outcome State Fault Refusal :=
  alu1 (.sltni d a i) d a (fun x => opSltn x (i.signExtend 64)) s

/-- SLLI (R167). -/
def execSlli (d a : Fin 32) (n : Fin 64) (s : State) : Host.Outcome State Fault Refusal :=
  alu1 (.slli d a n) d a (fun x => opSll x (BitVec.ofNat 64 n.val)) s

/-- SRLI (R167). -/
def execSrli (d a : Fin 32) (n : Fin 64) (s : State) : Host.Outcome State Fault Refusal :=
  alu1 (.srli d a n) d a (fun x => opSrl x (BitVec.ofNat 64 n.val)) s

/-- SRAI (R167). -/
def execSrai (d a : Fin 32) (n : Fin 64) (s : State) : Host.Outcome State Fault Refusal :=
  alu1 (.srai d a n) d a (fun x => opSra x (BitVec.ofNat 64 n.val)) s

/-- RORI (R167). -/
def execRori (d a : Fin 32) (n : Fin 64) (s : State) : Host.Outcome State Fault Refusal :=
  alu1 (.rori d a n) d a (fun x => opRor x (BitVec.ofNat 64 n.val)) s

/-- SLLI.W (R167). -/
def execSlliW (d a : Fin 32) (n : Fin 32) (s : State) : Host.Outcome State Fault Refusal :=
  alu1 (.slliW d a n) d a (fun x => wform opSll x (BitVec.ofNat 64 n.val)) s

/-- SRLI.W (R167). -/
def execSrliW (d a : Fin 32) (n : Fin 32) (s : State) : Host.Outcome State Fault Refusal :=
  alu1 (.srliW d a n) d a (fun x => wform opSrl x (BitVec.ofNat 64 n.val)) s

/-- SRAI.W (R167). -/
def execSraiW (d a : Fin 32) (n : Fin 32) (s : State) : Host.Outcome State Fault Refusal :=
  alu1 (.sraiW d a n) d a (fun x => wform opSra x (BitVec.ofNat 64 n.val)) s

/-- RORI.W (R167). -/
def execRoriW (d a : Fin 32) (n : Fin 32) (s : State) : Host.Outcome State Fault Refusal :=
  alu1 (.roriW d a n) d a (fun x => wform opRor x (BitVec.ofNat 64 n.val)) s

/-- A result that no register source enters. -/
def alu0 (i : Instr) (d : Fin 32) (f : Thread → Word) (s : State) : Host.Outcome State Fault Refusal :=
  issue i false 0 s fun w => do
    s.chkOps w i
    let s ← s.putG w d (f (s.th w))
    .ok (s.retire w i)

/-- imm20 sign-extended and multiplied by 2^15 (R168). -/
def hiImm (i : BitVec 20) : Word := i.signExtend 64 <<< 15

/-- LUI (R168). -/
def execLui (d : Fin 32) (i : BitVec 20) (s : State) : Host.Outcome State Fault Refusal := alu0 (.lui d i) d (fun _ => hiImm i) s

/-- AUIPC (R168). -/
def execAuipc (d : Fin 32) (i : BitVec 20) (s : State) : Host.Outcome State Fault Refusal := alu0 (.auipc d i) d (fun t => t.pc + hiImm i) s

/-! ## Bit operations (R169, R170) -/

/-- Zero bits from bit `n` − 1 down. -/
def leadingZeros (x : Nat) : Nat → Nat
  | 0 => 0
  | n + 1 => if bitAt x n then 0 else 1 + leadingZeros x n

/-- Zero bits from bit `i` up, looking at `fuel` bits. -/
def trailingZeros (x i : Nat) : Nat → Nat
  | 0 => 0
  | f + 1 => if bitAt x i then 0 else 1 + trailingZeros x (i + 1) f

/-- The low `n` bits of `x` in reverse order. -/
def reverseBits (x : Nat) : Nat → Nat
  | 0 => 0
  | n + 1 => 2 * reverseBits x n + b2n (bitAt x n)

def bitsClz (x : Word) : Word := BitVec.ofNat 64 (leadingZeros x.toNat 64)
def bitsCtz (x : Word) : Word := BitVec.ofNat 64 (trailingZeros x.toNat 0 64)
def bitsPopc (x : Word) : Word := BitVec.ofNat 64 (popCount x.toNat 64)
/-- Bit i of the result is bit 63 − i of the source. -/
def bitsBrev (x : Word) : Word := BitVec.ofNat 64 (reverseBits x.toNat 64)
/-- Byte j of the result is byte 7 − j of the source. -/
def bitsBswap (x : Word) : Word := wordOf (bytesOf 8 x.toNat).reverse

/-- CLZ (R169). -/
def execClz (d a : Fin 32) (s : State) : Host.Outcome State Fault Refusal := alu1 (.clz d a) d a bitsClz s

/-- CTZ (R169). -/
def execCtz (d a : Fin 32) (s : State) : Host.Outcome State Fault Refusal := alu1 (.ctz d a) d a bitsCtz s

/-- POPC (R169). -/
def execPopc (d a : Fin 32) (s : State) : Host.Outcome State Fault Refusal := alu1 (.popc d a) d a bitsPopc s

/-- BREV (R169). -/
def execBrev (d a : Fin 32) (s : State) : Host.Outcome State Fault Refusal := alu1 (.brev d a) d a bitsBrev s

/-- BSWAP (R169). -/
def execBswap (d a : Fin 32) (s : State) : Host.Outcome State Fault Refusal := alu1 (.bswap d a) d a bitsBswap s

/-- Position and width of the field that g(b) describes (R170). -/
def fieldPos (y : Word) : Nat := bits y.toNat 5 0
def fieldLen (y : Word) : Nat := bits y.toNat 14 8

/-- BitField of R170. -/
def bitField (x : Word) (p l : Nat) : Nat := x.toNat / 2 ^ p % 2 ^ min l 64

def opBfx (x y : Word) : Word := if fieldLen y = 0 then 0 else toWord (sext (min (fieldLen y) 64) (bitField x (fieldPos y) (fieldLen y)))
def opBfxn (x y : Word) : Word := BitVec.ofNat 64 (bitField x (fieldPos y) (fieldLen y))

/-- BFI of R170: bits of the field above bit 63 are discarded. -/
def opBfi (x y z : Word) : Word :=
  let p := fieldPos y
  let l := min (fieldLen y) (64 - p)
  BitVec.ofNat 64 (z.toNat % 2 ^ p + x.toNat % 2 ^ l * 2 ^ p + z.toNat / 2 ^ (p + l) * 2 ^ (p + l))

/-- BFX (R170). -/
def execBfx (d a b : Fin 32) (s : State) : Host.Outcome State Fault Refusal := alu (.bfx d a b) d a b false opBfx s

/-- BFXN (R170). -/
def execBfxn (d a b : Fin 32) (s : State) : Host.Outcome State Fault Refusal := alu (.bfxn d a b) d a b false opBfxn s

/-- BFI (R170): d is read after a and b. -/
def execBfi (d a b : Fin 32) (s : State) : Host.Outcome State Fault Refusal :=
  let i := Instr.bfi d a b
  issue i false 0 s fun w => do
    s.chkOps w i
    let (x, y, s) ← s.read2 w a b
    let (z, s) ← s.readG w d
    let s ← s.putG w d (opBfi x y z)
    .ok (s.retire w i)

/-! ## Message headers (R171 to R173) -/

/-- Position and width of field `k` of layout `n` of a core (Table 7.2). -/
def layoutField (k : Core) (n j : Nat) : Nat × Nat :=
  let d := (k.layout.toList.getD (8 * n + j) 0).toNat
  (bits d 5 0, bits d 10 6)

/-- Slot(k, X, Y) of R173. -/
def headerSlot (j x y : Nat) : Nat := if j < 4 then bits x (16 * j + 15) (16 * j) else bits y (16 * (j - 4) + 15) (16 * (j - 4))

/-- Bits `p` to `p + w` − 1 of `h` replaced by the low `w` bits of `v`. -/
def putBits (h p w v : Nat) : Nat := h % 2 ^ p + v % 2 ^ w * 2 ^ p + h / 2 ^ (p + w) * 2 ^ (p + w)

/-- The header word of HPACK; later fields overwrite earlier ones (R173). -/
def hpack (k : Core) (n x y : Nat) : Nat :=
  (List.range 8).foldl (fun h j => let (p, w) := layoutField k n j; if w = 0 then h else putBits h p w (headerSlot j x y)) 0

/-- Field `j` of a header word, 0 where absent (R173). -/
def hfield (k : Core) (n h j : Nat) : Nat := let (p, w) := layoutField k n j; h / 2 ^ p % 2 ^ w

/-- Four 16-bit slots in one word. -/
def slots4 (f : Nat → Nat) : Nat := f 0 % 2 ^ 16 + f 1 % 2 ^ 16 * 2 ^ 16 + f 2 % 2 ^ 16 * 2 ^ 32 + f 3 % 2 ^ 16 * 2 ^ 48

/-- HPACK (R173). -/
def execHpack (d a b : Fin 32) (n : Fin 8) (s : State) : Host.Outcome State Fault Refusal :=
  alu (.hpack d a b n) d a b false (fun x y => BitVec.ofNat 64 (hpack (s.core s.who.core) n.val x.toNat y.toNat)) s

/-- HPARSE: writes g(d), then g(b) (R173). -/
def execHparse (d a b : Fin 32) (n : Fin 8) (s : State) : Host.Outcome State Fault Refusal :=
  let i := Instr.hparse d a b n
  issue i false 0 s fun w => do
    s.chkOps w i
    let (x, s) ← s.readG w a
    let k := s.core w.core
    let s ← s.putG w d (BitVec.ofNat 64 (slots4 fun j => hfield k n.val x.toNat j))
    let s ← s.putG w b (BitVec.ofNat 64 (slots4 fun j => hfield k n.val x.toNat (j + 4)))
    .ok (s.retire w i)

/-- HLTW: the system slot writes one field descriptor; a bad operand is an illegal-instruction fault (R172). -/
def execHltw (a b : Fin 32) (s : State) : Host.Outcome State Fault Refusal :=
  let i := Instr.hltw a b
  issue i true 0 s fun w => do
    s.chkOps w i
    let (x, y, s) ← s.read2 w a b
    let p := bits y.toNat 5 0
    let l := bits y.toNat 10 6
    failIf (decide (64 ≤ x.toNat) || decide (2 ^ 11 ≤ y.toNat) || decide (16 < l) || decide (64 < p + l)) 0x01 (encodeWord i)
    let s := s.updCore w.core fun k => { k with layout := k.layout.set (x.toNat % 64) (y.setWidth 16), layoutDirty := true }
    .ok (s.retire w i)

/-! ## Predicates and select (R174 to R177) -/

/-- PCMP (R174). -/
def execPcmp (d : Fin 16) (a b : Fin 32) (c : Cond) (s : State) : Host.Outcome State Fault Refusal :=
  let i := Instr.pcmp d a b c
  issue i false 0 s fun w => do
    s.chkOps w i
    let (x, y, s) ← s.read2 w a b
    .ok ((s.writeP w d (c.holds x y)).retire w i)

/-- PCMPI (R174). -/
def execPcmpi (d : Fin 16) (a : Fin 32) (c : Cond) (v : BitVec 12) (s : State) : Host.Outcome State Fault Refusal :=
  let i := Instr.pcmpi d a c v
  issue i false 0 s fun w => do
    s.chkOps w i
    let (x, s) ← s.readG w a
    .ok ((s.writeP w d (c.holds x (v.signExtend 64))).retire w i)

/-- PLOG (R175). -/
def execPlog (d a b : Fin 16) (o : PLogOp) (s : State) : Host.Outcome State Fault Refusal :=
  let i := Instr.plog d a b o
  issue i false 0 s fun w => .ok ((s.writeP w d (o.eval (s.readP w a) (s.readP w b))).retire w i)

/-- PTOG (R175). -/
def execPtog (d : Fin 32) (s : State) : Host.Outcome State Fault Refusal :=
  alu0 (.ptog d) d (fun t => t.predWord.setWidth 64) s

/-- GTOP: p1 to p15 in one step; bit 0 is ignored (R175). -/
def execGtop (a : Fin 32) (s : State) : Host.Outcome State Fault Refusal :=
  let i := Instr.gtop a
  issue i false 0 s fun w => do
    s.chkOps w i
    let (x, s) ← s.readG w a
    .ok ((s.updTh w fun t => { t with p := x.setWidth 16 &&& 0xFFFE#16 }).retire w i)

/-- SEL: both sources are read (R176). -/
def execSel (d a b : Fin 32) (p : Fin 16) (s : State) : Host.Outcome State Fault Refusal :=
  alu (.sel d a b p) d a b false (fun x y => if s.readP s.who p then x else y) s

end Sys2Proof.Machine
end

