-- ==== Sys2Proof/Machine/Message.lean ====
section
/-! DEFINITION. The sending and receiving instructions, VTSET, GVTRD and CMTW (R210 to R216). -/

namespace Sys2Proof.Machine

/-! ## Sending (R210 to R213) -/

/-- The class of a sending form (Table 8.6). -/
inductive SendForm | ord | fifo | host
deriving DecidableEq, Repr

/-- The next SEQ of a slot's task; a codelet draws from the counter of the task that spawned or armed it (R66, R211). -/
def State.seqOf (s : State) (w : Who) : Nat := ((s.task? (s.at w).task).map Task.seq).getD 0

/-- Whether a task's newest epoch already holds sixteen output-log entries (R78). -/
def State.logFull (s : State) (w : Who) : Bool :=
  match s.task? (s.at w).task with
  | some t => (match t.epochs.getLast? with | some e => decide (16 ≤ e.log.length) | none => false)
  | none => false

/-- Send of R211, after the operands are read: `dest`, `delay` and the payload. -/
def State.send (s0 s : State) (w : Who) (i : Instr) (f : SendForm) (dest : Word) (delay : Nat) (payload : List Byte) : M State := do
  let x := s.at w
  let vt := x.th.lvt.toNat + delay
  let seq := s.seqOf w
  let m : Msg := ⟨vt, x.task.wid, dest, x.task.launch, seq, false, f == .ord && s.spec w, f == .fifo, 0, s.colour, payload⟩
  let h : HostMsg := ⟨x.task.launch, vt, dest, x.task.wid, s.colour, payload⟩
  let bump (s : State) : State := s.updTask x.task fun t => { t with seq := seq + 1 }
  match f with
  | .ord =>
    let s := bump s
    let s := if m.tent then s.updTask x.task fun t =>
        { t with epochs := updLast (fun e => { e with log := e.log ++ [⟨dest, vt, x.task.wid, seq⟩] }) t.epochs } else s
    .ok ((s.sendMsg m).retireVar w i)
  | .fifo =>
    if s.history w then do
      let s ← s0.hold s w i (.send m)
      .ok ((bump s).retireVar w i)
    else .ok (((bump s).sendMsg m).retireVar w i)
  | .host =>
    if s.history w then do
      let s ← s0.hold s w i (.host h)
      .ok ((bump s).retireVar w i)
    else .ok ((((bump s).countSent x.task.launch s.colour 1).post [.hostMessageWrite h]).retireVar w i)

/-- The illegal-instruction conditions of a send, as far as its delay operand can be read (R66, R211). -/
def State.sendCheck (s : State) (w : Who) (i : Instr) (f : SendForm) (delay : Option Word) : M Unit :=
  let x := s.at w
  failIf ((match delay with | some d => d == 0 || decide (2 ^ 64 - 2 < x.th.lvt.toNat + d.toNat) | none => false)
    || s.seqOf w == 2 ^ 32 - 1 || (f == .ord && x.th.codelet)) 0x01 (encodeWord i)

/-- Its unsaved-state conditions (R64, R78). -/
def State.sendSaved (s : State) (w : Who) (i : Instr) (f : SendForm) : M Unit := do
  s.chkBound w i
  failIf (f == .ord && s.spec w && s.logFull w) 0x08 (encodeWord i)

/-- The delay operand, where it can be read: the conditions on it rank before those of the other operands (Table 4.1). -/
def State.delayOf (s : State) (w : Who) (a b : Fin 32) : Option Word :=
  let s := match s.readG w a with
    | .ok (_, s) => s
    | .error _ => s
  match s.readG w b with
  | .ok (x, _) => some x
  | .error _ => none

/-- SEND, SEND.F and SEND.H: 32 bytes from g(d) to g(d + 3) (R210). -/
def sendRegs (i : Instr) (f : SendForm) (d a b : Fin 32) (s0 : State) : Host.Outcome State Fault Refusal :=
  issue i false 0 s0 fun w => do
    failIf (decide (28 < d.val)) 0x01 (encodeWord i)
    s0.sendCheck w i f (s0.delayOf w a b)
    s0.sendSaved w i f
    s0.chkCb w i
    let (dest, delay, s) ← s0.read2 w a b
    let (vs, s) ← s.readRun w d 4
    s0.send s w i f dest delay.toNat (vs.flatMap fun v => bytesOf 8 v.toNat)

/-- Destination, delay and source address of a SENDL, in that order (R210). -/
def State.read3 (s : State) (w : Who) (a b d : Fin 32) : M (Word × Word × Word × State) := do
  let (x, y, s) ← s.read2 w a b
  let (z, s) ← s.readG w d
  .ok (x, y, z, s)

/-- SENDL and SENDL.F: n × 32 bytes of local memory at g(d) (R210). -/
def sendLocal (i : Instr) (f : SendForm) (d a b : Fin 32) (n : Nat) (s0 : State) : Host.Outcome State Fault Refusal :=
  issue i false 0 s0 fun w => do
    s0.sendCheck w i f (s0.delayOf w a b)
    s0.sendSaved w i f
    let (dest, delay, src, s) ← (s0.read3 w a b d).waitsAfter (s0.chkCb w i)
    failIf (src.toNat % 32 != 0) 0x05 src
    s0.chkCb w i
    let l ← s.localSource w src.toNat (32 * n) 32
    s0.send (s.noteSpan w l (32 * n)) w i f dest delay.toNat (s.readLoc l (32 * n))

/-- SEND (R211). -/
def execSend (d a b : Fin 32) (s : State) : Host.Outcome State Fault Refusal := sendRegs (.send d a b) .ord d a b s

/-- SEND.F (R211). -/
def execSendF (d a b : Fin 32) (s : State) : Host.Outcome State Fault Refusal := sendRegs (.sendF d a b) .fifo d a b s

/-- SEND.H (R211). -/
def execSendH (d a b : Fin 32) (s : State) : Host.Outcome State Fault Refusal := sendRegs (.sendH d a b) .host d a b s

/-- SENDL; the operand code n stands for n + 1 units (R210). -/
def execSendl (d a b : Fin 32) (n : Fin 8) (s : State) : Host.Outcome State Fault Refusal :=
  sendLocal (.sendl d a b n) .ord d a b (n.val + 1) s

/-- SENDL.F (R210). -/
def execSendlF (d a b : Fin 32) (n : Fin 8) (s : State) : Host.Outcome State Fault Refusal :=
  sendLocal (.sendlF d a b n) .fifo d a b (n.val + 1) s

/-! ## Receiving (R214, R215) -/

/-- The status word of a delivery (R214). -/
def deliverStatus (m : Msg) : Word := BitVec.ofNat 64 (1 + 2 * (m.kind % 8) + 16 * (m.plen % 8))

/-- Header and payload of a message as they are written to the receive area (R214). -/
def msgBytes (m : Msg) : List Byte := m.header ++ m.payload

/-- The state window's conditions on a speculative dequeue (R76). -/
def State.windowOk (s : State) (w : Who) : Bool :=
  let t := s.th w
  let b := t.stwb.toNat
  let n := t.stwl.toNat
  let (_, gb, gl) := s.grant w
  b % 32 == 0 && n % 32 == 0 && decide (n ≤ 2 ^ 16) &&
    (n == 0 || (inLocal b && bits b 47 20 == 0 && decide (gb ≤ b % 2 ^ 20 ∧ b % 2 ^ 20 + n ≤ gb + gl)))

/-- lvt after a dequeue (R69). -/
def dequeueLvt (mode : IMode) (lvt : Word) (vt : Nat) : Word :=
  match mode with
  | .fifo => if lvt.toNat < vt then BitVec.ofNat 64 vt else lvt
  | _ => BitVec.ofNat 64 vt

/-- A message written to the receive area, lvt and the status written, in the order of R214. -/
def State.handOver (s : State) (w : Who) (i : Instr) (d : Fin 32) (l : Loc) (m : Msg) (lvt : Word) : State :=
  let s := match l with
    | .loc c off => (s.noteSpan w l (msgBytes m).length).localStore w c off (msgBytes m)
    | .mem _ => s
  ((s.updTh w fun t => { t with lvt := lvt }).writeG w d (deliverStatus m)).retireVar w i

/-- RECV and RECVP in their message form (R71, R77, R214). -/
def recvBody (i : Instr) (d a : Fin 32) (poll : Bool) (w : Who) (s0 : State) : M State := do
  s0.chkBound w i
  let (va, s) ← (s0.readG w a).waitsAfter (s0.chkCb w i)
  failIf (va.toNat % 32 != 0) 0x05 va
  s0.chkCb w i
  let l ← s.localArea w va.toNat 288 32
  s.chkDst w d
  let x := s.at w
  if x.th.codelet then (if poll then .ok ((s.writeG w d 0).retireVar w i) else fail 0x0D (encodeWord i))
  else
    let none' : M State := if poll then .ok ((s.writeG w d 0).retireVar w i) else .error (.park .recv)
    match s.task? x.task with
    | none => none'
    | some t =>
      let lvtOf (m : Msg) := dequeueLvt t.imode x.th.lvt m.vt
      let take (s : State) (q : InMsg) : State :=
        s.updTask t.id fun y => { y with inbox := delFirst (fun z => z == q) y.inbox, lastKey := some q.msg.key }
      match pick t.imode (s.gvtOf t.id.launch) (s.hznOf t.id.launch) x.th.vtwin.toNat t.inbox with
      | none => none'
      | some (q, false) =>
        let s := ((take s q).updTask t.id fun y => { y with epochs := [] }).refill w.core
        .ok (s.handOver w i d l q.msg (lvtOf q.msg))
      | some (q, true) =>
        failIf (!s.windowOk w || !inWindow x.th va.toNat 288) 0x08 (encodeWord i)
        if s.reserves w.core t x.th.stwl.toNat then
          let s := take s q
          let s := s.updTask t.id fun y => { y with epochs := y.epochs ++ [⟨q.msg, s0.th w, [], [], t.lastKey, q.region⟩] }
          .ok (s.handOver w i d l q.msg (lvtOf q.msg))
        else none'

/-- RECV.N and RECVP.N: the oldest notice; a notice leaves lvt as it is, since its VT has no meaning (R68, R214). -/
def recvNBody (i : Instr) (d a : Fin 32) (poll : Bool) (w : Who) (s0 : State) : M State := do
  s0.chkBound w i
  failIf (s0.history w) 0x08 (encodeWord i)
  let (va, s) ← (s0.readG w a).waitsAfter (s0.chkCb w i)
  failIf (va.toNat % 32 != 0) 0x05 va
  s0.chkCb w i
  let l ← s.localArea w va.toNat 288 32
  s.chkDst w d
  let x := s.at w
  if x.th.codelet then (if poll then .ok ((s.writeG w d 0).retireVar w i) else fail 0x0D (encodeWord i))
  else
    match (s.task? x.task).map Task.notices with
    | some (q :: rest) =>
      let s := (s.updTask x.task fun y => { y with notices := rest }).refill w.core
      .ok (s.handOver w i d l q.msg x.th.lvt)
    | _ => if poll then .ok ((s.writeG w d 0).retireVar w i) else .error (.park .recvN)

/-- The capability group of a RECV or RECVP: VTO for an OPTIMISTIC task, else BASE (R215). -/
def State.recvGroup (s : State) : Nat := if (s.th s.who).imode = .optimistic then 5 else 0

/-- RECV (R214). -/
def execRecv (d a : Fin 32) (s : State) : Host.Outcome State Fault Refusal :=
  issue (.recv d a) false s.recvGroup s fun w => recvBody (.recv d a) d a false w s

/-- RECVP (R214). -/
def execRecvp (d a : Fin 32) (s : State) : Host.Outcome State Fault Refusal :=
  issue (.recvp d a) false s.recvGroup s fun w => recvBody (.recvp d a) d a true w s

/-- RECV.N (R214). -/
def execRecvN (d a : Fin 32) (s : State) : Host.Outcome State Fault Refusal :=
  issue (.recvN d a) false 0 s fun w => recvNBody (.recvN d a) d a false w s

/-- RECVP.N (R214). -/
def execRecvpN (d a : Fin 32) (s : State) : Host.Outcome State Fault Refusal :=
  issue (.recvpN d a) false 0 s fun w => recvNBody (.recvpN d a) d a true w s

/-! ## VTSET, GVTRD, CMTW (R216) -/

/-- VTSET: lvt := Max(lvt, g(a)). -/
def execVtset (a : Fin 32) (s : State) : Host.Outcome State Fault Refusal :=
  let i := Instr.vtset a
  issue i false 0 s fun w => do
    s.chkOps w i
    let (x, s) ← s.readG w a
    .ok ((s.updTh w fun t => { t with lvt := if t.lvt.toNat < x.toNat then x else t.lvt }).retireVar w i)

/-- GVTRD: GVT to g(d), HZN to g(d + 1). -/
def execGvtrd (d : Fin 32) (s : State) : Host.Outcome State Fault Refusal :=
  let i := Instr.gvtrd d
  issue i false 0 s fun w => do
    failIf (d == 31) 0x01 (encodeWord i)
    s.chkOps w i
    let x := s.at w
    let (g, h) := if x.launched then (s.gvtOf x.task.launch, s.hznOf x.task.launch) else (2 ^ 64 - 1, 2 ^ 64 - 1)
    let s ← s.putG w d (BitVec.ofNat 64 g)
    let s ← s.putG w (d + 1) (BitVec.ofNat 64 h)
    .ok (s.retireVar w i)

/-- CMTW: synchronising; completes once GVT > lvt and no epoch or commit-queue entry of the task is left. A thread with no directory entry
holds no history. -/
def execCmtw (s : State) : Host.Outcome State Fault Refusal :=
  issue .cmtw false 0 s fun w => do
    s.sync w
    if (s.at w).isTask && !s.clear w then .error (.busy .history) else .ok (s.retireVar w .cmtw)

end Sys2Proof.Machine
end

