-- ==== Sys2Proof/Machine/Plinth.lean ====
section
/-! DEFINITION. The Plinth and the package's surroundings: boot, the SPDM responder, power, links, memory scrubbing and level samples
(R361 to R366, R369, R380, R381, R384, R389, R394, R396). -/

namespace Sys2Proof.Machine

/-! ## Boot (R364, R369) -/

/-- A core as the compute dies are released: the system slot runs the firmware from its entry with zero registers, HSLOT is 15. -/
def bootCore : Core :=
  { Core.reset with hslot := 15,
                    slots := Core.reset.slots.set 15 { Slot.reset with st := .run, th := { Thread.zero with pc := Config.firmwareEntry } } }

/-- BOOTST: STEP, FAIL and CODE (Table 15.10). -/
def bootWord (step : Nat) (fail : Option Nat) : Word :=
  BitVec.ofNat 64 (step % 8 + (match fail with | some c => 8 + c % 256 * 2 ^ 8 | none => 0))

/-- The measurements that the steps before `step` took (Table 15.10). -/
def measuresBefore (step : Nat) : List (Nat × Nat) :=
  ((List.range 5).filterMap fun k =>
    let taken := if k < 4 then k + 1 < step else 4 < step
    if taken then some (k + 1, Config.measurement (k + 1)) else none)

/-- Step 4 done: the firmware image and the ASID-0 tables placed, ASCBASE set, and the compute dies released. UCIe modules train, and each system slot
waits for its first fetch, which no memory answers before step 5 is done (R364, R369). -/
def State.released (s : State) : State :=
  let waits (k : Core) : Core := { k with slots := k.slots.set 15 { k.slots[15] with st := .busy, busy := .fetch } }
  { s with regs := { s.regs with ascbase := Config.firmwareAscBase },
           mem := Config.firmwareImage.foldl (fun m (a, b) => Mem.set m a b) [],
           cores := (List.range 1536).map fun c => (c, waits bootCore), links := (List.range 32).map fun n => (n, { Link.reset with st := 1 }) }

/-- Step 5 done: every granule but the firmware's, which step 4 placed, is zero, and the cores' fetches are answered (R364, R369). -/
def State.booted (s : State) : State := { s with cores := (List.range 1536).map fun c => (c, bootCore) }

/-- The step that the boot has begun (Table 15.10). -/
def State.bootStep (s : State) : Nat := bits s.regs.bootst.toNat 2 0

/-- The boot goes on: the step under way fails, or it is done, with its measurement and its effect, and the next begins (R364). -/
def State.bootNext (s : State) : State :=
  let k := s.bootStep
  match s.bootFail with
  | some f =>
    if f.step % 8 = k then { s with regs := { s.regs with bootst := bootWord k (some f.code) } } else go s k
  | none => go s k
where
  /-- A step done and the next begun. -/
  go (s : State) (k : Nat) : State :=
    let s := if k = 4 then s.released else if k = 5 then s.booted else s
    { s with regs := { s.regs with bootst := bootWord (k + 1) none }, measures := measuresBefore (k + 1) }

/-- The package with power just applied; a free value is still read once only. -/
def State.powerUp (s : State) : State := { State.reset with free := s.free }

/-- The boot begins with its first step. -/
def State.boot (s : State) (fail : Option BootFail) : State :=
  { s.powerUp with regs := { Regs.reset with bootst := bootWord 1 none }, bootFail := fail }

/-- POWER_ON (R364): where power is off or the boot has not begun. -/
def execPowerOn (s : State) : Host.Outcome State Fault Refusal :=
  takeEvent s fun e => match e with
    | .powerOn fail => some fun s => if s.powered && s.regs.bootst != 0 then s else s.boot fail
    | _ => none

/-- Power gone from every compute die: all that they held is lost. -/
def State.powerDown (s : State) : State := { s.powerUp with powered := false }

/-- THERMAL_SHUTDOWN (R381). -/
def execThermalShutdown (s : State) : Host.Outcome State Fault Refusal :=
  takeEvent s fun e => match e with | .thermalShutdown => some State.powerDown | _ => none

/-- POWER_REMOVAL (R365). -/
def execPowerRemoval (s : State) : Host.Outcome State Fault Refusal :=
  takeEvent s fun e => match e with | .powerRemoval => some State.powerDown | _ => none

/-! ## The SPDM responder (R365, R366) -/

/-- An answer left on the DOE mailbox, which is alive from boot step 3 on (R364). -/
def State.respond (s : State) (r : SpdmResp) : State := if s.powered && decide (3 ≤ s.bootStep) then { s with spdm := some r } else s

/-- The algorithm bits of SPDM for ECDSA with P-384 and for SHA-384. -/
def asymP384 : Nat := 7
def hashSha384 : Nat := 1

/-- The certificate chain of slot 0 from an offset. -/
def certPart (certSlot off len : Nat) : SpdmResp :=
  if certSlot = 0 then .certificate ((Config.certificate.drop off).take len) else .error

/-- The measurements an index asks for: 0xFF all of them, 0 how many there are, else one block. -/
def State.measured (s : State) (index : Nat) : SpdmResp :=
  if index = 0xFF then .measurements s.measures
  else if index = 0 then .measurements []
  else match s.measures.find? fun m => m.1 == index with
    | some m => .measurements [m]
    | none => .error

/-- GET_VERSION (R365). -/
def execGetVersion (s : State) : Host.Outcome State Fault Refusal :=
  takeEvent s fun e => match e with | .getVersion => some fun s => s.respond .version | _ => none

/-- GET_CAPABILITIES (R365). -/
def execGetCapabilities (s : State) : Host.Outcome State Fault Refusal :=
  takeEvent s fun e => match e with | .getCapabilities => some fun s => s.respond .capabilities | _ => none

/-- NEGOTIATE_ALGORITHMS: the requester offers ECDSA with P-384 and SHA-384, or gets an error (R365). -/
def execNegotiateAlgorithms (s : State) : Host.Outcome State Fault Refusal :=
  takeEvent s fun e => match e with
    | .negotiateAlgorithms asym hash => some fun s => s.respond (if bitAt asym asymP384 && bitAt hash hashSha384 then .algorithms else .error)
    | _ => none

/-- GET_DIGESTS (R365). -/
def execGetDigests (s : State) : Host.Outcome State Fault Refusal :=
  takeEvent s fun e => match e with | .getDigests => some fun s => s.respond (.digests Config.certificateDigest) | _ => none

/-- GET_CERTIFICATE (R365). -/
def execGetCertificate (s : State) : Host.Outcome State Fault Refusal :=
  takeEvent s fun e => match e with | .getCertificate c off len => some fun s => s.respond (certPart c off len) | _ => none

/-- CHALLENGE: signed with the device identity key (R365, R366). -/
def execChallenge (s : State) : Host.Outcome State Fault Refusal :=
  takeEvent s fun e => match e with | .challenge nonce => some fun s => s.respond (.challengeAuth (Config.challengeSignature nonce)) | _ => none

/-- GET_MEASUREMENTS (R365). -/
def execGetMeasurements (s : State) : Host.Outcome State Fault Refusal :=
  takeEvent s fun e => match e with | .getMeasurements index => some fun s => s.respond (s.measured index) | _ => none

/-! ## Power cap, links (R362, R363, R380, R394, R396) -/

/-- POWER_CAP_THROTTLE: the average power over the last millisecond, and whether it exceeds the limit; the hottest die temperature is a free value
(R380, Table 17.1). -/
def execPowerCapThrottle (s : State) : Host.Outcome State Fault Refusal :=
  takeEvent s fun e => match e with
    | .powerCapThrottle watts => some fun s =>
      { s with fleet := { s.fleet with pwrnow := BitVec.ofNat 64 (Config.temperature s.moment % 2 ^ 16 * 2 ^ 16 + min watts 0xFFFF) },
               throttled := decide (bits s.fleet.pwrcap.toNat 15 0 < watts) }
    | _ => none

def State.setLink (s : State) (n : Nat) (l : Link) : State := { s with links := s.links.put n l }

/-- A count that saturates at 32 bits. -/
def sat32 (n : Nat) : Nat := min n (2 ^ 32 - 1)

/-- The CRC failures and link-level retries that a link has counted since its last event (Tables 15.9, 17.5; log entry 57). -/
def State.linkErrors (s : State) (n : Nat) : State :=
  let l := s.link n
  s.setLink n { l with crcerr := sat32 (l.crcerr + Config.crcErrors s.moment n), llretry := sat32 (l.llretry + Config.linkRetries s.moment n) }

/-- Whether a compute die can be reached: it has a module that works, and has not been cut off since power-on (R362, R390). -/
def State.linked (s : State) (die : Nat) : Bool :=
  !s.cutDies.contains die && (List.range 4).any fun m => (s.link (4 * die + m)).up

/-- The launches with a thread on a die. -/
def State.launchesOnDie (s : State) (die : Nat) : List Nat :=
  ((s.cores.filter fun (c, _) => dieOf c == die).flatMap fun (c, _) => s.launchesOn c).dedup

/-- A UCIe module changes state: a record of type 0x30; a die thereby cut off is reported with type 0x31, its launches are stopped, and it stays
unusable (R362, R390). -/
def State.moduleState (s : State) (die module st : Nat) : State :=
  let s := s.linkErrors (4 * die + module)
  let l := s.link (4 * die + module)
  if l.st = st then s
  else
    let was := s.linked die
    let s := (s.setLink (4 * die + module) { l with st := st }).logError 0x30 0 0x7FF 0 die module 0xFFF 0
    if was && !s.linked die then
      (s.launchesOnDie die).foldl State.cpStop ({ s with cutDies := die :: s.cutDies }.logError 0x31 0 0x7FF 0 die 0 0xFFF 0)
    else s

/-- UCIE_MODULE_STATE_CHANGE (R362). -/
def execUcieModuleStateChange (s : State) : Host.Outcome State Fault Refusal :=
  takeEvent s fun e => match e with | .ucieModuleStateChange d m st => some fun s => s.moduleState d.val m.val st.val | _ => none

/-- An occurrence counted for a level source on a die; the longest period is 64 × 65,535 cycles. -/
def State.count (s : State) (src die : Nat) : State :=
  { s with counted := (src, die, s.gtime) :: s.counted.filter fun x => decide (s.gtime - x.2.2 ≤ 64 * 65535) }

/-- A request replayed on a link. It is executed once only, so nothing but the counts changes. -/
def State.replayed (s : State) (n : Nat) : State :=
  let s := s.linkErrors n
  let l := s.link n
  let s := s.setLink n { l with replay := sat32 (l.replay + 1) }
  if n < 32 then s.count 0x07 (n / 4) else s

/-- FABRIC_REPLAY (R363). -/
def execFabricReplay (s : State) : Host.Outcome State Fault Refusal :=
  takeEvent s fun e => match e with | .fabricReplay n => some fun s => s.replayed n.val | _ => none

/-- A block that leaves with a check code that does not match: its error record, and its launch is stopped (R387). -/
def State.blockBroken (s : State) (launch : Nat) : State := (s.logError 0x01 0x01 0x7FF 0 0 0 launch 0).report launch (checkReport 0x01 0)

/-- What waited for a Welsa port leaves: wire blocks, digests and sweep flits, lattice requests, writes of final blocks; buckets that waited for no
more retire (R298, R396). -/
def State.portUp (s : State) (p : Nat) : State :=
  let reqs := (s.latWait.filter fun x => x.1 == p).map fun x => Event.latticeRequestApply x.2.2
  let blocks := s.portWait.filter fun x => x.1 == p
  let s := { s with sentBlocks := s.sentBlocks ++ (blocks.map fun (x : Nat × Nat × Nat × WireBlock) => x.2.2.2).filter WireBlock.whole,
                    portWait := s.portWait.filter (fun (x : Nat × Nat × Nat × WireBlock) => x.1 != p),
                    sentFlits := s.sentFlits ++ ((s.flitWait.filter fun (x : Nat × Nat × SweepFlit) => x.1 == p).map fun (x : Nat × Nat × SweepFlit) => x.2.2),
                    flitWait := s.flitWait.filter (fun (x : Nat × Nat × SweepFlit) => x.1 != p),
                    latWait := s.latWait.filter fun (x : Nat × Nat × LatReq) => x.1 != p }.post reqs
  let s := (blocks.filter fun x => !x.2.2.2.whole).foldl (fun (s : State) x => s.blockBroken x.2.1) s
  (List.range 16).foldl (fun (s : State) r => s.retireBuckets r 64) s.resendDigests.lateBlocks

/-- A Welsa port changes state: a record of type 0x32 with the port; what waited for it leaves when it is up. -/
def State.portState (s : State) (p st peer : Nat) : State :=
  let s := s.linkErrors (32 + p)
  let l := s.link (32 + p)
  let new : Link := { l with st := st, peer := if st = 1 ∨ st = 2 then peer else l.peer }
  let s1 := s.setLink (32 + p) new
  if l.st = st then s1
  else if new.up then (s1.logHost 0x32 p).portUp p
  else s1.logHost 0x32 p

/-- WELSA_PORT_STATE_CHANGE (R394, R396). -/
def execWelsaPortStateChange (s : State) : Host.Outcome State Fault Refusal :=
  takeEvent s fun e => match e with | .welsaPortStateChange p st peer => some fun s => s.portState p.val st.val peer.val | _ => none

/-- Transfers that wait for a Welsa port: the launch of each, its port and since when. Blocks, lattice requests, sweep flits, engine commands,
buckets, and threads of launches that go on (R396). -/
def State.portWaits (s : State) : List (Nat × Nat × Nat) :=
  let cmd (q : QCmd) : Option (Nat × Nat × Nat) := q.away.map fun (p, t) => (q.task.launch, p, t)
  let thread (x : Slot) : Option (Nat × Nat × Nat) := match x.st, x.busy with
    | .busy, .port p => if x.launched && !s.stopped x.task.launch then some (x.task.launch, p, x.waitAt) else none
    | _, _ => none
  (s.portWait.map fun x => (x.2.1, x.1, x.2.2.1)) ++ (s.latWait.map fun x => (x.2.2.task.launch, x.1, x.2.1))
    ++ (s.flitWait.map fun x => (x.2.2.launch, x.1, x.2.1))
    ++ (s.cores.flatMap fun (_, k) => (k.copying ++ k.collq).filterMap cmd ++ k.slots.toList.filterMap thread)
    ++ s.buckets.filterMap fun b => b.away.map fun (p, t) => (b.cmd.task.launch, p, t)

/-- Whether a transfer that waits for port `q` since `t` has waited 2^24 cycles for port `p`. -/
def State.late (s : State) (p q t : Nat) : Bool := q == p && decide (2 ^ 24 ≤ s.gtime - t)

/-- The launches of the transfers that have waited 2^24 cycles for a port, one for each transfer. -/
def State.overdue (s : State) (p : Nat) : List Nat := (s.portWaits.filter fun x => s.late p x.2.1 x.2.2).map Prod.fst

/-- The digests that have waited 2^24 cycles for a port: they are of no launch. -/
def State.lateDigests (s : State) (p : Nat) : List (Nat × Nat × Nat × Word × Nat) :=
  s.heldDigests.filter fun m => match s.portTo m.1 with | some (q, _) => s.late p q m.2.2.2.2 | none => false

/-- The overdue transfers given up, those of engines and of the package; a thread's ends with its launch. -/
def State.dropLate (s : State) (p : Nat) : State :=
  let gone (a : Option (Nat × Nat)) : Bool := a.any fun x => s.late p x.1 x.2
  let digests := s.lateDigests p
  { s with portWait := s.portWait.filter (fun (x : Nat × Nat × Nat × WireBlock) => !s.late p x.1 x.2.2.1),
           latWait := s.latWait.filter (fun (x : Nat × Nat × LatReq) => !s.late p x.1 x.2.1),
           flitWait := s.flitWait.filter (fun (x : Nat × Nat × SweepFlit) => !s.late p x.1 x.2.1),
           heldDigests := s.heldDigests.filter (fun m => !digests.contains m),
           cores := s.cores.map (fun (c, k) => (c, { k with copying := k.copying.filter fun (q : QCmd) => !gone q.away, collq := k.collq.filter fun (q : QCmd) => !gone q.away })),
           buckets := s.buckets.filter fun (b : Bucket) => !gone b.away }

/-- A record of type 0x33 names the port for each overdue transfer, which is given up, and its launch is stopped. -/
def State.portTimeout (s : State) (p : Nat) : State :=
  let late := s.overdue p
  let digests := s.lateDigests p
  let s := s.dropLate p
  let s := late.foldl (fun (s : State) n => s.logError 0x33 0 0x7FF 0 0 0 n (BitVec.ofNat 64 p)) s
  let s := digests.foldl (fun (s : State) _ => s.logError 0x33 0 0x7FF 0 0 0 0xFFF (BitVec.ofNat 64 p)) s
  (late.dedup.filter fun n => !s.stopped n).foldl State.cpStop s

/-- WELSA_TRANSFER_TIMEOUT (R396). -/
def execWelsaTransferTimeout (s : State) : Host.Outcome State Fault Refusal :=
  takeEvent s fun e => match e with | .welsaTransferTimeout p => some fun s => s.portTimeout p.val | _ => none

/-! ## Scrubbing and level samples (R384, R389) -/

/-- The last granule of a pass over every stack. -/
def lastGranule : Nat := (7 * 2 ^ 36 + 48 * 2 ^ 30) / 32 - 1

/-- The scrubber reads and rewrites a granule. -/
def State.scrub (s : State) (g : Nat) (o : ScrubOutcome) : State :=
  if !s.fleet.scrubctl.getLsbD 0 || !populated (32 * g) then s
  else
    let s := match o with
      | .uncorrectable => { s with poison := if s.poison.contains g then s.poison else g :: s.poison }.logHost 0x02 (32 * g)
      | .corrected => (mismatch s g).count 0x09 (32 * g / 2 ^ 36)
      | .clean => mismatch s g
    if g = lastGranule then { s with fleet := { s.fleet with scrubcnt := BitVec.ofNat 64 ((s.fleet.scrubcnt.toNat + 1) % 2 ^ 32) } } else s
where
  /-- A granule whose check code does not match is poisoned, and a poisoned one reads as a mismatch (R387, R389). -/
  mismatch (s : State) (g : Nat) : State :=
    if s.badGranule g then
      { s with poison := if s.poison.contains g then s.poison else g :: s.poison }.logError 0x01 0x01 0x7FF 0 0 0 0xFFF (BitVec.ofNat 64 (32 * g))
    else s

/-- HBM_SCRUB (R389). -/
def execHbmScrub (s : State) : Host.Outcome State Fault Refusal :=
  takeEvent s fun e => match e with | .hbmScrub g o => some fun s => s.scrub g o | _ => none

/-- A level source's sample at the end of a period. -/
def State.levelSample (s : State) (die unit v : Nat) : State :=
  let u := s.capture die unit
  if u.en && decide (5 ≤ u.src ∧ u.src ≤ 9) then s.updCapture die unit fun u => u.record s.gtime v else s

/-- MONITOR_LEVEL_SAMPLE (R384). -/
def execMonitorLevelSample (s : State) : Host.Outcome State Fault Refusal :=
  takeEvent s fun e => match e with | .monitorLevelSample d u v => some fun s => s.levelSample d.val u.val v | _ => none

end Sys2Proof.Machine
end

