-- ==== Sys2Proof/Machine/Dispatch.lean ====
section
/-! DEFINITION. exec: one arm for each constructor of Instr, one direct call of its meaning. -/

namespace Sys2Proof.Machine

def exec (i : Instr) (s : State) : Host.Outcome State Fault Refusal :=
  match i with
  | .add d a b => Sys2Proof.Machine.execAdd d a b s
  | .sub d a b => Sys2Proof.Machine.execSub d a b s
  | .mul d a b => Sys2Proof.Machine.execMul d a b s
  | .mulh d a b => Sys2Proof.Machine.execMulh d a b s
  | .mulhn d a b => Sys2Proof.Machine.execMulhn d a b s
  | .div d a b => Sys2Proof.Machine.execDiv d a b s
  | .divn d a b => Sys2Proof.Machine.execDivn d a b s
  | .rem d a b => Sys2Proof.Machine.execRem d a b s
  | .remn d a b => Sys2Proof.Machine.execRemn d a b s
  | .and d a b => Sys2Proof.Machine.execAnd d a b s
  | .or d a b => Sys2Proof.Machine.execOr d a b s
  | .xor d a b => Sys2Proof.Machine.execXor d a b s
  | .andn d a b => Sys2Proof.Machine.execAndn d a b s
  | .orn d a b => Sys2Proof.Machine.execOrn d a b s
  | .sll d a b => Sys2Proof.Machine.execSll d a b s
  | .srl d a b => Sys2Proof.Machine.execSrl d a b s
  | .sra d a b => Sys2Proof.Machine.execSra d a b s
  | .ror d a b => Sys2Proof.Machine.execRor d a b s
  | .min d a b => Sys2Proof.Machine.execMin d a b s
  | .max d a b => Sys2Proof.Machine.execMax d a b s
  | .minn d a b => Sys2Proof.Machine.execMinn d a b s
  | .maxn d a b => Sys2Proof.Machine.execMaxn d a b s
  | .slt d a b => Sys2Proof.Machine.execSlt d a b s
  | .sltn d a b => Sys2Proof.Machine.execSltn d a b s
  | .addW d a b => Sys2Proof.Machine.execAddW d a b s
  | .subW d a b => Sys2Proof.Machine.execSubW d a b s
  | .mulW d a b => Sys2Proof.Machine.execMulW d a b s
  | .mulhW d a b => Sys2Proof.Machine.execMulhW d a b s
  | .mulhnW d a b => Sys2Proof.Machine.execMulhnW d a b s
  | .divW d a b => Sys2Proof.Machine.execDivW d a b s
  | .divnW d a b => Sys2Proof.Machine.execDivnW d a b s
  | .remW d a b => Sys2Proof.Machine.execRemW d a b s
  | .remnW d a b => Sys2Proof.Machine.execRemnW d a b s
  | .sllW d a b => Sys2Proof.Machine.execSllW d a b s
  | .srlW d a b => Sys2Proof.Machine.execSrlW d a b s
  | .sraW d a b => Sys2Proof.Machine.execSraW d a b s
  | .rorW d a b => Sys2Proof.Machine.execRorW d a b s
  | .minW d a b => Sys2Proof.Machine.execMinW d a b s
  | .maxW d a b => Sys2Proof.Machine.execMaxW d a b s
  | .minnW d a b => Sys2Proof.Machine.execMinnW d a b s
  | .maxnW d a b => Sys2Proof.Machine.execMaxnW d a b s
  | .sltW d a b => Sys2Proof.Machine.execSltW d a b s
  | .sltnW d a b => Sys2Proof.Machine.execSltnW d a b s
  | .addi d a v => Sys2Proof.Machine.execAddi d a v s
  | .andi d a v => Sys2Proof.Machine.execAndi d a v s
  | .ori d a v => Sys2Proof.Machine.execOri d a v s
  | .xori d a v => Sys2Proof.Machine.execXori d a v s
  | .slti d a v => Sys2Proof.Machine.execSlti d a v s
  | .sltni d a v => Sys2Proof.Machine.execSltni d a v s
  | .slli d a n => Sys2Proof.Machine.execSlli d a n s
  | .srli d a n => Sys2Proof.Machine.execSrli d a n s
  | .srai d a n => Sys2Proof.Machine.execSrai d a n s
  | .rori d a n => Sys2Proof.Machine.execRori d a n s
  | .slliW d a n => Sys2Proof.Machine.execSlliW d a n s
  | .srliW d a n => Sys2Proof.Machine.execSrliW d a n s
  | .sraiW d a n => Sys2Proof.Machine.execSraiW d a n s
  | .roriW d a n => Sys2Proof.Machine.execRoriW d a n s
  | .lui d v => Sys2Proof.Machine.execLui d v s
  | .auipc d v => Sys2Proof.Machine.execAuipc d v s
  | .clz d a => Sys2Proof.Machine.execClz d a s
  | .ctz d a => Sys2Proof.Machine.execCtz d a s
  | .popc d a => Sys2Proof.Machine.execPopc d a s
  | .brev d a => Sys2Proof.Machine.execBrev d a s
  | .bswap d a => Sys2Proof.Machine.execBswap d a s
  | .bfx d a b => Sys2Proof.Machine.execBfx d a b s
  | .bfxn d a b => Sys2Proof.Machine.execBfxn d a b s
  | .bfi d a b => Sys2Proof.Machine.execBfi d a b s
  | .hltw a b => Sys2Proof.Machine.execHltw a b s
  | .hpack d a b n => Sys2Proof.Machine.execHpack d a b n s
  | .hparse d a b n => Sys2Proof.Machine.execHparse d a b n s
  | .pcmp p a b c => Sys2Proof.Machine.execPcmp p a b c s
  | .pcmpi p a c v => Sys2Proof.Machine.execPcmpi p a c v s
  | .plog d a b o => Sys2Proof.Machine.execPlog d a b o s
  | .ptog d => Sys2Proof.Machine.execPtog d s
  | .gtop a => Sys2Proof.Machine.execGtop a s
  | .sel d a b n => Sys2Proof.Machine.execSel d a b n s
  | .jalr d a => Sys2Proof.Machine.execJalr d a s
  | .beq a b o => Sys2Proof.Machine.execBeq a b o s
  | .bne a b o => Sys2Proof.Machine.execBne a b o s
  | .blt a b o => Sys2Proof.Machine.execBlt a b o s
  | .bge a b o => Sys2Proof.Machine.execBge a b o s
  | .bltn a b o => Sys2Proof.Machine.execBltn a b o s
  | .bgen a b o => Sys2Proof.Machine.execBgen a b o s
  | .bp p o => Sys2Proof.Machine.execBp p o s
  | .bnp p o => Sys2Proof.Machine.execBnp p o s
  | .jal d o => Sys2Proof.Machine.execJal d o s
  | .ld d a z o => Sys2Proof.Machine.execLd d a z o s
  | .ldn d a z o => Sys2Proof.Machine.execLdn d a z o s
  | .st d a z o => Sys2Proof.Machine.execSt d a z o s
  | .ldx d a b z => Sys2Proof.Machine.execLdx d a b z s
  | .stx d a b z => Sys2Proof.Machine.execStx d a b z s
  | .publish a b => Sys2Proof.Machine.execPublish a b s
  | .amoadd d a b z => Sys2Proof.Machine.execAmoadd d a b z s
  | .amoand d a b z => Sys2Proof.Machine.execAmoand d a b z s
  | .amoor d a b z => Sys2Proof.Machine.execAmoor d a b z s
  | .amoxor d a b z => Sys2Proof.Machine.execAmoxor d a b z s
  | .amomin d a b z => Sys2Proof.Machine.execAmomin d a b z s
  | .amomax d a b z => Sys2Proof.Machine.execAmomax d a b z s
  | .amoswp d a b z => Sys2Proof.Machine.execAmoswp d a b z s
  | .amocas d a b z => Sys2Proof.Machine.execAmocas d a b z s
  | .fence k z => Sys2Proof.Machine.execFence k z s
  | .ljoin a b => Sys2Proof.Machine.execLjoin a b s
  | .ljoinR a b => Sys2Proof.Machine.execLjoinR a b s
  | .lfill a b => Sys2Proof.Machine.execLfill a b s
  | .lfillv a v => Sys2Proof.Machine.execLfillv a v s
  | .lfillm a b m => Sys2Proof.Machine.execLfillm a b m s
  | .lesum a b t => Sys2Proof.Machine.execLesum a b t s
  | .lwait d a b n k => Sys2Proof.Machine.execLwait d a b n k s
  | .lwaitf d a b => Sys2Proof.Machine.execLwaitf d a b s
  | .larm d a b n k => Sys2Proof.Machine.execLarm d a b n k s
  | .lfrz d a => Sys2Proof.Machine.execLfrz d a s
  | .lfrza a => Sys2Proof.Machine.execLfrza a s
  | .lxrd d a => Sys2Proof.Machine.execLxrd d a s
  | .lxrdv v a => Sys2Proof.Machine.execLxrdv v a s
  | .lstat d a => Sys2Proof.Machine.execLstat d a s
  | .send d a b => Sys2Proof.Machine.execSend d a b s
  | .sendF d a b => Sys2Proof.Machine.execSendF d a b s
  | .sendH d a b => Sys2Proof.Machine.execSendH d a b s
  | .sendl d a b n => Sys2Proof.Machine.execSendl d a b n s
  | .sendlF d a b n => Sys2Proof.Machine.execSendlF d a b n s
  | .recv d a => Sys2Proof.Machine.execRecv d a s
  | .recvp d a => Sys2Proof.Machine.execRecvp d a s
  | .recvN d a => Sys2Proof.Machine.execRecvN d a s
  | .recvpN d a => Sys2Proof.Machine.execRecvpN d a s
  | .vtset a => Sys2Proof.Machine.execVtset a s
  | .gvtrd d => Sys2Proof.Machine.execGvtrd d s
  | .cmtw => Sys2Proof.Machine.execCmtw s
  | .spawnFifo d a b => Sys2Proof.Machine.execSpawnFifo d a b s
  | .spawnOrd d a b => Sys2Proof.Machine.execSpawnOrd d a b s
  | .spawnOpt d a b => Sys2Proof.Machine.execSpawnOpt d a b s
  | .spawnL d a b => Sys2Proof.Machine.execSpawnL d a b s
  | .spawnC d a b => Sys2Proof.Machine.execSpawnC d a b s
  | .exit => Sys2Proof.Machine.execExit s
  | .yield => Sys2Proof.Machine.execYield s
  | .gbar l => Sys2Proof.Machine.execGbar l s
  | .widf d n => Sys2Proof.Machine.execWidf d n s
  | .migr d a => Sys2Proof.Machine.execMigr d a s
  | .mpin n => Sys2Proof.Machine.execMpin n s
  | .twait a => Sys2Proof.Machine.execTwait a s
  | .csrr d c => Sys2Proof.Machine.execCsrr d c s
  | .csrw d a c => Sys2Proof.Machine.execCsrw d a c s
  | .csrs d a c => Sys2Proof.Machine.execCsrs d a c s
  | .csrc d a c => Sys2Proof.Machine.execCsrc d a c s
  | .eret => Sys2Proof.Machine.execEret s
  | .brk => Sys2Proof.Machine.execBrk s
  | .wfi => Sys2Proof.Machine.execWfi s
  | .ctxsv d a => Sys2Proof.Machine.execCtxsv d a s
  | .ctxld d a => Sys2Proof.Machine.execCtxld d a s
  | .slotctl d a b => Sys2Proof.Machine.execSlotctl d a b s
  | .xinv a b => Sys2Proof.Machine.execXinv a b s
  | .cinv a b => Sys2Proof.Machine.execCinv a b s
  | .trap n => Sys2Proof.Machine.execTrap n s
  | .vsetvl d a e => Sys2Proof.Machine.execVsetvl d a e s
  | .vadd d a b m e r => Sys2Proof.Machine.execVadd d a b m e r s
  | .vsub d a b m e r => Sys2Proof.Machine.execVsub d a b m e r s
  | .vmul d a b m e r => Sys2Proof.Machine.execVmul d a b m e r s
  | .vmin d a b m e r => Sys2Proof.Machine.execVmin d a b m e r s
  | .vmax d a b m e r => Sys2Proof.Machine.execVmax d a b m e r s
  | .vminN d a b m e => Sys2Proof.Machine.execVminN d a b m e s
  | .vmaxN d a b m e => Sys2Proof.Machine.execVmaxN d a b m e s
  | .vabs d a m e r => Sys2Proof.Machine.execVabs d a m e r s
  | .vneg d a m e r => Sys2Proof.Machine.execVneg d a m e r s
  | .vand d a b m e => Sys2Proof.Machine.execVand d a b m e s
  | .vor d a b m e => Sys2Proof.Machine.execVor d a b m e s
  | .vxor d a b m e => Sys2Proof.Machine.execVxor d a b m e s
  | .vsll d a b m e => Sys2Proof.Machine.execVsll d a b m e s
  | .vsrl d a b m e => Sys2Proof.Machine.execVsrl d a b m e s
  | .vsra d a b m e => Sys2Proof.Machine.execVsra d a b m e s
  | .vfma d a b m e r => Sys2Proof.Machine.execVfma d a b m e r s
  | .vfms d a b m e r => Sys2Proof.Machine.execVfms d a b m e r s
  | .vdiv d a b m e r => Sys2Proof.Machine.execVdiv d a b m e r s
  | .vsqrt d a m e r => Sys2Proof.Machine.execVsqrt d a m e r s
  | .vexp d a m e r => Sys2Proof.Machine.execVexp d a m e r s
  | .vlog d a m e r => Sys2Proof.Machine.execVlog d a m e r s
  | .vrcp d a m e r => Sys2Proof.Machine.execVrcp d a m e r s
  | .vrsq d a m e r => Sys2Proof.Machine.execVrsq d a m e r s
  | .vtanh d a m e r => Sys2Proof.Machine.execVtanh d a m e r s
  | .vcmp k a b m e c => Sys2Proof.Machine.execVcmp k a b m e c s
  | .vmlog k a b o => Sys2Proof.Machine.execVmlog k a b o s
  | .vsel d a b m e => Sys2Proof.Machine.execVsel d a b m e s
  | .vcompress d a b m e => Sys2Proof.Machine.execVcompress d a b m e s
  | .vexpand d a b m e => Sys2Proof.Machine.execVexpand d a b m e s
  | .vpopm g k => Sys2Proof.Machine.execVpopm g k s
  | .vperm d a b m e => Sys2Proof.Machine.execVperm d a b m e s
  | .vslide d a g m e => Sys2Proof.Machine.execVslide d a g m e s
  | .vbcast d g m e => Sys2Proof.Machine.execVbcast d g m e s
  | .vext g a h e => Sys2Proof.Machine.execVext g a h e s
  | .vins d a g e => Sys2Proof.Machine.execVins d a g e s
  | .vrsum d a m e => Sys2Proof.Machine.execVrsum d a m e s
  | .vrmax d a m e => Sys2Proof.Machine.execVrmax d a m e s
  | .vrmin d a m e => Sys2Proof.Machine.execVrmin d a m e s
  | .vcvt d a f e => Sys2Proof.Machine.execVcvt d a f e s
  | .vpoly d a b e => Sys2Proof.Machine.execVpoly d a b e s
  | .vcoef g => Sys2Proof.Machine.execVcoef g s
  | .vld d g m e => Sys2Proof.Machine.execVld d g m e s
  | .vst d g m e => Sys2Proof.Machine.execVst d g m e s
  | .vlds d z m e => Sys2Proof.Machine.execVlds d z m e s
  | .vsts d z m e => Sys2Proof.Machine.execVsts d z m e s
  | .vldx d g b m e => Sys2Proof.Machine.execVldx d g b m e s
  | .vstx d g b m e => Sys2Proof.Machine.execVstx d g b m e s
  | .vldq d c e => Sys2Proof.Machine.execVldq d c e s
  | .vstq d c e => Sys2Proof.Machine.execVstq d c e s
  | .vredq d c e => Sys2Proof.Machine.execVredq d c e s
  | .vqnt d a n e => Sys2Proof.Machine.execVqnt d a n e s
  | .vdqnt d a n e => Sys2Proof.Machine.execVdqnt d a n e s
  | .vscl d a b e => Sys2Proof.Machine.execVscl d a b e s
  | .vmmb d a b e => Sys2Proof.Machine.execVmmb d a b e s
  | .vlgl g b => Sys2Proof.Machine.execVlgl g b s
  | .shset a n => Sys2Proof.Machine.execShset a n s
  | .shget a n => Sys2Proof.Machine.execShget a n s
  | .shadv a n => Sys2Proof.Machine.execShadv a n s
  | .shrst n => Sys2Proof.Machine.execShrst n s
  | .cbset a n => Sys2Proof.Machine.execCbset a n s
  | .cbwf p a n => Sys2Proof.Machine.execCbwf p a n s
  | .cbwe a n => Sys2Proof.Machine.execCbwe a n s
  | .cbpa a n => Sys2Proof.Machine.execCbpa a n s
  | .cbca a n => Sys2Proof.Machine.execCbca a n s
  | .cbeos n => Sys2Proof.Machine.execCbeos n s
  | .qbindPop d p n => Sys2Proof.Machine.execQbindPop d p n s
  | .qbindPush d a p n => Sys2Proof.Machine.execQbindPush d a p n s
  | .qfree d => Sys2Proof.Machine.execQfree d s
  | .mwld t => Sys2Proof.Machine.execMwld t s
  | .mswap t => Sys2Proof.Machine.execMswap t s
  | .mact t => Sys2Proof.Machine.execMact t s
  | .mdrn t => Sys2Proof.Machine.execMdrn t s
  | .mzero t => Sys2Proof.Machine.execMzero t s
  | .msync t => Sys2Proof.Machine.execMsync t s
  | .cpyB t => Sys2Proof.Machine.execCpyB t s
  | .cpyC t => Sys2Proof.Machine.execCpyC t s
  | .cpyG t => Sys2Proof.Machine.execCpyG t s
  | .cpyF t => Sys2Proof.Machine.execCpyF t s
  | .crs t => Sys2Proof.Machine.execCrs t s
  | .cag t => Sys2Proof.Machine.execCag t s
  | .car t => Sys2Proof.Machine.execCar t s
  | .cbc t => Sys2Proof.Machine.execCbc t s
  | .instructionCompletion => Sys2Proof.Machine.execInstructionCompletion s
  | .instructionFetchFill => Sys2Proof.Machine.execInstructionFetchFill s
  | .coefficientTableLoad => Sys2Proof.Machine.execCoefficientTableLoad s
  | .timerPreemption => Sys2Proof.Machine.execTimerPreemption s
  | .lmxOverrun => Sys2Proof.Machine.execLmxOverrun s
  | .systemEventEntry => Sys2Proof.Machine.execSystemEventEntry s
  | .postedReply => Sys2Proof.Machine.execPostedReply s
  | .latticeRefusalTrap => Sys2Proof.Machine.execLatticeRefusalTrap s
  | .latticeRequestApply => Sys2Proof.Machine.execLatticeRequestApply s
  | .thresholdReadAtHome => Sys2Proof.Machine.execThresholdReadAtHome s
  | .waitWithdrawal => Sys2Proof.Machine.execWaitWithdrawal s
  | .arenaFreeze => Sys2Proof.Machine.execArenaFreeze s
  | .remoteWordAccess => Sys2Proof.Machine.execRemoteWordAccess s
  | .localityMigration => Sys2Proof.Machine.execLocalityMigration s
  | .publishPageChange => Sys2Proof.Machine.execPublishPageChange s
  | .messageArrival => Sys2Proof.Machine.execMessageArrival s
  | .antiMessageArrival => Sys2Proof.Machine.execAntiMessageArrival s
  | .rollback => Sys2Proof.Machine.execRollback s
  | .wakeDelivery => Sys2Proof.Machine.execWakeDelivery s
  | .twaitExpiry => Sys2Proof.Machine.execTwaitExpiry s
  | .inboxOverflowTimeout => Sys2Proof.Machine.execInboxOverflowTimeout s
  | .waiterSpillTimeout => Sys2Proof.Machine.execWaiterSpillTimeout s
  | .derailleurMigration => Sys2Proof.Machine.execDerailleurMigration s
  | .migrationIntake => Sys2Proof.Machine.execMigrationIntake s
  | .saveCompletion => Sys2Proof.Machine.execSaveCompletion s
  | .contextCacheWriteback => Sys2Proof.Machine.execContextCacheWriteback s
  | .parkedThreadEviction => Sys2Proof.Machine.execParkedThreadEviction s
  | .driverStop => Sys2Proof.Machine.execDriverStop s
  | .launchStop => Sys2Proof.Machine.execLaunchStop s
  | .sweepStart => Sys2Proof.Machine.execSweepStart s
  | .sweepControlFlit => Sys2Proof.Machine.execSweepControlFlit s
  | .sweepResult => Sys2Proof.Machine.execSweepResult s
  | .launchAccept => Sys2Proof.Machine.execLaunchAccept s
  | .launchDispatch => Sys2Proof.Machine.execLaunchDispatch s
  | .unitPlacement => Sys2Proof.Machine.execUnitPlacement s
  | .slotFill => Sys2Proof.Machine.execSlotFill s
  | .grantRetry => Sys2Proof.Machine.execGrantRetry s
  | .stealRequest => Sys2Proof.Machine.execStealRequest s
  | .stealAnswer => Sys2Proof.Machine.execStealAnswer s
  | .launchCompletion => Sys2Proof.Machine.execLaunchCompletion s
  | .hostMessageWrite => Sys2Proof.Machine.execHostMessageWrite s
  | .arbiterSelect => Sys2Proof.Machine.execArbiterSelect s
  | .mxuCommandExecute => Sys2Proof.Machine.execMxuCommandExecute s
  | .drainSlotArrival => Sys2Proof.Machine.execDrainSlotArrival s
  | .copyExecute => Sys2Proof.Machine.execCopyExecute s
  | .streamerRead => Sys2Proof.Machine.execStreamerRead s
  | .copyChannelSlotArrival => Sys2Proof.Machine.execCopyChannelSlotArrival s
  | .collectiveStart => Sys2Proof.Machine.execCollectiveStart s
  | .wireBlockArrival => Sys2Proof.Machine.execWireBlockArrival s
  | .wqtailWrite => Sys2Proof.Machine.execWqtailWrite s
  | .wqctlWrite => Sys2Proof.Machine.execWqctlWrite s
  | .cqheadWrite => Sys2Proof.Machine.execCqheadWrite s
  | .hmheadWrite => Sys2Proof.Machine.execHmheadWrite s
  | .rpheadWrite => Sys2Proof.Machine.execRpheadWrite s
  | .elheadWrite => Sys2Proof.Machine.execElheadWrite s
  | .trheadWrite => Sys2Proof.Machine.execTrheadWrite s
  | .wringWrite => Sys2Proof.Machine.execWringWrite s
  | .captureConfigWrite => Sys2Proof.Machine.execCaptureConfigWrite s
  | .captureClear => Sys2Proof.Machine.execCaptureClear s
  | .registerWrite => Sys2Proof.Machine.execRegisterWrite s
  | .badRegisterAccess => Sys2Proof.Machine.execBadRegisterAccess s
  | .regbuf => Sys2Proof.Machine.execRegbuf s
  | .freebuf => Sys2Proof.Machine.execFreebuf s
  | .regarena => Sys2Proof.Machine.execRegarena s
  | .freearena => Sys2Proof.Machine.execFreearena s
  | .retag => Sys2Proof.Machine.execRetag s
  | .driverXinv => Sys2Proof.Machine.execDriverXinv s
  | .driverCinv => Sys2Proof.Machine.execDriverCinv s
  | .stop => Sys2Proof.Machine.execStop s
  | .reclaim => Sys2Proof.Machine.execReclaim s
  | .restore => Sys2Proof.Machine.execRestore s
  | .saveretry => Sys2Proof.Machine.execSaveretry s
  | .corecmd => Sys2Proof.Machine.execCorecmd s
  | .rotkey => Sys2Proof.Machine.execRotkey s
  | .digest => Sys2Proof.Machine.execDigest s
  | .unknownDriverCommand => Sys2Proof.Machine.execUnknownDriverCommand s
  | .digestPeerMessage => Sys2Proof.Machine.execDigestPeerMessage s
  | .digestTimeout => Sys2Proof.Machine.execDigestTimeout s
  | .hostMemRead => Sys2Proof.Machine.execHostMemRead s
  | .hostMemWrite => Sys2Proof.Machine.execHostMemWrite s
  | .getVersion => Sys2Proof.Machine.execGetVersion s
  | .getCapabilities => Sys2Proof.Machine.execGetCapabilities s
  | .negotiateAlgorithms => Sys2Proof.Machine.execNegotiateAlgorithms s
  | .getDigests => Sys2Proof.Machine.execGetDigests s
  | .getCertificate => Sys2Proof.Machine.execGetCertificate s
  | .challenge => Sys2Proof.Machine.execChallenge s
  | .getMeasurements => Sys2Proof.Machine.execGetMeasurements s
  | .powerOn => Sys2Proof.Machine.execPowerOn s
  | .thermalShutdown => Sys2Proof.Machine.execThermalShutdown s
  | .powerCapThrottle => Sys2Proof.Machine.execPowerCapThrottle s
  | .ucieModuleStateChange => Sys2Proof.Machine.execUcieModuleStateChange s
  | .fabricReplay => Sys2Proof.Machine.execFabricReplay s
  | .welsaPortStateChange => Sys2Proof.Machine.execWelsaPortStateChange s
  | .welsaTransferTimeout => Sys2Proof.Machine.execWelsaTransferTimeout s
  | .hbmScrub => Sys2Proof.Machine.execHbmScrub s
  | .monitorLevelSample => Sys2Proof.Machine.execMonitorLevelSample s
  | .unassignedWord => Sys2Proof.Machine.execUnassignedWord s
  | .powerRemoval => Sys2Proof.Machine.execPowerRemoval s

end Sys2Proof.Machine
end

