-- ==== Sys2Proof/Machine/Turn.lean ====
section
/-! DEFINITION. What a step does around `exec`: the turn of one slot (R15 to R23, R94, R97, R98, R147, R181), and the events that fall due
at the end of a cycle. -/

namespace Sys2Proof.Machine

/-! ## Fetch and issue (R15, R147, R181) -/

/-- The code bytes that the core holds from a thread's PC on, to the end of their 32-byte line. -/
def State.codeAt (s : State) (w : Who) : Option (List Byte) :=
  ((s.core w.core).line? (s.at w).asid (s.th w).fetchVa).map fun l => l.bytes.drop ((s.th w).fetchVa % 32)

/-- The instruction at the front of code bytes: a T word stands at a multiple of 32 only (R147). -/
def decodeAt (va : Nat) (bs : List Byte) : Option Instr :=
  let w := natOf (bs.take 4)
  if isTile w then (if va % 32 = 0 then decodeBits (natOf bs) else none) else decodeBits w

/-- An event acting at once, and what follows it. -/
def State.actNow (s : State) (e : Event) (f : State → Host.Outcome State Fault Refusal) : Host.Outcome State Fault Refusal :=
  match exec e.row { s with agenda := e :: s.agenda } with
  | .next s => f s
  | o => o

/-- The instruction in code bytes issues; a word that is no instruction faults (R150). -/
def State.issueWord (s : State) (w : Who) (bs : List Byte) : Host.Outcome State Fault Refusal :=
  match decodeAt (s.th w).fetchVa bs with
  | some i => exec i s
  | none => s.actNow (.unassignedWord (BitVec.ofNat 32 (natOf (bs.take 4)))) .next

/-- A turn in RUN or BUSY counted against the quantum (R23); codelets and the system slot are exempt. -/
def State.countTurn (s : State) (w : Who) : State :=
  s.upd w fun x =>
    if w.slot = 15 ∨ x.th.codelet ∨ x.quantum = 0 then x else { x with quantum := x.quantum - 1, timer := x.timer || x.quantum == 1 }

/-- The first instruction on the target core after a migration: the sample of source 0x03 (Table 17.3). -/
def State.afterMigration (s : State) (w : Who) : State :=
  match (s.at w).migrAt with
  | some t => (s.sample 0x03 (dieOf w.core) w.core (s.at w).launch? (s.gtime - t)).upd w fun x => { x with migrAt := none }
  | none => s

/-- A system-slot instruction counted while LMX is 1 (R98). -/
def State.countLmx (s : State) (w : Who) : State :=
  if w.slot = 15 && (s.core w.core).lmx then s.updCore w.core fun k => { k with lmxCount := k.lmxCount + 1 } else s

/-- Bytes of the instruction at the front of code bytes (R147). -/
def codeLen (va : Nat) (bs : List Byte) : Nat := if isTile (natOf (bs.take 4)) && va % 32 == 0 then 32 else 4

/-- A ready thread fetches and issues; a miss leaves it BUSY, and code bytes that do not check are a machine check of the fetch (R181, R387, R388). The
257th system-slot instruction under LMX clears it first (R98). -/
def State.fetchIssue (s : State) (w : Who) : Host.Outcome State Fault Refusal :=
  let s := s.countTurn w
  match s.codeAt w with
  | none => .next ((s.upd w fun x => { x with st := .busy, busy := .fetch, out := none }).post [.instructionFetchFill w.core w.slot])
  | some bs =>
    match s.codeBad w (codeLen (s.th w).fetchVa bs) with
    | some (sub, a) => .next (s.fetchFault w 0x20 sub a none)
    | none =>
      let go (s : State) : Host.Outcome State Fault Refusal := ((s.countLmx w).afterMigration w).issueWord w bs
      let k := s.core w.core
      if w.slot = 15 && k.lmx && decide (256 ≤ k.lmxCount) then s.actNow (.lmxOverrun w.core) go else go s

/-! ## Boundaries (R94) -/

/-- The asynchronous trap due at an instruction boundary, by priority: machine check, a posted operation's refusal, driver stop, timer. Between the
elements of a VREDQ no refusal is taken (R107). A parity error stops the thread's launch, and those of the core's other launches that have work in the same pipeline or queue (R388, log entry 59). -/
def State.boundary (s : State) (w : Who) : Option State :=
  let x := s.at w
  match x.mcheck with
  | some (sub, a) =>
    let s := (s.upd w fun x => { x with mcheck := none }).takeTrap w 0x20 true sub a x.th.pc (x.st == .busy)
    let hit (n : Nat) : Bool := x.launch? == some n || Config.parityHits s.moment w.core n
    some (if sub = 0x08 then s.post (((s.launchesOn w.core).filter hit).map fun n => Event.launchStop n .fault (some (checkReport sub a))) else s)
  | none =>
    if !x.refused.isEmpty && x.st != .busy then some (s.post [.latticeRefusalTrap w.core w.slot])
    else if x.dstop then some (s.post [.driverStop w.core w.slot])
    else if x.timer then some (s.post [.timerPreemption w.core w.slot])
    else none

/-- Rollbacks that came in the middle of an instruction, carried out at the boundary that its end has brought (R83). -/
def State.undefer (s : State) (w : Who) : State :=
  let x := s.at w
  if (x.st == .run || x.st == .park) && !x.deferred.isEmpty then (s.upd w fun x => { x with deferred := [] }).applyDeferred w x.deferred
  else s

/-- Whether a thread is kept from running by a RECLAIM that waits for its task (R86). -/
def State.heldBack (s : State) (w : Who) : Bool := (s.at w).isTask && s.reclaims (s.at w).task

/-- A turn in RUN: the trap due at the boundary, the system slot's next event, or the next instruction. -/
def State.runTurn (s : State) (w : Who) : Host.Outcome State Fault Refusal :=
  match s.boundary w with
  | some s => .next s
  | none =>
    if s.heldBack w then .next s else
    let k := s.core w.core
    if w.slot = 15 && k.eie && !k.dead && !k.events.isEmpty then .next (s.post [.systemEventEntry w.core]) else s.fetchIssue w

/-! ## Waits (R18, R21, R22, R100) -/

/-- Whether a wait on a buffer or on the time base is over, or would fault. -/
def State.parkMet (s : State) (p : ParkWhy) : Bool :=
  match p with
  | .filled c cb k => (s.cb c cb).waitFilled k != some none
  | .free c cb k => (s.cb c cb).waitFree k != some false
  | .bound c cb push => let q := s.cb c cb; !q.en || (if push then q.eos || q.filled != q.slots else q.filled != 0)
  | .time t => decide (t ≤ s.gtime)
  | _ => false

/-- A turn in PARK. A thread loaded with a parked image, and one whose buffer wait is over, issues its instruction again. -/
def State.parkTurn (s : State) (w : Who) : Host.Outcome State Fault Refusal :=
  let s := s.upd w fun x => { x with parkTurns := x.parkTurns + 1 }
  match s.boundary w with
  | some s => .next s
  | none => if !s.heldBack w && ((s.at w).out.isNone || s.parkMet (s.at w).park) then (s.reissue w).runTurn w else .next s

/-- Waits whose instruction is tried again at every turn: it has had no effect yet, or goes on where it stands. -/
def BusyWhy.retried : BusyWhy → Bool
  | .lmx | .elements | .replies _ | .history | .mxu | .commit | .accept | .room _ | .event | .locality _ | .port _ => true
  | _ => false

/-- Waits that a driver stop ends, because what they wait for may never come to a stopped launch (log entry 63). -/
def BusyWhy.gaveUp : BusyWhy → Bool
  | .room _ | .spill | .port _ => true
  | _ => false

/-- A turn in BUSY. A VREDQ can be interrupted before each element (R107). -/
def State.busyTurn (s : State) (w : Who) : Host.Outcome State Fault Refusal :=
  let s := s.countTurn w
  let x := s.at w
  let due : Option State := if x.busy = .elements then s.boundary w else none
  match due, x.out with
  | some s, _ => .next s
  | none, none => .next (if x.busy.isPort then s.post [.instructionFetchFill w.core w.slot] else s)
  | none, some i =>
    if x.dstop && x.busy.gaveUp then .next ((s.upd w fun x => { x with st := .run, out := none }).post [.driverStop w.core w.slot])
    else if x.busy = .elements && s.heldBack w then .next s
    else if x.busy = .spill then
      (match i with | .gbar _ => exec i s | _ => .next (s.post [.thresholdReadAtHome w.core w.slot]))
    else if x.busy.retried then exec i s
    else .next s

/-- A turn in TRAP: the Derailleur's thread leaves once it has drained (R112); a driver stop reaches it after its intake (R116). -/
def State.trapTurn (s : State) (w : Who) : State :=
  if (s.at w).derails && s.drained w true then s.post [.derailleurMigration w.core w.slot] else s

/-- The turn of the slot whose turn it is (R15). -/
def turnOf (s : State) : Host.Outcome State Fault Refusal :=
  let w := s.who
  let s := s.undefer w
  match (s.at w).st with
  | .empty | .reserved => .next s
  | .run => s.runTurn w
  | .park => s.parkTurn w
  | .busy => s.busyTurn w
  | .trap => .next (s.trapTurn w)
  | .save => .next (if s.saveDue w then s.post [.saveCompletion w.core w.slot] else s)

/-! ## The end of a cycle -/

/-- Slots of a core whose TWAIT is over (R226). -/
def Core.expired (k : Core) (now : Nat) : List (Fin 16) :=
  (List.finRange 16).filter fun sl => match k.slots[sl].st, k.slots[sl].park with | .park, .time t => decide (t ≤ now) | _, _ => false

/-- Whether the rate of engines is lowered in this cycle: the power cap halves it (R380). -/
def State.slow (s : State) : Bool := s.throttled && s.gtime % 2 == 1

/-- Events that fall due on a core. -/
def State.coreDue (s : State) (c : Nat) (k : Core) : List Event :=
  let at_ (b : Bool) (e : Event) : List Event := if b then [e] else []
  at_ (!s.slow && !(k.copyq.isEmpty && k.copying.isEmpty)) (.copyExecute c)
    ++ at_ (!k.collq.isEmpty) (.collectiveStart c)
    ++ (k.expired s.gtime).map (fun sl => Event.twaitExpiry c sl)
    ++ at_ (match k.grantHold with | some t => decide (t ≤ s.gtime) | none => false) (.grantRetry c)
    ++ at_ (k.ingress.any fun x => decide (x.2 + longWait ≤ s.gtime) && !s.stopped x.1.launch) (.inboxOverflowTimeout c)
    ++ at_ (k.slots.toList.any fun x => x.spillLate s.gtime && x.launched && !s.stopped x.task.launch) (.waiterSpillTimeout c)
    ++ at_ (s.evictDue c) (.parkedThreadEviction c)
    ++ at_ (s.fillDue c) (.slotFill c)

/-- The clusters whose MXU has work; a power cap slows their arbiters only (R31, R281, R380). -/
def State.mxuDue (s : State) : List Event :=
  let busy := (s.cores.filter fun (_, k) => !k.mxq.isEmpty).map (fun (c, _) => c / 8)
    ++ (s.mxus.filter fun (_, m) => m.running.isSome).map Prod.fst
  busy.dedup.flatMap fun cl => (if s.slow then [] else [.arbiterSelect cl]) ++ [.mxuCommandExecute cl]

/-- Events that fall due at the command processor, the die schedulers and the links. -/
def State.packageDue (s : State) : List Event :=
  ((List.range 8).filter fun d => s.idleDie d && !s.stealing.toList.getD d false && (victims d).any (s.mayAsk d)).map Event.stealRequest
    ++ ((s.wq.map Prod.fst).filter s.acceptDue).map Event.launchAccept
    ++ (s.launches.filter s.dispatchDue).map (fun l => Event.launchDispatch l.key)
    ++ (s.launches.filter fun l => (match l.st with | .ended | .stopped _ => true | _ => false) && !s.launchBusy l.num).map
        (fun l => Event.launchCompletion l.num)
    ++ (if s.regs.dcbusy && s.regs.dccmd.toNat % 256 == 9 then [.reclaim] else [])
    ++ (if s.digestLate then [.digestTimeout] else [])
    ++ ((List.finRange 8).filter fun p => !((s.overdue p.val).isEmpty && (s.lateDigests p.val).isEmpty)).map Event.welsaTransferTimeout

/-- Whether a message at a core's ingress finds the room it waits for. -/
def State.ingressFits (s : State) (m : Msg) : Bool :=
  s.stopped m.launch || (match s.task? ⟨m.launch, if m.kind = 1 then m.swid else m.dwid⟩ with
    | some t => match t.place with
      | .on d _ => s.inboxRoom d true
      | .out d | .held d _ _ | .reclaimed d => s.inboxRoom d false
      | _ => true
    | none => true)

/-- The first message at a core's ingress enters its inbox where that has room, first come first (R359). -/
def State.ingressNext (s : State) (c : Nat) : State :=
  match (s.core c).ingress with
  | [] => s
  | (m, _) :: rest =>
    if s.ingressFits m then
      let s := s.updCore c fun k => { k with ingress := rest }
      if m.anti then s.antiArrives true m else (s.countRecv m.launch m.colour 1).deliver true m
    else s

/-- What a capture unit samples at the end of its period: an MXU queue for each core watched, or one value of its die; what the spec gives no
value for is free (R384). -/
def State.levelEvents (s : State) (key : Nat) (u : Capture) : State :=
  let d : Fin 8 := Fin.ofNat 8 (key / 32)
  let n : Fin 32 := Fin.ofNat 32 key
  let period := 64 * max 1 u.per
  let one (v : Nat) : State := s.post [.monitorLevelSample d n v]
  if !u.en || s.gtime % period != 0 then s
  else match u.src with
    | 0x05 => s.post (((coresOf d.val).filter fun c => u.watched == 0x7FF || u.watched == c).map fun c =>
        Event.monitorLevelSample d n (s.core c).mxq.length)
    | 0x06 => one (Config.hbmWaiting s.gtime d.val)
    | 0x07 | 0x09 => one (s.counted.filter fun x => x.1 == u.src && x.2.1 == d.val && decide (s.gtime ≤ x.2.2 + period)).length
    | 0x08 => one (Config.sramCorrected s.gtime d.val)
    | _ => s

/-- Whether a parked task that is not in a slot has become ready other than by an arrival: its wait on a buffer or for a time is over, which is its
wake (R21, R226), or its parking instruction accepts what has come (R374). -/
def State.risen (s : State) (t : Task) : Bool :=
  (match t.place with | .out _ | .held .. => true | _ => false) && t.parked && (s.parkMet t.parkWhy || s.outReady t)

/-- Commit-queue entries that found an engine's queue full tried again (R81, R277). -/
def State.commitAgain (s : State) (c : Nat) : State :=
  (((s.core c).commitq.map fun e => e.task.launch).dedup).foldl (fun (s : State) n => s.commitCore c n (s.gvtOf n) 64) s

/-- What happens between two cycles on each core. A command that waits for a queue enters one that a launch's stop has left room in (R29, R100). -/
def State.coreRound (s : State) (c : Nat) : State := ((((s.queueNext c).landingStart c).refill c).commitAgain c).ingressNext c

/-- What falls due at the end of a cycle, under the time base of the next one. -/
def State.endCycle (s : State) : State :=
  let s := (s.cores.map Prod.fst).foldl State.coreRound s
  let s := (s.tasks.filter s.risen).foldl State.makeReady s
  let s := s.hostDrain
  let s := ((s.buckets.map Bucket.ring).dedup).foldl (fun (s : State) r => s.retireBuckets r 64) s
  let s := s.captures.foldl (fun (s : State) (k, u) => s.levelEvents k u) s
  let s := s.post ((s.cores.flatMap fun (c, k) => s.coreDue c k) ++ s.mxuDue ++ s.packageDue)
  if s.regs.odoctl.getLsbD 0 && decide (s.sweepAt ≤ s.gtime) && !s.sweepOpen then s.post [.sweepStart] else s

/-- The state after the turn that `s` has given: the next core's turn, or the next cycle, whose slot is that of its number (R4, R15). The turn
itself moves neither the rotation nor the time base. -/
def State.advanceTurn (s t : State) : State :=
  if s.turn < 1535 then { t with turn := s.turn + 1, gtime := s.gtime }
  else
    let g := (s.gtime + 1) % 2 ^ 64
    { ({ t with gtime := g } : State).endCycle with turn := 0, gtime := g }

end Sys2Proof.Machine
end

