-- ==== Sys2Proof/Machine/Load.lean ====
section
/-! DEFINITION. An instruction placed where the next step fetches: what stands for the load of a program from outside the machine (the
firmware image of boot step 4, the code of a launch; R181, R314, R369). -/

namespace Sys2Proof.Machine

/-- The instructions that only the system slot may execute (R111). -/
def systemOnly : Instr → Bool
  | .eret | .wfi | .ctxsv _ _ | .ctxld _ _ | .slotctl _ _ _ | .xinv _ _ | .cinv _ _ | .hltw _ _ | .lstat _ _ => true
  | _ => false

/-- Where the code of a thread that has none yet is placed. -/
def codeVa : Word := 0x10000

/-- A launch of one task placed on die 0, with every other header field zero. -/
def soleLaunch : Launch :=
  { newLaunch 0 0 (2 ^ 384) 1 0 (some 0) 0 ⟨.replicate 4 0, .replicate 4 0, []⟩ with st := .live, odo := some 0 }

/-- The sole task of that launch in slot `sl` of core `c`. -/
def State.withSoleTask (s : State) (c : Nat) (sl : Fin 16) : State :=
  let t : Task := { newTask ⟨0, 0⟩ .fifo 0 0 0 0 false with place := .on c sl }
  let s := { s with launches := soleLaunch :: s.launches.filter (fun l => l.num != 0),
                    tasks := t :: s.tasks.filter (fun (t : Task) => t.id != (⟨0, 0⟩ : TaskId)) }
  s.updSlot c sl fun x =>
    { x.emptied with st := .run, th := { Thread.zero with pc := codeVa }, launched := true, task := ⟨0, 0⟩, asid := 1 }

/-- The system slot of a core as the compute dies are released, with its code where it has none yet (R369). -/
def State.withFirmware (s : State) (c : Nat) : State :=
  (s.updCore c fun k => { k with hslot := 15 }).updSlot c 15 fun _ => { Slot.reset with st := .run, th := { Thread.zero with pc := codeVa } }

/-- A booted package, with no event in transit, whose next turn is of a thread in RUN: the one whose turn it is, where it may run the
instruction; else the sole task of a launch, or, for an instruction of the system slot, that slot. -/
def State.withThread (s : State) (sys : Bool) : State :=
  let s := { s with powered := true, regs := { s.regs with bootst := bootWord 6 none }, agenda := [], turn := if s.turn < 1536 then s.turn else 0 }
  let sl : Fin 16 := s.who.slot
  if (s.at s.who).st = .run ∧ (sl = 15 ↔ sys = true) then s
  else if sys then { s with gtime := s.gtime / 16 * 16 + 15 }.withFirmware s.turn
  else
    let s := if sl.val < 14 then s else { s with gtime := s.gtime / 16 * 16 }
    s.withSoleTask s.turn s.who.slot

/-- Nothing pending that a boundary would take before the instruction, and no RECLAIM that holds its thread back. -/
def State.quiet (s : State) (w : Who) : State :=
  let s := if s.heldBack w then { s with regs := { s.regs with dcbusy := false } } else s
  (s.upd w fun x => { x with mcheck := none, refused := [], dstop := false, timer := false, deferred := [] }).updCore w.core fun k =>
    if w.slot = 15 then { k with events := [] } else k

/-- The code of an instruction in the line that a thread fetches from; a T word needs its alignment (R147). -/
def State.placeCode (s : State) (w : Who) (tile : Bool) (code : Nat) : State :=
  let s := if tile then s.updTh w fun t => { t with pc := BitVec.ofNat 64 (t.pc.toNat / 32 * 32) } else s
  let va := (s.th w).fetchVa
  let asid := (s.at w).asid
  let bs := List.replicate (va % 32) 0 ++ bytesOf (32 - va % 32) code
  let l : ILine := ⟨asid, va / 32 * 32, bs, 0, checkCode bs 0⟩
  (s.refresh (.l1i w.core) (lineKey asid (va / 32 * 32)) 4).updCore w.core fun k => { k with icache := l :: k.icache.filter fun y => !(y.asid == l.asid && y.va == l.va) }

/-- The instruction of a table row placed so that the next step fetches and runs it. -/
def State.loadWord (s : State) (nbits w : Nat) : State :=
  let code := w % 2 ^ nbits
  let sys := match decodeTableWord nbits w with | some i => systemOnly i | none => false
  let s := s.withThread sys
  (s.quiet s.who).placeCode s.who (isTile code) code

end Sys2Proof.Machine
end

