-- ==== Sys2Proof/Machine/Step.lean ====
section
/-! DEFINITION. The step: the first event in transit, or the turn of the next slot. -/

namespace Sys2Proof.Machine

/-- An event acting: it moves neither the rotation nor the time base, which a reset alone puts back to their starts (R15, R364). -/
def State.afterEvent (s t : State) : State :=
  if s.powered = t.powered then { t with turn := s.turn, gtime := s.gtime } else { t with turn := 0, gtime := 0 }

/-- The first event in transit acts. -/
def State.eventStep (s : State) (e : Event) : Host.Outcome State Fault Refusal :=
  match exec e.row s with
  | .next t => .next (s.afterEvent t)
  | o => o

/-- The turn of the next slot (R15). -/
def State.turnStep (s : State) : Host.Outcome State Fault Refusal :=
  match turnOf s with
  | .next t => .next (s.advanceTurn t)
  | o => o

/-- One step. The first event in transit acts. With none, an unpowered package stays as it is, a powered one boots step by step, and a booted
one gives the next core its turn; a boot that failed leaves only the mailbox, and, after step 4, compute dies whose cores wait for memory
(R15, R364). -/
def step (s : State) : Host.Outcome State Fault Refusal :=
  match s.agenda with
  | e :: _ => s.eventStep e
  | [] =>
    if !s.powered then .next s
    else if s.regs.bootst = 0 then { s with agenda := [.powerOn Config.bootOutcome] }.eventStep (.powerOn Config.bootOutcome)
    else if !s.ready? && !s.regs.bootst.getLsbD 3 then .next s.bootNext
    else if !s.ready? && s.bootStep != 5 then .next s
    else if 1536 ≤ s.turn then .fault .turnOutOfRange
    else s.turnStep

/-- The state in which the next step fetches and runs the instruction of a table row. -/
def State.withFetchWord (s : State) (nbits w : Nat) : State := s.loadWord nbits w

end Sys2Proof.Machine
end

