-- ==== Sys2Proof/Safety.lean ====
section
/-! DEFINITION. What counts as a safe run of the machine, in the terms the statements use. -/

namespace Sys2Proof.Machine

/-- The rotation stands at a core of the package, and the time base in its 64 bits (R1, R15). -/
def State.Inv (s : State) : Prop := s.turn < 1536 ∧ s.gtime < 2 ^ 64

end Sys2Proof.Machine
end

