-- ==== Sys2Proof/Certificates/Slice0/Obligations.lean ====
section
/-! DEFINITION. The statements put to the provers, each a proposition about the machine, with the tables and predicates they are written in:
the tables are the spec's, in exact integers (R8). -/

namespace Sys2Proof.Claims

open Sys2Proof.Machine

/-! ## Shapes of completion -/

/-- What a completed instruction leaves: a fixed-latency one is retired, a variable-latency one is BUSY with its completion in transit
(R17; that its effects stand from its issue on is the model's choice, log entry 10). -/
def ended (var : Bool) (i : Instr) (w : Who) (s : State) : State := if var then s.retireVar w i else s.retire w i

/-- The registers an instruction names are open to it: none is bound while its task holds uncommitted history, and no bound one is used against its
binding (R64, R158). -/
def open_ (s : State) (i : Instr) : Prop := s.chkOps s.who i = .ok ()

/-- The trap an instruction of the thread whose turn it is takes on itself: its code, its tval, epc its own address, and in status.INSN whether the
instruction is of variable latency, as one that names a bound register is (R17, R94, R95, Table 4.5); a migrate trap sets INSN always. -/
def trapped (s : State) (i : Instr) (code : Nat) (tval : Word) : Host.Outcome State Fault Refusal :=
  .next (s.takeTrap s.who code false 0 tval (s.th s.who).pc (code == 0x03 || s.varies s.who i))

/-- The same of a load or store at an address: in the thread's own local memory its latency is fixed (R17). -/
def trappedAt (s : State) (i : Instr) (va : Word) (code : Nat) (tval : Word) : Host.Outcome State Fault Refusal :=
  if s.ownLocal s.who va.toNat then .next (s.takeTrap s.who code false 0 tval (s.th s.who).pc (s.namesBound s.who i)) else trapped s i code tval

/-! ## Table 7.1 and R164 in exact integers -/

/-- A three-register instruction. -/
abbrev RegOp := Fin 32 → Fin 32 → Fin 32 → Instr

/-- SDiv and SRem of R164 at width n. -/
def sdiv (n : Nat) (x y : Int) : Int := if y = 0 then -1 else if x = -2 ^ (n - 1) ∧ y = -1 then x else x.tdiv y
def srem (n : Nat) (x y : Int) : Int := if y = 0 then x else if x = -2 ^ (n - 1) ∧ y = -1 then 0 else x - y * x.tdiv y
/-- UDiv and URem of R164 at width n. -/
def udiv (n : Nat) (x y : Nat) : Int := if y = 0 then 2 ^ n - 1 else (x / y : Nat)
def urem (x y : Nat) : Int := if y = 0 then x else (x : Int) - y * (x / y : Nat)

/-- A row of Table 7.1: the 64-bit instruction, the .W one where there is one, whether its latency is variable (R165), and the result at width n
from A, B, As and Bs. -/
structure AluRow where
  op : RegOp
  opW : Option RegOp
  var : Bool
  res : Nat → Nat → Nat → Int → Int → Int

/-- Table 7.1. -/
def table71 : List AluRow :=
  [⟨.add, some .addW, false, fun _ x y _ _ => x + y⟩,
   ⟨.sub, some .subW, false, fun _ x y _ _ => (x : Int) - y⟩,
   ⟨.mul, some .mulW, false, fun _ _ _ x y => x * y⟩,
   ⟨.mulh, some .mulhW, false, fun n _ _ x y => x * y / 2 ^ n⟩,
   ⟨.mulhn, some .mulhnW, false, fun n x y _ _ => (x * y / 2 ^ n : Nat)⟩,
   ⟨.div, some .divW, true, fun n _ _ x y => sdiv n x y⟩,
   ⟨.divn, some .divnW, true, fun n x y _ _ => udiv n x y⟩,
   ⟨.rem, some .remW, true, fun n _ _ x y => srem n x y⟩,
   ⟨.remn, some .remnW, true, fun _ x y _ _ => urem x y⟩] ++
  [⟨.and, none, false, fun _ x y _ _ => (Nat.land x y : Nat)⟩,
   ⟨.or, none, false, fun _ x y _ _ => (Nat.lor x y : Nat)⟩,
   ⟨.xor, none, false, fun _ x y _ _ => (Nat.xor x y : Nat)⟩,
   ⟨.andn, none, false, fun n x y _ _ => (Nat.land x (2 ^ n - 1 - y) : Nat)⟩,
   ⟨.orn, none, false, fun n x y _ _ => (Nat.lor x (2 ^ n - 1 - y) : Nat)⟩,
   ⟨.sll, some .sllW, false, fun n x y _ _ => (x * 2 ^ (y % n) : Nat)⟩,
   ⟨.srl, some .srlW, false, fun n x y _ _ => (x / 2 ^ (y % n) : Nat)⟩,
   ⟨.sra, some .sraW, false, fun n _ y x _ => x / 2 ^ (y % n)⟩,
   ⟨.ror, some .rorW, false, fun n x y _ _ => (x / 2 ^ (y % n) + x % 2 ^ (y % n) * 2 ^ (n - y % n) : Nat)⟩] ++
  [⟨.min, some .minW, false, fun _ _ _ x y => Min.min x y⟩,
   ⟨.max, some .maxW, false, fun _ _ _ x y => Max.max x y⟩,
   ⟨.minn, some .minnW, false, fun _ x y _ _ => (Min.min x y : Nat)⟩,
   ⟨.maxn, some .maxnW, false, fun _ x y _ _ => (Max.max x y : Nat)⟩,
   ⟨.slt, some .sltW, false, fun _ _ _ x y => if x < y then 1 else 0⟩,
   ⟨.sltn, some .sltnW, false, fun _ x y _ _ => if x < y then 1 else 0⟩]

/-- The value a 64-bit form writes, and the value its .W form writes (R158). -/
def AluRow.val (r : AluRow) (x y : Word) : Word := BitVec.ofInt 64 (r.res 64 x.toNat y.toNat x.toInt y.toInt)
def AluRow.valW (r : AluRow) (x y : Word) : Word :=
  (BitVec.ofInt 32 (r.res 32 (x.toNat % 2 ^ 32) (y.toNat % 2 ^ 32) (sext 32 x.toNat) (sext 32 y.toNat))).signExtend 64

/-- Every instruction of Table 7.1 with its latency class and its value. -/
def aluForms : List (RegOp × Bool × (Word → Word → Word)) :=
  table71.map (fun r => (r.op, r.var, r.val)) ++ table71.filterMap fun r => r.opW.map fun o => (o, r.var, r.valW)

end Sys2Proof.Claims

open Sys2Proof Sys2Proof.Machine Sys2Proof.Claims


namespace Sys2Proof.Claims

/-! ## Immediates, shifts, bit counts and bit fields (R166 to R170) -/

/-- A number made of the bits that `f` gives, below bit n. -/
def ofBits (n : Nat) (f : Nat → Bool) : Nat := ((List.range n).map fun (i : Nat) => if f i then 2 ^ i else 0).sum

/-- An instruction with a destination and a source, and the value it writes. -/
abbrev UnaryForm := (Fin 32 → Fin 32 → Instr) × (Word → Word)

/-- R166: I is the immediate sign-extended, Z zero-extended. -/
def immForms (v : BitVec 15) : List UnaryForm :=
  let I : Int := v.toInt
  let Z : Nat := v.toNat
  [(fun d a => .addi d a v, fun x => BitVec.ofInt 64 (x.toNat + I)),
   (fun d a => .andi d a v, fun x => BitVec.ofNat 64 (Nat.land x.toNat Z)),
   (fun d a => .ori d a v, fun x => BitVec.ofNat 64 (Nat.lor x.toNat Z)),
   (fun d a => .xori d a v, fun x => BitVec.ofNat 64 (Nat.xor x.toNat Z)),
   (fun d a => .slti d a v, fun x => if x.toInt < I then 1 else 0),
   (fun d a => .sltni d a v, fun x => if (x.toNat : Int) < I % 2 ^ 64 then 1 else 0)]

/-- R167: the rows of Table 7.1 for SLL, SRL, SRA and ROR, with n in place of the amount. -/
def shiftForms (n : Fin 64) : List UnaryForm :=
  [(fun d a => .slli d a n, fun x => BitVec.ofNat 64 (x.toNat * 2 ^ n.val)),
   (fun d a => .srli d a n, fun x => BitVec.ofNat 64 (x.toNat / 2 ^ n.val)),
   (fun d a => .srai d a n, fun x => BitVec.ofInt 64 (x.toInt / 2 ^ n.val)),
   (fun d a => .rori d a n, fun x => BitVec.ofNat 64 (x.toNat / 2 ^ n.val + x.toNat % 2 ^ n.val * 2 ^ (64 - n.val)))]
def shiftFormsW (n : Fin 32) : List UnaryForm :=
  let A (x : Word) : Nat := x.toNat % 2 ^ 32
  let wr (r : Int) : Word := (BitVec.ofInt 32 r).signExtend 64
  [(fun d a => .slliW d a n, fun x => wr (A x * 2 ^ n.val : Nat)),
   (fun d a => .srliW d a n, fun x => wr (A x / 2 ^ n.val : Nat)),
   (fun d a => .sraiW d a n, fun x => wr (sext 32 x.toNat / 2 ^ n.val)),
   (fun d a => .roriW d a n, fun x => wr (A x / 2 ^ n.val + A x % 2 ^ n.val * 2 ^ (32 - n.val) : Nat))]

/-- R169. -/
def bitForms : List UnaryForm :=
  [(.clz, BitVec.clz), (.ctz, BitVec.ctz), (.popc, BitVec.cpop), (.brev, BitVec.reverse),
   (.bswap, fun x => BitVec.ofNat 64 (ofBits 64 fun i => x.getLsbD (8 * (7 - i / 8) + i % 8)))]

/-- Position and width of the field that g(b) describes, and BitField (R170). -/
def fP (y : Word) : Nat := y.toNat % 64
def fL (y : Word) : Nat := y.toNat / 2 ^ 8 % 128
def field (x y : Word) : Nat := x.toNat / 2 ^ fP y % 2 ^ min (fL y) 64
def bfxValue (x y : Word) : Word :=
  let E := min (fL y) 64
  if fL y = 0 then 0 else BitVec.ofInt 64 (if field x y / 2 ^ (E - 1) % 2 = 1 then (field x y : Int) - 2 ^ E else field x y)
def bfiValue (x y z : Word) : Word :=
  BitVec.ofNat 64 (ofBits 64 fun j => if fP y ≤ j ∧ j < fP y + fL y then x.getLsbD (j - fP y) else z.getLsbD j)

/-! ## Message headers (R171 to R173) -/

/-- FPOS and FWID of a field of a layout in a core's table. -/
def desc (k : Core) (n j : Nat) : Nat × Nat :=
  let d := (k.layout.toList.getD (8 * n + j) 0).toNat
  (d % 64, d / 64 % 32)
/-- Bit i of Slot(k, X, Y). -/
def slotBit (j : Nat) (x y : Word) (i : Nat) : Bool :=
  i < 16 && (if j < 4 then x.getLsbD (16 * j + i) else y.getLsbD (16 * (j - 4) + i))
/-- The header word of HPACK: at each bit the last field that holds it. -/
def header (k : Core) (n : Nat) (x y : Word) : Word :=
  BitVec.ofNat 64 (ofBits 64 fun b => (List.range 8).foldl (fun (v : Bool) j =>
    let (p, w) := desc k n j
    if p ≤ b ∧ b < p + w then slotBit j x y (b - p) else v) false)
/-- The four fields from field j0 on of a header word, 16 bits each. -/
def fields4 (k : Core) (n : Nat) (h : Word) (j0 : Nat) : Word :=
  BitVec.ofNat 64 (((List.range 4).map fun i =>
    let (p, w) := desc k n (j0 + i)
    h.toNat / 2 ^ p % 2 ^ w % 2 ^ 16 * 2 ^ (16 * i)).sum)

/-! ## Predicates (R174 to R176) -/

/-- Cond of R174. -/
def condVal : Cond → Word → Word → Bool
  | .eq, x, y => decide (x.toNat = y.toNat)
  | .ne, x, y => decide (x.toNat ≠ y.toNat)
  | .lt, x, y => decide (x.toInt < y.toInt)
  | .ge, x, y => decide (x.toInt ≥ y.toInt)
  | .ltn, x, y => decide (x.toNat < y.toNat)
  | .gen, x, y => decide (x.toNat ≥ y.toNat)
/-- op of R175. -/
def plogVal : PLogOp → Bool → Bool → Bool
  | .and, a, b => a && b
  | .or, a, b => a || b
  | .xor, a, b => a != b
  | .andn, a, b => a && !b
  | .orn, a, b => a || !b
  | .xnor, a, b => a == b

/-- The conditional branches with their conditions (R178). -/
def branchForms : List ((Fin 32 → Fin 32 → BitVec 15 → Instr) × Cond) :=
  [(.beq, .eq), (.bne, .ne), (.blt, .lt), (.bge, .ge), (.bltn, .ltn), (.bgen, .gen)]

end Sys2Proof.Claims

/-- R163 and R164: each instruction of Table 7.1 reads its two sources in order, writes the table's value to its destination and completes, in fixed
or variable latency as R165 says. -/
def Obligations.IntegerRegisterResult : Prop :=
  ∀ f ∈ aluForms, ∀ (d a b : Fin 32) (s s1 s2 : State) (x y : Word),
    open_ s (f.1 d a b) → s.readG s.who a = .ok (x, s1) → s1.readG s.who b = .ok (y, s2) → s2.chkDst s.who d = .ok () →
    exec (f.1 d a b) s = .next (ended f.2.1 (f.1 d a b) s.who (s2.writeG s.who d (f.2.2 x y)))

/-- R166, R167 and R169: the immediate forms, the shifts by an amount and the bit operations write the value of their rule and retire. R168: LUI
writes imm20 sign-extended times 2^15, and AUIPC that sum with the PC. R170: BFX, BFXN and BFI take or replace the field that g(b) describes; BFI
reads d after a and b. -/
def Obligations.ImmediateBitAndFieldResult : Prop :=
  (
  ∀ (v : BitVec 15) (n : Fin 64) (n' : Fin 32), ∀ f ∈ immForms v ++ shiftForms n ++ shiftFormsW n' ++ bitForms,
    ∀ (d a : Fin 32) (s s1 : State) (x : Word),
    open_ s (f.1 d a) → s.readG s.who a = .ok (x, s1) → s1.chkDst s.who d = .ok () →
    exec (f.1 d a) s = .next ((s1.writeG s.who d (f.2 x)).retire s.who (f.1 d a))) ∧ (
  ∀ (d : Fin 32) (v : BitVec 20) (s : State), s.chkDst s.who d = .ok () →
    (open_ s (.lui d v) → exec (.lui d v) s = .next ((s.writeG s.who d (BitVec.ofInt 64 (v.toInt * 2 ^ 15))).retire s.who (.lui d v))) ∧
    (open_ s (.auipc d v) → exec (.auipc d v) s =
      .next ((s.writeG s.who d (BitVec.ofInt 64 ((s.th s.who).pc.toNat + v.toInt * 2 ^ 15))).retire s.who (.auipc d v)))) ∧ (
  ∀ (d a b : Fin 32) (s s1 s2 : State) (x y : Word), s.readG s.who a = .ok (x, s1) → s1.readG s.who b = .ok (y, s2) →
    (open_ s (.bfx d a b) → s2.chkDst s.who d = .ok () →
      exec (.bfx d a b) s = .next ((s2.writeG s.who d (bfxValue x y)).retire s.who (.bfx d a b))) ∧
    (open_ s (.bfxn d a b) → s2.chkDst s.who d = .ok () →
      exec (.bfxn d a b) s = .next ((s2.writeG s.who d (BitVec.ofNat 64 (field x y))).retire s.who (.bfxn d a b))) ∧
    ∀ (z : Word) (s3 : State), open_ s (.bfi d a b) → s2.readG s.who d = .ok (z, s3) → s3.chkDst s.who d = .ok () →
      exec (.bfi d a b) s = .next ((s3.writeG s.who d (bfiValue x y z)).retire s.who (.bfi d a b)))

/-- R173: HPACK assembles a header word from eight slots by a layout of the core's table; HPARSE takes one apart and writes g(d), then g(b). R172: in
the system slot HLTW writes descriptor Bits(g(a), 5, 0) of the core's table, which then differs from the launch's image (R171); a refused operand is a
fault of the system slot, which R99 makes a machine check. -/
def Obligations.HeaderWords : Prop :=
  (
  ∀ (d a b : Fin 32) (n : Fin 8) (s s1 : State) (x : Word), s.readG s.who a = .ok (x, s1) →
    (∀ (y : Word) (s2 : State), open_ s (.hpack d a b n) → s1.readG s.who b = .ok (y, s2) → s2.chkDst s.who d = .ok () →
      exec (.hpack d a b n) s =
        .next ((s2.writeG s.who d (header (s.core s.who.core) n.val x y)).retire s.who (.hpack d a b n))) ∧
    (let s2 := s1.writeG s.who d (fields4 (s.core s.who.core) n.val x 0)
     open_ s (.hparse d a b n) → s1.chkDst s.who d = .ok () → s2.chkDst s.who b = .ok () →
      exec (.hparse d a b n) s =
        .next ((s2.writeG s.who b (fields4 (s.core s.who.core) n.val x 4)).retire s.who (.hparse d a b n)))) ∧ (
  ∀ (a b : Fin 32) (s s1 s2 : State) (x y : Word), s.who.slot = 15 → open_ s (.hltw a b) →
    s.readG s.who a = .ok (x, s1) → s1.readG s.who b = .ok (y, s2) →
    exec (.hltw a b) s = .next (
      if x.toNat < 64 ∧ y.toNat < 2 ^ 11 ∧ y.toNat / 64 ≤ 16 ∧ y.toNat % 64 + y.toNat / 64 ≤ 64 then
        (s2.updCore s.who.core fun k => { k with layout := k.layout.set (x.toNat % 64) (BitVec.ofNat 16 y.toNat), layoutDirty := true }).retire s.who (.hltw a b)
      else s.systemFault s.who.core (encodeWord (.hltw a b))))

/-- R174 to R176: the predicate instructions and SEL, with SEL's encoding. -/
def Obligations.PredicateResult : Prop :=
  ∀ s : State,
    (∀ (p : Fin 16) (a b : Fin 32) (c : Cond) (s1 s2 : State) (x y : Word), open_ s (.pcmp p a b c) →
      s.readG s.who a = .ok (x, s1) → s1.readG s.who b = .ok (y, s2) →
      exec (.pcmp p a b c) s = .next ((s2.writeP s.who p (condVal c x y)).retire s.who (.pcmp p a b c))) ∧
    (∀ (p : Fin 16) (a : Fin 32) (c : Cond) (v : BitVec 12) (s1 : State) (x : Word), open_ s (.pcmpi p a c v) →
      s.readG s.who a = .ok (x, s1) →
      exec (.pcmpi p a c v) s = .next ((s1.writeP s.who p (condVal c x (BitVec.ofInt 64 v.toInt))).retire s.who (.pcmpi p a c v))) ∧
    (∀ (d a b : Fin 16) (o : PLogOp),
      exec (.plog d a b o) s = .next ((s.writeP s.who d (plogVal o (s.readP s.who a) (s.readP s.who b))).retire s.who (.plog d a b o))) ∧
    (∀ d : Fin 32, open_ s (.ptog d) → s.chkDst s.who d = .ok () → exec (.ptog d) s =
      .next ((s.writeG s.who d (BitVec.ofNat 64 (ofBits 16 fun i => decide (i = 0) || (s.th s.who).p.getLsbD i))).retire s.who (.ptog d))) ∧
    (∀ (a : Fin 32) (s1 : State) (x : Word), open_ s (.gtop a) → s.readG s.who a = .ok (x, s1) → exec (.gtop a) s =
      .next ((s1.updTh s.who fun t => { t with p := BitVec.ofNat 16 (ofBits 16 fun i => decide (i ≠ 0) && x.getLsbD i) }).retire s.who (.gtop a))) ∧
    (∀ (d a b : Fin 32) (n : Fin 16) (s1 s2 : State) (x y : Word), open_ s (.sel d a b n) →
      s.readG s.who a = .ok (x, s1) → s1.readG s.who b = .ok (y, s2) → s2.chkDst s.who d = .ok () →
      exec (.sel d a b n) s = .next ((s2.writeG s.who d (if s.readP s.who n then x else y)).retire s.who (.sel d a b n))) ∧
    (∀ (d a b : Fin 32) (n : Fin 16),
      encode (.sel d a b n) = 0x0B * 2 ^ 25 + d.val * 2 ^ 20 + a.val * 2 ^ 15 + b.val * 2 ^ 10 + (0x020 + n.val))

/-- R178 and R179: a branch goes to PC + 4 × the signed offset where its condition or predicate holds, else to PC + 4. R180: JAL and JALR link PC + 4
and jump; JALR to a target that is not a multiple of 4 takes a misalignment fault and writes nothing. R229: TRAP n takes a system-call trap with SUB
n, and BRK a breakpoint trap, each on itself. -/
def Obligations.ControlTransfer : Prop :=
  (
  ∀ (s : State) (o : BitVec 15),
    (∀ f ∈ branchForms, ∀ (a b : Fin 32) (s1 s2 : State) (x y : Word), open_ s (f.1 a b o) →
      s.readG s.who a = .ok (x, s1) → s1.readG s.who b = .ok (y, s2) →
      exec (f.1 a b o) s = .next (s2.retireTo s.who (f.1 a b o)
        (if condVal f.2 x y then BitVec.ofInt 64 ((s.th s.who).pc.toNat + 4 * o.toInt) else (s.th s.who).pc + 4))) ∧
    ∀ p : Fin 16,
      exec (.bp p o) s = .next (s.retireTo s.who (.bp p o)
        (if s.readP s.who p then BitVec.ofInt 64 ((s.th s.who).pc.toNat + 4 * o.toInt) else (s.th s.who).pc + 4)) ∧
      exec (.bnp p o) s = .next (s.retireTo s.who (.bnp p o)
        (if s.readP s.who p then (s.th s.who).pc + 4 else BitVec.ofInt 64 ((s.th s.who).pc.toNat + 4 * o.toInt)))) ∧ (
  ∀ (d : Fin 32) (s : State),
    (∀ o : BitVec 20, open_ s (.jal d o) → s.chkDst s.who d = .ok () → exec (.jal d o) s =
      .next ((s.writeG s.who d ((s.th s.who).pc + 4)).retireTo s.who (.jal d o) (BitVec.ofInt 64 ((s.th s.who).pc.toNat + 4 * o.toInt)))) ∧
    ∀ (a : Fin 32) (s1 : State) (t : Word), open_ s (.jalr d a) → s.readG s.who a = .ok (t, s1) →
      (t.toNat % 4 = 0 → s1.chkDst s.who d = .ok () →
        exec (.jalr d a) s = .next ((s1.writeG s.who d ((s.th s.who).pc + 4)).retireTo s.who (.jalr d a) t)) ∧
      (t.toNat % 4 ≠ 0 → exec (.jalr d a) s = trapped s (.jalr d a) 0x05 t)) ∧ (
  ∀ (s : State) (n : Fin 256),
    exec (.trap n) s = .next (s.takeTrap s.who 0x12 false n.val (encodeWord (.trap n)) (s.th s.who).pc false) ∧
    exec .brk s = .next (s.takeTrap s.who 0x13 false 0 (encodeWord .brk) (s.th s.who).pc false))

namespace Sys2Proof.Claims

/-! ## Loads, stores, atomics (R159, R182 to R190) -/

/-- A load of `n` bytes at `va`, of which `s1` is the state after its address operands (R159, R182): misaligned it traps; else it writes the
extended little-endian value to d, discarding it for g0, where the place is open to it and at hand; the line stands in the core's caches then
(R41, R42). -/
def Loads (i : Instr) (d : Fin 32) (n : Nat) (signed : Bool) (s s1 : State) (va : Word) : Prop :=
  (va.toNat % n ≠ 0 → exec i s = trappedAt s i va 0x05 va) ∧
  (va.toNat % n = 0 → s1.chkDst s.who d = .ok () → ∀ (l : Loc) (bs : List Byte),
    s1.place s.who .load va.toNat n = .ok l → remoteHome s.who l = none → s1.loadAt s.who va.toNat l n = .ok bs → bs.length = n →
    let v := BitVec.ofNat (8 * n) (natOf bs)
    exec i s = .next ((((s1.cached s.who va.toNat n false l).traceAt s.who 0 va.toNat l).writeG s.who d
      (if signed then v.signExtend 64 else v.setWidth 64)).retireAt s.who i l))

/-- A store of the low `n` bytes of g(d), of which `s1` is the state after its address operands and `s2` that after g(d) (R159, R183). -/
def Stores (i : Instr) (d : Fin 32) (n : Nat) (s s1 : State) (va : Word) : Prop :=
  s1.storeAllowed s.who i va.toNat n = .ok () →
  (va.toNat % n ≠ 0 → exec i s = trappedAt s i va 0x05 va) ∧
  (va.toNat % n = 0 → ∀ (v : Word) (s2 : State) (l : Loc), s1.readG s.who d = .ok (v, s2) → s1.place s.who .store va.toNat n = .ok l →
    remoteHome s.who l = none →
    exec i s = .next ((((s2.cached s.who va.toNat n true l).traceAt s.who 1 va.toNat l).storeAt s.who l (bytesOf n v.toNat)).retireAt s.who i l))

/-- Bytes of a size code (Table 6.2). -/
def bytesZ : Sz → Nat | .b => 1 | .h => 2 | .w => 4 | .d => 8
def bytesN : SzN → Nat | .b => 1 | .h => 2 | .w => 4
def bytesX : SzX → Nat | .s z => bytesZ z | .n z => bytesN z
def signedX : SzX → Bool | .s _ => true | .n _ => false

/-- The private atomics with Amo of R189: the new word from M, Bv and Dv at n bits; `none` where nothing is written. -/
def amoForms : List ((Fin 32 → Fin 32 → Fin 32 → SzA → Instr) × Bool × (Nat → Nat → Nat → Nat → Option Nat)) :=
  let S (n x : Nat) : Int := if x < 2 ^ (n - 1) then x else (x : Int) - 2 ^ n
  [(.amoadd, false, fun n m b _ => some ((m + b) % 2 ^ n)), (.amoand, false, fun _ m b _ => some (Nat.land m b)),
   (.amoor, false, fun _ m b _ => some (Nat.lor m b)), (.amoxor, false, fun _ m b _ => some (Nat.xor m b)),
   (.amomin, false, fun n m b _ => some (if S n m ≤ S n b then m else b)), (.amomax, false, fun n m b _ => some (if S n m ≤ S n b then b else m)),
   (.amoswp, false, fun _ _ b _ => some b), (.amocas, true, fun _ m b d => if m = d then some b else none)]

def bytesA : SzA → Nat | .w => 4 | .d => 8

/-- An access whose line has another home: a remote word access there, or, for a load or store of memory where the predictor and the thread allow it, a
migration of the thread to that home (R40, R43). Either way it has no effect here. -/
def leaves (s : State) (i : Instr) (migrates : Bool) (l : Loc) (h : Nat) : Host.Outcome State Fault Refusal :=
  .next (if migrates && l.isMem && s.mayMigrate s.who h then (s.waitBusy s.who i (.locality [h])).post [.localityMigration s.who.core s.who.slot h]
    else ((s.noteRemote s.who h).waitBusy s.who i .remote).post [.remoteWordAccess s.who.core s.who.slot])

/-- A load, and a store, of which `s1` is the state after the address operands, at a place with another home. -/
def LoadLeaves (i : Instr) (d : Fin 32) (n : Nat) (s s1 : State) (va : Word) : Prop :=
  va.toNat % n = 0 → s1.chkDst s.who d = .ok () → ∀ (l : Loc) (h : Nat), s1.place s.who .load va.toNat n = .ok l → remoteHome s.who l = some h →
    exec i s = leaves s i true l h
def StoreLeaves (i : Instr) (d : Fin 32) (n : Nat) (s s1 : State) (va : Word) : Prop :=
  va.toNat % n = 0 → s1.storeAllowed s.who i va.toNat n = .ok () → ∀ (v : Word) (s2 : State) (l : Loc) (h : Nat), s1.readG s.who d = .ok (v, s2) →
    s1.place s.who .store va.toNat n = .ok l → remoteHome s.who l = some h → exec i s = leaves s i true l h

/-- A store of a speculative task outside its state window. -/
def StoreUnsaved (i : Instr) (n : Nat) (s s1 : State) (va : Word) : Prop :=
  let t := s1.th s.who
  s1.spec s.who = true → ¬ (t.stwb.toNat ≤ va.toNat ∧ va.toNat + n ≤ t.stwb.toNat + t.stwl.toNat) → exec i s = trappedAt s i va 0x08 (encodeWord i)

/-- Instructions beside those of Table 7.1, each with the general registers that it names. -/
def boundForms (d a b : Fin 32) (n : Fin 64) (n' : Fin 32) (v : BitVec 15) (o : BitVec 12) (u : BitVec 20) : List (Instr × List (Fin 32)) :=
  (immForms v ++ shiftForms n ++ shiftFormsW n' ++ bitForms).map (fun f => (f.1 d a, [d, a]))
  ++ [(.lui d u, [d]), (.auipc d u, [d]), (.bfx d a b, [d, a, b]), (.bfxn d a b, [d, a, b]), (.bfi d a b, [d, a, b]), (.hpack d a b 0, [d, a, b]),
      (.hparse d a b 0, [d, a, b]), (.pcmp 1 a b .lt, [a, b]), (.pcmpi 1 a .lt o, [a]), (.ptog d, [d]), (.gtop a, [a]), (.sel d a b 1, [d, a, b])]
  ++ branchForms.map (fun f => (f.1 a b v, [a, b]))
  ++ [(.jal d u, [d]), (.jalr d a, [d, a]), (.ld d a .d o, [d, a]), (.ldn d a .w o, [d, a]), (.st d a .d o, [d, a]), (.ldx d a b (.s .d), [d, a, b]),
      (.stx d a b .d, [d, a, b]), (.publish a b, [a, b])]
  ++ amoForms.map (fun f => (f.1 d a b .d, [d, a, b]))
  ++ [(.ljoin a b, [a, b]), (.ljoinR a b, [a, b]), (.lfill a b, [a, b]), (.lfillm a b 0, [a, b]), (.lfillv a 0, [a]), (.lesum a b .f64, [a, b]),
      (.lfrz d a, [d, a]), (.lfrza a, [a]), (.lwait d a b 0 .val, [d, a, b]), (.lwaitf d a b, [d, a, b]), (.lxrd d a, [d, a]), (.lxrdv 0 a, [a]),
      (.vtset a, [a]), (.widf d 0, [d]), (.migr d a, [d, a]), (.twait a, [a])]

/-! ## CSRs (Table 8.9) -/

/-- The CSRs a program may always write, the banked ones, and the system slot's own. -/
def csrProgram : List Nat := [0x002, 0x012, 0x013, 0x014]
def csrBanked : List Nat := [0x040, 0x041, 0x042, 0x043, 0x044, 0x045, 0x046, 0x047]
def csrOwn : List Nat := [0x080, 0x081, 0x082, 0x083]
/-- The CSRs nobody writes. -/
def csrFixed : List Nat := [0x001, 0x008, 0x009, 0x00A, 0x00B, 0x00C, 0x00D, 0x00E, 0x00F, 0x010, 0x011, 0x015, 0x020, 0x021, 0x022, 0x023]
/-- Whether the issuing slot may write a CSR. -/
def csrMayWrite (w : Who) (c : Nat) : Prop := c ∈ csrProgram ∨ (w.slot = 15 ∧ (c ∈ csrBanked ∨ c ∈ csrOwn))

/-- What a CSR keeps of a written value: reserved bits ignore writes (R6), and a weight of zero is stored as one (Table 1.11). -/
def csrKept (c : Nat) (v : Word) : Word :=
  if c = 0x041 then v &&& 0xFF7F#64
  else if c = 0x083 then v &&& 1
  else if c = 0x082 then BitVec.ofNat 64 (((List.range 8).map fun (k : Nat) => max 1 (v.toNat / 16 ^ k % 16) * 16 ^ k).sum)
  else v

end Sys2Proof.Claims

/-- R158 and R64: a task that holds uncommitted history takes an unsaved-state fault on a bound register, in each form of Table 7.1 and in the other
scalar, memory and lattice instructions. R79: a speculative task's store outside its state window, ST or STX, takes an unsaved-state fault and writes
nothing. -/
def Obligations.UnsavedState : Prop :=
  (
  ∀ (d a b r : Fin 32) (s : State), s.history s.who = true → ((s.th s.who).binding r).isSome →
    (∀ f ∈ aluForms, r ∈ [a, b, d] → exec (f.1 d a b) s = trapped s (f.1 d a b) 0x08 (encodeWord (f.1 d a b))) ∧
    (∀ (n : Fin 64) (n' : Fin 32) (v : BitVec 15) (o : BitVec 12) (u : BitVec 20), ∀ f ∈ boundForms d a b n n' v o u, r ∈ f.2 →
      exec f.1 s = trapped s f.1 0x08 (encodeWord f.1))) ∧ (
  ∀ (s : State) (d a : Fin 32) (z : Sz) (s1 : State) (x : Word), s.readG s.who a = .ok (x, s1) →
    (∀ o : BitVec 12, open_ s (.st d a z o) → StoreUnsaved (.st d a z o) (bytesZ z) s s1 (BitVec.ofInt 64 (x.toNat + o.toInt * bytesZ z))) ∧
    (∀ (b : Fin 32) (s2 : State) (y : Word), open_ s (.stx d a b z) → s1.readG s.who b = .ok (y, s2) →
      StoreUnsaved (.stx d a b z) (bytesZ z) s s2 (BitVec.ofInt 64 (x.toNat + y.toInt * bytesZ z))))

/-- R182 and R184: LD and LDN at g(a) + off × size, LDX at g(a) + g(b) × size. R183 and R184: ST and STX write the low bytes of g(d), which is read
after the address operands. R40 and R43: a load or store whose line has another home becomes a remote word access there, or, where the predictor and
the thread allow it, a migration of the thread to that home; another core's local memory is always reached by remote word accesses. Either way there
is no effect here. Corners that are the model's choice: log entry 26. -/
def Obligations.LoadAndStoreResult : Prop :=
  (
  ∀ (s : State) (d a : Fin 32) (s1 : State) (x : Word), s.readG s.who a = .ok (x, s1) →
    (∀ (z : Sz) (o : BitVec 12), open_ s (.ld d a z o) →
      Loads (.ld d a z o) d (bytesZ z) true s s1 (BitVec.ofInt 64 (x.toNat + o.toInt * bytesZ z))) ∧
    (∀ (z : SzN) (o : BitVec 12), open_ s (.ldn d a z o) →
      Loads (.ldn d a z o) d (bytesN z) false s s1 (BitVec.ofInt 64 (x.toNat + o.toInt * bytesN z))) ∧
    (∀ (z : SzX) (b : Fin 32) (s2 : State) (y : Word), open_ s (.ldx d a b z) → s1.readG s.who b = .ok (y, s2) →
      Loads (.ldx d a b z) d (bytesX z) (signedX z) s s2 (BitVec.ofInt 64 (x.toNat + y.toInt * bytesX z)))) ∧ (
  ∀ (s : State) (d a : Fin 32) (s1 : State) (x : Word) (z : Sz), s.readG s.who a = .ok (x, s1) →
    (∀ o : BitVec 12, open_ s (.st d a z o) →
      Stores (.st d a z o) d (bytesZ z) s s1 (BitVec.ofInt 64 (x.toNat + o.toInt * bytesZ z))) ∧
    (∀ (b : Fin 32) (s2 : State) (y : Word), open_ s (.stx d a b z) → s1.readG s.who b = .ok (y, s2) →
      Stores (.stx d a b z) d (bytesZ z) s s2 (BitVec.ofInt 64 (x.toNat + y.toInt * bytesZ z)))) ∧ (
  ∀ (s : State) (d a : Fin 32) (s1 : State) (x : Word), s.readG s.who a = .ok (x, s1) →
    (∀ (z : Sz) (o : BitVec 12), let va := BitVec.ofInt 64 (x.toNat + o.toInt * bytesZ z)
      (open_ s (.ld d a z o) → LoadLeaves (.ld d a z o) d (bytesZ z) s s1 va) ∧
      (open_ s (.st d a z o) → StoreLeaves (.st d a z o) d (bytesZ z) s s1 va)) ∧
    (∀ (z : SzN) (o : BitVec 12), open_ s (.ldn d a z o) →
      LoadLeaves (.ldn d a z o) d (bytesN z) s s1 (BitVec.ofInt 64 (x.toNat + o.toInt * bytesN z))) ∧
    (∀ (b : Fin 32) (s2 : State) (y : Word), s1.readG s.who b = .ok (y, s2) →
      (∀ z : SzX, open_ s (.ldx d a b z) → LoadLeaves (.ldx d a b z) d (bytesX z) s s2 (BitVec.ofInt 64 (x.toNat + y.toInt * bytesX z))) ∧
      (∀ z : Sz, open_ s (.stx d a b z) → StoreLeaves (.stx d a b z) d (bytesZ z) s s2 (BitVec.ofInt 64 (x.toNat + y.toInt * bytesZ z)))))

/-- R40, R189 and R190: an atomic returns the old word sign-extended and stores the new one; AMOCAS on a mismatch stores nothing; an access to a line
of the core itself counts as a remote access for the predictor, and one to a line or local memory of another core leaves as a remote word access.
Corners that are the model's choice: log entry 26. -/
def Obligations.AtomicResult : Prop :=
  ∀ f ∈ amoForms, ∀ (d a b : Fin 32) (z : SzA) (s : State),
    let i := f.1 d a b z
    let n := bytesA z
    open_ s i →
    (s.spec s.who = true → exec i s = trapped s i 0x08 (encodeWord i)) ∧
    (s.spec s.who = false → ∀ (s1 : State) (va : Word), s.readG s.who a = .ok (va, s1) →
      (va.toNat % n ≠ 0 → exec i s = trapped s i 0x05 va) ∧
      (va.toNat % n = 0 → ∀ (s2 s3 : State) (y x : Word) (l : Loc) (bs : List Byte), s1.readG s.who b = .ok (y, s2) →
        (if f.2.1 then s2.readG s.who d = .ok (x, s3) else x = 0 ∧ s3 = s2) → s3.chkDst s.who d = .ok () →
        s1.place s.who .atomic va.toNat n = .ok l →
        (∀ h, remoteHome s.who l = some h → exec i s = leaves s i false l h) ∧
        (remoteHome s.who l = none →
        let s4 := match l with | .mem t => if t.home = s.who.core then s3.noteRemote s.who t.home else s3 | .loc _ _ => s3
        s4.readAt l n = .ok bs → bs.length = n →
        let m := natOf bs
        let s5 := (match l with | .mem t => s4.sector t | .loc _ _ => s4).traceAt s.who 2 va.toNat l
        let s6 := match f.2.2 (8 * n) m (y.toNat % 2 ^ (8 * n)) (x.toNat % 2 ^ (8 * n)) with
          | some m' => s5.writeAt l (bytesOf n m')
          | none => s5
        exec i s = .next ((s6.writeG s.who d ((BitVec.ofNat (8 * n) m).signExtend 64)).retireVar s.who i))))

/-- R186 and R187: PUBLISH traps for a speculative task and on an unaligned range; otherwise, when its check pass succeeds, it makes the first PRIVATE
page FROZEN and sends the change of each other one to its home, and it completes at once where there is no other. R192: FENCE completes at once,
unless its mask names kind LT and a posted operation's home without reply lies within its scope: then it waits. Corners that are the model's choice:
log entry 38. -/
def Obligations.PublishAndFence : Prop :=
  (
  ∀ (s : State) (a b : Fin 32), open_ s (.publish a b) →
    (s.spec s.who = true → exec (.publish a b) s = trapped s (.publish a b) 0x08 (encodeWord (.publish a b))) ∧
    (s.spec s.who = false → ∀ (s1 : State) (x : Word), s.readG s.who a = .ok (x, s1) →
      (x.toNat % 4096 ≠ 0 → exec (.publish a b) s = trapped s (.publish a b) 0x05 x) ∧
      (x.toNat % 4096 = 0 → ∀ (s2 : State) (y : Word), s1.readG s.who b = .ok (y, s2) →
        (y.toNat % 4096 ≠ 0 → exec (.publish a b) s = trapped s (.publish a b) 0x05 x) ∧
        (y.toNat % 4096 = 0 → ∀ ps : List Xlat,
          s2.publishCheck s.who x.toNat y.toNat x.toNat (y.toNat / 4096) = .ok ps →
          let asid := (s2.at s.who).asid
          exec (.publish a b) s = .next (match ps with
            | [] => s2.retireVar s.who (.publish a b)
            | [p] => (s2.freezePage asid p.pa p.pte p.at_).retireVar s.who (.publish a b)
            | p :: q :: rest => ((s2.freezePage asid p.pa p.pte p.at_).waitBusy s.who (.publish a b) (.publish (rest.length + 1))).post
                ((q :: rest).map fun q => Event.publishPageChange s.who.core s.who.slot
                  ((s2.freezePage asid p.pa p.pte p.at_).at s.who).asid (BitVec.ofNat 64 q.pa))))))) ∧ (
  ∀ (s : State) (k : BitVec 6) (sc : Scope),
    let within (h : Nat) : Bool := match sc with
      | .thr | .core => decide (h = s.who.core)
      | .clu => decide (h / 8 = s.who.core / 8)
      | .die => decide (h / 192 = s.who.core / 192)
      | .pkg => decide (h < 1536)
      | .sys => true
    exec (.fence k sc) s = .next (if k.getLsbD 4 ∧ ∃ h ∈ (s.at s.who).posted, within h = true then s.waitBusy s.who (.fence k sc) (.replies true)
      else s.retireVar s.who (.fence k sc)))

/-- R227: a CSR access reads the old value into g(d), and CSRW, CSRS and CSRC write the new one; CSRS and CSRC with a = 0 write nothing. -/
def Obligations.CsrResult : Prop :=
  ∀ (s : State) (d a : Fin 32) (c : BitVec 12), (c.toNat < 0x080 ∨ s.who.slot = 15) →
    (open_ s (.csrr d c) → s.chkDst s.who d = .ok () →
      exec (.csrr d c) s = .next ((s.writeG s.who d (s.csrValue s.who c.toNat)).retire s.who (.csrr d c))) ∧
    (∀ i ∈ [Instr.csrs d 0 c, .csrc d 0 c], open_ s i → s.chkDst s.who d = .ok () →
      exec i s = .next ((s.writeG s.who d (s.csrValue s.who c.toNat)).retire s.who i)) ∧
    (csrMayWrite s.who c.toNat → (s.spec s.who = false ∨ c.toNat ∉ [0x012, 0x013, 0x014]) →
      ∀ (x : Word) (s1 : State), s.readG s.who a = .ok (x, s1) → s1.chkDst s.who d = .ok () →
      let t := s1.csrValue s.who c.toNat
      (open_ s (.csrw d a c) →
        exec (.csrw d a c) s = .next (((s1.csrPut s.who c.toNat x).writeG s.who d t).retire s.who (.csrw d a c))) ∧
      (a ≠ 0 → open_ s (.csrs d a c) →
        exec (.csrs d a c) s = .next (((s1.csrPut s.who c.toNat (t ||| x)).writeG s.who d t).retire s.who (.csrs d a c))) ∧
      (a ≠ 0 → open_ s (.csrc d a c) →
        exec (.csrc d a c) s = .next (((s1.csrPut s.who c.toNat (t &&& ~~~x)).writeG s.who d t).retire s.who (.csrc d a c))))

/-- R111: outside slot 15 a system-only instruction takes an illegal-instruction fault before any operand is read. R227: an access from a user slot to
a system-slot CSR, and a write of a CSR that is read-only for the slot, take an illegal-instruction fault; a speculative task's write of its window
takes an unsaved-state fault. Table 8.9: a CSR written reads back what it keeps of the value, and every other CSR but those of the bank that HSLOT
then names reads as before. A slot other than 15 reads its own bank; slot 15 that of HSLOT (R96). Corners that are the model's choice: log entry 47.
-/
def Obligations.Privilege : Prop :=
  (
  ∀ (s : State) (d a b : Fin 32), s.who.slot ≠ 15 →
    ∀ i ∈ [Instr.eret, .wfi, .ctxsv d a, .ctxld d a, .slotctl d a b, .xinv a b, .cinv a b, .hltw a b, .lstat d a],
      exec i s = trapped s i 0x01 (encodeWord i)) ∧ (
  ∀ (s : State) (d a : Fin 32) (c : BitVec 12),
    (c.toNat ∈ csrOwn → s.who.slot ≠ 15 → ∀ i ∈ [Instr.csrr d c, .csrw d a c, .csrs d a c, .csrc d a c],
      exec i s = trapped s i 0x01 (encodeWord i)) ∧
    (c.toNat ∈ csrFixed ++ csrBanked → (s.who.slot ≠ 15 ∨ c.toNat ∈ csrFixed) →
      exec (.csrw d a c) s = trapped s (.csrw d a c) 0x01 (encodeWord (.csrw d a c)) ∧
      (a ≠ 0 → ∀ i ∈ [Instr.csrs d a c, .csrc d a c], exec i s = trapped s i 0x01 (encodeWord i))) ∧
    (c.toNat ∈ [0x012, 0x013, 0x014] → s.spec s.who = true →
      exec (.csrw d a c) s = trapped s (.csrw d a c) 0x08 (encodeWord (.csrw d a c)))) ∧ (
  ∀ (s : State) (w : Who) (v : Word),
    (∀ c ∈ csrProgram ++ csrOwn ++ csrBanked.drop 1, (s.csrPut w c v).csrValue w c = csrKept c v) ∧
    (∀ c ∈ csrProgram ++ csrOwn ++ csrBanked.drop 1, ∀ c' ∈ csrFixed ++ csrProgram ++ csrOwn ++ csrBanked.drop 1, c' ≠ c →
      (s.csrPut w c v).csrValue w c' = s.csrValue w c') ∧
    (w.slot = 15 → (((s.csrPut w 0x040 v).csrValue w 0x040).toNat % 4 = v.toNat % 4) ∧
      ∀ c ∈ csrFixed ++ csrProgram ++ csrOwn ++ csrBanked.drop 1, (s.csrPut w 0x040 v).csrValue w c = s.csrValue w c) ∧
    (let bank : Slot := s.at (if w.slot = 15 then ⟨w.core, (s.core w.core).hslot⟩ else w)
     s.csrValue w 0x041 = bank.cause ∧ s.csrValue w 0x042 = bank.epc ∧ s.csrValue w 0x043 = bank.tval ∧ s.csrValue w 0x044 = bank.quantum ∧
      s.csrValue w 0x045 = bank.grbase ∧ s.csrValue w 0x046 = bank.grlen ∧ s.csrValue w 0x047 = bank.lfpc) ∧
    (s.csrValue w 0x020 = (if w.core < 1152 then 0x23F else 0x10B) ∧ s.csrValue w 0x021 = (if w.core < 1152 then 1024 else 512) ∧
      s.csrValue w 0x022 = BitVec.ofNat 64 s.gtime))

namespace Sys2Proof.Claims

/-! ## Lattice operations (R46 to R57, R194 to R209) -/

/-- An event at the head of those in transit acts on a state that holds the others. -/
def fires (e : Event) (s : State) : Host.Outcome State Fault Refusal := exec e.row { s with agenda := e :: s.agenda }

/-- An address that passes the issuing core's checks (R194). -/
def openAddr (va : Word) : Prop := va.toNat % 8 = 0 ∧ va.toNat < 2 ^ 54 ∧ va.toNat / 2 ^ 48 % 64 ≠ 63

/-- The check that it fails first: misalignment, page fault, kind fault. -/
def addrFault (va : Word) : Option Nat :=
  if va.toNat % 8 ≠ 0 then some 0x05 else if 2 ^ 54 ≤ va.toNat then some 0x09 else if va.toNat / 2 ^ 48 % 64 = 63 then some 0x0B else none

/-- The request of the thread whose turn it is. -/
def request (s : State) (op : LatOp) (va : Word) : LatReq :=
  ⟨op, (s.at s.who).asid, va, s.who.core, s.who.slot, (s.at s.who).task, (s.th s.who).codelet, (s.th s.who).pc, s.sweep % 2 == 1, s.latHome s.who va.toNat, none⟩

/-- An entry placed in the issuing core's commit queue under the key of the last message its task dequeued (R79, R80). -/
def queued (s : State) (act : CommitAct) : State :=
  s.updCore s.who.core fun k =>
    { k with commitq := k.commitq ++ [⟨(s.at s.who).task, s.who.slot, (s.th s.who).pc,
        (((s.task? (s.at s.who).task).bind Task.lastKey).getD ⟨0, 0, 0⟩), act⟩] }

/-- What a posted operation does, from `s`, where `s1` is the state after its operands: held in the commit queue of a task with history; the
seventeenth without a reply waits; else it is counted, recorded as unanswered and sent (R79, R89, R194). -/
def Posts (i : Instr) (s s1 : State) (op : LatOp) (va : Word) : Prop :=
  (s1.history s.who = true → (s1.core s.who.core).commitq.length < 64 →
    exec i s = .next ((queued s1 (.lattice (request s1 op va))).retireVar s.who i)) ∧
  (s1.history s.who = false → 16 ≤ (s1.at s.who).posted.length → exec i s = .next (s.waitBusy s.who i (.replies false))) ∧
  (s1.history s.who = false → (s1.at s.who).posted.length < 16 →
    exec i s = .next ((((s1.countSent (s1.at s.who).task.launch s.colour 1).upd s.who fun x =>
      { x with posted := x.posted ++ [s1.latHome s.who va.toNat] }).post [.latticeRequestApply (request s1 op va)]).retireVar s.who i))

/-- The posted operations of two registers, and what they ask of the cell. -/
def latForms : List ((Fin 32 → Fin 32 → Instr) × (Word → LatOp)) :=
  [(.ljoin, .join), (.lfill, .fill), (fun a b => .lesum a b .f32, .esum .f32), (fun a b => .lesum a b .f64, .esum .f64),
   (fun a b => .lesum a b .i64, .esum .i64)]

/-- A cell after an operation: unchanged where the operation gives it nothing new. -/
def after (ar : Arena) (op : LatOp) (c : Fin 8 × List Byte) : Fin 8 × List Byte :=
  match (latRes ar c.1 c.2 op).new with
  | some (bs, k) => (k, bs)
  | none => c

/-- The registers an instruction of a slot names are open to it (R64, R158). -/
def open_' (s : State) (w : Who) (i : Instr) : Prop := s.chkOps w i = .ok ()

/-- The trigger set that an LWAIT or LARM of suffix `k` gives the cell's home, from the values of its registers: .VAL and .MASK the values
themselves, .FROZEN none of them, and for a 256-byte UNION one register that addresses the mask in local memory (R50, Table 8.5). -/
def Triggers (s : State) (w : Who) (ar : Arena) (k : TrigK) (xs : List Word) (t : Trig) : Prop :=
  if k = .mask ∧ ar.kind = 6 ∧ ar.size = 4 ∧ xs.length = 1 then
    ∃ core off : Nat, s.localSource w (xs.headD 0).toNat 256 32 = .ok (.loc core off) ∧ t = ⟨.mask, xs, s.lread core off 256⟩
  else t = ⟨match k with | .val => .val | .mask => .mask | .frozen => .frozen, xs, []⟩

/-- The same at the home, where such a mask is the one that was read at issue and sent (R205). -/
def Arrived (s : State) (w : Who) (ar : Arena) (k : TrigK) (xs : List Word) (t : Trig) : Prop :=
  if k = .mask ∧ ar.kind = 6 ∧ ar.size = 4 ∧ xs.length = 1 then (s.at w).trig = some t
  else t = ⟨match k with | .val => .val | .mask => .mask | .frozen => .frozen, xs, []⟩

/-- The trigger sets that Table 8.5 and R50 admit at a cell. -/
def admits (ar : Arena) (t : Trig) : Prop :=
  match t.kind with
  | .frozen => t.vals.length = 1
  | .filled => ar.kind = 8
  | .mask => ar.kind = 6 ∧ (if ar.size = 2 then t.vals.length = 4 else t.vals.length = 1)
  | .val => ar.kind ≠ 6 ∧ (if ar.kind = 8 then ar.size = 0 ∧ 1 ≤ t.vals.length ∧ t.vals.length ≤ 4 ∧ t.vals.Nodup
      else t.vals.length = 1 ∧ (ar.kind = 4 ∨ ar.kind = 5 → ∀ v ∈ t.vals, v.toNat % 2 ^ 63 ≤ 0x7FF0000000000000))

/-- A threshold read outstanding in a slot, at the home of its cell: resolved by a status it completes with what `done` writes; else it is recorded
with its trigger set and its task parks, and a codelet takes a codelet-park fault (R52, R206). -/
def AtHome (s : State) (w : Who) (i : Instr) (c : Cell) (code : Fin 8) (bs : List Byte) (kind : Nat) (t : Trig) (done : Word → State) : Prop :=
  let home : Host.Outcome State Fault Refusal := fires (.thresholdReadAtHome w.core w.slot) s
  (∀ st, firstStatus c.ar code bs t = some st → home = .next ((done st).retireVar w i)) ∧
  (firstStatus c.ar code bs t = none →
    ((s.th w).codelet = true → home = .next (s.takeTrap w 0x0D false 0 (encodeWord i) (s.th w).pc true)) ∧
    (∀ s', (s.th w).codelet = false →
      s.addWaiter c ⟨c.ar.asid, BitVec.ofNat 64 c.va, t, kind, none, w.core, w.slot, (s.at w).task, (s.th w).pc, none⟩ = some s' →
      home = .next (s'.parkSlot w i (.cell kind c.ar.asid (BitVec.ofNat 64 c.va) t))))

/-- The order of FP64 encodings that are not NaN: by sign and magnitude, with −0 below +0 (R46). -/
def orderKey (x : Word) : Int := if x.toNat < 2 ^ 63 then x.toNat else -((x.toNat : Int) - 2 ^ 63) - 1
def isNaN (x : Word) : Prop := x.toNat % 2 ^ 63 > 0x7FF0000000000000

/-- Cells that no reader tells apart: a CONFLICT cell delivers no value (R51, R208). -/
def alike (c c' : Fin 8 × List Byte) : Prop := c.1 = c'.1 ∧ (c.1 ≠ 4 → c.2 = c'.2)

/-- Operations of one kind that may reach a cell in either order: two joins, two contributions within the guard, two whole fills. -/
def orderFree (ar : Arena) (c : Fin 8 × List Byte) : LatOp → LatOp → Prop
  | .join _, .join _ => True
  | .esum _ _, .esum _ _ => natOf c.2 / 2 ^ 88 % 2 ^ 24 + 2 < 2 ^ ar.gbits
  | .fill _, .fill _ => True
  | _, _ => False

end Sys2Proof.Claims

/-- R54 and R57: operations of one kind on one cell leave the same cell in whichever order they arrive, while it is not frozen between them. R57: a
frozen cell keeps its state and value under every operation; an operation that would change it, every contribution among them, is refused as write-
after-freeze (R199, R200); and only an OPEN cell enters CONFLICT. -/
def Obligations.LatticeLaws : Prop :=
  (
  ∀ (ar : Arena) (c : Fin 8 × List Byte) (o o' : LatOp), c.1.val ≤ 4 → c.2.length = cellBytes ar.size →
    (ar.kind ≠ 6 → ar.kind ≠ 8 → ar.kind ≠ 9 → ar.size = 0) → (ar.kind = 9 → ar.size = 1 ∧ ar.gbits ≤ 24 ∧ natOf c.2 < 2 ^ 112) →
    orderFree ar c o o' → alike (after ar o' (after ar o c)) (after ar o (after ar o' c))) ∧ (
  ∀ (ar : Arena) (k : Fin 8) (bs : List Byte) (op : LatOp),
    (k = 2 ∨ k = 3 → after ar op (k, bs) = (k, bs) ∧ ((latRes ar k bs op).ans = 0 ∨ (latRes ar k bs op).ans = 0x0E ∨
      (latRes ar k bs op).ans = 0x0B ∨ (op = .frz ∨ op = .frza) ∧ (latRes ar k bs op).ans = 1) ∧
      (op ≠ .frz → op ≠ .frza → after ar op (k - 2, bs) ≠ (k - 2, bs) → (latRes ar k bs op).ans = 0x0E) ∧
      (∀ t x, op = .esum t x → ar.kind = 9 → (latRes ar k bs op).ans = 0x0E)) ∧
    (k = 4 → (∀ t x, op ≠ .esum t x) → after ar op (k, bs) = (k, bs)) ∧
    (k.val ≤ 4 → (after ar op (k, bs)).1 = 4 → k = 4 ∨ k.val ≤ 1))

/-- R54, R81, R195, R203 and R204: a request is applied at the home of its cell and answered. A CONFLICT met is reported in the operation's name first
(R48, R348). The cell is left as `latRes` says, its waiters are tested, an arena whose cell enters CONFLICT counts it, and a posted operation gets a
reply that carries the refusal, if any; a refused entry of a commit queue stops its launch. LFRZ's issuer gets status 0 where the cell was OPEN, 1
where it was frozen, 2 where it is in CONFLICT; LFRZA's completes at once where its arena is FROZEN, and else waits for the freeze of every cell.
Corners that are the model's choice: log entries 53, 88. -/
def Obligations.LatticeRequestAtHome : Prop :=
  ∀ (s : State) (r : LatReq) (c : Cell) (k : Fin 8) (bs : List Byte),
    let s0 := s.countRecv r.task.launch r.colour 1
    let res := latRes c.ar k bs r.op
    let conflict (t : State) : State := t.updArena c.ar fun a => { a with nconf := min (a.nconf + 1) (2 ^ 32 - 1) }
    let told : State := if res.ans = 0x0F then
      (match r.tagVt with
        | none => s0.reportConflict r.asid r.va.toNat r.task.launch r.core r.slot.val r.task.wid
        | some _ => { s0 with reported := (r.asid, r.va.toNat, r.task.launch) :: s0.reported })
      else s0
    let changed : State := match res.new with
      | none => told
      | some (bs', k') => ((if k' = 4 then conflict else id) (told.writeCell c bs' k')).cellChanged c k' bs'
    r.home < 1536 →
    (s0.cellAt r.asid r.va.toNat .lwrite = .ok c → s0.readCell c = .ok (k, bs) → farAway c.x.pa = false → r.op ≠ .frza →
      (∀ bs' k', Mem.wf s.mem = true → res.new = some (bs', k') → changed.pread c.x.pa bs'.length = bs' ∧ changed.code c.x.pa = k') ∧
      (r.tagVt = none → r.op ≠ .frz →
        fires (.latticeRequestApply r) s = .next (changed.post
          [.postedReply ⟨r.core, r.slot, r.task, r.codelet, r.pc, r.colour, r.home, if res.ans = 0 then none else some (res.ans, r.va)⟩])) ∧
      (∀ vt, r.tagVt = some vt → s0.stopped r.task.launch = false → r.op ≠ .frz →
        let halt : Event :=
          .launchStop r.task.launch .fault (some ⟨2, res.ans, 0, r.core, r.slot.val, r.task.wid, r.pc, r.va, BitVec.ofNat 64 vt, none⟩)
        fires (.latticeRequestApply r) s = .next (if res.ans = 0 then changed else { changed with agenda := halt :: changed.agenda })) ∧
      (∀ (d a : Fin 32) (va : Word) (s2 : State), let w : Who := ⟨r.core, r.slot⟩
        r.tagVt = none → r.op = .frz → changed.awaits w r.task = true → (changed.at w).out = some (.lfrz d a) →
        changed.readG w a = .ok (va, s2) → s2.chkDst w d = .ok () →
        res.ans = (if k = 4 then 2 else if k = 2 ∨ k = 3 then 1 else 0) ∧ fires (.latticeRequestApply r) s =
          .next ((s2.writeG w d (if k = 4 then 2 else if k = 2 ∨ k = 3 then 1 else 0)).retireVar w (.lfrz d a)))) ∧
    (∀ (x : Xlat) (ar : Arena) (a : Fin 32) (va : Word) (s2 : State), let w : Who := ⟨r.core, r.slot⟩
      r.op = .frza → r.tagVt = none → s0.translate r.asid r.va.toNat .lwrite = .ok x → pteKind x.pte = 1 → farAway x.pa = false →
      s0.arenaFor r.asid r.va.toNat x.pte = some ar → s0.awaits w r.task = true → (s0.at w).out = some (.lfrza a) → s0.readG w a = .ok (va, s2) →
      (ar.st = 2 → fires (.latticeRequestApply r) s = .next (s2.retireVar w (.lfrza a))) ∧
      (ar.st ≠ 2 →
        let begun := (s0.updArena ar fun y => { y with st := 1 }).upd w fun y => { y with busy := .freeze ar.asid ar.num }
        fires (.latticeRequestApply r) s = .next (if ar.st = 0 then begun.post [.arenaFreeze ar.asid ar.num] else begun)))

/-- R205 to R208: LWAIT, LWAITF, LXRD, LXRDV and LARM leave for the home of the cell once the issuing core's checks pass, LWAIT and LARM with the
trigger set that they have read; the thread is BUSY. R205 to R208: at the home a threshold read that a status of Table 2.6 resolves writes its results
and completes; one that none resolves is recorded and its task parks, and a codelet takes a codelet-park fault. A trigger set that does not fit the
cell is a trigger-set fault; LWAIT takes one to four values, a mask, or .FROZEN. R207: LARM at the home completes either way: a trigger set that
already holds pushes the codelet on the target core, unless the cell is in CONFLICT, and another is recorded as an arming entry. One that does not fit
the cell is a trigger-set fault. Corners that are the model's choice: log entry 26. -/
def Obligations.ThresholdReads : Prop :=
  (
  ∀ (s : State) (d a b : Fin 32) (v : Fin 16) (n : Fin 4) (k : TrigK) (s1 : State) (va : Word) (i : Instr),
    (i ∈ [Instr.lwait d a b n k, .lwaitf d a b, .lxrd d a, .lxrdv v a] ∨
      i = .larm d a b n k ∧ s.history s.who = false ∧ d.val ≤ 29) →
    s.readG s.who a = .ok (va, s1) → open_ s i →
    (∀ code, addrFault va = some code → exec i s = trapped s i code va) ∧
    (openAddr va → ∃ sent : Option Trig,
      exec i s = .next (((((sent.map (s.noteMask s.who)).getD s).upd s.who fun x => { x with trig := sent }).waitBusy s.who i .remote).post
        [.thresholdReadAtHome s.who.core s.who.slot]) ∧
      (i ∈ [.lwaitf d a b, .lxrd d a, .lxrdv v a] → sent = none) ∧
      (∀ (c : Cell) (xs : List Word) (s2 : State) (t : Trig), i = .lwait d a b n k ∨ i = .larm d a b n k →
        s1.cellAt (s1.at s.who).asid va.toNat .lread = .ok c →
        (if k = .frozen then xs = List.replicate (n.val + 1) 0 ∧ s2 = s1 else s1.readRun s.who b (n.val + 1) = .ok (xs, s2)) →
        Triggers s2 s.who c.ar k xs t → sent = if trigOk c.ar t then some t else none))) ∧ (
  ∀ (s : State) (w : Who) (d a b : Fin 32) (v : Fin 16) (s1 s2 : State) (va y : Word) (c : Cell) (code : Fin 8) (bs : List Byte),
    (s.at w).st = .busy → (s.at w).busy = .remote → s.readG w a = .ok (va, s1) → openAddr va →
    s1.cellAt (s1.at w).asid va.toNat .lread = .ok c →
    (∀ (n : Fin 4) (k : TrigK) (xs : List Word) (t : Trig), let i := Instr.lwait d a b n k
      (s.at w).out = some i → open_' s w i →
      (if k = .frozen then xs = List.replicate (n.val + 1) 0 ∧ s2 = s1 else s1.readRun w b (n.val + 1) = .ok (xs, s2)) →
      Arrived s2 w c.ar k xs t →
      (¬ admits c.ar t → fires (.thresholdReadAtHome w.core w.slot) s = .next (s.takeTrap w 0x06 false 0 va (s.th w).pc true)) ∧
      (admits c.ar t → s2.chkDst w d = .ok () → s2.readCell c = .ok (code, bs) →
        AtHome s w i c code bs 0 t fun st => (s2.metStatus w c st).writeG w d st)) ∧
    (∀ core off : Nat, (s.at w).out = some (.lwaitf d a b) → open_' s w (.lwaitf d a b) →
      s1.readG w b = .ok (y, s2) → s2.storeAllowed w (.lwaitf d a b) y.toNat c.size = .ok () →
      s2.localArea w y.toNat c.size (min c.size 32) = .ok (.loc core off) → c.ar.kind = 8 → s2.chkDst w d = .ok () → s2.readCell c = .ok (code, bs) →
      AtHome s w (.lwaitf d a b) c code bs 1 ⟨.filled, [0], []⟩ fun st =>
        let t := (s2.metStatus w c st).writeG w d st
        if st = 2 then (t.noteSpan w (.loc core off) c.size).localStore w core off bs else t) ∧
    ((s.at w).out = some (.lxrd d a) → open_' s w (.lxrd d a) → c.size ≤ 16 → (c.ar.kind = 9 → c.size = 16) → s1.chkDst w d = .ok () →
      s1.readCell c = .ok (code, bs) →
      AtHome s w (.lxrd d a) c code bs 2 ⟨.frozen, [0], []⟩ fun st => (s1.metStatus w c st).writeG w d
        (if code = 4 ∨ (c.ar.kind = 8 ∧ code = 2) then 0 else if c.ar.kind = 9 then BitVec.ofNat 64 (esumRead (natOf bs % 2 ^ 88) c.ar.fbits)
          else BitVec.ofNat 64 (natOf (bs.take 8)))) ∧
    ((s.at w).out = some (.lxrdv v a) → open_' s w (.lxrdv v a) → c.size ≤ 32 → (c.ar.kind = 9 → c.size = 16) → s1.readCell c = .ok (code, bs) →
      AtHome s w (.lxrdv v a) c code bs 2 ⟨.frozen, [0], []⟩ fun st => (s1.metStatus w c st).writeV w v
        (if code = 4 ∨ (c.ar.kind = 8 ∧ code = 2) then 0 else natOf bs))) ∧ (
  ∀ (s : State) (w : Who) (d a b : Fin 32) (n : Fin 4) (k : TrigK) (s1 s2 s3 s4 s5 : State) (va pc arg tgt : Word) (xs : List Word) (c : Cell)
    (code : Fin 8) (bs : List Byte) (t : Trig),
    let i := Instr.larm d a b n k
    (s.at w).st = .busy → (s.at w).busy = .remote → (s.at w).out = some i → d.val ≤ 29 → s.history w = false →
    open_' s w i → s.readG w a = .ok (va, s1) → openAddr va → s1.cellAt (s1.at w).asid va.toNat .lread = .ok c →
    (if k = .frozen then xs = List.replicate (n.val + 1) 0 ∧ s2 = s1 else s1.readRun w b (n.val + 1) = .ok (xs, s2)) → Arrived s2 w c.ar k xs t →
    (¬ admits c.ar t → fires (.thresholdReadAtHome w.core w.slot) s = .next (s.takeTrap w 0x06 false 0 va (s.th w).pc true)) ∧
    (admits c.ar t → s2.readG w d = .ok (pc, s3) → s3.readG w (d + 1) = .ok (arg, s4) → s4.readG w (d + 2) = .ok (tgt, s5) →
      s5.readCell c = .ok (code, bs) →
      let core := s5.armTarget w tgt
      (∀ st, firstStatus c.ar code bs t = some st → (st = 5 → (s.at w).launched = true) → fires (.thresholdReadAtHome w.core w.slot) s = .next (
        let s6 := s5.metStatus w c st
        let pushed := ((s6.countSent (s5.at w).task.launch s6.colour 1).countRecv (s5.at w).task.launch s6.colour 1).enqueue core
          (codeletEntry (s5.at w).task pc arg (s5.th w).lvt (s5.at w).prio)
        (if st = 5 then s6 else pushed).retireVar w i)) ∧
      (∀ s', firstStatus c.ar code bs t = none →
        s5.addWaiter c ⟨c.ar.asid, BitVec.ofNat 64 c.va, t, 0, some (pc, arg, (s5.at w).prio, (s5.th w).lvt), core, 0, (s5.at w).task, (s5.th w).pc,
          none⟩ = some s' →
        fires (.thresholdReadAtHome w.core w.slot) s = .next (s'.retireVar w i))))

/-- R46, R49, R200 and Table 8.2: the value a join leaves in an 8-byte cell that is OPEN, by its kind; a NaN sends MAXF and MINF to CONFLICT; in a
wider UNION cell a join sets one bit; and an ESUM cell takes a contribution in range, rounded to an integer after scaling, while its count has room.
R48 and R201: what a fill of an 8-byte FILL cell does in each state of the cell, and the answer; and the masked fill of a cell of any size, which
writes and compares the words that its mask selects, as LFILLV does all of an 8-byte or 32-byte cell. Table 2.6 and R51: the status of a threshold
read is the first that holds of CONFLICT, PASSED, OTHER, FILLED, FROZEN and FROZEN below; a FILL cell takes up to four values, the first that equals
the cell giving INDEX, a UNION of any size a mask; and which trigger sets a cell admits (R50). -/
def Obligations.CellValues : Prop :=
  (
  (∀ (ar : Arena) (k : Fin 8) (bs : List Byte) (x : Word), ar.kind = 6 → ar.size = 2 ∨ ar.size = 4 → bs.length = cellBytes ar.size → k.val ≤ 1 →
    let set := bytesOf bs.length (Nat.lor (natOf bs) (2 ^ (x.toNat % (8 * bs.length))))
    after ar (.join x) (k, bs) = (k, set)) ∧
  (∀ (ar : Arena) (k : Fin 8) (bs : List Byte) (t : EsumT) (x : Word), ar.kind = 9 → ar.size = 1 → bs.length = 16 → k.val ≤ 1 →
    let given : Val := match t with | .f32 => fp32.decode (x.toNat % 2 ^ 32) | .f64 => fp64.decode x.toNat | .i64 => Val.ofInt x.toInt
    let res := latRes ar k bs (.esum t x)
    let count := natOf bs / 2 ^ 88 % 2 ^ 24
    (given.isNan = true ∨ given.isInf = true → res = ⟨0x10, none⟩) ∧
    ∀ sg n d, given = .fin sg n d → 0 < d →
      let z : Int := if sg then -(n * 2 ^ ar.fbits : Nat) else (n * 2 ^ ar.fbits : Nat)
      (d * 2 ^ 87 ≤ n * 2 ^ (ar.gbits + ar.fbits) → res = ⟨0x10, none⟩) ∧
      (n * 2 ^ (ar.gbits + ar.fbits) < d * 2 ^ 87 → count + 1 = 2 ^ ar.gbits → res = ⟨0x11, none⟩) ∧
      (n * 2 ^ (ar.gbits + ar.fbits) < d * 2 ^ 87 → count + 1 ≠ 2 ^ ar.gbits → ∃ q : Int, 2 * (z - q * d).natAbs ≤ d ∧
        (2 * (z - q * d).natAbs = d → q % 2 = 0) ∧
        res = ⟨0, some (bytesOf 16 ((((natOf bs % 2 ^ 88 : Nat) + q) % (2 ^ 88 : Nat)).toNat + (count + 1) * 2 ^ 88), k)⟩)) ∧
  ∀ (ar : Arena) (k : Fin 8) (c x : Word), ar.size = 0 → k.val ≤ 1 →
    let cell (v : Word) : Fin 8 × List Byte := (k, bytesOf 8 v.toNat)
    let joined : Fin 8 × List Byte := after ar (.join x) (cell c)
    (ar.kind = 0 → joined = cell (if c.toInt ≤ x.toInt then x else c)) ∧
    (ar.kind = 1 → joined = cell (if c.toNat ≤ x.toNat then x else c)) ∧
    (ar.kind = 2 → joined = cell (if x.toInt ≤ c.toInt then x else c)) ∧
    (ar.kind = 3 → joined = cell (if x.toNat ≤ c.toNat then x else c)) ∧
    (ar.kind = 6 → joined = cell (c ||| x)) ∧
    (ar.kind = 7 → joined = cell (if c.toNat + x.toNat < 2 ^ 64 then c + x else BitVec.allOnes 64)) ∧
    (ar.kind = 4 → ¬ isNaN x → joined = cell (if orderKey c ≤ orderKey x then x else c)) ∧
    (ar.kind = 5 → ¬ isNaN x → joined = cell (if orderKey x ≤ orderKey c then x else c)) ∧
    (ar.kind = 4 ∨ ar.kind = 5 → isNaN x → joined = (4, bytesOf 8 c.toNat)) ∧
    (ar.kind = 8 ∨ ar.kind = 9 → joined = cell c ∧ (latRes ar k (bytesOf 8 c.toNat) (.join x)).ans = 0x0B)) ∧ (
  (∀ (ar : Arena) (old v : List Byte) (mask : Nat), ar.kind = 8 → old.length = cellBytes ar.size → v.length = old.length →
    let mixed (other : List Byte) : List Byte :=
      (List.range old.length).map fun i => if mask / 2 ^ (i / 8) % 2 = 1 then v.getD i 0 else other.getD i 0
    let fill (k : Fin 8) : LatRes := latRes ar k old (.fillM v mask)
    fill 0 = ⟨0, some (mixed (List.replicate old.length 0), 1)⟩ ∧
    fill 1 = (if mixed old = old then ⟨0, none⟩ else ⟨0x0F, some (old, 4)⟩) ∧
    fill 2 = ⟨0x0E, none⟩ ∧ fill 3 = (if mixed old = old then ⟨0, none⟩ else ⟨0x0E, none⟩) ∧ fill 4 = ⟨0x0F, none⟩ ∧
    ∀ k, latRes ar k old (.fillV v) = (if ar.size = 0 ∨ ar.size = 2 then latRes ar k old (.fillM v (2 ^ 32 - 1)) else ⟨0x0B, none⟩)) ∧
  ∀ (ar : Arena) (v w : Word), ar.kind = 8 → ar.size = 0 →
    let W : List Byte := bytesOf 8 w.toNat
    latRes ar 0 W (.fill v) = ⟨0, some (bytesOf 8 v.toNat, 1)⟩ ∧
    latRes ar 1 W (.fill v) = (if v = w then ⟨0, none⟩ else ⟨0x0F, some (W, 4)⟩) ∧
    latRes ar 2 W (.fill v) = ⟨0x0E, none⟩ ∧
    latRes ar 3 W (.fill v) = (if v = w then ⟨0, none⟩ else ⟨0x0E, none⟩) ∧
    latRes ar 4 W (.fill v) = ⟨0x0F, none⟩) ∧ (
  ∀ (ar : Arena) (k : Fin 8) (c t : Word) (us : List Word),
    let bs : List Byte := bytesOf 8 c.toNat
    let st (kind : TKind) : Option Word := firstStatus ar k bs ⟨kind, [t], []⟩
    (∀ u : Trig, trigOk ar u = true ↔ admits ar u) ∧
    (k = 4 → ∀ cell u, firstStatus ar k cell u = some 5) ∧
    (k ≠ 4 → ar.kind = 1 ∨ ar.kind = 7 → st .val = (if t.toNat ≤ c.toNat then some 0 else if k = 2 ∨ k = 3 then some 4 else none)) ∧
    (k ≠ 4 → ar.kind = 0 → st .val = (if t.toInt ≤ c.toInt then some 0 else if k = 2 ∨ k = 3 then some 4 else none)) ∧
    (k ≠ 4 → ar.kind = 2 → st .val = (if c.toInt ≤ t.toInt then some 0 else if k = 2 ∨ k = 3 then some 4 else none)) ∧
    (k ≠ 4 → ar.kind = 3 → st .val = (if c.toNat ≤ t.toNat then some 0 else if k = 2 ∨ k = 3 then some 4 else none)) ∧
    (k ≠ 4 → ar.kind = 4 → st .val = (if orderKey t ≤ orderKey c then some 0 else if k = 2 ∨ k = 3 then some 4 else none)) ∧
    (k ≠ 4 → ar.kind = 5 → st .val = (if orderKey c ≤ orderKey t then some 0 else if k = 2 ∨ k = 3 then some 4 else none)) ∧
    (k ≠ 4 → ar.kind = 9 → ∀ cell, firstStatus ar k cell ⟨.val, [t], []⟩ =
      (if t.toNat ≤ natOf cell / 2 ^ 88 % 2 ^ 24 then some 0 else if k = 2 ∨ k = 3 then some 4 else none)) ∧
    (k ≠ 4 → ar.kind = 6 → ar.size ≤ 3 → ∀ cell, (let m := natOf (us.flatMap fun v => bytesOf 8 v.toNat)
      firstStatus ar k cell ⟨.mask, us, []⟩ = (if Nat.land m (natOf cell) = m then some 0 else if k = 2 ∨ k = 3 then some 4 else none))) ∧
    (k ≠ 4 → ar.kind = 6 → ar.size = 4 → ∀ cell mask, firstStatus ar k cell ⟨.mask, us, mask⟩ =
      (if Nat.land (natOf mask) (natOf cell) = natOf mask then some 0 else if k = 2 ∨ k = 3 then some 4 else none)) ∧
    (k ≠ 4 → ar.kind = 8 → firstStatus ar k bs ⟨.val, us, []⟩ =
      (if k = 1 ∨ k = 3 then (if c ∈ us then some (BitVec.ofNat 64 (16 * us.idxOf c)) else some 1) else if k = 2 then some 4 else none)) ∧
    (k ≠ 4 → ar.kind = 8 → st .filled = (if k = 1 ∨ k = 3 then some 2 else if k = 2 then some 4 else none)) ∧
    (k ≠ 4 → st .frozen = (if k = 2 ∨ k = 3 then some 3 else none)))

/-- R194, R198, R200 and R201: LJOIN, LESUM, LFILL, LFILLV and LFILLM check the address, capture their value and are posted; a source of LFILLM in
another core's local memory counts as remote word accesses for the predictor (R40). R196, R198, R203 and R204: LJOIN.R, LFRZ and LFRZA wait for every
earlier reply, then take the first refusal themselves; with no refusal LJOIN.R is posted and the freezes wait for their home, or, for a task with
history, are held in the commit queue, where LFRZ writes status 3. LFRZA takes any address of a page (log entry 70). R209 and R322: LSTAT, in the
system slot, writes the cell's state code, its kind and the number of its waiters, and does not park; a barrier cell is a COUNT cell of ASID 0.
Corners that are the model's choice: log entry 26. -/
def Obligations.LatticeInstructions : Prop :=
  (
  ∀ (s : State) (a : Fin 32) (s1 : State) (va : Word), s.readG s.who a = .ok (va, s1) →
    (∀ f ∈ latForms, ∀ (b : Fin 32) (s2 : State) (x : Word), open_ s (f.1 a b) → s1.readG s.who b = .ok (x, s2) →
      (∀ code, addrFault va = some code → exec (f.1 a b) s = trapped s (f.1 a b) code va) ∧
      (openAddr va → Posts (f.1 a b) s s2 (f.2 x) va)) ∧
    (∀ v : Fin 16, open_ s (.lfillv a v) →
      (∀ code, addrFault va = some code → exec (.lfillv a v) s = trapped s (.lfillv a v) code va) ∧
      (openAddr va → Posts (.lfillv a v) s s1 (.fillV (bytesOf 32 (s1.readV s.who v))) va)) ∧
    (∀ (b : Fin 32) (m : Fin 8) (s2 : State) (y : Word) (c : Cell) (core off : Nat), open_ s (.lfillm a b m) →
      s1.readG s.who b = .ok (y, s2) → openAddr va → s1.cellAt (s1.at s.who).asid va.toNat .lwrite = .ok c → c.kind = 8 →
      s2.localSource s.who y.toNat c.size (min c.size 32) = .ok (.loc core off) →
      Posts (.lfillm a b m) s (s2.noteSpan s.who (.loc core off) c.size) (.fillM (s2.lread core off c.size) (s2.readM s.who m)) va)) ∧ (
  ∀ (s : State) (d a b : Fin 32),
    (∀ i ∈ [Instr.ljoinR a b, .lfrz d a, .lfrza a], open_ s i →
      ((s.at s.who).posted ≠ [] → exec i s = .next (s.waitBusy s.who i (.replies true))) ∧
      (∀ r rest, (s.at s.who).posted = [] → (s.at s.who).refused = r :: rest →
        exec i s = .next ((s.upd s.who fun x => { x with refused := rest, lfpc := r.pc }).takeTrap s.who r.code false 0 r.tval (s.th s.who).pc true))) ∧
    ∀ (s1 s2 : State) (va x : Word), (s.at s.who).posted = [] → (s.at s.who).refused = [] → s.readG s.who a = .ok (va, s1) →
      (openAddr va → open_ s (.ljoinR a b) → s1.readG s.who b = .ok (x, s2) → Posts (.ljoinR a b) s s2 (.join x) va) ∧
      (openAddr va → open_ s (.lfrz d a) → s1.chkDst s.who d = .ok () →
        (s1.history s.who = true → (s1.core s.who.core).commitq.length < 64 → exec (.lfrz d a) s =
          .next (((queued s1 (.lattice (request s1 .frz va))).writeG s.who d 3).retireVar s.who (.lfrz d a))) ∧
        (s1.history s.who = false → exec (.lfrz d a) s =
          .next (((s.countSent (s.at s.who).task.launch s.colour 1).waitBusy s.who (.lfrz d a) .remote).post
            [.latticeRequestApply (request s .frz va)]))) ∧
      ((∀ code, addrFault va = some code → code ≠ 0x05 → open_ s (.lfrza a) → exec (.lfrza a) s = trapped s (.lfrza a) code va) ∧
        (∀ code, addrFault va = some code → open_ s (.lfrz d a) → exec (.lfrz d a) s = trapped s (.lfrz d a) code va)) ∧
      (va.toNat < 2 ^ 54 → va.toNat / 2 ^ 48 % 64 ≠ 63 → open_ s (.lfrza a) →
        (s1.history s.who = true → (s1.core s.who.core).commitq.length < 64 → exec (.lfrza a) s =
          .next ((queued s1 (.lattice (request s1 .frza va))).retireVar s.who (.lfrza a))) ∧
        (s1.history s.who = false → exec (.lfrza a) s =
          .next (((s.countSent (s.at s.who).task.launch s.colour 1).waitBusy s.who (.lfrza a) .remote).post
            [.latticeRequestApply (request s .frza va)])))) ∧ (
  ∀ (s : State) (d a : Fin 32) (s1 : State) (va : Word) (c : Cell) (code : Fin 8) (bs : List Byte) (count : Nat), s.who.slot = 15 →
    open_ s (.lstat d a) → s.readG s.who a = .ok (va, s1) → openAddr va → s1.chkDst s.who d = .ok () →
    (s1.core s.who.core).scanAsid = none →
    let on (y : Waiter) : Bool := y.asid == (s1.at s.who).asid && y.va == va
    let n := ((s1.core c.x.home).waiters.filter on).length + ((s1.core c.x.home).spilled.filter on).length
    (s1.barrierOver (s1.at s.who).asid va.toNat = none ∧ s1.cellAt (s1.at s.who).asid va.toNat .lread = .ok c ∧ s1.readCell c = .ok (code, bs) ∨
      s1.barrierOver (s1.at s.who).asid va.toNat = some (c, count) ∧ code = 0) →
    exec (.lstat d a) s = .next ((s1.writeG s.who d (BitVec.ofNat 64 (code.val + c.ar.kind * 2 ^ 8 + min n 0xFFFF * 2 ^ 16))).retireVar s.who (.lstat d a)))

namespace Sys2Proof.Claims

/-! ## Messages (R65 to R79, R210 to R216) -/

/-- The SEQ that a slot's next message takes: its task's counter (R66). -/
def nextSeq (s : State) (w : Who) : Nat := ((s.task? (s.at w).task).map Task.seq).getD 0

/-- Whether a slot's task has an open epoch that holds sixteen output-log entries (R78). -/
def logIsFull (s : State) (w : Who) : Prop :=
  ∃ t e, s.task? (s.at w).task = some t ∧ t.epochs.getLast? = some e ∧ 16 ≤ e.log.length

/-- The message of a send: VT = lvt + delay, the sender, the destination, the launch and SEQ; tentative where an ordinary one comes from a speculative
task (R65, R66, R78, R211). -/
def message (s : State) (w : Who) (ordinary : Bool) (dest : Word) (delay : Nat) (payload : List Byte) : Msg :=
  ⟨(s.th w).lvt.toNat + delay, (s.at w).task.wid, dest, (s.at w).task.launch, nextSeq s w, false, ordinary && s.spec w, !ordinary, 0, s.colour, payload⟩

/-- The SEQ counter of a slot's task advanced. -/
def nextSend (s : State) (w : Who) : State := s.updTask (s.at w).task fun t => { t with seq := nextSeq s w + 1 }

/-- A send's illegal operands: a zero delay, a VT above 2^64 − 2, or SEQ exhausted (R66, R211). -/
def badSend (s : State) (w : Who) (delay : Word) : Prop :=
  delay = 0 ∨ 2 ^ 64 - 2 < (s.th w).lvt.toNat + delay.toNat ∨ nextSeq s w = 2 ^ 32 - 1

/-- A send with its operands read: `s1` is the state after them, and the message leaves at once; SEND.F and SEND.H of a task with history are
held in the commit queue (R78, R79, R211). `form` is 0 for the ordinary class, 1 for .F, 2 for .H. -/
def Sends (i : Instr) (form : Nat) (s s1 : State) (dest : Word) (delay : Nat) (payload : List Byte) : Prop :=
  let w := s.who
  let m := message s1 w (form == 0) dest delay payload
  let h : HostMsg := ⟨m.launch, m.vt, dest, m.swid, s1.colour, payload⟩
  (form = 0 → (s1.th w).codelet = false → ¬ (s1.spec w = true ∧ logIsFull s1 w) →
    let s2 := nextSend s1 w
    let s3 := if s1.spec w then s2.updTask (s1.at w).task fun t =>
        { t with epochs := updLast (fun e => { e with log := e.log ++ [⟨dest, m.vt, m.swid, m.seq⟩] }) t.epochs } else s2
    exec i s = .next ((s3.sendMsg m).retireVar w i)) ∧
  (form = 1 → s1.history w = false → exec i s = .next (((nextSend s1 w).sendMsg m).retireVar w i)) ∧
  (form = 2 → s1.history w = false →
    exec i s = .next ((((nextSend s1 w).countSent m.launch s1.colour 1).post [.hostMessageWrite h]).retireVar w i)) ∧
  (form ≠ 0 → s1.history w = true → (s1.core w.core).commitq.length < 64 →
    exec i s = .next ((nextSend (queued s1 (if form = 1 then .send m else .host h)) w).retireVar w i))

/-- The sending instructions of four registers, with their class. -/
def sendForms : List ((Fin 32 → Fin 32 → Fin 32 → Instr) × Nat) := [(.send, 0), (.sendF, 1), (.sendH, 2)]

/-- The receive area named by a receiving instruction is open to it: 288 bytes of the grant, aligned to 32 (R214). -/
def areaOpen (s : State) (w : Who) (va : Word) (core off : Nat) : Prop := s.localArea w va.toNat 288 32 = .ok (.loc core off)

/-- A delivery: the message's header and payload enter the receive area, then lvt and the status are written (R69, R214). -/
def delivered (s : State) (w : Who) (i : Instr) (d : Fin 32) (core off : Nat) (m : Msg) (lvt : Word) : State :=
  ((((s.noteSpan w (.loc core off) (m.header ++ m.payload).length).localStore w core off (m.header ++ m.payload)).updTh w fun t => { t with lvt := lvt }).writeG w d
    (BitVec.ofNat 64 (1 + 2 * (m.kind % 8) + 16 * (m.plen % 8)))).retireVar w i

/-- The inbox entry taken (R71). -/
def taken (s : State) (t : TaskId) (q : InMsg) : State :=
  s.updTask t fun y => { y with inbox := delFirst (fun z => z == q) y.inbox, lastKey := some q.msg.key }

/-- The receiving instructions, and whether they poll. -/
def recvForms : List ((Fin 32 → Fin 32 → Instr) × Bool) := [(.recv, false), (.recvp, true)]
def recvNForms : List ((Fin 32 → Fin 32 → Instr) × Bool) := [(.recvN, false), (.recvpN, true)]

end Sys2Proof.Claims

/-- R66, R78, R79, R210 and R211: SEND, SEND.F, SEND.H, SENDL and SENDL.F check the delay, the resulting VT and SEQ, send a message of their class
from 32 bytes of registers or n × 32 bytes of local memory, and complete. R71 and Table 3.2: what RECV would deliver. FIFO takes the earliest arrival
that is no anti-message and not tentative; the other modes take the least key, with certainty below HZN, and, in OPTIMISTIC mode alone, speculatively
up to GVT + W. -/
def Obligations.SendAndDelivery : Prop :=
  (
  ∀ (s : State) (d a b : Fin 32) (s1 s2 : State) (dest delay : Word),
    s.readG s.who a = .ok (dest, s1) → s1.readG s.who b = .ok (delay, s2) →
    (∀ f ∈ sendForms,
      (28 < d.val → exec (f.1 d a b) s = trapped s (f.1 d a b) 0x01 (encodeWord (f.1 d a b))) ∧
      (d.val ≤ 28 → badSend s2 s.who delay ∨ f.2 = 0 ∧ (s2.th s.who).codelet = true →
        exec (f.1 d a b) s = trapped s (f.1 d a b) 0x01 (encodeWord (f.1 d a b))) ∧
      (open_ s (f.1 d a b) → d.val ≤ 28 → ¬ badSend s2 s.who delay → f.2 = 0 → (s2.th s.who).codelet = false → s2.spec s.who = true → logIsFull s2 s.who →
        exec (f.1 d a b) s = trapped s (f.1 d a b) 0x08 (encodeWord (f.1 d a b))) ∧
      (∀ (vs : List Word) (s3 : State), open_ s (f.1 d a b) → d.val ≤ 28 → ¬ badSend s2 s.who delay → (f.2 = 0 → (s2.th s.who).codelet = false) →
        (f.2 = 0 → ¬ (s2.spec s.who = true ∧ logIsFull s2 s.who)) → s2.readRun s.who d 4 = .ok (vs, s3) →
        Sends (f.1 d a b) f.2 s s3 dest delay.toNat (vs.flatMap fun v => bytesOf 8 v.toNat))) ∧
    (∀ (n : Fin 8) (s3 : State) (src : Word) (core off : Nat), ∀ f ∈ [(Instr.sendl d a b n, 0), (.sendlF d a b n, 1)],
      s2.readG s.who d = .ok (src, s3) →
      (badSend s3 s.who delay ∨ f.2 = 0 ∧ (s3.th s.who).codelet = true → exec f.1 s = trapped s f.1 0x01 (encodeWord f.1)) ∧
      (open_ s f.1 → ¬ badSend s3 s.who delay → (f.2 = 0 → (s3.th s.who).codelet = false) → (f.2 = 0 → ¬ (s3.spec s.who = true ∧ logIsFull s3 s.who)) →
        s3.localSource s.who src.toNat (32 * (n.val + 1)) 32 = .ok (.loc core off) →
        Sends f.1 f.2 s (s3.noteSpan s.who (.loc core off) (32 * (n.val + 1))) dest delay.toNat (s3.lread core off (32 * (n.val + 1)))))) ∧ (
  ∀ (gvt hzn win : Nat) (ms : List InMsg),
    (∀ q b, pick .fifo gvt hzn win ms = some (q, b) → b = false ∧ q.msg.anti = false ∧ q.msg.tent = false ∧
      ∃ before rest, ms = before ++ q :: rest ∧ ∀ x ∈ before, x.msg.anti = true ∨ x.msg.tent = true) ∧
    (pick .fifo gvt hzn win ms = none ↔ ∀ x ∈ ms, x.msg.anti = true ∨ x.msg.tent = true) ∧
    (∀ mode q b, mode ≠ .fifo → pick mode gvt hzn win ms = some (q, b) →
      q ∈ ms ∧ q.msg.anti = false ∧ (∀ x ∈ ms, x.msg.anti = false → x.msg.key.lt q.msg.key = false) ∧
      (b = false → q.msg.vt < hzn) ∧ (b = true → mode = .optimistic ∧ hzn ≤ q.msg.vt ∧ q.msg.vt ≤ gvt + win ∧ q.msg.vt ≤ 2 ^ 64 - 1)) ∧
    (pick .ordered gvt hzn win ms = none ↔ ∀ x ∈ ms, x.msg.anti = false → ∃ y ∈ ms, y.msg.anti = false ∧ hzn ≤ y.msg.vt ∧ x.msg.key.lt y.msg.key = false))

/-- R69, R71, R75 to R77 and R214: RECV and RECVP deliver a message into the receive area; a certain one commits the open epochs and the core's
hardware entries are refilled (R73), a speculative one opens an epoch with a snapshot of the thread before the instruction, and keeps its inbox entry.
With nothing to deliver RECV parks and RECVP writes zero. R68 and R214: RECV.N and RECVP.N deliver the oldest notice and leave lvt; a task with
history takes an unsaved-state fault. -/
def Obligations.ReceiveAndNotices : Prop :=
  (
  ∀ f ∈ recvForms, ∀ (s : State) (d a : Fin 32) (s1 : State) (va : Word) (core off : Nat) (t : Task),
    let i := f.1 d a
    let w := s.who
    let nothing : Prop := exec i s = .next (if f.2 then (s1.writeG w d 0).retireVar w i else s.parkSlot w i .recv)
    let lvt (m : Msg) : Word := if t.imode = .fifo ∧ m.vt ≤ (s1.th w).lvt.toNat then (s1.th w).lvt else BitVec.ofNat 64 m.vt
    ((s.th w).imode = .optimistic → w.core < 1152) → (s1.th w).codelet = false →
    open_ s i → s.readG w a = .ok (va, s1) → va.toNat % 32 = 0 → s1.chkDst w d = .ok () → areaOpen s1 w va core off →
    s1.task? (s1.at w).task = some t →
    let choice := pick t.imode (s1.gvtOf t.id.launch) (s1.hznOf t.id.launch) (s1.th w).vtwin.toNat t.inbox
    (choice = none → (s.th w).codelet = false → nothing) ∧
    (∀ q, choice = some (q, false) → exec i s =
      .next (delivered (((taken s1 t.id q).updTask t.id fun y => { y with epochs := [] }).refill w.core) w i d core off q.msg (lvt q.msg))) ∧
    (∀ q, choice = some (q, true) → s1.windowOk w = true → inWindow (s1.th w) va.toNat 288 = true →
      (s1.reserves w.core t (s1.th w).stwl.toNat = true → exec i s =
        .next (delivered ((taken s1 t.id q).updTask t.id fun y => { y with epochs := y.epochs ++ [⟨q.msg, s.th w, [], [], t.lastKey, q.region⟩] })
          w i d core off q.msg (lvt q.msg))) ∧
      (s1.reserves w.core t (s1.th w).stwl.toNat = false → (s.th w).codelet = false → nothing)) ∧
    (∀ q, choice = some (q, true) → (s1.windowOk w = false ∨ inWindow (s1.th w) va.toNat 288 = false) →
      exec i s = trapped s i 0x08 (encodeWord i))) ∧ (
  ∀ f ∈ recvNForms, ∀ (s : State) (d a : Fin 32) (s1 : State) (va : Word) (core off : Nat) (t : Task),
    let i := f.1 d a
    let w := s.who
    (s.history w = true → exec i s = trapped s i 0x08 (encodeWord i)) ∧
    (s.history w = false → open_ s i → (s1.th w).codelet = false → s.readG w a = .ok (va, s1) → va.toNat % 32 = 0 →
      s1.chkDst w d = .ok () → areaOpen s1 w va core off → s1.task? (s1.at w).task = some t →
      (∀ q rest, t.notices = q :: rest → exec i s = .next (delivered ((s1.updTask (s1.at w).task fun y => { y with notices := rest }).refill w.core)
          w i d core off q.msg (s1.th w).lvt)) ∧
      (t.notices = [] → (s.th w).codelet = false →
        exec i s = .next (if f.2 then (s1.writeG w d 0).retireVar w i else s.parkSlot w i .recvN))))

/-- R216: VTSET raises lvt to g(a), GVTRD reads GVT and HZN of the launch, and CMTW waits until replies have come, no history is left and GVT is above
lvt; a stopped launch's thread waits no longer. Corners that are the model's choice: log entries 29, 78. -/
def Obligations.VirtualTimeResult : Prop :=
  ∀ s : State,
    (∀ (a : Fin 32) (s1 : State) (x : Word), open_ s (.vtset a) → s.readG s.who a = .ok (x, s1) → exec (.vtset a) s =
      .next ((s1.updTh s.who fun t => { t with lvt := if t.lvt.toNat ≤ x.toNat then x else t.lvt }).retireVar s.who (.vtset a))) ∧
    (∀ d : Fin 32, (d = 31 → exec (.gvtrd d) s = trapped s (.gvtrd d) 0x01 (encodeWord (.gvtrd d))) ∧
      (d ≠ 31 → open_ s (.gvtrd d) → s.chkDst s.who d = .ok () →
        let n := (s.at s.who).task.launch
        let s1 := s.writeG s.who d (if (s.at s.who).launched then BitVec.ofNat 64 (s.gvtOf n) else BitVec.allOnes 64)
        s1.chkDst s.who (d + 1) = .ok () → exec (.gvtrd d) s = .next ((s1.writeG s.who (d + 1)
          (if (s.at s.who).launched then BitVec.ofNat 64 (s.hznOf n) else BitVec.allOnes 64)).retireVar s.who (.gvtrd d)))) ∧
    ((s.at s.who).posted = [] → (s.at s.who).refused = [] → exec .cmtw s =
      .next (if (s.at s.who).isTask = true ∧ s.stopped (s.at s.who).task.launch = false ∧
          (s.history s.who = true ∨ s.gvtOf (s.at s.who).task.launch ≤ (s.th s.who).lvt.toNat)
        then s.waitBusy s.who .cmtw .history else s.retireVar s.who .cmtw))

namespace Sys2Proof.Claims

/-! ## Tasks (R217 to R226) -/

/-- The SPAWN forms of a task, with their inbox modes. -/
def spawnForms : List ((Fin 32 → Fin 32 → Fin 32 → Instr) × IMode) := [(.spawnFifo, .fifo), (.spawnOrd, .ordered), (.spawnOpt, .optimistic)]

/-- A refused SPAWN's status: 1 with its reason (R218). -/
def refusal (reason : Nat) : Word := BitVec.ofNat 64 (1 + 256 * reason)

/-- The reserved bits and MODE of an affinity word are legal (Table 8.8). -/
def affinityLegal (z : Word) : Prop := z.toNat % 4 ≠ 3 ∧ z.toNat / 2 ^ 5 % 2 = 0 ∧ z.toNat < 2 ^ 14

/-- The queue entry of spawned work, by its affinity word (R319, Table 8.8). -/
def entryOf (id : TaskId) (work : Work) (z : Nat) : QEntry :=
  ⟨id, work, z / 2 ^ 12 % 4, 0, z % 4, z / 4 % 8, z / 64 % 64, false, none, false⟩

/-- The die scheduler that spawned work goes to. -/
def dieFor (s : State) (l : Launch) (z : Nat) : Nat := spawnDie l (dieOf s.who.core) (z % 4) (z / 4 % 8) (z / 64 % 64)

end Sys2Proof.Claims

/-- R217 to R219: SPAWN.FIFO, .ORD and .OPT of a launch's task. A refused one writes its status and reason, a work identifier in use gives 2, and
otherwise the task enters the directory, its entry the ready queue of the die its affinity names, and the status is 0. A task with history faults, and
a mode that needs virtual time is illegal in a launch without it. R217 to R219: SPAWN.C queues a codelet of the caller's task, with its entry PC, its
argument and the caller's lvt. R218, R316, R326 and R347: SPAWN.L reads the launch header on a FROZEN page, refuses an affinity that names no die of
the set, and the header for the reason a host record would be refused for, and otherwise gives it a launch number, which its status carries, and sends
it to be dispatched; where its queue has no completion record or no number is free, it waits. Corners that are the model's choice: log entry 46. -/
def Obligations.SpawnResult : Prop :=
  (
  ∀ f ∈ spawnForms, ∀ (s : State) (d a b : Fin 32) (s1 s2 s3 : State) (wid arg z : Word) (l : Launch),
    let i := f.1 d a b
    let w := s.who
    let id : TaskId := ⟨l.num, wid⟩
    s.launch? (s.at w).task.launch = some l →
    (f.2 ≠ .fifo → hVtime l.h = false → exec i s = trapped s i 0x01 (encodeWord i)) ∧
    ((f.2 = .fifo ∨ hVtime l.h = true) →
      (s.history w = true → exec i s = trapped s i 0x08 (encodeWord i)) ∧
      (s.history w = false → open_ s i → s.readG w a = .ok (wid, s1) → s1.readG w b = .ok (arg, s2) → s2.readG w d = .ok (z, s3) →
        let status (t : State) (v : Word) : Host.Outcome State Fault Refusal := .next ((t.writeG w d v).retireVar w i)
        (¬ affinityLegal z → exec i s = status s3 (refusal 1)) ∧
        (affinityLegal z → l.noSuchWid wid = true → exec i s = status s3 (refusal 3)) ∧
        (affinityLegal z → l.noSuchWid wid = false → affinityDies l z.toNat = false → exec i s = status s3 (refusal 7)) ∧
        (affinityLegal z → l.noSuchWid wid = false → affinityDies l z.toNat = true → (s3.task? id).isSome → exec i s = status s3 2) ∧
        (affinityLegal z → l.noSuchWid wid = false → affinityDies l z.toNat = true → s3.task? id = none →
          let t := newTask id f.2 (z.toNat / 2 ^ 12 % 4) (ownerTag l.h wid.toNat) (s.th w).lvt (BitVec.ofNat 64 (hVtwin l.h)) true
          exec i s = status ({ s3 with tasks := s3.tasks ++ [t] }.pushReady (dieFor s l z.toNat)
            (entryOf id (.task arg f.2 (s.th w).lvt true) z.toNat)) 0)))) ∧ (
  ∀ (s : State) (d a b : Fin 32) (s1 s2 s3 : State) (pc arg z : Word) (l : Launch),
    let i := Instr.spawnC d a b
    let w := s.who
    s.history w = false → open_ s i → s.readG w a = .ok (pc, s1) → s1.readG w b = .ok (arg, s2) →
    s2.readG w d = .ok (z, s3) → s3.launch? (s3.at w).task.launch = some l →
    let status (t : State) (v : Word) : Host.Outcome State Fault Refusal := .next ((t.writeG w d v).retireVar w i)
    (¬ affinityLegal z → exec i s = status s3 (refusal 1)) ∧
    (affinityLegal z → pc.toNat % 4 ≠ 0 → exec i s = status s3 (refusal 2)) ∧
    (affinityLegal z → pc.toNat % 4 = 0 → affinityDies l z.toNat = false → exec i s = status s3 (refusal 7)) ∧
    (affinityLegal z → pc.toNat % 4 = 0 → affinityDies l z.toNat = true → exec i s =
      status (s3.pushReady (dieFor s l z.toNat) (entryOf (s3.at w).task (.codelet pc arg (s3.th w).lvt) z.toNat)) 0)) ∧ (
  ∀ (s : State) (d a b : Fin 32) (s1 s2 s3 : State) (va arg z : Word) (l : Launch) (t : Xlat) (bs : List Byte),
    let i := Instr.spawnL d a b
    let w := s.who
    s.history w = false → open_ s i → s.readG w a = .ok (va, s1) → s1.readG w b = .ok (arg, s2) →
    s2.readG w d = .ok (z, s3) → s3.launch? (s3.at w).task.launch = some l →
    (va.toNat % 128 ≠ 0 → exec i s = trapped s i 0x05 va) ∧
    (va.toNat % 128 = 0 → va.toNat < 2 ^ 54 → va.toNat / 2 ^ 48 % 64 ≠ 63 → s1.translate (s1.at w).asid va.toNat .load = .ok t →
      (pteKind t.pte ≠ 2 → exec i s = trapped s i 0x0B va) ∧
      (pteKind t.pte = 2 → s1.checkedRead t.pa 128 = .ok bs →
        (¬ affinityLegal z → exec i s = .next ((s3.writeG w d (refusal 1)).retireVar w i)) ∧
        (affinityLegal z → affinityDies l z.toNat = false → exec i s = .next ((s3.writeG w d (refusal 7)).retireVar w i)) ∧
        (∀ r, affinityLegal z → affinityDies l z.toNat = true → s3.accepts (s3.at w).asid (natOf bs) = .error r →
          exec i s = .next (((s3.logHeader (s3.at w).asid (natOf bs)).writeG w d (refusal r)).retireVar w i)) ∧
        (∀ ad, affinityLegal z → affinityDies l z.toNat = true → s3.accepts (s3.at w).asid (natOf bs) = .ok ad → s3.cqRoom l.queue = false ∨ s3.number? = none →
          exec i s = .next (s.waitBusy w i .accept)) ∧
        (∀ ad n, affinityLegal z → affinityDies l z.toNat = true → s3.accepts (s3.at w).asid (natOf bs) = .ok ad → s3.cqRoom l.queue = true → s3.number? = some n →
          let q := newLaunch s3.nextKey n (natOf bs) (s3.at w).asid l.queue none arg ad
          let s4 : State := { s3 with launches := s3.launches ++ [q], nextKey := s3.nextKey + 1, nextNum := (n + 1) % 4096 }
          exec i s = .next (((s4.post [.launchDispatch q.key]).writeG w d (BitVec.ofNat 64 (n * 2 ^ 32))).retireVar w i)))))

/-- R196 and R220: EXIT waits for replies, history and MXU commands, and then ends the thread: its slot is EMPTY and its task exited. R61 and R294:
the EXIT of a landing handler publishes the slot it has written, unless the token woke it, and leaves slot 14 EMPTY. R221: YIELD saves its thread and
queues it where the core's run queue holds a task of the same or a higher priority; otherwise, and in slot 15, it does nothing. A codelet takes a
codelet-park fault. R222: GBAR at the launch's last level completes at once; otherwise it adds one to the count of its group's barrier cell, once in
each episode, wakes the waiters that the count satisfies, and completes where the count has reached its episode's multiple of the group's size; else
it is recorded as a waiter of the cell and parks. Corners that are the model's choice: log entries 34, 40, 78. -/
def Obligations.ExitYieldAndBarrier : Prop :=
  (
  ∀ s : State, let w := s.who
    ((s.at w).posted ≠ [] → exec .exit s = .next (s.waitBusy w .exit (.replies true))) ∧
    ((s.at w).posted = [] → (s.at w).refused = [] →
      (s.history w = true → s.stopped (s.at w).task.launch = false → exec .exit s = .next (s.waitBusy w .exit .history)) ∧
      (s.history w = false ∨ s.stopped (s.at w).task.launch = true → s.mxuBusy w = true → exec .exit s = .next (s.waitBusy w .exit .mxu)) ∧
      (s.history w = false ∨ s.stopped (s.at w).task.launch = true → s.mxuBusy w = false → w.slot ≠ 14 →
        exec .exit s = .next (s.endThread w) ∧ ((s.endThread w).at w).st = .empty ∧
        ((s.at w).isTask = true → ∀ t, (s.endThread w).task? (s.at w).task = some t → t.place = .exited ∧ t.inbox = [] ∧ t.epochs = [])))) ∧ (
  ∀ (s : State) (n : Fin 32), let w := s.who
    w.slot = 14 → (s.at w).posted = [] → (s.at w).refused = [] → s.history w = false → s.mxuBusy w = false →
    ((s.core w.core).landingCb = some (n, false) → ∃ s', exec .exit s = .next s' ∧ (s'.at w).st = .empty ∧ (s'.core w.core).landingCb = none ∧
      (s'.cb w.core n).filled = (s.cb w.core n).filled + 1 ∧ (s'.cb w.core n).pptr = ((s.cb w.core n).pptr + 1) % ((s.cb w.core n).nslotm1 + 1)) ∧
    ((s.core w.core).landingCb = some (n, true) → ∃ s', exec .exit s = .next s' ∧ (s'.at w).st = .empty ∧ (s'.core w.core).landingCb = none ∧
      s'.cb w.core n = s.cb w.core n)) ∧ (
  ∀ s : State, let w := s.who
    let better : Prop := ∃ e ∈ (s.core w.core).runq, e.prio ≤ (s.at w).prio ∧ ((∃ x m v sp, e.work = .task x m v sp) ∨ e.work = .saved)
    ((s.th w).codelet = true → exec .yield s = trapped s .yield 0x0D (encodeWord .yield)) ∧
    (w.slot.val < 14 → (s.th w).codelet = false → better → (s.core w.core).blocked = false →
      exec .yield s = .next ((s.updTh w fun t => { t with pc := t.pc + 4 }).beginSave w 0 0 0)) ∧
    ((s.th w).codelet = false → 14 ≤ w.slot.val ∨ ¬ better ∨ (s.core w.core).blocked = true → exec .yield s = .next (s.retireVar w .yield))) ∧ (
  ∀ (s : State) (lv : Fin 6) (l : Launch) (t : Task), let w := s.who
    let i := Instr.gbar lv
    s.launch? (s.at w).task.launch = some l → s.task? (s.at w).task = some t →
    let n := nlev (hWidths l.h)
    (n ≤ lv.val ∨ (t.spawned = true ∧ (s.th w).codelet = false) → exec i s = trapped s i 0x01 (encodeWord i)) ∧
    (lv.val < n → t.spawned = false ∨ (s.th w).codelet = true → s.history w = true → exec i s = trapped s i 0x08 (encodeWord i)) ∧
    (lv.val < n → s.history w = false → (s.th w).codelet = true → exec i s = trapped s i 0x0D (encodeWord i)) ∧
    (lv.val < n → t.spawned = false → s.history w = false → (s.th w).codelet = false → (s.at w).posted = [] → (s.at w).refused = [] →
      (lv.val + 1 = n → exec i s = .next (s.retireVar w i)) ∧
      (lv.val + 1 ≠ n →
        let ix := barrierIndex l.h (s.at w).task.wid.toNat lv.val
        let c := barrierCell l.num ix
        let was := l.barrierCount ix
        let again := t.pending[lv]
        let e := if again then t.episode[lv] else (t.episode[lv] + 1) % 2 ^ 32
        let count := if again then was else min (was + 1) (2 ^ 64 - 1)
        let s1 := if again then s else
          ((s.updLaunch l.num fun l => { l with barrier := l.barrier.put ix count }).cellChanged c 0 (bytesOf 8 count)).updTask t.id fun t =>
            { t with episode := t.episode.set lv e, pending := t.pending.set lv true }
        let goal := e * groupSize l.h lv.val
        let trig : Trig := ⟨.val, [BitVec.ofNat 64 goal], []⟩
        (goal ≤ count → exec i s = .next ((s1.updTask t.id fun t => { t with pending := t.pending.set lv false }).retireVar w i)) ∧
        (∀ s2, count < goal →
          s1.addWaiter c ⟨0, BitVec.ofNat 64 c.va, trig, 3, none, w.core, w.slot, (s.at w).task, (s.th w).pc, none⟩ = some s2 →
          exec i s = .next (s2.parkSlot w i (.cell 3 0 (BitVec.ofNat 64 c.va) trig))))))

/-- R224 to R226: WIDF gives a field of the work identifier, MPIN sets the pin flag, MIGR tests its target and leaves or writes a status, and TWAIT
completes once the time base has reached g(a), else it parks. Corners that are the model's choice: log entries 29, 45. -/
def Obligations.TaskStateResult : Prop :=
  ∀ s : State, let w := s.who
    (∀ (d : Fin 32) (n : Fin 6), open_ s (.widf d n) → s.chkDst w d = .ok () →
      let ws := (s.th w).widl.toNat % 2 ^ 36
      exec (.widf d n) s = .next ((s.writeG w d (if nlev ws ≤ n.val then 0
        else BitVec.ofNat 64 (widField ws (s.at w).task.wid.toNat n.val))).retireVar w (.widf d n))) ∧
    (∀ n : Fin 2, exec (.mpin n) s = .next ((s.updTh w fun t => { t with mpin := decide (n.val = 1) }).retireVar w (.mpin n))) ∧
    (∀ (d a : Fin 32) (s1 : State) (v : Word), open_ s (.migr d a) → (s.at w).posted = [] → (s.at w).refused = [] →
      s.readG w a = .ok (v, s1) → s1.chkDst w d = .ok () →
      let byDie := v.toNat / 2 ^ 63 % 2 = 1
      let core := v.toNat % 2 ^ 11
      let die := if byDie then v.toNat % 8 else core / 192
      let dieset := ((s1.launch? (s1.at w).task.launch).map Launch.dieset).getD 0
      let status (n : Word) : Host.Outcome State Fault Refusal := .next ((s1.writeG w d n).retireVar w (.migr d a))
      let outside := (¬ byDie ∧ 1536 ≤ core) ∨ dieset / 2 ^ die % 2 = 0
      let here := if byDie then w.core / 192 = die else w.core = core
      let stays := (s1.th w).mpin = true ∨ (s1.th w).rcnt ≠ 0 ∨ (6 ≤ die ∧ 64 < stripBytes (s1.th w).vl)
      let waits := (s1.history w = true ∨ ((s1.at w).st = .busy ∧ (s1.at w).busy = .history)) ∧ s1.clear w = false
      (outside → exec (.migr d a) s = status 2) ∧
      (¬ outside → here → exec (.migr d a) s = status 0) ∧
      (¬ outside → ¬ here → stays → exec (.migr d a) s = status 1) ∧
      (¬ outside → ¬ here → ¬ stays → waits → exec (.migr d a) s = .next (s.waitBusy w (.migr d a) .history)) ∧
      (¬ outside → ¬ here → ¬ stays → ¬ waits → exec (.migr d a) s = .next (((s1.writeG w d 0).upd w fun x =>
        { x with st := .trap, out := none, epc := x.th.pc + 4, fromPark := false, insn := false,
                 migrTo := some (if byDie then 2048 + die else core) }).post [.derailleurMigration w.core w.slot]))) ∧
    (∀ (a : Fin 32) (s1 : State) (t : Word), open_ s (.twait a) → s.readG w a = .ok (t, s1) →
      (t.toNat ≤ s1.gtime → exec (.twait a) s = .next (s1.retireVar w (.twait a))) ∧
      (s1.gtime < t.toNat → (s.th w).codelet = false → exec (.twait a) s = .next (s.parkSlot w (.twait a) (.time t.toNat))) ∧
      (s1.gtime < t.toNat → (s.th w).codelet = true → exec (.twait a) s = trapped s (.twait a) 0x0D (encodeWord (.twait a))))

namespace Sys2Proof.Claims

/-! ## The system slot (R97, R230 to R234) -/

/-- A user slot in TRAP, as the context instructions and SLOTCTL need it. -/
def inTrap (s : State) (v : Who) : Prop := (s.at v).st = .trap

/-- The answer of a system instruction: its status in g(d), and completion. -/
def answered (s : State) (w : Who) (i : Instr) (d : Fin 32) (st : Nat) : Host.Outcome State Fault Refusal :=
  .next ((s.writeG w d (BitVec.ofNat 64 st)).retireVar w i)

/-- Whether XINV drops the translation of a 4 KiB page of an ASID through an entry: scope 0 the page of that entry's size that holds g(a), scope 1 the
whole ASID, scopes 2 and 3 everything (R234). -/
def dropped (x y : Word) (asid page pte : Nat) : Bool :=
  let size : Nat := match pte / 4 % 4 with | 0 => 2 ^ 12 | 1 => 2 ^ 16 | 2 => 2 ^ 21 | _ => 2 ^ 30
  match y.toNat / 2 ^ 8 % 4 with
  | 0 => decide (asid = y.toNat % 256 ∧ page * 4096 / size = x.toNat / size)
  | 1 => decide (asid = y.toNat % 256)
  | _ => true

/-- State codes of Table 1.4; a reserved slot reads as EMPTY (R375). -/
def stateCodes : List (SlotState × Nat) := [(.empty, 0), (.run, 1), (.busy, 2), (.park, 3), (.trap, 4), (.save, 5), (.reserved, 0)]

end Sys2Proof.Claims

/-- R97 and R230: ERET returns the slot that HSLOT names where it is still in TRAP: it enters RUN at its epc; then the messages held for its task are
delivered, oldest first, before what waits for it at an ingress, and the deferred items applied (R22, R101). The system slot itself resumes at srpc
with EIE set. R230: WFI completes at once when the system event queue holds an event; otherwise the system slot waits for one. Corners that are the
model's choice: log entry 28. -/
def Obligations.ReturnAndWait : Prop :=
  (
  ∀ s : State, let w := s.who
    let k := s.core w.core
    let v : Who := ⟨w.core, k.hslot⟩
    w.slot = 15 →
    ∃ t u : State, exec .eret s = .next u ∧ u = (((t.grantDone w.core).updCore w.core fun k => { k with eie := true, started := true, scanAsid := none }).upd w
        fun x => { x with st := .run, out := none, th := { x.th with pc := k.srpc } }) ∧
      (v.slot = 15 ∨ (s.at v).st ≠ .trap → t = s) ∧
      (v.slot ≠ 15 → (s.at v).st = .trap → (s.at v).deferred = [] → (∀ x, s.task? (s.at v).task = some x → x.hold = []) →
        (t.at v).st = .run ∧ (t.th v).pc = (s.at v).epc ∧ (t.th v).g = (s.th v).g ∧ (t.th v).p = (s.th v).p) ∧
      (v.slot ≠ 15 → (s.at v).st = .trap →
        let id := (s.at v).task
        let r := s.upd v fun x => { x with st := .run, out := none, insn := false, fromPark := false, deferred := [], migrTo := none, th := { x.th with pc := x.epc } }
        ((s.at v).isTask = false → t = r.applyDeferred v (s.at v).deferred) ∧
        ((s.at v).isTask = true → ∀ x, s.task? id = some x → t = (if x.hold = [] then r
          else (x.hold.foldl State.redeliver ((r.unwait id).1.updTask id fun y => { y with hold := [] })).rewait id (r.unwait id).2).applyDeferred v
            (s.at v).deferred))) ∧ (
  ∀ s : State, s.who.slot = 15 →
    ((s.core s.who.core).events ≠ [] → exec .wfi s = .next (s.retireVar s.who .wfi)) ∧
    ((s.core s.who.core).events = [] → exec .wfi s = .next (s.waitBusy s.who .wfi .event)))

/-- R231: CTXSV answers 2 where the slot named is not a user slot in TRAP, 1 where the area is too small for the core's image or its descriptor
malformed (log entry 81), 4 where the context cache is blocked; otherwise the save of the slot begins and the system slot waits for its end. R232:
CTXLD answers 2 where the slot named cannot take an image, and otherwise loads the image at g(a), or the intake image where g(a) is zero, and answers
with its outcome. A good intake image leaves the intake and its thread stands in the slot; one that R28 refuses ends the reservation with status 1.
Corners that are the model's choice: log entries 42, 43, 44, 83. -/
def Obligations.ContextSaveAndLoad : Prop :=
  (
  ∀ (s : State) (d a : Fin 32) (s1 s2 : State) (va x : Word) (base len : Nat), let w := s.who
    let i := Instr.ctxsv d a
    w.slot = 15 → open_ s i → s.readG w a = .ok (va, s1) → s1.readG w d = .ok (x, s2) →
    let v : Who := ⟨w.core, Fin.ofNat 16 x.toNat⟩
    (14 ≤ v.slot.val ∨ ¬ inTrap s2 v → exec i s = answered s2 w i d 2) ∧
    (v.slot.val < 14 → inTrap s2 v → s2.readDescriptor w va = .ok none → exec i s = answered s2 w i d 1) ∧
    (v.slot.val < 14 → inTrap s2 v → s2.readDescriptor w va = .ok (some (base, len)) →
      let need := if w.core < 1152 then 96 else 64
      (len < need → exec i s = answered s2 w i d 1) ∧
      (need ≤ len → (s2.core w.core).blocked = true → exec i s = answered s2 w i d 4) ∧
      (need ≤ len → (s2.core w.core).blocked = false →
        exec i s = .next ((s2.waitBusy w i .save).beginSave v 1 (BitVec.ofNat 64 base) va)))) ∧ (
  ∀ (s : State) (d a : Fin 32) (s1 s2 : State) (va x : Word), let w := s.who
    let i := Instr.ctxld d a
    w.slot = 15 → open_ s i → s.readG w a = .ok (va, s1) → s1.readG w d = .ok (x, s2) →
    let v : Who := ⟨w.core, Fin.ofNat 16 x.toNat⟩
    let st := (s2.at v).st
    let takes := v.slot.val < 14 ∧ (st = .empty ∨ st = .reserved)
    (¬ takes → exec i s = answered s2 w i d 2) ∧
    (takes → va = 0 → ∀ e, (s2.core w.core).intake.find? (fun e => e.slot == v.slot && !e.incomplete) = some e → imageOk (isK8 w.core) e.img = true →
      exec i s = answered ((s2.updCore w.core fun k => { k with intake := k.intake.erase e }).placeImage v e.task e.img e.let_ e.prio true) w i d 0) ∧
    (takes → va = 0 → ∀ e, (s2.core w.core).intake.find? (fun e => e.slot == v.slot && !e.incomplete) = some e → imageOk (isK8 w.core) e.img = false →
      let t := s2.ctxldRefused v e.task.launch 0
      exec i s = answered (if e.let_.isSome then t else t.updTask e.task fun y => { y with place := .out w.core }) w i d 1) ∧
    (takes → va = 0 → (s2.core w.core).intake.find? (fun e => e.slot == v.slot && !e.incomplete) = none → exec i s = answered s2 w i d 3) ∧
    (∀ (s3 : State) (r : Word), takes → va ≠ 0 → s2.loadFrom v va = .ok (s3, r) → exec i s = .next ((s3.writeG w d r).retireVar w i)))

/-- R233 and Table 8.10: SLOTCTL's operations and their statuses. ENDF's report carries epc, and for a conflict fault the PC of the refused operation
(R348). R234: XINV drops the translations of a page, of an address space or of all, as the scope in g(b) says; CINV drops the copies of frozen data of
a range, of none where its length is zero, from every L1 cache and remote-data cache, and changes no memory or register. Corners that are the model's
choice: log entry 45. -/
def Obligations.SlotControlAndInvalidations : Prop :=
  (
  ∀ (s : State) (d a b : Fin 32) (s1 s2 : State) (x y : Word), let w := s.who
    let i := Instr.slotctl d a b
    w.slot = 15 → open_ s i → s.readG w a = .ok (x, s1) → s1.readG w b = .ok (y, s2) → s2.chkDst w d = .ok () →
    let v : Who := ⟨w.core, Fin.ofNat 16 y.toNat⟩
    let op := x.toNat % 8
    let may := v.slot ≠ 15 ∧ inTrap s2 v
    let q := s2.at v
    let rep : Event := .launchStop q.task.launch .fault
      (some ⟨0, q.cause.toNat % 64, q.cause.toNat / 2 ^ 8 % 2 ^ 8, w.core, v.slot.val, q.task.wid, if q.cause.toNat % 64 = 0x0F then q.lfpc else q.epc, q.tval, 0, none⟩)
    (op ≤ 1 → ¬ may → exec i s = answered s2 w i d 1) ∧
    (op = 0 → may → exec i s = answered (s2.endTrapped v) w i d 0) ∧
    (op = 1 → may → exec i s = answered ((if q.cause.toNat % 64 = 0x21 then s2 else s2.post [rep]).endTrapped v) w i d 0) ∧
    (op = 2 → (¬ may ∨ v.slot = 14) → exec i s = answered s2 w i d 1) ∧
    (op = 2 → may → v.slot ≠ 14 → (s2.core w.core).blocked = true → exec i s = answered s2 w i d 2) ∧
    (op = 2 → may → v.slot ≠ 14 → (s2.core w.core).blocked = false → exec i s = answered (s2.beginSave v 0 0 0) w i d 0) ∧
    (op = 3 → exec i s = answered (s2.updCore w.core fun k => { k with hslot := v.slot }) w i d 0) ∧
    (op = 4 → ∀ p ∈ stateCodes, (s2.at v).st = p.1 → exec i s = answered s2 w i d p.2) ∧
    (5 ≤ op → exec i s = answered s2 w i d 7)) ∧ (
  ∀ (s : State) (a b : Fin 32) (s1 s2 : State) (x y : Word), let w := s.who
    w.slot = 15 → s.readG w a = .ok (x, s1) → s1.readG w b = .ok (y, s2) →
    (open_ s (.xinv a b) →
      exec (.xinv a b) s = .next ({ s2 with tcache := s2.tcache.filter fun e => !dropped x y e.asid e.page e.pte }.retireVar w (.xinv a b))) ∧
    (open_ s (.cinv a b) → ∃ t : State, exec (.cinv a b) s = .next (t.retireVar w (.cinv a b)) ∧ t.mem = s2.mem ∧ t.codes = s2.codes ∧
      (let out (asid va : Nat) : Prop := asid = y.toNat / 2 ^ 48 % 256 ∧ 0 < y.toNat % 2 ^ 48 ∧ va < x.toNat + y.toNat % 2 ^ 48 ∧ x.toNat / 32 * 32 < va + 32
      (∀ die l, l ∈ t.rdc.getD die [] ↔ l ∈ s2.rdc.getD die [] ∧ ¬ out l.asid l.va) ∧
      ∀ c k, Tbl.find? s2.cores c = some k → ∃ k', Tbl.find? t.cores c = some k' ∧ k'.slots = k.slots ∧ k'.lmem = k.lmem ∧ k'.cbs = k.cbs ∧
        (∀ l, l ∈ k'.icache ↔ l ∈ k.icache ∧ ¬ out l.asid l.va) ∧ ∀ l, l ∈ k'.dcache ↔ l ∈ k.dcache ∧ ¬ (l.frozen = true ∧ out l.asid l.va))))

namespace Sys2Proof.Claims

/-! ## The strip and element-wise arithmetic (R236, R237, R241 to R243) -/

/-- The strip's element count N and the size of the element type named at VSETVL (Tables 9.1 and 9.2), and its lane-group side and unit (R246, R256). -/
def strip (s : State) : Nat := (s.th s.who).vl.toNat % 2 ^ 9
def stripES (s : State) : Nat := [8, 4, 2, 2, 1, 2, 4, 8].getD ((s.th s.who).vl.toNat / 2 ^ 9 % 8) 8
def side (s : State) : Nat := 2 ^ ((s.th s.who).vl.toNat / 2 ^ 12 % 4)
def unit (s : State) : Nat := side s * side s

/-- VLEN / 8 of the issuing core: 128 on a K8 die, 64 on K7 (R2). -/
def vbytes (s : State) : Nat := if s.who.core < 1152 then 128 else 64

/-- The strip fits a register at an element size (R237). -/
def fits (s : State) (es : Nat) : Prop := strip s * es ≤ vbytes s

/-- Element k is active: bit k × ES(ETYPE) of the mask, and every one under m0 (R237). -/
def activeAt (s : State) (m : Fin 8) (k : Nat) : Bool :=
  decide (m = 0) || (decide (k * stripES s < vbytes s) && (s.th s.who).m[m].getLsbD (k * stripES s))

/-- Element k, of es bytes, of a vector register. -/
def vel (s : State) (es : Nat) (v : Fin 16) (k : Nat) : Nat :=
  if k * es < vbytes s then (s.th s.who).v[v].toNat / 2 ^ (8 * es * k) % 2 ^ (8 * es) else 0

/-- An instruction completes with elements 0 to N − 1 of vd as `f` gives them and every byte above them zero (R237). -/
def Writes (var : Bool) (i : Instr) (d : Fin 16) (es : Nat) (s : State) (f : Nat → Nat) : Prop :=
  ∃ X : Nat, exec i s = .next (ended var i s.who (s.writeV s.who d X)) ∧ X < 2 ^ (8 * es * strip s) ∧
    ∀ k, k < strip s → X / 2 ^ (8 * es * k) % 2 ^ (8 * es) = f k

/-- `f` where the element is active, and the destination's old element elsewhere. -/
def masked (s : State) (m : Fin 8) (es : Nat) (d : Fin 16) (f : Nat → Nat) (k : Nat) : Nat := if activeAt s m k then f k else vel s es d k

/-- A strip that does not fit is an illegal instruction before any effect (R237). -/
def unfit (i : Instr) (s : State) (es : Nat) : Prop := ¬ fits s es → exec i s = trapped s i 0x01 (encodeWord i)

abbrev VecForm := Fin 16 → Fin 16 → Fin 16 → Fin 8 → Instr

/-- Table 9.4 for an integer etype: exact integers, taken modulo 2^w, from the unsigned x and y and the old z; S reads one as signed. -/
def intForms (e : EType) : List (VecForm × (Nat → Nat → Nat → Int)) :=
  let w := 8 * e.size
  let S (x : Nat) : Int := if x < 2 ^ (w - 1) then x else (x : Int) - 2 ^ w
  [(fun d a b m => .vadd d a b m e .rne, fun x y _ => x + y), (fun d a b m => .vsub d a b m e .rne, fun x y _ => (x : Int) - y),
   (fun d a b m => .vmul d a b m e .rne, fun x y _ => x * y),
   (fun d a b m => .vmin d a b m e .rne, fun x y _ => min (S x) (S y)), (fun d a b m => .vmax d a b m e .rne, fun x y _ => max (S x) (S y)),
   (fun d a b m => .vminN d a b m e, fun x y _ => min x y), (fun d a b m => .vmaxN d a b m e, fun x y _ => max x y),
   (fun d a _ m => .vabs d a m e .rne, fun x _ _ => if S x < 0 then -S x else S x), (fun d a _ m => .vneg d a m e .rne, fun x _ _ => -S x),
   (fun d a b m => .vand d a b m e, fun x y _ => Nat.land x y), (fun d a b m => .vor d a b m e, fun x y _ => Nat.lor x y),
   (fun d a b m => .vxor d a b m e, fun x y _ => Nat.xor x y), (fun d a b m => .vsll d a b m e, fun x y _ => x * 2 ^ (y % w)),
   (fun d a b m => .vsrl d a b m e, fun x y _ => x / 2 ^ (y % w)), (fun d a b m => .vsra d a b m e, fun x y _ => S x / 2 ^ (y % w)),
   (fun d a b m => .vfma d a b m e .rne, fun x y z => z + x * y), (fun d a b m => .vfms d a b m e .rne, fun x y z => z - x * y)]

/-- Table 9.4 for a floating etype: exact values, and Round of R124; VABS and VNEG touch only the sign, and a NaN gives the canonical NaN (R242). -/
def floatForms (e : EType) (f : Fmt) (r : Rm) : List (VecForm × (Nat → Nat → Nat → Nat)) :=
  let V := f.decode
  let R (v : Val) : Nat := f.round r.mode v
  let top := 2 ^ (8 * e.size - 1)
  let sign (g : Nat → Nat) (x : Nat) : Nat := if (V x).isNan then f.nan else g x
  [(fun d a b m => .vadd d a b m e r, fun x y _ => R (Val.add r.mode (V x) (V y))),
   (fun d a b m => .vsub d a b m e r, fun x y _ => R (Val.add r.mode (V x) (V y).neg)),
   (fun d a b m => .vmul d a b m e r, fun x y _ => R ((V x).mul (V y))),
   (fun d a b m => .vmin d a b m e r, fun x y _ => f.encode (Val.minT (V x) (V y))),
   (fun d a b m => .vmax d a b m e r, fun x y _ => f.encode (Val.maxT (V x) (V y))),
   (fun d a _ m => .vabs d a m e r, fun x _ _ => sign (fun x => x % top) x),
   (fun d a _ m => .vneg d a m e r, fun x _ _ => sign (fun x => (x + top) % (2 * top)) x),
   (fun d a b m => .vfma d a b m e r, fun x y z => R (Val.add r.mode (Val.mul (V x) (V y)) (V z))),
   (fun d a b m => .vfms d a b m e r, fun x y z => R (Val.add r.mode (V z) (Val.mul (V x) (V y)).neg))]

/-- The correctly rounded functions (R243): Table 5.4 and R132. -/
def vcrForms (e : EType2) (r : Rm) : List (VecForm × (Nat → Nat → Nat)) :=
  let f := e.fmt
  let V := f.decode
  let R (v : Val) : Nat := f.round r.mode v
  let T (op : Nat) (x : Nat) : Nat := vcrTrans op f r.mode (Config.vcrFree op e.code r.code x) (V x)
  [(fun d a b m => .vdiv d a b m e r, fun x y => R ((V x).div (V y))), (fun d a _ m => .vsqrt d a m e r, fun x _ => vcrSqrt f r.mode (V x)),
   (fun d a _ m => .vexp d a m e r, fun x _ => T 0 x), (fun d a _ m => .vlog d a m e r, fun x _ => T 1 x),
   (fun d a _ m => .vrcp d a m e r, fun x _ => R ((Val.fin false 1 1).div (V x))), (fun d a _ m => .vrsq d a m e r, fun x _ => vcrRsq f r.mode (V x)),
   (fun d a _ m => .vtanh d a m e r, fun x _ => T 2 x)]

/-! ## Masks, selection, permutes, reductions and conversion (R244 to R252) -/

/-- The conditions of VCMP (R244): IEEE comparisons for a floating etype, signed or unsigned ones for an integer etype. -/
def vcondVal (e : EType) (c : VCond) (x y : Nat) : Bool :=
  let w := 8 * e.size
  let S (x : Nat) : Int := if x < 2 ^ (w - 1) then x else (x : Int) - 2 ^ w
  match e.fmt with
  | some f =>
    let X := f.decode x
    let Y := f.decode y
    let nan := X.isNan || Y.isNan
    match c with
    | .eq => !nan && !X.lt Y && !Y.lt X
    | .ne => nan || X.lt Y || Y.lt X
    | .lt => !nan && X.lt Y
    | .ge => !nan && !X.lt Y
    | .un => nan
    | .ltn => false
    | .gen => false
  | none =>
    match c with
    | .eq => decide (x = y)
    | .ne => decide (x ≠ y)
    | .lt => decide (S x < S y)
    | .ge => decide (S x ≥ S y)
    | .ltn => decide (x < y)
    | .gen => decide (x ≥ y)
    | .un => false

/-- The units that VSEL, VCOMPRESS and VEXPAND select: by the mask bit of the unit's first element (R246). -/
def unitSel (s : State) (m : Fin 8) (u : Nat) : Bool := activeAt s m (u * unit s)
/-- The selected units, ascending. -/
def chosen (s : State) (m : Fin 8) : List Nat := (List.range (strip s / unit s)).filter (unitSel s m)

/-- R246: for unit t of the destination, whether it comes from va, and which unit there or in vb. -/
def selForms (e : EType) : List (VecForm × (State → Fin 8 → Nat → Bool × Nat)) :=
  [(fun d a b m => .vsel d a b m e, fun s m t => (unitSel s m t, t)),
   (fun d a b m => .vcompress d a b m e, fun s m t =>
      let j := (chosen s m).length
      if t < j then (true, (chosen s m).getD t 0) else (false, t - j)),
   (fun d a b m => .vexpand d a b m e, fun s m t =>
      if unitSel s m t then (true, ((chosen s m).filter fun (x : Nat) => decide (x < t)).length) else (false, t))]

/-- A general register that a vector instruction names: g0 to g15. -/
def reg16 (s : State) (n : Fin 16) : Word := if n = 0 then 0 else (s.th s.who).g[(⟨n.val, by omega⟩ : Fin 32)]

/-- Completion with a general register g0 to g15 written. -/
def WritesG (i : Instr) (g : Fin 16) (s : State) (v : Word) : Prop :=
  exec i s = .next ((s.writeG s.who ⟨g.val, by omega⟩ v).retire s.who i)

/-- Tree of R131 over x[lo .. lo + n − 1]; `none` is absent. -/
def tree (op : Nat → Nat → Nat) (x : Nat → Option Nat) : Nat → Nat → Nat → Option Nat
  | 0, _, _ => none
  | fuel + 1, lo, n =>
    if n = 1 then x lo
    else
      let h := 2 ^ Nat.log2 (n - 1)
      match tree op x fuel lo h, tree op x fuel (lo + h) (n - h) with
      | none, r => r
      | l, none => l
      | some l, some r => some (op l r)
/-- Reduce of R131: groups of 64 bytes, combined into the accumulator in ascending order. -/
def reduce (op : Nat → Nat → Nat) (x : Nat → Option Nat) (es n acc : Nat) : Nat :=
  (List.range ((n + 64 / es - 1) / (64 / es))).foldl (fun acc j =>
    match tree op x 8 (j * (64 / es)) (min (n - j * (64 / es)) (64 / es)) with
    | some t => op acc t
    | none => acc) acc
/-- Op of R131. -/
def opSum (e : EType) (l r : Nat) : Nat :=
  match e.fmt with
  | some f => f.round .rne (Val.add .rne (f.decode l) (f.decode r))
  | none => (l + r) % 2 ^ (8 * e.size)
def opMax (e : EType) (l r : Nat) : Nat :=
  match e.fmt with
  | some f => f.encode (Val.maxT (f.decode l) (f.decode r))
  | none => if sext (8 * e.size) l < sext (8 * e.size) r then r else l
def opMin (e : EType) (l r : Nat) : Nat :=
  match e.fmt with
  | some f => f.encode (Val.minT (f.decode l) (f.decode r))
  | none => if sext (8 * e.size) r < sext (8 * e.size) l then r else l
def redForms (e : EType) : List ((Fin 16 → Fin 16 → Fin 8 → Instr) × (Nat → Nat → Nat)) :=
  [(fun d a m => .vrsum d a m e, opSum e), (fun d a m => .vrmax d a m e, opMax e), (fun d a m => .vrmin d a m e, opMin e)]

/-- VCVT's result (R250): Round for a floating destination, RoundGrid limited to the type's range for an integer one. -/
def converted (e : EType) (v : Val) : Nat :=
  match e.fmt with
  | some f => f.round .rne v
  | none =>
    let w := 8 * e.size
    let lim (x : Int) : Int := if x < -2 ^ (w - 1) then -2 ^ (w - 1) else if 2 ^ (w - 1) - 1 < x then 2 ^ (w - 1) - 1 else x
    match v with
    | .nan => 0
    | .inf s => if s then 2 ^ (w - 1) else 2 ^ (w - 1) - 1
    | .fin s n d => (lim (roundInt .rne 0 s n d) % 2 ^ w).toNat

/-- Bits of one element of a format code (Tables 5.1 and 5.2). -/
def fmtBits (c : Nat) : Nat := [64, 32, 16, 16, 8, 8, 4, 8, 16, 32, 64, 8, 16, 32, 64, 0].getD c 0
/-- The record of a format shadow that VQNT and VDQNT accept (R251). -/
def quantOk (r : Nat) (e : EType) : Prop :=
  r / 2 ^ 9 % 4 ≤ 1 ∧ fmtBits (r % 16) ≠ 64 ∧ fmtBits (r % 16) ≤ 8 * e.size ∧ (r / 2 ^ 9 % 4 = 1 → fmtBits (r % 16) < 8 * e.size)
/-- The byte offset of the scales of a packed strip (R251). -/
def scaleAt (n b : Nat) : Nat := 8 * ((n * b + 63) / 64)
/-- The random draw of element i (R126, R251). -/
def drawAt (s : State) (i : Nat) : Nat :=
  mix32 (s.th s.who).seed.toNat (s.at s.who).task.wid.toNat ((s.th s.who).vl.toNat / 2 ^ 32 % 2 ^ 28 + i)

end Sys2Proof.Claims

/-- R237, R241 and R242: every element-wise instruction, integer and floating: each active element is Table 9.4's, each inactive one keeps its value,
bytes above the strip are zero, and a strip that does not fit is an illegal instruction. The correctly rounded functions (R243) complete on a K8 die.
-/
def Obligations.ElementwiseResult : Prop :=
  ∀ (s : State) (d a b : Fin 16) (m : Fin 8) (e : EType),
    (e.fmt = none → ∀ f ∈ intForms e, unfit (f.1 d a b m) s e.size ∧ (fits s e.size → Writes false (f.1 d a b m) d e.size s
      (masked s m e.size d fun k => (f.2 (vel s e.size a k) (vel s e.size b k) (vel s e.size d k) % 2 ^ (8 * e.size)).toNat))) ∧
    (∀ (fm : Fmt) (r : Rm), e.fmt = some fm → ∀ f ∈ floatForms e fm r, unfit (f.1 d a b m) s e.size ∧
      (fits s e.size → Writes false (f.1 d a b m) d e.size s
        (masked s m e.size d fun k => f.2 (vel s e.size a k) (vel s e.size b k) (vel s e.size d k)))) ∧
    (∀ (e : EType2) (r : Rm), fits s e.etype.size → s.who.core < 1152 →
      ∀ i ∈ [Instr.vdiv d a b m e r, .vsqrt d a m e r, .vexp d a m e r, .vlog d a m e r, .vrcp d a m e r, .vrsq d a m e r, .vtanh d a m e r],
        ∃ X : Nat, exec i s = .next ((s.writeV s.who d X).retireVar s.who i) ∧ X < 2 ^ (8 * e.etype.size * strip s))

/-- R111, R132 and R243: on a K8 die each active element is the correctly rounded function of its operands; on K7, which lacks the group, the
instruction takes a migrate trap where a die of the placement set has it, and an extension fault otherwise. Corners that are the model's choice: log
entries 2, 64. -/
def Obligations.CorrectlyRoundedResult : Prop :=
  ∀ (s : State) (d a b : Fin 16) (m : Fin 8) (e : EType2) (r : Rm), ∀ f ∈ vcrForms e r,
    let i := f.1 d a b m
    let es := e.etype.size
    unfit i s es ∧
    (fits s es → s.who.core < 1152 → Writes true i d es s (masked s m es d fun k => f.2 (vel s es a k) (vel s es b k))) ∧
    (fits s es → 1152 ≤ s.who.core → s.who.core < 1536 → exec i s = .next (s.takeTrap s.who
      (if s.who.slot.val < 14 ∧ s.groupSomewhere (s.at s.who) 2 = true then 0x03 else 0x02) false 2 (encodeWord i) (s.th s.who).pc true))

/-- R239: VSETVL sets the strip to min(avl, VLMAX) elements with the type, lane-group order and data index its operand names, and refuses an illegal
operand. R244 to R247: VCMP and VMLOG write the mask bits of the strip and clear those above it; VPOPM counts; VSEL, VCOMPRESS and VEXPAND move whole
units. Corners that are the model's choice: log entry 49. -/
def Obligations.StripMaskAndSelect : Prop :=
  (
  ∀ (s : State) (d a : Fin 32) (e : EType) (s1 : State) (x : Word), open_ s (.vsetvl d a e) → s.readG s.who a = .ok (x, s1) →
    let i := Instr.vsetvl d a e
    let avl := x.toNat % 2 ^ 32
    let lgd := x.toNat / 2 ^ 60 % 4
    let g := 4 ^ lgd
    let bad := x.toNat / 2 ^ 62 ≠ 0 ∨ lgd = 3 ∨ (lgd ≠ 0 ∧ (64 < g * e.size ∨ avl % g ≠ 0))
    let n := min avl (vbytes s / e.size)
    (bad → exec i s = trapped s i 0x01 (encodeWord i)) ∧
    (¬ bad → s1.chkDst s.who d = .ok () → exec i s = .next (((s1.writeG s.who d (BitVec.ofNat 64 n)).updTh s.who fun t =>
      { t with vl := BitVec.ofNat 64 (n + 2 ^ 9 * e.code + 2 ^ 12 * lgd + 2 ^ 32 * (x.toNat / 2 ^ 32 % 2 ^ 28)) }).retire s.who i))) ∧ (
  ∀ (s : State) (a b : Fin 16) (m : Fin 8) (e : EType),
    (∀ (k : Fin 8) (c : VCond), unfit (.vcmp k a b m e c) s e.size ∧ (fits s e.size → ∃ X : Nat,
      exec (.vcmp k a b m e c) s = .next ((s.writeM s.who k X).retire s.who (.vcmp k a b m e c)) ∧ X < 2 ^ (strip s * stripES s) ∧
      ∀ j t, j < strip s → t < stripES s →
        X.testBit (j * stripES s + t) = (activeAt s m j && vcondVal e c (vel s e.size a j) (vel s e.size b j)))) ∧
    (∀ (k x y : Fin 8) (o : MLogOp), ∃ X : Nat, exec (.vmlog k x y o) s = .next ((s.writeM s.who k X).retire s.who (.vmlog k x y o)) ∧
      X < 2 ^ (strip s * stripES s) ∧ ∀ j, j < strip s * stripES s →
        let p := (s.readM s.who x).testBit j
        let q := (s.readM s.who y).testBit j
        X.testBit j = (match o with | .and => p && q | .or => p || q | .xor => p != q | .andn => p && !q)) ∧
    (∀ (g : Fin 16) (k : Fin 8), WritesG (.vpopm g k) g s (BitVec.ofNat 64 ((List.range (strip s)).filter (activeAt s k)).length)) ∧
    (∀ d : Fin 16, ∀ f ∈ selForms e, unfit (f.1 d a b m) s e.size ∧ (fits s e.size → strip s % unit s = 0 →
      Writes false (f.1 d a b m) d e.size s fun k =>
        let (fromA, t) := f.2 s m (k / unit s)
        vel s e.size (if fromA then a else b) (t * unit s + k % unit s))))

/-- R248: the permutes. R131 and R249: VRSUM, VRMAX and VRMIN reduce the active elements into element 0 by the tree of R131, and clear every other
byte. -/
def Obligations.PermuteAndReduction : Prop :=
  (
  ∀ (s : State) (d a b : Fin 16) (m : Fin 8) (e : EType),
    let es := e.size
    let N := strip s
    (unfit (.vperm d a b m e) s es ∧ (fits s es → Writes false (.vperm d a b m e) d es s (masked s m es d fun k =>
      if vel s es b k < N then vel s es a (vel s es b k) else 0))) ∧
    (unfit (.vslide d a b m e) s es ∧ (fits s es → Writes false (.vslide d a b m e) d es s (masked s m es d fun k =>
      let j : Int := k + (reg16 s b).toInt
      if 0 ≤ j ∧ j < N then vel s es a j.toNat else 0))) ∧
    (unfit (.vbcast d b m e) s es ∧ (fits s es → Writes false (.vbcast d b m e) d es s (masked s m es d fun _ =>
      (reg16 s b).toNat % 2 ^ (8 * es)))) ∧
    (unfit (.vext d a b e) s es ∧ (fits s es → WritesG (.vext d a b e) d s (
      let x := vel s es a (reg16 s b).toNat
      if (reg16 s b).toNat < N then (if e.fmt.isSome then BitVec.ofNat 64 x else BitVec.ofInt 64 (sext (8 * es) x)) else 0))) ∧
    (unfit (.vins d a b e) s es ∧ (fits s es → Writes false (.vins d a b e) d es s fun k =>
      if k = (reg16 s b).toNat then vel s es a 0 else vel s es d k))) ∧ (
  ∀ (s : State) (d a : Fin 16) (m : Fin 8) (e : EType), ∀ f ∈ redForms e, unfit (f.1 d a m) s e.size ∧
    (fits s e.size → exec (f.1 d a m) s = .next ((s.writeV s.who d
      (reduce f.2 (fun k => if activeAt s m k then some (vel s e.size a k) else none) e.size (strip s) (vel s e.size d 0) % 2 ^ (8 * e.size))).retire
        s.who (f.1 d a m))))

/-- R250 to R252: VCVT converts between formats, VSCL applies S12 scales, and VQNT and VDQNT pack and unpack a strip by the format record of a shadow.
R256 to R258: VMMB multiplies and accumulates the strip's small matrices, VLGL counts the live groups, and both refuse a strip without groups. Corners
that are the model's choice: log entry 3. -/
def Obligations.ConversionAndSmallMatrix : Prop :=
  (
  ∀ (s : State) (d a b : Fin 16) (e : EType),
    (∀ z : Fin 16, let src := fmtBits z.val / 8
      let i := Instr.vcvt d a z e
      ((¬ fits s src ∨ ¬ fits s e.size) → exec i s = trapped s i 0x01 (encodeWord i)) ∧
      (fits s src → fits s e.size → Writes false i d e.size s fun k => converted e (codeVal z.val false (vel s src a k)) % 2 ^ (8 * e.size))) ∧
    (∀ fm : Fmt, e.fmt = some fm → unfit (.vscl d a b e) s e.size ∧ (fits s e.size → Writes false (.vscl d a b e) d e.size s fun k =>
      fm.round .rne (scaled (fm.decode (vel s e.size a k)) (s12 (vel s 2 b k % 2 ^ 12))))) ∧
    (∀ n : Fin 4, ∀ i ∈ [Instr.vqnt d a n e, .vdqnt d a n e], unfit i s e.size ∧
      (fits s e.size → (s.at s.who).recs[n] = none → exec i s = trapped s i 0x01 (encodeWord i)) ∧
      (∀ r, fits s e.size → (s.at s.who).recs[n] = some r → ¬ quantOk r e → exec i s = trapped s i 0x01 (encodeWord i))) ∧
    (∀ (n : Fin 4) (r : Nat) (fm : Fmt), e.fmt = some fm → fits s e.size → (s.at s.who).recs[n] = some r → quantOk r e →
      let N := strip s
      let w := fmtBits (r % 16)
      let va (k : Nat) : Val := fm.decode (vel s e.size a k)
      (r / 2 ^ 9 % 4 = 0 → ∃ X : Nat, exec (.vqnt d a n e) s = .next ((s.writeV s.who d X).retire s.who (.vqnt d a n e)) ∧ X < 2 ^ (w * N) ∧
        ∀ k < N, X / 2 ^ (w * k) % 2 ^ w = convert (va k) r (drawAt s k) % 2 ^ w) ∧
      (r / 2 ^ 9 % 4 = 1 → ∃ X : Nat, exec (.vqnt d a n e) s = .next ((s.writeV s.who d X).retire s.who (.vqnt d a n e)) ∧
        ∀ j, 16 * j < N →
          let q := quantBlock ((List.range (min 16 (N - 16 * j))).map fun t => va (16 * j + t)) r (fun t => drawAt s (16 * j + t))
          X / 2 ^ (8 * (scaleAt N w + 2 * j)) % 2 ^ 16 = q.1 % 2 ^ 16 ∧
          ∀ t < min 16 (N - 16 * j), X / 2 ^ (w * (16 * j + t)) % 2 ^ w = q.2.getD t 0 % 2 ^ w) ∧
      Writes false (.vdqnt d a n e) d e.size s fun k =>
        let x := s.readV s.who a
        let q := codeVal (r % 16) (r.testBit 7) (x / 2 ^ (w * k))
        fm.round .rne (if r / 2 ^ 9 % 4 = 1 then scaled q (s12 (x / 2 ^ (8 * (scaleAt N w + 2 * (k / 16))) % 2 ^ 12)) else q))) ∧ (
  ∀ (s : State) (d a b : Fin 16) (e : EType) (fm : Fmt), e.fmt = some fm →
    (side s = 1 → (∀ i ∈ [Instr.vmmb d a b e, .vlgl d b], exec i s = trapped s i 0x01 (encodeWord i))) ∧
    (side s ≠ 1 → unfit (.vmmb d a b e) s e.size ∧ (fits s e.size → Writes false (.vmmb d a b e) d e.size s fun k =>
      let q := side s
      let o := k % unit s
      (List.range q).foldl (fun acc j => fm.encode (fm.fma .rne (fm.decode (vel s e.size a (k - o + o / q * q + j)))
        (fm.decode (vel s e.size b (k - o + j * q + o % q))) (fm.decode acc))) (vel s e.size d k)) ∧
      WritesG (.vlgl d b) d s (BitVec.ofNat 64 ((List.range (strip s / unit s)).filter fun (j : Nat) =>
        decide ((s.readV s.who b) / 2 ^ (8 * stripES s * (j * unit s)) % 2 ^ (8 * stripES s) ≠ 0)).length)))

namespace Sys2Proof.Claims

/-! ## Table functions (R253 to R255) -/

/-- Bits [hi:lo] of a table's header (Table 9.6), and the size and length of a table. -/
def hd (bs : List Byte) (hi lo : Nat) : Nat := natOf (bs.take 32) / 2 ^ lo % 2 ^ (hi + 1 - lo)
def tableES (bs : List Byte) : Nat := if hd bs 3 0 = 0 then 8 else 4
def tableBytes (bs : List Byte) : Nat := 32 + tableES bs * (hd bs 15 8 + 1) * (hd bs 7 4 + 1)
/-- The refusals of R253. -/
def tableRefused (bs : List Byte) : Prop :=
  hd bs 63 24 ≠ 0 ∨ hd bs 255 128 ≠ 0 ∨ 1 < hd bs 3 0 ∨ 4096 < tableBytes bs ∨
    (fp64.decode (hd bs 127 64)).isNan = true ∨ (fp64.decode (hd bs 127 64)).isInf = true
/-- Coefficient j of segment k. -/
def coefficient (f : Fmt) (bs : List Byte) (k j : Nat) : Val :=
  f.decode (natOf ((bs.drop (32 + tableES bs * (k * (hd bs 7 4 + 1) + j))).take (tableES bs)))
/-- x × 2^e exactly. -/
def timesPow2 (v : Val) (e : Int) : Val :=
  match v with
  | .fin s n d => if 0 ≤ e then .fin s (n * 2 ^ e.toNat) d else .fin s n (d * 2 ^ (-e).toNat)
  | v => v
/-- Poly of R255. -/
def polyValue (f : Fmt) (bs : List Byte) (x : Nat) : Nat :=
  let X := f.decode x
  let x0 := fp64.decode (hd bs 127 64)
  let sh := sext 8 (hd bs 23 16)
  let deg := hd bs 7 4
  let top := hd bs 15 8
  let k := match timesPow2 (Val.add .rne X x0.neg) sh with
    | .fin s n d => if s then 0 else min (n / d) top
    | .inf s => if s then 0 else top
    | .nan => 0
  let t := f.roundV .rne (Val.add .rne X (Val.add .rne x0 (timesPow2 (.fin false k 1) (-sh))).neg)
  if X.isNan then f.nan
  else f.encode ((List.range deg).foldl (fun y (i : Nat) =>
    f.roundV .rne (Val.add .rne (y.mul t) (coefficient f bs k (deg - 1 - i)))) (coefficient f bs k deg))

/-! ## Vector memory (R259 to R263) -/

/-- The active elements of the strip. -/
def actives (s : State) (m : Fin 8) : List Nat := (List.range (strip s)).filter (activeAt s m)

/-- Whether a place lies in the issuing core's own local memory. -/
def ownPlace (w : Who) (l : Loc) : Bool := match l with | .loc c _ => decide (c = w.core) | .mem _ => false

/-- A trap of a vector access: of fixed latency where every active element lies in the thread's own local memory (R17, R260). -/
def trappedAll (s : State) (i : Instr) (m : Fin 8) (ea : Nat → Word) (code : Nat) (tval : Word) : Host.Outcome State Fault Refusal :=
  if ((actives s m).all fun k => s.ownLocal s.who (ea k).toNat) = true
  then .next (s.takeTrap s.who code false 0 tval (s.th s.who).pc (s.namesBound s.who i)) else trapped s i code tval

/-- A vector access with an element homed on another core: the predictor is consulted once, for the first such element, and the thread migrates to it;
or each word of 8 bytes homed elsewhere is a remote word access (R40, R43, R260). -/
def VLeaves (i : Instr) (s : State) (xs : List (Word × Loc)) : Prop :=
  ∀ l h, firstRemote s.who (xs.map Prod.snd) = some l → remoteHome s.who l = some h →
    exec i s = .next (if l.isMem = true ∧ s.mayMigrate s.who h = true
      then (s.waitBusy s.who i (.locality (remoteWords s.who xs))).post [.localityMigration s.who.core s.who.slot h]
      else ((s.noteWords s.who (remoteWords s.who xs)).waitBusy s.who i .remote).post [.remoteWordAccess s.who.core s.who.slot])

/-- The accesses of a vector instruction as the caches and the trace of their homes take them (R41, R308). -/
def touched (s : State) (store : Bool) (es : Nat) (xs : List (Word × Loc)) : State :=
  xs.foldl (fun t x => (t.cached s.who x.1.toNat es store x.2).traceAt s.who (if store then 1 else 0) x.1.toNat x.2) s

/-- A vector load (R260): its strip must fit; where every active element is aligned, open and at hand it writes the elements loaded, and then `fin`
follows. -/
def VLoads (i : Instr) (d : Fin 16) (m : Fin 8) (es : Nat) (s : State) (ea : Nat → Word) (fin : State → State) : Prop :=
  unfit i s es ∧
  ∀ (ls : Nat → Loc) (bs : Nat → List Byte), fits s es →
    (∀ k ∈ actives s m, (ea k).toNat % es = 0 ∧ s.place s.who .load (ea k).toNat es = .ok (ls k)) →
    let xs := (actives s m).map fun k => (ea k, ls k)
    ((∀ k ∈ actives s m, remoteHome s.who (ls k) = none ∧ s.loadAt s.who (ea k).toNat (ls k) es = .ok (bs k)) →
      ∃ X : Nat, exec i s = .next (ended ((actives s m).any fun k => !ownPlace s.who (ls k)) i s.who
          (fin ((touched s false es xs).writeV s.who d X))) ∧
        X < 2 ^ (8 * es * strip s) ∧
        ∀ k < strip s, X / 2 ^ (8 * es * k) % 2 ^ (8 * es) = masked s m es d (fun k => natOf (bs k) % 2 ^ (8 * es)) k) ∧
    VLeaves i s xs

/-- A vector store (R260): the elements are written in ascending order once every active one has passed its checks; outside the state window a
speculative task's takes an unsaved-state fault, and of misaligned elements, where no element meets a machine check, the one of least index is
reported. -/
def VStores (i : Instr) (d : Fin 16) (m : Fin 8) (es : Nat) (s : State) (ea : Nat → Word) (fin : State → State) : Prop :=
  let out (k : Nat) : Prop := ¬ ((s.th s.who).stwb.toNat ≤ (ea k).toNat ∧
    (ea k).toNat + es ≤ (s.th s.who).stwb.toNat + (s.th s.who).stwl.toNat)
  unfit i s es ∧
  (∀ k ∈ actives s m, fits s es → s.spec s.who = true → out k → exec i s = trappedAll s i m ea 0x08 (encodeWord i)) ∧
  (∀ k, fits s es → (s.spec s.who = true → ∀ k ∈ actives s m, ¬ out k) →
    (∀ j ∈ actives s m, ∀ tv sub log, s.place s.who .store (ea j).toNat es ≠ .error (.trap 0x20 tv sub log)) →
    (actives s m).find? (fun k => decide ((ea k).toNat % es ≠ 0)) = some k → exec i s = trappedAll s i m ea 0x05 (ea k)) ∧
  ∀ ls : Nat → Loc, fits s es → (s.spec s.who = true → ∀ k ∈ actives s m, ¬ out k) →
    (∀ k ∈ actives s m, (ea k).toNat % es = 0 ∧ s.place s.who .store (ea k).toNat es = .ok (ls k)) →
    let xs := (actives s m).map fun k => (ea k, ls k)
    ((∀ k ∈ actives s m, remoteHome s.who (ls k) = none) →
      exec i s = .next (ended ((actives s m).any fun k => !ownPlace s.who (ls k)) i s.who
        (fin ((actives s m).foldl (fun t k => t.storeAt s.who (ls k) (bytesOf es (vel s es d k))) (touched s true es xs))))) ∧
    VLeaves i s xs

/-- Extents, strides and cursor of a shape record, its position and period (R261). -/
def shE (h : Shape) (k : Fin 4) : Nat := h.ext[k].toNat
def shC (h : Shape) (k : Fin 4) : Nat := h.cur[k].toNat
def shPos (h : Shape) : Nat := shC h 0 + shE h 0 * (shC h 1 + shE h 1 * (shC h 2 + shE h 2 * shC h 3))
def shPeriod (h : Shape) : Nat := shE h 0 * shE h 1 * shE h 2 * shE h 3
def shUnset (h : Shape) : Prop := shE h 0 = 0 ∨ shE h 1 = 0 ∨ shE h 2 = 0 ∨ shE h 3 = 0
/-- Coord. -/
def shCoord (h : Shape) (p : Nat) : Fin 4 → Nat
  | 0 => p % shE h 0
  | 1 => p / shE h 0 % shE h 1
  | 2 => p / (shE h 0 * shE h 1) % shE h 2
  | 3 => p / (shE h 0 * shE h 1 * shE h 2)
/-- Addr(p, E). -/
def shAddr (h : Shape) (p es : Nat) : Word :=
  BitVec.ofInt 64 (h.base.toNat + es * ((shCoord h p 0 : Int) * h.str[0].toInt + shCoord h p 1 * h.str[1].toInt +
    shCoord h p 2 * h.str[2].toInt + shCoord h p 3 * h.str[3].toInt))
/-- Advance(k). -/
def shAdvance (h : Shape) (k : Int) : Shape :=
  { h with cur := .ofFn fun i => BitVec.ofNat 32 (shCoord h ((shPos h + k) % shPeriod h).toNat i) }
def setShape (s : State) (n : Fin 8) (h : Shape) : State := s.updTh s.who fun t => { t with sh := t.sh.set n h }

/-- A shape record of 56 bytes (Table 1.10). -/
def shapeOf (bs : List Byte) : Shape :=
  let ws (o : Nat) : Vector (BitVec 32) 4 := .ofFn fun k => BitVec.ofNat 32 (natOf ((bs.drop (o + 4 * k.val)).take 4))
  ⟨BitVec.ofNat 64 (natOf (bs.take 8)), ws 8, ws 24, ws 40⟩
def bytesOfShape (h : Shape) : List Byte :=
  bytesOf 8 h.base.toNat ++ (h.ext.toList ++ h.str.toList ++ h.cur.toList).flatMap fun x => bytesOf 4 x.toNat

/-! ## Circular buffers (R58 to R64, R264 to R272) -/

/-- A CB fault naming a buffer of a core. -/
def cbFaults (i : Instr) (s : State) (c : Nat) (n : Fin 32) : Prop := exec i s = trapped s i 0x07 (BitVec.ofNat 64 (n.val + 32 * (c % 2 ^ 11)))

/-- A descriptor's slots and slot bytes, and its range inside the issuing thread's grant (R59, R264). -/
def slotsOf (q : Cb) : Nat := q.nslotm1 + 1
def slotBytes (q : Cb) : Nat := 32 * q.slotsz
def owned (s : State) (q : Cb) : Prop :=
  s.who.slot = 15 ∨ ((s.grant s.who).1 = s.who.core ∧ (s.grant s.who).2.1 ≤ q.base ∧
    q.base + slotBytes q * slotsOf q ≤ (s.grant s.who).2.1 + (s.grant s.who).2.2)
/-- Data slots before the token, where it stands among the filled slots (R62). -/
def beforeToken (q : Cb) : Option Nat := q.token.map fun t => (t + slotsOf q - q.cptr) % slotsOf q
/-- Advances of the two indices (R60): the consumer's passes a token as any slot. -/
def advancedP (q : Cb) (k : Nat) : Cb := { q with pptr := (q.pptr + k) % slotsOf q, filled := q.filled + k, pushPos := 0 }
def advancedC (q : Cb) (k : Nat) : Cb :=
  { q with cptr := (q.cptr + k) % slotsOf q, filled := q.filled - k, popPos := 0,
           token := if (beforeToken q).any fun t => decide (t < k) then none else q.token }
/-- A descriptor read from its 24-byte image, FILLED and EOS clear (Table 2.7, R265). -/
def descriptorOf (x : Nat) (user : Option TaskId) : Cb :=
  { base := x % 2 ^ 20, slotsz := x / 2 ^ 20 % 2 ^ 12, nslotm1 := x / 2 ^ 32 % 2 ^ 8, pptr := x / 2 ^ 40 % 2 ^ 8, cptr := x / 2 ^ 48 % 2 ^ 8,
    filled := 0, pkind := x / 2 ^ 73 % 4, eos := false, en := x.testBit 76, srccore := x / 2 ^ 77 % 2 ^ 11,
    haddr := BitVec.ofNat 64 (x / 2 ^ 128 % 2 ^ 54), token := none, popPos := 0, pushPos := 0, user := user, reclaimed := false }
/-- The images that CBSET refuses for their contents (R59, R265). -/
def imageRefused (x : Nat) : Prop :=
  x / 2 ^ 56 % 2 ^ 8 ≠ 0 ∨ x / 2 ^ 88 % 2 ^ 40 ≠ 0 ∨ x / 2 ^ 182 % 2 ^ 10 ≠ 0 ∨ x / 2 ^ 20 % 2 ^ 12 = 0 ∨ x % 2 ^ 5 ≠ 0 ∨
    2 ^ 20 < x % 2 ^ 20 + x / 2 ^ 20 % 2 ^ 12 * 32 * (x / 2 ^ 32 % 2 ^ 8 + 1) ∨ x / 2 ^ 73 % 4 = 3 ∨
    x / 2 ^ 40 % 2 ^ 8 ≠ x / 2 ^ 48 % 2 ^ 8 ∨ x / 2 ^ 32 % 2 ^ 8 < x / 2 ^ 40 % 2 ^ 8 ∨ x / 2 ^ 64 % 2 ^ 9 ≠ 0 ∨ x.testBit 75 = true

/-- The CB instructions of a user, in their forms. -/
def cbForms (p : Fin 16) (d a n : Fin 32) : List Instr :=
  [.cbset a n, .cbwf p a n, .cbwe a n, .cbpa a n, .cbca a n, .cbeos n] ++ if 28 ≤ d.val then [.qbindPush d a p n, .qbindPop d p n, .qfree d] else []

/-- A wait that parks its task (R13). -/
def waits (i : Instr) (s : State) (p : ParkWhy) : Prop :=
  exec i s = if (s.th s.who).codelet then trapped s i 0x0D (encodeWord i) else .next (s.parkSlot s.who i p)

def cbPut (s : State) (n : Fin 32) (q : Cb) : State := s.updCb s.who.core n fun _ => q
/-- The binding of g28 to g31 changed. -/
def bindTo (s : State) (d : Fin 32) (b : Binding) : State := s.updTh s.who fun t => { t with bind := t.bind.setIfInBounds (d.val - 28) b }

/-- A slot's elements as VREDQ adds them from element 0 on (R271). -/
def slotSum (e : EType) (x m acc : Nat) : Nat := reduce (opSum e) (fun k => some (x / 2 ^ (8 * e.size * k) % 2 ^ (8 * e.size))) e.size m acc

end Sys2Proof.Claims

/-- R253 to R255: VCOEF checks a table and puts it into the coefficient store; VPOLY on a table in the store evaluates it, and on another one waits
for its load; a double-bit error of the store is a machine check (R388). Corners that are the model's choice: log entries 48, 59. -/
def Obligations.TableFunctionResult : Prop :=
  ∀ (s : State) (d a b g : Fin 16) (e : EType) (f : Fmt) (hb bs : List Byte), e.fmt = some f →
    (∀ (va : Word) (s1 : State), s.readG s.who (gv g) = .ok (va, s1) →
      (va.toNat % 32 ≠ 0 → exec (.vcoef g) s = trapped s (.vcoef g) 0x05 va) ∧
      (va.toNat % 32 = 0 → s1.readFrozen (s1.at s.who).asid va.toNat 1 = .ok hb → tableRefused hb →
        exec (.vcoef g) s = trapped s (.vcoef g) 0x01 (encodeWord (.vcoef g))) ∧
      (va.toNat % 32 = 0 → s1.readFrozen (s1.at s.who).asid va.toNat 1 = .ok hb → ¬ tableRefused hb →
        s1.readFrozen (s1.at s.who).asid va.toNat ((tableBytes hb + 31) / 32) = .ok bs →
        exec (.vcoef g) s = .next ((s1.keepTable s.who.core ⟨(s1.at s.who).asid, va, bs⟩).retireVar s.who (.vcoef g)))) ∧
    (let i := Instr.vpoly d a b e
     let va : Word := BitVec.ofNat 64 (s.readV s.who b)
     let inStore : Option CoefTable := (s.core s.who.core).coefs.find? fun t => t.asid == (s.at s.who).asid && t.va == va
     unfit i s e.size ∧
     (fits s e.size → inStore = none → exec i s =
       .next ((s.waitBusy s.who i .coef).post [.coefficientTableLoad s.who.core s.who.slot])) ∧
     let broken (t : CoefTable) : Bool := s.sramBad (.coef s.who.core) (lineKey t.asid t.va.toNat) (t.bytes.length / 8)
     (∀ t, fits s e.size → inStore = some t → broken t = true →
       exec i s = .next (s.takeTrap s.who 0x20 false 2 0 (s.th s.who).pc (s.varies s.who i))) ∧
     (∀ t, fits s e.size → inStore = some t → broken t = false → hd t.bytes 3 0 ≠ e.code → exec i s = trapped s i 0x01 (encodeWord i)) ∧
     (∀ t, fits s e.size → inStore = some t → broken t = false → hd t.bytes 3 0 = e.code →
       Writes false i d e.size s fun k => polyValue f t.bytes (vel s e.size a k)))

/-- R260 and R262: the vector loads and stores by unit stride, by index and by shape record, with the cursor's advance at completion. Corners that are
the model's choice: log entry 26. -/
def Obligations.VectorMemoryResult : Prop :=
  ∀ (s : State) (d g b : Fin 16) (n m : Fin 8) (e : EType),
    let es := e.size
    let unitStride (k : Nat) : Word := BitVec.ofNat 64 ((reg16 s g).toNat + k * es)
    let indexed (k : Nat) : Word := BitVec.ofInt 64 ((reg16 s g).toNat + es * sext (8 * es) (vel s es b k))
    let h := (s.th s.who).sh[n]
    let walk (k : Nat) : Word := shAddr h ((shPos h + k) % shPeriod h) es
    let step (t : State) : State := setShape t n (shAdvance h (strip s))
    VLoads (.vld d g m e) d m es s unitStride id ∧ VStores (.vst d g m e) d m es s unitStride id ∧
    VLoads (.vldx d g b m e) d m es s indexed id ∧ VStores (.vstx d g b m e) d m es s indexed id ∧
    (shUnset h → ∀ i ∈ [Instr.vlds d n m e, .vsts d n m e], exec i s = trapped s i 0x01 (encodeWord i)) ∧
    (¬ shUnset h → VLoads (.vlds d n m e) d m es s walk step ∧ VStores (.vsts d n m e) d m es s walk step)

/-- R261 and R263: SHSET loads a record and SHGET stores one in the grant; SHADV moves the cursor, and SHRST sets it to zero. Corners that are the
model's choice: log entries 49, 59. -/
def Obligations.ShapeRecordResult : Prop :=
  ∀ (s : State) (a : Fin 32) (n : Fin 8) (s1 : State) (va : Word), s.readG s.who a = .ok (va, s1) →
    let h := (s.th s.who).sh[n]
    let set := Instr.shset a n
    let get := Instr.shget a n
    let stray : Prop := va.toNat < 2 ^ 54 ∧ (va.toNat % 8 ≠ 0 ∨ va.toNat / 2 ^ 48 ≠ 63)
    (open_ s set → stray → exec set s = trapped s set 0x0B va) ∧
    (∀ core off : Nat, open_ s set → va.toNat % 8 = 0 → va.toNat / 2 ^ 48 = 63 → s1.localPlace s.who va.toNat 56 = .ok (.loc core off) →
      s1.upsetIn core off 56 = false → s1.spoiltIn core off 56 = [] →
      let r := shapeOf (s1.lread core off 56)
      ((shUnset r ∨ ∃ k, shE r k ≤ shC r k) → exec set s = trapped s set 0x01 (encodeWord set)) ∧
      (¬ shUnset r → (∀ k, shC r k < shE r k) → exec set s = .next ((setShape (s1.noteSpan s.who (.loc core off) 56) n r).retireAt s.who set (.loc core off)))) ∧
    (shUnset h → exec get s = trapped s get 0x01 (encodeWord get) ∧
      exec (.shadv a n) s = trapped s (.shadv a n) 0x01 (encodeWord (.shadv a n)) ∧
      exec (.shrst n) s = trapped s (.shrst n) 0x01 (encodeWord (.shrst n))) ∧
    (∀ core off : Nat, ¬ shUnset h → open_ s get → s1.storeAllowed s.who get va.toNat 56 = .ok () → va.toNat % 8 = 0 →
      va.toNat / 2 ^ 48 = 63 → s1.localPlace s.who va.toNat 56 = .ok (.loc core off) →
      exec get s = .next (((s1.noteSpan s.who (.loc core off) 56).localStore s.who core off (bytesOfShape h)).retireAt s.who get (.loc core off))) ∧
    (¬ shUnset h → (open_ s (.shadv a n) → exec (.shadv a n) s =
        .next ((setShape s1 n (shAdvance (s1.th s.who).sh[n] va.toInt)).retire s.who (.shadv a n))) ∧
      exec (.shrst n) s = .next ((setShape s n { h with cur := .replicate 4 0 }).retire s.who (.shrst n)))

/-- R59 to R63 and R264 to R269: every circular-buffer instruction, with the faults of a descriptor that is disabled, not owned, or bound. R270 and
R271: VLDQ and VSTQ move a strip from and to one slot; VREDQ takes one element a turn, BUSY between them with the count in rcnt, adds the whole slot's
elements into element 0 by the tree of R131, takes the slot and clears rcnt. Corners that are the model's choice: log entries 50, 59, 67, 94. -/
def Obligations.CircularBuffersAndQueueVectors : Prop :=
  (
  ∀ (s : State) (p : Fin 16) (d a n : Fin 32) (s1 : State) (k : Word),
    let w := s.who
    let q := s1.cb w.core n
    let K := k.toNat
    (∀ i ∈ cbForms p d a n, s.history w = true → exec i s = trapped s i 0x08 (encodeWord i)) ∧
    (s.history w = false → s.readG w a = .ok (k, s1) →
      -- CBSET (R265)
      (∀ core off : Nat, open_ s (.cbset a n) → s1.localSource w K 24 8 = .ok (.loc core off) →
        let x := natOf (s1.lread core off 24)
        let q' := descriptorOf x (if (s1.at w).launched then some (s1.at w).task else none)
        let refused := imageRefused x ∨ ¬ owned s1 q' ∨ (q'.en = true ∧ q.en = true ∧ q.filled ≠ 0 ∧ q.eos = false)
        (refused → cbFaults (.cbset a n) s w.core n) ∧ (¬ refused → exec (.cbset a n) s = .next ((cbPut s1 n q').retire w (.cbset a n)))) ∧
      -- CBWF and CBWE (R266)
      (∀ i ∈ [Instr.cbwf p a n, .cbwe a n], open_ s i →
        (¬ owned s1 q ∨ q.en = false ∨ slotsOf q < K) → cbFaults i s w.core n) ∧
      (open_ s (.cbwf p a n) → owned s1 q → q.en = true → K ≤ slotsOf q →
        let i := Instr.cbwf p a n
        (∀ t, beforeToken q = some t → t < K → t < q.filled →
          exec i s = .next (((s1.writeP w p true).writeG w a (BitVec.ofNat 64 t)).retireVar w i)) ∧
        ((∀ t, beforeToken q = some t → K ≤ t ∨ q.filled ≤ t) →
          (K ≤ q.filled → exec i s = .next ((s1.writeP w p false).retireVar w i)) ∧
          (q.filled < K → waits i s (.filled w.core n K)))) ∧
      (open_ s (.cbwe a n) → owned s1 q → q.en = true → K ≤ slotsOf q →
        (q.filled + K ≤ slotsOf q → exec (.cbwe a n) s = .next (s1.retireVar w (.cbwe a n))) ∧
        (slotsOf q < q.filled + K → waits (.cbwe a n) s (.free w.core n K))) ∧
      -- CBPA and CBCA (R267, R269)
      (open_ s (.cbpa a n) →
        let refused := ¬ owned s1 q ∨ q.en = false ∨ q.pkind ≠ 0 ∨ q.eos = true ∨ s1.bound w.core n true = true ∨ slotsOf q < q.filled + K
        (refused → cbFaults (.cbpa a n) s w.core n) ∧
        (¬ refused → exec (.cbpa a n) s = .next ((if K = 0 then s1 else cbPut s1 n (advancedP q K)).retire w (.cbpa a n)))) ∧
      (open_ s (.cbca a n) →
        let refused := ¬ owned s1 q ∨ q.en = false ∨ s1.bound w.core n false = true ∨ q.filled < K
        (refused → cbFaults (.cbca a n) s w.core n) ∧
        (¬ refused → exec (.cbca a n) s = .next ((if K = 0 then s1 else cbPut s1 n (advancedC q K)).retire w (.cbca a n)))) ∧
      -- QBIND.PUSH (R268)
      (28 ≤ d.val → open_ s (.qbindPush d a p n) →
        let i := Instr.qbindPush d a p n
        let c := if K % 2 ^ 11 = 0x7FF then w.core else K % 2 ^ 11
        let t := s1.cb c n
        let refused := ((s1.th w).binding d).isSome = true ∨ (c = w.core ∧ ¬ owned s1 t) ∨
          (c ≠ w.core ∧ (1536 ≤ c ∨ t.pkind ≠ 1 ∨ t.srccore ≠ w.core)) ∨ s1.bound c n true = true
        (refused → cbFaults i s c n) ∧
        (¬ refused → exec i s = .next (ended (decide (c ≠ w.core)) i w (bindTo s1 d ⟨n, true, true, c, p, w.core⟩))))) ∧
    -- the forms without a register operand
    (let q := s.cb w.core n
     (s.history w = false →
      (let refused := ¬ owned s q ∨ q.en = false ∨ q.eos = true ∨ ¬ (q.pkind = 0 ∨ (q.pkind = 2 ∧ w.slot = 14)) ∨ s.bound w.core n true = true
       (refused → cbFaults (.cbeos n) s w.core n) ∧
       (¬ refused → q.filled = slotsOf q → exec (.cbeos n) s = .next (s.waitBusy w (.cbeos n) (.room n))) ∧
       (¬ refused → q.filled ≠ slotsOf q → exec (.cbeos n) s =
         .next ((cbPut s n { advancedP q 1 with token := some q.pptr, eos := true }).retireVar w (.cbeos n)))) ∧
      (28 ≤ d.val →
       (let refused := ¬ owned s q ∨ ((s.th w).binding d).isSome = true ∨ s.bound w.core n false = true
        (refused → cbFaults (.qbindPop d p n) s w.core n) ∧
        (¬ refused → exec (.qbindPop d p n) s = .next ((bindTo s d ⟨n, false, true, w.core, p, w.core⟩).retire w (.qbindPop d p n)))) ∧
       exec (.qfree d) s = .next ((bindTo s d Binding.none).retire w (.qfree d)))) ∧
     (d.val < 28 → ∀ i ∈ [Instr.qbindPop d p n, .qbindPush d a p n, .qfree d], exec i s = trapped s i 0x01 (encodeWord i)))) ∧ (
  ∀ (s : State) (d : Fin 16) (n : Fin 32) (e : EType),
    let w := s.who
    let q := s.cb w.core n
    let bytes := strip s * e.size
    (∀ i ∈ [Instr.vldq d n e, .vstq d n e, .vredq d n e], unfit i s e.size ∧
      (fits s e.size → s.history w = true → exec i s = trapped s i 0x08 (encodeWord i))) ∧
    (fits s e.size → s.history w = false →
      (∀ i ∈ [Instr.vldq d n e, .vredq d n e],
        (¬ owned s q ∨ q.en = false ∨ s.bound w.core n false = true ∨ (i = .vldq d n e ∧ slotBytes q < bytes) → cbFaults i s w.core n) ∧
        (owned s q → q.en = true → s.bound w.core n false = false → (i = .vldq d n e → bytes ≤ slotBytes q) →
          (q.filled = 0 → waits i s (.filled w.core n 1)) ∧ (q.filled ≠ 0 → beforeToken q = some 0 → cbFaults i s w.core n))) ∧
      (owned s q → q.en = true → s.bound w.core n false = false → q.filled ≠ 0 → beforeToken q ≠ some 0 → s.lockFree w w.core = .ok () →
        s.upsetIn w.core (q.base + slotBytes q * q.cptr) (slotBytes q) = false →
        s.spoiltIn w.core (q.base + slotBytes q * q.cptr) (slotBytes q) = [] →
        let slot := s.lread w.core (q.base + slotBytes q * q.cptr)
        (bytes ≤ slotBytes q → exec (.vldq d n e) s =
          .next (((s.writeV w d (natOf (slot bytes))).updCb w.core n fun _ => advancedC q 1).retireVar w (.vldq d n e))) ∧
        -- VREDQ takes an element at each turn, and completes with the slot's last
        (let i := Instr.vredq d n e
          let k := slotBytes q / e.size
          let j := (s.th w).rcnt.toNat
          ∃ X : Nat, X < 2 ^ 1024 ∧ exec i s = .next (if j + 1 < k
            then ((s.writeV w d X).updTh w fun t => { t with rcnt := BitVec.ofNat 64 (j + 1) }).waitBusy w i .elements
            else (((s.writeV w d X).updTh w fun t => { t with rcnt := 0 }).updCb w.core n fun _ => advancedC q 1).retireVar w i)) ∧
        -- the run of its turns over a slot of at least one element
        (∀ run : Nat → State, let i := Instr.vredq d n e
          let k := slotBytes q / e.size
          run 0 = s → (s.th w).rcnt = 0 → (∀ j, j + 1 < k → exec i (run j) = .next (run (j + 1))) →
          (∀ j, j + 1 < k → ∃ X : Nat, run (j + 1) =
            (((run j).writeV w d X).updTh w fun t => { t with rcnt := BitVec.ofNat 64 (j + 1) }).waitBusy w i .elements) ∧
          ∃ X : Nat, X = slotSum e (natOf (slot (slotBytes q))) k (vel s e.size d 0) % 2 ^ (8 * e.size) ∧
            exec i (run (k - 1)) = .next (((((run (k - 1)).writeV w d X).updTh w fun t => { t with rcnt := 0 }).updCb w.core n
              fun _ => advancedC q 1).retireVar w i))) ∧
      (let refused := ¬ owned s q ∨ q.en = false ∨ slotBytes q < bytes ∨ q.pkind ≠ 0 ∨ q.eos = true ∨ s.bound w.core n true = true
       (refused → cbFaults (.vstq d n e) s w.core n) ∧
       (¬ refused → q.filled = slotsOf q → waits (.vstq d n e) s (.free w.core n 1)) ∧
       (¬ refused → q.filled ≠ slotsOf q → s.lockFree w w.core = .ok () → exec (.vstq d n e) s =
         .next (((s.lwrite w.core (q.base + slotBytes q * q.pptr) (bytesOf (slotBytes q) (s.readV w d % 2 ^ (8 * bytes)))).updCb w.core n
           fun _ => advancedP q 1).retireVar w (.vstq d n e))))))

namespace Sys2Proof.Claims

/-! ## Tile commands at issue (R148, R273, R274, R278, R282) -/

/-- The fourteen tile commands. -/
def tileForms : List ((TWord → Instr) × TileOp) :=
  [(.mwld, .mwld), (.mswap, .mswap), (.mact, .mact), (.mdrn, .mdrn), (.mzero, .mzero), (.msync, .msync), (.cpyB, .cpyB), (.cpyC, .cpyC),
   (.cpyG, .cpyG), (.cpyF, .cpyF), (.crs, .crs), (.cag, .cag), (.car, .car), (.cbc, .cbc)]
/-- The engine of a command: 0 the MXU, 1 the copy engine, 2 the collective engine, with 8, 8 and 4 queue entries. -/
def engineOf : TileOp → Nat
  | .mwld | .mswap | .mact | .mdrn | .mzero | .msync => 0
  | .cpyB | .cpyC | .cpyG | .cpyF => 1
  | .crs | .cag | .car | .cbc => 2

/-- The registers that word 7 names for operand words 1 to 6, and its pair bits. -/
def regField (t : TWord) (k : Nat) : Fin 32 := Fin.ofNat 32 (t.w7.toNat / 2 ^ (5 * (k - 1)))
def regFields (t : TWord) : List (Fin 32) := [1, 2, 3, 4, 5, 6].map (regField t)
def pairsBad (t : TWord) : Prop :=
  (t.w7.getLsbD 30 = true ∧ regField t 2 ≠ 0) ∨ (t.w7.getLsbD 31 = true ∧ regField t 4 ≠ 0)
/-- General registers read in order at the issue turn. -/
def readRegs (w : Who) : State → List (Fin 32) → M (List Word × State)
  | s, [] => .ok ([], s)
  | s, r :: rs => do
    let (x, s) ← s.readG w r
    let (xs, s) ← readRegs w s rs
    .ok (x :: xs, s)
/-- The operand words after substitution: a named register's low half, or both halves of the first of a pair (R148). -/
def resolved (t : TWord) (vs : List Word) : TWord :=
  let v (k : Nat) : Word := vs.getD (k - 1) 0
  let one (k : Nat) (x : BitVec 32) : BitVec 32 := if regField t k = 0 then x else (v k).setWidth 32
  { t with w1 := if t.w7.getLsbD 30 then (v 1).setWidth 32 else one 1 t.w1
           w2 := if t.w7.getLsbD 30 then (v 1).extractLsb' 32 32 else one 2 t.w2
           w3 := if t.w7.getLsbD 31 then (v 3).setWidth 32 else one 3 t.w3
           w4 := if t.w7.getLsbD 31 then (v 3).extractLsb' 32 32 else one 4 t.w4
           w5 := one 5 t.w5, w6 := one 6 t.w6, w7 := 0 }

/-- Table 10.3: the type combinations of an MWLD and of an MACT. -/
def combinations : List (Nat × Bool × Nat) :=
  [(0, false, 0), (0, false, 1), (1, false, 0), (1, false, 1), (0, true, 0), (0, true, 1), (1, true, 0), (1, true, 1), (2, false, 2), (2, true, 2), (3, false, 3)]
/-- WTYPE, SPARSE and ATYPE in the flags of an MWLD or MACT, and the image and row lengths of Table 10.3. -/
def wt (t : TWord) : Nat := t.flags.toNat / 2 % 8
def sp (t : TWord) : Bool := t.flags.getLsbD 4
def at_ (t : TWord) : Nat := t.flags.toNat / 2 ^ 5 % 8
def imageLen (t : TWord) : Nat := if sp t then (if wt t = 2 then 49184 else 40992) else 32800
def rowLen (t : TWord) : Nat := if sp t ∨ wt t = 3 then 256 else 128

/-- A virtual address or local offset of a word pair. -/
def pair12 (t : TWord) : Nat := t.w1.toNat + 2 ^ 32 * t.w2.toNat
def pair34 (t : TWord) : Nat := t.w3.toNat + 2 ^ 32 * t.w4.toNat
/-- The destination of a copy, and DMODE. -/
def copyDst (o : TileOp) (t : TWord) : Nat := if o = .cpyF then pair12 t else pair34 t
def dmode (t : TWord) : Nat := t.flags.toNat / 2 % 4
def copyLen (o : TileOp) (t : TWord) : Nat :=
  if o = .cpyF then t.w5.toNat * 32 else (t.w5.toNat / 2 ^ 16 + 1) * (t.w5.toNat % 2 ^ 16 * 32)

/-- A local range inside the issuing thread's grant on its own core. -/
def inGrant (s : State) (w : Who) (off n : Nat) : Prop :=
  w.slot = 15 ∨ ((s.grant w).1 = w.core ∧ (s.grant w).2.1 ≤ off ∧ off + n ≤ (s.grant w).2.1 + (s.grant w).2.2)
/-- A buffer of the issuing core that takes slots from a command. -/
def takes (s : State) (w : Who) (n : Fin 32) (size : Nat) : Prop :=
  let q := s.cb w.core n
  q.en = true ∧ q.pkind = 0 ∧ q.eos = false ∧ s.bound w.core n true = false ∧ size ≤ slotBytes q
/-- A buffer of the issuing core that gives slots to a command. -/
def gives (s : State) (w : Who) (n : Fin 32) : Prop := (s.cb w.core n).en = true ∧ s.bound w.core n false = false

/-- Columns that an MDRN drains. -/
def columns (t : TWord) : Nat := if t.w1.toNat / 2 ^ 22 % 4 = 0 then 256 else 128

/-- Whether a resolved command passes the checks of R274 on this core, with the format record `r` of an MDRN (0 for another command). -/
def passes (o : TileOp) (t : TWord) (s : State) (w : Who) (r : Nat) : Prop :=
  let cbn : Fin 32 := Fin.ofNat 32 t.w1.toNat
  let dst := copyDst o t
  let room : Prop := dmode t = 2 → takes s w (Fin.ofNat 32 dst) 0
  let aligned : Prop := dmode t ≠ 2 → dst % 32 = 0
  let reach : Prop := (dmode t = 0 → dst < 2 ^ 54) ∧ (dmode t = 1 → inGrant s w dst (copyLen o t))
  o.illegal (fun _ => true) t = false ∧ ((s.th w).codelet = true → t.flags.getLsbD 0 = false ∧ o ≠ .msync) ∧
  match o with
  | .mwld => (∃ c ∈ combinations, c.1 = wt t ∧ c.2.1 = sp t) ∧ (w.core < 1152 ∨ (wt t ≠ 2 ∧ sp t = false)) ∧ gives s w cbn ∧
      (imageLen t + slotBytes (s.cb w.core cbn) - 1) / slotBytes (s.cb w.core cbn) ≤ slotsOf (s.cb w.core cbn) ∧ r = 0
  | .mact => (wt t, sp t, at_ t) ∈ combinations ∧ (w.core < 1152 ∨ (wt t ≠ 2 ∧ sp t = false)) ∧ gives s w cbn ∧
      rowLen t + 2 ≤ slotBytes (s.cb w.core cbn) ∧ r = 0
  | .mdrn => (s.at w).recs[(Fin.ofNat 4 (t.flags.toNat / 2) : Fin 4)] = some r ∧ 1 ≤ r % 16 ∧ r % 16 ≤ 6 ∧ r / 2 ^ 9 % 4 = 0 ∧
      (w.core < 1152 ∨ r % 16 ≠ 6) ∧ (t.w1.toNat / 2 ^ 5 % 8 = w.core % 8 → takes s w cbn (columns t * fmtBits (r % 16) / 8))
  | .mswap | .mzero | .msync => r = 0
  | .cpyB => pair12 t % 32 = 0 ∧ t.w6.toNat % 32 = 0 ∧ aligned ∧ room ∧ pair12 t < 2 ^ 54 ∧ pair12 t / 2 ^ 48 ≠ 63 ∧ reach ∧ r = 0
  | .cpyG => t.w6.toNat % 2 ^ 20 % 8 = 0 ∧ pair12 t % 32 = 0 ∧ aligned ∧ room ∧ pair12 t < 2 ^ 54 ∧ reach ∧
      inGrant s w (t.w6.toNat % 2 ^ 20) ((if t.w6.getLsbD 20 then 8 else 4) * (t.w5.toNat / 2 ^ 16 + 1)) ∧ r = 0
  | .cpyF => aligned ∧ room ∧ reach ∧ r = 0
  | .cpyC => t.w1.toNat % 2 ^ 20 % 32 = 0 ∧ inGrant s w (t.w1.toNat % 2 ^ 20) (t.w2.toNat % 2 ^ 16 * 32) ∧ r = 0
  | .crs | .cag | .car | .cbc => pair12 t % 64 = 0 ∧ pair34 t % 32 = 0 ∧ pair12 t < 2 ^ 54 ∧ pair34 t < 2 ^ 54 ∧ r = 0

/-- The entry that a command makes in its queue: the resolved words with what its task was at issue. -/
def command (s : State) (w : Who) (o : TileOp) (t : TWord) (r : Nat) : QCmd :=
  { op := o, t := t, slot := w.slot, task := (s.at w).task, codelet := (s.th w).codelet, pc := (s.th w).pc, asid := (s.at w).asid,
    owner := (s.at w).owner, seed := (s.th w).seed, frec := r, held := none, at_ := s.gtime, idx := [], sb := 0, stream := [], done := 0, away := none }
/-- Room in the queue of an engine, for which no earlier command of the core waits, and the queue with one more command. -/
def engineRoom (s : State) (c : Nat) : Nat → Prop
  | 0 => (s.core c).mxq.length < 8 ∧ ∀ x ∈ (s.core c).tileWait, engineOf x.op ≠ 0
  | 1 => (s.core c).copyq.length < 8 ∧ ∀ x ∈ (s.core c).tileWait, engineOf x.op ≠ 1
  | _ => (s.core c).collq.length < 4 ∧ ∀ x ∈ (s.core c).tileWait, engineOf x.op ≠ 2
def enqueued (s : State) (c : Nat) (q : QCmd) : Nat → State
  | 0 => s.updCore c fun k => { k with mxq := k.mxq ++ [q] }
  | 1 => s.updCore c fun k => { k with copyq := k.copyq ++ [q] }
  | _ => s.updCore c fun k => { k with collq := k.collq ++ [q] }

end Sys2Proof.Claims

/-- R148, R273, R274 and R278: a tile command whose guard is zero does nothing; another one has its operands substituted and its checks made, and
enters its engine's queue, or waits resolved, in issue order, while that is full (R29); a task with history has its copies and collectives held in the
commit queue, and none for the MXU. R111, R274 and R282: an MWLD or MACT of a combination that Table 10.3 does not list takes a format-combination
fault; one that needs sparse or FP4 hardware takes a migrate trap on K7, or an extension fault where no die of the placement set has it; a copy's
misaligned source is a misalignment fault and its source in window 63 a kind fault. Corners that are the model's choice: log entries 51, 95, 97. -/
def Obligations.TileCommands : Prop :=
  (
  ∀ f ∈ tileForms, ∀ (s : State) (t : TWord),
    let i := f.1 t
    let o := f.2
    let w := s.who
    (s.readP w t.guard = false → exec i s = .next (s.retire w i)) ∧
    (s.readP w t.guard = true →
      (pairsBad t → exec i s = trapped s i 0x01 (encodeWord i)) ∧
      ∀ (vs : List Word) (s1 : State), ¬ pairsBad t → open_ s i → readRegs w s (regFields t) = .ok (vs, s1) →
        let t' := resolved t vs
        (o.illegal (fun _ => true) t' = true → exec i s = trapped s i 0x01 (encodeWord i)) ∧
        (∀ r, passes o t' s1 w r →
          (s1.history w = true → engineOf o = 0 → exec i s = trapped s i 0x08 (encodeWord i)) ∧
          (s1.history w = true → engineOf o ≠ 0 → (s1.core w.core).commitq.length < 64 →
            exec i s = .next ((queued s1 (.tile (command s1 w o t' r))).retire w i)) ∧
          (s1.history w = false → engineRoom s1 w.core (engineOf o) →
            exec i s = .next ((enqueued s1 w.core (command s1 w o t' r) (engineOf o)).retire w i)) ∧
          (s1.history w = false → ¬ engineRoom s1 w.core (engineOf o) → exec i s =
            .next ((s1.updCore w.core fun k => { k with tileWait := k.tileWait ++ [command s1 w o t' r] }).upd w fun x =>
              { x with st := .busy, out := some i, busy := .queue (engineOf o), th := { x.th with pc := (s1.th w).pc + 32 } }))))) ∧ (
  ∀ (s : State) (t : TWord), let w := s.who
    s.readP w t.guard = true → t.w7 = 0 → (s.th w).codelet = false →
    (∀ p ∈ [(Instr.mwld t, TileOp.mwld), (Instr.mact t, TileOp.mact)], p.2.illegal (fun _ => true) t = false →
      let fine : Prop := ∃ c ∈ combinations, c.1 = wt t ∧ c.2.1 = sp t ∧ (p.2 = .mact → c.2.2 = at_ t)
      (¬ fine → exec p.1 s = trapped s p.1 0x04 (encodeWord p.1)) ∧
      (fine → 1152 ≤ w.core → w.core < 1536 → (wt t = 2 ∨ sp t = true) → (
        let code := if w.slot.val < 14 ∧ s.groupSomewhere (s.at w) 4 = true then 0x03 else 0x02
        exec p.1 s = .next (s.takeTrap w code false 4 (encodeWord p.1) (s.th w).pc (code == 0x03))))) ∧
    (let i := Instr.cpyB t
     TileOp.illegal .cpyB (fun _ => true) t = false → w.core < 1536 →
      (pair12 t % 32 ≠ 0 → exec i s = trapped s i 0x05 (BitVec.ofNat 64 (pair12 t))) ∧
      (pair12 t % 32 = 0 → t.w6.toNat % 32 = 0 → dmode t = 0 → pair34 t % 32 = 0 → pair34 t < 2 ^ 54 → pair12 t / 2 ^ 48 = 63 →
        exec i s = trapped s i 0x0B (BitVec.ofNat 64 (pair12 t)))))

namespace Sys2Proof.Claims

/-! ## Events (Appendix C) -/

/-- One cell as the freeze of its arena finds it (R45, R56): an OPEN one becomes FROZEN, a FILLED one FROZEN with its value, and its waiters are
tested; one that is frozen or in CONFLICT stays, and one that translates nowhere or cannot be read is passed over, a malformed entry or a mismatch being
logged (R47, R354, R387). -/
def freezeAt (ar : Arena) (s : State) (j : Nat) : State :=
  let va := ar.base + j * cellBytes ar.size
  match s.translate ar.asid va .lwrite with
  | .error e => s.logWalk e
  | .ok x =>
    match s.readCell ⟨x, ar, va⟩ with
    | .error e => s.logWalk e
    | .ok (k, bs) =>
      if k = 2 ∨ k = 3 ∨ k = 4 then s
      else
        let k' : Fin 8 := if k = 1 then 3 else 2
        (s.setCodes x.pa k' (cellBytes ar.size / 8)).cellChanged ⟨x, ar, va⟩ k' bs

/-- The threads whose LFRZA awaits the freeze of an arena complete (R204). -/
def frzaDone (asid num : Nat) (s : State) : State :=
  let ws := s.cores.flatMap fun (c, k) => (List.finRange 16).filterMap fun sl =>
    if k.slots[sl].st = .busy ∧ k.slots[sl].busy = .freeze asid num then some (Who.mk c sl) else none
  ws.foldl (fun s w => match (s.at w).out with
    | some (.lfrza a) => (match s.readG w a with | .ok (_, s) => s.retireVar w (.lfrza a) | .error _ => s.reissue w)
    | some (.lfrz ..) => s.freezeEnds w 0
    | _ => s) s

/-- A slot at an instruction boundary or parked (R21, R94). -/
def atEdge (x : Slot) : Prop := x.st = .run ∨ x.st = .park

end Sys2Proof.Claims

/-- R17, R22, R23, R94 to R100, R150, R195 and R226: the events of one thread: completion, timer, posted replies and refusals, driver stop, the end of
a TWAIT, a word that is no instruction, and the system slot's lock and event entry. A reply takes its home from those awaited; an instruction in
progress takes no refusal (R107, R195); and a GRANT event settles the grant of its own reservation (R372). Corners that are the model's choice: log
entries 11, 21, 63. -/
def Obligations.ThreadEvents : Prop :=
  ∀ (s : State) (w : Who) (r : Reply) (word : BitVec 32) (t : Task), let x := s.at w
    let k := s.core w.core
    (x.st = .busy → x.busy = .completing →
      fires (.instructionCompletion w.core w.slot) s = .next (s.upd w fun y => { y with st := .run, out := none })) ∧
    (atEdge x → x.timer = true →
      fires (.timerPreemption w.core w.slot) s = .next ((s.upd w fun y => { y with timer := false }).takeTrap w 0x22 true 0 0 x.th.pc false)) ∧
    (x.st = .busy → x.busy = .elements → x.timer = true →
      fires (.timerPreemption w.core w.slot) s = .next ((s.upd w fun y => { y with timer := false }).takeTrap w 0x22 true 0 0 x.th.pc true)) ∧
    (∀ q rest, atEdge x → x.refused = q :: rest → fires (.latticeRefusalTrap w.core w.slot) s =
      .next ((s.upd w fun y => { y with refused := rest, lfpc := q.pc }).takeTrap w q.code false 0 q.tval x.th.pc false)) ∧
    (x.st = .busy → fires (.latticeRefusalTrap w.core w.slot) s = .next s) ∧
    (r.codelet = false → r.task.launch < 4096 → s.task? r.task = some t → t.place = .on w.core w.slot →
      (r.refusal = none → fires (.postedReply r) s = .next (s.upd w fun y => { y with posted := y.posted.erase r.home })) ∧
      (∀ code va, r.refusal = some (code, va) →
        fires (.postedReply r) s = .next (s.upd w fun y => { y with posted := y.posted.erase r.home, refused := y.refused ++ [⟨code, va, r.pc⟩] }))) ∧
    (x.launched = true → s.stopped x.task.launch = true →
      (atEdge x → k.dead = false → fires (.driverStop w.core w.slot) s =
        .next ((s.upd w fun y => { y with dstop := false }).takeTrap w 0x21 true 0 0 x.th.pc false)) ∧
      (x.st = .busy ∧ x.busy ≠ .elements ∨ x.st = .save → fires (.driverStop w.core w.slot) s = .next (s.upd w fun y => { y with dstop := true }))) ∧
    (∀ time, x.st = .park → x.park = .time time →
      fires (.twaitExpiry w.core w.slot) s = .next (if time ≤ s.gtime then (s.unpark w).upd w fun y => { y with st := .run, out := none } else s)) ∧
    (fires (.unassignedWord word) s = .next (s.takeTrap s.who 0x01 false 0 (word.setWidth 64) (s.th s.who).pc false)) ∧
    (k.lmx = true → 256 ≤ k.lmxCount → fires (.lmxOverrun w.core) s =
      .next ((s.updCore w.core fun k => { k with lmx := false, lmxCount := 0 }).logError 0x01 0x06 w.core 15 0 0 0xFFF 0)) ∧
    (∀ e rest, k.events = e :: rest → k.eie = true → k.dead = false → k.slots[15].st = .run → ∃ t : State,
      fires (.systemEventEntry w.core) s = .next t ∧ (t.core w.core).events = rest ∧ (t.core w.core).eie = false ∧
      (t.core w.core).srpc = k.slots[15].th.pc ∧ (t.th ⟨w.core, 15⟩).pc = k.evbase ∧ (t.at ⟨w.core, 15⟩).st = .run ∧
      (∀ v, e = .wake 0x05 v → let sl : Fin 16 := Fin.ofNat 16 v.toNat
        (k.slots[sl].oldGrants = 0 → (t.core w.core).granting = some sl) ∧
        (k.slots[sl].oldGrants ≠ 0 → (t.core w.core).granting = k.granting ∧ (t.at ⟨w.core, sl⟩).oldGrants = k.slots[sl].oldGrants - 1)) ∧
      (∀ sl, e = .trap sl → (t.core w.core).hslot = sl) ∧
      (∀ sub v, e = .wake sub v → (t.core w.core).hslot = 15 ∧ (t.at ⟨w.core, 15⟩).cause = causeWord 0x23 true sub ∧ (t.at ⟨w.core, 15⟩).tval = v) ∧
      (∀ asid v, e = .scan asid v → (t.core w.core).hslot = 15 ∧ (t.at ⟨w.core, 15⟩).cause = causeWord 0x23 true 2 ∧
        (t.at ⟨w.core, 15⟩).tval = v ∧ (t.core w.core).scanAsid = some asid))

/-- R40, R43, R83, R181, R187, R204 and R255: the events at the home of an address: the fill of an instruction line, the load of a coefficient table,
after which VPOLY issues again, a remote access, a page change, a withdrawal, an arena's freeze; and the choice made for a migration to the home.
Corners that are the model's choice: log entries 20, 22, 23, 26. -/
def Obligations.HomeEvents : Prop :=
  ∀ (s : State) (w : Who) (d a : Fin 32) (z : Sz) (o : BitVec 12) (e : EType) (i : Instr), let x := s.at w
    let va := x.th.pc.toNat / 4 * 4
    let fill : Host.Outcome State Fault Refusal := fires (.instructionFetchFill w.core w.slot) s
    (x.st = .busy → x.busy = .fetch →
      (2 ^ 54 ≤ va → fill = .next (s.takeTrap w 0x09 false 0 x.th.pc x.th.pc false)) ∧
      (va < 2 ^ 54 → va / 2 ^ 48 = 63 → fill = .next (s.takeTrap w 0x0B false 0 x.th.pc x.th.pc false)) ∧
      (∀ p bs, farAway p.pa = false → va < 2 ^ 54 → va / 2 ^ 48 ≠ 63 → s.translate x.asid va .fetch = .ok p → s.kindCheck x.asid x.owner true .fetch p.pte va = .ok () →
        s.checkedRead (p.pa / 32 * 32) 32 = .ok bs → s.sramBad (.l2 p.home) (p.pa / 32 * 4) 4 = false → ∃ t : State, fill = .next t ∧ t.at w = { x with st := .run } ∧
          (t.core w.core).icache = (⟨x.asid, va / 32 * 32, bs, s.granuleCodes (p.pa / 32), checkCode bs (s.granuleCodes (p.pa / 32))⟩ :: (s.core w.core).icache).take 1024 ∧ t.mem = s.mem ∧
          (x.asid, va / 2 ^ 12) ∈ t.tcache.map (fun y => (y.asid, y.page)))) ∧
    (x.st = .busy → x.busy = .remote → ∀ (s1 s2 : State) (y v : Word) (l : Loc) (bs : List Byte), s.readG w a = .ok (y, s1) →
      let ea := BitVec.ofInt 64 (y.toNat + o.toInt * bytesZ z)
      ea.toNat % bytesZ z = 0 →
      (x.out = some (.ld d a z o) → open_' s w (.ld d a z o) → s1.chkDst w d = .ok () →
        s1.place w .load ea.toNat (bytesZ z) = .ok l → s1.loadAt w ea.toNat l (bytesZ z) = .ok bs → fires (.remoteWordAccess w.core w.slot) s =
          .next ((((s1.cached w ea.toNat (bytesZ z) false l).traceAt w 0 ea.toNat l).writeG w d ((BitVec.ofNat (8 * bytesZ z) (natOf bs)).signExtend 64)).retireAt w (.ld d a z o) l)) ∧
      (x.out = some (.st d a z o) → open_' s w (.st d a z o) → s1.readG w d = .ok (v, s2) →
        s1.storeAllowed w (.st d a z o) ea.toNat (bytesZ z) = .ok () → s1.place w .store ea.toNat (bytesZ z) = .ok l →
        fires (.remoteWordAccess w.core w.slot) s =
          .next ((((s2.cached w ea.toNat (bytesZ z) true l).traceAt w 1 ea.toNat l).storeAt w l (bytesOf (bytesZ z) v.toNat)).retireAt w (.st d a z o) l))) ∧
    (∀ home words, x.st = .busy → x.busy = .locality words → (s.takesThread x.task.launch home = false ∨ (s.core home).entryOpen = false) → fires (.localityMigration w.core w.slot home) s =
      .next (((s.noteWords w words).upd w fun y => { y with busy := .remote }).post [.remoteWordAccess w.core w.slot])) ∧
    (∀ home words, x.st = .busy → x.busy = .locality words → s.takesThread x.task.launch home = true → (s.core home).entryOpen = true → s.drained w false = true →
      fires (.localityMigration w.core w.slot home) s =
        .next ((s.upd w fun y => { y with epc := y.th.pc, fromPark := false, migrTo := none, consulted := true }).sendImage w home)) ∧
    (∀ (p : Xlat) (pva : Word) (n : Nat), x.st = .busy → x.busy = .publish n → x.out = some i → s.translate x.asid pva.toNat .publish = .ok p →
      pteKind p.pte = kPrivate → fires (.publishPageChange w.core w.slot x.asid pva) s =
        .next (if n ≤ 1 then (s.freezePage x.asid pva.toNat p.pte p.at_).retireVar w i
          else (s.freezePage x.asid pva.toNat p.pte p.at_).upd w fun y => { y with busy := .publish (n - 1) })) ∧
    (∀ q : Withdrawal, ∃ t : State, fires (.waitWithdrawal q) s = .next t ∧ t.tasks = s.tasks ∧ t.agenda = s.agenda ∧
      let gone (y : Waiter) : Bool := y.arm.isNone && (y.task == q.task && (y.asid == q.asid && y.va == q.va))
      ((∀ p ∈ s.cores, ∀ y ∈ p.2.spilled, gone y = false) → t.mem = s.mem) ∧
      ∀ c k, Tbl.find? s.cores c = some k → ∃ k', Tbl.find? t.cores c = some k' ∧ k'.slots = k.slots ∧
        k'.waiters = k.waiters.filter (fun y => !gone y) ∧ k'.spilled = k.spilled.filter (fun y => !gone y)) ∧
    (∀ (ar : Arena), s.arena? ar.asid ar.num = some ar → fires (.arenaFreeze ar.asid ar.num) s =
      .next (frzaDone ar.asid ar.num (((List.range (ar.len / cellBytes ar.size)).foldl (freezeAt ar) s).updArena ar fun a => { a with st := 2 }))) ∧
    (∀ (v u c : Fin 16) (tb : CoefTable),
      x.busy = .coef → x.out = some (.vpoly v u c e) → s.loadTable w (.vpoly v u c e) (BitVec.ofNat 64 (s.readV w c)) = .ok tb →
      (hd tb.bytes 3 0 = e.code → fires (.coefficientTableLoad w.core w.slot) s =
        .next ((s.keepTable w.core tb).upd w fun y => { y with st := .run, out := none })) ∧
      (hd tb.bytes 3 0 ≠ e.code → fires (.coefficientTableLoad w.core w.slot) s =
        .next (s.takeTrap w 0x01 false 0 (encodeWord (.vpoly v u c e)) x.th.pc false)))

namespace Sys2Proof.Claims

/-- The ordered message that an anti-message annihilates: same destination, VT, sender and SEQ (R84, R337). -/
def twins (a m : Msg) : Bool :=
  !m.anti && decide (m.kind = 0 ∧ m.launch = a.launch ∧ m.dwid = a.dwid ∧ m.vt = a.vt ∧ m.swid = a.swid ∧ m.seq = a.seq)

/-- An anti-message as a rollback sends it for an output-log entry (R82 step 3). -/
def antiOf (n : Nat) (colour : Bool) (x : SentLog) : Event := .antiMessageArrival ⟨x.vt, x.swid, x.dwid, n, x.seq, true, false, false, 0, colour, []⟩

/-- An earlier message of m's sender to its destination, of its kind (R212). -/
def precedes (x m : Msg) : Prop := x.launch = m.launch ∧ x.swid = m.swid ∧ x.dwid = m.dwid ∧ x.kind = m.kind

/-- No earlier message of m's order waits at a core for an inbox entry (R212, R336). -/
def inOrder (s : State) (m : Msg) : Prop := ∀ p ∈ s.cores, ∀ x ∈ p.2.ingress, ¬ precedes x.1 m

/-- A task in a slot of a die that is not cut off (R390), for which no earlier message of m's order waits. -/
def reached (s : State) (t : Task) (w : Who) (m : Msg) : Prop := t.place = .on w.core w.slot ∧ w.core / 192 ∉ s.cutDies ∧ inOrder s m

/-- A task in a slot that runs, whose inbox takes a message m at once: a free entry, and no anti-message waiting for m (R73, R84, R101). -/
def inboxOpen (s : State) (t : Task) (w : Who) (m : Msg) : Prop :=
  reached s t w m ∧ (s.at w).st = .run ∧ s.hardUsed w.core < 256 ∧ ∀ x ∈ t.inbox, ¬ (x.msg.anti = true ∧ twins x.msg m = true)

/-- A message of a launch as a home or a core counts it in. -/
def counted (s : State) (m : Msg) : State := s.countRecv m.launch m.colour 1

end Sys2Proof.Claims

/-- R68, R73, R82, R84, R89, R101, R212 and R399: an arriving message enters the inbox of the task it names, wherever that task is; a straggler asks
for a rollback; one without an entry waits at the core, and one that comes after another of its order that waits there waits behind it; a message to
an exited task or to no task of the launch goes back as a dead letter; one for a task in TRAP is held and its core told, an anti-message as well, and
one for a task on a die that is cut off is held (R390). R82 to R84: a rollback of a task in a slot restores the snapshot of the oldest epoch it
undoes, puts the messages of the undone epochs back into the inbox, sends an anti-message for each entry of their output logs, takes their tags'
entries from the commit queue, and restores memory newest first. In TRAP and SAVE it waits, and in BUSY until the instruction has completed, but for a
wait that only the rollback can end (log entry 77). Corners that are the model's choice: log entries 28, 33, 86. -/
def Obligations.MessageArrivalsAndRollback : Prop :=
  (
  ∀ (s : State) (w : Who) (m : Msg) (t : Task) (l : Launch), let r := counted s m
    let on : Prop := r.launch? m.launch = some l ∧ m.kind = 0 ∧ m.tent = false ∧ m.anti = false ∧ r.stopped m.launch = false
    let back : State := r.sendMsg { m with kind := 1, anti := false }
    let arrives : Host.Outcome State Fault Refusal := fires (.messageArrival m) s
    (on → m.dwid.toNat < 2 ^ widS (hWidths l.h) → r.task? ⟨m.launch, m.dwid⟩ = some t → t.id = ⟨m.launch, m.dwid⟩ →
      let got : State := r.updTask t.id fun x => { x with inbox := x.inbox ++ [⟨m, none⟩] }
      (inboxOpen r t w m → (t.epochs = [] ∨ t.lastKey = none) → arrives = .next got) ∧
      (inboxOpen r t w m → ∀ k, t.epochs ≠ [] → t.lastKey = some k → arrives = .next (if m.key.lt k then got.post [.rollback t.id m.key false] else got)) ∧
      (reached r t w m → (r.at w).st = .run → 256 ≤ r.hardUsed w.core → (r.core w.core).ioEntries = 0 →
        (∀ x ∈ t.inbox, ¬ (x.msg.anti = true ∧ twins x.msg m = true)) →
        arrives = .next ((r.uncountRecv m.launch m.colour).updCore w.core fun k => { k with ingress := k.ingress ++ [(m, s.gtime)] })) ∧
      (reached r t w m → (r.at w).st = .trap →
        arrives = .next ((r.updTask t.id fun x => { x with hold := x.hold ++ [m] }).postWake w.core 0x01 w.slot.val)) ∧
      (t.place = .on w.core w.slot → w.core / 192 ∈ r.cutDies → inOrder r m →
        arrives = .next (r.updTask t.id fun x => { x with hold := x.hold ++ [m] })) ∧
      (t.place = .exited → inOrder r m → arrives = .next back)) ∧
    (∀ before c k rest, on → m.dwid.toNat < 2 ^ widS (hWidths l.h) → s.cores = before ++ (c, k) :: rest →
      (∀ p ∈ before, ∀ x ∈ p.2.ingress, ¬ precedes x.1 m) → (∃ x ∈ k.ingress, precedes x.1 m) →
      arrives = .next ((r.uncountRecv m.launch m.colour).updCore c fun k => { k with ingress := k.ingress ++ [(m, s.gtime)] })) ∧
    (on → 2 ^ widS (hWidths l.h) ≤ m.dwid.toNat → arrives = .next back) ∧
    (on → m.dwid.toNat < 2 ^ widS (hWidths l.h) → r.task? ⟨m.launch, m.dwid⟩ = none → inOrder r m →
      arrives = .next (r.updLaunch m.launch fun l => { l with unplaced := l.unplaced ++ [m] })) ∧
    (on → l.unplaced = [] → r.task? ⟨m.launch, m.dwid⟩ = some t → t.id = ⟨m.launch, m.dwid⟩ → t.place = .on w.core w.slot → t.hold = [] →
      (∀ x ∈ s.cores, x.2.ingress = []) → w.core / 192 ∉ s.cutDies →
      let anti : Host.Outcome State Fault Refusal := fires (.antiMessageArrival { m with anti := true }) s
      let at_ (x : InMsg) : Bool := twins m x.msg
      ((r.at w).st = .trap → anti =
        .next ((r.updTask t.id fun x => { x with hold := x.hold ++ [{ m with anti := true }] }).postWake w.core 0x01 w.slot.val)) ∧
      ((r.at w).st = .run → t.inbox.any at_ = true → anti = .next (r.updTask t.id fun x => { x with inbox := delFirst at_ x.inbox })) ∧
      ((r.at w).st = .run → t.inbox.any at_ = false → t.epochs.any (fun e => twins m e.msg) = true → anti = .next (r.post [.rollback t.id m.key true])) ∧
      ((r.at w).st = .run → r.hardUsed w.core < 256 → t.inbox.any at_ = false → t.epochs.any (fun e => twins m e.msg) = false →
        anti = .next (r.updTask t.id fun x => { x with inbox := x.inbox ++ [⟨{ m with anti := true }, none⟩] })))) ∧ (
  ∀ (s : State) (w : Who) (t : Task) (k : Key) (kept gone : List Epoch) (e : Epoch), s.task? t.id = some t → t.place = .on w.core w.slot →
    let acts : Host.Outcome State Fault Refusal := fires (.rollback t.id k false) s
    let ends : Prop := (s.at w).busy = .history ∨ (s.at w).busy = .commit
    ((s.at w).st = .trap ∨ (s.at w).st = .save ∨ ((s.at w).st = .busy ∧ ¬ ends) → acts = .next (s.upd w fun y => { y with deferred := y.deferred ++ [.rollback k false] })) ∧
    ((s.at w).st = .run ∨ ((s.at w).st = .busy ∧ ends) → t.epochs = kept ++ e :: gone → (∀ x ∈ kept, k.lt x.msg.key = false) → k.lt e.msg.key = true →
      ∃ s' t', acts = .next s' ∧ s'.task? t.id = some t' ∧
        (s'.at w).st = .run ∧ (s'.at w).th = e.snap ∧ t'.epochs = kept ∧ t'.lastKey = e.prev ∧ t'.inbox = t.inbox ++ (e :: gone).map (fun x => ⟨x.msg, x.region⟩) ∧
        s'.agenda = s.agenda ++ ((e :: gone).flatMap Epoch.log).map (antiOf t.id.launch s.colour) ∧
        (s'.core w.core).commitq = (s.core w.core).commitq.filter (fun y => !(y.task == t.id && !y.tag.lt e.msg.key)) ∧
        ((s.grant w).1 = w.core → (s'.core w.core).lmem =
          ((e :: gone).reverse.flatMap Epoch.undo).foldl (fun m (u : Nat × List Byte) => Mem.sets m u.1 u.2) (s.core w.core).lmem)))

/-- R21, R89, R101, R206, R208 and R349: a wake writes its status at the parked LWAIT or LXRD it belongs to, which completes; a host message enters
the ring of its launch's queue, waits while that is full or an earlier one of that ring waits, and stops the launch where there is no ring; waits of
2^24 cycles stop a launch (R359, R360). Corners that are the model's choice: log entries 36, 53. -/
def Obligations.WakesAndRings : Prop :=
  ∀ (s : State) (w : Who) (q : Wake) (t : Task) (d a b : Fin 32) (n : Fin 4) (kind : TrigK) (m : HostMsg) (l : Launch),
    (s.task? q.task = some t → t.place = .on w.core w.slot → (s.at w).st = .park → (∃ wk c, (s.at w).park = .cell wk q.asid q.va c) →
      (∀ x ∈ (s.th w).bind.toList, x.bound = false) →
      let r := (s.countRecv q.task.launch q.colour 1).sample 0x01 (dieOf q.core) q.core (some q.task.launch) (s.gtime - q.at_)
      ((s.at w).out = some (.lwait d a b n kind) →
        fires (.wakeDelivery q) s = .next (((r.writeG w d q.status).unpark w).retire w (.lwait d a b n kind))) ∧
      ((s.at w).out = some (.lxrd d a) → q.status ≠ 5 → q.data.length = 8 → fires (.wakeDelivery q) s =
        .next (((r.writeG w d (BitVec.ofNat 64 (natOf q.data))).unpark w).retire w (.lxrd d a)))) ∧
    (s.launch? m.launch = some l → s.stopped m.launch = false →
      let ring := hHring l.h
      let p := s.wqPage ring
      let r := s.countRecv m.launch m.colour 1
      let record : List Byte := bytesOf 8 m.vt ++ bytesOf 8 m.tag.toNat ++ bytesOf 8 m.swid.toNat ++
        bytesOf 8 (m.launch % 4096 + (if p.hmtail.toNat / p.hmsize.toNat % 2 = 0 then 2 ^ 15 else 0)) ++ m.payload.take 32
      (ring = 0xFFF ∨ p.hmsize = 0 ∨ p.ctl.getLsbD 0 = false →
        fires (.hostMessageWrite m) s = .next (r.post [.launchStop m.launch .fault (some ⟨3, 0, 1, 0x7FF, 0, 0, 0, 0, 0, none⟩)])) ∧
      (ring ≠ 0xFFF → p.ctl.getLsbD 0 = true → 0 < p.hmsize.toNat → m.vt < 2 ^ 64 →
        (span32 p.hmtail p.hmhead < p.hmsize.toNat → (∀ x ∈ s.hostMsgs, ∀ y, s.launch? x.launch = some y → hHring y.h ≠ ring) → fires (.hostMessageWrite m) s =
          .next ((r.pwrite (p.hmbase.toNat + 64 * (p.hmtail.toNat % p.hmsize.toNat)) record).updWq ring fun p =>
            { p with hmtail := BitVec.ofNat 64 ((p.hmtail.toNat + 1) % 2 ^ 32) })) ∧
        (p.hmsize.toNat ≤ span32 p.hmtail p.hmhead ∨ (∃ x ∈ s.hostMsgs, ∃ y, s.launch? x.launch = some y ∧ hHring y.h = ring) → fires (.hostMessageWrite m) s = .next { s with hostMsgs := s.hostMsgs ++ [m] }))) ∧
    (∀ (x : Msg) (at_ : Nat) (early rest : List (Msg × Nat)), (s.core w.core).ingress = early ++ (x, at_) :: rest →
      (∀ y ∈ early, s.gtime < y.2 + 2 ^ 24 ∨ s.stopped y.1.launch = true) → at_ + 2 ^ 24 ≤ s.gtime → s.stopped x.launch = false →
      fires (.inboxOverflowTimeout w.core) s = .next (s.post [.launchStop x.launch .fault (some ⟨3, 0, 3, 0x7FF, 0, 0, 0, 0, 0, none⟩)])) ∧
    (let late (x : Slot) : Bool := decide (x.st = .busy ∧ x.busy = .spill ∧ x.waitAt + 2 ^ 24 ≤ s.gtime ∧ x.launched = true ∧ s.stopped x.task.launch = false)
     fires (.waiterSpillTimeout w.core) s = .next (s.post (((s.core w.core).slots.toList.filter late).map fun x =>
        .launchStop x.task.launch .fault (some ⟨3, 0, 4, 0x7FF, 0, 0, 0, 0, 0, none⟩))))

namespace Sys2Proof.Claims

/-- The bytes that a save or a migration sends of the thread in a slot: its image, with PC its epc. -/
def sentImage (s : State) (w : Who) (why : Nat) (migr : Bool) : List Byte :=
  image ⟨w.core, w.slot, (s.at w).task, (s.at w).asid, why, (s.at w).fromPark, migr⟩ (s.th w) (s.at w).epc

/-- A task's own thread, with nothing held for it. -/
def plainTask (s : State) (w : Who) (t : Task) : Prop :=
  (s.at w).launched = true ∧ (s.th w).codelet = false ∧ (s.at w).deferred = [] ∧ (s.at w).task = t.id ∧ s.task? t.id = some t ∧ t.hold = [] ∧
    t.deferred = [] ∧ t.place = .on w.core w.slot

/-- The slot a thread has left. -/
def vacated (t : State) (w : Who) : Prop := (t.at w).st = .empty ∧ (t.at w).launched = false

/-- The longest-parked evictable user slot of a core: parked on a cell or in RECV for 64 turns; the lowest-numbered one of several (R324). -/
def parkedLongest (k : Core) (sl : Fin 16) : Prop :=
  let may (sl : Fin 16) : Prop := sl.val < 14 ∧ k.slots[sl].st = .park ∧ k.slots[sl].launched = true ∧ k.slots[sl].th.codelet = false ∧
    64 ≤ k.slots[sl].parkTurns ∧ (match k.slots[sl].park with | .cell .. | .recv | .recvN => True | _ => False)
  may sl ∧ ∀ x, may x → k.slots[sl].parkAt ≤ k.slots[x].parkAt ∧ (k.slots[x].parkAt = k.slots[sl].parkAt → sl ≤ x)

end Sys2Proof.Claims

/-- R89, R102, R103, R105, R112, R113 and R324: the events that move a thread out of its slot: the Derailleur's migration to the core that MIGR names,
its arrival there, the end of a save, the write-back of the context cache, and the eviction of a parked thread. Corners that are the model's choice:
log entries 27, 35, 41, 53, 93. -/
def Obligations.ContextEvents : Prop :=
  ∀ (s : State) (w : Who) (t : Task) (c : Nat) (l : Launch) (n : Nat), let x := s.at w
    let k := s.core w.core
    (x.st = .trap → x.migrTo = some c → c < 1536 → s.drained w true = true → plainTask s w t → s.launch? t.id.launch = some l →
      let moves : Host.Outcome State Fault Refusal := fires (.derailleurMigration w.core w.slot) s
      (s.takesThread t.id.launch c = true → c ≠ w.core → (s.core c).cacheUsed < 8 → ∃ (s' : State) (t' : Task) (sl : Fin 16) (e : CtxEntry), moves = .next s' ∧
        vacated s' w ∧ s'.task? t.id = some t' ∧ t'.place = .migrating ∧ (s.core c).freeSlots.head? = some sl ∧
        (s'.slot c sl).st = .reserved ∧ (s'.slot c sl).task = t.id ∧ (s'.core c).intake = (s.core c).intake ++ [e] ∧
        e.task = t.id ∧ e.slot = sl ∧ e.incomplete = true ∧ e.img = sentImage s w 2 true ∧ e.checks = flitChecks e.img ∧ e.colour = s.colour ∧ s'.agenda = s.agenda ++ [.migrationIntake c sl]) ∧
      (s.takesThread t.id.launch c = false ∨ (s.core c).entryOpen = false → k.blocked = false → x.area = some n → ∃ s' : State, moves = .next s' ∧
        (s'.at w).st = .save ∧ (s'.at w).saveAt = some (BitVec.ofNat 64 (hSavebase l.h + n * hSavelen l.h * 32), 0, 2) ∧ (s'.at w).epc = x.epc ∧
        (s'.at w).th = x.th ∧ (∀ v, v ≠ w → s'.at v = s.at v) ∧ s'.tasks = s.tasks ∧ s'.mem = s.mem ∧ s'.agenda = s.agenda ++
          ((if 8 ≤ k.cacheUsed then [.contextCacheWriteback w.core] else []) ++ [.saveCompletion w.core w.slot]))) ∧
    (∀ e, k.intake.find? (fun e => e.slot == w.slot) = some e → k.dead = false →
      let came (r : State) : State := (r.updCore w.core fun k =>
        { k with intake := k.intake.map fun x => if x.slot = w.slot then { x with incomplete := false } else x }).postWake w.core 0x03 w.slot.val
      let counted := s.countRecv e.task.launch e.colour 1
      (e.checks = flitChecks e.img → fires (.migrationIntake w.core w.slot) s = .next (came counted)) ∧
      (e.checks ≠ flitChecks e.img → fires (.migrationIntake w.core w.slot) s =
        .next (came ((counted.logError 0x01 0x01 w.core w.slot.val 0 0 e.task.launch 0).post
          [.launchStop e.task.launch .fault (some ⟨3, 0x20, 1, 0x7FF, 0, 0, 0, 0, 0, none⟩)])))) ∧
    (x.st = .save → x.saveAt = some (0, 0, 0) → (k.cache.any fun e => e.slot == w.slot && e.incomplete && e.dest.isSome) = false →
      (k.cacheUsed < 8 → plainTask s w t → s.stopped t.id.launch = false → x.fromPark = false → ∃ (s' : State) (t' : Task) (e : CtxEntry),
        fires (.saveCompletion w.core w.slot) s = .next s' ∧ vacated s' w ∧ (s'.core w.core).cache = k.cache ++ [e] ∧ e.task = t.id ∧
        e.img = sentImage s w 0 false ∧ s'.task? t.id = some t' ∧ t'.place = .out w.core ∧ t'.parked = false ∧
        (s'.core w.core).runq = k.runq ++ [⟨t.id, .saved, t.prio, 0, 0, 0, 0, true, none, false⟩]) ∧
      (8 ≤ k.cacheUsed → k.victim.isSome → fires (.saveCompletion w.core w.slot) s =
        .next (s.post [.contextCacheWriteback w.core, .saveCompletion w.core w.slot]))) ∧
    (∀ e va asid s', k.cache.find? (fun e => !e.incomplete) = some e → s.homeArea e = some (va, asid) →
      (s.saveBytes w.core asid va (e.img ++ e.tail) = (s', none) →
        fires (.contextCacheWriteback w.core) s = .next (s'.updCore w.core fun k => { k with cache := k.cache.erase e })) ∧
      (∀ a, s.saveBytes w.core asid va (e.img ++ e.tail) = (s', some a) → fires (.contextCacheWriteback w.core) s =
        .next ((s'.updCore w.core fun k => { k with cache := updFirst (fun x => x == e) (fun x => { x with incomplete := true }) k.cache }).logError
          0x10 0x04 w.core e.slot.val 0 0 e.task.launch (BitVec.ofNat 64 a)))) ∧
    (k.freeSlots = [] → (s.ownEntry w.core).isSome → parkedLongest k w.slot → k.evictHold ≤ s.gtime → fires (.parkedThreadEviction w.core) s =
      .next (if k.blocked then s.updCore w.core fun k => { k with evictHold := s.gtime + 1024 } else s.beginSave w 0 0 0))

/-- R26, R319 to R321, R323, R325 and R372: what the schedulers do: a unit without a binding level enters its die's ready queue; a free slot takes the
entry of the better priority, the core's own first, and a new task starts with the registers of R26; an idle die asks its neighbours in turn. Corners
that are the model's choice: log entries 27, 92. -/
def Obligations.SchedulerEvents : Prop :=
  ∀ (s : State) (c d : Nat) (l : Launch) (u : DealtUnit) (e : QEntry) (sl : Fin 16) (rest : List (Fin 16)),
    (s.launch? u.launch = some l → s.stopped u.launch = false → d < 8 → nlev (hWidths l.h) ≤ 6 → (∀ lvl, lvl < 6 → hLplc l.h lvl = 0) →
      fires (.unitPlacement d u) s = .next { s with ready := s.ready.setIfInBounds d (s.ready.toList.getD d [] ++
        u.entries.map fun e => { e with bound := u.place != 0, cluster := none }) }) ∧
    ((s.core c).freeSlots = sl :: rest →
      let die := s.ready.toList.getD (dieOf c) []
      let ok := s.eligible c
      (∀ e, s.ownEntry c = some e → (∀ f, s.offer c = some f → e.prio ≤ f.prio) → fires (.slotFill c) s =
        .next ((s.updCore c fun k => { k with runq := giveOut ok e k.runq }).dispatchEntry ⟨c, sl⟩ e)) ∧
      (∀ f, s.offer c = some f → (∀ e, s.ownEntry c = some e → f.prio < e.prio) → fires (.slotFill c) s =
        .next ({ s with ready := s.ready.setIfInBounds (dieOf c) (giveOut ok f die) }.dispatchEntry ⟨c, sl⟩ { f with passes := 0 })) ∧
      (∀ (arg lvt : Word) (mode : IMode) (sp : Bool) (n : Nat), s.ownEntry c = some e → s.offer c = none → e.work = .task arg mode lvt sp →
        s.launch? e.task.launch = some l → hLmreq l.h = 0 → hLayout l.h = 0 → l.freeArea = some n → l.unplaced = [] → l.num = e.task.launch →
        (∀ t, s.task? e.task = some t → t.deferred = []) →
        ∃ s' : State, fires (.slotFill c) s = .next s' ∧ (s'.slot c sl).st = .run ∧ (s'.slot c sl).task = e.task ∧ (s'.slot c sl).area = some n ∧
          (s'.slot c sl).asid = l.asid ∧
          let th := (s'.slot c sl).th
          th.pc = BitVec.ofNat 64 (hEntry l.h) ∧ th.lvt = lvt ∧ th.imode = mode ∧ th.codelet = false ∧ th.fmt = l.fmt ∧ th.fsc = l.fsc ∧
          th.vtwin = BitVec.ofNat 64 (hVtwin l.h) ∧ th.seed = BitVec.ofNat 64 (hSeed l.h) ∧ th.g[3] = e.task.wid ∧ th.g[4] = arg ∧
          (∀ r : Fin 32, r ≠ 3 → r ≠ 4 → th.g[r] = 0) ∧ th.p = 0)) ∧
    (fires (.grantRetry c) s = .next (s.updCore c fun k => { k with grantHold := none })) ∧
    (∀ v, s.stealing.toList.getD d false = false → s.idleDie d = true → (victims d).find? (s.mayAsk d) = some v → fires (.stealRequest d) s =
      .next ({ s with steals := s.steals.put (8 * d + v) s.gtime, stealing := s.stealing.setIfInBounds d true }.post [.stealAnswer v d])) ∧
    (∀ v, let q := s.ready.toList.getD v []
      (∀ e, bestOf (s.stealable d) q = some e → d ≠ v → d < 8 → fires (.stealAnswer v d) s = .next { s with
        ready := (s.ready.setIfInBounds v (giveOut (s.stealable d) e q)).setIfInBounds d (s.ready.toList.getD d [] ++ [{ e with passes := 0 }]),
        stealing := s.stealing.setIfInBounds d false }) ∧
      (bestOf (s.stealable d) q = none → ((victims d).dropWhile (fun x => x != v)).drop 1 = [] →
        fires (.stealAnswer v d) s = .next { s with stealing := s.stealing.setIfInBounds d false })) ∧
    (∀ (e : QEntry) (q : List QEntry), bestOf (s.eligible c) q = some e → e ∈ q ∧ s.eligible c e = true ∧
      (∀ x ∈ q, s.eligible c x = true → e.prio ≤ x.prio))

/-- R310, R316 to R318, R346, R347 and R100: a record of a work queue is accepted or refused; an accepted launch is dispatched with a number, an
Odometer slot, GVT and HZN at its base and no barrier count; a stop marks it and keeps its first report; and its completion record is written at its
end. Corners that are the model's choice: log entries 53, 61, 90, 91. -/
def Obligations.LaunchEvents : Prop :=
  ∀ (s : State) (q : Nat) (l : Launch) (r : Report) (kind : StopKind), let p := s.wqPage q
    let h := natOf (s.pread (p.base.toNat + 128 * (p.head.toNat % p.size.toNat)) 128)
    let asid := p.ctl.toNat / 2 ^ 8 % 2 ^ 8
    let moved := s.updWq q fun p => { p with head := BitVec.ofNat 64 ((p.head.toNat + 1) % 2 ^ 32) }
    let read := moved.logHeader asid h
    (s.acceptDue q = true → 0 < p.size.toNat →
      (∀ a, moved.accepts asid h = .ok a → ∃ l', fires (.launchAccept q) s =
        .next ({ read with launches := s.launches ++ [l'], nextKey := s.nextKey + 1 }.post [.launchDispatch l'.key]) ∧
        l'.hdr = BitVec.ofNat 1024 h ∧ l'.st = .waiting ∧ l'.deps = a.deps ∧ l'.queue = q ∧ l'.asid = asid ∧ l'.wqidx = p.head.toNat % 2 ^ 32 ∧ l'.ofDevice = false ∧
        l'.gvt = hVtbase h ∧ l'.hzn = hVtbase h) ∧
      (∀ reason, moved.accepts asid h = .error reason → ∃ n s', fires (.launchAccept q) s = .next s' ∧ s'.launches = s.launches ∧
        ((∀ l ∈ s.launches, l.num ≠ s.nextNum) → n = s.nextNum) ∧
        s' = { read.complete q n 4 reason (p.head.toNat % 2 ^ 32) 0 [] (hIrqVec h) with nextNum := (n + 1) % 4096 })) ∧
    (s.launches = [l] → l.st = .waiting → l.num = 4096 → l.odo = none → l.deps = [] → s.nextNum < 4096 → s.tasks = [] →
      hNogrid l.h = true → hExpl l.h = false → ∃ (s' : State) (l' : Launch) (t : Task) (u : DealtUnit) (d : Nat), fires (.launchDispatch l.key) s = .next s' ∧
        s'.launches = [l'] ∧ l'.num = s.nextNum ∧ l'.st = .live ∧ l'.odo = some 0 ∧ l'.barrier = [] ∧ l'.gvt = l.gvt ∧ s'.nextNum = (s.nextNum + 1) % 4096 ∧
        s'.tasks = [t] ∧ t.id = ⟨s.nextNum, 0⟩ ∧ t.place = .queued ∧ t.imode = imodeOf (hImode l.h) ∧ t.lvt = BitVec.ofNat 64 (hVtbase l.h) ∧
        s'.agenda = s.agenda ++ [.unitPlacement d u] ∧ u.launch = s.nextNum ∧ (∃ e, u.entries = [e] ∧ e.task = t.id ∧ e.prio = hPrio l.h) ∧
        ((dealDies l.h).head? = some d ∨ dealDies l.h = [])) ∧
    (s.launch? l.num = some l → l.st = .live → l.first = none → (∀ e ∈ s.allEntries, e.task.launch ≠ l.num) →
      (∀ t ∈ s.tasks, t.id.launch = l.num → ∃ c sl, t.place = .on c sl) →
      (∀ p ∈ s.cores, (∀ y ∈ p.2.spilled, y.task.launch ≠ l.num) ∧ ∀ y ∈ p.2.tileWait, y.task.launch ≠ l.num) →
      ∃ s' l', fires (.launchStop l.num kind (some r)) s = .next s' ∧ s'.launch? l.num = some l' ∧ l'.st = .stopped kind ∧ l'.first = some r ∧
        l'.odo = none ∧ s'.mem = s.mem ∧ (∀ c k, Tbl.find? s.cores c = some k → ∃ k', Tbl.find? s'.cores c = some k' ∧ k'.slots = k.slots ∧
          k'.commitq = k.commitq.filter (fun e => e.task.launch != l.num) ∧ k'.mxq = k.mxq.filter (fun e => e.task.launch != l.num) ∧
          k'.waiters = k.waiters.filter (fun e => e.task.launch != l.num)) ∧
        (∀ c sl k, (c, k) ∈ s.cores → k.slots[sl].launched = true → k.slots[sl].task.launch = l.num → k.slots[sl].st ≠ .empty →
          k.slots[sl].st ≠ .reserved → .driverStop c sl ∈ s'.agenda)) ∧
    (s.launch? l.num = some l → l.st = .stopped kind → kind ≠ .driver →
      (∀ r', l.first = some r' → fires (.launchStop l.num .fault (some r)) s = .next (s.updLaunch l.num fun l => { l with others := l.others + 1 }))) ∧
    (s.launch? l.num = some l → s.launchBusy l.num = false →
      let done (status reason naux : Nat) (reps : List (List Byte)) : Prop := ∃ s', fires (.launchCompletion l.num) s = .next s' ∧
        let t := s.complete l.queue l.num status reason l.wqidx naux reps (hIrqVec l.h)
        s'.mem = t.mem ∧ s'.wq = t.wq ∧ s'.msixPending = t.msixPending ∧ s'.tasks = s.tasks.filter (fun t => t.id.launch != l.num) ∧
        s'.launches = delFirst (fun x => x.key == l.key) s.launches
      (l.st = .ended → done 0 0 l.withdrawn []) ∧ (l.st = .stopped .stall → done 2 0 l.waiting.length l.waiting) ∧
      (l.st = .stopped .fault → l.first = some r → done 1 r.code l.others [reportRecord r]) ∧
      (l.st = .stopped .driver → ∃ rec, done 3 0 0 [rec] ∧ rec.length = 64))

/-- R89 to R93, R384, R395 and R396: a sweep begins, once the one before it has completed, by bringing its colour into force and asks a result of
every live launch. Its report holds the closing colour's counts and the least of the terms and of that colour's VTs. The root of the launch's origin
waits for every package that the launch is known to span; at the second balanced result in a row GVT and HZN take the minima, a launch of which
nothing is left at two such results ends, and the packages that reported are told. The root of another package sends its report to the origin by the
port of its route, and takes the GVT and HZN that come back. Corners that are the model's choice: log entries 32, 57, 85. -/
def Obligations.OdometerEvents : Prop :=
  ∀ (s : State) (l : Launch) (f : SweepFlit) (d : Nat),
    let sweep := fires (.sweepResult l.num) s
    let part (x : Nat × Nat) : Nat := if s.sweep % 2 = 1 then x.1 else x.2
    let g := min (s.terms l.num).1 (part l.sentVt)
    let h := min (s.terms l.num).2 (part l.sentVt)
    let own : SweepFlit := ⟨d, false, l.num, part l.sent, part l.recv, g, h, s.nothingLeft l.num, !s.nothingLeft l.num && s.onlyWaits l.num⟩
    let balanced := part l.sent = part l.recv
    let open_ : Prop := ∃ l ∈ s.launches, l.st = .live ∧ l.due.isSome
    let fresh (x : Nat × Nat) : Nat × Nat := if s.sweep % 2 = 1 then (2 ^ 64 - 1, x.2) else (x.1, 2 ^ 64 - 1)
    (s.regs.odoctl.getLsbD 0 = true → ¬ open_ → fires .sweepStart s =
      .next ({ s with sweep := s.sweep + 1, sweepAt := s.gtime + s.regs.sweepPeriod,
                      launches := s.launches.map fun (l : Launch) => { l with sentVt := fresh l.sentVt } }.post
        ((s.launches.filter fun (l : Launch) => l.st == LState.live && l.odo.isSome).map fun (l : Launch) => .sweepResult l.num))) ∧
    (s.regs.odoctl.getLsbD 0 = false ∨ open_ → fires .sweepStart s = .next s) ∧
    (s.launch? f.launch = none → fires (.sweepControlFlit f) s = .next s) ∧
    (f.result = false → s.launch? f.launch = some l → l.st = .live → l.odo.isSome →
      let held := { s with flits := s.flits ++ [f] }.meetPeer f.launch f.dev
      fires (.sweepControlFlit f) s = .next (if l.due.isSome then held.post [.sweepResult f.launch] else held)) ∧
    (f.result = true → f.idle = false → f.stalled = false → f.launch = l.num → s.launches = [l] → l.st = .live → l.odo.isSome → s.tasks = [] →
      (∀ x ∈ s.cores, x.2.commitq = []) → ∃ s' l', fires (.sweepControlFlit f) s = .next s' ∧ s'.launches = [l'] ∧ l'.st = .live ∧ l'.guest = some f.dev ∧
        (hVtime l.h = true → l'.gvt = max l.gvt f.gvt ∧ l'.hzn = max (max l.hzn f.hzn) l'.gvt) ∧ (hVtime l.h = false → l'.gvt = l.gvt ∧ l'.hzn = l.hzn)) ∧
    (s.launches = [l] → l.st = .live → l.odo.isSome → l.due = none → l.guest = some d →
      (∀ p, s.portTo d = some (p, true) → sweep = .next { s with sentFlits := s.sentFlits ++ [own] }) ∧
      (∀ p, s.portTo d = some (p, false) → sweep = .next { s with flitWait := s.flitWait ++ [(p, s.gtime, own)] }) ∧
      (s.portTo d = none → sweep = .next (s.cpStop l.num))) ∧
    (s.launches = [l] → l.st = .live → l.odo.isSome → l.due = none → l.guest = none →
      (∃ d ∈ l.peers, ∀ f ∈ s.flits, f.launch = l.num → f.dev ≠ d) →
      sweep = .next { s with launches := [{ l with due := some { own with dev := 0 } }] }) ∧
    (s.launches = [l] → l.st = .live → l.odo.isSome → l.due = none → s.captures = [] → l.guest = none → s.flits = [f] → f.launch = l.num → l.peers = [f.dev] →
      part l.sent + f.sent ≠ part l.recv + f.recvd → ∀ p, s.portTo f.dev = some (p, true) → ∃ s' l', sweep = .next s' ∧ s'.launches = [l'] ∧
        l' = { l with balanced := false, sawEnd := false, sawStall := false } ∧ s'.flits = [] ∧
        s'.sentFlits = s.sentFlits ++ [⟨f.dev, true, l.num, 0, 0, s.gvtOf l.num, s.hznOf l.num, false, false⟩]) ∧
    (s.launches = [l] → l.st = .live → l.odo.isSome → s.flits = [] → s.captures = [] → l.due = none → l.peers = [] → l.guest = none →
      (¬ balanced → ∃ s' l', sweep = .next s' ∧ s'.launches = [l'] ∧ l' = { l with balanced := false, sawEnd := false, sawStall := false }) ∧
      (balanced → l.balanced = false → ∃ s' l', sweep = .next s' ∧ s'.launches = [l'] ∧ l'.balanced = true ∧ l'.gvt = l.gvt ∧ l'.hzn = l.hzn ∧ l'.st = .live) ∧
      (balanced → l.balanced = true → l.sawEnd = false → l.sawStall = false → s.tasks = [] → (∀ x ∈ s.cores, x.2.commitq = []) →
        ∃ s' l', sweep = .next s' ∧ s'.launches = [l'] ∧ l'.st = .live ∧
          (hVtime l.h = true → l'.gvt = max l.gvt g ∧ l'.hzn = max (max l.hzn h) l'.gvt) ∧ (hVtime l.h = false → l'.gvt = l.gvt ∧ l'.hzn = l.hzn)) ∧
      (balanced → l.balanced = true → l.sawEnd = true → s.tasks = [] → s.cores = [] → s.agenda = [] → s.mxus = [] → s.buckets = [] → s.portWait = [] →
        s.hostMsgs = [] → (∀ q ∈ s.ready.toList, q = []) → ∃ s' l', sweep = .next s' ∧ s'.launches = [l'] ∧ l'.st = .ended ∧ l'.odo = none))

namespace Sys2Proof.Claims

/-- The notice of a command that asks for one (R275, Table 10.1): PC, engine, command, UTAG, COUNT and BUCKET, at VT 0 from the task to itself. -/
def noticeOf (s : State) (q : QCmd) (utag count bucket : Nat) : List Event :=
  if (q.t.note = true ∨ q.op = .msync) ∧ q.codelet = false ∧ q.task.launch < 4096 then
    [.messageArrival ⟨0, q.task.wid, q.task.wid, q.task.launch, 0, false, false, false, 2, s.colour,
      bytesOf 8 q.pc.toNat ++ bytesOf 4 (q.op.engine + 2 ^ 8 * q.op.cmd) ++ bytesOf 4 utag ++ bytesOf 8 count ++ bytesOf 8 bucket⟩]
  else []

/-- The report of an engine fault (R276, Table 15.5): SRC 1, SUB the reason, with the engine and the command. -/
def engineStop (core : Nat) (q : QCmd) (reason cause : Nat) (tval : Word) : Event :=
  .launchStop q.task.launch .fault (some ⟨1, cause, reason, core, q.slot.val, q.task.wid, q.pc, tval, 0, some (q.op.engine, q.op.cmd)⟩)

/-- Select of R31 over the queue heads of a cluster: the credits, reloaded from the weights where no core with a command has any; and the cores that may
be chosen: those with a head and credit, only those whose head matches the active plane where there is such a one. -/
def credits (m : Mxu) (head : Fin 8 → Option QCmd) (c : Fin 8) : Nat :=
  if ∃ x, (head x).isSome ∧ m.credit[x] ≠ 0 then m.credit[c] else m.mxwt.toNat / 16 ^ c.val % 16
def mayTake (m : Mxu) (head : Fin 8 → Option QCmd) (c : Fin 8) : Prop :=
  let cand (x : Fin 8) : Prop := (head x).isSome ∧ credits m head x ≠ 0
  let fits (x : Fin 8) : Prop := ∀ q, head x = some q → q.op = .mact → q.t.tag = m.active.tag
  cand c ∧ (fits c ∨ ∀ x, cand x → ¬ fits x)

/-- The accumulator of a core's region (R280). -/
def accAt (m : Mxu) (k : Fin 8) (row col : Nat) : BitVec 32 := m.acc.getD ((k.val * 128 + row) * 256 + col) 0

/-- The rational value of a finite value. -/
def ratOf : Val → ℚ
  | .fin s n d => (if s then -1 else 1) * (n : ℚ) / (d : ℚ)
  | _ => 0

/-- Finite FP8 and FP4 values (Table 5.1). -/
def smallVal (v : Val) : Prop := v.isNan = false ∧ v.isInf = false ∧ ∃ x, x < 256 ∧ (v = e4m3.decode x ∨ v = e5m2.decode x ∨ v = e2m1.decode (x % 16))

end Sys2Proof.Claims

/-- R29 to R31, R275, R276, R280, R281 and R285 to R290: the arbiter's choice, and what the MXU's commands do as they are executed: MWLD loads the
shadow plane, MSWAP exchanges the planes, a row of MACT is one K-block for every column of its row of accumulators, MZERO clears rows, MDRN fills a
slot, MSYNC gives its notice, and a MACT that meets another plane is an engine fault 0x01. Corners that are the model's choice: log entry 1. -/
def Obligations.MatrixUnitEvents : Prop :=
  ∀ (s : State) (cl : Nat) (k : Fin 8) (q : QCmd), let m := s.mxu cl
    let head (c : Fin 8) : Option QCmd := (s.core (8 * cl + c.val)).mxq.head?
    let c := 8 * cl + k.val
    let t := q.t
    let b := s.cb c t.cbn
    let run : Host.Outcome State Fault Refusal := fires (.mxuCommandExecute cl) s
    let free (s : State) : State := s.updMxu cl fun m => { m with running := none }
    let noted (s' : State) (count utag : Nat) : Prop := s'.agenda = s.agenda ++ noticeOf s q utag count 0
    (m.running = none → (∀ x, head x = none) → fires (.arbiterSelect cl) s = .next s) ∧
    (m.running = none → head k = some q → mayTake m head k → (∀ x, mayTake m head x → (k - m.p).val ≤ (x - m.p).val) →
      ((s.core c).tileWait = [] → fires (.arbiterSelect cl) s = .next ((s.updCore c fun y => { y with mxq := y.mxq.tail }).updMxu cl fun _ =>
        { m with running := some (k, q), p := k + 1,
                 credit := Vector.ofFn fun x => if x = k then credits m head x - 1 else credits m head x })) ∧
      (∀ y, (s.core c).tileWait = [y] → y.op.engine = 0 → (s.core c).mxq.length ≤ 8 → ∃ s', fires (.arbiterSelect cl) s = .next s' ∧
        (s'.mxu cl).running = some (k, q) ∧ (s'.core c).mxq = (s.core c).mxq.tail ++ [y] ∧ (s'.core c).tileWait = [] ∧
        (s'.slot c y.slot).busy = .completing ∧ s'.agenda = s.agenda ++ [.instructionCompletion c y.slot])) ∧
    (m.running = some (k, q) →
      fires (.arbiterSelect cl) s = .next s ∧
      (q.op = .mswap → ∃ s', run = .next s' ∧ (s'.mxu cl).active = m.shadow ∧ (s'.mxu cl).shadow = m.active ∧ (s'.mxu cl).running = none ∧ noted s' 0 0) ∧
      (q.op = .msync → ∃ s', run = .next s' ∧ (s'.mxu cl).running = none ∧ noted s' 0 t.w1.toNat) ∧
      (q.op = .mzero → t.row0 + t.rows ≤ 128 → ∃ s', run = .next s' ∧ (s'.mxu cl).running = none ∧ noted s' t.rows 0 ∧ ∀ (x : Fin 8) (row col : Nat), row < 128 → col < 256 →
        accAt (s'.mxu cl) x row col = if x = k ∧ t.row0 ≤ row ∧ row < t.row0 + t.rows then 0 else accAt m x row col) ∧
      (q.op = .mwld → ∀ n bs, 0 < b.bytes → n * b.bytes < weightLen t.wtype t.sparse + b.bytes → weightLen t.wtype t.sparse ≤ n * b.bytes →
        n ≤ b.slots → s.feed c t.cbn true n = .slots bs → ∃ s', run = .next s' ∧ (s'.mxu cl).running = none ∧ noted s' 0 0 ∧ (s'.mxu cl).active = m.active ∧
          (s'.mxu cl).shadow = ⟨bs.take (weightLen t.wtype t.sparse), natOf ((bs.drop 32768).take 2) % 2 ^ 12, natOf ((bs.drop 32770).take 2) % 2 ^ 12, t.tag,
            t.wtype, t.sparse⟩ ∧ (s'.cb c t.cbn).filled = b.filled - n ∧ (s'.cb c t.cbn).cptr = (b.cptr + n) % b.slots) ∧
      (q.op = .mact → q.done < t.rows → (m.active.tag ≠ t.tag ∨ m.active.wtype ≠ t.wtype ∨ m.active.sparse ≠ t.sparse) → ∃ tval,
        run = .next ({ free s with free := s.free + 1 }.post [engineStop c q 0x01 0 tval])) ∧
      (q.op = .mact → q.done < t.rows → m.active.tag = t.tag → m.active.wtype = t.wtype → m.active.sparse = t.sparse → t.row0 + t.rows ≤ 128 →
        (t.za = false → s.accBad cl k (t.row0 + q.done) (colsOf t.wtype) = false) → ∀ row, s.feed c t.cbn (decide (rlen t.wtype t.sparse + 2 ≤ b.bytes)) 1 = .slots row →
        let sa := natOf ((row.drop (rlen t.wtype t.sparse)).take 2)
        let old (col : Nat) : Nat := if t.za then 0 else (accAt m k (t.row0 + q.done) col).toNat
        let pairs := blockPairs t.wtype t.atype t.sparse m.active.img row
        ∃ s', run = .next s' ∧ (s'.mxu cl).running = some (k, { q with done := q.done + 1 }) ∧ (s'.cb c t.cbn).filled = b.filled - 1 ∧
          (∀ (x : Fin 8) (r col : Nat), r < 128 → col < 256 → (x ≠ k ∨ r ≠ t.row0 + q.done ∨ (t.wtype = 3 ∧ 128 ≤ col)) →
            accAt (s'.mxu cl) x r col = accAt m x r col) ∧
          (∀ col, col < 256 → (t.wtype = 3 → col < 128) → accAt (s'.mxu cl) k (t.row0 + q.done) col = BitVec.ofNat 32
            (if t.wtype = 3 then bf16Block (bf16Block (old col) ((pairs col).take 64)) ((pairs col).drop 64)
              else blockStep (old col) (pairs col) sa (if col < 128 then m.active.scale0 else m.active.scale1)))) ∧
      (q.op = .mact ∨ q.op = .mdrn → q.done = t.rows → ∃ s', run = .next s' ∧ (s'.mxu cl).running = none ∧ noted s' t.rows 0) ∧
      (q.op = .mdrn → q.done < t.rows → t.dcoreM = k.val → b.en = true → b.pkind = 0 → b.eos = false → b.filled ≠ b.slots → (s.core c).lmx = false →
        s.accBad cl k (t.row0 + q.done) t.drained = false →
        let data := drainRow m q k (t.row0 + q.done)
        data.length = t.drained.length * codeBits (recFmt q.frec) / 8 → data.length ≤ b.bytes → ∃ s', run = .next s' ∧
          (s'.mxu cl).running = some (k, { q with done := q.done + 1 }) ∧ (s'.core c).lmem = (s.fillSlotAt c t.cbn data |>.core c).lmem ∧
          (s'.cb c t.cbn).filled = b.filled + 1 ∧ (s'.cb c t.cbn).pptr = (b.pptr + 1) % b.slots) ∧
      (∀ x : ChanSlot, q.op = .mdrn → x.src = c → (s.cb x.dst x.cb).reclaimed = false →
        let d := s.cb x.dst x.cb
        (d.takesFrom c true = true → x.data.length ≤ d.bytes → s.roomAt x.dst x.cb ≠ 0 → ∃ s', fires (.drainSlotArrival x) s = .next s' ∧
          (s'.mxu cl).running = some (k, { q with done := q.done + 1 }) ∧ (s'.core x.dst).lmem = (s.fillSlotAt x.dst x.cb x.data |>.core x.dst).lmem ∧
          (s'.cb x.dst x.cb).filled = d.filled + 1) ∧
        (d.takesFrom c true = true → d.bytes < x.data.length → ∃ tval,
          fires (.drainSlotArrival x) s = .next ({ free s with free := s.free + 1 }.post [engineStop c q 0x02 0 tval]))))

/-- R61, R276, R277, R291 to R296 and R298: what copy engines and collective engines do with one event: a step of CPY.F, a piece of CPY.B's source,
the slots of a channel, the checks on a collective's descriptor; and by R137, R138, R299 and R397 a wire block that arrives: kept while no bucket has
its number, refused where its header, its sender or its place is wrong, else hopped and sent to the next member over its Welsa port. Corners that are
the model's choice: log entries 1, 53, 54. -/
def Obligations.CopyAndCollectiveEvents : Prop :=
  ∀ (s : State) (c : Nat) (q : QCmd) (x : ChanSlot) (w : WireBlock) (b : Bucket) (d : Nat), let k := s.core c
    let step : Host.Outcome State Fault Refusal := fires (.copyExecute c) s
    (k.copyq = [] → k.copying = [q] → q.op = .cpyF → q.t.dmode = 1 → k.lmx = false →
      (q.done = q.op.total q.t → ∃ s', step = .next s' ∧ (s'.core c).copying = [] ∧ s'.mem = s.mem ∧ (s'.core c).lmem = k.lmem ∧
        s'.agenda = s.agenda ++ noticeOf s q 0 (q.op.total q.t) 0) ∧
      (q.done < q.op.total q.t → let n := min 4096 (q.op.total q.t - q.done)
        ∃ s', step = .next s' ∧ (s'.core c).copying = [{ q with done := q.done + n, stream := [], away := none }] ∧ s'.mem = s.mem ∧
          (s'.core c).lmem = Mem.sets k.lmem (q.t.lo64 + q.done)
            ((List.range n).map fun j => BitVec.ofNat 8 (q.t.hi64 / 2 ^ (8 * ((q.done + j) % 8)))))) ∧
    (k.copying = [q] → q.op = .cpyB → q.t.dmode = 1 → 0 < q.t.rl → q.done < q.op.total q.t →
      let off := q.done % q.t.rl
      let va := ((q.t.lo64 : Int) + (q.done / q.t.rl : Nat) * q.t.spitch + off) % 2 ^ 64
      let n := min (q.t.rl - off) (4096 - va.toNat % 4096)
      ∀ p bs, va.toNat < 2 ^ 54 → va.toNat / 2 ^ 48 ≠ 63 → s.translate q.asid va.toNat .csrc = .ok p →
        s.kindCheck q.asid q.owner false .csrc p.pte va.toNat = .ok () → s.homeRead p n = .ok bs → bs.length = n →
        fires (.streamerRead c q.at_) s = .next ((s.lwrite c (q.t.hi64 + q.done) bs).updCore c fun k =>
          { k with copying := [{ q with done := q.done + n, stream := [], away := none }] })) ∧
    ((s.core x.src).copying = [q] → q.op = .cpyC → x.dst ≠ x.src →
      let y := s.cb x.dst x.cb
      (y.takesFrom x.src false = true → y.pkind = 1 → s.chanReady x.dst x.cb = true → (s.core x.dst).landing = [] → x.token = false →
        ∃ s', fires (.copyChannelSlotArrival x) s = .next s' ∧ (s'.core x.dst).lmem = (s.fillSlotAt x.dst x.cb x.data |>.core x.dst).lmem ∧
          (s'.cb x.dst x.cb).filled = y.filled + 1 ∧ (s'.cb x.dst x.cb).pptr = (y.pptr + 1) % y.slots ∧
          (s'.core x.src).copying = [{ q with done := q.done + x.data.length }]) ∧
      (y.takesFrom x.src false = true → y.pkind = 1 → s.chanReady x.dst x.cb = true → (s.core x.dst).landing = [] → x.token = true →
        ∃ s', fires (.copyChannelSlotArrival x) s = .next s' ∧ (s'.core x.dst).lmem = (s.core x.dst).lmem ∧ (s'.cb x.dst x.cb).eos = true ∧
          (s'.cb x.dst x.cb).token = some y.pptr ∧ (s'.cb x.dst x.cb).filled = y.filled + 1) ∧
      (y.reclaimed = false → y.takesFrom x.src false = false → (s.core x.dst).landing = [] → ∃ s', fires (.copyChannelSlotArrival x) s = .next s' ∧
        (s'.core x.src).copying = [] ∧ (s'.core x.dst).lmem = (s.core x.dst).lmem ∧ (s'.cb x.dst x.cb) = y)) ∧
    (∀ rest, k.collq = q :: rest → k.tileWait = [] → s.readDesc q.asid q.t.lo64 = .ok d →
      let gone := s.updCore c fun k => { k with collq := rest }
      let n := q.t.w6.toNat
      (s.descOk d = false → ∃ tval, fires (.collectiveStart c) s = .next ({ gone with free := s.free + 1 }.post [engineStop c q 0x05 0 tval])) ∧
      (s.descOk d = true → (s.bucket? (collDesc d).ring n).isSome →
        ∃ tval, fires (.collectiveStart c) s = .next ({ gone with free := s.free + 1 }.post [engineStop c q 0x08 0 tval])) ∧
      (s.descOk d = true → s.bucket? (collDesc d).ring n = none → 64 ≤ (s.buckets.filter fun b => b.ring == (collDesc d).ring).length →
        fires (.collectiveStart c) s = .next s) ∧
      (∀ bs blocks, s.descOk d = true → s.buckets = [] → s.early = [] → (q.op = .crs ∨ q.op = .car) → 2 < (collDesc d).nmem → 1 < (collDesc d).rank →
        0 < q.count → q.count ≤ 32 → s.readBuf q q.t.hi64 (4 * q.count) = .ok bs →
        formBlock (wireScale (collDesc d).scale) ((List.range 32).map fun i => (fp32s bs q.count).getD i 0) = some blocks →
        ∃ s' y, fires (.collectiveStart c) s = .next s' ∧ s'.buckets = [y] ∧ (s'.core c).collq = rest ∧ s'.mem = s.mem ∧ y.cmd = { q with away := none } ∧ y.bucket = n ∧
          y.ring = (collDesc d).ring ∧ y.rank = (collDesc d).rank ∧ y.nmem = (collDesc d).nmem ∧ y.count = q.count ∧ y.met = [] ∧
          y.blocks = [(blocks.1, blocks.2.map (BitVec.ofNat 8))])) ∧
    (s.bucket? w.ring w.bucket = none → fires (.wireBlockArrival w) s = .next { s with early := s.early ++ [{ w with check := checkCode w.elems 0 }] }) ∧
    (s.buckets = [b] → b.ring = w.ring → b.bucket = w.bucket → 0 < b.nmem →
      let good : Prop := w.fromDev = b.member.getD ((b.rank + b.nmem - 1) % b.nmem) 64 ∧ w.scale = b.scale ∧ w.seq = w.block % 256 ∧
        w.res = residue (w.elems.map BitVec.toNat)
      let full : Prop := (if w.spread = true then b.gotSpread = b.countOf (b.expects true) else b.gotReduce = b.countOf (b.expects false)) ∨ b.nb ≤ w.block
      let awaited : Prop := b.expects w.spread w.block = true ∧ b.met.contains (w.block, w.spread) = false
      let stops (reason : Nat) : Prop := ∃ s', fires (.wireBlockArrival w) s = .next s' ∧ s'.buckets = [] ∧ s'.sentBlocks = s.sentBlocks ∧
        s'.agenda = s.agenda ++ [engineStop b.core b.cmd reason 0 (BitVec.ofNat 64 (b.bucket % 2 ^ 32 + w.seq % 256 * 2 ^ 32))]
      (¬ good → stops 0x07) ∧ (good → full → stops 0x09) ∧ (good → ¬ full → ¬ awaited → stops 0x07) ∧
      (good → ¬ full → awaited → w.spread = false → b.chunk w.block ≠ b.rank →
        ∀ g es own, b.blocks.getD w.block (0, []) = own → own.1 ≤ 7 → hop w.grow (w.elems.map BitVec.toNat) own.1 (own.2.map BitVec.toNat) = .ok (g, es) →
        let next := b.member.getD ((b.rank + 1) % b.nmem) 0
        let route := (s.fleet.wroute.toList.getD next 0).toNat
        let formed (y : WireBlock) : Prop := y.grow = g ∧ y.elems = (List.range 32).map (fun i => BitVec.ofNat 8 (es.getD i 0)) ∧ y.scale = b.scale ∧ y.block = w.block ∧
          y.seq = w.block % 256 ∧ y.spread = false ∧ y.res = residue (y.elems.map BitVec.toNat)
        next < 64 →
        (route / 8 % 2 = 1 → (s.link (32 + route % 8)).up = true →
          ∃ s' y, fires (.wireBlockArrival w) s = .next s' ∧ s'.sentBlocks = s.sentBlocks ++ [y] ∧ formed y) ∧
        (route / 8 % 2 = 1 → (s.link (32 + route % 8)).up = false → ∃ s' y, fires (.wireBlockArrival w) s = .next s' ∧ s'.sentBlocks = s.sentBlocks ∧
          s'.portWait = s.portWait ++ [(route % 8, b.cmd.task.launch, s.gtime, y)] ∧ formed y) ∧
        (route / 8 % 2 = 0 → ∃ s' r, fires (.wireBlockArrival w) s = .next s' ∧ s'.sentBlocks = s.sentBlocks ∧ s'.buckets = [] ∧
          s'.agenda = s.agenda ++ [.launchStop b.cmd.task.launch .fault (some r)])))

namespace Sys2Proof.Claims

/-- A driver command's end: STATUS written and BUSY cleared (R350); with a result, DCRES too. -/
def withStatus (s : State) (n : Nat) : State := { s with regs := { s.regs with dcbusy := false, dcstatus := n } }
def withResult (s : State) (v : Word) : State := { s with regs := { s.regs with dcbusy := false, dcstatus := 0, dcres := v } }

/-- The package is ready: boot step 6 reached without a failure (R364). -/
def isReady (s : State) : Prop := s.powered = true ∧ s.regs.bootst.toNat % 8 = 6 ∧ s.regs.bootst.getLsbD 3 = false

/-- The low `n` bits of a register. -/
def low (v : Word) (n : Nat) : Word := BitVec.ofNat 64 (v.toNat % 2 ^ n)

/-- The ring sizes and alignments that enabling a work queue needs (R345). -/
def pageValid (p : WqPage) : Prop :=
  (∃ k, 1 ≤ k ∧ k ≤ 16 ∧ p.size.toNat = 2 ^ k) ∧ (∃ k, 1 ≤ k ∧ k ≤ 16 ∧ p.cqsize.toNat = 2 ^ k) ∧ (∃ k, 4 ≤ k ∧ k ≤ 20 ∧ p.rpsize.toNat = 2 ^ k) ∧
    p.base.toNat % 128 = 0 ∧ p.cqbase.toNat % 32 = 0 ∧ p.rpbase.toNat % 64 = 0

/-- An error record of the package's own (Table 15.11): no core, no launch. -/
def recorded (s : State) (ty addr : Nat) : State := s.logError ty 0 0x7FF 0 0 0 0xFFF (BitVec.ofNat 64 addr)

end Sys2Proof.Claims

/-- R344 to R350, R358, R364, R368, R383 and R397: what the host's register accesses do on a ready package: the rings' heads and tails, WQCTL, the
error log, a core's trace head, ring configuration and capture units; a split or unaligned access, and a write that a live launch or bucket forbids,
leave an error record and have no other effect, a read of that kind gives all ones; DCCMD starts a command unless one is under way; before the package
is ready a write is discarded. R309, R342, R343, R364 and R387: the host reaches memory through CXL.mem only within the host-access map: a refused
read gives all ones and an error record; a read of a granule whose check code does not match, as of a poisoned one, gives CXL poison and a record for
each granule; any other gives the line; a write within the map to a HOSTBUF page, to a page that is mapped nowhere, or to a FROZEN page, which is
noted, is performed. Corners that are the model's choice: log entry 62. -/
def Obligations.HostAccess : Prop :=
  (
  ∀ (s : State) (q : Nat) (v : Word) (c : Nat) (ring : Fin 16) (die : Fin 8) (unit : Fin 32), isReady s → q < 4096 → c < 1536 →
    let p := s.wqPage q
    let page (p' : WqPage) : State := { s with wq := s.wq.put q p' }
    let en := p.ctl.getLsbD 0
    let asid := p.ctl.toNat / 2 ^ 8 % 2 ^ 8
    let keep (e : Word) : Word := if p.err = 0 then e else p.err
    (fires (.cqheadWrite q v) s = .next (page { p with cqhead := low v 32 })) ∧ (fires (.hmheadWrite q v) s = .next (page { p with hmhead := low v 32 })) ∧
    (fires (.rpheadWrite q v) s = .next (page { p with rphead := low v 32 })) ∧
    (fires (.wqtailWrite q v) s = .next (page (if en = true ∧ p.size.toNat < (v.toNat + 2 ^ 32 - p.head.toNat % 2 ^ 32) % 2 ^ 32
      then { p with tail := low v 32, err := keep 3, ctl := BitVec.ofNat 64 (asid * 2 ^ 8) } else { p with tail := low v 32 }))) ∧
    (let a := v.toNat / 2 ^ 8 % 2 ^ 8
     let ctl (p' : WqPage) : Prop := fires (.wqctlWrite q v) s = .next (page p')
     (en = false → v.getLsbD 0 = false → ctl { p with ctl := BitVec.ofNat 64 (a * 2 ^ 8) }) ∧
     let ahead := (p.tail.toNat + 2 ^ 32 - p.head.toNat % 2 ^ 32) % 2 ^ 32
     (en = false → v.getLsbD 0 = true → pageValid p → ahead ≤ p.size.toNat → ctl { p with ctl := BitVec.ofNat 64 (a * 2 ^ 8 + 1), err := 0 }) ∧
     (en = false → v.getLsbD 0 = true → pageValid p → p.size.toNat < ahead → ctl { p with ctl := BitVec.ofNat 64 (a * 2 ^ 8), err := 3 }) ∧
     (en = false → v.getLsbD 0 = true → ¬ pageValid p → ctl { p with ctl := BitVec.ofNat 64 (a * 2 ^ 8), err := 1 }) ∧
     (en = true → ctl { p with ctl := BitVec.ofNat 64 (v.toNat % 2 + asid * 2 ^ 8), err := if a = asid then p.err else keep 2 })) ∧
    (let held := (s.regs.eltail.toNat + 2 ^ 32 - v.toNat % 2 ^ 32) % 2 ^ 32
     let classes := s.errClasses.drop (s.errClasses.length - held)
     fires (.elheadWrite v) s = .next { s with regs := { s.regs with elhead := low v 32 }, errClasses := classes }) ∧
    (fires (.trheadWrite c v) s = .next (s.updCore c fun k => { k with trhead := v })) ∧
    (fires (.wringWrite ring v) s = .next (if s.buckets.any (fun b => b.ring == ring.val) then recorded s 0x23 (0x311400 + 8 * ring.val)
      else { s with fleet := { s.fleet with wring := s.fleet.wring.set ring.val (low v 7) } })) ∧
    (let u := s.capture die.val unit.val
     let put (u' : Capture) : State := { s with captures := s.captures.put (32 * die.val + unit.val) u' }
     let cleared (ctl : Word) : Capture := { u with ctl := ctl, min := 0xFFFFFFFF, max := 0, cnt := 0, drop := 0, hist := .replicate 32 0, clearedAt := some s.gtime }
     let shown : Word := v &&& 0x7FF00FFF7FF#64
     fires (.captureClear die unit) s = .next (put (cleared u.ctl)) ∧
     (v.toNat % 256 ≤ 0x0A → v.getLsbD 11 = false → u.ctl &&& 0x7FF00FFF4FF#64 = v &&& 0x7FF00FFF4FF#64 →
       fires (.captureConfigWrite die unit v) s = .next (put { u with ctl := shown })) ∧
     (v.toNat % 256 ≤ 0x0A → (v.getLsbD 11 = true ∨ u.ctl &&& 0x7FF00FFF4FF#64 ≠ v &&& 0x7FF00FFF4FF#64) →
       fires (.captureConfigWrite die unit v) s = .next (put (cleared shown)))) ∧
    (∀ bar off, fires (.badRegisterAccess bar off false) s = .next (recorded s 0x22 off) ∧
      fires (.badRegisterAccess bar off true) s = .next (recorded { s with hostRead := some (List.replicate 8 0xFF) } 0x22 off) ∧
      (off % 8 ≠ 0 → fires (.registerWrite bar off v) s = .next (recorded s 0x22 off) ∧ s.regRead bar off = BitVec.allOnes 64)) ∧
    (let kept : Word := v &&& 0x80000000000000FF#64
     (s.regs.dcbusy = true → fires (.registerWrite 2 0x040 v) s = .next { s with regs := { s.regs with dcover := true } }) ∧
     (s.regs.dcbusy = false → v.getLsbD 63 = false → fires (.registerWrite 2 0x040 v) s = .next { s with regs := { s.regs with dccmd := kept } }) ∧
     (s.regs.dcbusy = false → v.getLsbD 63 = true → ∃ e, fires (.registerWrite 2 0x040 v) s =
       .next ({ s with regs := { s.regs with dccmd := kept, dcbusy := true, dcover := false } }.post [e]))) ∧
    (fires (.registerWrite 2 0x028 v) s =
      .next { s with regs := { s.regs with odoctl := BitVec.ofNat 64 (v.toNat % 2 + max 1 (v.toNat / 2 ^ 4 % 2 ^ 16) * 2 ^ 4) } }) ∧
    (fires (.registerWrite 2 0x310010 v) s =
      .next { s with fleet := { s.fleet with pwrcap := BitVec.ofNat 64 (min 2200 (max 600 (v.toNat % 2 ^ 16))) } }) ∧
    (∀ off ∈ [0x000, 0x008, 0x030, 0x060, 0x068, 0x090, 0x0A8, 0x0B0], fires (.registerWrite 2 off v) s = .next s) ∧
    (s.launches.any (fun l => l.st != .waiting) = true → ∀ off ∈ [0x010, 0x018, 0x020, 0x100, 0x1B8],
      fires (.registerWrite 2 off v) s = .next (recorded s 0x23 off)) ∧
    (∀ t : State, ¬ isReady t → ∀ bar off, off % 8 = 0 → fires (.registerWrite bar off v) t = .next t)) ∧ (
  ∀ (s : State) (pa : Nat) (bs : List Byte), let line := pa / 64 * 64
    let ones : List Byte := List.replicate 64 0xFF
    let read := fires (.hostMemRead pa) s
    let write := fires (.hostMemWrite pa bs) s
    let mapped : Prop := (s.pbyte (s.regs.habase.toNat + pa / 2 ^ 24)).toNat / 2 ^ (pa / 2 ^ 21 % 8) % 2 = 1
    let mappedLine : Prop := (s.pbyte (s.regs.habase.toNat + line / 2 ^ 24)).toNat / 2 ^ (line / 2 ^ 21 % 8) % 2 = 1
    (¬ isReady s ∨ populated line = false → read = .next { recorded s 0x21 pa with hostRead := some ones }) ∧
    (isReady s → populated line = true → ¬ mappedLine → read = .next { recorded s 0x20 pa with hostRead := some ones }) ∧
    (isReady s → populated line = true → mappedLine →
      (s.badGranule (line / 32) = false → s.badGranule (line / 32 + 1) = false → read = .next { s with hostRead := some (s.pread line 64) }) ∧
      (∀ g, g = line / 32 ∨ g = line / 32 + 1 → s.badGranule g = true → (∀ g', g' = line / 32 ∨ g' = line / 32 + 1 → g' ≠ g → s.badGranule g' = false) →
        read = .next { s.logError 0x01 0x01 0x7FF 0 0 0 0xFFF (BitVec.ofNat 64 (32 * g)) with hostRead := none }) ∧
      (s.badGranule (line / 32) = true → s.badGranule (line / 32 + 1) = true → let one := s.logError 0x01 0x01 0x7FF 0 0 0 0xFFF (BitVec.ofNat 64 line)
        read = .next { one.logError 0x01 0x01 0x7FF 0 0 0 0xFFF (BitVec.ofNat 64 (line + 32)) with hostRead := none })) ∧
    (∀ g, g ∈ s.poison → s.badGranule g = true) ∧
    (¬ isReady s ∨ populated pa = false → write = .next (recorded s 0x21 pa)) ∧
    (isReady s → populated pa = true → ¬ mapped → write = .next (recorded s 0x20 pa)) ∧
    (isReady s → populated pa = true → mapped → (s.hostPage pa = none ∨ ∃ p, s.hostPage pa = some p ∧ p.kind = 3) → write = .next (s.pwrite pa bs)) ∧
    (isReady s → populated pa = true → mapped → ∀ p, s.hostPage pa = some p → p.kind = 2 → ∃ t, write = .next t ∧ pa / 2 ^ 12 ∈ t.hostPages ∧
      { t with hostPages := s.hostPages } = s.pwrite pa bs))

/-- R44, R45, R108, R234, R350, R351, R357 and R367: what each driver command does with its operands, its STATUS, and the statuses it refuses with
(Table 15.6). Corners that are the model's choice: log entries 61, 89. -/
def Obligations.DriverCommands : Prop :=
  ∀ (s : State) (b : Buffer) (t : Task) (l : Launch), let a0 := s.regs.dcarg0.toNat
    let a1 := s.regs.dcarg1.toNat
    let a2 := s.regs.dcarg2.toNat
    let answers (e : Event) (n : Nat) : Prop := fires e s = .next (withStatus s n)
    let named (arena : Bool) (asid h : Nat) : Bool := s.launches.any fun l => (!arena || l.asid == asid) && l.deps.any fun d => d.arena == arena && d.handle == h
    answers .unknownDriverCommand 2 ∧
    ((256 ≤ a2 ∨ a1 = 0 ∨ 2 ^ 54 < a0 + a1) → answers .regbuf 1) ∧
    (a2 < 256 → 0 < a1 → a0 + a1 ≤ 2 ^ 54 → s.buffers = [] → fires .regbuf s = .next (withResult
      { s with buffers := [⟨s.nextHandle, false, a2, a0, a1, none, []⟩], nextHandle := if s.nextHandle = 2 ^ 32 - 1 then 1 else s.nextHandle + 1 }
      (BitVec.ofNat 64 s.nextHandle))) ∧
    ((∀ x ∈ s.buffers, x.arena = true ∨ x.handle ≠ a0) → answers .freebuf 3 ∧ (a1 < 2 ^ 16 → a2 = 0 ∨ a2 = 2 → answers .retag 3)) ∧
    (b ∈ s.buffers → b.arena = false → b.handle = a0 →
      (named false 0 a0 = true → answers .freebuf 4 ∧ (a1 < 2 ^ 16 → a2 = 0 ∨ a2 = 2 → answers .retag 4)) ∧
      (named false 0 a0 = false → fires .freebuf s =
        .next (withStatus { s with buffers := s.buffers.filter fun x => x.arena || x.handle != a0 } 0))) ∧
    ((2 ^ 16 ≤ a1 ∨ (a2 ≠ 0 ∧ a2 ≠ 2)) → answers .retag 1) ∧
    (a1 < 2 ^ 16 → a2 = 0 ∨ a2 = 2 → s.buffers = [b] → b.arena = false → b.handle = a0 → named false 0 a0 = false →
      (∀ x, s.context b.asid b.va = .error x → b.len = 4096 → b.va % 4096 = 0 → fires .retag s = .next (withStatus (s.logWalk x) 0)) ∧
      ∀ z e at_, s.context b.asid b.va = .ok z → s.walk b.asid b.va (z / 2 ^ 10 % 2 ^ 42 * 2 ^ 10) 0 5 = .ok (e, at_) →
        let retagged (x : Nat) : Nat := x % 2 ^ 4 + a2 * 2 ^ 4 + x / 2 ^ 6 % 2 ^ 74 * 2 ^ 6 + a1 * 2 ^ 80 + x / 2 ^ 96 * 2 ^ 96
        let home (l : DLine) : Bool := l.frozen || l.asid != b.asid || l.va / b.len != b.va / b.len
        let dropped : State := { s.dropXlat b.va 0 b.asid with cores := s.cores.map fun (c, k) => (c, { k with dcache := k.dcache.filter home }) }
        (b.len = 4096 → b.va % 4096 = 0 → pteSize e = 0 → pteKind e ≠ 1 →
          fires .retag s = .next (withStatus (dropped.pwrite at_ (bytesOf 16 (retagged (natOf (s.pread at_ 16))))) 0)) ∧
        (b.len = 65536 → b.va % 65536 = 0 → pteSize e = 1 → pteKind e ≠ 1 → ∃ s', fires .retag s = .next (withStatus s' 0) ∧
          s' = ((List.range 16).map fun k => at_ / 256 * 256 + 16 * k).foldl (fun x a => x.pwrite a (bytesOf 16 (retagged (natOf (x.pread a 16))))) dropped)) ∧
    (a0 % 64 ≠ 0 → answers .regarena 1) ∧
    (∀ bs ar, a0 % 64 = 0 → s.checkedRead a0 64 = .ok bs → arenaOf? (natOf bs) = some ar → s.arenas = [] → named true ar.asid ar.num = false →
      (∀ x ∈ s.buffers, x.arena = false) → fires .regarena s = .next (withResult (State.resetCells
        { s with arenas := [ar], buffers := s.buffers ++ [⟨ar.num, true, ar.asid, ar.base, ar.len, none, []⟩] } ar ar.base (ar.len / cellBytes ar.size))
        (BitVec.ofNat 64 ar.num))) ∧
    ((256 ≤ a0 ∨ 4096 ≤ a1) → answers .freearena 1) ∧ (a0 < 256 → a1 < 4096 → s.arena? a0 a1 = none → answers .freearena 3) ∧
    (∀ ar, a0 < 256 → a1 < 4096 → s.arena? a0 a1 = some ar → named true a0 a1 = true → answers .freearena 4) ∧
    (∀ ar, a0 < 256 → a1 < 4096 → s.arena? a0 a1 = some ar → named true a0 a1 = false → ∃ s' : State, fires .freearena s = .next (withStatus s' 0) ∧
      s'.arena? a0 a1 = none ∧ s'.mem = s.mem ∧ s'.buffers = s.buffers.filter fun x => !(x.arena && x.asid == a0 && x.handle == a1)) ∧
    (fires .driverXinv s = .next (withStatus (s.dropXlat a0 (a1 / 2 ^ 8 % 4) (a1 % 2 ^ 8)) 0)) ∧
    (fires .driverCinv s = .next (withStatus (s.dropCopies (a1 / 2 ^ 48 % 2 ^ 8) a0 (a1 % 2 ^ 48)) 0)) ∧
    ((4096 ≤ a0 ∨ 4096 ≤ a1) → answers .stop 1) ∧
    (a0 < 4096 → a1 < 4096 → (∀ l ∈ s.launches, l.num = a1 → l.queue = a0 → l.st = .ended) → answers .stop 3) ∧
    (a0 < 4096 → a1 < 4096 → s.launches = [l] → l.num = a1 → l.queue = a0 → l.st = .live → fires .stop s = .next (withStatus (s.stopLaunch a1 .driver none) 0)) ∧
    (1536 ≤ a0 ∨ 4096 ≤ a1 → answers .reclaim 1 ∧ answers .restore 1) ∧
    (a0 < 1536 → a1 < 4096 → s.launch? a1 = none ∨ s.task? ⟨a1, BitVec.ofNat 64 a2⟩ = none ∨ s.stopped a1 = true → answers .reclaim 3 ∧ answers .restore 3) ∧
    (a0 < 1536 → a1 < 4096 → s.launch? a1 = some l → s.task? ⟨a1, BitVec.ofNat 64 a2⟩ = some t → s.stopped a1 = false →
      (∀ (sl : Fin 16) (n : Nat), t.place = .on a0 sl → t.area = some n → (s.slot a0 sl).st = .run →
        let units (glen : Nat) : Nat := (if a0 < 1152 then 96 else 64) + 1 + 24 + glen / 32
        let glen := match t.grant with | some (c, _, n) => if c = a0 then n else 0 | none => 0
        (hSavelen l.h < units glen → answers .reclaim 5) ∧
        (units glen ≤ hSavelen l.h → s.clear ⟨a0, sl⟩ = true → (s.core a0).blocked = false →
          fires .reclaim s = .next (s.beginSave ⟨a0, sl⟩ 3 (BitVec.ofNat 64 (hSavebase l.h + n * hSavelen l.h * 32)) 0)) ∧
        (units glen ≤ hSavelen l.h → s.clear ⟨a0, sl⟩ = false → fires .reclaim s = .next s)) ∧
      (t.place = .out a0 → (s.core a0).blocked = true → t.epochs = [] → s.commits a0 t.id = false → t.lvt.toNat < s.gvtOf a1 →
        ((if a0 < 1152 then 96 else 64) + 25 + (match t.grant with | some (c, _, n) => if c = a0 then n else 0 | none => 0) / 32 ≤ hSavelen l.h) →
        answers .reclaim 9) ∧
      (t.place = .out a0 → t.epochs ≠ [] →
        ((if a0 < 1152 then 96 else 64) + 25 + (match t.grant with | some (c, _, n) => if c = a0 then n else 0 | none => 0) / 32 ≤ hSavelen l.h) →
        fires .reclaim s = .next s) ∧
      (t.place ≠ .reclaimed a0 → answers .restore 3) ∧
      (∀ (n : Nat) x, t.place = .reclaimed a0 → s.saveStands a0 t.id = false → t.area = some n →
        s.restoreArea a0 t (hSavebase l.h + n * hSavelen l.h * 32) l.asid = .error x →
        let y := (s.logWalk x).imageRefused ⟨a0, 0⟩ a1 (hSavebase l.h + n * hSavelen l.h * 32)
        ∃ status, fires .restore s = .next (withStatus { y with free := y.free + 1 } status)) ∧
      (∀ (n : Nat) (s2 : State), t.place = .reclaimed a0 → s.saveStands a0 t.id = false → t.id = ⟨a1, BitVec.ofNat 64 a2⟩ → t.area = some n → t.parked = false →
        s.restoreArea a0 t (hSavebase l.h + n * hSavelen l.h * 32) l.asid = .ok s2 →
        fires .restore s = .next (withStatus ((s2.updTask t.id fun t => { t with place := .out a0 }).updCore a0 fun k =>
          { k with runq := k.runq ++ [⟨t.id, .saved, t.prio, 0, 0, 0, 0, true, none, false⟩] }) 0))) ∧
    (1536 ≤ a0 → answers .saveretry 1 ∧ answers .corecmd 1) ∧
    (a0 < 1536 → let held := (s.core a0).cache.filter fun e => e.incomplete
      let freed (t : State) (e : CtxEntry) : State := t.updCore a0 fun k => { k with cache := k.cache.erase e }
      let tries (e : CtxEntry) (va asid : Nat) : State × Option Nat := s.saveBytes a0 asid va (e.img ++ e.tail)
      (∃ s', fires .saveretry s = .next (withStatus s' 0)) ∧ (held = [] → answers .saveretry 0) ∧
      (∀ e va asid t, held = [e] → e.dest = none → s.homeArea e = some (va, asid) →
        (tries e va asid = (t, none) → fires .saveretry s = .next (withStatus (freed t e) 0)) ∧
        (∀ a, tries e va asid = (t, some a) → fires .saveretry s = .next (withStatus (t.saveFailed a0 e.slot.val e.task.launch a) 0))) ∧
      (∀ e va desc asid t, held = [e] → e.dest = some (va, desc, asid) → tries e va.toNat asid = (t, none) →
        (e.slot ≠ 15 → ∃ s', fires .saveretry s = .next (withStatus s' 0) ∧
          ∀ x ∈ (s'.core a0).cache, x.slot = e.slot → x.incomplete = true → x.dest = none) ∧
        (e.slot = 15 → let g := grantOn a0 ((t.task? e.task).bind Task.grant)
          fires .saveretry s = .next (withStatus (freed (t.clearGrant a0 g.1 g.2) e) 0)))) ∧
    (a0 < 1536 → fires .corecmd s = .next (withStatus (s.postWake a0 0x04 a1) 0)) ∧
    (16 ≤ a0 → answers .rotkey 1) ∧
    (a0 < 16 → let valid (j : Nat) : Bool := natOf (s.pread (s.regs.ascbase.toNat + 32 * (16 * a0 + j)) 1) % 2 == 1
      ((∃ j, j < 16 ∧ valid j = true) → answers .rotkey 4) ∧
      ((∀ j, j < 16 → valid j = false) → fires .rotkey s =
        .next (withStatus { s with keyVer := s.keyVer.setIfInBounds a0 (s.keyVer.toList.getD a0 0 + 1) } 0)))

/-- R391 to R393: DIGEST hashes the arenas its list names, in order, cell by cell; with replication on it sends its digest to its peers, by the port
of each, and waits for theirs; a peer's agreement ends it with STATUS 0, a difference with 7 and every queue of the address space disabled, and the
timeout with 8. Corners that are the model's choice: log entry 60. -/
def Obligations.DigestEvents : Prop :=
  ∀ (s : State) (bs : List Byte) (d : Word) (as : List Arena) (w : DigestWait) (peer group step : Nat) (x : Word),
    let a0 := s.regs.dcarg0.toNat
    let a1 := s.regs.dcarg1.toNat
    let a2 := s.regs.dcarg2.toNat
    let rep := s.fleet.repgrp.toNat
    let got : State := { s with regs := { s.regs with dcres := d }, fleet := { s.fleet with diglast := d } }
    let late : Nat := rep / 2 ^ 32 * 1024
    let dest := rep / 2 ^ 8 % 2 ^ 6
    let route := s.fleet.wroute.toList.getD dest 0
    let routed := route.getLsbD 3
    let up := (s.link (32 + route.toNat % 8)).up
    let told : Nat × Nat × Nat × Word := (dest, rep / 2 ^ 24 % 2 ^ 8, a0 / 2 ^ 16 % 2 ^ 32, d)
    ((a0 / 2 ^ 8 % 2 ^ 8 ≠ 0 ∨ 2 ^ 48 ≤ a0 ∨ a1 % 8 ≠ 0 ∨ a2 = 0 ∨ 4096 < a2) → fires .digest s = .next (withStatus s 1)) ∧
    (a0 / 2 ^ 8 % 2 ^ 8 = 0 → a0 < 2 ^ 48 → a1 % 8 = 0 → 0 < a2 → a2 ≤ 4096 → s.checkedRead a1 (2 * a2) = .ok bs →
      (arenaNumbers bs).map (fun n => s.arena? (a0 % 256) n) = as.map some →
      ((∃ a ∈ as, a.st ≠ 2) → fires .digest s = .next (withStatus s 1)) ∧
      ((∀ a ∈ as, a.st = 2) → s.digestOf 0 as = .ok d →
        (rep % 2 = 0 → fires .digest s = .next (withStatus got 0)) ∧
        (rep % 2 = 1 → rep / 2 % 4 = 1 → s.peers = [] → fires .digest s =
          .next { got with digest := some ⟨a0 % 256, a0 / 2 ^ 16 % 2 ^ 32, d, s.gtime, none, []⟩,
                           sentDigests := s.sentDigests ++ (if routed = true ∧ up = true then [told] else []),
                           heldDigests := s.heldDigests ++ (if routed = true ∧ up = false
                             then [(dest, rep / 2 ^ 24 % 2 ^ 8, a0 / 2 ^ 16 % 2 ^ 32, d, s.gtime)] else []) }))) ∧
    (a0 / 2 ^ 8 % 2 ^ 8 = 0 → a0 < 2 ^ 48 → a1 % 8 = 0 → 0 < a2 → a2 ≤ 4096 → s.checkedRead a1 (2 * a2) = .ok bs →
      (∃ n ∈ arenaNumbers bs, s.arena? (a0 % 256) n = none) → fires .digest s = .next (withStatus s 3)) ∧
    (s.digest = none → s.peers = [] → fires (.digestPeerMessage peer group step x) s = .next { s with peers := [(peer, group, step, x)] }) ∧
    (s.digest = some w → w.heard = [] → w.differs = none → rep / 2 % 4 = 1 → peer = rep / 2 ^ 8 % 2 ^ 6 → group = rep / 2 ^ 24 % 2 ^ 8 → step = w.step →
      (x = w.digest → fires (.digestPeerMessage peer group step x) s = .next (withStatus { s with digest := none } 0)) ∧
      (x ≠ w.digest → fires (.digestPeerMessage peer group step x) s = .next (withStatus ({ s with digest := none }.disagree w.asid x) 7))) ∧
    (s.digest = some w → late ≤ s.gtime - w.since → w.differs = none → fires .digestTimeout s = .next (withStatus { s with digest := none } 8)) ∧
    (s.digest = some w → s.gtime - w.since < late → fires .digestTimeout s = .next s)

/-- R362 to R366, R369, R380, R381, R384, R385, R389, R390, R394 and R396: the boot step by step, the SPDM responder's answers, power loss, the power
cap, link states and replays, overdue Welsa transfers, the scrubber and level samples. Corners that are the model's choice: log entries 16, 19, 57,
58, 60, 86. -/
def Obligations.PlatformEvents : Prop :=
  (∀ (s : State) (fail : Option BootFail), s.powered = false ∨ s.regs.bootst = 0 → ∃ s', fires (.powerOn fail) s = .next s' ∧ s'.powered = true ∧
    s'.regs.bootst = 1 ∧ s'.bootFail = fail ∧ s'.gtime = 0 ∧ s'.launches = [] ∧ s'.agenda = [] ∧ s'.poison = [] ∧ s'.cores = [] ∧ s'.mem = [] ∧
    s'.measures = []) ∧
  (∀ (s : State) (n : Nat), s.powered = true → s.agenda = [] → 1 ≤ n → n < 6 → s.regs.bootst = BitVec.ofNat 64 n →
    (∀ code, code < 256 → s.bootFail = some ⟨n, code⟩ → ∃ s', step s = .next s' ∧ s'.regs.bootst = BitVec.ofNat 64 (n + 8 + code * 2 ^ 8) ∧
      s'.cores = s.cores ∧ s'.mem = s.mem ∧ ∀ bar off v, off % 8 = 0 → fires (.registerWrite bar off v) s' = .next s') ∧
    (s.bootFail = none → ∃ s', step s = .next s' ∧ s'.regs.bootst = BitVec.ofNat 64 (n + 1) ∧ s'.agenda = [] ∧ s'.poison = s.poison ∧
      s'.measures.map Prod.fst = (if n < 4 then [1, 2, 3, 4].take n else [1, 2, 3, 4, 5]) ∧ (n < 4 → s'.cores = s.cores ∧ s'.links = s.links) ∧
      (n ≠ 4 → s'.regs.ascbase = s.regs.ascbase ∧ s'.mem = s.mem) ∧
      (n = 4 → s'.regs.ascbase = Config.firmwareAscBase ∧ s'.mem = Config.firmwareImage.foldl (fun m (a, b) => Mem.set m a b) [] ∧ (∀ m, m < 32 → (s'.link m).st = 1) ∧ ∀ c, c < 1536 → ((s'.core c).slots.get 15).st = .busy ∧ ((s'.core c).slots.get 15).busy = .fetch) ∧
      (n = 5 → ∀ c, c < 1536 → let k := s'.core c
        k.hslot = 15 ∧ k.eie = false ∧ k.lmx = false ∧ k.trctl = false ∧ k.started = false ∧ k.lmem = [] ∧ (k.slots.get 15).st = .run ∧
          (k.slots.get 15).th = { Thread.zero with pc := Config.firmwareEntry } ∧
          ∀ j : Fin 16, (k.slots.get j).quantum = 0 ∧ (k.slots.get j).grbase = 0 ∧ (k.slots.get j).grlen = 0 ∧ (j.val < 15 → (k.slots.get j).st = .empty)))) ∧
  (∀ s : State, let answer (e : Event) (r : SpdmResp) : Prop := fires e s = .next { s with spdm := some r }
    (s.powered = false ∨ s.regs.bootst.toNat % 8 < 3 → ∀ e ∈ [Event.getVersion, .getCapabilities, .getDigests], fires e s = .next s) ∧
    (s.powered = false ∨ s.regs.bootst.toNat % 8 < 3 → ∀ x y z nonce, fires (.negotiateAlgorithms x y) s = .next s ∧
      fires (.getCertificate x y z) s = .next s ∧ fires (.challenge nonce) s = .next s ∧ fires (.getMeasurements x) s = .next s) ∧
    (s.powered = true → 3 ≤ s.regs.bootst.toNat % 8 →
      answer .getVersion .version ∧ answer .getCapabilities .capabilities ∧
      (∀ asym hash, asym / 2 ^ 7 % 2 = 1 → hash / 2 % 2 = 1 → answer (.negotiateAlgorithms asym hash) .algorithms) ∧
      (∀ asym hash, asym / 2 ^ 7 % 2 = 0 ∨ hash / 2 % 2 = 0 → answer (.negotiateAlgorithms asym hash) .error) ∧
      answer .getDigests (.digests Config.certificateDigest) ∧
      (∀ off len, answer (.getCertificate 0 off len) (.certificate ((Config.certificate.drop off).take len))) ∧
      (∀ slot off len, slot ≠ 0 → answer (.getCertificate slot off len) .error) ∧
      (∀ nonce, answer (.challenge nonce) (.challengeAuth (Config.challengeSignature nonce))) ∧
      answer (.getMeasurements 0xFF) (.measurements s.measures) ∧
      (∀ i m, 0 < i → i < 0xFF → s.measures = [(i, m)] → answer (.getMeasurements i) (.measurements [(i, m)])) ∧
      (∀ i, 0 < i → i < 0xFF → (∀ m ∈ s.measures, m.1 ≠ i) → answer (.getMeasurements i) .error))) ∧
  (∀ s : State, (fires .thermalShutdown s = .next { State.reset with powered := false, free := s.free }) ∧
    (fires .powerRemoval s = .next { State.reset with powered := false, free := s.free })) ∧
  (∀ (s : State) (watts : Nat), watts < 2 ^ 16 →
    let now := BitVec.ofNat 64 (Config.temperature s.moment % 2 ^ 16 * 2 ^ 16 + watts)
    let tooHigh := decide (s.fleet.pwrcap.toNat % 2 ^ 16 < watts)
    fires (.powerCapThrottle watts) s = .next { s with fleet := { s.fleet with pwrnow := now }, throttled := tooHigh }) ∧
  (∀ (s : State) (n : Nat), let l := s.link n
    s.linkErrors n = { s with links := s.links.put n { l with crcerr := min (l.crcerr + Config.crcErrors s.moment n) (2 ^ 32 - 1),
                                                              llretry := min (l.llretry + Config.linkRetries s.moment n) (2 ^ 32 - 1) } }) ∧
  (∀ (s : State) (die : Fin 8) (m st : Fin 4), let n := 4 * die.val + m.val
    let c := s.linkErrors n
    let l := c.link n
    let up (l : Link) : Prop := l.st = 1 ∨ l.st = 2
    let other : Prop := ∃ j, j < 4 ∧ j ≠ m.val ∧ up (s.link (4 * die.val + j))
    let t := { c with links := c.links.put n { l with st := st } }.logError 0x30 0 0x7FF 0 die m 0xFFF 0
    (l.st = st → fires (.ucieModuleStateChange die m st) s = .next c) ∧
    (l.st ≠ st → (up { l with st := st } ∨ ¬ up l ∨ other ∨ die.val ∈ s.cutDies) → fires (.ucieModuleStateChange die m st) s = .next t) ∧
    (up l → ¬ up { l with st := st } → ¬ other → die.val ∉ s.cutDies → fires (.ucieModuleStateChange die m st) s =
      .next ((t.launchesOnDie die).foldl State.cpStop ({ t with cutDies := die.val :: s.cutDies }.logError 0x31 0 0x7FF 0 die 0 0xFFF 0))) ∧
    (∀ n, ∃ r, s.cpStop n = { s with free := s.free + 1 }.post [.launchStop n .fault (some r)])) ∧
  (∀ (s : State) (n : Fin 40), let l := (s.linkErrors n).link n
    ∃ s', fires (.fabricReplay n) s = .next s' ∧ s'.link n = { l with replay := min ((s.link n).replay + 1) (2 ^ 32 - 1) } ∧
      s'.mem = s.mem ∧ s'.cores = s.cores ∧ s'.tasks = s.tasks ∧ s'.agenda = s.agenda) ∧
  (∀ (s : State) (p : Fin 8) (st : Fin 4) (peer : Fin 64), let n := 32 + p.val
    let c := s.linkErrors n
    let l := c.link n
    let l' : Link := { l with st := st, peer := if st.val = 1 ∨ st.val = 2 then peer else l.peer }
    let t : State := { c with links := c.links.put n l' }
    (l.st = st → fires (.welsaPortStateChange p st peer) s = .next t) ∧
    (l.st ≠ st → ¬ (st.val = 1 ∨ st.val = 2) → fires (.welsaPortStateChange p st peer) s = .next (recorded t 0x32 p)) ∧
    (l.st ≠ st → st.val = 1 ∨ st.val = 2 → s.buckets = [] → let r := recorded t 0x32 p
      let here (x : Nat × Nat × Nat × WireBlock) : Bool := x.1 == p.val
      (s.heldDigests = [] → (∀ x ∈ s.portWait, here x = true → x.2.2.2.whole = true) →
      let go := (s.portWait.filter here).map fun x => x.2.2.2
      let flits := (s.flitWait.filter fun (x : Nat × Nat × SweepFlit) => x.1 == p.val).map fun (x : Nat × Nat × SweepFlit) => x.2.2
      fires (.welsaPortStateChange p st peer) s =
        .next ({ r with portWait := s.portWait.filter (fun x => !here x), flitWait := s.flitWait.filter (fun (x : Nat × Nat × SweepFlit) => x.1 != p.val),
                        sentFlits := s.sentFlits ++ flits, latWait := s.latWait.filter (fun (x : Nat × Nat × LatReq) => x.1 != p.val),
                        sentBlocks := s.sentBlocks ++ go }.post
          ((s.latWait.filter fun (x : Nat × Nat × LatReq) => x.1 == p.val).map fun (x : Nat × Nat × LatReq) => Event.latticeRequestApply x.2.2))) ∧
      (∀ launch since b, s.portWait = [(p.val, launch, since, b)] → b.whole = false → s.heldDigests = [] → s.latWait = [] → ∃ s',
        fires (.welsaPortStateChange p st peer) s = .next s' ∧ s'.sentBlocks = s.sentBlocks ∧ s'.portWait = [] ∧
          s'.agenda = s.agenda ++ [.launchStop launch .fault (some (checkReport 0x01 0))]) ∧
      (∀ dest group step d since, s.heldDigests = [(dest, group, step, d, since)] → s.portWait = [] → s.latWait = [] → s.flitWait = [] → dest < 64 →
        (s.fleet.wroute.toList.getD dest 0).toNat % 16 = 8 + p.val →
        fires (.welsaPortStateChange p st peer) s = .next { r with heldDigests := [], sentDigests := s.sentDigests ++ [(dest, group, step, d)] }))) ∧
  (∀ (s : State) (p : Fin 8) (launch since : Nat) (b : WireBlock), s.portWait = [(p.val, launch, since, b)] → s.latWait = [] → s.flitWait = [] →
    s.heldDigests = [] → s.cores = [] → s.buckets = [] → s.stopped launch = false →
    (s.gtime - since < 2 ^ 24 → fires (.welsaTransferTimeout p) s = .next s) ∧
    (2 ^ 24 ≤ s.gtime - since → let t : State := { s with portWait := [] }
      fires (.welsaTransferTimeout p) s = .next ((t.logError 0x33 0 0x7FF 0 0 0 launch (BitVec.ofNat 64 p)).cpStop launch))) ∧
  (∀ (s : State) (p : Fin 8) (dest group step since : Nat) (d : Word), s.portWait = [] → s.latWait = [] → s.flitWait = [] → s.cores = [] → s.buckets = [] →
    s.heldDigests = [(dest, group, step, d, since)] → dest < 64 → (s.fleet.wroute.toList.getD dest 0).toNat % 16 = 8 + p.val →
    2 ^ 24 ≤ s.gtime - since → fires (.welsaTransferTimeout p) s = .next (recorded { s with heldDigests := [] } 0x33 p)) ∧
  (∀ (s : State) (g : Nat) (o : ScrubOutcome), let last := (7 * 2 ^ 36 + 48 * 2 ^ 30) / 32 - 1
    (s.fleet.scrubctl.getLsbD 0 = false → fires (.hbmScrub g o) s = .next s) ∧
    (s.fleet.scrubctl.getLsbD 0 = true → populated (32 * g) = true → s.badGranule g = false →
      (g ≠ last → fires (.hbmScrub g .clean) s = .next s) ∧
      (g = last → fires (.hbmScrub g .clean) s =
        .next { s with fleet := { s.fleet with scrubcnt := BitVec.ofNat 64 ((s.fleet.scrubcnt.toNat + 1) % 2 ^ 32) } }) ∧
      (g ≠ last → ∃ s', fires (.hbmScrub g .corrected) s = .next s' ∧ s'.mem = s.mem ∧ s'.poison = s.poison ∧ s'.errClasses = s.errClasses)) ∧
    (s.fleet.scrubctl.getLsbD 0 = true → populated (32 * g) = true → g ≠ last →
      let poisoned : State := { s with poison := if g ∈ s.poison then s.poison else g :: s.poison }
      fires (.hbmScrub g .uncorrectable) s = .next (recorded poisoned 0x02 (32 * g)) ∧
      (s.badGranule g = true → let found := poisoned.logError 0x01 0x01 0x7FF 0 0 0 0xFFF (BitVec.ofNat 64 (32 * g))
        fires (.hbmScrub g .clean) s = .next found ∧
        ∃ s', fires (.hbmScrub g .corrected) s = .next s' ∧ { s' with counted := s.counted } = found)) ∧
    (g ∈ s.poison ∨ s.mismatched g = true → s.badGranule g = true)) ∧
  (∀ (s : State) (die : Fin 8) (unit : Fin 32) (v : Nat), let u := s.capture die unit
    let src := u.ctl.toNat % 256
    (u.ctl.getLsbD 8 = false ∨ src < 5 ∨ 9 < src → fires (.monitorLevelSample die unit v) s = .next s) ∧
    (u.ctl.getLsbD 8 = true → 5 ≤ src → src ≤ 9 → u.clearedAt = some s.gtime →
      fires (.monitorLevelSample die unit v) s = .next { s with captures := s.captures.put (32 * die + unit) u }) ∧
    (u.ctl.getLsbD 8 = true → u.ctl.getLsbD 9 = false → u.clearedAt ≠ some s.gtime → 5 ≤ src → src ≤ 9 → v < 2 ^ 32 → u.cnt < 2 ^ 64 - 1 →
      let b := if v = 0 then 0 else min 31 (1 + Nat.log2 v)
      let h := u.hist.setIfInBounds b (min (u.hist.toList.getD b 0 + 1) (2 ^ 32 - 1))
      let u' : Capture := { u with min := min u.min v, max := max u.max v, cnt := u.cnt + 1, hist := h }
      fires (.monitorLevelSample die unit v) s = .next { s with captures := s.captures.put (32 * die + unit) u' })) ∧
  (∀ (s : State) (e : Event), (∀ e' rest, s.agenda = e' :: rest → e'.row ≠ e.row) → exec e.row s = .next s)

namespace Sys2Proof.Claims

/-! ## Register-only instructions -/

/-- The instructions of Tables 7.1 to 7.3 that compute from registers and an immediate into g(d) and touch nothing else. -/
def registerOnly (d a b : Fin 32) (v : BitVec 15) (n : Fin 64) (k : Fin 32) (z : Word → Word → Word) : List Instr :=
  (aluForms.map fun f => f.1 d a b) ++ ((immForms v ++ shiftForms n ++ shiftFormsW k ++ bitForms).map fun f => f.1 d a) ++
    (if z 0 0 = 0 then [.bfx d a b] else [.bfi d a b])

/-- The bytes of memory read alike in two states: physical memory, and every core's local memory. -/
def sameMemory (s t : State) : Prop := (∀ pa, t.pbyte pa = s.pbyte pa) ∧ ∀ c off, Mem.get (t.core c).lmem off = Mem.get (s.core c).lmem off

/-- All that stands beside the issuing slot is alike in two states: the other slots, every core's queues and control registers, tasks, launches, arenas,
package registers. -/
def sameAround (s t : State) (w : Who) : Prop :=
  (∀ c sl, ¬ (c = w.core ∧ sl = w.slot) → t.slot c sl = s.slot c sl) ∧ t.tasks = s.tasks ∧ t.launches = s.launches ∧ t.arenas = s.arenas ∧
    t.codes = s.codes ∧ t.regs = s.regs ∧ t.fleet = s.fleet ∧
    ∀ c, let k := s.core c
      let k' := t.core c
      k'.cbs = k.cbs ∧ k'.eie = k.eie ∧ k'.lmx = k.lmx ∧ k'.hslot = k.hslot ∧ k'.evbase = k.evbase ∧ k'.srpc = k.srpc ∧ k'.events = k.events ∧
        k'.layout = k.layout ∧ k'.mxq = k.mxq ∧ k'.copyq = k.copyq ∧ k'.collq = k.collq ∧ k'.commitq = k.commitq

/-- The issuing slot keeps every register but g(d) and its PC, and its bank of CSRs. -/
def sameThread (s t : State) (w : Who) (d : Fin 32) : Prop :=
  let x := s.at w
  let y := t.at w
  (∃ g pc, y.th = { x.th with g := g, pc := pc } ∧ ∀ r : Fin 32, r ≠ d → g[r] = x.th.g[r]) ∧
    y.cause = x.cause ∧ y.epc = x.epc ∧ y.tval = x.tval ∧ y.quantum = x.quantum ∧ y.grbase = x.grbase ∧ y.grlen = x.grlen ∧ y.lfpc = x.lfpc ∧
    y.task = x.task ∧ y.asid = x.asid ∧ y.owner = x.owner ∧ y.recs = x.recs

/-- The issuing slot keeps its bank of CSRs, and of its thread all but the PC, shape records, and the general registers of `G` and vector registers of
`V`. -/
def registersKept (s t : State) (G : List (Fin 32)) (V : List (Fin 16)) : Prop :=
  let x := s.at s.who
  let y := t.at s.who
  (∀ r : Fin 32, r ∉ G → y.th.g[r] = x.th.g[r]) ∧ (∀ r : Fin 16, r ∉ V → y.th.v[r] = x.th.v[r]) ∧
    y.th = { x.th with g := y.th.g, v := y.th.v, pc := y.th.pc, sh := y.th.sh } ∧
    y.cause = x.cause ∧ y.epc = x.epc ∧ y.tval = x.tval ∧ y.quantum = x.quantum ∧ y.grbase = x.grbase ∧ y.grlen = x.grlen ∧ y.lfpc = x.lfpc

/-- The frame of a form that stores nothing, and of one that stores `n` bytes at each of some addresses, where no trap is taken. -/
def LoadFrame (i : Instr) (s t : State) (G : List (Fin 32)) (V : List (Fin 16)) : Prop :=
  exec i s = .next t → (t.at s.who).st ≠ .trap → registersKept s t G V ∧ sameMemory s t
def StoreFrame (i : Instr) (s t : State) (G : List (Fin 32)) (acc : Acc) (n : Nat) (eas : List Word) : Prop :=
  exec i s = .next t → (t.at s.who).st ≠ .trap → registersKept s t G [] ∧
    (∀ pa, (∀ va ∈ eas, ∀ p, s.place s.who acc va.toNat n = .ok (.mem p) → pa < p.pa ∨ p.pa + n ≤ pa) → t.pbyte pa = s.pbyte pa) ∧
    ∀ c off, (∀ va ∈ eas, ∀ at_, s.place s.who acc va.toNat n = .ok (.loc c at_) → off < at_ ∨ at_ + n ≤ off) →
      Mem.get (t.core c).lmem off = Mem.get (s.core c).lmem off

/-! ## The turn -/

/-- A booted package with nothing in transit, whose rotation stands at one of its cores. -/
def atTurn (s : State) : Prop := s.agenda = [] ∧ isReady s ∧ s.turn < 1536

/-- No asynchronous trap is due at the boundary, no rollback that waits for it, no reclaim that holds the thread back, and no system event
(R83, R86, R94, R97). -/
def quiet (s : State) : Prop :=
  let x := s.at s.who
  x.mcheck = none ∧ x.refused = [] ∧ x.dstop = false ∧ x.timer = false ∧ x.deferred = [] ∧ s.heldBack s.who = false ∧
    (s.who.slot = 15 → (s.core s.turn).eie = false ∨ (s.core s.turn).dead = true ∨ (s.core s.turn).events = [])

/-- The state in which a fetched instruction executes: its turn is counted against the quantum (R23), and a system-slot instruction against LMX (R98). -/
def issuing (s : State) : State :=
  let w := s.who
  let s1 := s.upd w fun x =>
    if w.slot = 15 ∨ x.th.codelet = true ∨ x.quantum = 0 then x else { x with quantum := x.quantum - 1, timer := x.timer || x.quantum == 1 }
  if w.slot = 15 ∧ (s1.core w.core).lmx = true then s1.updCore w.core fun k => { k with lmxCount := k.lmxCount + 1 } else s1

/-- The code bytes at the PC that the core holds: those of its line from the PC on. -/
def codeOf (s : State) (bs : List Byte) : Prop :=
  let va := (s.th s.who).pc.toNat / 4 * 4
  ∃ l, ((s.core s.turn).icache.find? fun l => l.asid == (s.at s.who).asid && l.va == va / 32 * 32) = some l ∧ bs = l.bytes.drop (va % 32)

/-- What is wrong with the code bytes at the PC, as far as the instruction reaches: 32 bytes of a tile command, else four (R387, R388). -/
def brokenCode (s : State) (bs : List Byte) : Option (Nat × Word) :=
  s.codeBad s.who (if natOf (bs.take 4) / 2 ^ 25 % 128 = 0x7E ∧ (s.th s.who).pc.toNat / 4 * 4 % 32 = 0 then 32 else 4)

/-- The instruction that code bytes hold: a tile command takes 32 bytes and is aligned to them, any other takes four (R147). -/
def reads (s : State) (bs : List Byte) : Option Instr :=
  let w := natOf (bs.take 4)
  if w / 2 ^ 25 % 128 = 0x7E then (if (s.th s.who).pc.toNat / 4 * 4 % 32 = 0 then decodeBits (natOf bs) else none) else decodeBits w

end Sys2Proof.Claims

/-- R146 to R150: every well-formed instruction's word decodes to it, with every operand; and a word that decodes at all is the word of the
instruction it decodes to, which is well-formed. So no word is read as a neighbour's, and no reserved bit is ignored. (An event has no word.) -/
def Obligations.DecodeEncodeAgree : Prop :=
  (∀ i : Instr, i.wf = true → encode i ≠ 0 → decodeBits (encode i) = some i) ∧
  (∀ (w : Nat) (i : Instr), w < 2 ^ 32 → w / 2 ^ 25 ≠ 0x7E → decodeBits w = some i → i.wf = true ∧ encode i = w) ∧
  (∀ (w : Nat) (i : Instr), w < 2 ^ 256 → w / 2 ^ 25 % 128 = 0x7E → decodeBits w = some i → i.wf = true ∧ encode i = w)

/-- R147 to R149: words written out from the encoding tables, and words that are no instruction. -/
def Obligations.DecodedWords : Prop :=
  decodeBits (0x01 * 2 ^ 25 + 3 * 2 ^ 20 + 4 * 2 ^ 15 + 5 * 2 ^ 10 + 0x01) = some (.sub 3 4 5) ∧
  decodeBits (0x03 * 2 ^ 25 + 3 * 2 ^ 20 + 4 * 2 ^ 15 + 0x7FFF) = some (.addi 3 4 (-1)) ∧
  decodeBits (0x10 * 2 ^ 25 + 7 * 2 ^ 20 + 8 * 2 ^ 15 + 3 * 2 ^ 12 + 5) = some (.ld 7 8 .d 5) ∧
  decodeBits (0x1F * 2 ^ 25 + 1 * 2 ^ 20 + 0xFFFFE) = some (.jal 1 (-2)) ∧
  decodeBits 0 = none ∧ decodeBits (0x0C * 2 ^ 25) = none ∧ decodeBits (0x01 * 2 ^ 25 + 0x3FF) = none

/-- R364, R25, Tables 3.4, 15.2, 15.3, 17.1 and 17.2: what the machine holds at reset where the spec gives a value, and the invariant of the rotation.
-/
def Obligations.ResetState : Prop :=
  let s := State.reset
  s.Inv ∧ s.gtime = 0 ∧ s.regs.bootst = 0 ∧ s.regs.ascbase = 0 ∧ s.regs.habase = 0 ∧ s.regs.odoctl = 0x321 ∧ s.regs.eltail = 0 ∧ s.regs.ellost = 0 ∧
    (∀ pa, s.pbyte pa = 0) ∧ (∀ pa, s.code pa = 0) ∧ s.poison = [] ∧ (∀ pa, s.keyTag pa = 0) ∧
    (∀ q, (s.wqPage q).ctl = 0) ∧ s.fleet.pwrcap = 2200 ∧ s.fleet.scrubctl = 0x180001 ∧
    (∀ die unit, (s.capture die unit).min = 0xFFFFFFFF ∧ (s.capture die unit).per = 1 ∧ (s.capture die unit).ctl = 0x7FF00000000) ∧
    (∀ c, (s.core c).eie = false ∧ (s.core c).lmx = false ∧ (s.core c).trctl = false ∧ ∀ sl : Fin 16, (s.slot c sl).st = .empty) ∧
    s.launches = [] ∧ s.tasks = [] ∧ s.buffers = [] ∧ s.powered = true

/-- R1, R4 and R15: each turn moves the rotation to the next core, after the last one the time base counts one cycle, modulo 2^64, and the slot whose
turn it is is gtime modulo 16; an event moves neither, unless it takes or gives power; so every step keeps the invariant. Corners that are the model's
choice: log entry 8. -/
def Obligations.StepKeepsRotation : Prop :=
  (∀ s s' : State, s.Inv → step s = .next s' → s'.Inv) ∧
  (∀ s s' : State, atTurn s → step s = .next s' →
    (s.turn < 1535 → s'.turn = s.turn + 1 ∧ s'.gtime = s.gtime) ∧ (s.turn = 1535 → s'.turn = 0 ∧ s'.gtime = (s.gtime + 1) % 2 ^ 64) ∧
    s'.who.core = s'.turn ∧ s'.who.slot.val = s'.gtime % 16) ∧
  (∀ (s s' : State) (e : Event) (rest : List Event), s.agenda = e :: rest → step s = .next s' → s'.powered = s.powered →
    s'.turn = s.turn ∧ s'.gtime = s.gtime)

/-- R15, R17, R23, R94, R98, R147, R150, R181, R387 and R388: in its turn a thread in RUN, with no trap and no event due, executes the instruction
that the code bytes at its PC hold, once its turn is counted; a word that is none faults; code bytes that do not check are a machine check; code that
the core does not hold leaves the thread BUSY while it is fetched; an EMPTY slot's turn changes nothing; and an event in transit acts before any turn.
R21 and R94: the boundary's traps before an instruction, by priority: machine check, a posted operation's refusal, driver stop, timer; a parity error
also stops the launch of the thread, and those of the core that had work in the same pipeline or queue (R388; which they are is free). Corners that
are the model's choice: log entries 8, 9, 20, 53, 59, 63. -/
def Obligations.TurnsAndBoundaries : Prop :=
  (
  (∀ (s : State) (bs : List Byte), atTurn s → (s.at s.who).st = .run → quiet s → (s.at s.who).migrAt = none → codeOf s bs →
    (s.who.slot = 15 → (s.core s.turn).lmx = true → (s.core s.turn).lmxCount < 256) →
    (∀ sub a, brokenCode s bs = some (sub, a) → ∃ t, step s = .next (s.advanceTurn t) ∧ (t.at s.who).st = .trap ∧
      (s.who.slot ≠ 15 → (t.at s.who).cause = BitVec.ofNat 64 (0x20 + 256 * sub) ∧ (t.at s.who).tval = a ∧ (t.at s.who).epc = (s.th s.who).pc)) ∧
    (brokenCode s bs = none → (∀ i, reads s bs = some i →
      (∀ t, exec i (issuing s) = .next t → step s = .next (s.advanceTurn t)) ∧ (∀ r, exec i (issuing s) = .refused r → step s = .refused r)) ∧
    (reads s bs = none → step s = .next (s.advanceTurn ((issuing s).takeTrap s.who 0x01 false 0 (BitVec.ofNat 64 (natOf (bs.take 4)))
      (s.th s.who).pc false))))) ∧
  (∀ s : State, atTurn s → (s.at s.who).st = .run → quiet s → (∀ bs, ¬ codeOf s bs) → ∃ t, step s = .next (s.advanceTurn t) ∧
    (t.at s.who).st = .busy ∧ (t.at s.who).busy = .fetch ∧ (t.th s.who).pc = (s.th s.who).pc ∧
    t.agenda = [.instructionFetchFill s.who.core s.who.slot]) ∧
  (∀ s : State, atTurn s → (s.at s.who).st = .empty → step s = .next (s.advanceTurn s)) ∧
  (∀ (s t : State) (e : Event) (rest : List Event), s.agenda = e :: rest → exec e.row s = .next t → t.powered = s.powered →
    step s = .next { t with turn := s.turn, gtime := s.gtime })) ∧ (
  ∀ s : State, atTurn s → (s.at s.who).st = .run → (s.at s.who).deferred = [] →
    let x := s.at s.who
    let posts (e : Event) : Prop := step s = .next (s.advanceTurn { s with agenda := [e] })
    (∀ sub a, x.mcheck = some (sub, a) →
      let t := (s.upd s.who fun y => { y with mcheck := none }).takeTrap s.who 0x20 true sub a x.th.pc false
      let hit (n : Nat) : Bool := decide (x.launched = true ∧ x.task.launch = n) || Config.parityHits t.moment s.who.core n
      (sub ≠ 0x08 → step s = .next (s.advanceTurn t)) ∧
      (sub = 0x08 → step s = .next (s.advanceTurn (t.post
        (((t.launchesOn s.who.core).filter hit).map fun n => .launchStop n .fault (some ⟨3, 0x20, 8, 0x7FF, 0, 0, 0, a, 0, none⟩)))))) ∧
    (x.mcheck = none → x.refused ≠ [] → posts (.latticeRefusalTrap s.who.core s.who.slot)) ∧
    (x.mcheck = none → x.refused = [] → x.dstop = true → posts (.driverStop s.who.core s.who.slot)) ∧
    (x.mcheck = none → x.refused = [] → x.dstop = false → x.timer = true → posts (.timerPreemption s.who.core s.who.slot)))

/-- R14, R15 and R150: every instruction and every event answers a next state in every state: its own effect, a wait, or the trap that the rules name;
none raises a machine fault and none is refused. A step raises a fault only where the rotation stands at no core (a state that no run reaches).
Corners that are the model's choice: log entry 14. -/
def Obligations.OnlyRotationFaults : Prop :=
  (∀ (i : Instr) (s : State), ∃ t, exec i s = .next t) ∧ (∀ (e : Event) (s : State), ∃ t, fires e s = .next t) ∧ (∀ (s : State) (f : Fault), s.Inv → step s ≠ .fault f)

/-- R94 to R99 and R112: taking a trap saves its cause, tval and PC in the slot's own bank, leaves the slot in TRAP and every register as it was, and
queues the event for the system slot, a machine check at the head, or behind it where all 32 entries are taken; a migrate trap goes to the Derailleur;
a trap of the system slot ends the core. Returning puts the thread back in RUN at its epc. Corners that are the model's choice: log entry 27. -/
def Obligations.TrapEntryAndReturn : Prop :=
  ∀ (s : State) (w : Who) (code sub : Nat) (async insn : Bool) (tval epc : Word), code < 64 → sub < 256 →
    let t := s.takeTrap w code async sub tval epc insn
    let x := s.at w
    let y := t.at w
    (w.slot ≠ 15 →
      y.st = .trap ∧ y.cause = BitVec.ofNat 64 (code + (if async then 64 else 0) + 256 * sub) ∧ y.tval = tval ∧ y.epc = epc ∧ y.insn = insn ∧
      y.fromPark = (x.st == .park) ∧ y.th = x.th ∧ y.grbase = x.grbase ∧ y.grlen = x.grlen ∧ y.quantum = x.quantum ∧ y.lfpc = x.lfpc ∧
      (t.core w.core).events = (if code = 3 then (s.core w.core).events
        else if code = 0x20 ∧ (s.core w.core).events.length < 32 then SysEvent.trap w.slot :: (s.core w.core).events
        else if code = 0x20 then (s.core w.core).events.take 1 ++ SysEvent.trap w.slot :: (s.core w.core).events.drop 1
        else (s.core w.core).events ++ [.trap w.slot]) ∧
      (code = 3 → t.agenda = s.agenda ++ [.derailleurMigration w.core w.slot]) ∧
      (code ≠ 0x20 → t.mem = s.mem) ∧ ∀ c sl, ¬ (c = w.core ∧ sl = w.slot) → t.slot c sl = s.slot c sl) ∧
    (w.slot = 15 → y.st = .trap ∧ (t.core w.core).dead = true ∧ (t.core w.core).events = (s.core w.core).events ∧ y.th = x.th ∧
      ∀ n ∈ s.launchesOn w.core, ∃ r, Event.launchStop n .fault (some r) ∈ t.agenda ∧ r.sub = 7) ∧
    (let r := s.returnTrap w
     (r.at w).st = .run ∧ (r.at w).th = { x.th with pc := x.epc } ∧ r.mem = s.mem ∧ ∀ v, v ≠ w → v.core ≠ w.core ∨ v.slot ≠ w.slot → r.at v = s.at v)

/-- R24, R25, R60, R62, R63 and R158: what reading and writing a register does: g0, p0 and m0 are hard-wired; an unbound register keeps what was
written; a pop-bound one takes the next element of its buffer, waits on an empty one, and returns zero with its predicate set at the end of the
stream; a push-bound one appends an element to a buffer of the core it was bound on, or through the channel from that core; a binding used the other
way, or on a disabled buffer, is a CB fault. Corners that are the model's choice: log entry 59. -/
def Obligations.RegisterAccess : Prop :=
  (∀ (s : State) (w : Who) (n : Fin 32) (v : Word), s.readG w 0 = .ok (0, s) ∧ s.writeG w 0 v = s ∧
    (n ≠ 0 → (s.th w).binding n = none →
      s.readG w n = .ok ((s.th w).g[n], s) ∧ s.chkDst w n = .ok () ∧ ((s.writeG w n v).th w).g[n] = v ∧
        ∀ m : Fin 32, m ≠ n → ((s.writeG w n v).th w).g[m] = (s.th w).g[m]) ∧
    (n.val < 28 → (s.th w).binding n = none)) ∧
  (∀ (s : State) (w : Who) (n : Fin 32) (b : Binding), n ≠ 0 → (s.th w).binding n = some b →
    let q := s.cb b.core b.cb
    let faulted {α : Type} (x : M α) : Prop := x = .error (.trap 0x07 (BitVec.ofNat 64 (b.cb.val + 32 * (b.core % 2 ^ 11))) 0 none)
    let free : Prop := w.slot = 15 ∨ (s.core b.core).lmx = false
    (b.push = true → faulted (s.readG w n)) ∧ (b.push = false → faulted (s.chkDst w n)) ∧
    (b.push = false → q.en = false → faulted (s.readG w n)) ∧
    (b.push = false → q.en = true → q.filled = 0 → s.readG w n = .error (.park (.bound b.core b.cb false))) ∧
    (b.push = false → q.en = true → q.filled ≠ 0 → beforeToken q = some 0 → s.readG w n = .ok (0, s.updTh w fun t => t.setP b.pred true)) ∧
    (b.push = false → q.en = true → q.filled ≠ 0 → beforeToken q ≠ some 0 → free →
      let p := q.base + slotBytes q * q.cptr + 8 * q.popPos
      let next := if slotBytes q ≤ 8 * (q.popPos + 1) then advancedC q 1 else { q with popPos := q.popPos + 1 }
      (s.upsetIn b.core p 8 = false → s.spoiltIn b.core p 8 = [] → s.readG w n =
        .ok (BitVec.ofNat 64 (natOf (Mem.gets (s.core b.core).lmem p 8)), s.updCb b.core b.cb fun _ => next)) ∧
      (s.upsetIn b.core p 8 = true → s.readG w n = .error (.trap 0x20 0 0x02 none)) ∧
      (∀ g rest, s.upsetIn b.core p 8 = false → s.spoiltIn b.core p 8 = g :: rest →
        s.readG w n = .error (.trap 0x20 (BitVec.ofNat 64 (localVa (32 * g))) 0x01 none))) ∧
    let mine : Prop := (b.src = b.core ∧ q.pkind = 0) ∨ (b.src ≠ b.core ∧ q.pkind = 1 ∧ q.srccore = b.src)
    (b.push = true → q.en = false ∨ q.eos = true ∨ ¬ mine → faulted (s.chkDst w n)) ∧
    (b.push = true → q.en = true → q.eos = false → mine →
      (q.filled = slotsOf q → s.chkDst w n = .error (.park (.bound b.core b.cb true))) ∧
      (q.filled ≠ slotsOf q → free → s.chkDst w n = .ok () ∧ ∀ v, let t := s.writeG w n v
        let p := q.base + slotBytes q * q.pptr + 8 * q.pushPos
        t.cb b.core b.cb = (if slotBytes q ≤ 8 * (q.pushPos + 1) then advancedP q 1 else { q with pushPos := q.pushPos + 1 }) ∧
          natOf (Mem.gets (t.core b.core).lmem p 8) = v.toNat ∧
          ∀ off, off < p ∨ p + 8 ≤ off → Mem.get (t.core b.core).lmem off = Mem.get (s.core b.core).lmem off))) ∧
  (∀ (t : Thread) (n m : Fin 16) (b : Bool), t.getP 0 = true ∧ t.setP 0 b = t ∧ (n ≠ 0 → (t.setP n b).getP m = if m = n then b else t.getP m)) ∧
  (∀ (s : State) (w : Who) (n m : Fin 8) (x : Nat), s.readM w 0 = 2 ^ vlenB w.core - 1 ∧ s.writeM w 0 x = s ∧
    (n ≠ 0 → (s.writeM w n x).readM w m = if m = n then x % 2 ^ vlenB w.core else s.readM w m)) ∧
  (∀ (s : State) (w : Who) (n m : Fin 16) (x : Nat), (s.writeV w n x).readV w m = if m = n then x % 2 ^ (8 * vlenB w.core) else s.readV w m)

/-- R3, R6, R76, R342, R367 and R389: a write of physical or local memory is read back byte by byte, least significant byte first, and every other
byte reads as before; a whole granule written loses its poison; an unpopulated address keeps nothing. R388: a thread's read that meets an
uncorrectable error of a local-memory word is a machine check with SUB 0x02, and a word written whole loses it; one that meets a granule of local
memory whose check code does not match is one with SUB 0x01 (R387); and a read in an L2 slice meets its uncorrectable errors alike. Corners that are
the model's choice: log entries 7, 59. -/
def Obligations.MemoryAccess : Prop :=
  (∀ (s : State) (pa a : Nat) (bs : List Byte), populated pa = true →
    (s.pwrite pa bs).pbyte a = if pa ≤ a ∧ a < pa + bs.length then bs.getD (a - pa) 0 else s.pbyte a) ∧
  (∀ (s : State) (pa : Nat) (bs : List Byte), populated pa = false → s.pwrite pa bs = s) ∧
  (∀ (s : State) (pa : Nat) (bs : List Byte), populated pa = true → pa % 32 = 0 → bs.length = 32 → s.poison.Nodup → pa / 32 ∉ (s.pwrite pa bs).poison) ∧
  (∀ (s : State) (c off c' a : Nat) (bs : List Byte), Mem.get ((s.lwrite c off bs).core c').lmem a =
    if c' = c ∧ off ≤ a ∧ a < off + bs.length then bs.getD (a - off) 0 else Mem.get (s.core c').lmem a) ∧
  (∀ (s : State) (c off n : Nat) (bs : List Byte),
    s.readAt (.loc c off) n = (if s.upsetIn c off n = true then .error (.trap 0x20 0 0x02 none) else match s.spoiltIn c off n with
      | [] => .ok (s.lread c off n)
      | g :: _ => .error (.trap 0x20 (BitVec.ofNat 64 (localVa (32 * g))) 0x01 none)) ∧
    (bs.length = 8 → off % 8 = 0 → (s.lwrite c off bs).upsetIn c off 8 = false) ∧
    (∀ x, x ∈ ((s.lwrite c off bs).core c).upset ↔ x ∈ (s.core c).upset ∧ ¬ (off ≤ 8 * x ∧ 8 * x + 8 ≤ off + bs.length)) ∧
    ∀ x, x ∈ ((s.lwrite c off bs).core c).spoilt ↔ x ∈ (s.core c).spoilt ∧ ¬ (off ≤ 32 * x ∧ 32 * x + 32 ≤ off + bs.length)) ∧
  (∀ (s : State) (x : Xlat) (n : Nat), populated x.pa = true → s.badIn x.pa n = [] →
    s.readAt (.mem x) n = (if ∃ k ∈ s.upsets, k.1 = Sram.l2 x.home ∧ x.pa / 8 ≤ k.2 ∧ 8 * k.2 < x.pa + n then .error (.trap 0x20 0 0x02 none)
      else .ok (s.pread x.pa n))) ∧
  (∀ (s : State) (w : Who) (c off a : Nat) (bs : List Byte), Mem.get ((s.storeAt w (.loc c off) bs).core c).lmem a =
    if off ≤ a ∧ a < off + bs.length then bs.getD (a - off) 0 else Mem.get (s.core c).lmem a) ∧
  (∀ (n x : Nat), (bytesOf n x).length = n ∧ natOf (bytesOf n x) = x % 256 ^ n) ∧ natOf [0x11, 0x22, 0x33] = 0x332211

/-- R17, R158 and R163 to R170: the frame of the register-only instructions over unbound registers: no byte of memory, no other thread, no control
register changes, and of the issuing thread only g(d) and the PC. R159, R182 to R185, R189, R190, R260 to R262 and R308: the frame of the loads,
stores and private atomics, scalar and vector, untraced and over unbound registers, where no trap is taken: a store or an atomic changes no byte but
the bytes it stores, at the places its addresses name, and a load none; of the registers, loads and atomics change g(d), a vector load vd, a shaped
access its record; nothing else of the thread changes but its PC. -/
def Obligations.Frames : Prop :=
  (
  ∀ (d a b : Fin 32) (v : BitVec 15) (n : Fin 64) (k : Fin 32) (z : Word → Word → Word), ∀ i ∈ registerOnly d a b v n k z, ∀ (s t : State),
    (∀ r ∈ [d, a, b], (s.th s.who).binding r = none) → exec i s = .next t →
    sameMemory s t ∧ sameAround s t s.who ∧ sameThread s t s.who d) ∧ (
  ∀ (s t : State) (d a b : Fin 32), (∀ r ∈ [d, a, b], (s.th s.who).binding r = none) → (s.core s.who.core).trctl = false →
    let reg (r : Fin 32) : Word := if r = 0 then 0 else (s.th s.who).g[r]
    let off (o : BitVec 12) (n : Nat) : Word := BitVec.ofInt 64 ((reg a).toNat + o.toInt * n)
    let index (n : Nat) : Word := BitVec.ofInt 64 ((reg a).toNat + (reg b).toInt * n)
    (∀ (z : Sz) (o : BitVec 12), LoadFrame (.ld d a z o) s t [d] [] ∧ StoreFrame (.st d a z o) s t [] .store (bytesZ z) [off o (bytesZ z)]) ∧
    (∀ (z : SzN) (o : BitVec 12), LoadFrame (.ldn d a z o) s t [d] []) ∧
    (∀ z : SzX, LoadFrame (.ldx d a b z) s t [d] []) ∧
    (∀ z : Sz, StoreFrame (.stx d a b z) s t [] .store (bytesZ z) [index (bytesZ z)]) ∧
    (∀ f ∈ amoForms, ∀ z : SzA, StoreFrame (f.1 d a b z) s t [d] .atomic (bytesA z) [reg a]) ∧
    (∀ (v g b : Fin 16) (n m : Fin 8) (e : EType), let es := e.size
      let h := (s.th s.who).sh[n]
      let unitStride (k : Nat) : Word := BitVec.ofNat 64 ((reg16 s g).toNat + k * es)
      let indexed (k : Nat) : Word := BitVec.ofInt 64 ((reg16 s g).toNat + es * sext (8 * es) (vel s es b k))
      let walk (k : Nat) : Word := shAddr h ((shPos h + k) % shPeriod h) es
      LoadFrame (.vld v g m e) s t [] [v] ∧ LoadFrame (.vldx v g b m e) s t [] [v] ∧ LoadFrame (.vlds v n m e) s t [] [v] ∧
      StoreFrame (.vst v g m e) s t [] .store es ((actives s m).map unitStride) ∧ StoreFrame (.vstx v g b m e) s t [] .store es ((actives s m).map indexed) ∧
      StoreFrame (.vsts v n m e) s t [] .store es ((actives s m).map walk)))

/-- R128, R135 and R137: the block sum of FP8 and FP4 operands is exact; a hop gives the same block whichever of its two blocks came in, its growth is
at least that of either, and no element of it passes 448. R117 and R124: in each format of Table 5.1, rounding the value of an encoding gives that
encoding back, in every mode, and a NaN becomes the format's canonical one. Corners that are the model's choice: log entry 54. -/
def Obligations.NumberFormatsAndBlocks : Prop :=
  (
  (∀ ps : List (Val × Val), (∀ p ∈ ps, smallVal p.1 ∧ smallVal p.2) → ∃ sg n d, blockSum ps = .fin sg n d ∧ 0 < d ∧
    ratOf (.fin sg n d) = (ps.map fun p => ratOf p.1 * ratOf p.2).sum) ∧
  (∀ (ga gb : Nat) (ea eb : List Nat), ea.length = eb.length → (∀ x ∈ ea ++ eb, x < 256) → ga ≤ 7 → gb ≤ 7 →
    hop ga ea gb eb = hop gb eb ga ea ∧
    ∀ (g : Nat) (es : List Nat), hop ga ea gb eb = .ok (g, es) → ga ≤ g ∧ gb ≤ g ∧ g ≤ 7 ∧ es.length = ea.length ∧ (∀ x ∈ es, -229376 ≤ elemUnits x ∧ elemUnits x ≤ 229376) ∧
      (∀ (i a b e : Nat), ea[i]? = some a → eb[i]? = some b → es[i]? = some e → ((elemNan a = true ∨ elemNan b = true) → e = 0x7F) ∧
        (elemNan a = false → elemNan b = false → elemNan e = false)))) ∧ (
  ∀ f ∈ [fp64, fp32, fp16, bf16, e5m2, e4m3, e2m1], ∀ (m : RMode) (x : Nat), x < 2 ^ f.width →
    ((f.decode x).isNan = false → f.round m (f.decode x) = x) ∧ (f.hasNan = true → f.round m .nan = f.nan))
end

