-- ==== Sys2Proof/Laws/Tables.lean ====
section
/-! SUPPORT. Sparse tables and byte memories: a read after a write, and the canonical form, which every memory operation keeps and the memories
of the reset state have. -/

namespace Sys2Proof

/-! ## Tables -/

theorem Tbl.find?_put {α : Type} (t : Tbl α) (k j : Nat) (v : α) : (t.put k v).find? j = if j = k then some v else t.find? j := by
  induction t with
  | nil => grind [Tbl.put, Tbl.find?]
  | cons c t ih => obtain ⟨k', v'⟩ := c; grind [Tbl.put, Tbl.find?]

theorem Tbl.find?_del {α : Type} (t : Tbl α) (k j : Nat) : (t.del k).find? j = if j = k then none else t.find? j := by
  induction t with
  | nil => grind [Tbl.del, Tbl.find?]
  | cons c t ih => obtain ⟨k', v'⟩ := c; grind [Tbl.del, Tbl.find?]

/-- A key that a table does not list reads as the default. -/
theorem Tbl.getD_absent {α : Type} (t : Tbl α) (k : Nat) (d : α) (h : k ∉ t.map Prod.fst) : t.getD k d = d := by
  induction t with
  | nil => rfl
  | cons p t ih =>
    simp only [List.map_cons, List.mem_cons, not_or] at h
    simp only [Tbl.getD, Tbl.find?, if_neg (Ne.symm h.1)]
    exact ih h.2

theorem Tbl.getD_put {α : Type} (t : Tbl α) (k j : Nat) (v d : α) : (t.put k v).getD j d = if j = k then v else t.getD j d := by
  simp only [Tbl.getD, Tbl.find?_put]
  split <;> rfl

theorem Tbl.getD_del {α : Type} (t : Tbl α) (k j : Nat) (d : α) : (t.del k).getD j d = if j = k then d else t.getD j d := by
  simp only [Tbl.getD, Tbl.find?_del]
  split <;> rfl

end Sys2Proof

namespace Sys2Proof.Machine

/-! ## Byte memories -/

/-- A byte reads as written, every other byte as before. -/
theorem Mem.get_set (m : List Host.Cell) (a x : Nat) (b : Byte) : Mem.get (Mem.set m a b) x = if x = a then b else Mem.get m x := by
  induction m with
  | nil => grind [Mem.set, Mem.get]
  | cons c m ih => obtain ⟨a', b'⟩ := c; grind [Mem.set, Mem.get]

/-- A write of several bytes: those in its range read as written, every other byte as before. -/
theorem Mem.get_sets (m : List Host.Cell) (a x : Nat) (bs : List Byte) :
    Mem.get (Mem.sets m a bs) x = if h : a ≤ x ∧ x - a < bs.length then bs[x - a]'h.2 else Mem.get m x := by
  induction bs generalizing m a with
  | nil => simp [Mem.sets]
  | cons b bs ih =>
    rw [Mem.sets, ih, Mem.get_set]
    by_cases hx : x = a
    · subst hx; simp
    · by_cases h : a + 1 ≤ x ∧ x - (a + 1) < bs.length
      · have h2 : a ≤ x ∧ x - a < (b :: bs).length := by simp; omega
        have h3 : x - a = x - (a + 1) + 1 := by omega
        simp [h, h2, h3]
      · have h2 : ¬(a ≤ x ∧ x - a < (b :: bs).length) := by simp; omega
        rw [dif_neg h, dif_neg h2, if_neg hx]

theorem Mem.gets_length (m : List Host.Cell) (a n : Nat) : (Mem.gets m a n).length = n := by
  induction n generalizing a with
  | zero => rfl
  | succ n ih => simp [Mem.gets, ih]

/-- A span that a write does not touch reads as before. -/
theorem Mem.gets_sets_disjoint (m : List Host.Cell) (a x n : Nat) (bs : List Byte) (h : x + n ≤ a ∨ a + bs.length ≤ x) :
    Mem.gets (Mem.sets m a bs) x n = Mem.gets m x n := by
  induction n generalizing x with
  | zero => rfl
  | succ n ih => rw [Mem.gets, Mem.gets, ih (x + 1) (by omega), Mem.get_sets, dif_neg (by omega)]

/-- A span reads as it was written. -/
theorem Mem.gets_sets_same (m : List Host.Cell) (a : Nat) (bs : List Byte) : Mem.gets (Mem.sets m a bs) a bs.length = bs := by
  induction bs generalizing m a with
  | nil => rfl
  | cons b bs ih =>
    rw [List.length_cons, Mem.gets, Mem.sets, ih, Mem.get_sets, dif_neg (by omega), Mem.get_set, if_pos rfl]

theorem Mem.wfFrom_mono {lo lo' : Nat} (h : lo' ≤ lo) {m : List Host.Cell} (hm : Mem.wfFrom lo m) : Mem.wfFrom lo' m := by
  cases m <;> grind [Mem.wfFrom]

theorem Mem.set_zero_below {m : List Host.Cell} {lo a : Nat} (ha : a < lo) (h : Mem.wfFrom lo m) : Mem.set m a 0 = m := by
  induction m generalizing lo with
  | nil => grind [Mem.set]
  | cons c m ih => obtain ⟨a', b'⟩ := c; grind [Mem.set, Mem.wfFrom]

theorem Mem.wfFrom_set {m : List Host.Cell} {lo a : Nat} {b : Byte} (ha : lo ≤ a) (h : Mem.wfFrom lo m) : Mem.wfFrom lo (Mem.set m a b) := by
  induction m generalizing lo with
  | nil => grind [Mem.set, Mem.wfFrom]
  | cons c m ih =>
    obtain ⟨a', b'⟩ := c
    by_cases h0 : b = 0
    · subst h0
      have hm : Mem.wfFrom (a' + 1) m := by grind [Mem.wfFrom]
      have hle : lo ≤ a' + 1 := by grind [Mem.wfFrom]
      by_cases h1 : a' = a
      · subst h1
        have := Mem.set_zero_below (Nat.lt_succ_self a') hm
        have := Mem.wfFrom_mono hle hm
        grind [Mem.set]
      · by_cases h2 : a < a'
        · have := Mem.set_zero_below (show a < a' + 1 by omega) hm
          grind [Mem.set, Mem.wfFrom]
        · grind [Mem.set, Mem.wfFrom]
    · grind [Mem.set, Mem.wfFrom]

/-- A write of one byte keeps the canonical form. -/
theorem Mem.wf_set {m : List Host.Cell} (h : Mem.wf m) (a : Nat) (b : Byte) : Mem.wf (Mem.set m a b) := Mem.wfFrom_set (Nat.zero_le a) h

/-- A write of several bytes keeps the canonical form. -/
theorem Mem.wf_sets {m : List Host.Cell} (h : Mem.wf m) (a : Nat) (bs : List Byte) : Mem.wf (Mem.sets m a bs) := by
  induction bs generalizing m a with
  | nil => exact h
  | cons b bs ih => exact ih (Mem.wf_set h a b) (a + 1)

/-- Two memories in canonical form that read alike at every address are the same list. -/
theorem Mem.eq_of_get {lo : Nat} {m m' : List Host.Cell} (h : Mem.wfFrom lo m) (h' : Mem.wfFrom lo m') (he : ∀ a, Mem.get m a = Mem.get m' a) :
    m = m' := by
  have low : ∀ {lo : Nat} {m : List Host.Cell} {a : Nat}, Mem.wfFrom lo m → a < lo → Mem.get m a = 0 := by
    intro lo m a hm ha
    induction m generalizing lo with
    | nil => rfl
    | cons c m ih => obtain ⟨a', b'⟩ := c; grind [Mem.get, Mem.wfFrom]
  induction m generalizing lo m' with
  | nil =>
    cases m' with
    | nil => rfl
    | cons c m' => obtain ⟨a', b'⟩ := c; have := he a'; grind [Mem.get, Mem.wfFrom]
  | cons c m ih =>
    obtain ⟨a, b⟩ := c
    cases m' with
    | nil => have := he a; grind [Mem.get, Mem.wfFrom]
    | cons c' m' =>
      obtain ⟨a', b'⟩ := c'
      have hm : Mem.wfFrom (a + 1) m := by grind [Mem.wfFrom]
      have hm' : Mem.wfFrom (a' + 1) m' := by grind [Mem.wfFrom]
      have hb : b ≠ 0 := by grind [Mem.wfFrom]
      have hb' : b' ≠ 0 := by grind [Mem.wfFrom]
      have haa : a = a' := by
        rcases Nat.lt_trichotomy a a' with hlt | heq | hgt
        · have h1 := he a
          have h2 : Mem.get m' a = 0 := low hm' (by omega)
          grind [Mem.get]
        · exact heq
        · have h1 := he a'
          have h2 : Mem.get m a' = 0 := low hm (by omega)
          grind [Mem.get]
      subst haa
      have hbb : b = b' := by have := he a; simpa [Mem.get] using this
      subst hbb
      have : m = m' := by
        refine ih hm hm' fun x => ?_
        by_cases hx : x = a
        · subst hx; rw [low hm (by omega), low hm' (by omega)]
        · have := he x; grind [Mem.get]
      rw [this]

/-- The memories of the reset state are in canonical form. -/
theorem Mem.wf_reset : Mem.wf State.reset.mem = true ∧ ∀ c, Mem.wf (State.reset.core c).lmem = true := ⟨rfl, fun _ => rfl⟩

end Sys2Proof.Machine
end

