-- ==== Sys2Proof/Laws/State.lean ====
section
/-! SUPPORT. One lemma per field of the state and per update, so that a proof never unfolds a record update; what a slot, a core and a thread
read as after one of them has changed. -/

namespace Sys2Proof.Machine

/-! ### `State.setCore` -/

@[simp] theorem State.setCore_gtime (s : State) (c : Nat) (k : Core) : (s.setCore c k).gtime = s.gtime := rfl
@[simp] theorem State.setCore_turn (s : State) (c : Nat) (k : Core) : (s.setCore c k).turn = s.turn := rfl
@[simp] theorem State.setCore_agenda (s : State) (c : Nat) (k : Core) : (s.setCore c k).agenda = s.agenda := rfl
@[simp] theorem State.setCore_free (s : State) (c : Nat) (k : Core) : (s.setCore c k).free = s.free := rfl
@[simp] theorem State.setCore_powered (s : State) (c : Nat) (k : Core) : (s.setCore c k).powered = s.powered := rfl
@[simp] theorem State.setCore_bootFail (s : State) (c : Nat) (k : Core) : (s.setCore c k).bootFail = s.bootFail := rfl
@[simp] theorem State.setCore_mem (s : State) (c : Nat) (k : Core) : (s.setCore c k).mem = s.mem := rfl
@[simp] theorem State.setCore_codes (s : State) (c : Nat) (k : Core) : (s.setCore c k).codes = s.codes := rfl
@[simp] theorem State.setCore_poison (s : State) (c : Nat) (k : Core) : (s.setCore c k).poison = s.poison := rfl
@[simp] theorem State.setCore_upsets (s : State) (c : Nat) (k : Core) : (s.setCore c k).upsets = s.upsets := rfl
@[simp] theorem State.setCore_gkey (s : State) (c : Nat) (k : Core) : (s.setCore c k).gkey = s.gkey := rfl
@[simp] theorem State.setCore_keyVer (s : State) (c : Nat) (k : Core) : (s.setCore c k).keyVer = s.keyVer := rfl
@[simp] theorem State.setCore_mxus (s : State) (c : Nat) (k : Core) : (s.setCore c k).mxus = s.mxus := rfl
@[simp] theorem State.setCore_tasks (s : State) (c : Nat) (k : Core) : (s.setCore c k).tasks = s.tasks := rfl
@[simp] theorem State.setCore_launches (s : State) (c : Nat) (k : Core) : (s.setCore c k).launches = s.launches := rfl
@[simp] theorem State.setCore_nextKey (s : State) (c : Nat) (k : Core) : (s.setCore c k).nextKey = s.nextKey := rfl
@[simp] theorem State.setCore_nextNum (s : State) (c : Nat) (k : Core) : (s.setCore c k).nextNum = s.nextNum := rfl
@[simp] theorem State.setCore_arenas (s : State) (c : Nat) (k : Core) : (s.setCore c k).arenas = s.arenas := rfl
@[simp] theorem State.setCore_buffers (s : State) (c : Nat) (k : Core) : (s.setCore c k).buffers = s.buffers := rfl
@[simp] theorem State.setCore_nextHandle (s : State) (c : Nat) (k : Core) : (s.setCore c k).nextHandle = s.nextHandle := rfl
@[simp] theorem State.setCore_hostPages (s : State) (c : Nat) (k : Core) : (s.setCore c k).hostPages = s.hostPages := rfl
@[simp] theorem State.setCore_reported (s : State) (c : Nat) (k : Core) : (s.setCore c k).reported = s.reported := rfl
@[simp] theorem State.setCore_spillBits (s : State) (c : Nat) (k : Core) : (s.setCore c k).spillBits = s.spillBits := rfl
@[simp] theorem State.setCore_ready (s : State) (c : Nat) (k : Core) : (s.setCore c k).ready = s.ready := rfl
@[simp] theorem State.setCore_steals (s : State) (c : Nat) (k : Core) : (s.setCore c k).steals = s.steals := rfl
@[simp] theorem State.setCore_stealing (s : State) (c : Nat) (k : Core) : (s.setCore c k).stealing = s.stealing := rfl
@[simp] theorem State.setCore_hostMsgs (s : State) (c : Nat) (k : Core) : (s.setCore c k).hostMsgs = s.hostMsgs := rfl
@[simp] theorem State.setCore_tcache (s : State) (c : Nat) (k : Core) : (s.setCore c k).tcache = s.tcache := rfl
@[simp] theorem State.setCore_rdc (s : State) (c : Nat) (k : Core) : (s.setCore c k).rdc = s.rdc := rfl
@[simp] theorem State.setCore_wq (s : State) (c : Nat) (k : Core) : (s.setCore c k).wq = s.wq := rfl
@[simp] theorem State.setCore_regs (s : State) (c : Nat) (k : Core) : (s.setCore c k).regs = s.regs := rfl
@[simp] theorem State.setCore_fleet (s : State) (c : Nat) (k : Core) : (s.setCore c k).fleet = s.fleet := rfl
@[simp] theorem State.setCore_links (s : State) (c : Nat) (k : Core) : (s.setCore c k).links = s.links := rfl
@[simp] theorem State.setCore_captures (s : State) (c : Nat) (k : Core) : (s.setCore c k).captures = s.captures := rfl
@[simp] theorem State.setCore_counted (s : State) (c : Nat) (k : Core) : (s.setCore c k).counted = s.counted := rfl
@[simp] theorem State.setCore_cutDies (s : State) (c : Nat) (k : Core) : (s.setCore c k).cutDies = s.cutDies := rfl
@[simp] theorem State.setCore_buckets (s : State) (c : Nat) (k : Core) : (s.setCore c k).buckets = s.buckets := rfl
@[simp] theorem State.setCore_early (s : State) (c : Nat) (k : Core) : (s.setCore c k).early = s.early := rfl
@[simp] theorem State.setCore_sentBlocks (s : State) (c : Nat) (k : Core) : (s.setCore c k).sentBlocks = s.sentBlocks := rfl
@[simp] theorem State.setCore_portWait (s : State) (c : Nat) (k : Core) : (s.setCore c k).portWait = s.portWait := rfl
@[simp] theorem State.setCore_latWait (s : State) (c : Nat) (k : Core) : (s.setCore c k).latWait = s.latWait := rfl
@[simp] theorem State.setCore_sweep (s : State) (c : Nat) (k : Core) : (s.setCore c k).sweep = s.sweep := rfl
@[simp] theorem State.setCore_sweepAt (s : State) (c : Nat) (k : Core) : (s.setCore c k).sweepAt = s.sweepAt := rfl
@[simp] theorem State.setCore_flits (s : State) (c : Nat) (k : Core) : (s.setCore c k).flits = s.flits := rfl
@[simp] theorem State.setCore_sentFlits (s : State) (c : Nat) (k : Core) : (s.setCore c k).sentFlits = s.sentFlits := rfl
@[simp] theorem State.setCore_flitWait (s : State) (c : Nat) (k : Core) : (s.setCore c k).flitWait = s.flitWait := rfl
@[simp] theorem State.setCore_digest (s : State) (c : Nat) (k : Core) : (s.setCore c k).digest = s.digest := rfl
@[simp] theorem State.setCore_sentDigests (s : State) (c : Nat) (k : Core) : (s.setCore c k).sentDigests = s.sentDigests := rfl
@[simp] theorem State.setCore_heldDigests (s : State) (c : Nat) (k : Core) : (s.setCore c k).heldDigests = s.heldDigests := rfl
@[simp] theorem State.setCore_peers (s : State) (c : Nat) (k : Core) : (s.setCore c k).peers = s.peers := rfl
@[simp] theorem State.setCore_errClasses (s : State) (c : Nat) (k : Core) : (s.setCore c k).errClasses = s.errClasses := rfl
@[simp] theorem State.setCore_msixTable (s : State) (c : Nat) (k : Core) : (s.setCore c k).msixTable = s.msixTable := rfl
@[simp] theorem State.setCore_msixPending (s : State) (c : Nat) (k : Core) : (s.setCore c k).msixPending = s.msixPending := rfl
@[simp] theorem State.setCore_measures (s : State) (c : Nat) (k : Core) : (s.setCore c k).measures = s.measures := rfl
@[simp] theorem State.setCore_spdm (s : State) (c : Nat) (k : Core) : (s.setCore c k).spdm = s.spdm := rfl
@[simp] theorem State.setCore_hostRead (s : State) (c : Nat) (k : Core) : (s.setCore c k).hostRead = s.hostRead := rfl
@[simp] theorem State.setCore_throttled (s : State) (c : Nat) (k : Core) : (s.setCore c k).throttled = s.throttled := rfl
@[simp] theorem State.setCore_who (s : State) (c : Nat) (k : Core) : (s.setCore c k).who = s.who := rfl

/-! ### `State.updCore` -/

@[simp] theorem State.updCore_gtime (s : State) (c : Nat) (f : Core → Core) : (s.updCore c f).gtime = s.gtime := rfl
@[simp] theorem State.updCore_turn (s : State) (c : Nat) (f : Core → Core) : (s.updCore c f).turn = s.turn := rfl
@[simp] theorem State.updCore_agenda (s : State) (c : Nat) (f : Core → Core) : (s.updCore c f).agenda = s.agenda := rfl
@[simp] theorem State.updCore_free (s : State) (c : Nat) (f : Core → Core) : (s.updCore c f).free = s.free := rfl
@[simp] theorem State.updCore_powered (s : State) (c : Nat) (f : Core → Core) : (s.updCore c f).powered = s.powered := rfl
@[simp] theorem State.updCore_bootFail (s : State) (c : Nat) (f : Core → Core) : (s.updCore c f).bootFail = s.bootFail := rfl
@[simp] theorem State.updCore_mem (s : State) (c : Nat) (f : Core → Core) : (s.updCore c f).mem = s.mem := rfl
@[simp] theorem State.updCore_codes (s : State) (c : Nat) (f : Core → Core) : (s.updCore c f).codes = s.codes := rfl
@[simp] theorem State.updCore_poison (s : State) (c : Nat) (f : Core → Core) : (s.updCore c f).poison = s.poison := rfl
@[simp] theorem State.updCore_upsets (s : State) (c : Nat) (f : Core → Core) : (s.updCore c f).upsets = s.upsets := rfl
@[simp] theorem State.updCore_gkey (s : State) (c : Nat) (f : Core → Core) : (s.updCore c f).gkey = s.gkey := rfl
@[simp] theorem State.updCore_keyVer (s : State) (c : Nat) (f : Core → Core) : (s.updCore c f).keyVer = s.keyVer := rfl
@[simp] theorem State.updCore_mxus (s : State) (c : Nat) (f : Core → Core) : (s.updCore c f).mxus = s.mxus := rfl
@[simp] theorem State.updCore_tasks (s : State) (c : Nat) (f : Core → Core) : (s.updCore c f).tasks = s.tasks := rfl
@[simp] theorem State.updCore_launches (s : State) (c : Nat) (f : Core → Core) : (s.updCore c f).launches = s.launches := rfl
@[simp] theorem State.updCore_nextKey (s : State) (c : Nat) (f : Core → Core) : (s.updCore c f).nextKey = s.nextKey := rfl
@[simp] theorem State.updCore_nextNum (s : State) (c : Nat) (f : Core → Core) : (s.updCore c f).nextNum = s.nextNum := rfl
@[simp] theorem State.updCore_arenas (s : State) (c : Nat) (f : Core → Core) : (s.updCore c f).arenas = s.arenas := rfl
@[simp] theorem State.updCore_buffers (s : State) (c : Nat) (f : Core → Core) : (s.updCore c f).buffers = s.buffers := rfl
@[simp] theorem State.updCore_nextHandle (s : State) (c : Nat) (f : Core → Core) : (s.updCore c f).nextHandle = s.nextHandle := rfl
@[simp] theorem State.updCore_hostPages (s : State) (c : Nat) (f : Core → Core) : (s.updCore c f).hostPages = s.hostPages := rfl
@[simp] theorem State.updCore_reported (s : State) (c : Nat) (f : Core → Core) : (s.updCore c f).reported = s.reported := rfl
@[simp] theorem State.updCore_spillBits (s : State) (c : Nat) (f : Core → Core) : (s.updCore c f).spillBits = s.spillBits := rfl
@[simp] theorem State.updCore_ready (s : State) (c : Nat) (f : Core → Core) : (s.updCore c f).ready = s.ready := rfl
@[simp] theorem State.updCore_steals (s : State) (c : Nat) (f : Core → Core) : (s.updCore c f).steals = s.steals := rfl
@[simp] theorem State.updCore_stealing (s : State) (c : Nat) (f : Core → Core) : (s.updCore c f).stealing = s.stealing := rfl
@[simp] theorem State.updCore_hostMsgs (s : State) (c : Nat) (f : Core → Core) : (s.updCore c f).hostMsgs = s.hostMsgs := rfl
@[simp] theorem State.updCore_tcache (s : State) (c : Nat) (f : Core → Core) : (s.updCore c f).tcache = s.tcache := rfl
@[simp] theorem State.updCore_rdc (s : State) (c : Nat) (f : Core → Core) : (s.updCore c f).rdc = s.rdc := rfl
@[simp] theorem State.updCore_wq (s : State) (c : Nat) (f : Core → Core) : (s.updCore c f).wq = s.wq := rfl
@[simp] theorem State.updCore_regs (s : State) (c : Nat) (f : Core → Core) : (s.updCore c f).regs = s.regs := rfl
@[simp] theorem State.updCore_fleet (s : State) (c : Nat) (f : Core → Core) : (s.updCore c f).fleet = s.fleet := rfl
@[simp] theorem State.updCore_links (s : State) (c : Nat) (f : Core → Core) : (s.updCore c f).links = s.links := rfl
@[simp] theorem State.updCore_captures (s : State) (c : Nat) (f : Core → Core) : (s.updCore c f).captures = s.captures := rfl
@[simp] theorem State.updCore_counted (s : State) (c : Nat) (f : Core → Core) : (s.updCore c f).counted = s.counted := rfl
@[simp] theorem State.updCore_cutDies (s : State) (c : Nat) (f : Core → Core) : (s.updCore c f).cutDies = s.cutDies := rfl
@[simp] theorem State.updCore_buckets (s : State) (c : Nat) (f : Core → Core) : (s.updCore c f).buckets = s.buckets := rfl
@[simp] theorem State.updCore_early (s : State) (c : Nat) (f : Core → Core) : (s.updCore c f).early = s.early := rfl
@[simp] theorem State.updCore_sentBlocks (s : State) (c : Nat) (f : Core → Core) : (s.updCore c f).sentBlocks = s.sentBlocks := rfl
@[simp] theorem State.updCore_portWait (s : State) (c : Nat) (f : Core → Core) : (s.updCore c f).portWait = s.portWait := rfl
@[simp] theorem State.updCore_latWait (s : State) (c : Nat) (f : Core → Core) : (s.updCore c f).latWait = s.latWait := rfl
@[simp] theorem State.updCore_sweep (s : State) (c : Nat) (f : Core → Core) : (s.updCore c f).sweep = s.sweep := rfl
@[simp] theorem State.updCore_sweepAt (s : State) (c : Nat) (f : Core → Core) : (s.updCore c f).sweepAt = s.sweepAt := rfl
@[simp] theorem State.updCore_flits (s : State) (c : Nat) (f : Core → Core) : (s.updCore c f).flits = s.flits := rfl
@[simp] theorem State.updCore_sentFlits (s : State) (c : Nat) (f : Core → Core) : (s.updCore c f).sentFlits = s.sentFlits := rfl
@[simp] theorem State.updCore_flitWait (s : State) (c : Nat) (f : Core → Core) : (s.updCore c f).flitWait = s.flitWait := rfl
@[simp] theorem State.updCore_digest (s : State) (c : Nat) (f : Core → Core) : (s.updCore c f).digest = s.digest := rfl
@[simp] theorem State.updCore_sentDigests (s : State) (c : Nat) (f : Core → Core) : (s.updCore c f).sentDigests = s.sentDigests := rfl
@[simp] theorem State.updCore_heldDigests (s : State) (c : Nat) (f : Core → Core) : (s.updCore c f).heldDigests = s.heldDigests := rfl
@[simp] theorem State.updCore_peers (s : State) (c : Nat) (f : Core → Core) : (s.updCore c f).peers = s.peers := rfl
@[simp] theorem State.updCore_errClasses (s : State) (c : Nat) (f : Core → Core) : (s.updCore c f).errClasses = s.errClasses := rfl
@[simp] theorem State.updCore_msixTable (s : State) (c : Nat) (f : Core → Core) : (s.updCore c f).msixTable = s.msixTable := rfl
@[simp] theorem State.updCore_msixPending (s : State) (c : Nat) (f : Core → Core) : (s.updCore c f).msixPending = s.msixPending := rfl
@[simp] theorem State.updCore_measures (s : State) (c : Nat) (f : Core → Core) : (s.updCore c f).measures = s.measures := rfl
@[simp] theorem State.updCore_spdm (s : State) (c : Nat) (f : Core → Core) : (s.updCore c f).spdm = s.spdm := rfl
@[simp] theorem State.updCore_hostRead (s : State) (c : Nat) (f : Core → Core) : (s.updCore c f).hostRead = s.hostRead := rfl
@[simp] theorem State.updCore_throttled (s : State) (c : Nat) (f : Core → Core) : (s.updCore c f).throttled = s.throttled := rfl
@[simp] theorem State.updCore_who (s : State) (c : Nat) (f : Core → Core) : (s.updCore c f).who = s.who := rfl

/-! ### `State.setSlot` -/

@[simp] theorem State.setSlot_gtime (s : State) (c : Nat) (sl : Fin 16) (x : Slot) : (s.setSlot c sl x).gtime = s.gtime := rfl
@[simp] theorem State.setSlot_turn (s : State) (c : Nat) (sl : Fin 16) (x : Slot) : (s.setSlot c sl x).turn = s.turn := rfl
@[simp] theorem State.setSlot_agenda (s : State) (c : Nat) (sl : Fin 16) (x : Slot) : (s.setSlot c sl x).agenda = s.agenda := rfl
@[simp] theorem State.setSlot_free (s : State) (c : Nat) (sl : Fin 16) (x : Slot) : (s.setSlot c sl x).free = s.free := rfl
@[simp] theorem State.setSlot_powered (s : State) (c : Nat) (sl : Fin 16) (x : Slot) : (s.setSlot c sl x).powered = s.powered := rfl
@[simp] theorem State.setSlot_bootFail (s : State) (c : Nat) (sl : Fin 16) (x : Slot) : (s.setSlot c sl x).bootFail = s.bootFail := rfl
@[simp] theorem State.setSlot_mem (s : State) (c : Nat) (sl : Fin 16) (x : Slot) : (s.setSlot c sl x).mem = s.mem := rfl
@[simp] theorem State.setSlot_codes (s : State) (c : Nat) (sl : Fin 16) (x : Slot) : (s.setSlot c sl x).codes = s.codes := rfl
@[simp] theorem State.setSlot_poison (s : State) (c : Nat) (sl : Fin 16) (x : Slot) : (s.setSlot c sl x).poison = s.poison := rfl
@[simp] theorem State.setSlot_upsets (s : State) (c : Nat) (sl : Fin 16) (x : Slot) : (s.setSlot c sl x).upsets = s.upsets := rfl
@[simp] theorem State.setSlot_gkey (s : State) (c : Nat) (sl : Fin 16) (x : Slot) : (s.setSlot c sl x).gkey = s.gkey := rfl
@[simp] theorem State.setSlot_keyVer (s : State) (c : Nat) (sl : Fin 16) (x : Slot) : (s.setSlot c sl x).keyVer = s.keyVer := rfl
@[simp] theorem State.setSlot_mxus (s : State) (c : Nat) (sl : Fin 16) (x : Slot) : (s.setSlot c sl x).mxus = s.mxus := rfl
@[simp] theorem State.setSlot_tasks (s : State) (c : Nat) (sl : Fin 16) (x : Slot) : (s.setSlot c sl x).tasks = s.tasks := rfl
@[simp] theorem State.setSlot_launches (s : State) (c : Nat) (sl : Fin 16) (x : Slot) : (s.setSlot c sl x).launches = s.launches := rfl
@[simp] theorem State.setSlot_nextKey (s : State) (c : Nat) (sl : Fin 16) (x : Slot) : (s.setSlot c sl x).nextKey = s.nextKey := rfl
@[simp] theorem State.setSlot_nextNum (s : State) (c : Nat) (sl : Fin 16) (x : Slot) : (s.setSlot c sl x).nextNum = s.nextNum := rfl
@[simp] theorem State.setSlot_arenas (s : State) (c : Nat) (sl : Fin 16) (x : Slot) : (s.setSlot c sl x).arenas = s.arenas := rfl
@[simp] theorem State.setSlot_buffers (s : State) (c : Nat) (sl : Fin 16) (x : Slot) : (s.setSlot c sl x).buffers = s.buffers := rfl
@[simp] theorem State.setSlot_nextHandle (s : State) (c : Nat) (sl : Fin 16) (x : Slot) : (s.setSlot c sl x).nextHandle = s.nextHandle := rfl
@[simp] theorem State.setSlot_hostPages (s : State) (c : Nat) (sl : Fin 16) (x : Slot) : (s.setSlot c sl x).hostPages = s.hostPages := rfl
@[simp] theorem State.setSlot_reported (s : State) (c : Nat) (sl : Fin 16) (x : Slot) : (s.setSlot c sl x).reported = s.reported := rfl
@[simp] theorem State.setSlot_spillBits (s : State) (c : Nat) (sl : Fin 16) (x : Slot) : (s.setSlot c sl x).spillBits = s.spillBits := rfl
@[simp] theorem State.setSlot_ready (s : State) (c : Nat) (sl : Fin 16) (x : Slot) : (s.setSlot c sl x).ready = s.ready := rfl
@[simp] theorem State.setSlot_steals (s : State) (c : Nat) (sl : Fin 16) (x : Slot) : (s.setSlot c sl x).steals = s.steals := rfl
@[simp] theorem State.setSlot_stealing (s : State) (c : Nat) (sl : Fin 16) (x : Slot) : (s.setSlot c sl x).stealing = s.stealing := rfl
@[simp] theorem State.setSlot_hostMsgs (s : State) (c : Nat) (sl : Fin 16) (x : Slot) : (s.setSlot c sl x).hostMsgs = s.hostMsgs := rfl
@[simp] theorem State.setSlot_tcache (s : State) (c : Nat) (sl : Fin 16) (x : Slot) : (s.setSlot c sl x).tcache = s.tcache := rfl
@[simp] theorem State.setSlot_rdc (s : State) (c : Nat) (sl : Fin 16) (x : Slot) : (s.setSlot c sl x).rdc = s.rdc := rfl
@[simp] theorem State.setSlot_wq (s : State) (c : Nat) (sl : Fin 16) (x : Slot) : (s.setSlot c sl x).wq = s.wq := rfl
@[simp] theorem State.setSlot_regs (s : State) (c : Nat) (sl : Fin 16) (x : Slot) : (s.setSlot c sl x).regs = s.regs := rfl
@[simp] theorem State.setSlot_fleet (s : State) (c : Nat) (sl : Fin 16) (x : Slot) : (s.setSlot c sl x).fleet = s.fleet := rfl
@[simp] theorem State.setSlot_links (s : State) (c : Nat) (sl : Fin 16) (x : Slot) : (s.setSlot c sl x).links = s.links := rfl
@[simp] theorem State.setSlot_captures (s : State) (c : Nat) (sl : Fin 16) (x : Slot) : (s.setSlot c sl x).captures = s.captures := rfl
@[simp] theorem State.setSlot_counted (s : State) (c : Nat) (sl : Fin 16) (x : Slot) : (s.setSlot c sl x).counted = s.counted := rfl
@[simp] theorem State.setSlot_cutDies (s : State) (c : Nat) (sl : Fin 16) (x : Slot) : (s.setSlot c sl x).cutDies = s.cutDies := rfl
@[simp] theorem State.setSlot_buckets (s : State) (c : Nat) (sl : Fin 16) (x : Slot) : (s.setSlot c sl x).buckets = s.buckets := rfl
@[simp] theorem State.setSlot_early (s : State) (c : Nat) (sl : Fin 16) (x : Slot) : (s.setSlot c sl x).early = s.early := rfl
@[simp] theorem State.setSlot_sentBlocks (s : State) (c : Nat) (sl : Fin 16) (x : Slot) : (s.setSlot c sl x).sentBlocks = s.sentBlocks := rfl
@[simp] theorem State.setSlot_portWait (s : State) (c : Nat) (sl : Fin 16) (x : Slot) : (s.setSlot c sl x).portWait = s.portWait := rfl
@[simp] theorem State.setSlot_latWait (s : State) (c : Nat) (sl : Fin 16) (x : Slot) : (s.setSlot c sl x).latWait = s.latWait := rfl
@[simp] theorem State.setSlot_sweep (s : State) (c : Nat) (sl : Fin 16) (x : Slot) : (s.setSlot c sl x).sweep = s.sweep := rfl
@[simp] theorem State.setSlot_sweepAt (s : State) (c : Nat) (sl : Fin 16) (x : Slot) : (s.setSlot c sl x).sweepAt = s.sweepAt := rfl
@[simp] theorem State.setSlot_flits (s : State) (c : Nat) (sl : Fin 16) (x : Slot) : (s.setSlot c sl x).flits = s.flits := rfl
@[simp] theorem State.setSlot_sentFlits (s : State) (c : Nat) (sl : Fin 16) (x : Slot) : (s.setSlot c sl x).sentFlits = s.sentFlits := rfl
@[simp] theorem State.setSlot_flitWait (s : State) (c : Nat) (sl : Fin 16) (x : Slot) : (s.setSlot c sl x).flitWait = s.flitWait := rfl
@[simp] theorem State.setSlot_digest (s : State) (c : Nat) (sl : Fin 16) (x : Slot) : (s.setSlot c sl x).digest = s.digest := rfl
@[simp] theorem State.setSlot_sentDigests (s : State) (c : Nat) (sl : Fin 16) (x : Slot) : (s.setSlot c sl x).sentDigests = s.sentDigests := rfl
@[simp] theorem State.setSlot_heldDigests (s : State) (c : Nat) (sl : Fin 16) (x : Slot) : (s.setSlot c sl x).heldDigests = s.heldDigests := rfl
@[simp] theorem State.setSlot_peers (s : State) (c : Nat) (sl : Fin 16) (x : Slot) : (s.setSlot c sl x).peers = s.peers := rfl
@[simp] theorem State.setSlot_errClasses (s : State) (c : Nat) (sl : Fin 16) (x : Slot) : (s.setSlot c sl x).errClasses = s.errClasses := rfl
@[simp] theorem State.setSlot_msixTable (s : State) (c : Nat) (sl : Fin 16) (x : Slot) : (s.setSlot c sl x).msixTable = s.msixTable := rfl
@[simp] theorem State.setSlot_msixPending (s : State) (c : Nat) (sl : Fin 16) (x : Slot) : (s.setSlot c sl x).msixPending = s.msixPending := rfl
@[simp] theorem State.setSlot_measures (s : State) (c : Nat) (sl : Fin 16) (x : Slot) : (s.setSlot c sl x).measures = s.measures := rfl
@[simp] theorem State.setSlot_spdm (s : State) (c : Nat) (sl : Fin 16) (x : Slot) : (s.setSlot c sl x).spdm = s.spdm := rfl
@[simp] theorem State.setSlot_hostRead (s : State) (c : Nat) (sl : Fin 16) (x : Slot) : (s.setSlot c sl x).hostRead = s.hostRead := rfl
@[simp] theorem State.setSlot_throttled (s : State) (c : Nat) (sl : Fin 16) (x : Slot) : (s.setSlot c sl x).throttled = s.throttled := rfl
@[simp] theorem State.setSlot_who (s : State) (c : Nat) (sl : Fin 16) (x : Slot) : (s.setSlot c sl x).who = s.who := rfl

/-! ### `State.updSlot` -/

@[simp] theorem State.updSlot_gtime (s : State) (c : Nat) (sl : Fin 16) (f : Slot → Slot) : (s.updSlot c sl f).gtime = s.gtime := rfl
@[simp] theorem State.updSlot_turn (s : State) (c : Nat) (sl : Fin 16) (f : Slot → Slot) : (s.updSlot c sl f).turn = s.turn := rfl
@[simp] theorem State.updSlot_agenda (s : State) (c : Nat) (sl : Fin 16) (f : Slot → Slot) : (s.updSlot c sl f).agenda = s.agenda := rfl
@[simp] theorem State.updSlot_free (s : State) (c : Nat) (sl : Fin 16) (f : Slot → Slot) : (s.updSlot c sl f).free = s.free := rfl
@[simp] theorem State.updSlot_powered (s : State) (c : Nat) (sl : Fin 16) (f : Slot → Slot) : (s.updSlot c sl f).powered = s.powered := rfl
@[simp] theorem State.updSlot_bootFail (s : State) (c : Nat) (sl : Fin 16) (f : Slot → Slot) : (s.updSlot c sl f).bootFail = s.bootFail := rfl
@[simp] theorem State.updSlot_mem (s : State) (c : Nat) (sl : Fin 16) (f : Slot → Slot) : (s.updSlot c sl f).mem = s.mem := rfl
@[simp] theorem State.updSlot_codes (s : State) (c : Nat) (sl : Fin 16) (f : Slot → Slot) : (s.updSlot c sl f).codes = s.codes := rfl
@[simp] theorem State.updSlot_poison (s : State) (c : Nat) (sl : Fin 16) (f : Slot → Slot) : (s.updSlot c sl f).poison = s.poison := rfl
@[simp] theorem State.updSlot_upsets (s : State) (c : Nat) (sl : Fin 16) (f : Slot → Slot) : (s.updSlot c sl f).upsets = s.upsets := rfl
@[simp] theorem State.updSlot_gkey (s : State) (c : Nat) (sl : Fin 16) (f : Slot → Slot) : (s.updSlot c sl f).gkey = s.gkey := rfl
@[simp] theorem State.updSlot_keyVer (s : State) (c : Nat) (sl : Fin 16) (f : Slot → Slot) : (s.updSlot c sl f).keyVer = s.keyVer := rfl
@[simp] theorem State.updSlot_mxus (s : State) (c : Nat) (sl : Fin 16) (f : Slot → Slot) : (s.updSlot c sl f).mxus = s.mxus := rfl
@[simp] theorem State.updSlot_tasks (s : State) (c : Nat) (sl : Fin 16) (f : Slot → Slot) : (s.updSlot c sl f).tasks = s.tasks := rfl
@[simp] theorem State.updSlot_launches (s : State) (c : Nat) (sl : Fin 16) (f : Slot → Slot) : (s.updSlot c sl f).launches = s.launches := rfl
@[simp] theorem State.updSlot_nextKey (s : State) (c : Nat) (sl : Fin 16) (f : Slot → Slot) : (s.updSlot c sl f).nextKey = s.nextKey := rfl
@[simp] theorem State.updSlot_nextNum (s : State) (c : Nat) (sl : Fin 16) (f : Slot → Slot) : (s.updSlot c sl f).nextNum = s.nextNum := rfl
@[simp] theorem State.updSlot_arenas (s : State) (c : Nat) (sl : Fin 16) (f : Slot → Slot) : (s.updSlot c sl f).arenas = s.arenas := rfl
@[simp] theorem State.updSlot_buffers (s : State) (c : Nat) (sl : Fin 16) (f : Slot → Slot) : (s.updSlot c sl f).buffers = s.buffers := rfl
@[simp] theorem State.updSlot_nextHandle (s : State) (c : Nat) (sl : Fin 16) (f : Slot → Slot) : (s.updSlot c sl f).nextHandle = s.nextHandle := rfl
@[simp] theorem State.updSlot_hostPages (s : State) (c : Nat) (sl : Fin 16) (f : Slot → Slot) : (s.updSlot c sl f).hostPages = s.hostPages := rfl
@[simp] theorem State.updSlot_reported (s : State) (c : Nat) (sl : Fin 16) (f : Slot → Slot) : (s.updSlot c sl f).reported = s.reported := rfl
@[simp] theorem State.updSlot_spillBits (s : State) (c : Nat) (sl : Fin 16) (f : Slot → Slot) : (s.updSlot c sl f).spillBits = s.spillBits := rfl
@[simp] theorem State.updSlot_ready (s : State) (c : Nat) (sl : Fin 16) (f : Slot → Slot) : (s.updSlot c sl f).ready = s.ready := rfl
@[simp] theorem State.updSlot_steals (s : State) (c : Nat) (sl : Fin 16) (f : Slot → Slot) : (s.updSlot c sl f).steals = s.steals := rfl
@[simp] theorem State.updSlot_stealing (s : State) (c : Nat) (sl : Fin 16) (f : Slot → Slot) : (s.updSlot c sl f).stealing = s.stealing := rfl
@[simp] theorem State.updSlot_hostMsgs (s : State) (c : Nat) (sl : Fin 16) (f : Slot → Slot) : (s.updSlot c sl f).hostMsgs = s.hostMsgs := rfl
@[simp] theorem State.updSlot_tcache (s : State) (c : Nat) (sl : Fin 16) (f : Slot → Slot) : (s.updSlot c sl f).tcache = s.tcache := rfl
@[simp] theorem State.updSlot_rdc (s : State) (c : Nat) (sl : Fin 16) (f : Slot → Slot) : (s.updSlot c sl f).rdc = s.rdc := rfl
@[simp] theorem State.updSlot_wq (s : State) (c : Nat) (sl : Fin 16) (f : Slot → Slot) : (s.updSlot c sl f).wq = s.wq := rfl
@[simp] theorem State.updSlot_regs (s : State) (c : Nat) (sl : Fin 16) (f : Slot → Slot) : (s.updSlot c sl f).regs = s.regs := rfl
@[simp] theorem State.updSlot_fleet (s : State) (c : Nat) (sl : Fin 16) (f : Slot → Slot) : (s.updSlot c sl f).fleet = s.fleet := rfl
@[simp] theorem State.updSlot_links (s : State) (c : Nat) (sl : Fin 16) (f : Slot → Slot) : (s.updSlot c sl f).links = s.links := rfl
@[simp] theorem State.updSlot_captures (s : State) (c : Nat) (sl : Fin 16) (f : Slot → Slot) : (s.updSlot c sl f).captures = s.captures := rfl
@[simp] theorem State.updSlot_counted (s : State) (c : Nat) (sl : Fin 16) (f : Slot → Slot) : (s.updSlot c sl f).counted = s.counted := rfl
@[simp] theorem State.updSlot_cutDies (s : State) (c : Nat) (sl : Fin 16) (f : Slot → Slot) : (s.updSlot c sl f).cutDies = s.cutDies := rfl
@[simp] theorem State.updSlot_buckets (s : State) (c : Nat) (sl : Fin 16) (f : Slot → Slot) : (s.updSlot c sl f).buckets = s.buckets := rfl
@[simp] theorem State.updSlot_early (s : State) (c : Nat) (sl : Fin 16) (f : Slot → Slot) : (s.updSlot c sl f).early = s.early := rfl
@[simp] theorem State.updSlot_sentBlocks (s : State) (c : Nat) (sl : Fin 16) (f : Slot → Slot) : (s.updSlot c sl f).sentBlocks = s.sentBlocks := rfl
@[simp] theorem State.updSlot_portWait (s : State) (c : Nat) (sl : Fin 16) (f : Slot → Slot) : (s.updSlot c sl f).portWait = s.portWait := rfl
@[simp] theorem State.updSlot_latWait (s : State) (c : Nat) (sl : Fin 16) (f : Slot → Slot) : (s.updSlot c sl f).latWait = s.latWait := rfl
@[simp] theorem State.updSlot_sweep (s : State) (c : Nat) (sl : Fin 16) (f : Slot → Slot) : (s.updSlot c sl f).sweep = s.sweep := rfl
@[simp] theorem State.updSlot_sweepAt (s : State) (c : Nat) (sl : Fin 16) (f : Slot → Slot) : (s.updSlot c sl f).sweepAt = s.sweepAt := rfl
@[simp] theorem State.updSlot_flits (s : State) (c : Nat) (sl : Fin 16) (f : Slot → Slot) : (s.updSlot c sl f).flits = s.flits := rfl
@[simp] theorem State.updSlot_sentFlits (s : State) (c : Nat) (sl : Fin 16) (f : Slot → Slot) : (s.updSlot c sl f).sentFlits = s.sentFlits := rfl
@[simp] theorem State.updSlot_flitWait (s : State) (c : Nat) (sl : Fin 16) (f : Slot → Slot) : (s.updSlot c sl f).flitWait = s.flitWait := rfl
@[simp] theorem State.updSlot_digest (s : State) (c : Nat) (sl : Fin 16) (f : Slot → Slot) : (s.updSlot c sl f).digest = s.digest := rfl
@[simp] theorem State.updSlot_sentDigests (s : State) (c : Nat) (sl : Fin 16) (f : Slot → Slot) : (s.updSlot c sl f).sentDigests = s.sentDigests := rfl
@[simp] theorem State.updSlot_heldDigests (s : State) (c : Nat) (sl : Fin 16) (f : Slot → Slot) : (s.updSlot c sl f).heldDigests = s.heldDigests := rfl
@[simp] theorem State.updSlot_peers (s : State) (c : Nat) (sl : Fin 16) (f : Slot → Slot) : (s.updSlot c sl f).peers = s.peers := rfl
@[simp] theorem State.updSlot_errClasses (s : State) (c : Nat) (sl : Fin 16) (f : Slot → Slot) : (s.updSlot c sl f).errClasses = s.errClasses := rfl
@[simp] theorem State.updSlot_msixTable (s : State) (c : Nat) (sl : Fin 16) (f : Slot → Slot) : (s.updSlot c sl f).msixTable = s.msixTable := rfl
@[simp] theorem State.updSlot_msixPending (s : State) (c : Nat) (sl : Fin 16) (f : Slot → Slot) : (s.updSlot c sl f).msixPending = s.msixPending := rfl
@[simp] theorem State.updSlot_measures (s : State) (c : Nat) (sl : Fin 16) (f : Slot → Slot) : (s.updSlot c sl f).measures = s.measures := rfl
@[simp] theorem State.updSlot_spdm (s : State) (c : Nat) (sl : Fin 16) (f : Slot → Slot) : (s.updSlot c sl f).spdm = s.spdm := rfl
@[simp] theorem State.updSlot_hostRead (s : State) (c : Nat) (sl : Fin 16) (f : Slot → Slot) : (s.updSlot c sl f).hostRead = s.hostRead := rfl
@[simp] theorem State.updSlot_throttled (s : State) (c : Nat) (sl : Fin 16) (f : Slot → Slot) : (s.updSlot c sl f).throttled = s.throttled := rfl
@[simp] theorem State.updSlot_who (s : State) (c : Nat) (sl : Fin 16) (f : Slot → Slot) : (s.updSlot c sl f).who = s.who := rfl

/-! ### `State.upd` -/

@[simp] theorem State.upd_gtime (s : State) (w : Who) (f : Slot → Slot) : (s.upd w f).gtime = s.gtime := rfl
@[simp] theorem State.upd_turn (s : State) (w : Who) (f : Slot → Slot) : (s.upd w f).turn = s.turn := rfl
@[simp] theorem State.upd_agenda (s : State) (w : Who) (f : Slot → Slot) : (s.upd w f).agenda = s.agenda := rfl
@[simp] theorem State.upd_free (s : State) (w : Who) (f : Slot → Slot) : (s.upd w f).free = s.free := rfl
@[simp] theorem State.upd_powered (s : State) (w : Who) (f : Slot → Slot) : (s.upd w f).powered = s.powered := rfl
@[simp] theorem State.upd_bootFail (s : State) (w : Who) (f : Slot → Slot) : (s.upd w f).bootFail = s.bootFail := rfl
@[simp] theorem State.upd_mem (s : State) (w : Who) (f : Slot → Slot) : (s.upd w f).mem = s.mem := rfl
@[simp] theorem State.upd_codes (s : State) (w : Who) (f : Slot → Slot) : (s.upd w f).codes = s.codes := rfl
@[simp] theorem State.upd_poison (s : State) (w : Who) (f : Slot → Slot) : (s.upd w f).poison = s.poison := rfl
@[simp] theorem State.upd_upsets (s : State) (w : Who) (f : Slot → Slot) : (s.upd w f).upsets = s.upsets := rfl
@[simp] theorem State.upd_gkey (s : State) (w : Who) (f : Slot → Slot) : (s.upd w f).gkey = s.gkey := rfl
@[simp] theorem State.upd_keyVer (s : State) (w : Who) (f : Slot → Slot) : (s.upd w f).keyVer = s.keyVer := rfl
@[simp] theorem State.upd_mxus (s : State) (w : Who) (f : Slot → Slot) : (s.upd w f).mxus = s.mxus := rfl
@[simp] theorem State.upd_tasks (s : State) (w : Who) (f : Slot → Slot) : (s.upd w f).tasks = s.tasks := rfl
@[simp] theorem State.upd_launches (s : State) (w : Who) (f : Slot → Slot) : (s.upd w f).launches = s.launches := rfl
@[simp] theorem State.upd_nextKey (s : State) (w : Who) (f : Slot → Slot) : (s.upd w f).nextKey = s.nextKey := rfl
@[simp] theorem State.upd_nextNum (s : State) (w : Who) (f : Slot → Slot) : (s.upd w f).nextNum = s.nextNum := rfl
@[simp] theorem State.upd_arenas (s : State) (w : Who) (f : Slot → Slot) : (s.upd w f).arenas = s.arenas := rfl
@[simp] theorem State.upd_buffers (s : State) (w : Who) (f : Slot → Slot) : (s.upd w f).buffers = s.buffers := rfl
@[simp] theorem State.upd_nextHandle (s : State) (w : Who) (f : Slot → Slot) : (s.upd w f).nextHandle = s.nextHandle := rfl
@[simp] theorem State.upd_hostPages (s : State) (w : Who) (f : Slot → Slot) : (s.upd w f).hostPages = s.hostPages := rfl
@[simp] theorem State.upd_reported (s : State) (w : Who) (f : Slot → Slot) : (s.upd w f).reported = s.reported := rfl
@[simp] theorem State.upd_spillBits (s : State) (w : Who) (f : Slot → Slot) : (s.upd w f).spillBits = s.spillBits := rfl
@[simp] theorem State.upd_ready (s : State) (w : Who) (f : Slot → Slot) : (s.upd w f).ready = s.ready := rfl
@[simp] theorem State.upd_steals (s : State) (w : Who) (f : Slot → Slot) : (s.upd w f).steals = s.steals := rfl
@[simp] theorem State.upd_stealing (s : State) (w : Who) (f : Slot → Slot) : (s.upd w f).stealing = s.stealing := rfl
@[simp] theorem State.upd_hostMsgs (s : State) (w : Who) (f : Slot → Slot) : (s.upd w f).hostMsgs = s.hostMsgs := rfl
@[simp] theorem State.upd_tcache (s : State) (w : Who) (f : Slot → Slot) : (s.upd w f).tcache = s.tcache := rfl
@[simp] theorem State.upd_rdc (s : State) (w : Who) (f : Slot → Slot) : (s.upd w f).rdc = s.rdc := rfl
@[simp] theorem State.upd_wq (s : State) (w : Who) (f : Slot → Slot) : (s.upd w f).wq = s.wq := rfl
@[simp] theorem State.upd_regs (s : State) (w : Who) (f : Slot → Slot) : (s.upd w f).regs = s.regs := rfl
@[simp] theorem State.upd_fleet (s : State) (w : Who) (f : Slot → Slot) : (s.upd w f).fleet = s.fleet := rfl
@[simp] theorem State.upd_links (s : State) (w : Who) (f : Slot → Slot) : (s.upd w f).links = s.links := rfl
@[simp] theorem State.upd_captures (s : State) (w : Who) (f : Slot → Slot) : (s.upd w f).captures = s.captures := rfl
@[simp] theorem State.upd_counted (s : State) (w : Who) (f : Slot → Slot) : (s.upd w f).counted = s.counted := rfl
@[simp] theorem State.upd_cutDies (s : State) (w : Who) (f : Slot → Slot) : (s.upd w f).cutDies = s.cutDies := rfl
@[simp] theorem State.upd_buckets (s : State) (w : Who) (f : Slot → Slot) : (s.upd w f).buckets = s.buckets := rfl
@[simp] theorem State.upd_early (s : State) (w : Who) (f : Slot → Slot) : (s.upd w f).early = s.early := rfl
@[simp] theorem State.upd_sentBlocks (s : State) (w : Who) (f : Slot → Slot) : (s.upd w f).sentBlocks = s.sentBlocks := rfl
@[simp] theorem State.upd_portWait (s : State) (w : Who) (f : Slot → Slot) : (s.upd w f).portWait = s.portWait := rfl
@[simp] theorem State.upd_latWait (s : State) (w : Who) (f : Slot → Slot) : (s.upd w f).latWait = s.latWait := rfl
@[simp] theorem State.upd_sweep (s : State) (w : Who) (f : Slot → Slot) : (s.upd w f).sweep = s.sweep := rfl
@[simp] theorem State.upd_sweepAt (s : State) (w : Who) (f : Slot → Slot) : (s.upd w f).sweepAt = s.sweepAt := rfl
@[simp] theorem State.upd_flits (s : State) (w : Who) (f : Slot → Slot) : (s.upd w f).flits = s.flits := rfl
@[simp] theorem State.upd_sentFlits (s : State) (w : Who) (f : Slot → Slot) : (s.upd w f).sentFlits = s.sentFlits := rfl
@[simp] theorem State.upd_flitWait (s : State) (w : Who) (f : Slot → Slot) : (s.upd w f).flitWait = s.flitWait := rfl
@[simp] theorem State.upd_digest (s : State) (w : Who) (f : Slot → Slot) : (s.upd w f).digest = s.digest := rfl
@[simp] theorem State.upd_sentDigests (s : State) (w : Who) (f : Slot → Slot) : (s.upd w f).sentDigests = s.sentDigests := rfl
@[simp] theorem State.upd_heldDigests (s : State) (w : Who) (f : Slot → Slot) : (s.upd w f).heldDigests = s.heldDigests := rfl
@[simp] theorem State.upd_peers (s : State) (w : Who) (f : Slot → Slot) : (s.upd w f).peers = s.peers := rfl
@[simp] theorem State.upd_errClasses (s : State) (w : Who) (f : Slot → Slot) : (s.upd w f).errClasses = s.errClasses := rfl
@[simp] theorem State.upd_msixTable (s : State) (w : Who) (f : Slot → Slot) : (s.upd w f).msixTable = s.msixTable := rfl
@[simp] theorem State.upd_msixPending (s : State) (w : Who) (f : Slot → Slot) : (s.upd w f).msixPending = s.msixPending := rfl
@[simp] theorem State.upd_measures (s : State) (w : Who) (f : Slot → Slot) : (s.upd w f).measures = s.measures := rfl
@[simp] theorem State.upd_spdm (s : State) (w : Who) (f : Slot → Slot) : (s.upd w f).spdm = s.spdm := rfl
@[simp] theorem State.upd_hostRead (s : State) (w : Who) (f : Slot → Slot) : (s.upd w f).hostRead = s.hostRead := rfl
@[simp] theorem State.upd_throttled (s : State) (w : Who) (f : Slot → Slot) : (s.upd w f).throttled = s.throttled := rfl
@[simp] theorem State.upd_who (s : State) (w : Who) (f : Slot → Slot) : (s.upd w f).who = s.who := rfl

/-! ### `State.updTh` -/

@[simp] theorem State.updTh_gtime (s : State) (w : Who) (f : Thread → Thread) : (s.updTh w f).gtime = s.gtime := rfl
@[simp] theorem State.updTh_turn (s : State) (w : Who) (f : Thread → Thread) : (s.updTh w f).turn = s.turn := rfl
@[simp] theorem State.updTh_agenda (s : State) (w : Who) (f : Thread → Thread) : (s.updTh w f).agenda = s.agenda := rfl
@[simp] theorem State.updTh_free (s : State) (w : Who) (f : Thread → Thread) : (s.updTh w f).free = s.free := rfl
@[simp] theorem State.updTh_powered (s : State) (w : Who) (f : Thread → Thread) : (s.updTh w f).powered = s.powered := rfl
@[simp] theorem State.updTh_bootFail (s : State) (w : Who) (f : Thread → Thread) : (s.updTh w f).bootFail = s.bootFail := rfl
@[simp] theorem State.updTh_mem (s : State) (w : Who) (f : Thread → Thread) : (s.updTh w f).mem = s.mem := rfl
@[simp] theorem State.updTh_codes (s : State) (w : Who) (f : Thread → Thread) : (s.updTh w f).codes = s.codes := rfl
@[simp] theorem State.updTh_poison (s : State) (w : Who) (f : Thread → Thread) : (s.updTh w f).poison = s.poison := rfl
@[simp] theorem State.updTh_upsets (s : State) (w : Who) (f : Thread → Thread) : (s.updTh w f).upsets = s.upsets := rfl
@[simp] theorem State.updTh_gkey (s : State) (w : Who) (f : Thread → Thread) : (s.updTh w f).gkey = s.gkey := rfl
@[simp] theorem State.updTh_keyVer (s : State) (w : Who) (f : Thread → Thread) : (s.updTh w f).keyVer = s.keyVer := rfl
@[simp] theorem State.updTh_mxus (s : State) (w : Who) (f : Thread → Thread) : (s.updTh w f).mxus = s.mxus := rfl
@[simp] theorem State.updTh_tasks (s : State) (w : Who) (f : Thread → Thread) : (s.updTh w f).tasks = s.tasks := rfl
@[simp] theorem State.updTh_launches (s : State) (w : Who) (f : Thread → Thread) : (s.updTh w f).launches = s.launches := rfl
@[simp] theorem State.updTh_nextKey (s : State) (w : Who) (f : Thread → Thread) : (s.updTh w f).nextKey = s.nextKey := rfl
@[simp] theorem State.updTh_nextNum (s : State) (w : Who) (f : Thread → Thread) : (s.updTh w f).nextNum = s.nextNum := rfl
@[simp] theorem State.updTh_arenas (s : State) (w : Who) (f : Thread → Thread) : (s.updTh w f).arenas = s.arenas := rfl
@[simp] theorem State.updTh_buffers (s : State) (w : Who) (f : Thread → Thread) : (s.updTh w f).buffers = s.buffers := rfl
@[simp] theorem State.updTh_nextHandle (s : State) (w : Who) (f : Thread → Thread) : (s.updTh w f).nextHandle = s.nextHandle := rfl
@[simp] theorem State.updTh_hostPages (s : State) (w : Who) (f : Thread → Thread) : (s.updTh w f).hostPages = s.hostPages := rfl
@[simp] theorem State.updTh_reported (s : State) (w : Who) (f : Thread → Thread) : (s.updTh w f).reported = s.reported := rfl
@[simp] theorem State.updTh_spillBits (s : State) (w : Who) (f : Thread → Thread) : (s.updTh w f).spillBits = s.spillBits := rfl
@[simp] theorem State.updTh_ready (s : State) (w : Who) (f : Thread → Thread) : (s.updTh w f).ready = s.ready := rfl
@[simp] theorem State.updTh_steals (s : State) (w : Who) (f : Thread → Thread) : (s.updTh w f).steals = s.steals := rfl
@[simp] theorem State.updTh_stealing (s : State) (w : Who) (f : Thread → Thread) : (s.updTh w f).stealing = s.stealing := rfl
@[simp] theorem State.updTh_hostMsgs (s : State) (w : Who) (f : Thread → Thread) : (s.updTh w f).hostMsgs = s.hostMsgs := rfl
@[simp] theorem State.updTh_tcache (s : State) (w : Who) (f : Thread → Thread) : (s.updTh w f).tcache = s.tcache := rfl
@[simp] theorem State.updTh_rdc (s : State) (w : Who) (f : Thread → Thread) : (s.updTh w f).rdc = s.rdc := rfl
@[simp] theorem State.updTh_wq (s : State) (w : Who) (f : Thread → Thread) : (s.updTh w f).wq = s.wq := rfl
@[simp] theorem State.updTh_regs (s : State) (w : Who) (f : Thread → Thread) : (s.updTh w f).regs = s.regs := rfl
@[simp] theorem State.updTh_fleet (s : State) (w : Who) (f : Thread → Thread) : (s.updTh w f).fleet = s.fleet := rfl
@[simp] theorem State.updTh_links (s : State) (w : Who) (f : Thread → Thread) : (s.updTh w f).links = s.links := rfl
@[simp] theorem State.updTh_captures (s : State) (w : Who) (f : Thread → Thread) : (s.updTh w f).captures = s.captures := rfl
@[simp] theorem State.updTh_counted (s : State) (w : Who) (f : Thread → Thread) : (s.updTh w f).counted = s.counted := rfl
@[simp] theorem State.updTh_cutDies (s : State) (w : Who) (f : Thread → Thread) : (s.updTh w f).cutDies = s.cutDies := rfl
@[simp] theorem State.updTh_buckets (s : State) (w : Who) (f : Thread → Thread) : (s.updTh w f).buckets = s.buckets := rfl
@[simp] theorem State.updTh_early (s : State) (w : Who) (f : Thread → Thread) : (s.updTh w f).early = s.early := rfl
@[simp] theorem State.updTh_sentBlocks (s : State) (w : Who) (f : Thread → Thread) : (s.updTh w f).sentBlocks = s.sentBlocks := rfl
@[simp] theorem State.updTh_portWait (s : State) (w : Who) (f : Thread → Thread) : (s.updTh w f).portWait = s.portWait := rfl
@[simp] theorem State.updTh_latWait (s : State) (w : Who) (f : Thread → Thread) : (s.updTh w f).latWait = s.latWait := rfl
@[simp] theorem State.updTh_sweep (s : State) (w : Who) (f : Thread → Thread) : (s.updTh w f).sweep = s.sweep := rfl
@[simp] theorem State.updTh_sweepAt (s : State) (w : Who) (f : Thread → Thread) : (s.updTh w f).sweepAt = s.sweepAt := rfl
@[simp] theorem State.updTh_flits (s : State) (w : Who) (f : Thread → Thread) : (s.updTh w f).flits = s.flits := rfl
@[simp] theorem State.updTh_sentFlits (s : State) (w : Who) (f : Thread → Thread) : (s.updTh w f).sentFlits = s.sentFlits := rfl
@[simp] theorem State.updTh_flitWait (s : State) (w : Who) (f : Thread → Thread) : (s.updTh w f).flitWait = s.flitWait := rfl
@[simp] theorem State.updTh_digest (s : State) (w : Who) (f : Thread → Thread) : (s.updTh w f).digest = s.digest := rfl
@[simp] theorem State.updTh_sentDigests (s : State) (w : Who) (f : Thread → Thread) : (s.updTh w f).sentDigests = s.sentDigests := rfl
@[simp] theorem State.updTh_heldDigests (s : State) (w : Who) (f : Thread → Thread) : (s.updTh w f).heldDigests = s.heldDigests := rfl
@[simp] theorem State.updTh_peers (s : State) (w : Who) (f : Thread → Thread) : (s.updTh w f).peers = s.peers := rfl
@[simp] theorem State.updTh_errClasses (s : State) (w : Who) (f : Thread → Thread) : (s.updTh w f).errClasses = s.errClasses := rfl
@[simp] theorem State.updTh_msixTable (s : State) (w : Who) (f : Thread → Thread) : (s.updTh w f).msixTable = s.msixTable := rfl
@[simp] theorem State.updTh_msixPending (s : State) (w : Who) (f : Thread → Thread) : (s.updTh w f).msixPending = s.msixPending := rfl
@[simp] theorem State.updTh_measures (s : State) (w : Who) (f : Thread → Thread) : (s.updTh w f).measures = s.measures := rfl
@[simp] theorem State.updTh_spdm (s : State) (w : Who) (f : Thread → Thread) : (s.updTh w f).spdm = s.spdm := rfl
@[simp] theorem State.updTh_hostRead (s : State) (w : Who) (f : Thread → Thread) : (s.updTh w f).hostRead = s.hostRead := rfl
@[simp] theorem State.updTh_throttled (s : State) (w : Who) (f : Thread → Thread) : (s.updTh w f).throttled = s.throttled := rfl
@[simp] theorem State.updTh_who (s : State) (w : Who) (f : Thread → Thread) : (s.updTh w f).who = s.who := rfl

/-! ### `State.post` -/

@[simp] theorem State.post_gtime (s : State) (es : List Event) : (s.post es).gtime = s.gtime := rfl
@[simp] theorem State.post_turn (s : State) (es : List Event) : (s.post es).turn = s.turn := rfl
@[simp] theorem State.post_free (s : State) (es : List Event) : (s.post es).free = s.free := rfl
@[simp] theorem State.post_powered (s : State) (es : List Event) : (s.post es).powered = s.powered := rfl
@[simp] theorem State.post_bootFail (s : State) (es : List Event) : (s.post es).bootFail = s.bootFail := rfl
@[simp] theorem State.post_mem (s : State) (es : List Event) : (s.post es).mem = s.mem := rfl
@[simp] theorem State.post_codes (s : State) (es : List Event) : (s.post es).codes = s.codes := rfl
@[simp] theorem State.post_poison (s : State) (es : List Event) : (s.post es).poison = s.poison := rfl
@[simp] theorem State.post_upsets (s : State) (es : List Event) : (s.post es).upsets = s.upsets := rfl
@[simp] theorem State.post_gkey (s : State) (es : List Event) : (s.post es).gkey = s.gkey := rfl
@[simp] theorem State.post_keyVer (s : State) (es : List Event) : (s.post es).keyVer = s.keyVer := rfl
@[simp] theorem State.post_cores (s : State) (es : List Event) : (s.post es).cores = s.cores := rfl
@[simp] theorem State.post_mxus (s : State) (es : List Event) : (s.post es).mxus = s.mxus := rfl
@[simp] theorem State.post_tasks (s : State) (es : List Event) : (s.post es).tasks = s.tasks := rfl
@[simp] theorem State.post_launches (s : State) (es : List Event) : (s.post es).launches = s.launches := rfl
@[simp] theorem State.post_nextKey (s : State) (es : List Event) : (s.post es).nextKey = s.nextKey := rfl
@[simp] theorem State.post_nextNum (s : State) (es : List Event) : (s.post es).nextNum = s.nextNum := rfl
@[simp] theorem State.post_arenas (s : State) (es : List Event) : (s.post es).arenas = s.arenas := rfl
@[simp] theorem State.post_buffers (s : State) (es : List Event) : (s.post es).buffers = s.buffers := rfl
@[simp] theorem State.post_nextHandle (s : State) (es : List Event) : (s.post es).nextHandle = s.nextHandle := rfl
@[simp] theorem State.post_hostPages (s : State) (es : List Event) : (s.post es).hostPages = s.hostPages := rfl
@[simp] theorem State.post_reported (s : State) (es : List Event) : (s.post es).reported = s.reported := rfl
@[simp] theorem State.post_spillBits (s : State) (es : List Event) : (s.post es).spillBits = s.spillBits := rfl
@[simp] theorem State.post_ready (s : State) (es : List Event) : (s.post es).ready = s.ready := rfl
@[simp] theorem State.post_steals (s : State) (es : List Event) : (s.post es).steals = s.steals := rfl
@[simp] theorem State.post_stealing (s : State) (es : List Event) : (s.post es).stealing = s.stealing := rfl
@[simp] theorem State.post_hostMsgs (s : State) (es : List Event) : (s.post es).hostMsgs = s.hostMsgs := rfl
@[simp] theorem State.post_tcache (s : State) (es : List Event) : (s.post es).tcache = s.tcache := rfl
@[simp] theorem State.post_rdc (s : State) (es : List Event) : (s.post es).rdc = s.rdc := rfl
@[simp] theorem State.post_wq (s : State) (es : List Event) : (s.post es).wq = s.wq := rfl
@[simp] theorem State.post_regs (s : State) (es : List Event) : (s.post es).regs = s.regs := rfl
@[simp] theorem State.post_fleet (s : State) (es : List Event) : (s.post es).fleet = s.fleet := rfl
@[simp] theorem State.post_links (s : State) (es : List Event) : (s.post es).links = s.links := rfl
@[simp] theorem State.post_captures (s : State) (es : List Event) : (s.post es).captures = s.captures := rfl
@[simp] theorem State.post_counted (s : State) (es : List Event) : (s.post es).counted = s.counted := rfl
@[simp] theorem State.post_cutDies (s : State) (es : List Event) : (s.post es).cutDies = s.cutDies := rfl
@[simp] theorem State.post_buckets (s : State) (es : List Event) : (s.post es).buckets = s.buckets := rfl
@[simp] theorem State.post_early (s : State) (es : List Event) : (s.post es).early = s.early := rfl
@[simp] theorem State.post_sentBlocks (s : State) (es : List Event) : (s.post es).sentBlocks = s.sentBlocks := rfl
@[simp] theorem State.post_portWait (s : State) (es : List Event) : (s.post es).portWait = s.portWait := rfl
@[simp] theorem State.post_latWait (s : State) (es : List Event) : (s.post es).latWait = s.latWait := rfl
@[simp] theorem State.post_sweep (s : State) (es : List Event) : (s.post es).sweep = s.sweep := rfl
@[simp] theorem State.post_sweepAt (s : State) (es : List Event) : (s.post es).sweepAt = s.sweepAt := rfl
@[simp] theorem State.post_flits (s : State) (es : List Event) : (s.post es).flits = s.flits := rfl
@[simp] theorem State.post_sentFlits (s : State) (es : List Event) : (s.post es).sentFlits = s.sentFlits := rfl
@[simp] theorem State.post_flitWait (s : State) (es : List Event) : (s.post es).flitWait = s.flitWait := rfl
@[simp] theorem State.post_digest (s : State) (es : List Event) : (s.post es).digest = s.digest := rfl
@[simp] theorem State.post_sentDigests (s : State) (es : List Event) : (s.post es).sentDigests = s.sentDigests := rfl
@[simp] theorem State.post_heldDigests (s : State) (es : List Event) : (s.post es).heldDigests = s.heldDigests := rfl
@[simp] theorem State.post_peers (s : State) (es : List Event) : (s.post es).peers = s.peers := rfl
@[simp] theorem State.post_errClasses (s : State) (es : List Event) : (s.post es).errClasses = s.errClasses := rfl
@[simp] theorem State.post_msixTable (s : State) (es : List Event) : (s.post es).msixTable = s.msixTable := rfl
@[simp] theorem State.post_msixPending (s : State) (es : List Event) : (s.post es).msixPending = s.msixPending := rfl
@[simp] theorem State.post_measures (s : State) (es : List Event) : (s.post es).measures = s.measures := rfl
@[simp] theorem State.post_spdm (s : State) (es : List Event) : (s.post es).spdm = s.spdm := rfl
@[simp] theorem State.post_hostRead (s : State) (es : List Event) : (s.post es).hostRead = s.hostRead := rfl
@[simp] theorem State.post_throttled (s : State) (es : List Event) : (s.post es).throttled = s.throttled := rfl
@[simp] theorem State.post_who (s : State) (es : List Event) : (s.post es).who = s.who := rfl
@[simp] theorem State.post_core (s : State) (es : List Event) (c' : Nat) : (s.post es).core c' = s.core c' := rfl
@[simp] theorem State.post_at (s : State) (es : List Event) (w' : Who) : (s.post es).at w' = s.at w' := rfl
@[simp] theorem State.post_th (s : State) (es : List Event) (w' : Who) : (s.post es).th w' = s.th w' := rfl

/-! ### `State.lwrite` -/

@[simp] theorem State.lwrite_gtime (s : State) (c off : Nat) (bs : List Byte) : (s.lwrite c off bs).gtime = s.gtime := rfl
@[simp] theorem State.lwrite_turn (s : State) (c off : Nat) (bs : List Byte) : (s.lwrite c off bs).turn = s.turn := rfl
@[simp] theorem State.lwrite_agenda (s : State) (c off : Nat) (bs : List Byte) : (s.lwrite c off bs).agenda = s.agenda := rfl
@[simp] theorem State.lwrite_free (s : State) (c off : Nat) (bs : List Byte) : (s.lwrite c off bs).free = s.free := rfl
@[simp] theorem State.lwrite_powered (s : State) (c off : Nat) (bs : List Byte) : (s.lwrite c off bs).powered = s.powered := rfl
@[simp] theorem State.lwrite_bootFail (s : State) (c off : Nat) (bs : List Byte) : (s.lwrite c off bs).bootFail = s.bootFail := rfl
@[simp] theorem State.lwrite_mem (s : State) (c off : Nat) (bs : List Byte) : (s.lwrite c off bs).mem = s.mem := rfl
@[simp] theorem State.lwrite_codes (s : State) (c off : Nat) (bs : List Byte) : (s.lwrite c off bs).codes = s.codes := rfl
@[simp] theorem State.lwrite_poison (s : State) (c off : Nat) (bs : List Byte) : (s.lwrite c off bs).poison = s.poison := rfl
@[simp] theorem State.lwrite_upsets (s : State) (c off : Nat) (bs : List Byte) : (s.lwrite c off bs).upsets = s.upsets := rfl
@[simp] theorem State.lwrite_gkey (s : State) (c off : Nat) (bs : List Byte) : (s.lwrite c off bs).gkey = s.gkey := rfl
@[simp] theorem State.lwrite_keyVer (s : State) (c off : Nat) (bs : List Byte) : (s.lwrite c off bs).keyVer = s.keyVer := rfl
@[simp] theorem State.lwrite_mxus (s : State) (c off : Nat) (bs : List Byte) : (s.lwrite c off bs).mxus = s.mxus := rfl
@[simp] theorem State.lwrite_tasks (s : State) (c off : Nat) (bs : List Byte) : (s.lwrite c off bs).tasks = s.tasks := rfl
@[simp] theorem State.lwrite_launches (s : State) (c off : Nat) (bs : List Byte) : (s.lwrite c off bs).launches = s.launches := rfl
@[simp] theorem State.lwrite_nextKey (s : State) (c off : Nat) (bs : List Byte) : (s.lwrite c off bs).nextKey = s.nextKey := rfl
@[simp] theorem State.lwrite_nextNum (s : State) (c off : Nat) (bs : List Byte) : (s.lwrite c off bs).nextNum = s.nextNum := rfl
@[simp] theorem State.lwrite_arenas (s : State) (c off : Nat) (bs : List Byte) : (s.lwrite c off bs).arenas = s.arenas := rfl
@[simp] theorem State.lwrite_buffers (s : State) (c off : Nat) (bs : List Byte) : (s.lwrite c off bs).buffers = s.buffers := rfl
@[simp] theorem State.lwrite_nextHandle (s : State) (c off : Nat) (bs : List Byte) : (s.lwrite c off bs).nextHandle = s.nextHandle := rfl
@[simp] theorem State.lwrite_hostPages (s : State) (c off : Nat) (bs : List Byte) : (s.lwrite c off bs).hostPages = s.hostPages := rfl
@[simp] theorem State.lwrite_reported (s : State) (c off : Nat) (bs : List Byte) : (s.lwrite c off bs).reported = s.reported := rfl
@[simp] theorem State.lwrite_spillBits (s : State) (c off : Nat) (bs : List Byte) : (s.lwrite c off bs).spillBits = s.spillBits := rfl
@[simp] theorem State.lwrite_ready (s : State) (c off : Nat) (bs : List Byte) : (s.lwrite c off bs).ready = s.ready := rfl
@[simp] theorem State.lwrite_steals (s : State) (c off : Nat) (bs : List Byte) : (s.lwrite c off bs).steals = s.steals := rfl
@[simp] theorem State.lwrite_stealing (s : State) (c off : Nat) (bs : List Byte) : (s.lwrite c off bs).stealing = s.stealing := rfl
@[simp] theorem State.lwrite_hostMsgs (s : State) (c off : Nat) (bs : List Byte) : (s.lwrite c off bs).hostMsgs = s.hostMsgs := rfl
@[simp] theorem State.lwrite_tcache (s : State) (c off : Nat) (bs : List Byte) : (s.lwrite c off bs).tcache = s.tcache := rfl
@[simp] theorem State.lwrite_rdc (s : State) (c off : Nat) (bs : List Byte) : (s.lwrite c off bs).rdc = s.rdc := rfl
@[simp] theorem State.lwrite_wq (s : State) (c off : Nat) (bs : List Byte) : (s.lwrite c off bs).wq = s.wq := rfl
@[simp] theorem State.lwrite_regs (s : State) (c off : Nat) (bs : List Byte) : (s.lwrite c off bs).regs = s.regs := rfl
@[simp] theorem State.lwrite_fleet (s : State) (c off : Nat) (bs : List Byte) : (s.lwrite c off bs).fleet = s.fleet := rfl
@[simp] theorem State.lwrite_links (s : State) (c off : Nat) (bs : List Byte) : (s.lwrite c off bs).links = s.links := rfl
@[simp] theorem State.lwrite_captures (s : State) (c off : Nat) (bs : List Byte) : (s.lwrite c off bs).captures = s.captures := rfl
@[simp] theorem State.lwrite_counted (s : State) (c off : Nat) (bs : List Byte) : (s.lwrite c off bs).counted = s.counted := rfl
@[simp] theorem State.lwrite_cutDies (s : State) (c off : Nat) (bs : List Byte) : (s.lwrite c off bs).cutDies = s.cutDies := rfl
@[simp] theorem State.lwrite_buckets (s : State) (c off : Nat) (bs : List Byte) : (s.lwrite c off bs).buckets = s.buckets := rfl
@[simp] theorem State.lwrite_early (s : State) (c off : Nat) (bs : List Byte) : (s.lwrite c off bs).early = s.early := rfl
@[simp] theorem State.lwrite_sentBlocks (s : State) (c off : Nat) (bs : List Byte) : (s.lwrite c off bs).sentBlocks = s.sentBlocks := rfl
@[simp] theorem State.lwrite_portWait (s : State) (c off : Nat) (bs : List Byte) : (s.lwrite c off bs).portWait = s.portWait := rfl
@[simp] theorem State.lwrite_latWait (s : State) (c off : Nat) (bs : List Byte) : (s.lwrite c off bs).latWait = s.latWait := rfl
@[simp] theorem State.lwrite_sweep (s : State) (c off : Nat) (bs : List Byte) : (s.lwrite c off bs).sweep = s.sweep := rfl
@[simp] theorem State.lwrite_sweepAt (s : State) (c off : Nat) (bs : List Byte) : (s.lwrite c off bs).sweepAt = s.sweepAt := rfl
@[simp] theorem State.lwrite_flits (s : State) (c off : Nat) (bs : List Byte) : (s.lwrite c off bs).flits = s.flits := rfl
@[simp] theorem State.lwrite_sentFlits (s : State) (c off : Nat) (bs : List Byte) : (s.lwrite c off bs).sentFlits = s.sentFlits := rfl
@[simp] theorem State.lwrite_flitWait (s : State) (c off : Nat) (bs : List Byte) : (s.lwrite c off bs).flitWait = s.flitWait := rfl
@[simp] theorem State.lwrite_digest (s : State) (c off : Nat) (bs : List Byte) : (s.lwrite c off bs).digest = s.digest := rfl
@[simp] theorem State.lwrite_sentDigests (s : State) (c off : Nat) (bs : List Byte) : (s.lwrite c off bs).sentDigests = s.sentDigests := rfl
@[simp] theorem State.lwrite_heldDigests (s : State) (c off : Nat) (bs : List Byte) : (s.lwrite c off bs).heldDigests = s.heldDigests := rfl
@[simp] theorem State.lwrite_peers (s : State) (c off : Nat) (bs : List Byte) : (s.lwrite c off bs).peers = s.peers := rfl
@[simp] theorem State.lwrite_errClasses (s : State) (c off : Nat) (bs : List Byte) : (s.lwrite c off bs).errClasses = s.errClasses := rfl
@[simp] theorem State.lwrite_msixTable (s : State) (c off : Nat) (bs : List Byte) : (s.lwrite c off bs).msixTable = s.msixTable := rfl
@[simp] theorem State.lwrite_msixPending (s : State) (c off : Nat) (bs : List Byte) : (s.lwrite c off bs).msixPending = s.msixPending := rfl
@[simp] theorem State.lwrite_measures (s : State) (c off : Nat) (bs : List Byte) : (s.lwrite c off bs).measures = s.measures := rfl
@[simp] theorem State.lwrite_spdm (s : State) (c off : Nat) (bs : List Byte) : (s.lwrite c off bs).spdm = s.spdm := rfl
@[simp] theorem State.lwrite_hostRead (s : State) (c off : Nat) (bs : List Byte) : (s.lwrite c off bs).hostRead = s.hostRead := rfl
@[simp] theorem State.lwrite_throttled (s : State) (c off : Nat) (bs : List Byte) : (s.lwrite c off bs).throttled = s.throttled := rfl
@[simp] theorem State.lwrite_who (s : State) (c off : Nat) (bs : List Byte) : (s.lwrite c off bs).who = s.who := rfl

/-! ### `State.updTask` -/

@[simp] theorem State.updTask_gtime (s : State) (t : TaskId) (f : Task → Task) : (s.updTask t f).gtime = s.gtime := rfl
@[simp] theorem State.updTask_turn (s : State) (t : TaskId) (f : Task → Task) : (s.updTask t f).turn = s.turn := rfl
@[simp] theorem State.updTask_agenda (s : State) (t : TaskId) (f : Task → Task) : (s.updTask t f).agenda = s.agenda := rfl
@[simp] theorem State.updTask_free (s : State) (t : TaskId) (f : Task → Task) : (s.updTask t f).free = s.free := rfl
@[simp] theorem State.updTask_powered (s : State) (t : TaskId) (f : Task → Task) : (s.updTask t f).powered = s.powered := rfl
@[simp] theorem State.updTask_bootFail (s : State) (t : TaskId) (f : Task → Task) : (s.updTask t f).bootFail = s.bootFail := rfl
@[simp] theorem State.updTask_mem (s : State) (t : TaskId) (f : Task → Task) : (s.updTask t f).mem = s.mem := rfl
@[simp] theorem State.updTask_codes (s : State) (t : TaskId) (f : Task → Task) : (s.updTask t f).codes = s.codes := rfl
@[simp] theorem State.updTask_poison (s : State) (t : TaskId) (f : Task → Task) : (s.updTask t f).poison = s.poison := rfl
@[simp] theorem State.updTask_upsets (s : State) (t : TaskId) (f : Task → Task) : (s.updTask t f).upsets = s.upsets := rfl
@[simp] theorem State.updTask_gkey (s : State) (t : TaskId) (f : Task → Task) : (s.updTask t f).gkey = s.gkey := rfl
@[simp] theorem State.updTask_keyVer (s : State) (t : TaskId) (f : Task → Task) : (s.updTask t f).keyVer = s.keyVer := rfl
@[simp] theorem State.updTask_cores (s : State) (t : TaskId) (f : Task → Task) : (s.updTask t f).cores = s.cores := rfl
@[simp] theorem State.updTask_mxus (s : State) (t : TaskId) (f : Task → Task) : (s.updTask t f).mxus = s.mxus := rfl
@[simp] theorem State.updTask_launches (s : State) (t : TaskId) (f : Task → Task) : (s.updTask t f).launches = s.launches := rfl
@[simp] theorem State.updTask_nextKey (s : State) (t : TaskId) (f : Task → Task) : (s.updTask t f).nextKey = s.nextKey := rfl
@[simp] theorem State.updTask_nextNum (s : State) (t : TaskId) (f : Task → Task) : (s.updTask t f).nextNum = s.nextNum := rfl
@[simp] theorem State.updTask_arenas (s : State) (t : TaskId) (f : Task → Task) : (s.updTask t f).arenas = s.arenas := rfl
@[simp] theorem State.updTask_buffers (s : State) (t : TaskId) (f : Task → Task) : (s.updTask t f).buffers = s.buffers := rfl
@[simp] theorem State.updTask_nextHandle (s : State) (t : TaskId) (f : Task → Task) : (s.updTask t f).nextHandle = s.nextHandle := rfl
@[simp] theorem State.updTask_hostPages (s : State) (t : TaskId) (f : Task → Task) : (s.updTask t f).hostPages = s.hostPages := rfl
@[simp] theorem State.updTask_reported (s : State) (t : TaskId) (f : Task → Task) : (s.updTask t f).reported = s.reported := rfl
@[simp] theorem State.updTask_spillBits (s : State) (t : TaskId) (f : Task → Task) : (s.updTask t f).spillBits = s.spillBits := rfl
@[simp] theorem State.updTask_ready (s : State) (t : TaskId) (f : Task → Task) : (s.updTask t f).ready = s.ready := rfl
@[simp] theorem State.updTask_steals (s : State) (t : TaskId) (f : Task → Task) : (s.updTask t f).steals = s.steals := rfl
@[simp] theorem State.updTask_stealing (s : State) (t : TaskId) (f : Task → Task) : (s.updTask t f).stealing = s.stealing := rfl
@[simp] theorem State.updTask_hostMsgs (s : State) (t : TaskId) (f : Task → Task) : (s.updTask t f).hostMsgs = s.hostMsgs := rfl
@[simp] theorem State.updTask_tcache (s : State) (t : TaskId) (f : Task → Task) : (s.updTask t f).tcache = s.tcache := rfl
@[simp] theorem State.updTask_rdc (s : State) (t : TaskId) (f : Task → Task) : (s.updTask t f).rdc = s.rdc := rfl
@[simp] theorem State.updTask_wq (s : State) (t : TaskId) (f : Task → Task) : (s.updTask t f).wq = s.wq := rfl
@[simp] theorem State.updTask_regs (s : State) (t : TaskId) (f : Task → Task) : (s.updTask t f).regs = s.regs := rfl
@[simp] theorem State.updTask_fleet (s : State) (t : TaskId) (f : Task → Task) : (s.updTask t f).fleet = s.fleet := rfl
@[simp] theorem State.updTask_links (s : State) (t : TaskId) (f : Task → Task) : (s.updTask t f).links = s.links := rfl
@[simp] theorem State.updTask_captures (s : State) (t : TaskId) (f : Task → Task) : (s.updTask t f).captures = s.captures := rfl
@[simp] theorem State.updTask_counted (s : State) (t : TaskId) (f : Task → Task) : (s.updTask t f).counted = s.counted := rfl
@[simp] theorem State.updTask_cutDies (s : State) (t : TaskId) (f : Task → Task) : (s.updTask t f).cutDies = s.cutDies := rfl
@[simp] theorem State.updTask_buckets (s : State) (t : TaskId) (f : Task → Task) : (s.updTask t f).buckets = s.buckets := rfl
@[simp] theorem State.updTask_early (s : State) (t : TaskId) (f : Task → Task) : (s.updTask t f).early = s.early := rfl
@[simp] theorem State.updTask_sentBlocks (s : State) (t : TaskId) (f : Task → Task) : (s.updTask t f).sentBlocks = s.sentBlocks := rfl
@[simp] theorem State.updTask_portWait (s : State) (t : TaskId) (f : Task → Task) : (s.updTask t f).portWait = s.portWait := rfl
@[simp] theorem State.updTask_latWait (s : State) (t : TaskId) (f : Task → Task) : (s.updTask t f).latWait = s.latWait := rfl
@[simp] theorem State.updTask_sweep (s : State) (t : TaskId) (f : Task → Task) : (s.updTask t f).sweep = s.sweep := rfl
@[simp] theorem State.updTask_sweepAt (s : State) (t : TaskId) (f : Task → Task) : (s.updTask t f).sweepAt = s.sweepAt := rfl
@[simp] theorem State.updTask_flits (s : State) (t : TaskId) (f : Task → Task) : (s.updTask t f).flits = s.flits := rfl
@[simp] theorem State.updTask_sentFlits (s : State) (t : TaskId) (f : Task → Task) : (s.updTask t f).sentFlits = s.sentFlits := rfl
@[simp] theorem State.updTask_flitWait (s : State) (t : TaskId) (f : Task → Task) : (s.updTask t f).flitWait = s.flitWait := rfl
@[simp] theorem State.updTask_digest (s : State) (t : TaskId) (f : Task → Task) : (s.updTask t f).digest = s.digest := rfl
@[simp] theorem State.updTask_sentDigests (s : State) (t : TaskId) (f : Task → Task) : (s.updTask t f).sentDigests = s.sentDigests := rfl
@[simp] theorem State.updTask_heldDigests (s : State) (t : TaskId) (f : Task → Task) : (s.updTask t f).heldDigests = s.heldDigests := rfl
@[simp] theorem State.updTask_peers (s : State) (t : TaskId) (f : Task → Task) : (s.updTask t f).peers = s.peers := rfl
@[simp] theorem State.updTask_errClasses (s : State) (t : TaskId) (f : Task → Task) : (s.updTask t f).errClasses = s.errClasses := rfl
@[simp] theorem State.updTask_msixTable (s : State) (t : TaskId) (f : Task → Task) : (s.updTask t f).msixTable = s.msixTable := rfl
@[simp] theorem State.updTask_msixPending (s : State) (t : TaskId) (f : Task → Task) : (s.updTask t f).msixPending = s.msixPending := rfl
@[simp] theorem State.updTask_measures (s : State) (t : TaskId) (f : Task → Task) : (s.updTask t f).measures = s.measures := rfl
@[simp] theorem State.updTask_spdm (s : State) (t : TaskId) (f : Task → Task) : (s.updTask t f).spdm = s.spdm := rfl
@[simp] theorem State.updTask_hostRead (s : State) (t : TaskId) (f : Task → Task) : (s.updTask t f).hostRead = s.hostRead := rfl
@[simp] theorem State.updTask_throttled (s : State) (t : TaskId) (f : Task → Task) : (s.updTask t f).throttled = s.throttled := rfl
@[simp] theorem State.updTask_who (s : State) (t : TaskId) (f : Task → Task) : (s.updTask t f).who = s.who := rfl
@[simp] theorem State.updTask_core (s : State) (t : TaskId) (f : Task → Task) (c' : Nat) : (s.updTask t f).core c' = s.core c' := rfl
@[simp] theorem State.updTask_at (s : State) (t : TaskId) (f : Task → Task) (w' : Who) : (s.updTask t f).at w' = s.at w' := rfl
@[simp] theorem State.updTask_th (s : State) (t : TaskId) (f : Task → Task) (w' : Who) : (s.updTask t f).th w' = s.th w' := rfl

/-! ### `State.updLaunch` -/

@[simp] theorem State.updLaunch_gtime (s : State) (n : Nat) (f : Launch → Launch) : (s.updLaunch n f).gtime = s.gtime := rfl
@[simp] theorem State.updLaunch_turn (s : State) (n : Nat) (f : Launch → Launch) : (s.updLaunch n f).turn = s.turn := rfl
@[simp] theorem State.updLaunch_agenda (s : State) (n : Nat) (f : Launch → Launch) : (s.updLaunch n f).agenda = s.agenda := rfl
@[simp] theorem State.updLaunch_free (s : State) (n : Nat) (f : Launch → Launch) : (s.updLaunch n f).free = s.free := rfl
@[simp] theorem State.updLaunch_powered (s : State) (n : Nat) (f : Launch → Launch) : (s.updLaunch n f).powered = s.powered := rfl
@[simp] theorem State.updLaunch_bootFail (s : State) (n : Nat) (f : Launch → Launch) : (s.updLaunch n f).bootFail = s.bootFail := rfl
@[simp] theorem State.updLaunch_mem (s : State) (n : Nat) (f : Launch → Launch) : (s.updLaunch n f).mem = s.mem := rfl
@[simp] theorem State.updLaunch_codes (s : State) (n : Nat) (f : Launch → Launch) : (s.updLaunch n f).codes = s.codes := rfl
@[simp] theorem State.updLaunch_poison (s : State) (n : Nat) (f : Launch → Launch) : (s.updLaunch n f).poison = s.poison := rfl
@[simp] theorem State.updLaunch_upsets (s : State) (n : Nat) (f : Launch → Launch) : (s.updLaunch n f).upsets = s.upsets := rfl
@[simp] theorem State.updLaunch_gkey (s : State) (n : Nat) (f : Launch → Launch) : (s.updLaunch n f).gkey = s.gkey := rfl
@[simp] theorem State.updLaunch_keyVer (s : State) (n : Nat) (f : Launch → Launch) : (s.updLaunch n f).keyVer = s.keyVer := rfl
@[simp] theorem State.updLaunch_cores (s : State) (n : Nat) (f : Launch → Launch) : (s.updLaunch n f).cores = s.cores := rfl
@[simp] theorem State.updLaunch_mxus (s : State) (n : Nat) (f : Launch → Launch) : (s.updLaunch n f).mxus = s.mxus := rfl
@[simp] theorem State.updLaunch_tasks (s : State) (n : Nat) (f : Launch → Launch) : (s.updLaunch n f).tasks = s.tasks := rfl
@[simp] theorem State.updLaunch_nextKey (s : State) (n : Nat) (f : Launch → Launch) : (s.updLaunch n f).nextKey = s.nextKey := rfl
@[simp] theorem State.updLaunch_nextNum (s : State) (n : Nat) (f : Launch → Launch) : (s.updLaunch n f).nextNum = s.nextNum := rfl
@[simp] theorem State.updLaunch_arenas (s : State) (n : Nat) (f : Launch → Launch) : (s.updLaunch n f).arenas = s.arenas := rfl
@[simp] theorem State.updLaunch_buffers (s : State) (n : Nat) (f : Launch → Launch) : (s.updLaunch n f).buffers = s.buffers := rfl
@[simp] theorem State.updLaunch_nextHandle (s : State) (n : Nat) (f : Launch → Launch) : (s.updLaunch n f).nextHandle = s.nextHandle := rfl
@[simp] theorem State.updLaunch_hostPages (s : State) (n : Nat) (f : Launch → Launch) : (s.updLaunch n f).hostPages = s.hostPages := rfl
@[simp] theorem State.updLaunch_reported (s : State) (n : Nat) (f : Launch → Launch) : (s.updLaunch n f).reported = s.reported := rfl
@[simp] theorem State.updLaunch_spillBits (s : State) (n : Nat) (f : Launch → Launch) : (s.updLaunch n f).spillBits = s.spillBits := rfl
@[simp] theorem State.updLaunch_ready (s : State) (n : Nat) (f : Launch → Launch) : (s.updLaunch n f).ready = s.ready := rfl
@[simp] theorem State.updLaunch_steals (s : State) (n : Nat) (f : Launch → Launch) : (s.updLaunch n f).steals = s.steals := rfl
@[simp] theorem State.updLaunch_stealing (s : State) (n : Nat) (f : Launch → Launch) : (s.updLaunch n f).stealing = s.stealing := rfl
@[simp] theorem State.updLaunch_hostMsgs (s : State) (n : Nat) (f : Launch → Launch) : (s.updLaunch n f).hostMsgs = s.hostMsgs := rfl
@[simp] theorem State.updLaunch_tcache (s : State) (n : Nat) (f : Launch → Launch) : (s.updLaunch n f).tcache = s.tcache := rfl
@[simp] theorem State.updLaunch_rdc (s : State) (n : Nat) (f : Launch → Launch) : (s.updLaunch n f).rdc = s.rdc := rfl
@[simp] theorem State.updLaunch_wq (s : State) (n : Nat) (f : Launch → Launch) : (s.updLaunch n f).wq = s.wq := rfl
@[simp] theorem State.updLaunch_regs (s : State) (n : Nat) (f : Launch → Launch) : (s.updLaunch n f).regs = s.regs := rfl
@[simp] theorem State.updLaunch_fleet (s : State) (n : Nat) (f : Launch → Launch) : (s.updLaunch n f).fleet = s.fleet := rfl
@[simp] theorem State.updLaunch_links (s : State) (n : Nat) (f : Launch → Launch) : (s.updLaunch n f).links = s.links := rfl
@[simp] theorem State.updLaunch_captures (s : State) (n : Nat) (f : Launch → Launch) : (s.updLaunch n f).captures = s.captures := rfl
@[simp] theorem State.updLaunch_counted (s : State) (n : Nat) (f : Launch → Launch) : (s.updLaunch n f).counted = s.counted := rfl
@[simp] theorem State.updLaunch_cutDies (s : State) (n : Nat) (f : Launch → Launch) : (s.updLaunch n f).cutDies = s.cutDies := rfl
@[simp] theorem State.updLaunch_buckets (s : State) (n : Nat) (f : Launch → Launch) : (s.updLaunch n f).buckets = s.buckets := rfl
@[simp] theorem State.updLaunch_early (s : State) (n : Nat) (f : Launch → Launch) : (s.updLaunch n f).early = s.early := rfl
@[simp] theorem State.updLaunch_sentBlocks (s : State) (n : Nat) (f : Launch → Launch) : (s.updLaunch n f).sentBlocks = s.sentBlocks := rfl
@[simp] theorem State.updLaunch_portWait (s : State) (n : Nat) (f : Launch → Launch) : (s.updLaunch n f).portWait = s.portWait := rfl
@[simp] theorem State.updLaunch_latWait (s : State) (n : Nat) (f : Launch → Launch) : (s.updLaunch n f).latWait = s.latWait := rfl
@[simp] theorem State.updLaunch_sweep (s : State) (n : Nat) (f : Launch → Launch) : (s.updLaunch n f).sweep = s.sweep := rfl
@[simp] theorem State.updLaunch_sweepAt (s : State) (n : Nat) (f : Launch → Launch) : (s.updLaunch n f).sweepAt = s.sweepAt := rfl
@[simp] theorem State.updLaunch_flits (s : State) (n : Nat) (f : Launch → Launch) : (s.updLaunch n f).flits = s.flits := rfl
@[simp] theorem State.updLaunch_sentFlits (s : State) (n : Nat) (f : Launch → Launch) : (s.updLaunch n f).sentFlits = s.sentFlits := rfl
@[simp] theorem State.updLaunch_flitWait (s : State) (n : Nat) (f : Launch → Launch) : (s.updLaunch n f).flitWait = s.flitWait := rfl
@[simp] theorem State.updLaunch_digest (s : State) (n : Nat) (f : Launch → Launch) : (s.updLaunch n f).digest = s.digest := rfl
@[simp] theorem State.updLaunch_sentDigests (s : State) (n : Nat) (f : Launch → Launch) : (s.updLaunch n f).sentDigests = s.sentDigests := rfl
@[simp] theorem State.updLaunch_heldDigests (s : State) (n : Nat) (f : Launch → Launch) : (s.updLaunch n f).heldDigests = s.heldDigests := rfl
@[simp] theorem State.updLaunch_peers (s : State) (n : Nat) (f : Launch → Launch) : (s.updLaunch n f).peers = s.peers := rfl
@[simp] theorem State.updLaunch_errClasses (s : State) (n : Nat) (f : Launch → Launch) : (s.updLaunch n f).errClasses = s.errClasses := rfl
@[simp] theorem State.updLaunch_msixTable (s : State) (n : Nat) (f : Launch → Launch) : (s.updLaunch n f).msixTable = s.msixTable := rfl
@[simp] theorem State.updLaunch_msixPending (s : State) (n : Nat) (f : Launch → Launch) : (s.updLaunch n f).msixPending = s.msixPending := rfl
@[simp] theorem State.updLaunch_measures (s : State) (n : Nat) (f : Launch → Launch) : (s.updLaunch n f).measures = s.measures := rfl
@[simp] theorem State.updLaunch_spdm (s : State) (n : Nat) (f : Launch → Launch) : (s.updLaunch n f).spdm = s.spdm := rfl
@[simp] theorem State.updLaunch_hostRead (s : State) (n : Nat) (f : Launch → Launch) : (s.updLaunch n f).hostRead = s.hostRead := rfl
@[simp] theorem State.updLaunch_throttled (s : State) (n : Nat) (f : Launch → Launch) : (s.updLaunch n f).throttled = s.throttled := rfl
@[simp] theorem State.updLaunch_who (s : State) (n : Nat) (f : Launch → Launch) : (s.updLaunch n f).who = s.who := rfl
@[simp] theorem State.updLaunch_core (s : State) (n : Nat) (f : Launch → Launch) (c' : Nat) : (s.updLaunch n f).core c' = s.core c' := rfl
@[simp] theorem State.updLaunch_at (s : State) (n : Nat) (f : Launch → Launch) (w' : Who) : (s.updLaunch n f).at w' = s.at w' := rfl
@[simp] theorem State.updLaunch_th (s : State) (n : Nat) (f : Launch → Launch) (w' : Who) : (s.updLaunch n f).th w' = s.th w' := rfl

/-! ### `State.updCb` -/

@[simp] theorem State.updCb_gtime (s : State) (c : Nat) (n : Fin 32) (f : Cb → Cb) : (s.updCb c n f).gtime = s.gtime := rfl
@[simp] theorem State.updCb_turn (s : State) (c : Nat) (n : Fin 32) (f : Cb → Cb) : (s.updCb c n f).turn = s.turn := rfl
@[simp] theorem State.updCb_agenda (s : State) (c : Nat) (n : Fin 32) (f : Cb → Cb) : (s.updCb c n f).agenda = s.agenda := rfl
@[simp] theorem State.updCb_free (s : State) (c : Nat) (n : Fin 32) (f : Cb → Cb) : (s.updCb c n f).free = s.free := rfl
@[simp] theorem State.updCb_powered (s : State) (c : Nat) (n : Fin 32) (f : Cb → Cb) : (s.updCb c n f).powered = s.powered := rfl
@[simp] theorem State.updCb_bootFail (s : State) (c : Nat) (n : Fin 32) (f : Cb → Cb) : (s.updCb c n f).bootFail = s.bootFail := rfl
@[simp] theorem State.updCb_mem (s : State) (c : Nat) (n : Fin 32) (f : Cb → Cb) : (s.updCb c n f).mem = s.mem := rfl
@[simp] theorem State.updCb_codes (s : State) (c : Nat) (n : Fin 32) (f : Cb → Cb) : (s.updCb c n f).codes = s.codes := rfl
@[simp] theorem State.updCb_poison (s : State) (c : Nat) (n : Fin 32) (f : Cb → Cb) : (s.updCb c n f).poison = s.poison := rfl
@[simp] theorem State.updCb_upsets (s : State) (c : Nat) (n : Fin 32) (f : Cb → Cb) : (s.updCb c n f).upsets = s.upsets := rfl
@[simp] theorem State.updCb_gkey (s : State) (c : Nat) (n : Fin 32) (f : Cb → Cb) : (s.updCb c n f).gkey = s.gkey := rfl
@[simp] theorem State.updCb_keyVer (s : State) (c : Nat) (n : Fin 32) (f : Cb → Cb) : (s.updCb c n f).keyVer = s.keyVer := rfl
@[simp] theorem State.updCb_mxus (s : State) (c : Nat) (n : Fin 32) (f : Cb → Cb) : (s.updCb c n f).mxus = s.mxus := rfl
@[simp] theorem State.updCb_tasks (s : State) (c : Nat) (n : Fin 32) (f : Cb → Cb) : (s.updCb c n f).tasks = s.tasks := rfl
@[simp] theorem State.updCb_launches (s : State) (c : Nat) (n : Fin 32) (f : Cb → Cb) : (s.updCb c n f).launches = s.launches := rfl
@[simp] theorem State.updCb_nextKey (s : State) (c : Nat) (n : Fin 32) (f : Cb → Cb) : (s.updCb c n f).nextKey = s.nextKey := rfl
@[simp] theorem State.updCb_nextNum (s : State) (c : Nat) (n : Fin 32) (f : Cb → Cb) : (s.updCb c n f).nextNum = s.nextNum := rfl
@[simp] theorem State.updCb_arenas (s : State) (c : Nat) (n : Fin 32) (f : Cb → Cb) : (s.updCb c n f).arenas = s.arenas := rfl
@[simp] theorem State.updCb_buffers (s : State) (c : Nat) (n : Fin 32) (f : Cb → Cb) : (s.updCb c n f).buffers = s.buffers := rfl
@[simp] theorem State.updCb_nextHandle (s : State) (c : Nat) (n : Fin 32) (f : Cb → Cb) : (s.updCb c n f).nextHandle = s.nextHandle := rfl
@[simp] theorem State.updCb_hostPages (s : State) (c : Nat) (n : Fin 32) (f : Cb → Cb) : (s.updCb c n f).hostPages = s.hostPages := rfl
@[simp] theorem State.updCb_reported (s : State) (c : Nat) (n : Fin 32) (f : Cb → Cb) : (s.updCb c n f).reported = s.reported := rfl
@[simp] theorem State.updCb_spillBits (s : State) (c : Nat) (n : Fin 32) (f : Cb → Cb) : (s.updCb c n f).spillBits = s.spillBits := rfl
@[simp] theorem State.updCb_ready (s : State) (c : Nat) (n : Fin 32) (f : Cb → Cb) : (s.updCb c n f).ready = s.ready := rfl
@[simp] theorem State.updCb_steals (s : State) (c : Nat) (n : Fin 32) (f : Cb → Cb) : (s.updCb c n f).steals = s.steals := rfl
@[simp] theorem State.updCb_stealing (s : State) (c : Nat) (n : Fin 32) (f : Cb → Cb) : (s.updCb c n f).stealing = s.stealing := rfl
@[simp] theorem State.updCb_hostMsgs (s : State) (c : Nat) (n : Fin 32) (f : Cb → Cb) : (s.updCb c n f).hostMsgs = s.hostMsgs := rfl
@[simp] theorem State.updCb_tcache (s : State) (c : Nat) (n : Fin 32) (f : Cb → Cb) : (s.updCb c n f).tcache = s.tcache := rfl
@[simp] theorem State.updCb_rdc (s : State) (c : Nat) (n : Fin 32) (f : Cb → Cb) : (s.updCb c n f).rdc = s.rdc := rfl
@[simp] theorem State.updCb_wq (s : State) (c : Nat) (n : Fin 32) (f : Cb → Cb) : (s.updCb c n f).wq = s.wq := rfl
@[simp] theorem State.updCb_regs (s : State) (c : Nat) (n : Fin 32) (f : Cb → Cb) : (s.updCb c n f).regs = s.regs := rfl
@[simp] theorem State.updCb_fleet (s : State) (c : Nat) (n : Fin 32) (f : Cb → Cb) : (s.updCb c n f).fleet = s.fleet := rfl
@[simp] theorem State.updCb_links (s : State) (c : Nat) (n : Fin 32) (f : Cb → Cb) : (s.updCb c n f).links = s.links := rfl
@[simp] theorem State.updCb_captures (s : State) (c : Nat) (n : Fin 32) (f : Cb → Cb) : (s.updCb c n f).captures = s.captures := rfl
@[simp] theorem State.updCb_counted (s : State) (c : Nat) (n : Fin 32) (f : Cb → Cb) : (s.updCb c n f).counted = s.counted := rfl
@[simp] theorem State.updCb_cutDies (s : State) (c : Nat) (n : Fin 32) (f : Cb → Cb) : (s.updCb c n f).cutDies = s.cutDies := rfl
@[simp] theorem State.updCb_buckets (s : State) (c : Nat) (n : Fin 32) (f : Cb → Cb) : (s.updCb c n f).buckets = s.buckets := rfl
@[simp] theorem State.updCb_early (s : State) (c : Nat) (n : Fin 32) (f : Cb → Cb) : (s.updCb c n f).early = s.early := rfl
@[simp] theorem State.updCb_sentBlocks (s : State) (c : Nat) (n : Fin 32) (f : Cb → Cb) : (s.updCb c n f).sentBlocks = s.sentBlocks := rfl
@[simp] theorem State.updCb_portWait (s : State) (c : Nat) (n : Fin 32) (f : Cb → Cb) : (s.updCb c n f).portWait = s.portWait := rfl
@[simp] theorem State.updCb_latWait (s : State) (c : Nat) (n : Fin 32) (f : Cb → Cb) : (s.updCb c n f).latWait = s.latWait := rfl
@[simp] theorem State.updCb_sweep (s : State) (c : Nat) (n : Fin 32) (f : Cb → Cb) : (s.updCb c n f).sweep = s.sweep := rfl
@[simp] theorem State.updCb_sweepAt (s : State) (c : Nat) (n : Fin 32) (f : Cb → Cb) : (s.updCb c n f).sweepAt = s.sweepAt := rfl
@[simp] theorem State.updCb_flits (s : State) (c : Nat) (n : Fin 32) (f : Cb → Cb) : (s.updCb c n f).flits = s.flits := rfl
@[simp] theorem State.updCb_sentFlits (s : State) (c : Nat) (n : Fin 32) (f : Cb → Cb) : (s.updCb c n f).sentFlits = s.sentFlits := rfl
@[simp] theorem State.updCb_flitWait (s : State) (c : Nat) (n : Fin 32) (f : Cb → Cb) : (s.updCb c n f).flitWait = s.flitWait := rfl
@[simp] theorem State.updCb_digest (s : State) (c : Nat) (n : Fin 32) (f : Cb → Cb) : (s.updCb c n f).digest = s.digest := rfl
@[simp] theorem State.updCb_sentDigests (s : State) (c : Nat) (n : Fin 32) (f : Cb → Cb) : (s.updCb c n f).sentDigests = s.sentDigests := rfl
@[simp] theorem State.updCb_heldDigests (s : State) (c : Nat) (n : Fin 32) (f : Cb → Cb) : (s.updCb c n f).heldDigests = s.heldDigests := rfl
@[simp] theorem State.updCb_peers (s : State) (c : Nat) (n : Fin 32) (f : Cb → Cb) : (s.updCb c n f).peers = s.peers := rfl
@[simp] theorem State.updCb_errClasses (s : State) (c : Nat) (n : Fin 32) (f : Cb → Cb) : (s.updCb c n f).errClasses = s.errClasses := rfl
@[simp] theorem State.updCb_msixTable (s : State) (c : Nat) (n : Fin 32) (f : Cb → Cb) : (s.updCb c n f).msixTable = s.msixTable := rfl
@[simp] theorem State.updCb_msixPending (s : State) (c : Nat) (n : Fin 32) (f : Cb → Cb) : (s.updCb c n f).msixPending = s.msixPending := rfl
@[simp] theorem State.updCb_measures (s : State) (c : Nat) (n : Fin 32) (f : Cb → Cb) : (s.updCb c n f).measures = s.measures := rfl
@[simp] theorem State.updCb_spdm (s : State) (c : Nat) (n : Fin 32) (f : Cb → Cb) : (s.updCb c n f).spdm = s.spdm := rfl
@[simp] theorem State.updCb_hostRead (s : State) (c : Nat) (n : Fin 32) (f : Cb → Cb) : (s.updCb c n f).hostRead = s.hostRead := rfl
@[simp] theorem State.updCb_throttled (s : State) (c : Nat) (n : Fin 32) (f : Cb → Cb) : (s.updCb c n f).throttled = s.throttled := rfl
@[simp] theorem State.updCb_who (s : State) (c : Nat) (n : Fin 32) (f : Cb → Cb) : (s.updCb c n f).who = s.who := rfl

/-! ### `State.retire` -/

@[simp] theorem State.retire_gtime (s : State) (w : Who) (i : Instr) : (s.retire w i).gtime = s.gtime := by unfold State.retire State.retireTo; split <;> rfl
@[simp] theorem State.retire_turn (s : State) (w : Who) (i : Instr) : (s.retire w i).turn = s.turn := by unfold State.retire State.retireTo; split <;> rfl
@[simp] theorem State.retire_free (s : State) (w : Who) (i : Instr) : (s.retire w i).free = s.free := by unfold State.retire State.retireTo; split <;> rfl
@[simp] theorem State.retire_powered (s : State) (w : Who) (i : Instr) : (s.retire w i).powered = s.powered := by unfold State.retire State.retireTo; split <;> rfl
@[simp] theorem State.retire_bootFail (s : State) (w : Who) (i : Instr) : (s.retire w i).bootFail = s.bootFail := by unfold State.retire State.retireTo; split <;> rfl
@[simp] theorem State.retire_mem (s : State) (w : Who) (i : Instr) : (s.retire w i).mem = s.mem := by unfold State.retire State.retireTo; split <;> rfl
@[simp] theorem State.retire_codes (s : State) (w : Who) (i : Instr) : (s.retire w i).codes = s.codes := by unfold State.retire State.retireTo; split <;> rfl
@[simp] theorem State.retire_poison (s : State) (w : Who) (i : Instr) : (s.retire w i).poison = s.poison := by unfold State.retire State.retireTo; split <;> rfl
@[simp] theorem State.retire_upsets (s : State) (w : Who) (i : Instr) : (s.retire w i).upsets = s.upsets := by unfold State.retire State.retireTo; split <;> rfl
@[simp] theorem State.retire_gkey (s : State) (w : Who) (i : Instr) : (s.retire w i).gkey = s.gkey := by unfold State.retire State.retireTo; split <;> rfl
@[simp] theorem State.retire_keyVer (s : State) (w : Who) (i : Instr) : (s.retire w i).keyVer = s.keyVer := by unfold State.retire State.retireTo; split <;> rfl
@[simp] theorem State.retire_mxus (s : State) (w : Who) (i : Instr) : (s.retire w i).mxus = s.mxus := by unfold State.retire State.retireTo; split <;> rfl
@[simp] theorem State.retire_tasks (s : State) (w : Who) (i : Instr) : (s.retire w i).tasks = s.tasks := by unfold State.retire State.retireTo; split <;> rfl
@[simp] theorem State.retire_launches (s : State) (w : Who) (i : Instr) : (s.retire w i).launches = s.launches := by unfold State.retire State.retireTo; split <;> rfl
@[simp] theorem State.retire_nextKey (s : State) (w : Who) (i : Instr) : (s.retire w i).nextKey = s.nextKey := by unfold State.retire State.retireTo; split <;> rfl
@[simp] theorem State.retire_nextNum (s : State) (w : Who) (i : Instr) : (s.retire w i).nextNum = s.nextNum := by unfold State.retire State.retireTo; split <;> rfl
@[simp] theorem State.retire_arenas (s : State) (w : Who) (i : Instr) : (s.retire w i).arenas = s.arenas := by unfold State.retire State.retireTo; split <;> rfl
@[simp] theorem State.retire_buffers (s : State) (w : Who) (i : Instr) : (s.retire w i).buffers = s.buffers := by unfold State.retire State.retireTo; split <;> rfl
@[simp] theorem State.retire_nextHandle (s : State) (w : Who) (i : Instr) : (s.retire w i).nextHandle = s.nextHandle := by unfold State.retire State.retireTo; split <;> rfl
@[simp] theorem State.retire_hostPages (s : State) (w : Who) (i : Instr) : (s.retire w i).hostPages = s.hostPages := by unfold State.retire State.retireTo; split <;> rfl
@[simp] theorem State.retire_reported (s : State) (w : Who) (i : Instr) : (s.retire w i).reported = s.reported := by unfold State.retire State.retireTo; split <;> rfl
@[simp] theorem State.retire_spillBits (s : State) (w : Who) (i : Instr) : (s.retire w i).spillBits = s.spillBits := by unfold State.retire State.retireTo; split <;> rfl
@[simp] theorem State.retire_ready (s : State) (w : Who) (i : Instr) : (s.retire w i).ready = s.ready := by unfold State.retire State.retireTo; split <;> rfl
@[simp] theorem State.retire_steals (s : State) (w : Who) (i : Instr) : (s.retire w i).steals = s.steals := by unfold State.retire State.retireTo; split <;> rfl
@[simp] theorem State.retire_stealing (s : State) (w : Who) (i : Instr) : (s.retire w i).stealing = s.stealing := by unfold State.retire State.retireTo; split <;> rfl
@[simp] theorem State.retire_hostMsgs (s : State) (w : Who) (i : Instr) : (s.retire w i).hostMsgs = s.hostMsgs := by unfold State.retire State.retireTo; split <;> rfl
@[simp] theorem State.retire_tcache (s : State) (w : Who) (i : Instr) : (s.retire w i).tcache = s.tcache := by unfold State.retire State.retireTo; split <;> rfl
@[simp] theorem State.retire_rdc (s : State) (w : Who) (i : Instr) : (s.retire w i).rdc = s.rdc := by unfold State.retire State.retireTo; split <;> rfl
@[simp] theorem State.retire_wq (s : State) (w : Who) (i : Instr) : (s.retire w i).wq = s.wq := by unfold State.retire State.retireTo; split <;> rfl
@[simp] theorem State.retire_regs (s : State) (w : Who) (i : Instr) : (s.retire w i).regs = s.regs := by unfold State.retire State.retireTo; split <;> rfl
@[simp] theorem State.retire_fleet (s : State) (w : Who) (i : Instr) : (s.retire w i).fleet = s.fleet := by unfold State.retire State.retireTo; split <;> rfl
@[simp] theorem State.retire_links (s : State) (w : Who) (i : Instr) : (s.retire w i).links = s.links := by unfold State.retire State.retireTo; split <;> rfl
@[simp] theorem State.retire_captures (s : State) (w : Who) (i : Instr) : (s.retire w i).captures = s.captures := by unfold State.retire State.retireTo; split <;> rfl
@[simp] theorem State.retire_counted (s : State) (w : Who) (i : Instr) : (s.retire w i).counted = s.counted := by unfold State.retire State.retireTo; split <;> rfl
@[simp] theorem State.retire_cutDies (s : State) (w : Who) (i : Instr) : (s.retire w i).cutDies = s.cutDies := by unfold State.retire State.retireTo; split <;> rfl
@[simp] theorem State.retire_buckets (s : State) (w : Who) (i : Instr) : (s.retire w i).buckets = s.buckets := by unfold State.retire State.retireTo; split <;> rfl
@[simp] theorem State.retire_early (s : State) (w : Who) (i : Instr) : (s.retire w i).early = s.early := by unfold State.retire State.retireTo; split <;> rfl
@[simp] theorem State.retire_sentBlocks (s : State) (w : Who) (i : Instr) : (s.retire w i).sentBlocks = s.sentBlocks := by unfold State.retire State.retireTo; split <;> rfl
@[simp] theorem State.retire_portWait (s : State) (w : Who) (i : Instr) : (s.retire w i).portWait = s.portWait := by unfold State.retire State.retireTo; split <;> rfl
@[simp] theorem State.retire_latWait (s : State) (w : Who) (i : Instr) : (s.retire w i).latWait = s.latWait := by unfold State.retire State.retireTo; split <;> rfl
@[simp] theorem State.retire_sweep (s : State) (w : Who) (i : Instr) : (s.retire w i).sweep = s.sweep := by unfold State.retire State.retireTo; split <;> rfl
@[simp] theorem State.retire_sweepAt (s : State) (w : Who) (i : Instr) : (s.retire w i).sweepAt = s.sweepAt := by unfold State.retire State.retireTo; split <;> rfl
@[simp] theorem State.retire_flits (s : State) (w : Who) (i : Instr) : (s.retire w i).flits = s.flits := by unfold State.retire State.retireTo; split <;> rfl
@[simp] theorem State.retire_sentFlits (s : State) (w : Who) (i : Instr) : (s.retire w i).sentFlits = s.sentFlits := by unfold State.retire State.retireTo; split <;> rfl
@[simp] theorem State.retire_flitWait (s : State) (w : Who) (i : Instr) : (s.retire w i).flitWait = s.flitWait := by unfold State.retire State.retireTo; split <;> rfl
@[simp] theorem State.retire_digest (s : State) (w : Who) (i : Instr) : (s.retire w i).digest = s.digest := by unfold State.retire State.retireTo; split <;> rfl
@[simp] theorem State.retire_sentDigests (s : State) (w : Who) (i : Instr) : (s.retire w i).sentDigests = s.sentDigests := by unfold State.retire State.retireTo; split <;> rfl
@[simp] theorem State.retire_heldDigests (s : State) (w : Who) (i : Instr) : (s.retire w i).heldDigests = s.heldDigests := by unfold State.retire State.retireTo; split <;> rfl
@[simp] theorem State.retire_peers (s : State) (w : Who) (i : Instr) : (s.retire w i).peers = s.peers := by unfold State.retire State.retireTo; split <;> rfl
@[simp] theorem State.retire_errClasses (s : State) (w : Who) (i : Instr) : (s.retire w i).errClasses = s.errClasses := by unfold State.retire State.retireTo; split <;> rfl
@[simp] theorem State.retire_msixTable (s : State) (w : Who) (i : Instr) : (s.retire w i).msixTable = s.msixTable := by unfold State.retire State.retireTo; split <;> rfl
@[simp] theorem State.retire_msixPending (s : State) (w : Who) (i : Instr) : (s.retire w i).msixPending = s.msixPending := by unfold State.retire State.retireTo; split <;> rfl
@[simp] theorem State.retire_measures (s : State) (w : Who) (i : Instr) : (s.retire w i).measures = s.measures := by unfold State.retire State.retireTo; split <;> rfl
@[simp] theorem State.retire_spdm (s : State) (w : Who) (i : Instr) : (s.retire w i).spdm = s.spdm := by unfold State.retire State.retireTo; split <;> rfl
@[simp] theorem State.retire_hostRead (s : State) (w : Who) (i : Instr) : (s.retire w i).hostRead = s.hostRead := by unfold State.retire State.retireTo; split <;> rfl
@[simp] theorem State.retire_throttled (s : State) (w : Who) (i : Instr) : (s.retire w i).throttled = s.throttled := by unfold State.retire State.retireTo; split <;> rfl
@[simp] theorem State.retire_who (s : State) (w : Who) (i : Instr) : (s.retire w i).who = s.who := by unfold State.retire State.retireTo; split <;> rfl

/-! ### `State.retireVar` -/

@[simp] theorem State.retireVar_gtime (s : State) (w : Who) (i : Instr) : (s.retireVar w i).gtime = s.gtime := rfl
@[simp] theorem State.retireVar_turn (s : State) (w : Who) (i : Instr) : (s.retireVar w i).turn = s.turn := rfl
@[simp] theorem State.retireVar_free (s : State) (w : Who) (i : Instr) : (s.retireVar w i).free = s.free := rfl
@[simp] theorem State.retireVar_powered (s : State) (w : Who) (i : Instr) : (s.retireVar w i).powered = s.powered := rfl
@[simp] theorem State.retireVar_bootFail (s : State) (w : Who) (i : Instr) : (s.retireVar w i).bootFail = s.bootFail := rfl
@[simp] theorem State.retireVar_mem (s : State) (w : Who) (i : Instr) : (s.retireVar w i).mem = s.mem := rfl
@[simp] theorem State.retireVar_codes (s : State) (w : Who) (i : Instr) : (s.retireVar w i).codes = s.codes := rfl
@[simp] theorem State.retireVar_poison (s : State) (w : Who) (i : Instr) : (s.retireVar w i).poison = s.poison := rfl
@[simp] theorem State.retireVar_upsets (s : State) (w : Who) (i : Instr) : (s.retireVar w i).upsets = s.upsets := rfl
@[simp] theorem State.retireVar_gkey (s : State) (w : Who) (i : Instr) : (s.retireVar w i).gkey = s.gkey := rfl
@[simp] theorem State.retireVar_keyVer (s : State) (w : Who) (i : Instr) : (s.retireVar w i).keyVer = s.keyVer := rfl
@[simp] theorem State.retireVar_mxus (s : State) (w : Who) (i : Instr) : (s.retireVar w i).mxus = s.mxus := rfl
@[simp] theorem State.retireVar_tasks (s : State) (w : Who) (i : Instr) : (s.retireVar w i).tasks = s.tasks := rfl
@[simp] theorem State.retireVar_launches (s : State) (w : Who) (i : Instr) : (s.retireVar w i).launches = s.launches := rfl
@[simp] theorem State.retireVar_nextKey (s : State) (w : Who) (i : Instr) : (s.retireVar w i).nextKey = s.nextKey := rfl
@[simp] theorem State.retireVar_nextNum (s : State) (w : Who) (i : Instr) : (s.retireVar w i).nextNum = s.nextNum := rfl
@[simp] theorem State.retireVar_arenas (s : State) (w : Who) (i : Instr) : (s.retireVar w i).arenas = s.arenas := rfl
@[simp] theorem State.retireVar_buffers (s : State) (w : Who) (i : Instr) : (s.retireVar w i).buffers = s.buffers := rfl
@[simp] theorem State.retireVar_nextHandle (s : State) (w : Who) (i : Instr) : (s.retireVar w i).nextHandle = s.nextHandle := rfl
@[simp] theorem State.retireVar_hostPages (s : State) (w : Who) (i : Instr) : (s.retireVar w i).hostPages = s.hostPages := rfl
@[simp] theorem State.retireVar_reported (s : State) (w : Who) (i : Instr) : (s.retireVar w i).reported = s.reported := rfl
@[simp] theorem State.retireVar_spillBits (s : State) (w : Who) (i : Instr) : (s.retireVar w i).spillBits = s.spillBits := rfl
@[simp] theorem State.retireVar_ready (s : State) (w : Who) (i : Instr) : (s.retireVar w i).ready = s.ready := rfl
@[simp] theorem State.retireVar_steals (s : State) (w : Who) (i : Instr) : (s.retireVar w i).steals = s.steals := rfl
@[simp] theorem State.retireVar_stealing (s : State) (w : Who) (i : Instr) : (s.retireVar w i).stealing = s.stealing := rfl
@[simp] theorem State.retireVar_hostMsgs (s : State) (w : Who) (i : Instr) : (s.retireVar w i).hostMsgs = s.hostMsgs := rfl
@[simp] theorem State.retireVar_tcache (s : State) (w : Who) (i : Instr) : (s.retireVar w i).tcache = s.tcache := rfl
@[simp] theorem State.retireVar_rdc (s : State) (w : Who) (i : Instr) : (s.retireVar w i).rdc = s.rdc := rfl
@[simp] theorem State.retireVar_wq (s : State) (w : Who) (i : Instr) : (s.retireVar w i).wq = s.wq := rfl
@[simp] theorem State.retireVar_regs (s : State) (w : Who) (i : Instr) : (s.retireVar w i).regs = s.regs := rfl
@[simp] theorem State.retireVar_fleet (s : State) (w : Who) (i : Instr) : (s.retireVar w i).fleet = s.fleet := rfl
@[simp] theorem State.retireVar_links (s : State) (w : Who) (i : Instr) : (s.retireVar w i).links = s.links := rfl
@[simp] theorem State.retireVar_captures (s : State) (w : Who) (i : Instr) : (s.retireVar w i).captures = s.captures := rfl
@[simp] theorem State.retireVar_counted (s : State) (w : Who) (i : Instr) : (s.retireVar w i).counted = s.counted := rfl
@[simp] theorem State.retireVar_cutDies (s : State) (w : Who) (i : Instr) : (s.retireVar w i).cutDies = s.cutDies := rfl
@[simp] theorem State.retireVar_buckets (s : State) (w : Who) (i : Instr) : (s.retireVar w i).buckets = s.buckets := rfl
@[simp] theorem State.retireVar_early (s : State) (w : Who) (i : Instr) : (s.retireVar w i).early = s.early := rfl
@[simp] theorem State.retireVar_sentBlocks (s : State) (w : Who) (i : Instr) : (s.retireVar w i).sentBlocks = s.sentBlocks := rfl
@[simp] theorem State.retireVar_portWait (s : State) (w : Who) (i : Instr) : (s.retireVar w i).portWait = s.portWait := rfl
@[simp] theorem State.retireVar_latWait (s : State) (w : Who) (i : Instr) : (s.retireVar w i).latWait = s.latWait := rfl
@[simp] theorem State.retireVar_sweep (s : State) (w : Who) (i : Instr) : (s.retireVar w i).sweep = s.sweep := rfl
@[simp] theorem State.retireVar_sweepAt (s : State) (w : Who) (i : Instr) : (s.retireVar w i).sweepAt = s.sweepAt := rfl
@[simp] theorem State.retireVar_flits (s : State) (w : Who) (i : Instr) : (s.retireVar w i).flits = s.flits := rfl
@[simp] theorem State.retireVar_sentFlits (s : State) (w : Who) (i : Instr) : (s.retireVar w i).sentFlits = s.sentFlits := rfl
@[simp] theorem State.retireVar_flitWait (s : State) (w : Who) (i : Instr) : (s.retireVar w i).flitWait = s.flitWait := rfl
@[simp] theorem State.retireVar_digest (s : State) (w : Who) (i : Instr) : (s.retireVar w i).digest = s.digest := rfl
@[simp] theorem State.retireVar_sentDigests (s : State) (w : Who) (i : Instr) : (s.retireVar w i).sentDigests = s.sentDigests := rfl
@[simp] theorem State.retireVar_heldDigests (s : State) (w : Who) (i : Instr) : (s.retireVar w i).heldDigests = s.heldDigests := rfl
@[simp] theorem State.retireVar_peers (s : State) (w : Who) (i : Instr) : (s.retireVar w i).peers = s.peers := rfl
@[simp] theorem State.retireVar_errClasses (s : State) (w : Who) (i : Instr) : (s.retireVar w i).errClasses = s.errClasses := rfl
@[simp] theorem State.retireVar_msixTable (s : State) (w : Who) (i : Instr) : (s.retireVar w i).msixTable = s.msixTable := rfl
@[simp] theorem State.retireVar_msixPending (s : State) (w : Who) (i : Instr) : (s.retireVar w i).msixPending = s.msixPending := rfl
@[simp] theorem State.retireVar_measures (s : State) (w : Who) (i : Instr) : (s.retireVar w i).measures = s.measures := rfl
@[simp] theorem State.retireVar_spdm (s : State) (w : Who) (i : Instr) : (s.retireVar w i).spdm = s.spdm := rfl
@[simp] theorem State.retireVar_hostRead (s : State) (w : Who) (i : Instr) : (s.retireVar w i).hostRead = s.hostRead := rfl
@[simp] theorem State.retireVar_throttled (s : State) (w : Who) (i : Instr) : (s.retireVar w i).throttled = s.throttled := rfl
@[simp] theorem State.retireVar_who (s : State) (w : Who) (i : Instr) : (s.retireVar w i).who = s.who := rfl

/-! ### `State.waitBusy` -/

@[simp] theorem State.waitBusy_gtime (s : State) (w : Who) (i : Instr) (b : BusyWhy) : (s.waitBusy w i b).gtime = s.gtime := rfl
@[simp] theorem State.waitBusy_turn (s : State) (w : Who) (i : Instr) (b : BusyWhy) : (s.waitBusy w i b).turn = s.turn := rfl
@[simp] theorem State.waitBusy_agenda (s : State) (w : Who) (i : Instr) (b : BusyWhy) : (s.waitBusy w i b).agenda = s.agenda := rfl
@[simp] theorem State.waitBusy_free (s : State) (w : Who) (i : Instr) (b : BusyWhy) : (s.waitBusy w i b).free = s.free := rfl
@[simp] theorem State.waitBusy_powered (s : State) (w : Who) (i : Instr) (b : BusyWhy) : (s.waitBusy w i b).powered = s.powered := rfl
@[simp] theorem State.waitBusy_bootFail (s : State) (w : Who) (i : Instr) (b : BusyWhy) : (s.waitBusy w i b).bootFail = s.bootFail := rfl
@[simp] theorem State.waitBusy_mem (s : State) (w : Who) (i : Instr) (b : BusyWhy) : (s.waitBusy w i b).mem = s.mem := rfl
@[simp] theorem State.waitBusy_codes (s : State) (w : Who) (i : Instr) (b : BusyWhy) : (s.waitBusy w i b).codes = s.codes := rfl
@[simp] theorem State.waitBusy_poison (s : State) (w : Who) (i : Instr) (b : BusyWhy) : (s.waitBusy w i b).poison = s.poison := rfl
@[simp] theorem State.waitBusy_upsets (s : State) (w : Who) (i : Instr) (b : BusyWhy) : (s.waitBusy w i b).upsets = s.upsets := rfl
@[simp] theorem State.waitBusy_gkey (s : State) (w : Who) (i : Instr) (b : BusyWhy) : (s.waitBusy w i b).gkey = s.gkey := rfl
@[simp] theorem State.waitBusy_keyVer (s : State) (w : Who) (i : Instr) (b : BusyWhy) : (s.waitBusy w i b).keyVer = s.keyVer := rfl
@[simp] theorem State.waitBusy_mxus (s : State) (w : Who) (i : Instr) (b : BusyWhy) : (s.waitBusy w i b).mxus = s.mxus := rfl
@[simp] theorem State.waitBusy_tasks (s : State) (w : Who) (i : Instr) (b : BusyWhy) : (s.waitBusy w i b).tasks = s.tasks := rfl
@[simp] theorem State.waitBusy_launches (s : State) (w : Who) (i : Instr) (b : BusyWhy) : (s.waitBusy w i b).launches = s.launches := rfl
@[simp] theorem State.waitBusy_nextKey (s : State) (w : Who) (i : Instr) (b : BusyWhy) : (s.waitBusy w i b).nextKey = s.nextKey := rfl
@[simp] theorem State.waitBusy_nextNum (s : State) (w : Who) (i : Instr) (b : BusyWhy) : (s.waitBusy w i b).nextNum = s.nextNum := rfl
@[simp] theorem State.waitBusy_arenas (s : State) (w : Who) (i : Instr) (b : BusyWhy) : (s.waitBusy w i b).arenas = s.arenas := rfl
@[simp] theorem State.waitBusy_buffers (s : State) (w : Who) (i : Instr) (b : BusyWhy) : (s.waitBusy w i b).buffers = s.buffers := rfl
@[simp] theorem State.waitBusy_nextHandle (s : State) (w : Who) (i : Instr) (b : BusyWhy) : (s.waitBusy w i b).nextHandle = s.nextHandle := rfl
@[simp] theorem State.waitBusy_hostPages (s : State) (w : Who) (i : Instr) (b : BusyWhy) : (s.waitBusy w i b).hostPages = s.hostPages := rfl
@[simp] theorem State.waitBusy_reported (s : State) (w : Who) (i : Instr) (b : BusyWhy) : (s.waitBusy w i b).reported = s.reported := rfl
@[simp] theorem State.waitBusy_spillBits (s : State) (w : Who) (i : Instr) (b : BusyWhy) : (s.waitBusy w i b).spillBits = s.spillBits := rfl
@[simp] theorem State.waitBusy_ready (s : State) (w : Who) (i : Instr) (b : BusyWhy) : (s.waitBusy w i b).ready = s.ready := rfl
@[simp] theorem State.waitBusy_steals (s : State) (w : Who) (i : Instr) (b : BusyWhy) : (s.waitBusy w i b).steals = s.steals := rfl
@[simp] theorem State.waitBusy_stealing (s : State) (w : Who) (i : Instr) (b : BusyWhy) : (s.waitBusy w i b).stealing = s.stealing := rfl
@[simp] theorem State.waitBusy_hostMsgs (s : State) (w : Who) (i : Instr) (b : BusyWhy) : (s.waitBusy w i b).hostMsgs = s.hostMsgs := rfl
@[simp] theorem State.waitBusy_tcache (s : State) (w : Who) (i : Instr) (b : BusyWhy) : (s.waitBusy w i b).tcache = s.tcache := rfl
@[simp] theorem State.waitBusy_rdc (s : State) (w : Who) (i : Instr) (b : BusyWhy) : (s.waitBusy w i b).rdc = s.rdc := rfl
@[simp] theorem State.waitBusy_wq (s : State) (w : Who) (i : Instr) (b : BusyWhy) : (s.waitBusy w i b).wq = s.wq := rfl
@[simp] theorem State.waitBusy_regs (s : State) (w : Who) (i : Instr) (b : BusyWhy) : (s.waitBusy w i b).regs = s.regs := rfl
@[simp] theorem State.waitBusy_fleet (s : State) (w : Who) (i : Instr) (b : BusyWhy) : (s.waitBusy w i b).fleet = s.fleet := rfl
@[simp] theorem State.waitBusy_links (s : State) (w : Who) (i : Instr) (b : BusyWhy) : (s.waitBusy w i b).links = s.links := rfl
@[simp] theorem State.waitBusy_captures (s : State) (w : Who) (i : Instr) (b : BusyWhy) : (s.waitBusy w i b).captures = s.captures := rfl
@[simp] theorem State.waitBusy_counted (s : State) (w : Who) (i : Instr) (b : BusyWhy) : (s.waitBusy w i b).counted = s.counted := rfl
@[simp] theorem State.waitBusy_cutDies (s : State) (w : Who) (i : Instr) (b : BusyWhy) : (s.waitBusy w i b).cutDies = s.cutDies := rfl
@[simp] theorem State.waitBusy_buckets (s : State) (w : Who) (i : Instr) (b : BusyWhy) : (s.waitBusy w i b).buckets = s.buckets := rfl
@[simp] theorem State.waitBusy_early (s : State) (w : Who) (i : Instr) (b : BusyWhy) : (s.waitBusy w i b).early = s.early := rfl
@[simp] theorem State.waitBusy_sentBlocks (s : State) (w : Who) (i : Instr) (b : BusyWhy) : (s.waitBusy w i b).sentBlocks = s.sentBlocks := rfl
@[simp] theorem State.waitBusy_portWait (s : State) (w : Who) (i : Instr) (b : BusyWhy) : (s.waitBusy w i b).portWait = s.portWait := rfl
@[simp] theorem State.waitBusy_latWait (s : State) (w : Who) (i : Instr) (b : BusyWhy) : (s.waitBusy w i b).latWait = s.latWait := rfl
@[simp] theorem State.waitBusy_sweep (s : State) (w : Who) (i : Instr) (b : BusyWhy) : (s.waitBusy w i b).sweep = s.sweep := rfl
@[simp] theorem State.waitBusy_sweepAt (s : State) (w : Who) (i : Instr) (b : BusyWhy) : (s.waitBusy w i b).sweepAt = s.sweepAt := rfl
@[simp] theorem State.waitBusy_flits (s : State) (w : Who) (i : Instr) (b : BusyWhy) : (s.waitBusy w i b).flits = s.flits := rfl
@[simp] theorem State.waitBusy_sentFlits (s : State) (w : Who) (i : Instr) (b : BusyWhy) : (s.waitBusy w i b).sentFlits = s.sentFlits := rfl
@[simp] theorem State.waitBusy_flitWait (s : State) (w : Who) (i : Instr) (b : BusyWhy) : (s.waitBusy w i b).flitWait = s.flitWait := rfl
@[simp] theorem State.waitBusy_digest (s : State) (w : Who) (i : Instr) (b : BusyWhy) : (s.waitBusy w i b).digest = s.digest := rfl
@[simp] theorem State.waitBusy_sentDigests (s : State) (w : Who) (i : Instr) (b : BusyWhy) : (s.waitBusy w i b).sentDigests = s.sentDigests := rfl
@[simp] theorem State.waitBusy_heldDigests (s : State) (w : Who) (i : Instr) (b : BusyWhy) : (s.waitBusy w i b).heldDigests = s.heldDigests := rfl
@[simp] theorem State.waitBusy_peers (s : State) (w : Who) (i : Instr) (b : BusyWhy) : (s.waitBusy w i b).peers = s.peers := rfl
@[simp] theorem State.waitBusy_errClasses (s : State) (w : Who) (i : Instr) (b : BusyWhy) : (s.waitBusy w i b).errClasses = s.errClasses := rfl
@[simp] theorem State.waitBusy_msixTable (s : State) (w : Who) (i : Instr) (b : BusyWhy) : (s.waitBusy w i b).msixTable = s.msixTable := rfl
@[simp] theorem State.waitBusy_msixPending (s : State) (w : Who) (i : Instr) (b : BusyWhy) : (s.waitBusy w i b).msixPending = s.msixPending := rfl
@[simp] theorem State.waitBusy_measures (s : State) (w : Who) (i : Instr) (b : BusyWhy) : (s.waitBusy w i b).measures = s.measures := rfl
@[simp] theorem State.waitBusy_spdm (s : State) (w : Who) (i : Instr) (b : BusyWhy) : (s.waitBusy w i b).spdm = s.spdm := rfl
@[simp] theorem State.waitBusy_hostRead (s : State) (w : Who) (i : Instr) (b : BusyWhy) : (s.waitBusy w i b).hostRead = s.hostRead := rfl
@[simp] theorem State.waitBusy_throttled (s : State) (w : Who) (i : Instr) (b : BusyWhy) : (s.waitBusy w i b).throttled = s.throttled := rfl
@[simp] theorem State.waitBusy_who (s : State) (w : Who) (i : Instr) (b : BusyWhy) : (s.waitBusy w i b).who = s.who := rfl

/-! ### `State.parkSlot` -/

@[simp] theorem State.parkSlot_gtime (s : State) (w : Who) (i : Instr) (p : ParkWhy) : (s.parkSlot w i p).gtime = s.gtime := rfl
@[simp] theorem State.parkSlot_turn (s : State) (w : Who) (i : Instr) (p : ParkWhy) : (s.parkSlot w i p).turn = s.turn := rfl
@[simp] theorem State.parkSlot_agenda (s : State) (w : Who) (i : Instr) (p : ParkWhy) : (s.parkSlot w i p).agenda = s.agenda := rfl
@[simp] theorem State.parkSlot_free (s : State) (w : Who) (i : Instr) (p : ParkWhy) : (s.parkSlot w i p).free = s.free := rfl
@[simp] theorem State.parkSlot_powered (s : State) (w : Who) (i : Instr) (p : ParkWhy) : (s.parkSlot w i p).powered = s.powered := rfl
@[simp] theorem State.parkSlot_bootFail (s : State) (w : Who) (i : Instr) (p : ParkWhy) : (s.parkSlot w i p).bootFail = s.bootFail := rfl
@[simp] theorem State.parkSlot_mem (s : State) (w : Who) (i : Instr) (p : ParkWhy) : (s.parkSlot w i p).mem = s.mem := rfl
@[simp] theorem State.parkSlot_codes (s : State) (w : Who) (i : Instr) (p : ParkWhy) : (s.parkSlot w i p).codes = s.codes := rfl
@[simp] theorem State.parkSlot_poison (s : State) (w : Who) (i : Instr) (p : ParkWhy) : (s.parkSlot w i p).poison = s.poison := rfl
@[simp] theorem State.parkSlot_upsets (s : State) (w : Who) (i : Instr) (p : ParkWhy) : (s.parkSlot w i p).upsets = s.upsets := rfl
@[simp] theorem State.parkSlot_gkey (s : State) (w : Who) (i : Instr) (p : ParkWhy) : (s.parkSlot w i p).gkey = s.gkey := rfl
@[simp] theorem State.parkSlot_keyVer (s : State) (w : Who) (i : Instr) (p : ParkWhy) : (s.parkSlot w i p).keyVer = s.keyVer := rfl
@[simp] theorem State.parkSlot_mxus (s : State) (w : Who) (i : Instr) (p : ParkWhy) : (s.parkSlot w i p).mxus = s.mxus := rfl
@[simp] theorem State.parkSlot_tasks (s : State) (w : Who) (i : Instr) (p : ParkWhy) : (s.parkSlot w i p).tasks = s.tasks := rfl
@[simp] theorem State.parkSlot_launches (s : State) (w : Who) (i : Instr) (p : ParkWhy) : (s.parkSlot w i p).launches = s.launches := rfl
@[simp] theorem State.parkSlot_nextKey (s : State) (w : Who) (i : Instr) (p : ParkWhy) : (s.parkSlot w i p).nextKey = s.nextKey := rfl
@[simp] theorem State.parkSlot_nextNum (s : State) (w : Who) (i : Instr) (p : ParkWhy) : (s.parkSlot w i p).nextNum = s.nextNum := rfl
@[simp] theorem State.parkSlot_arenas (s : State) (w : Who) (i : Instr) (p : ParkWhy) : (s.parkSlot w i p).arenas = s.arenas := rfl
@[simp] theorem State.parkSlot_buffers (s : State) (w : Who) (i : Instr) (p : ParkWhy) : (s.parkSlot w i p).buffers = s.buffers := rfl
@[simp] theorem State.parkSlot_nextHandle (s : State) (w : Who) (i : Instr) (p : ParkWhy) : (s.parkSlot w i p).nextHandle = s.nextHandle := rfl
@[simp] theorem State.parkSlot_hostPages (s : State) (w : Who) (i : Instr) (p : ParkWhy) : (s.parkSlot w i p).hostPages = s.hostPages := rfl
@[simp] theorem State.parkSlot_reported (s : State) (w : Who) (i : Instr) (p : ParkWhy) : (s.parkSlot w i p).reported = s.reported := rfl
@[simp] theorem State.parkSlot_spillBits (s : State) (w : Who) (i : Instr) (p : ParkWhy) : (s.parkSlot w i p).spillBits = s.spillBits := rfl
@[simp] theorem State.parkSlot_ready (s : State) (w : Who) (i : Instr) (p : ParkWhy) : (s.parkSlot w i p).ready = s.ready := rfl
@[simp] theorem State.parkSlot_steals (s : State) (w : Who) (i : Instr) (p : ParkWhy) : (s.parkSlot w i p).steals = s.steals := rfl
@[simp] theorem State.parkSlot_stealing (s : State) (w : Who) (i : Instr) (p : ParkWhy) : (s.parkSlot w i p).stealing = s.stealing := rfl
@[simp] theorem State.parkSlot_hostMsgs (s : State) (w : Who) (i : Instr) (p : ParkWhy) : (s.parkSlot w i p).hostMsgs = s.hostMsgs := rfl
@[simp] theorem State.parkSlot_tcache (s : State) (w : Who) (i : Instr) (p : ParkWhy) : (s.parkSlot w i p).tcache = s.tcache := rfl
@[simp] theorem State.parkSlot_rdc (s : State) (w : Who) (i : Instr) (p : ParkWhy) : (s.parkSlot w i p).rdc = s.rdc := rfl
@[simp] theorem State.parkSlot_wq (s : State) (w : Who) (i : Instr) (p : ParkWhy) : (s.parkSlot w i p).wq = s.wq := rfl
@[simp] theorem State.parkSlot_regs (s : State) (w : Who) (i : Instr) (p : ParkWhy) : (s.parkSlot w i p).regs = s.regs := rfl
@[simp] theorem State.parkSlot_fleet (s : State) (w : Who) (i : Instr) (p : ParkWhy) : (s.parkSlot w i p).fleet = s.fleet := rfl
@[simp] theorem State.parkSlot_links (s : State) (w : Who) (i : Instr) (p : ParkWhy) : (s.parkSlot w i p).links = s.links := rfl
@[simp] theorem State.parkSlot_captures (s : State) (w : Who) (i : Instr) (p : ParkWhy) : (s.parkSlot w i p).captures = s.captures := rfl
@[simp] theorem State.parkSlot_counted (s : State) (w : Who) (i : Instr) (p : ParkWhy) : (s.parkSlot w i p).counted = s.counted := rfl
@[simp] theorem State.parkSlot_cutDies (s : State) (w : Who) (i : Instr) (p : ParkWhy) : (s.parkSlot w i p).cutDies = s.cutDies := rfl
@[simp] theorem State.parkSlot_buckets (s : State) (w : Who) (i : Instr) (p : ParkWhy) : (s.parkSlot w i p).buckets = s.buckets := rfl
@[simp] theorem State.parkSlot_early (s : State) (w : Who) (i : Instr) (p : ParkWhy) : (s.parkSlot w i p).early = s.early := rfl
@[simp] theorem State.parkSlot_sentBlocks (s : State) (w : Who) (i : Instr) (p : ParkWhy) : (s.parkSlot w i p).sentBlocks = s.sentBlocks := rfl
@[simp] theorem State.parkSlot_portWait (s : State) (w : Who) (i : Instr) (p : ParkWhy) : (s.parkSlot w i p).portWait = s.portWait := rfl
@[simp] theorem State.parkSlot_latWait (s : State) (w : Who) (i : Instr) (p : ParkWhy) : (s.parkSlot w i p).latWait = s.latWait := rfl
@[simp] theorem State.parkSlot_sweep (s : State) (w : Who) (i : Instr) (p : ParkWhy) : (s.parkSlot w i p).sweep = s.sweep := rfl
@[simp] theorem State.parkSlot_sweepAt (s : State) (w : Who) (i : Instr) (p : ParkWhy) : (s.parkSlot w i p).sweepAt = s.sweepAt := rfl
@[simp] theorem State.parkSlot_flits (s : State) (w : Who) (i : Instr) (p : ParkWhy) : (s.parkSlot w i p).flits = s.flits := rfl
@[simp] theorem State.parkSlot_sentFlits (s : State) (w : Who) (i : Instr) (p : ParkWhy) : (s.parkSlot w i p).sentFlits = s.sentFlits := rfl
@[simp] theorem State.parkSlot_flitWait (s : State) (w : Who) (i : Instr) (p : ParkWhy) : (s.parkSlot w i p).flitWait = s.flitWait := rfl
@[simp] theorem State.parkSlot_digest (s : State) (w : Who) (i : Instr) (p : ParkWhy) : (s.parkSlot w i p).digest = s.digest := rfl
@[simp] theorem State.parkSlot_sentDigests (s : State) (w : Who) (i : Instr) (p : ParkWhy) : (s.parkSlot w i p).sentDigests = s.sentDigests := rfl
@[simp] theorem State.parkSlot_heldDigests (s : State) (w : Who) (i : Instr) (p : ParkWhy) : (s.parkSlot w i p).heldDigests = s.heldDigests := rfl
@[simp] theorem State.parkSlot_peers (s : State) (w : Who) (i : Instr) (p : ParkWhy) : (s.parkSlot w i p).peers = s.peers := rfl
@[simp] theorem State.parkSlot_errClasses (s : State) (w : Who) (i : Instr) (p : ParkWhy) : (s.parkSlot w i p).errClasses = s.errClasses := rfl
@[simp] theorem State.parkSlot_msixTable (s : State) (w : Who) (i : Instr) (p : ParkWhy) : (s.parkSlot w i p).msixTable = s.msixTable := rfl
@[simp] theorem State.parkSlot_msixPending (s : State) (w : Who) (i : Instr) (p : ParkWhy) : (s.parkSlot w i p).msixPending = s.msixPending := rfl
@[simp] theorem State.parkSlot_measures (s : State) (w : Who) (i : Instr) (p : ParkWhy) : (s.parkSlot w i p).measures = s.measures := rfl
@[simp] theorem State.parkSlot_spdm (s : State) (w : Who) (i : Instr) (p : ParkWhy) : (s.parkSlot w i p).spdm = s.spdm := rfl
@[simp] theorem State.parkSlot_hostRead (s : State) (w : Who) (i : Instr) (p : ParkWhy) : (s.parkSlot w i p).hostRead = s.hostRead := rfl
@[simp] theorem State.parkSlot_throttled (s : State) (w : Who) (i : Instr) (p : ParkWhy) : (s.parkSlot w i p).throttled = s.throttled := rfl
@[simp] theorem State.parkSlot_who (s : State) (w : Who) (i : Instr) (p : ParkWhy) : (s.parkSlot w i p).who = s.who := rfl

/-! ### `State.returnTrap` -/

@[simp] theorem State.returnTrap_gtime (s : State) (w : Who) : (s.returnTrap w).gtime = s.gtime := rfl
@[simp] theorem State.returnTrap_turn (s : State) (w : Who) : (s.returnTrap w).turn = s.turn := rfl
@[simp] theorem State.returnTrap_agenda (s : State) (w : Who) : (s.returnTrap w).agenda = s.agenda := rfl
@[simp] theorem State.returnTrap_free (s : State) (w : Who) : (s.returnTrap w).free = s.free := rfl
@[simp] theorem State.returnTrap_powered (s : State) (w : Who) : (s.returnTrap w).powered = s.powered := rfl
@[simp] theorem State.returnTrap_bootFail (s : State) (w : Who) : (s.returnTrap w).bootFail = s.bootFail := rfl
@[simp] theorem State.returnTrap_mem (s : State) (w : Who) : (s.returnTrap w).mem = s.mem := rfl
@[simp] theorem State.returnTrap_codes (s : State) (w : Who) : (s.returnTrap w).codes = s.codes := rfl
@[simp] theorem State.returnTrap_poison (s : State) (w : Who) : (s.returnTrap w).poison = s.poison := rfl
@[simp] theorem State.returnTrap_upsets (s : State) (w : Who) : (s.returnTrap w).upsets = s.upsets := rfl
@[simp] theorem State.returnTrap_gkey (s : State) (w : Who) : (s.returnTrap w).gkey = s.gkey := rfl
@[simp] theorem State.returnTrap_keyVer (s : State) (w : Who) : (s.returnTrap w).keyVer = s.keyVer := rfl
@[simp] theorem State.returnTrap_mxus (s : State) (w : Who) : (s.returnTrap w).mxus = s.mxus := rfl
@[simp] theorem State.returnTrap_tasks (s : State) (w : Who) : (s.returnTrap w).tasks = s.tasks := rfl
@[simp] theorem State.returnTrap_launches (s : State) (w : Who) : (s.returnTrap w).launches = s.launches := rfl
@[simp] theorem State.returnTrap_nextKey (s : State) (w : Who) : (s.returnTrap w).nextKey = s.nextKey := rfl
@[simp] theorem State.returnTrap_nextNum (s : State) (w : Who) : (s.returnTrap w).nextNum = s.nextNum := rfl
@[simp] theorem State.returnTrap_arenas (s : State) (w : Who) : (s.returnTrap w).arenas = s.arenas := rfl
@[simp] theorem State.returnTrap_buffers (s : State) (w : Who) : (s.returnTrap w).buffers = s.buffers := rfl
@[simp] theorem State.returnTrap_nextHandle (s : State) (w : Who) : (s.returnTrap w).nextHandle = s.nextHandle := rfl
@[simp] theorem State.returnTrap_hostPages (s : State) (w : Who) : (s.returnTrap w).hostPages = s.hostPages := rfl
@[simp] theorem State.returnTrap_reported (s : State) (w : Who) : (s.returnTrap w).reported = s.reported := rfl
@[simp] theorem State.returnTrap_spillBits (s : State) (w : Who) : (s.returnTrap w).spillBits = s.spillBits := rfl
@[simp] theorem State.returnTrap_ready (s : State) (w : Who) : (s.returnTrap w).ready = s.ready := rfl
@[simp] theorem State.returnTrap_steals (s : State) (w : Who) : (s.returnTrap w).steals = s.steals := rfl
@[simp] theorem State.returnTrap_stealing (s : State) (w : Who) : (s.returnTrap w).stealing = s.stealing := rfl
@[simp] theorem State.returnTrap_hostMsgs (s : State) (w : Who) : (s.returnTrap w).hostMsgs = s.hostMsgs := rfl
@[simp] theorem State.returnTrap_tcache (s : State) (w : Who) : (s.returnTrap w).tcache = s.tcache := rfl
@[simp] theorem State.returnTrap_rdc (s : State) (w : Who) : (s.returnTrap w).rdc = s.rdc := rfl
@[simp] theorem State.returnTrap_wq (s : State) (w : Who) : (s.returnTrap w).wq = s.wq := rfl
@[simp] theorem State.returnTrap_regs (s : State) (w : Who) : (s.returnTrap w).regs = s.regs := rfl
@[simp] theorem State.returnTrap_fleet (s : State) (w : Who) : (s.returnTrap w).fleet = s.fleet := rfl
@[simp] theorem State.returnTrap_links (s : State) (w : Who) : (s.returnTrap w).links = s.links := rfl
@[simp] theorem State.returnTrap_captures (s : State) (w : Who) : (s.returnTrap w).captures = s.captures := rfl
@[simp] theorem State.returnTrap_counted (s : State) (w : Who) : (s.returnTrap w).counted = s.counted := rfl
@[simp] theorem State.returnTrap_cutDies (s : State) (w : Who) : (s.returnTrap w).cutDies = s.cutDies := rfl
@[simp] theorem State.returnTrap_buckets (s : State) (w : Who) : (s.returnTrap w).buckets = s.buckets := rfl
@[simp] theorem State.returnTrap_early (s : State) (w : Who) : (s.returnTrap w).early = s.early := rfl
@[simp] theorem State.returnTrap_sentBlocks (s : State) (w : Who) : (s.returnTrap w).sentBlocks = s.sentBlocks := rfl
@[simp] theorem State.returnTrap_portWait (s : State) (w : Who) : (s.returnTrap w).portWait = s.portWait := rfl
@[simp] theorem State.returnTrap_latWait (s : State) (w : Who) : (s.returnTrap w).latWait = s.latWait := rfl
@[simp] theorem State.returnTrap_sweep (s : State) (w : Who) : (s.returnTrap w).sweep = s.sweep := rfl
@[simp] theorem State.returnTrap_sweepAt (s : State) (w : Who) : (s.returnTrap w).sweepAt = s.sweepAt := rfl
@[simp] theorem State.returnTrap_flits (s : State) (w : Who) : (s.returnTrap w).flits = s.flits := rfl
@[simp] theorem State.returnTrap_sentFlits (s : State) (w : Who) : (s.returnTrap w).sentFlits = s.sentFlits := rfl
@[simp] theorem State.returnTrap_flitWait (s : State) (w : Who) : (s.returnTrap w).flitWait = s.flitWait := rfl
@[simp] theorem State.returnTrap_digest (s : State) (w : Who) : (s.returnTrap w).digest = s.digest := rfl
@[simp] theorem State.returnTrap_sentDigests (s : State) (w : Who) : (s.returnTrap w).sentDigests = s.sentDigests := rfl
@[simp] theorem State.returnTrap_heldDigests (s : State) (w : Who) : (s.returnTrap w).heldDigests = s.heldDigests := rfl
@[simp] theorem State.returnTrap_peers (s : State) (w : Who) : (s.returnTrap w).peers = s.peers := rfl
@[simp] theorem State.returnTrap_errClasses (s : State) (w : Who) : (s.returnTrap w).errClasses = s.errClasses := rfl
@[simp] theorem State.returnTrap_msixTable (s : State) (w : Who) : (s.returnTrap w).msixTable = s.msixTable := rfl
@[simp] theorem State.returnTrap_msixPending (s : State) (w : Who) : (s.returnTrap w).msixPending = s.msixPending := rfl
@[simp] theorem State.returnTrap_measures (s : State) (w : Who) : (s.returnTrap w).measures = s.measures := rfl
@[simp] theorem State.returnTrap_spdm (s : State) (w : Who) : (s.returnTrap w).spdm = s.spdm := rfl
@[simp] theorem State.returnTrap_hostRead (s : State) (w : Who) : (s.returnTrap w).hostRead = s.hostRead := rfl
@[simp] theorem State.returnTrap_throttled (s : State) (w : Who) : (s.returnTrap w).throttled = s.throttled := rfl
@[simp] theorem State.returnTrap_who (s : State) (w : Who) : (s.returnTrap w).who = s.who := rfl

/-! ### `State.postEvent` -/

@[simp] theorem State.postEvent_gtime (s : State) (c : Nat) (e : SysEvent) (h : Bool) : (s.postEvent c e h).gtime = s.gtime := rfl
@[simp] theorem State.postEvent_turn (s : State) (c : Nat) (e : SysEvent) (h : Bool) : (s.postEvent c e h).turn = s.turn := rfl
@[simp] theorem State.postEvent_agenda (s : State) (c : Nat) (e : SysEvent) (h : Bool) : (s.postEvent c e h).agenda = s.agenda := rfl
@[simp] theorem State.postEvent_free (s : State) (c : Nat) (e : SysEvent) (h : Bool) : (s.postEvent c e h).free = s.free := rfl
@[simp] theorem State.postEvent_powered (s : State) (c : Nat) (e : SysEvent) (h : Bool) : (s.postEvent c e h).powered = s.powered := rfl
@[simp] theorem State.postEvent_bootFail (s : State) (c : Nat) (e : SysEvent) (h : Bool) : (s.postEvent c e h).bootFail = s.bootFail := rfl
@[simp] theorem State.postEvent_mem (s : State) (c : Nat) (e : SysEvent) (h : Bool) : (s.postEvent c e h).mem = s.mem := rfl
@[simp] theorem State.postEvent_codes (s : State) (c : Nat) (e : SysEvent) (h : Bool) : (s.postEvent c e h).codes = s.codes := rfl
@[simp] theorem State.postEvent_poison (s : State) (c : Nat) (e : SysEvent) (h : Bool) : (s.postEvent c e h).poison = s.poison := rfl
@[simp] theorem State.postEvent_upsets (s : State) (c : Nat) (e : SysEvent) (h : Bool) : (s.postEvent c e h).upsets = s.upsets := rfl
@[simp] theorem State.postEvent_gkey (s : State) (c : Nat) (e : SysEvent) (h : Bool) : (s.postEvent c e h).gkey = s.gkey := rfl
@[simp] theorem State.postEvent_keyVer (s : State) (c : Nat) (e : SysEvent) (h : Bool) : (s.postEvent c e h).keyVer = s.keyVer := rfl
@[simp] theorem State.postEvent_mxus (s : State) (c : Nat) (e : SysEvent) (h : Bool) : (s.postEvent c e h).mxus = s.mxus := rfl
@[simp] theorem State.postEvent_tasks (s : State) (c : Nat) (e : SysEvent) (h : Bool) : (s.postEvent c e h).tasks = s.tasks := rfl
@[simp] theorem State.postEvent_launches (s : State) (c : Nat) (e : SysEvent) (h : Bool) : (s.postEvent c e h).launches = s.launches := rfl
@[simp] theorem State.postEvent_nextKey (s : State) (c : Nat) (e : SysEvent) (h : Bool) : (s.postEvent c e h).nextKey = s.nextKey := rfl
@[simp] theorem State.postEvent_nextNum (s : State) (c : Nat) (e : SysEvent) (h : Bool) : (s.postEvent c e h).nextNum = s.nextNum := rfl
@[simp] theorem State.postEvent_arenas (s : State) (c : Nat) (e : SysEvent) (h : Bool) : (s.postEvent c e h).arenas = s.arenas := rfl
@[simp] theorem State.postEvent_buffers (s : State) (c : Nat) (e : SysEvent) (h : Bool) : (s.postEvent c e h).buffers = s.buffers := rfl
@[simp] theorem State.postEvent_nextHandle (s : State) (c : Nat) (e : SysEvent) (h : Bool) : (s.postEvent c e h).nextHandle = s.nextHandle := rfl
@[simp] theorem State.postEvent_hostPages (s : State) (c : Nat) (e : SysEvent) (h : Bool) : (s.postEvent c e h).hostPages = s.hostPages := rfl
@[simp] theorem State.postEvent_reported (s : State) (c : Nat) (e : SysEvent) (h : Bool) : (s.postEvent c e h).reported = s.reported := rfl
@[simp] theorem State.postEvent_spillBits (s : State) (c : Nat) (e : SysEvent) (h : Bool) : (s.postEvent c e h).spillBits = s.spillBits := rfl
@[simp] theorem State.postEvent_ready (s : State) (c : Nat) (e : SysEvent) (h : Bool) : (s.postEvent c e h).ready = s.ready := rfl
@[simp] theorem State.postEvent_steals (s : State) (c : Nat) (e : SysEvent) (h : Bool) : (s.postEvent c e h).steals = s.steals := rfl
@[simp] theorem State.postEvent_stealing (s : State) (c : Nat) (e : SysEvent) (h : Bool) : (s.postEvent c e h).stealing = s.stealing := rfl
@[simp] theorem State.postEvent_hostMsgs (s : State) (c : Nat) (e : SysEvent) (h : Bool) : (s.postEvent c e h).hostMsgs = s.hostMsgs := rfl
@[simp] theorem State.postEvent_tcache (s : State) (c : Nat) (e : SysEvent) (h : Bool) : (s.postEvent c e h).tcache = s.tcache := rfl
@[simp] theorem State.postEvent_rdc (s : State) (c : Nat) (e : SysEvent) (h : Bool) : (s.postEvent c e h).rdc = s.rdc := rfl
@[simp] theorem State.postEvent_wq (s : State) (c : Nat) (e : SysEvent) (h : Bool) : (s.postEvent c e h).wq = s.wq := rfl
@[simp] theorem State.postEvent_regs (s : State) (c : Nat) (e : SysEvent) (h : Bool) : (s.postEvent c e h).regs = s.regs := rfl
@[simp] theorem State.postEvent_fleet (s : State) (c : Nat) (e : SysEvent) (h : Bool) : (s.postEvent c e h).fleet = s.fleet := rfl
@[simp] theorem State.postEvent_links (s : State) (c : Nat) (e : SysEvent) (h : Bool) : (s.postEvent c e h).links = s.links := rfl
@[simp] theorem State.postEvent_captures (s : State) (c : Nat) (e : SysEvent) (h : Bool) : (s.postEvent c e h).captures = s.captures := rfl
@[simp] theorem State.postEvent_counted (s : State) (c : Nat) (e : SysEvent) (h : Bool) : (s.postEvent c e h).counted = s.counted := rfl
@[simp] theorem State.postEvent_cutDies (s : State) (c : Nat) (e : SysEvent) (h : Bool) : (s.postEvent c e h).cutDies = s.cutDies := rfl
@[simp] theorem State.postEvent_buckets (s : State) (c : Nat) (e : SysEvent) (h : Bool) : (s.postEvent c e h).buckets = s.buckets := rfl
@[simp] theorem State.postEvent_early (s : State) (c : Nat) (e : SysEvent) (h : Bool) : (s.postEvent c e h).early = s.early := rfl
@[simp] theorem State.postEvent_sentBlocks (s : State) (c : Nat) (e : SysEvent) (h : Bool) : (s.postEvent c e h).sentBlocks = s.sentBlocks := rfl
@[simp] theorem State.postEvent_portWait (s : State) (c : Nat) (e : SysEvent) (h : Bool) : (s.postEvent c e h).portWait = s.portWait := rfl
@[simp] theorem State.postEvent_latWait (s : State) (c : Nat) (e : SysEvent) (h : Bool) : (s.postEvent c e h).latWait = s.latWait := rfl
@[simp] theorem State.postEvent_sweep (s : State) (c : Nat) (e : SysEvent) (h : Bool) : (s.postEvent c e h).sweep = s.sweep := rfl
@[simp] theorem State.postEvent_sweepAt (s : State) (c : Nat) (e : SysEvent) (h : Bool) : (s.postEvent c e h).sweepAt = s.sweepAt := rfl
@[simp] theorem State.postEvent_flits (s : State) (c : Nat) (e : SysEvent) (h : Bool) : (s.postEvent c e h).flits = s.flits := rfl
@[simp] theorem State.postEvent_sentFlits (s : State) (c : Nat) (e : SysEvent) (h : Bool) : (s.postEvent c e h).sentFlits = s.sentFlits := rfl
@[simp] theorem State.postEvent_flitWait (s : State) (c : Nat) (e : SysEvent) (h : Bool) : (s.postEvent c e h).flitWait = s.flitWait := rfl
@[simp] theorem State.postEvent_digest (s : State) (c : Nat) (e : SysEvent) (h : Bool) : (s.postEvent c e h).digest = s.digest := rfl
@[simp] theorem State.postEvent_sentDigests (s : State) (c : Nat) (e : SysEvent) (h : Bool) : (s.postEvent c e h).sentDigests = s.sentDigests := rfl
@[simp] theorem State.postEvent_heldDigests (s : State) (c : Nat) (e : SysEvent) (h : Bool) : (s.postEvent c e h).heldDigests = s.heldDigests := rfl
@[simp] theorem State.postEvent_peers (s : State) (c : Nat) (e : SysEvent) (h : Bool) : (s.postEvent c e h).peers = s.peers := rfl
@[simp] theorem State.postEvent_errClasses (s : State) (c : Nat) (e : SysEvent) (h : Bool) : (s.postEvent c e h).errClasses = s.errClasses := rfl
@[simp] theorem State.postEvent_msixTable (s : State) (c : Nat) (e : SysEvent) (h : Bool) : (s.postEvent c e h).msixTable = s.msixTable := rfl
@[simp] theorem State.postEvent_msixPending (s : State) (c : Nat) (e : SysEvent) (h : Bool) : (s.postEvent c e h).msixPending = s.msixPending := rfl
@[simp] theorem State.postEvent_measures (s : State) (c : Nat) (e : SysEvent) (h : Bool) : (s.postEvent c e h).measures = s.measures := rfl
@[simp] theorem State.postEvent_spdm (s : State) (c : Nat) (e : SysEvent) (h : Bool) : (s.postEvent c e h).spdm = s.spdm := rfl
@[simp] theorem State.postEvent_hostRead (s : State) (c : Nat) (e : SysEvent) (h : Bool) : (s.postEvent c e h).hostRead = s.hostRead := rfl
@[simp] theorem State.postEvent_throttled (s : State) (c : Nat) (e : SysEvent) (h : Bool) : (s.postEvent c e h).throttled = s.throttled := rfl
@[simp] theorem State.postEvent_who (s : State) (c : Nat) (e : SysEvent) (h : Bool) : (s.postEvent c e h).who = s.who := rfl

/-! ### What is read after an update -/

@[simp] theorem State.core_setCore_same (s : State) (c : Nat) (k : Core) : (s.setCore c k).core c = k := by
  simp [State.core, State.setCore, Tbl.getD_put]

theorem State.core_setCore (s : State) (c c' : Nat) (k : Core) : (s.setCore c k).core c' = if c' = c then k else s.core c' := by
  simp only [State.core, State.setCore, Tbl.getD_put]

@[simp] theorem State.core_updCore_same (s : State) (c : Nat) (f : Core → Core) : (s.updCore c f).core c = f (s.core c) := by
  simp [State.updCore]

theorem State.core_updCore (s : State) (c c' : Nat) (f : Core → Core) : (s.updCore c f).core c' = if c' = c then f (s.core c) else s.core c' := by
  simp only [State.updCore, State.core_setCore]

@[simp] theorem State.at_upd_same (s : State) (w : Who) (f : Slot → Slot) : (s.upd w f).at w = f (s.at w) := by
  simp [State.at, State.upd, State.updSlot, State.setSlot, State.slot]

theorem State.at_upd (s : State) (w w' : Who) (f : Slot → Slot) : (s.upd w f).at w' = if w' = w then f (s.at w) else s.at w' := by
  obtain ⟨c, l⟩ := w
  obtain ⟨c', l'⟩ := w'
  by_cases hc : c' = c
  · subst hc
    by_cases hl : l' = l
    · subst hl; simp
    · have : (l : Nat) ≠ (l' : Nat) := fun h => hl (Fin.ext h.symm)
      simp [State.at, State.upd, State.updSlot, State.setSlot, State.slot, hl, this]
  · simp [State.at, State.upd, State.updSlot, State.setSlot, State.slot, State.core_updCore, hc]

@[simp] theorem State.th_updTh_same (s : State) (w : Who) (f : Thread → Thread) : (s.updTh w f).th w = f (s.th w) := by
  simp [State.th, State.updTh]

theorem State.th_updTh (s : State) (w w' : Who) (f : Thread → Thread) : (s.updTh w f).th w' = if w' = w then f (s.th w) else s.th w' := by
  simp only [State.th, State.updTh, State.at_upd]
  split <;> simp_all

/-- A change of a slot changes nothing else of its core. -/
theorem State.core_upd (s : State) (w : Who) (f : Slot → Slot) :
    (s.upd w f).core w.core = { s.core w.core with slots := (s.core w.core).slots.set w.slot (f (s.at w)) } := by
  simp [State.upd, State.updSlot, State.setSlot, State.at, State.slot]

theorem State.core_upd_other (s : State) (w : Who) (c : Nat) (f : Slot → Slot) (h : c ≠ w.core) : (s.upd w f).core c = s.core c := by
  simp [State.upd, State.updSlot, State.setSlot, State.core_updCore, h]

@[simp] theorem State.core_upd_lmem (s : State) (w : Who) (f : Slot → Slot) (c : Nat) : ((s.upd w f).core c).lmem = (s.core c).lmem := by
  by_cases h : c = w.core
  · subst h; simp [State.core_upd]
  · rw [State.core_upd_other s w c f h]
@[simp] theorem State.core_upd_upset (s : State) (w : Who) (f : Slot → Slot) (c : Nat) : ((s.upd w f).core c).upset = (s.core c).upset := by
  by_cases h : c = w.core
  · subst h; simp [State.core_upd]
  · rw [State.core_upd_other s w c f h]
@[simp] theorem State.core_upd_spoilt (s : State) (w : Who) (f : Slot → Slot) (c : Nat) : ((s.upd w f).core c).spoilt = (s.core c).spoilt := by
  by_cases h : c = w.core
  · subst h; simp [State.core_upd]
  · rw [State.core_upd_other s w c f h]
@[simp] theorem State.core_upd_cbs (s : State) (w : Who) (f : Slot → Slot) (c : Nat) : ((s.upd w f).core c).cbs = (s.core c).cbs := by
  by_cases h : c = w.core
  · subst h; simp [State.core_upd]
  · rw [State.core_upd_other s w c f h]
@[simp] theorem State.core_upd_srpc (s : State) (w : Who) (f : Slot → Slot) (c : Nat) : ((s.upd w f).core c).srpc = (s.core c).srpc := by
  by_cases h : c = w.core
  · subst h; simp [State.core_upd]
  · rw [State.core_upd_other s w c f h]
@[simp] theorem State.core_upd_evbase (s : State) (w : Who) (f : Slot → Slot) (c : Nat) : ((s.upd w f).core c).evbase = (s.core c).evbase := by
  by_cases h : c = w.core
  · subst h; simp [State.core_upd]
  · rw [State.core_upd_other s w c f h]
@[simp] theorem State.core_upd_trctl (s : State) (w : Who) (f : Slot → Slot) (c : Nat) : ((s.upd w f).core c).trctl = (s.core c).trctl := by
  by_cases h : c = w.core
  · subst h; simp [State.core_upd]
  · rw [State.core_upd_other s w c f h]
@[simp] theorem State.core_upd_eie (s : State) (w : Who) (f : Slot → Slot) (c : Nat) : ((s.upd w f).core c).eie = (s.core c).eie := by
  by_cases h : c = w.core
  · subst h; simp [State.core_upd]
  · rw [State.core_upd_other s w c f h]
@[simp] theorem State.core_upd_lmx (s : State) (w : Who) (f : Slot → Slot) (c : Nat) : ((s.upd w f).core c).lmx = (s.core c).lmx := by
  by_cases h : c = w.core
  · subst h; simp [State.core_upd]
  · rw [State.core_upd_other s w c f h]
@[simp] theorem State.core_upd_hslot (s : State) (w : Who) (f : Slot → Slot) (c : Nat) : ((s.upd w f).core c).hslot = (s.core c).hslot := by
  by_cases h : c = w.core
  · subst h; simp [State.core_upd]
  · rw [State.core_upd_other s w c f h]
@[simp] theorem State.core_upd_lmxCount (s : State) (w : Who) (f : Slot → Slot) (c : Nat) : ((s.upd w f).core c).lmxCount = (s.core c).lmxCount := by
  by_cases h : c = w.core
  · subst h; simp [State.core_upd]
  · rw [State.core_upd_other s w c f h]
@[simp] theorem State.core_upd_events (s : State) (w : Who) (f : Slot → Slot) (c : Nat) : ((s.upd w f).core c).events = (s.core c).events := by
  by_cases h : c = w.core
  · subst h; simp [State.core_upd]
  · rw [State.core_upd_other s w c f h]
@[simp] theorem State.core_upd_scanAsid (s : State) (w : Who) (f : Slot → Slot) (c : Nat) : ((s.upd w f).core c).scanAsid = (s.core c).scanAsid := by
  by_cases h : c = w.core
  · subst h; simp [State.core_upd]
  · rw [State.core_upd_other s w c f h]
@[simp] theorem State.core_upd_granting (s : State) (w : Who) (f : Slot → Slot) (c : Nat) : ((s.upd w f).core c).granting = (s.core c).granting := by
  by_cases h : c = w.core
  · subst h; simp [State.core_upd]
  · rw [State.core_upd_other s w c f h]
@[simp] theorem State.core_upd_grantHold (s : State) (w : Who) (f : Slot → Slot) (c : Nat) : ((s.upd w f).core c).grantHold = (s.core c).grantHold := by
  by_cases h : c = w.core
  · subst h; simp [State.core_upd]
  · rw [State.core_upd_other s w c f h]
@[simp] theorem State.core_upd_evictHold (s : State) (w : Who) (f : Slot → Slot) (c : Nat) : ((s.upd w f).core c).evictHold = (s.core c).evictHold := by
  by_cases h : c = w.core
  · subst h; simp [State.core_upd]
  · rw [State.core_upd_other s w c f h]
@[simp] theorem State.core_upd_started (s : State) (w : Who) (f : Slot → Slot) (c : Nat) : ((s.upd w f).core c).started = (s.core c).started := by
  by_cases h : c = w.core
  · subst h; simp [State.core_upd]
  · rw [State.core_upd_other s w c f h]
@[simp] theorem State.core_upd_dead (s : State) (w : Who) (f : Slot → Slot) (c : Nat) : ((s.upd w f).core c).dead = (s.core c).dead := by
  by_cases h : c = w.core
  · subst h; simp [State.core_upd]
  · rw [State.core_upd_other s w c f h]
@[simp] theorem State.core_upd_layout (s : State) (w : Who) (f : Slot → Slot) (c : Nat) : ((s.upd w f).core c).layout = (s.core c).layout := by
  by_cases h : c = w.core
  · subst h; simp [State.core_upd]
  · rw [State.core_upd_other s w c f h]
@[simp] theorem State.core_upd_layoutOf (s : State) (w : Who) (f : Slot → Slot) (c : Nat) : ((s.upd w f).core c).layoutOf = (s.core c).layoutOf := by
  by_cases h : c = w.core
  · subst h; simp [State.core_upd]
  · rw [State.core_upd_other s w c f h]
@[simp] theorem State.core_upd_layoutDirty (s : State) (w : Who) (f : Slot → Slot) (c : Nat) : ((s.upd w f).core c).layoutDirty = (s.core c).layoutDirty := by
  by_cases h : c = w.core
  · subst h; simp [State.core_upd]
  · rw [State.core_upd_other s w c f h]
@[simp] theorem State.core_upd_predictor (s : State) (w : Who) (f : Slot → Slot) (c : Nat) : ((s.upd w f).core c).predictor = (s.core c).predictor := by
  by_cases h : c = w.core
  · subst h; simp [State.core_upd]
  · rw [State.core_upd_other s w c f h]
@[simp] theorem State.core_upd_mxq (s : State) (w : Who) (f : Slot → Slot) (c : Nat) : ((s.upd w f).core c).mxq = (s.core c).mxq := by
  by_cases h : c = w.core
  · subst h; simp [State.core_upd]
  · rw [State.core_upd_other s w c f h]
@[simp] theorem State.core_upd_tileWait (s : State) (w : Who) (f : Slot → Slot) (c : Nat) : ((s.upd w f).core c).tileWait = (s.core c).tileWait := by
  by_cases h : c = w.core
  · subst h; simp [State.core_upd]
  · rw [State.core_upd_other s w c f h]
@[simp] theorem State.core_upd_copyq (s : State) (w : Who) (f : Slot → Slot) (c : Nat) : ((s.upd w f).core c).copyq = (s.core c).copyq := by
  by_cases h : c = w.core
  · subst h; simp [State.core_upd]
  · rw [State.core_upd_other s w c f h]
@[simp] theorem State.core_upd_copying (s : State) (w : Who) (f : Slot → Slot) (c : Nat) : ((s.upd w f).core c).copying = (s.core c).copying := by
  by_cases h : c = w.core
  · subst h; simp [State.core_upd]
  · rw [State.core_upd_other s w c f h]
@[simp] theorem State.core_upd_collq (s : State) (w : Who) (f : Slot → Slot) (c : Nat) : ((s.upd w f).core c).collq = (s.core c).collq := by
  by_cases h : c = w.core
  · subst h; simp [State.core_upd]
  · rw [State.core_upd_other s w c f h]
@[simp] theorem State.core_upd_commitq (s : State) (w : Who) (f : Slot → Slot) (c : Nat) : ((s.upd w f).core c).commitq = (s.core c).commitq := by
  by_cases h : c = w.core
  · subst h; simp [State.core_upd]
  · rw [State.core_upd_other s w c f h]
@[simp] theorem State.core_upd_cache (s : State) (w : Who) (f : Slot → Slot) (c : Nat) : ((s.upd w f).core c).cache = (s.core c).cache := by
  by_cases h : c = w.core
  · subst h; simp [State.core_upd]
  · rw [State.core_upd_other s w c f h]
@[simp] theorem State.core_upd_intake (s : State) (w : Who) (f : Slot → Slot) (c : Nat) : ((s.upd w f).core c).intake = (s.core c).intake := by
  by_cases h : c = w.core
  · subst h; simp [State.core_upd]
  · rw [State.core_upd_other s w c f h]
@[simp] theorem State.core_upd_runq (s : State) (w : Who) (f : Slot → Slot) (c : Nat) : ((s.upd w f).core c).runq = (s.core c).runq := by
  by_cases h : c = w.core
  · subst h; simp [State.core_upd]
  · rw [State.core_upd_other s w c f h]
@[simp] theorem State.core_upd_heldLets (s : State) (w : Who) (f : Slot → Slot) (c : Nat) : ((s.upd w f).core c).heldLets = (s.core c).heldLets := by
  by_cases h : c = w.core
  · subst h; simp [State.core_upd]
  · rw [State.core_upd_other s w c f h]
@[simp] theorem State.core_upd_coefs (s : State) (w : Who) (f : Slot → Slot) (c : Nat) : ((s.upd w f).core c).coefs = (s.core c).coefs := by
  by_cases h : c = w.core
  · subst h; simp [State.core_upd]
  · rw [State.core_upd_other s w c f h]
@[simp] theorem State.core_upd_icache (s : State) (w : Who) (f : Slot → Slot) (c : Nat) : ((s.upd w f).core c).icache = (s.core c).icache := by
  by_cases h : c = w.core
  · subst h; simp [State.core_upd]
  · rw [State.core_upd_other s w c f h]
@[simp] theorem State.core_upd_dcache (s : State) (w : Who) (f : Slot → Slot) (c : Nat) : ((s.upd w f).core c).dcache = (s.core c).dcache := by
  by_cases h : c = w.core
  · subst h; simp [State.core_upd]
  · rw [State.core_upd_other s w c f h]
@[simp] theorem State.core_upd_l2 (s : State) (w : Who) (f : Slot → Slot) (c : Nat) : ((s.upd w f).core c).l2 = (s.core c).l2 := by
  by_cases h : c = w.core
  · subst h; simp [State.core_upd]
  · rw [State.core_upd_other s w c f h]
@[simp] theorem State.core_upd_waiters (s : State) (w : Who) (f : Slot → Slot) (c : Nat) : ((s.upd w f).core c).waiters = (s.core c).waiters := by
  by_cases h : c = w.core
  · subst h; simp [State.core_upd]
  · rw [State.core_upd_other s w c f h]
@[simp] theorem State.core_upd_spilled (s : State) (w : Who) (f : Slot → Slot) (c : Nat) : ((s.upd w f).core c).spilled = (s.core c).spilled := by
  by_cases h : c = w.core
  · subst h; simp [State.core_upd]
  · rw [State.core_upd_other s w c f h]
@[simp] theorem State.core_upd_ingress (s : State) (w : Who) (f : Slot → Slot) (c : Nat) : ((s.upd w f).core c).ingress = (s.core c).ingress := by
  by_cases h : c = w.core
  · subst h; simp [State.core_upd]
  · rw [State.core_upd_other s w c f h]
@[simp] theorem State.core_upd_landing (s : State) (w : Who) (f : Slot → Slot) (c : Nat) : ((s.upd w f).core c).landing = (s.core c).landing := by
  by_cases h : c = w.core
  · subst h; simp [State.core_upd]
  · rw [State.core_upd_other s w c f h]
@[simp] theorem State.core_upd_landingCb (s : State) (w : Who) (f : Slot → Slot) (c : Nat) : ((s.upd w f).core c).landingCb = (s.core c).landingCb := by
  by_cases h : c = w.core
  · subst h; simp [State.core_upd]
  · rw [State.core_upd_other s w c f h]
@[simp] theorem State.core_upd_heldSlots (s : State) (w : Who) (f : Slot → Slot) (c : Nat) : ((s.upd w f).core c).heldSlots = (s.core c).heldSlots := by
  by_cases h : c = w.core
  · subst h; simp [State.core_upd]
  · rw [State.core_upd_other s w c f h]
@[simp] theorem State.core_upd_lastWriter (s : State) (w : Who) (f : Slot → Slot) (c : Nat) : ((s.upd w f).core c).lastWriter = (s.core c).lastWriter := by
  by_cases h : c = w.core
  · subst h; simp [State.core_upd]
  · rw [State.core_upd_other s w c f h]
@[simp] theorem State.core_upd_trbase (s : State) (w : Who) (f : Slot → Slot) (c : Nat) : ((s.upd w f).core c).trbase = (s.core c).trbase := by
  by_cases h : c = w.core
  · subst h; simp [State.core_upd]
  · rw [State.core_upd_other s w c f h]
@[simp] theorem State.core_upd_trsize (s : State) (w : Who) (f : Slot → Slot) (c : Nat) : ((s.upd w f).core c).trsize = (s.core c).trsize := by
  by_cases h : c = w.core
  · subst h; simp [State.core_upd]
  · rw [State.core_upd_other s w c f h]
@[simp] theorem State.core_upd_trtail (s : State) (w : Who) (f : Slot → Slot) (c : Nat) : ((s.upd w f).core c).trtail = (s.core c).trtail := by
  by_cases h : c = w.core
  · subst h; simp [State.core_upd]
  · rw [State.core_upd_other s w c f h]
@[simp] theorem State.core_upd_trhead (s : State) (w : Who) (f : Slot → Slot) (c : Nat) : ((s.upd w f).core c).trhead = (s.core c).trhead := by
  by_cases h : c = w.core
  · subst h; simp [State.core_upd]
  · rw [State.core_upd_other s w c f h]
@[simp] theorem State.core_upd_trlost (s : State) (w : Who) (f : Slot → Slot) (c : Nat) : ((s.upd w f).core c).trlost = (s.core c).trlost := by
  by_cases h : c = w.core
  · subst h; simp [State.core_upd]
  · rw [State.core_upd_other s w c f h]
@[simp] theorem State.core_upd_iobase (s : State) (w : Who) (f : Slot → Slot) (c : Nat) : ((s.upd w f).core c).iobase = (s.core c).iobase := by
  by_cases h : c = w.core
  · subst h; simp [State.core_upd]
  · rw [State.core_upd_other s w c f h]
@[simp] theorem State.core_upd_iosize (s : State) (w : Who) (f : Slot → Slot) (c : Nat) : ((s.upd w f).core c).iosize = (s.core c).iosize := by
  by_cases h : c = w.core
  · subst h; simp [State.core_upd]
  · rw [State.core_upd_other s w c f h]
@[simp] theorem State.core_upd_wsbase (s : State) (w : Who) (f : Slot → Slot) (c : Nat) : ((s.upd w f).core c).wsbase = (s.core c).wsbase := by
  by_cases h : c = w.core
  · subst h; simp [State.core_upd]
  · rw [State.core_upd_other s w c f h]
@[simp] theorem State.core_upd_wssize (s : State) (w : Who) (f : Slot → Slot) (c : Nat) : ((s.upd w f).core c).wssize = (s.core c).wssize := by
  by_cases h : c = w.core
  · subst h; simp [State.core_upd]
  · rw [State.core_upd_other s w c f h]

/-- Local memory is read as before after a change of a slot. -/
@[simp] theorem State.lread_upd (s : State) (w : Who) (f : Slot → Slot) (c off n : Nat) : (s.upd w f).lread c off n = s.lread c off n := by
  simp [State.lread]

@[simp] theorem State.lread_updTh (s : State) (w : Who) (f : Thread → Thread) (c off n : Nat) : (s.updTh w f).lread c off n = s.lread c off n := by
  simp [State.updTh]

/-- A plaintext byte depends on HBM, its keys and their selection, and, in another package, on the moment (R367, log entry 71). -/
theorem State.pbyte_congr (s t : State) (hm : t.mem = s.mem) (hg : t.gkey = s.gkey) (hv : t.keyVer = s.keyVer) (hk : t.regs.keysel = s.regs.keysel)
    (hw : t.moment = s.moment) (pa : Nat) : t.pbyte pa = s.pbyte pa := by
  simp [State.pbyte, State.keyTag, hm, hg, hv, hk, hw]

@[simp] theorem State.pbyte_upd (s : State) (w : Who) (f : Slot → Slot) (pa : Nat) : (s.upd w f).pbyte pa = s.pbyte pa :=
  State.pbyte_congr _ _ rfl rfl rfl rfl rfl pa

@[simp] theorem State.pbyte_post (s : State) (es : List Event) (pa : Nat) : (s.post es).pbyte pa = s.pbyte pa :=
  State.pbyte_congr _ _ rfl rfl rfl rfl rfl pa

/-! ### Threads: hard-wired predicate (R24) -/

@[simp] theorem Thread.getP_zero (t : Thread) : t.getP 0 = true := rfl

@[simp] theorem Thread.setP_zero (t : Thread) (b : Bool) : t.setP 0 b = t := rfl

end Sys2Proof.Machine
end

