-- ==== Sys2Proof/Laws/Ops.lean ====
section
/-! SUPPORT. What the shared operations can do, said once each: the fate of an instruction, its outcome, register reads and writes, traps, events, and that
every write of memory keeps the canonical form. -/

namespace Sys2Proof.Machine

/-! ### The fate and the outcome of an instruction (R95, R111) -/

/-- Every die has the BASE group. -/
theorem bitAt_dieCaps_base (d : Nat) : bitAt (dieCaps d) 0 = true := by
  simp only [dieCaps]
  split <;> rfl

/-- Every die has the VEC group. -/
theorem bitAt_dieCaps_vec (d : Nat) : bitAt (dieCaps d) 1 = true := by
  simp only [dieCaps]
  split <;> rfl

/-- A BASE instruction that is not system-only executes. -/
@[simp] theorem fate_base (w : Who) (i : Instr) (s : State) : fate w i false 0 s = .ok () := by
  simp [fate, bitAt_dieCaps_base]

@[simp] theorem fate_vec (w : Who) (i : Instr) (s : State) : fate w i false 1 s = .ok () := by
  simp [fate, bitAt_dieCaps_vec]

/-- A system-only BASE instruction executes in the system slot alone. -/
theorem fate_sys (w : Who) (i : Instr) (s : State) (h : w.slot = 15) : fate w i true 0 s = .ok () := by
  simp [fate, h, bitAt_dieCaps_base]

theorem fate_sys_user (w : Who) (i : Instr) (s : State) (g : Nat) (h : w.slot ≠ 15) : fate w i true g s = fail 0x01 (encodeWord i) := by
  simp [fate, h]

@[simp] theorem finish_ok (w : Who) (i : Instr) (s t : State) : finish w i s (.ok t) = .next t := rfl
@[simp] theorem finish_next (w : Who) (i : Instr) (s t : State) : finish w i s (.error (.next t)) = .next t := rfl
@[simp] theorem finish_busy (w : Who) (i : Instr) (s : State) (b : BusyWhy) : finish w i s (.error (.busy b)) = .next (s.waitBusy w i b) := rfl
@[simp] theorem finish_away (w : Who) (i : Instr) (s : State) (dev : Nat) : finish w i s (.error (.away dev)) = .next (s.awaitPort w i dev) := rfl

@[simp] theorem finish_trap (w : Who) (i : Instr) (s : State) (code sub : Nat) (tval : Word) :
    finish w i s (.error (.trap code tval sub none)) =
      .next (s.takeTrap w code false sub tval (s.th w).pc (code == 0x03 || s.varies w i)) := rfl

@[simp] theorem finish_localTrap (w : Who) (i : Instr) (s : State) (code sub : Nat) (tval : Word) :
    finish w i s (.error (.localTrap code tval sub)) = .next (s.takeTrap w code false sub tval (s.th w).pc (s.namesBound w i)) := rfl

@[simp] theorem finish_fail (w : Who) (i : Instr) (s : State) (code : Nat) (tval : Word) :
    finish w i s (fail code tval) = .next (s.takeTrap w code false 0 tval (s.th w).pc (code == 0x03 || s.varies w i)) := rfl

theorem finish_park (w : Who) (i : Instr) (s : State) (p : ParkWhy) (h : (s.at w).th.codelet = false) :
    finish w i s (.error (.park p)) = .next (s.parkSlot w i p) := by
  simp [finish, h]

/-- An instruction's outcome is a next state. -/
theorem finish_cases (w : Who) (i : Instr) (s : State) (m : M State) : ∃ t, finish w i s m = .next t := by
  match m with
  | .ok t => exact ⟨t, rfl⟩
  | .error (.next t) => exact ⟨t, rfl⟩
  | .error (.away dev) => exact ⟨_, rfl⟩
  | .error (.busy b) => exact ⟨_, rfl⟩
  | .error (.park p) => unfold finish; simp only; split <;> exact ⟨_, rfl⟩
  | .error (.trap ..) => exact ⟨_, rfl⟩
  | .error (.localTrap ..) => exact ⟨_, rfl⟩

theorem finish_ne_fault (w : Who) (i : Instr) (s : State) (m : M State) (f : Fault) : finish w i s m ≠ .fault f := by
  obtain ⟨t, h⟩ := finish_cases w i s m
  simp [h]

theorem finish_ne_refused (w : Who) (i : Instr) (s : State) (m : M State) (r : Refusal) : finish w i s m ≠ .refused r := by
  obtain ⟨t, h⟩ := finish_cases w i s m
  simp [h]

theorem issue_ne_fault (i : Instr) (sys : Bool) (g : Nat) (s : State) (body : Who → M State) (f : Fault) : issue i sys g s body ≠ .fault f :=
  fun h => finish_ne_fault _ _ _ _ _ h

/-- A BASE instruction is its body's outcome. -/
theorem issue_base (i : Instr) (s : State) (body : Who → M State) : issue i false 0 s body = finish s.who i s (body s.who) := by
  simp [issue, bind, Except.bind]

theorem issue_vec (i : Instr) (s : State) (body : Who → M State) : issue i false 1 s body = finish s.who i s (body s.who) := by
  simp [issue, bind, Except.bind]

/-- A system-only instruction outside the system slot is illegal, and has no effect but the trap. -/
theorem issue_sys_user (i : Instr) (g : Nat) (s : State) (body : Who → M State) (h : s.who.slot ≠ 15) :
    issue i true g s body = .next (s.takeTrap s.who 0x01 false 0 (encodeWord i) (s.th s.who).pc (s.varies s.who i)) := by
  simp [issue, fate_sys_user _ _ _ _ h, bind, Except.bind, fail, finish]

theorem issue_sys (i : Instr) (s : State) (body : Who → M State) (h : s.who.slot = 15) :
    issue i true 0 s body = finish s.who i s (body s.who) := by
  simp [issue, fate_sys _ _ _ h, bind, Except.bind]

/-! ### Registers (R24, R63) -/

@[simp] theorem State.readG_zero (s : State) (w : Who) : s.readG w 0 = .ok (0, s) := rfl
@[simp] theorem State.writeG_zero (s : State) (w : Who) (v : Word) : s.writeG w 0 v = s := rfl

theorem Thread.binding_low (t : Thread) (n : Fin 32) (h : n.val < 28) : t.binding n = none := by
  simp [Thread.binding, Nat.not_le.mpr h]

theorem State.readG_unbound (s : State) (w : Who) (n : Fin 32) (h0 : n ≠ 0) (h : (s.th w).binding n = none) :
    s.readG w n = .ok ((s.th w).g[n], s) := by
  simp [State.readG, h0, h]

theorem State.writeG_unbound (s : State) (w : Who) (n : Fin 32) (v : Word) (h0 : n ≠ 0) (h : (s.th w).binding n = none) :
    s.writeG w n v = s.updTh w fun t => { t with g := t.g.set n v } := by
  simp [State.writeG, h0, h]

theorem State.chkDst_unbound (s : State) (w : Who) (n : Fin 32) (h : (s.th w).binding n = none) : s.chkDst w n = .ok () := by
  simp [State.chkDst, h]

/-- A task without uncommitted history may name bound registers. -/
theorem State.chkBound_free (s : State) (w : Who) (i : Instr) (h : s.history w = false) : s.chkBound w i = .ok () := by
  simp [State.chkBound, h, failIf]

/-- Whether an instruction names a bound register, in terms of its sources and destinations. -/
theorem State.namesBound_false (s : State) (w : Who) (i : Instr) :
    s.namesBound w i = false ↔ ∀ r ∈ i.srcs ++ i.dsts, (s.th w).binding r = none := by
  simp [State.namesBound, List.any_eq_false, Option.isSome_iff_ne_none, or_imp, forall_and]

theorem State.chkBound_unbound (s : State) (w : Who) (i : Instr) (h : s.namesBound w i = false) : s.chkBound w i = .ok () := by
  simp [State.chkBound, h, failIf]

theorem forM_ok {α : Type} (f : α → M Unit) : ∀ l : List α, (∀ x ∈ l, f x = .ok ()) → l.forM f = .ok ()
  | [], _ => rfl
  | x :: xs, h => by
    have h1 := h x (by simp)
    have h2 : forM xs f = .ok () := forM_ok f xs fun y hy => h y (by simp [hy])
    simp [List.forM_cons, h1, h2, bind, Except.bind]

/-- An instruction that names no bound register has no bound-register fault. -/
theorem State.chkOps_unbound (s : State) (w : Who) (i : Instr) (h : s.namesBound w i = false) : s.chkOps w i = .ok () := by
  have hb := (s.namesBound_false w i).1 h
  have h1 : i.srcs.forM (s.cbSrc w) = .ok () := forM_ok _ _ fun r hr => by simp [State.cbSrc, hb r (by simp [hr])]
  have h2 : i.dsts.forM (s.cbDst w) = .ok () := forM_ok _ _ fun r hr => by simp [State.cbDst, hb r (by simp [hr])]
  simp [State.chkOps, State.chkBound_unbound s w i h, State.chkCb, h1, h2, bind, Except.bind]

/-- An operand that does not wait is read as it stands. -/
@[simp] theorem M.waitsAfter_ok {α : Type} (x : α) (chk : M Unit) : (M.waitsAfter (.ok x) chk) = .ok x := rfl

/-- An instruction that names no bound register ends as its latency class says (R17). -/
theorem State.retireTo_unbound (s : State) (w : Who) (i : Instr) (pc : Word) (h : s.namesBound w i = false) :
    s.retireTo w i pc = s.upd w fun x => { x with st := .run, out := none, consulted := false, th := { x.th with pc := pc } } := by
  simp [State.retireTo, h]

/-- One that names a bound register is of variable latency (R17). -/
theorem State.retireTo_bound (s : State) (w : Who) (i : Instr) (pc : Word) (h : s.namesBound w i = true) :
    s.retireTo w i pc = s.retireVarTo w i pc := by
  simp [State.retireTo, h]

/-! ### Traps (R94 to R97) -/

theorem State.takeTrap_system (s : State) (w : Who) (code sub : Nat) (async insn : Bool) (tval epc : Word) (h : w.slot = 15) :
    s.takeTrap w code async sub tval epc insn = s.systemFault w.core tval := by
  simp [State.takeTrap, h]

/-- Sampling touches the capture units alone. -/
theorem State.unpark_eq (s : State) (w : Who) : ∃ cs, s.unpark w = { s with captures := cs } := by
  unfold State.unpark State.sample
  simp only
  split
  · exact ⟨_, rfl⟩
  · exact ⟨s.captures, rfl⟩

/-! ### Events -/

theorem takeEvent_nil (s : State) (f : Event → Option (State → State)) (h : s.agenda = []) : takeEvent s f = .next s := by
  simp [takeEvent, h]

theorem takeEvent_cons (s : State) (f : Event → Option (State → State)) (e : Event) (rest : List Event) (g : State → State)
    (h : s.agenda = e :: rest) (hf : f e = some g) : takeEvent s f = .next (g { s with agenda := rest }) := by
  simp [takeEvent, h, hf]

/-- An event that is not of the kind asked for stays where it is. -/
theorem takeEvent_other (s : State) (f : Event → Option (State → State)) (e : Event) (rest : List Event)
    (h : s.agenda = e :: rest) (hf : f e = none) : takeEvent s f = .next s := by
  simp [takeEvent, h, hf]

theorem takeEvent_ne_fault (s : State) (f : Event → Option (State → State)) (x : Fault) : takeEvent s f ≠ .fault x := by
  unfold takeEvent
  split
  · simp
  · split <;> simp

/-! ### The canonical form of memory -/

/-- Physical memory and every core's local memory stand in canonical form. -/
def State.memWf (s : State) : Prop := Mem.wf s.mem = true ∧ ∀ c, Mem.wf (s.core c).lmem = true

theorem State.memWf_reset : State.reset.memWf := Mem.wf_reset

theorem State.memWf_rekey (s : State) (g : Nat) (h : s.memWf) : (s.rekey g).memWf := by
  unfold State.rekey
  simp only
  split
  · exact h
  · generalize s.pread (32 * g) 32 = bs
    exact ⟨Mem.wf_sets h.1 (32 * g) bs, h.2⟩

theorem State.memWf_pwriteIn (s : State) (pa : Nat) (bs : List Byte) (h : s.memWf) : (s.pwriteIn pa bs).memWf := by
  have hr := s.memWf_rekey (pa / 32) h
  unfold State.pwriteIn
  simp only
  generalize s.rekey (pa / 32) = t at hr ⊢
  exact ⟨Mem.wf_sets hr.1 _ _, hr.2⟩

theorem State.memWf_pwriteN (n : Nat) : ∀ (s : State) (pa : Nat) (bs : List Byte), s.memWf → (s.pwriteN pa bs n).memWf := by
  induction n with
  | zero => exact fun _ _ _ h => h
  | succ n ih =>
    intro s pa bs h
    unfold State.pwriteN
    split
    · exact h
    · exact ih _ _ _ (State.memWf_pwriteIn _ _ _ h)

/-- A write of physical memory keeps the canonical form. -/
theorem State.memWf_pwrite (s : State) (pa : Nat) (bs : List Byte) (h : s.memWf) : (s.pwrite pa bs).memWf := by
  unfold State.pwrite
  split
  · exact State.memWf_pwriteN _ _ _ _ h
  · exact h

/-- A change of a core that keeps its local memory in canonical form. -/
theorem State.memWf_updCore (s : State) (c : Nat) (f : Core → Core) (h : s.memWf) (hf : Mem.wf (f (s.core c)).lmem = true) :
    (s.updCore c f).memWf := by
  refine ⟨h.1, fun c' => ?_⟩
  rw [State.core_updCore]
  split
  · exact hf
  · exact h.2 c'

/-- A write of local memory keeps the canonical form. -/
theorem State.memWf_lwrite (s : State) (c off : Nat) (bs : List Byte) (h : s.memWf) : (s.lwrite c off bs).memWf :=
  s.memWf_updCore c _ h (Mem.wf_sets (h.2 c) _ _)

/-- A write at a place keeps the canonical form. -/
theorem State.memWf_writeAt (s : State) (l : Loc) (bs : List Byte) (h : s.memWf) : (s.writeAt l bs).memWf := by
  cases l with
  | loc c off => exact s.memWf_lwrite c off bs h
  | mem x => exact s.memWf_pwrite x.pa bs h

/-- A waiter is recorded where its home's table has an entry left (R52). -/
theorem State.addWaiter_of_room (s : State) (c : Cell) (x : Waiter) (hf : farAway c.x.pa = false) (hs : (s.core c.x.home).spilled = [])
    (hw : (s.core c.x.home).waiters.length < 512) : ∃ t, s.addWaiter c x = some t := by
  unfold State.addWaiter
  simp only [hf, Bool.false_eq_true, if_false, State.core_updCore_same, hs, List.any_nil]
  rw [if_pos (Nat.lt_of_le_of_lt (List.length_filter_le _ _) hw)]
  exact ⟨_, rfl⟩

end Sys2Proof.Machine
end

