-- ==== Sys2Proof/Laws/PerInstr.lean ====
section
/-! SUPPORT. Statements made for every instruction as syntax, one lemma per constructor: an instruction's word fits in the 256 bits of the
longest instruction (R146, R147). -/

namespace Sys2Proof.Laws

theorem cond_code_lt (x : Cond) : x.code < 32 := by
  cases x <;> decide

theorem vCond_code_lt (x : VCond) : x.code < 32 := by
  cases x <;> decide

theorem pLogOp_code_lt (x : PLogOp) : x.code < 32 := by
  cases x <;> decide

theorem mLogOp_code_lt (x : MLogOp) : x.code < 32 := by
  cases x <;> decide

theorem sz_code_lt (x : Sz) : x.code < 32 := by
  cases x <;> decide

theorem szN_code_lt (x : SzN) : x.code < 32 := by
  cases x <;> decide

theorem eType_code_lt (x : EType) : x.code < 32 := by
  cases x <;> decide

theorem eType2_code_lt (x : EType2) : x.code < 32 := by
  cases x <;> decide

theorem rm_code_lt (x : Rm) : x.code < 32 := by
  cases x <;> decide

theorem scope_code_lt (x : Scope) : x.code < 32 := by
  cases x <;> decide

theorem esumT_code_lt (x : EsumT) : x.code < 32 := by
  cases x <;> decide

theorem szA_code_lt (x : SzA) : x.code < 32 := by
  cases x <;> decide

theorem szX_code_lt (x : SzX) : x.code < 32 := by
  rcases x with y | y <;> cases y <;> decide

theorem trigK_code_lt (x : TrigK) : x.code < 32 := by
  cases x <;> decide

theorem tileWord_lt (e c : Nat) (t : TWord) (he : e < 8) (hc : c < 64) : tileWord e c t < 2 ^ 256 := by
  unfold tileWord
  omega

end Sys2Proof.Laws

namespace Sys2Proof.Laws.WordFits

/-- An instruction's word, or T word, as one number is below 2^256. -/
def Statement (i : Instr) : Prop := encode i < 2 ^ 256

theorem add (d : Fin 32) (a : Fin 32) (b : Fin 32) : Statement (.add d a b) := by show 0x02000000 + d.val * 0x100000 + a.val * 0x8000 + b.val * 0x400 < 2 ^ 256; omega
theorem sub (d : Fin 32) (a : Fin 32) (b : Fin 32) : Statement (.sub d a b) := by show 0x02000001 + d.val * 0x100000 + a.val * 0x8000 + b.val * 0x400 < 2 ^ 256; omega
theorem mul (d : Fin 32) (a : Fin 32) (b : Fin 32) : Statement (.mul d a b) := by show 0x02000002 + d.val * 0x100000 + a.val * 0x8000 + b.val * 0x400 < 2 ^ 256; omega
theorem mulh (d : Fin 32) (a : Fin 32) (b : Fin 32) : Statement (.mulh d a b) := by show 0x02000003 + d.val * 0x100000 + a.val * 0x8000 + b.val * 0x400 < 2 ^ 256; omega
theorem mulhn (d : Fin 32) (a : Fin 32) (b : Fin 32) : Statement (.mulhn d a b) := by show 0x02000004 + d.val * 0x100000 + a.val * 0x8000 + b.val * 0x400 < 2 ^ 256; omega
theorem div (d : Fin 32) (a : Fin 32) (b : Fin 32) : Statement (.div d a b) := by show 0x02000005 + d.val * 0x100000 + a.val * 0x8000 + b.val * 0x400 < 2 ^ 256; omega
theorem divn (d : Fin 32) (a : Fin 32) (b : Fin 32) : Statement (.divn d a b) := by show 0x02000006 + d.val * 0x100000 + a.val * 0x8000 + b.val * 0x400 < 2 ^ 256; omega
theorem rem (d : Fin 32) (a : Fin 32) (b : Fin 32) : Statement (.rem d a b) := by show 0x02000007 + d.val * 0x100000 + a.val * 0x8000 + b.val * 0x400 < 2 ^ 256; omega
theorem remn (d : Fin 32) (a : Fin 32) (b : Fin 32) : Statement (.remn d a b) := by show 0x02000008 + d.val * 0x100000 + a.val * 0x8000 + b.val * 0x400 < 2 ^ 256; omega
theorem and (d : Fin 32) (a : Fin 32) (b : Fin 32) : Statement (.and d a b) := by show 0x02000009 + d.val * 0x100000 + a.val * 0x8000 + b.val * 0x400 < 2 ^ 256; omega
theorem or (d : Fin 32) (a : Fin 32) (b : Fin 32) : Statement (.or d a b) := by show 0x0200000A + d.val * 0x100000 + a.val * 0x8000 + b.val * 0x400 < 2 ^ 256; omega
theorem xor (d : Fin 32) (a : Fin 32) (b : Fin 32) : Statement (.xor d a b) := by show 0x0200000B + d.val * 0x100000 + a.val * 0x8000 + b.val * 0x400 < 2 ^ 256; omega
theorem andn (d : Fin 32) (a : Fin 32) (b : Fin 32) : Statement (.andn d a b) := by show 0x0200000C + d.val * 0x100000 + a.val * 0x8000 + b.val * 0x400 < 2 ^ 256; omega
theorem orn (d : Fin 32) (a : Fin 32) (b : Fin 32) : Statement (.orn d a b) := by show 0x0200000D + d.val * 0x100000 + a.val * 0x8000 + b.val * 0x400 < 2 ^ 256; omega
theorem sll (d : Fin 32) (a : Fin 32) (b : Fin 32) : Statement (.sll d a b) := by show 0x0200000E + d.val * 0x100000 + a.val * 0x8000 + b.val * 0x400 < 2 ^ 256; omega
theorem srl (d : Fin 32) (a : Fin 32) (b : Fin 32) : Statement (.srl d a b) := by show 0x0200000F + d.val * 0x100000 + a.val * 0x8000 + b.val * 0x400 < 2 ^ 256; omega
theorem sra (d : Fin 32) (a : Fin 32) (b : Fin 32) : Statement (.sra d a b) := by show 0x02000010 + d.val * 0x100000 + a.val * 0x8000 + b.val * 0x400 < 2 ^ 256; omega
theorem ror (d : Fin 32) (a : Fin 32) (b : Fin 32) : Statement (.ror d a b) := by show 0x02000011 + d.val * 0x100000 + a.val * 0x8000 + b.val * 0x400 < 2 ^ 256; omega
theorem min (d : Fin 32) (a : Fin 32) (b : Fin 32) : Statement (.min d a b) := by show 0x02000012 + d.val * 0x100000 + a.val * 0x8000 + b.val * 0x400 < 2 ^ 256; omega
theorem max (d : Fin 32) (a : Fin 32) (b : Fin 32) : Statement (.max d a b) := by show 0x02000013 + d.val * 0x100000 + a.val * 0x8000 + b.val * 0x400 < 2 ^ 256; omega
theorem minn (d : Fin 32) (a : Fin 32) (b : Fin 32) : Statement (.minn d a b) := by show 0x02000014 + d.val * 0x100000 + a.val * 0x8000 + b.val * 0x400 < 2 ^ 256; omega
theorem maxn (d : Fin 32) (a : Fin 32) (b : Fin 32) : Statement (.maxn d a b) := by show 0x02000015 + d.val * 0x100000 + a.val * 0x8000 + b.val * 0x400 < 2 ^ 256; omega
theorem slt (d : Fin 32) (a : Fin 32) (b : Fin 32) : Statement (.slt d a b) := by show 0x02000016 + d.val * 0x100000 + a.val * 0x8000 + b.val * 0x400 < 2 ^ 256; omega
theorem sltn (d : Fin 32) (a : Fin 32) (b : Fin 32) : Statement (.sltn d a b) := by show 0x02000017 + d.val * 0x100000 + a.val * 0x8000 + b.val * 0x400 < 2 ^ 256; omega
theorem addW (d : Fin 32) (a : Fin 32) (b : Fin 32) : Statement (.addW d a b) := by show 0x04000000 + d.val * 0x100000 + a.val * 0x8000 + b.val * 0x400 < 2 ^ 256; omega
theorem subW (d : Fin 32) (a : Fin 32) (b : Fin 32) : Statement (.subW d a b) := by show 0x04000001 + d.val * 0x100000 + a.val * 0x8000 + b.val * 0x400 < 2 ^ 256; omega
theorem mulW (d : Fin 32) (a : Fin 32) (b : Fin 32) : Statement (.mulW d a b) := by show 0x04000002 + d.val * 0x100000 + a.val * 0x8000 + b.val * 0x400 < 2 ^ 256; omega
theorem mulhW (d : Fin 32) (a : Fin 32) (b : Fin 32) : Statement (.mulhW d a b) := by show 0x04000003 + d.val * 0x100000 + a.val * 0x8000 + b.val * 0x400 < 2 ^ 256; omega
theorem mulhnW (d : Fin 32) (a : Fin 32) (b : Fin 32) : Statement (.mulhnW d a b) := by show 0x04000004 + d.val * 0x100000 + a.val * 0x8000 + b.val * 0x400 < 2 ^ 256; omega
theorem divW (d : Fin 32) (a : Fin 32) (b : Fin 32) : Statement (.divW d a b) := by show 0x04000005 + d.val * 0x100000 + a.val * 0x8000 + b.val * 0x400 < 2 ^ 256; omega
theorem divnW (d : Fin 32) (a : Fin 32) (b : Fin 32) : Statement (.divnW d a b) := by show 0x04000006 + d.val * 0x100000 + a.val * 0x8000 + b.val * 0x400 < 2 ^ 256; omega
theorem remW (d : Fin 32) (a : Fin 32) (b : Fin 32) : Statement (.remW d a b) := by show 0x04000007 + d.val * 0x100000 + a.val * 0x8000 + b.val * 0x400 < 2 ^ 256; omega
theorem remnW (d : Fin 32) (a : Fin 32) (b : Fin 32) : Statement (.remnW d a b) := by show 0x04000008 + d.val * 0x100000 + a.val * 0x8000 + b.val * 0x400 < 2 ^ 256; omega
theorem sllW (d : Fin 32) (a : Fin 32) (b : Fin 32) : Statement (.sllW d a b) := by show 0x0400000E + d.val * 0x100000 + a.val * 0x8000 + b.val * 0x400 < 2 ^ 256; omega
theorem srlW (d : Fin 32) (a : Fin 32) (b : Fin 32) : Statement (.srlW d a b) := by show 0x0400000F + d.val * 0x100000 + a.val * 0x8000 + b.val * 0x400 < 2 ^ 256; omega
theorem sraW (d : Fin 32) (a : Fin 32) (b : Fin 32) : Statement (.sraW d a b) := by show 0x04000010 + d.val * 0x100000 + a.val * 0x8000 + b.val * 0x400 < 2 ^ 256; omega
theorem rorW (d : Fin 32) (a : Fin 32) (b : Fin 32) : Statement (.rorW d a b) := by show 0x04000011 + d.val * 0x100000 + a.val * 0x8000 + b.val * 0x400 < 2 ^ 256; omega
theorem minW (d : Fin 32) (a : Fin 32) (b : Fin 32) : Statement (.minW d a b) := by show 0x04000012 + d.val * 0x100000 + a.val * 0x8000 + b.val * 0x400 < 2 ^ 256; omega
theorem maxW (d : Fin 32) (a : Fin 32) (b : Fin 32) : Statement (.maxW d a b) := by show 0x04000013 + d.val * 0x100000 + a.val * 0x8000 + b.val * 0x400 < 2 ^ 256; omega
theorem minnW (d : Fin 32) (a : Fin 32) (b : Fin 32) : Statement (.minnW d a b) := by show 0x04000014 + d.val * 0x100000 + a.val * 0x8000 + b.val * 0x400 < 2 ^ 256; omega
theorem maxnW (d : Fin 32) (a : Fin 32) (b : Fin 32) : Statement (.maxnW d a b) := by show 0x04000015 + d.val * 0x100000 + a.val * 0x8000 + b.val * 0x400 < 2 ^ 256; omega
theorem sltW (d : Fin 32) (a : Fin 32) (b : Fin 32) : Statement (.sltW d a b) := by show 0x04000016 + d.val * 0x100000 + a.val * 0x8000 + b.val * 0x400 < 2 ^ 256; omega
theorem sltnW (d : Fin 32) (a : Fin 32) (b : Fin 32) : Statement (.sltnW d a b) := by show 0x04000017 + d.val * 0x100000 + a.val * 0x8000 + b.val * 0x400 < 2 ^ 256; omega
theorem addi (d : Fin 32) (a : Fin 32) (i : BitVec 15) : Statement (.addi d a i) := by show 0x06000000 + d.val * 0x100000 + a.val * 0x8000 + i.toNat < 2 ^ 256; omega
theorem andi (d : Fin 32) (a : Fin 32) (i : BitVec 15) : Statement (.andi d a i) := by show 0x08000000 + d.val * 0x100000 + a.val * 0x8000 + i.toNat < 2 ^ 256; omega
theorem ori (d : Fin 32) (a : Fin 32) (i : BitVec 15) : Statement (.ori d a i) := by show 0x0A000000 + d.val * 0x100000 + a.val * 0x8000 + i.toNat < 2 ^ 256; omega
theorem xori (d : Fin 32) (a : Fin 32) (i : BitVec 15) : Statement (.xori d a i) := by show 0x0C000000 + d.val * 0x100000 + a.val * 0x8000 + i.toNat < 2 ^ 256; omega
theorem slti (d : Fin 32) (a : Fin 32) (i : BitVec 15) : Statement (.slti d a i) := by show 0x0E000000 + d.val * 0x100000 + a.val * 0x8000 + i.toNat < 2 ^ 256; omega
theorem sltni (d : Fin 32) (a : Fin 32) (i : BitVec 15) : Statement (.sltni d a i) := by show 0x10000000 + d.val * 0x100000 + a.val * 0x8000 + i.toNat < 2 ^ 256; omega
theorem slli (d : Fin 32) (a : Fin 32) (n : Fin 64) : Statement (.slli d a n) := by show 0x12000000 + d.val * 0x100000 + a.val * 0x8000 + n.val < 2 ^ 256; omega
theorem srli (d : Fin 32) (a : Fin 32) (n : Fin 64) : Statement (.srli d a n) := by show 0x12001000 + d.val * 0x100000 + a.val * 0x8000 + n.val < 2 ^ 256; omega
theorem srai (d : Fin 32) (a : Fin 32) (n : Fin 64) : Statement (.srai d a n) := by show 0x12002000 + d.val * 0x100000 + a.val * 0x8000 + n.val < 2 ^ 256; omega
theorem rori (d : Fin 32) (a : Fin 32) (n : Fin 64) : Statement (.rori d a n) := by show 0x12003000 + d.val * 0x100000 + a.val * 0x8000 + n.val < 2 ^ 256; omega
theorem slliW (d : Fin 32) (a : Fin 32) (n : Fin 32) : Statement (.slliW d a n) := by show 0x12004000 + d.val * 0x100000 + a.val * 0x8000 + n.val < 2 ^ 256; omega
theorem srliW (d : Fin 32) (a : Fin 32) (n : Fin 32) : Statement (.srliW d a n) := by show 0x12005000 + d.val * 0x100000 + a.val * 0x8000 + n.val < 2 ^ 256; omega
theorem sraiW (d : Fin 32) (a : Fin 32) (n : Fin 32) : Statement (.sraiW d a n) := by show 0x12006000 + d.val * 0x100000 + a.val * 0x8000 + n.val < 2 ^ 256; omega
theorem roriW (d : Fin 32) (a : Fin 32) (n : Fin 32) : Statement (.roriW d a n) := by show 0x12007000 + d.val * 0x100000 + a.val * 0x8000 + n.val < 2 ^ 256; omega
theorem lui (d : Fin 32) (i : BitVec 20) : Statement (.lui d i) := by show 0x1A000000 + d.val * 0x100000 + i.toNat < 2 ^ 256; omega
theorem auipc (d : Fin 32) (i : BitVec 20) : Statement (.auipc d i) := by show 0x1C000000 + d.val * 0x100000 + i.toNat < 2 ^ 256; omega
theorem clz (d : Fin 32) (a : Fin 32) : Statement (.clz d a) := by show 0x1E000000 + d.val * 0x100000 + a.val * 0x8000 < 2 ^ 256; omega
theorem ctz (d : Fin 32) (a : Fin 32) : Statement (.ctz d a) := by show 0x1E000001 + d.val * 0x100000 + a.val * 0x8000 < 2 ^ 256; omega
theorem popc (d : Fin 32) (a : Fin 32) : Statement (.popc d a) := by show 0x1E000002 + d.val * 0x100000 + a.val * 0x8000 < 2 ^ 256; omega
theorem brev (d : Fin 32) (a : Fin 32) : Statement (.brev d a) := by show 0x1E000003 + d.val * 0x100000 + a.val * 0x8000 < 2 ^ 256; omega
theorem bswap (d : Fin 32) (a : Fin 32) : Statement (.bswap d a) := by show 0x1E000004 + d.val * 0x100000 + a.val * 0x8000 < 2 ^ 256; omega
theorem bfx (d : Fin 32) (a : Fin 32) (b : Fin 32) : Statement (.bfx d a b) := by show 0x1E000008 + d.val * 0x100000 + a.val * 0x8000 + b.val * 0x400 < 2 ^ 256; omega
theorem bfxn (d : Fin 32) (a : Fin 32) (b : Fin 32) : Statement (.bfxn d a b) := by show 0x1E000009 + d.val * 0x100000 + a.val * 0x8000 + b.val * 0x400 < 2 ^ 256; omega
theorem bfi (d : Fin 32) (a : Fin 32) (b : Fin 32) : Statement (.bfi d a b) := by show 0x1E00000A + d.val * 0x100000 + a.val * 0x8000 + b.val * 0x400 < 2 ^ 256; omega
theorem hltw (a : Fin 32) (b : Fin 32) : Statement (.hltw a b) := by show 0x1E000010 + a.val * 0x8000 + b.val * 0x400 < 2 ^ 256; omega
theorem hpack (d : Fin 32) (a : Fin 32) (b : Fin 32) (n : Fin 8) : Statement (.hpack d a b n) := by show 0x1E000040 + d.val * 0x100000 + a.val * 0x8000 + b.val * 0x400 + n.val < 2 ^ 256; omega
theorem hparse (d : Fin 32) (a : Fin 32) (b : Fin 32) (n : Fin 8) : Statement (.hparse d a b n) := by show 0x1E000048 + d.val * 0x100000 + a.val * 0x8000 + b.val * 0x400 + n.val < 2 ^ 256; omega
theorem pcmp (p : Fin 16) (a : Fin 32) (b : Fin 32) (c : Cond) : Statement (.pcmp p a b c) := by show 0x16000000 + p.val * 0x100000 + a.val * 0x8000 + b.val * 0x400 + c.code < 2 ^ 256; have := cond_code_lt c; omega
theorem pcmpi (p : Fin 16) (a : Fin 32) (c : Cond) (i : BitVec 12) : Statement (.pcmpi p a c i) := by show 0x14000000 + p.val * 0x100000 + a.val * 0x8000 + c.code * 0x1000 + i.toNat < 2 ^ 256; have := cond_code_lt c; omega
theorem plog (d : Fin 16) (a : Fin 16) (b : Fin 16) (o : PLogOp) : Statement (.plog d a b o) := by show 0x16000010 + d.val * 0x100000 + a.val * 0x8000 + b.val * 0x400 + o.code < 2 ^ 256; have := pLogOp_code_lt o; omega
theorem ptog (d : Fin 32) : Statement (.ptog d) := by show 0x16000018 + d.val * 0x100000 < 2 ^ 256; omega
theorem gtop (a : Fin 32) : Statement (.gtop a) := by show 0x16000019 + a.val * 0x8000 < 2 ^ 256; omega
theorem sel (d : Fin 32) (a : Fin 32) (b : Fin 32) (n : Fin 16) : Statement (.sel d a b n) := by show 0x16000020 + d.val * 0x100000 + a.val * 0x8000 + b.val * 0x400 + n.val < 2 ^ 256; omega
theorem jalr (d : Fin 32) (a : Fin 32) : Statement (.jalr d a) := by show 0x16000030 + d.val * 0x100000 + a.val * 0x8000 < 2 ^ 256; omega
theorem beq (a : Fin 32) (b : Fin 32) (o : BitVec 15) : Statement (.beq a b o) := by show 0x30000000 + a.val * 0x100000 + b.val * 0x8000 + o.toNat < 2 ^ 256; omega
theorem bne (a : Fin 32) (b : Fin 32) (o : BitVec 15) : Statement (.bne a b o) := by show 0x32000000 + a.val * 0x100000 + b.val * 0x8000 + o.toNat < 2 ^ 256; omega
theorem blt (a : Fin 32) (b : Fin 32) (o : BitVec 15) : Statement (.blt a b o) := by show 0x34000000 + a.val * 0x100000 + b.val * 0x8000 + o.toNat < 2 ^ 256; omega
theorem bge (a : Fin 32) (b : Fin 32) (o : BitVec 15) : Statement (.bge a b o) := by show 0x36000000 + a.val * 0x100000 + b.val * 0x8000 + o.toNat < 2 ^ 256; omega
theorem bltn (a : Fin 32) (b : Fin 32) (o : BitVec 15) : Statement (.bltn a b o) := by show 0x38000000 + a.val * 0x100000 + b.val * 0x8000 + o.toNat < 2 ^ 256; omega
theorem bgen (a : Fin 32) (b : Fin 32) (o : BitVec 15) : Statement (.bgen a b o) := by show 0x3A000000 + a.val * 0x100000 + b.val * 0x8000 + o.toNat < 2 ^ 256; omega
theorem bp (p : Fin 16) (o : BitVec 15) : Statement (.bp p o) := by show 0x3C000000 + p.val * 0x100000 + o.toNat < 2 ^ 256; omega
theorem bnp (p : Fin 16) (o : BitVec 15) : Statement (.bnp p o) := by show 0x3D000000 + p.val * 0x100000 + o.toNat < 2 ^ 256; omega
theorem jal (d : Fin 32) (o : BitVec 20) : Statement (.jal d o) := by show 0x3E000000 + d.val * 0x100000 + o.toNat < 2 ^ 256; omega
theorem ld (d : Fin 32) (a : Fin 32) (s : Sz) (o : BitVec 12) : Statement (.ld d a s o) := by show 0x20000000 + d.val * 0x100000 + a.val * 0x8000 + s.code * 0x1000 + o.toNat < 2 ^ 256; have := sz_code_lt s; omega
theorem ldn (d : Fin 32) (a : Fin 32) (s : SzN) (o : BitVec 12) : Statement (.ldn d a s o) := by show 0x20004000 + d.val * 0x100000 + a.val * 0x8000 + s.code * 0x1000 + o.toNat < 2 ^ 256; have := szN_code_lt s; omega
theorem st (d : Fin 32) (a : Fin 32) (s : Sz) (o : BitVec 12) : Statement (.st d a s o) := by show 0x22000000 + d.val * 0x100000 + a.val * 0x8000 + s.code * 0x1000 + o.toNat < 2 ^ 256; have := sz_code_lt s; omega
theorem ldx (d : Fin 32) (a : Fin 32) (b : Fin 32) (s : SzX) : Statement (.ldx d a b s) := by show 0x24000000 + d.val * 0x100000 + a.val * 0x8000 + b.val * 0x400 + s.code < 2 ^ 256; have := szX_code_lt s; omega
theorem stx (d : Fin 32) (a : Fin 32) (b : Fin 32) (s : Sz) : Statement (.stx d a b s) := by show 0x24000008 + d.val * 0x100000 + a.val * 0x8000 + b.val * 0x400 + s.code < 2 ^ 256; have := sz_code_lt s; omega
theorem publish (a : Fin 32) (b : Fin 32) : Statement (.publish a b) := by show 0x24000010 + a.val * 0x8000 + b.val * 0x400 < 2 ^ 256; omega
theorem amoadd (d : Fin 32) (a : Fin 32) (b : Fin 32) (s : SzA) : Statement (.amoadd d a b s) := by show 0x26000002 + d.val * 0x100000 + a.val * 0x8000 + b.val * 0x400 + (s.code - 2) < 2 ^ 256; have := szA_code_lt s; omega
theorem amoand (d : Fin 32) (a : Fin 32) (b : Fin 32) (s : SzA) : Statement (.amoand d a b s) := by show 0x2600000A + d.val * 0x100000 + a.val * 0x8000 + b.val * 0x400 + (s.code - 2) < 2 ^ 256; have := szA_code_lt s; omega
theorem amoor (d : Fin 32) (a : Fin 32) (b : Fin 32) (s : SzA) : Statement (.amoor d a b s) := by show 0x26000012 + d.val * 0x100000 + a.val * 0x8000 + b.val * 0x400 + (s.code - 2) < 2 ^ 256; have := szA_code_lt s; omega
theorem amoxor (d : Fin 32) (a : Fin 32) (b : Fin 32) (s : SzA) : Statement (.amoxor d a b s) := by show 0x2600001A + d.val * 0x100000 + a.val * 0x8000 + b.val * 0x400 + (s.code - 2) < 2 ^ 256; have := szA_code_lt s; omega
theorem amomin (d : Fin 32) (a : Fin 32) (b : Fin 32) (s : SzA) : Statement (.amomin d a b s) := by show 0x26000022 + d.val * 0x100000 + a.val * 0x8000 + b.val * 0x400 + (s.code - 2) < 2 ^ 256; have := szA_code_lt s; omega
theorem amomax (d : Fin 32) (a : Fin 32) (b : Fin 32) (s : SzA) : Statement (.amomax d a b s) := by show 0x2600002A + d.val * 0x100000 + a.val * 0x8000 + b.val * 0x400 + (s.code - 2) < 2 ^ 256; have := szA_code_lt s; omega
theorem amoswp (d : Fin 32) (a : Fin 32) (b : Fin 32) (s : SzA) : Statement (.amoswp d a b s) := by show 0x26000032 + d.val * 0x100000 + a.val * 0x8000 + b.val * 0x400 + (s.code - 2) < 2 ^ 256; have := szA_code_lt s; omega
theorem amocas (d : Fin 32) (a : Fin 32) (b : Fin 32) (s : SzA) : Statement (.amocas d a b s) := by show 0x2600003A + d.val * 0x100000 + a.val * 0x8000 + b.val * 0x400 + (s.code - 2) < 2 ^ 256; have := szA_code_lt s; omega
theorem fence (k : BitVec 6) (s : Scope) : Statement (.fence k s) := by show 0x28000000 + k.toNat * 0x8 + s.code < 2 ^ 256; have := scope_code_lt s; omega
theorem ljoin (a : Fin 32) (b : Fin 32) : Statement (.ljoin a b) := by show 0x40000000 + a.val * 0x8000 + b.val * 0x400 < 2 ^ 256; omega
theorem ljoinR (a : Fin 32) (b : Fin 32) : Statement (.ljoinR a b) := by show 0x40000040 + a.val * 0x8000 + b.val * 0x400 < 2 ^ 256; omega
theorem lfill (a : Fin 32) (b : Fin 32) : Statement (.lfill a b) := by show 0x40000001 + a.val * 0x8000 + b.val * 0x400 < 2 ^ 256; omega
theorem lfillv (a : Fin 32) (v : Fin 16) : Statement (.lfillv a v) := by show 0x40000002 + a.val * 0x8000 + v.val * 0x400 < 2 ^ 256; omega
theorem lfillm (a : Fin 32) (b : Fin 32) (m : Fin 8) : Statement (.lfillm a b m) := by show 0x40000003 + a.val * 0x8000 + b.val * 0x400 + m.val * 0x40 < 2 ^ 256; omega
theorem lesum (a : Fin 32) (b : Fin 32) (t : EsumT) : Statement (.lesum a b t) := by show 0x40000004 + a.val * 0x8000 + b.val * 0x400 + t.code * 0x40 < 2 ^ 256; have := esumT_code_lt t; omega
theorem lwait (d : Fin 32) (a : Fin 32) (b : Fin 32) (n : Fin 4) (k : TrigK) : Statement (.lwait d a b n k) := by show 0x40000008 + d.val * 0x100000 + a.val * 0x8000 + b.val * 0x400 + n.val * 0x100 + k.code * 0x40 < 2 ^ 256; have := trigK_code_lt k; omega
theorem lwaitf (d : Fin 32) (a : Fin 32) (b : Fin 32) : Statement (.lwaitf d a b) := by show 0x40000089 + d.val * 0x100000 + a.val * 0x8000 + b.val * 0x400 < 2 ^ 256; omega
theorem larm (d : Fin 32) (a : Fin 32) (b : Fin 32) (n : Fin 4) (k : TrigK) : Statement (.larm d a b n k) := by show 0x4000000A + d.val * 0x100000 + a.val * 0x8000 + b.val * 0x400 + n.val * 0x100 + k.code * 0x40 < 2 ^ 256; have := trigK_code_lt k; omega
theorem lfrz (d : Fin 32) (a : Fin 32) : Statement (.lfrz d a) := by show 0x40000010 + d.val * 0x100000 + a.val * 0x8000 < 2 ^ 256; omega
theorem lfrza (a : Fin 32) : Statement (.lfrza a) := by show 0x40000011 + a.val * 0x8000 < 2 ^ 256; omega
theorem lxrd (d : Fin 32) (a : Fin 32) : Statement (.lxrd d a) := by show 0x40000012 + d.val * 0x100000 + a.val * 0x8000 < 2 ^ 256; omega
theorem lxrdv (v : Fin 16) (a : Fin 32) : Statement (.lxrdv v a) := by show 0x40000013 + v.val * 0x100000 + a.val * 0x8000 < 2 ^ 256; omega
theorem lstat (d : Fin 32) (a : Fin 32) : Statement (.lstat d a) := by show 0x40000014 + d.val * 0x100000 + a.val * 0x8000 < 2 ^ 256; omega
theorem send (d : Fin 32) (a : Fin 32) (b : Fin 32) : Statement (.send d a b) := by show 0x42000000 + d.val * 0x100000 + a.val * 0x8000 + b.val * 0x400 < 2 ^ 256; omega
theorem sendF (d : Fin 32) (a : Fin 32) (b : Fin 32) : Statement (.sendF d a b) := by show 0x42000001 + d.val * 0x100000 + a.val * 0x8000 + b.val * 0x400 < 2 ^ 256; omega
theorem sendH (d : Fin 32) (a : Fin 32) (b : Fin 32) : Statement (.sendH d a b) := by show 0x42000002 + d.val * 0x100000 + a.val * 0x8000 + b.val * 0x400 < 2 ^ 256; omega
theorem sendl (d : Fin 32) (a : Fin 32) (b : Fin 32) (n : Fin 8) : Statement (.sendl d a b n) := by show 0x42000008 + d.val * 0x100000 + a.val * 0x8000 + b.val * 0x400 + n.val < 2 ^ 256; omega
theorem sendlF (d : Fin 32) (a : Fin 32) (b : Fin 32) (n : Fin 8) : Statement (.sendlF d a b n) := by show 0x42000010 + d.val * 0x100000 + a.val * 0x8000 + b.val * 0x400 + n.val < 2 ^ 256; omega
theorem recv (d : Fin 32) (a : Fin 32) : Statement (.recv d a) := by show 0x42000020 + d.val * 0x100000 + a.val * 0x8000 < 2 ^ 256; omega
theorem recvp (d : Fin 32) (a : Fin 32) : Statement (.recvp d a) := by show 0x42000021 + d.val * 0x100000 + a.val * 0x8000 < 2 ^ 256; omega
theorem recvN (d : Fin 32) (a : Fin 32) : Statement (.recvN d a) := by show 0x42000022 + d.val * 0x100000 + a.val * 0x8000 < 2 ^ 256; omega
theorem recvpN (d : Fin 32) (a : Fin 32) : Statement (.recvpN d a) := by show 0x42000023 + d.val * 0x100000 + a.val * 0x8000 < 2 ^ 256; omega
theorem vtset (a : Fin 32) : Statement (.vtset a) := by show 0x42000030 + a.val * 0x8000 < 2 ^ 256; omega
theorem gvtrd (d : Fin 32) : Statement (.gvtrd d) := by show 0x42000031 + d.val * 0x100000 < 2 ^ 256; omega
theorem cmtw : Statement .cmtw := by show 0x42000032 < 2 ^ 256; decide
theorem spawnFifo (d : Fin 32) (a : Fin 32) (b : Fin 32) : Statement (.spawnFifo d a b) := by show 0x44000000 + d.val * 0x100000 + a.val * 0x8000 + b.val * 0x400 < 2 ^ 256; omega
theorem spawnOrd (d : Fin 32) (a : Fin 32) (b : Fin 32) : Statement (.spawnOrd d a b) := by show 0x44000001 + d.val * 0x100000 + a.val * 0x8000 + b.val * 0x400 < 2 ^ 256; omega
theorem spawnOpt (d : Fin 32) (a : Fin 32) (b : Fin 32) : Statement (.spawnOpt d a b) := by show 0x44000002 + d.val * 0x100000 + a.val * 0x8000 + b.val * 0x400 < 2 ^ 256; omega
theorem spawnL (d : Fin 32) (a : Fin 32) (b : Fin 32) : Statement (.spawnL d a b) := by show 0x44000004 + d.val * 0x100000 + a.val * 0x8000 + b.val * 0x400 < 2 ^ 256; omega
theorem spawnC (d : Fin 32) (a : Fin 32) (b : Fin 32) : Statement (.spawnC d a b) := by show 0x44000005 + d.val * 0x100000 + a.val * 0x8000 + b.val * 0x400 < 2 ^ 256; omega
theorem exit : Statement .exit := by show 0x44000010 < 2 ^ 256; decide
theorem yield : Statement .yield := by show 0x44000011 < 2 ^ 256; decide
theorem gbar (l : Fin 6) : Statement (.gbar l) := by show 0x44000012 + l.val * 0x400 < 2 ^ 256; omega
theorem widf (d : Fin 32) (n : Fin 6) : Statement (.widf d n) := by show 0x44000013 + d.val * 0x100000 + n.val * 0x400 < 2 ^ 256; omega
theorem migr (d : Fin 32) (a : Fin 32) : Statement (.migr d a) := by show 0x44000014 + d.val * 0x100000 + a.val * 0x8000 < 2 ^ 256; omega
theorem mpin (n : Fin 2) : Statement (.mpin n) := by show 0x44000015 + n.val * 0x400 < 2 ^ 256; omega
theorem twait (a : Fin 32) : Statement (.twait a) := by show 0x44000016 + a.val * 0x8000 < 2 ^ 256; omega
theorem csrr (d : Fin 32) (c : BitVec 12) : Statement (.csrr d c) := by show 0x60000000 + d.val * 0x100000 + c.toNat < 2 ^ 256; omega
theorem csrw (d : Fin 32) (a : Fin 32) (c : BitVec 12) : Statement (.csrw d a c) := by show 0x60001000 + d.val * 0x100000 + a.val * 0x8000 + c.toNat < 2 ^ 256; omega
theorem csrs (d : Fin 32) (a : Fin 32) (c : BitVec 12) : Statement (.csrs d a c) := by show 0x60002000 + d.val * 0x100000 + a.val * 0x8000 + c.toNat < 2 ^ 256; omega
theorem csrc (d : Fin 32) (a : Fin 32) (c : BitVec 12) : Statement (.csrc d a c) := by show 0x60003000 + d.val * 0x100000 + a.val * 0x8000 + c.toNat < 2 ^ 256; omega
theorem eret : Statement .eret := by show 0x62000000 < 2 ^ 256; decide
theorem brk : Statement .brk := by show 0x62000001 < 2 ^ 256; decide
theorem wfi : Statement .wfi := by show 0x62000002 < 2 ^ 256; decide
theorem ctxsv (d : Fin 32) (a : Fin 32) : Statement (.ctxsv d a) := by show 0x62000003 + d.val * 0x100000 + a.val * 0x8000 < 2 ^ 256; omega
theorem ctxld (d : Fin 32) (a : Fin 32) : Statement (.ctxld d a) := by show 0x62000004 + d.val * 0x100000 + a.val * 0x8000 < 2 ^ 256; omega
theorem slotctl (d : Fin 32) (a : Fin 32) (b : Fin 32) : Statement (.slotctl d a b) := by show 0x62000005 + d.val * 0x100000 + a.val * 0x8000 + b.val * 0x400 < 2 ^ 256; omega
theorem xinv (a : Fin 32) (b : Fin 32) : Statement (.xinv a b) := by show 0x62000006 + a.val * 0x8000 + b.val * 0x400 < 2 ^ 256; omega
theorem cinv (a : Fin 32) (b : Fin 32) : Statement (.cinv a b) := by show 0x62000007 + a.val * 0x8000 + b.val * 0x400 < 2 ^ 256; omega
theorem trap (n : Fin 256) : Statement (.trap n) := by show 0x62000100 + n.val < 2 ^ 256; omega
theorem vsetvl (d : Fin 32) (a : Fin 32) (e : EType) : Statement (.vsetvl d a e) := by show 0xE0000000 + d.val * 0x100000 + a.val * 0x8000 + e.code < 2 ^ 256; have := eType_code_lt e; omega
theorem vadd (d : Fin 16) (a : Fin 16) (b : Fin 16) (m : Fin 8) (e : EType) (r : Rm) : Statement (.vadd d a b m e r) := by show 0x80000000 + d.val * 0x200000 + a.val * 0x20000 + b.val * 0x2000 + m.val * 0x400 + e.code * 0x80 + r.code * 0x20 < 2 ^ 256; have := eType_code_lt e; have := rm_code_lt r; omega
theorem vsub (d : Fin 16) (a : Fin 16) (b : Fin 16) (m : Fin 8) (e : EType) (r : Rm) : Statement (.vsub d a b m e r) := by show 0x80000001 + d.val * 0x200000 + a.val * 0x20000 + b.val * 0x2000 + m.val * 0x400 + e.code * 0x80 + r.code * 0x20 < 2 ^ 256; have := eType_code_lt e; have := rm_code_lt r; omega
theorem vmul (d : Fin 16) (a : Fin 16) (b : Fin 16) (m : Fin 8) (e : EType) (r : Rm) : Statement (.vmul d a b m e r) := by show 0x80000002 + d.val * 0x200000 + a.val * 0x20000 + b.val * 0x2000 + m.val * 0x400 + e.code * 0x80 + r.code * 0x20 < 2 ^ 256; have := eType_code_lt e; have := rm_code_lt r; omega
theorem vmin (d : Fin 16) (a : Fin 16) (b : Fin 16) (m : Fin 8) (e : EType) (r : Rm) : Statement (.vmin d a b m e r) := by show 0x80000003 + d.val * 0x200000 + a.val * 0x20000 + b.val * 0x2000 + m.val * 0x400 + e.code * 0x80 + r.code * 0x20 < 2 ^ 256; have := eType_code_lt e; have := rm_code_lt r; omega
theorem vmax (d : Fin 16) (a : Fin 16) (b : Fin 16) (m : Fin 8) (e : EType) (r : Rm) : Statement (.vmax d a b m e r) := by show 0x80000004 + d.val * 0x200000 + a.val * 0x20000 + b.val * 0x2000 + m.val * 0x400 + e.code * 0x80 + r.code * 0x20 < 2 ^ 256; have := eType_code_lt e; have := rm_code_lt r; omega
theorem vminN (d : Fin 16) (a : Fin 16) (b : Fin 16) (m : Fin 8) (e : EType) : Statement (.vminN d a b m e) := by show 0x80000005 + d.val * 0x200000 + a.val * 0x20000 + b.val * 0x2000 + m.val * 0x400 + e.code * 0x80 < 2 ^ 256; have := eType_code_lt e; omega
theorem vmaxN (d : Fin 16) (a : Fin 16) (b : Fin 16) (m : Fin 8) (e : EType) : Statement (.vmaxN d a b m e) := by show 0x80000006 + d.val * 0x200000 + a.val * 0x20000 + b.val * 0x2000 + m.val * 0x400 + e.code * 0x80 < 2 ^ 256; have := eType_code_lt e; omega
theorem vabs (d : Fin 16) (a : Fin 16) (m : Fin 8) (e : EType) (r : Rm) : Statement (.vabs d a m e r) := by show 0x80000007 + d.val * 0x200000 + a.val * 0x20000 + m.val * 0x400 + e.code * 0x80 + r.code * 0x20 < 2 ^ 256; have := eType_code_lt e; have := rm_code_lt r; omega
theorem vneg (d : Fin 16) (a : Fin 16) (m : Fin 8) (e : EType) (r : Rm) : Statement (.vneg d a m e r) := by show 0x80000008 + d.val * 0x200000 + a.val * 0x20000 + m.val * 0x400 + e.code * 0x80 + r.code * 0x20 < 2 ^ 256; have := eType_code_lt e; have := rm_code_lt r; omega
theorem vand (d : Fin 16) (a : Fin 16) (b : Fin 16) (m : Fin 8) (e : EType) : Statement (.vand d a b m e) := by show 0x80000009 + d.val * 0x200000 + a.val * 0x20000 + b.val * 0x2000 + m.val * 0x400 + e.code * 0x80 < 2 ^ 256; have := eType_code_lt e; omega
theorem vor (d : Fin 16) (a : Fin 16) (b : Fin 16) (m : Fin 8) (e : EType) : Statement (.vor d a b m e) := by show 0x8000000A + d.val * 0x200000 + a.val * 0x20000 + b.val * 0x2000 + m.val * 0x400 + e.code * 0x80 < 2 ^ 256; have := eType_code_lt e; omega
theorem vxor (d : Fin 16) (a : Fin 16) (b : Fin 16) (m : Fin 8) (e : EType) : Statement (.vxor d a b m e) := by show 0x8000000B + d.val * 0x200000 + a.val * 0x20000 + b.val * 0x2000 + m.val * 0x400 + e.code * 0x80 < 2 ^ 256; have := eType_code_lt e; omega
theorem vsll (d : Fin 16) (a : Fin 16) (b : Fin 16) (m : Fin 8) (e : EType) : Statement (.vsll d a b m e) := by show 0x8000000C + d.val * 0x200000 + a.val * 0x20000 + b.val * 0x2000 + m.val * 0x400 + e.code * 0x80 < 2 ^ 256; have := eType_code_lt e; omega
theorem vsrl (d : Fin 16) (a : Fin 16) (b : Fin 16) (m : Fin 8) (e : EType) : Statement (.vsrl d a b m e) := by show 0x8000000D + d.val * 0x200000 + a.val * 0x20000 + b.val * 0x2000 + m.val * 0x400 + e.code * 0x80 < 2 ^ 256; have := eType_code_lt e; omega
theorem vsra (d : Fin 16) (a : Fin 16) (b : Fin 16) (m : Fin 8) (e : EType) : Statement (.vsra d a b m e) := by show 0x8000000E + d.val * 0x200000 + a.val * 0x20000 + b.val * 0x2000 + m.val * 0x400 + e.code * 0x80 < 2 ^ 256; have := eType_code_lt e; omega
theorem vfma (d : Fin 16) (a : Fin 16) (b : Fin 16) (m : Fin 8) (e : EType) (r : Rm) : Statement (.vfma d a b m e r) := by show 0x80000010 + d.val * 0x200000 + a.val * 0x20000 + b.val * 0x2000 + m.val * 0x400 + e.code * 0x80 + r.code * 0x20 < 2 ^ 256; have := eType_code_lt e; have := rm_code_lt r; omega
theorem vfms (d : Fin 16) (a : Fin 16) (b : Fin 16) (m : Fin 8) (e : EType) (r : Rm) : Statement (.vfms d a b m e r) := by show 0x80000011 + d.val * 0x200000 + a.val * 0x20000 + b.val * 0x2000 + m.val * 0x400 + e.code * 0x80 + r.code * 0x20 < 2 ^ 256; have := eType_code_lt e; have := rm_code_lt r; omega
theorem vdiv (d : Fin 16) (a : Fin 16) (b : Fin 16) (m : Fin 8) (e : EType2) (r : Rm) : Statement (.vdiv d a b m e r) := by show 0xC0000000 + d.val * 0x200000 + a.val * 0x20000 + b.val * 0x2000 + m.val * 0x400 + e.code * 0x80 + r.code * 0x20 < 2 ^ 256; have := eType2_code_lt e; have := rm_code_lt r; omega
theorem vsqrt (d : Fin 16) (a : Fin 16) (m : Fin 8) (e : EType2) (r : Rm) : Statement (.vsqrt d a m e r) := by show 0xC0000001 + d.val * 0x200000 + a.val * 0x20000 + m.val * 0x400 + e.code * 0x80 + r.code * 0x20 < 2 ^ 256; have := eType2_code_lt e; have := rm_code_lt r; omega
theorem vexp (d : Fin 16) (a : Fin 16) (m : Fin 8) (e : EType2) (r : Rm) : Statement (.vexp d a m e r) := by show 0xC0000002 + d.val * 0x200000 + a.val * 0x20000 + m.val * 0x400 + e.code * 0x80 + r.code * 0x20 < 2 ^ 256; have := eType2_code_lt e; have := rm_code_lt r; omega
theorem vlog (d : Fin 16) (a : Fin 16) (m : Fin 8) (e : EType2) (r : Rm) : Statement (.vlog d a m e r) := by show 0xC0000003 + d.val * 0x200000 + a.val * 0x20000 + m.val * 0x400 + e.code * 0x80 + r.code * 0x20 < 2 ^ 256; have := eType2_code_lt e; have := rm_code_lt r; omega
theorem vrcp (d : Fin 16) (a : Fin 16) (m : Fin 8) (e : EType2) (r : Rm) : Statement (.vrcp d a m e r) := by show 0xC0000004 + d.val * 0x200000 + a.val * 0x20000 + m.val * 0x400 + e.code * 0x80 + r.code * 0x20 < 2 ^ 256; have := eType2_code_lt e; have := rm_code_lt r; omega
theorem vrsq (d : Fin 16) (a : Fin 16) (m : Fin 8) (e : EType2) (r : Rm) : Statement (.vrsq d a m e r) := by show 0xC0000005 + d.val * 0x200000 + a.val * 0x20000 + m.val * 0x400 + e.code * 0x80 + r.code * 0x20 < 2 ^ 256; have := eType2_code_lt e; have := rm_code_lt r; omega
theorem vtanh (d : Fin 16) (a : Fin 16) (m : Fin 8) (e : EType2) (r : Rm) : Statement (.vtanh d a m e r) := by show 0xC0000006 + d.val * 0x200000 + a.val * 0x20000 + m.val * 0x400 + e.code * 0x80 + r.code * 0x20 < 2 ^ 256; have := eType2_code_lt e; have := rm_code_lt r; omega
theorem vcmp (k : Fin 8) (a : Fin 16) (b : Fin 16) (m : Fin 8) (e : EType) (c : VCond) : Statement (.vcmp k a b m e c) := by show 0x82000000 + k.val * 0x200000 + a.val * 0x20000 + b.val * 0x2000 + m.val * 0x400 + e.code * 0x80 + c.code < 2 ^ 256; have := eType_code_lt e; have := vCond_code_lt c; omega
theorem vmlog (k : Fin 8) (a : Fin 8) (b : Fin 8) (o : MLogOp) : Statement (.vmlog k a b o) := by show 0x82000008 + k.val * 0x200000 + a.val * 0x20000 + b.val * 0x2000 + o.code < 2 ^ 256; have := mLogOp_code_lt o; omega
theorem vsel (d : Fin 16) (a : Fin 16) (b : Fin 16) (m : Fin 8) (e : EType) : Statement (.vsel d a b m e) := by show 0x82000010 + d.val * 0x200000 + a.val * 0x20000 + b.val * 0x2000 + m.val * 0x400 + e.code * 0x80 < 2 ^ 256; have := eType_code_lt e; omega
theorem vcompress (d : Fin 16) (a : Fin 16) (b : Fin 16) (m : Fin 8) (e : EType) : Statement (.vcompress d a b m e) := by show 0x82000011 + d.val * 0x200000 + a.val * 0x20000 + b.val * 0x2000 + m.val * 0x400 + e.code * 0x80 < 2 ^ 256; have := eType_code_lt e; omega
theorem vexpand (d : Fin 16) (a : Fin 16) (b : Fin 16) (m : Fin 8) (e : EType) : Statement (.vexpand d a b m e) := by show 0x82000012 + d.val * 0x200000 + a.val * 0x20000 + b.val * 0x2000 + m.val * 0x400 + e.code * 0x80 < 2 ^ 256; have := eType_code_lt e; omega
theorem vpopm (g : Fin 16) (k : Fin 8) : Statement (.vpopm g k) := by show 0x82000013 + g.val * 0x200000 + k.val * 0x20000 < 2 ^ 256; omega
theorem vperm (d : Fin 16) (a : Fin 16) (b : Fin 16) (m : Fin 8) (e : EType) : Statement (.vperm d a b m e) := by show 0x84000000 + d.val * 0x200000 + a.val * 0x20000 + b.val * 0x2000 + m.val * 0x400 + e.code * 0x80 < 2 ^ 256; have := eType_code_lt e; omega
theorem vslide (d : Fin 16) (a : Fin 16) (g : Fin 16) (m : Fin 8) (e : EType) : Statement (.vslide d a g m e) := by show 0x84000001 + d.val * 0x200000 + a.val * 0x20000 + g.val * 0x2000 + m.val * 0x400 + e.code * 0x80 < 2 ^ 256; have := eType_code_lt e; omega
theorem vbcast (d : Fin 16) (g : Fin 16) (m : Fin 8) (e : EType) : Statement (.vbcast d g m e) := by show 0x84000002 + d.val * 0x200000 + g.val * 0x20000 + m.val * 0x400 + e.code * 0x80 < 2 ^ 256; have := eType_code_lt e; omega
theorem vext (g : Fin 16) (a : Fin 16) (h : Fin 16) (e : EType) : Statement (.vext g a h e) := by show 0x84000003 + g.val * 0x200000 + a.val * 0x20000 + h.val * 0x2000 + e.code * 0x80 < 2 ^ 256; have := eType_code_lt e; omega
theorem vins (d : Fin 16) (a : Fin 16) (g : Fin 16) (e : EType) : Statement (.vins d a g e) := by show 0x84000004 + d.val * 0x200000 + a.val * 0x20000 + g.val * 0x2000 + e.code * 0x80 < 2 ^ 256; have := eType_code_lt e; omega
theorem vrsum (d : Fin 16) (a : Fin 16) (m : Fin 8) (e : EType) : Statement (.vrsum d a m e) := by show 0x86000000 + d.val * 0x200000 + a.val * 0x20000 + m.val * 0x400 + e.code * 0x80 < 2 ^ 256; have := eType_code_lt e; omega
theorem vrmax (d : Fin 16) (a : Fin 16) (m : Fin 8) (e : EType) : Statement (.vrmax d a m e) := by show 0x86000001 + d.val * 0x200000 + a.val * 0x20000 + m.val * 0x400 + e.code * 0x80 < 2 ^ 256; have := eType_code_lt e; omega
theorem vrmin (d : Fin 16) (a : Fin 16) (m : Fin 8) (e : EType) : Statement (.vrmin d a m e) := by show 0x86000002 + d.val * 0x200000 + a.val * 0x20000 + m.val * 0x400 + e.code * 0x80 < 2 ^ 256; have := eType_code_lt e; omega
theorem vcvt (d : Fin 16) (a : Fin 16) (f : Fin 16) (e : EType) : Statement (.vcvt d a f e) := by show 0x88000000 + d.val * 0x200000 + a.val * 0x20000 + f.val * 0x2000 + e.code * 0x80 < 2 ^ 256; have := eType_code_lt e; omega
theorem vpoly (d : Fin 16) (a : Fin 16) (b : Fin 16) (e : EType) : Statement (.vpoly d a b e) := by show 0x8A000000 + d.val * 0x200000 + a.val * 0x20000 + b.val * 0x2000 + e.code * 0x80 < 2 ^ 256; have := eType_code_lt e; omega
theorem vcoef (g : Fin 16) : Statement (.vcoef g) := by show 0x8A000001 + g.val * 0x20000 < 2 ^ 256; omega
theorem vld (d : Fin 16) (g : Fin 16) (m : Fin 8) (e : EType) : Statement (.vld d g m e) := by show 0x8C000000 + d.val * 0x200000 + g.val * 0x20000 + m.val * 0x400 + e.code * 0x80 < 2 ^ 256; have := eType_code_lt e; omega
theorem vst (d : Fin 16) (g : Fin 16) (m : Fin 8) (e : EType) : Statement (.vst d g m e) := by show 0x8C000001 + d.val * 0x200000 + g.val * 0x20000 + m.val * 0x400 + e.code * 0x80 < 2 ^ 256; have := eType_code_lt e; omega
theorem vlds (d : Fin 16) (s : Fin 8) (m : Fin 8) (e : EType) : Statement (.vlds d s m e) := by show 0x8C000002 + d.val * 0x200000 + s.val * 0x20000 + m.val * 0x400 + e.code * 0x80 < 2 ^ 256; have := eType_code_lt e; omega
theorem vsts (d : Fin 16) (s : Fin 8) (m : Fin 8) (e : EType) : Statement (.vsts d s m e) := by show 0x8C000003 + d.val * 0x200000 + s.val * 0x20000 + m.val * 0x400 + e.code * 0x80 < 2 ^ 256; have := eType_code_lt e; omega
theorem vldx (d : Fin 16) (g : Fin 16) (b : Fin 16) (m : Fin 8) (e : EType) : Statement (.vldx d g b m e) := by show 0x8C000004 + d.val * 0x200000 + g.val * 0x20000 + b.val * 0x2000 + m.val * 0x400 + e.code * 0x80 < 2 ^ 256; have := eType_code_lt e; omega
theorem vstx (d : Fin 16) (g : Fin 16) (b : Fin 16) (m : Fin 8) (e : EType) : Statement (.vstx d g b m e) := by show 0x8C000005 + d.val * 0x200000 + g.val * 0x20000 + b.val * 0x2000 + m.val * 0x400 + e.code * 0x80 < 2 ^ 256; have := eType_code_lt e; omega
theorem vldq (d : Fin 16) (c : Fin 32) (e : EType) : Statement (.vldq d c e) := by show 0x8C000006 + d.val * 0x200000 + c.val * 0x10000 + e.code * 0x80 < 2 ^ 256; have := eType_code_lt e; omega
theorem vstq (d : Fin 16) (c : Fin 32) (e : EType) : Statement (.vstq d c e) := by show 0x8C000007 + d.val * 0x200000 + c.val * 0x10000 + e.code * 0x80 < 2 ^ 256; have := eType_code_lt e; omega
theorem vredq (d : Fin 16) (c : Fin 32) (e : EType) : Statement (.vredq d c e) := by show 0x8C000008 + d.val * 0x200000 + c.val * 0x10000 + e.code * 0x80 < 2 ^ 256; have := eType_code_lt e; omega
theorem vqnt (d : Fin 16) (a : Fin 16) (n : Fin 4) (e : EType) : Statement (.vqnt d a n e) := by show 0xD0000000 + d.val * 0x200000 + a.val * 0x20000 + n.val * 0x2000 + e.code * 0x80 < 2 ^ 256; have := eType_code_lt e; omega
theorem vdqnt (d : Fin 16) (a : Fin 16) (n : Fin 4) (e : EType) : Statement (.vdqnt d a n e) := by show 0xD0000001 + d.val * 0x200000 + a.val * 0x20000 + n.val * 0x2000 + e.code * 0x80 < 2 ^ 256; have := eType_code_lt e; omega
theorem vscl (d : Fin 16) (a : Fin 16) (b : Fin 16) (e : EType) : Statement (.vscl d a b e) := by show 0xD0000002 + d.val * 0x200000 + a.val * 0x20000 + b.val * 0x2000 + e.code * 0x80 < 2 ^ 256; have := eType_code_lt e; omega
theorem vmmb (d : Fin 16) (a : Fin 16) (b : Fin 16) (e : EType) : Statement (.vmmb d a b e) := by show 0xD2000000 + d.val * 0x200000 + a.val * 0x20000 + b.val * 0x2000 + e.code * 0x80 < 2 ^ 256; have := eType_code_lt e; omega
theorem vlgl (g : Fin 16) (b : Fin 16) : Statement (.vlgl g b) := by show 0xD2000001 + g.val * 0x200000 + b.val * 0x2000 < 2 ^ 256; omega
theorem shset (a : Fin 32) (n : Fin 8) : Statement (.shset a n) := by show 0xE2000000 + a.val * 0x8000 + n.val < 2 ^ 256; omega
theorem shget (a : Fin 32) (n : Fin 8) : Statement (.shget a n) := by show 0xE2000008 + a.val * 0x8000 + n.val < 2 ^ 256; omega
theorem shadv (a : Fin 32) (n : Fin 8) : Statement (.shadv a n) := by show 0xE2000010 + a.val * 0x8000 + n.val < 2 ^ 256; omega
theorem shrst (n : Fin 8) : Statement (.shrst n) := by show 0xE2000018 + n.val < 2 ^ 256; omega
theorem cbset (a : Fin 32) (n : Fin 32) : Statement (.cbset a n) := by show 0xE4000000 + a.val * 0x8000 + n.val < 2 ^ 256; omega
theorem cbwf (p : Fin 16) (a : Fin 32) (n : Fin 32) : Statement (.cbwf p a n) := by show 0xE4000020 + p.val * 0x100000 + a.val * 0x8000 + n.val < 2 ^ 256; omega
theorem cbwe (a : Fin 32) (n : Fin 32) : Statement (.cbwe a n) := by show 0xE4000040 + a.val * 0x8000 + n.val < 2 ^ 256; omega
theorem cbpa (a : Fin 32) (n : Fin 32) : Statement (.cbpa a n) := by show 0xE4000060 + a.val * 0x8000 + n.val < 2 ^ 256; omega
theorem cbca (a : Fin 32) (n : Fin 32) : Statement (.cbca a n) := by show 0xE4000080 + a.val * 0x8000 + n.val < 2 ^ 256; omega
theorem cbeos (n : Fin 32) : Statement (.cbeos n) := by show 0xE40000A0 + n.val < 2 ^ 256; omega
theorem qbindPop (d : Fin 32) (p : Fin 16) (n : Fin 32) : Statement (.qbindPop d p n) := by show 0xE40000C0 + d.val * 0x100000 + p.val * 0x400 + n.val < 2 ^ 256; omega
theorem qbindPush (d : Fin 32) (a : Fin 32) (p : Fin 16) (n : Fin 32) : Statement (.qbindPush d a p n) := by show 0xE40040E0 + d.val * 0x100000 + a.val * 0x8000 + p.val * 0x400 + n.val < 2 ^ 256; omega
theorem qfree (d : Fin 32) : Statement (.qfree d) := by show 0xE4000100 + d.val * 0x100000 < 2 ^ 256; omega
theorem mwld (t : TWord) : Statement (.mwld t) := tileWord_lt _ _ t (by decide) (by decide)
theorem mswap (t : TWord) : Statement (.mswap t) := tileWord_lt _ _ t (by decide) (by decide)
theorem mact (t : TWord) : Statement (.mact t) := tileWord_lt _ _ t (by decide) (by decide)
theorem mdrn (t : TWord) : Statement (.mdrn t) := tileWord_lt _ _ t (by decide) (by decide)
theorem mzero (t : TWord) : Statement (.mzero t) := tileWord_lt _ _ t (by decide) (by decide)
theorem msync (t : TWord) : Statement (.msync t) := tileWord_lt _ _ t (by decide) (by decide)
theorem cpyB (t : TWord) : Statement (.cpyB t) := tileWord_lt _ _ t (by decide) (by decide)
theorem cpyC (t : TWord) : Statement (.cpyC t) := tileWord_lt _ _ t (by decide) (by decide)
theorem cpyG (t : TWord) : Statement (.cpyG t) := tileWord_lt _ _ t (by decide) (by decide)
theorem cpyF (t : TWord) : Statement (.cpyF t) := tileWord_lt _ _ t (by decide) (by decide)
theorem crs (t : TWord) : Statement (.crs t) := tileWord_lt _ _ t (by decide) (by decide)
theorem cag (t : TWord) : Statement (.cag t) := tileWord_lt _ _ t (by decide) (by decide)
theorem car (t : TWord) : Statement (.car t) := tileWord_lt _ _ t (by decide) (by decide)
theorem cbc (t : TWord) : Statement (.cbc t) := tileWord_lt _ _ t (by decide) (by decide)
theorem instructionCompletion : Statement .instructionCompletion := by show 0 < 2 ^ 256; decide
theorem instructionFetchFill : Statement .instructionFetchFill := by show 0 < 2 ^ 256; decide
theorem coefficientTableLoad : Statement .coefficientTableLoad := by show 0 < 2 ^ 256; decide
theorem timerPreemption : Statement .timerPreemption := by show 0 < 2 ^ 256; decide
theorem lmxOverrun : Statement .lmxOverrun := by show 0 < 2 ^ 256; decide
theorem systemEventEntry : Statement .systemEventEntry := by show 0 < 2 ^ 256; decide
theorem postedReply : Statement .postedReply := by show 0 < 2 ^ 256; decide
theorem latticeRefusalTrap : Statement .latticeRefusalTrap := by show 0 < 2 ^ 256; decide
theorem latticeRequestApply : Statement .latticeRequestApply := by show 0 < 2 ^ 256; decide
theorem thresholdReadAtHome : Statement .thresholdReadAtHome := by show 0 < 2 ^ 256; decide
theorem waitWithdrawal : Statement .waitWithdrawal := by show 0 < 2 ^ 256; decide
theorem arenaFreeze : Statement .arenaFreeze := by show 0 < 2 ^ 256; decide
theorem remoteWordAccess : Statement .remoteWordAccess := by show 0 < 2 ^ 256; decide
theorem localityMigration : Statement .localityMigration := by show 0 < 2 ^ 256; decide
theorem publishPageChange : Statement .publishPageChange := by show 0 < 2 ^ 256; decide
theorem messageArrival : Statement .messageArrival := by show 0 < 2 ^ 256; decide
theorem antiMessageArrival : Statement .antiMessageArrival := by show 0 < 2 ^ 256; decide
theorem rollback : Statement .rollback := by show 0 < 2 ^ 256; decide
theorem wakeDelivery : Statement .wakeDelivery := by show 0 < 2 ^ 256; decide
theorem twaitExpiry : Statement .twaitExpiry := by show 0 < 2 ^ 256; decide
theorem inboxOverflowTimeout : Statement .inboxOverflowTimeout := by show 0 < 2 ^ 256; decide
theorem waiterSpillTimeout : Statement .waiterSpillTimeout := by show 0 < 2 ^ 256; decide
theorem derailleurMigration : Statement .derailleurMigration := by show 0 < 2 ^ 256; decide
theorem migrationIntake : Statement .migrationIntake := by show 0 < 2 ^ 256; decide
theorem saveCompletion : Statement .saveCompletion := by show 0 < 2 ^ 256; decide
theorem contextCacheWriteback : Statement .contextCacheWriteback := by show 0 < 2 ^ 256; decide
theorem parkedThreadEviction : Statement .parkedThreadEviction := by show 0 < 2 ^ 256; decide
theorem driverStop : Statement .driverStop := by show 0 < 2 ^ 256; decide
theorem launchStop : Statement .launchStop := by show 0 < 2 ^ 256; decide
theorem sweepStart : Statement .sweepStart := by show 0 < 2 ^ 256; decide
theorem sweepControlFlit : Statement .sweepControlFlit := by show 0 < 2 ^ 256; decide
theorem sweepResult : Statement .sweepResult := by show 0 < 2 ^ 256; decide
theorem launchAccept : Statement .launchAccept := by show 0 < 2 ^ 256; decide
theorem launchDispatch : Statement .launchDispatch := by show 0 < 2 ^ 256; decide
theorem unitPlacement : Statement .unitPlacement := by show 0 < 2 ^ 256; decide
theorem slotFill : Statement .slotFill := by show 0 < 2 ^ 256; decide
theorem grantRetry : Statement .grantRetry := by show 0 < 2 ^ 256; decide
theorem stealRequest : Statement .stealRequest := by show 0 < 2 ^ 256; decide
theorem stealAnswer : Statement .stealAnswer := by show 0 < 2 ^ 256; decide
theorem launchCompletion : Statement .launchCompletion := by show 0 < 2 ^ 256; decide
theorem hostMessageWrite : Statement .hostMessageWrite := by show 0 < 2 ^ 256; decide
theorem arbiterSelect : Statement .arbiterSelect := by show 0 < 2 ^ 256; decide
theorem mxuCommandExecute : Statement .mxuCommandExecute := by show 0 < 2 ^ 256; decide
theorem drainSlotArrival : Statement .drainSlotArrival := by show 0 < 2 ^ 256; decide
theorem copyExecute : Statement .copyExecute := by show 0 < 2 ^ 256; decide
theorem streamerRead : Statement .streamerRead := by show 0 < 2 ^ 256; decide
theorem copyChannelSlotArrival : Statement .copyChannelSlotArrival := by show 0 < 2 ^ 256; decide
theorem collectiveStart : Statement .collectiveStart := by show 0 < 2 ^ 256; decide
theorem wireBlockArrival : Statement .wireBlockArrival := by show 0 < 2 ^ 256; decide
theorem wqtailWrite : Statement .wqtailWrite := by show 0 < 2 ^ 256; decide
theorem wqctlWrite : Statement .wqctlWrite := by show 0 < 2 ^ 256; decide
theorem cqheadWrite : Statement .cqheadWrite := by show 0 < 2 ^ 256; decide
theorem hmheadWrite : Statement .hmheadWrite := by show 0 < 2 ^ 256; decide
theorem rpheadWrite : Statement .rpheadWrite := by show 0 < 2 ^ 256; decide
theorem elheadWrite : Statement .elheadWrite := by show 0 < 2 ^ 256; decide
theorem trheadWrite : Statement .trheadWrite := by show 0 < 2 ^ 256; decide
theorem wringWrite : Statement .wringWrite := by show 0 < 2 ^ 256; decide
theorem captureConfigWrite : Statement .captureConfigWrite := by show 0 < 2 ^ 256; decide
theorem captureClear : Statement .captureClear := by show 0 < 2 ^ 256; decide
theorem registerWrite : Statement .registerWrite := by show 0 < 2 ^ 256; decide
theorem badRegisterAccess : Statement .badRegisterAccess := by show 0 < 2 ^ 256; decide
theorem regbuf : Statement .regbuf := by show 0 < 2 ^ 256; decide
theorem freebuf : Statement .freebuf := by show 0 < 2 ^ 256; decide
theorem regarena : Statement .regarena := by show 0 < 2 ^ 256; decide
theorem freearena : Statement .freearena := by show 0 < 2 ^ 256; decide
theorem retag : Statement .retag := by show 0 < 2 ^ 256; decide
theorem driverXinv : Statement .driverXinv := by show 0 < 2 ^ 256; decide
theorem driverCinv : Statement .driverCinv := by show 0 < 2 ^ 256; decide
theorem stop : Statement .stop := by show 0 < 2 ^ 256; decide
theorem reclaim : Statement .reclaim := by show 0 < 2 ^ 256; decide
theorem restore : Statement .restore := by show 0 < 2 ^ 256; decide
theorem saveretry : Statement .saveretry := by show 0 < 2 ^ 256; decide
theorem corecmd : Statement .corecmd := by show 0 < 2 ^ 256; decide
theorem rotkey : Statement .rotkey := by show 0 < 2 ^ 256; decide
theorem digest : Statement .digest := by show 0 < 2 ^ 256; decide
theorem unknownDriverCommand : Statement .unknownDriverCommand := by show 0 < 2 ^ 256; decide
theorem digestPeerMessage : Statement .digestPeerMessage := by show 0 < 2 ^ 256; decide
theorem digestTimeout : Statement .digestTimeout := by show 0 < 2 ^ 256; decide
theorem hostMemRead : Statement .hostMemRead := by show 0 < 2 ^ 256; decide
theorem hostMemWrite : Statement .hostMemWrite := by show 0 < 2 ^ 256; decide
theorem getVersion : Statement .getVersion := by show 0 < 2 ^ 256; decide
theorem getCapabilities : Statement .getCapabilities := by show 0 < 2 ^ 256; decide
theorem negotiateAlgorithms : Statement .negotiateAlgorithms := by show 0 < 2 ^ 256; decide
theorem getDigests : Statement .getDigests := by show 0 < 2 ^ 256; decide
theorem getCertificate : Statement .getCertificate := by show 0 < 2 ^ 256; decide
theorem challenge : Statement .challenge := by show 0 < 2 ^ 256; decide
theorem getMeasurements : Statement .getMeasurements := by show 0 < 2 ^ 256; decide
theorem powerOn : Statement .powerOn := by show 0 < 2 ^ 256; decide
theorem thermalShutdown : Statement .thermalShutdown := by show 0 < 2 ^ 256; decide
theorem powerCapThrottle : Statement .powerCapThrottle := by show 0 < 2 ^ 256; decide
theorem ucieModuleStateChange : Statement .ucieModuleStateChange := by show 0 < 2 ^ 256; decide
theorem fabricReplay : Statement .fabricReplay := by show 0 < 2 ^ 256; decide
theorem welsaPortStateChange : Statement .welsaPortStateChange := by show 0 < 2 ^ 256; decide
theorem welsaTransferTimeout : Statement .welsaTransferTimeout := by show 0 < 2 ^ 256; decide
theorem hbmScrub : Statement .hbmScrub := by show 0 < 2 ^ 256; decide
theorem monitorLevelSample : Statement .monitorLevelSample := by show 0 < 2 ^ 256; decide
theorem unassignedWord : Statement .unassignedWord := by show 0 < 2 ^ 256; decide
theorem powerRemoval : Statement .powerRemoval := by show 0 < 2 ^ 256; decide

end Sys2Proof.Laws.WordFits
end

