-- ==== Sys2Proof/Tests/Slice0.lean ====
section
/-! SUPPORT. Tests on small states: ill-formed terms refused, a word of every instruction decoded, single steps against values worked out by hand from the
spec's rules and examples, and for every statement a state and operands that meet its hypotheses. -/

namespace Sys2Proof.Tests

open Sys2Proof Sys2Proof.Machine Sys2Proof.Claims

set_option Elab.async false

/-! ## Helpers -/

/-- A thread of a launch in slot `sl` of core `c` (the system slot's firmware thread where `sl` is 15), its turn next. -/
def base (c : Nat) (sl : Fin 16) : State :=
  let s : State := { State.reset with turn := c, gtime := 16 * 5 + sl.val }
  let s := s.withThread (sl == 15)
  s.updTh s.who fun t => { t with g := Vector.ofFn fun i => BitVec.ofNat 64 (100 * i.val), p := 0xA5A4, pc := 0x10020 }

/-- A register set. -/
def putR (s : State) (n : Fin 32) (v : Word) : State := s.updTh s.who fun t => { t with g := t.g.set n v }

/-- The first address of the local window. -/
def lw : Word := 0x3F000000000000

/-- A grant of 4 KiB at offset 0x100, with some bytes at 0x200. -/
def grant (s : State) : State :=
  (s.upd s.who fun x => { x with grbase := 0x100, grlen := 0x1000 }).lwrite s.who.core 0x200 [0x11, 0x22, 0x33, 0x44, 0x55, 0x66, 0x77, 0x88]

/-- A page-table entry: V, LEAF, a kind, R, W and X, no size, a frame, an arena, a kind of home and an owner. -/
def mkPte (kind frame arena ckind owner : Nat) : Nat :=
  3 + kind * 16 + 7 * 64 + 512 + frame * 2 ^ 12 + arena * 2 ^ 52 + ckind * 2 ^ 64 + owner * 2 ^ 80 + 2 ^ 102

/-- Pages of address space 1, held by the translation units. -/
def mapped (s : State) (pages : List (Nat × Nat)) : State :=
  let s := { s with regs := { s.regs with ascbase := 0x10000 } }
  let s := (s.pwrite 0x10020 (bytesOf 32 (1 + 0x20000 * 2 ^ 64))).pwrite 0x20000 (bytesOf 16 5)
  { s with tcache := pages.map fun (va, e) => ⟨1, va / 4096, e, 0x30000 + va / 4096 * 16, 0⟩ }

/-- An arena of address space 1. -/
def withArena (s : State) (num kind size g f : Nat) : State := { s with arenas := ⟨1, num, kind, size, g, f, 0, 0x1000000, 0x1000, 0⟩ :: s.arenas }

/-- Whether an outcome is a given next state, and whether its next state has a property. -/
def reach (o : Host.Outcome State Fault Refusal) (t : State) : Bool := match o with | .next s => decide (s = t) | _ => false
def after? (o : Host.Outcome State Fault Refusal) (p : State → Bool) : Bool := match o with | .next s => p s | _ => false

/-- Whether part of an instruction goes on, and with what. -/
def isOk {α : Type} (m : M α) : Bool := match m with | .ok _ => true | _ => false
def okIs {α : Type} (m : M α) (p : α → Bool) : Bool := match m with | .ok x => p x | _ => false

/-- The registers that an instruction names are open to it. -/
def opens (s : State) (i : Instr) : Bool := isOk (s.chkOps s.who i)

/-- Two sources read and a destination open to a write: what the register instructions ask. -/
def operands (s : State) (i : Instr) (d a b : Fin 32) (x y : Word) : Bool :=
  opens s i && okIs (s.readG s.who a) fun r => r.1 == x && okIs (r.2.readG s.who b) fun q => q.1 == y && isOk (q.2.chkDst s.who d)

/-- The thread's registers after an instruction. -/
def reg (s : State) (n : Fin 32) : Word := (s.th ⟨3, 2⟩).g[n]
def result (i : Instr) (s : State) (d : Fin 32) (v : Word) : Bool := after? (exec i s) fun t => reg t d == v

/-- A register bound to buffer 7 of core 3, which holds two filled slots of 32 bytes. -/
def ring (filled : Nat) (eos en : Bool) (token : Option Nat) : Cb :=
  { base := 0x200, slotsz := 1, nslotm1 := 3, pptr := filled % 4, cptr := 0, filled := filled, pkind := 0, eos := eos, en := en, srccore := 3, haddr := 0,
    token := token, popPos := 0, pushPos := 0, user := none, reclaimed := false }
def bound (push : Bool) (q : Cb) : State :=
  let s := grant (base 3 2)
  (s.updCore 3 fun k => { k with cbs := k.cbs.set 7 q }).updTh ⟨3, 2⟩ fun t => { t with bind := t.bind.set 1 ⟨7, push, true, 3, 5, 3⟩ }

/-- A task that holds an open epoch. -/
def epoch : Epoch := ⟨⟨3, 5, 7, 0, 9, false, false, false, 0, false, []⟩, Thread.zero, [], [], none, none⟩
def hist (s : State) : State := s.updTask (s.at s.who).task fun t => { t with epochs := [epoch] }

/-- A tile word: flags, guard, words 1 to 7. -/
def tw (f g w1 w2 w3 w4 w5 w6 w7 : Nat) : TWord :=
  ⟨BitVec.ofNat 12 f, Fin.ofNat 16 g, BitVec.ofNat 32 w1, BitVec.ofNat 32 w2, BitVec.ofNat 32 w3, BitVec.ofNat 32 w4, BitVec.ofNat 32 w5,
    BitVec.ofNat 32 w6, BitVec.ofNat 32 w7⟩

/-! ## Ill-formed terms (R150) -/

theorem test_wf_refuses_operand_ranges :
    ([.fence 0 .pkg, .lwait 1 2 30 2 .val, .larm 1 2 31 1 .val, .send 29 1 2, .sendF 30 1 2, .sendH 31 1 2, .qbindPop 27 1 2, .qbindPush 3 1 0 0,
      .qfree 0] : List Instr).all (fun i => i.wf == false) = true := by decide

theorem test_wf_refuses_csr_numbers :
    ([.csrr 1 0x003, .csrw 1 2 0x030, .csrs 1 2 0x048, .csrc 1 2 0x084] : List Instr).all (fun i => i.wf == false) = true := by decide

theorem test_wf_refuses_element_types :
    ([.vadd 1 2 3 0 .i32 .rtz, .vsub 1 2 3 0 .i8 .rup, .vmul 1 2 3 0 .i64 .rdn, .vmin 1 2 3 0 .i16 .rtz, .vmax 1 2 3 0 .i16 .rup, .vminN 1 2 3 0 .f32,
      .vmaxN 1 2 3 0 .f64, .vabs 1 2 0 .i8 .rtz, .vneg 1 2 0 .i8 .rup, .vand 1 2 3 0 .f32, .vor 1 2 3 0 .bf16, .vxor 1 2 3 0 .f16, .vsll 1 2 3 0 .f32,
      .vsrl 1 2 3 0 .f64, .vsra 1 2 3 0 .f32, .vfma 1 2 3 0 .i32 .rtz, .vfms 1 2 3 0 .i32 .rdn, .vcmp 1 2 3 0 .f32 .ltn, .vcmp 1 2 3 0 .i32 .un,
      .vpoly 1 2 0 .f16, .vscl 1 2 0 .i8] : List Instr).all (fun i => i.wf == false) = true := by decide

theorem test_wf_refuses_formats :
    ([.vcvt 1 2 4 .f32, .vcvt 1 2 15 .f32, .vqnt 1 2 0 .f64, .vdqnt 1 2 0 .i8, .vmmb 1 2 3 .f16] : List Instr).all (fun i => i.wf == false) = true := by
  decide

theorem test_wf_refuses_event_numbers :
    ([.instructionCompletion 1536 0, .launchAccept 4096, .unitPlacement 8 ⟨0, 0, []⟩, .arbiterSelect 192] : List Event).all
      (fun e => e.wf == false) = true := by decide

/-! ## Decoding (R146 to R149): words written from the encoding tables, every operand field with its own value -/

/-- Each word decodes to its instruction, and the instruction encodes to the word. -/
def decodes (l : List (Nat × Instr)) : Bool := l.all fun x => decodeBits x.1 == some x.2 && encode x.2 == x.1

theorem test_decode_01_1 : decodes [(0x0332A800, .add 19 5 10), (0x0332A801, .sub 19 5 10), (0x0332A802, .mul 19 5 10), (0x0332A803, .mulh 19 5 10), (0x0332A804, .mulhn 19 5 10), (0x0332A805, .div 19 5 10), (0x0332A806, .divn 19 5 10), (0x0332A807, .rem 19 5 10), (0x0332A808, .remn 19 5 10), (0x0332A809, .and 19 5 10), (0x0332A80A, .or 19 5 10), (0x0332A80B, .xor 19 5 10), (0x0332A80C, .andn 19 5 10), (0x0332A80D, .orn 19 5 10)] = true := by decide
theorem test_decode_01_2 : decodes [(0x0332A80E, .sll 19 5 10), (0x0332A80F, .srl 19 5 10), (0x0332A810, .sra 19 5 10), (0x0332A811, .ror 19 5 10), (0x0332A812, .min 19 5 10), (0x0332A813, .max 19 5 10), (0x0332A814, .minn 19 5 10), (0x0332A815, .maxn 19 5 10), (0x0332A816, .slt 19 5 10), (0x0332A817, .sltn 19 5 10)] = true := by decide
theorem test_decode_02_1 : decodes [(0x0532A800, .addW 19 5 10), (0x0532A801, .subW 19 5 10), (0x0532A802, .mulW 19 5 10), (0x0532A803, .mulhW 19 5 10), (0x0532A804, .mulhnW 19 5 10), (0x0532A805, .divW 19 5 10), (0x0532A806, .divnW 19 5 10), (0x0532A807, .remW 19 5 10), (0x0532A808, .remnW 19 5 10), (0x0532A80E, .sllW 19 5 10), (0x0532A80F, .srlW 19 5 10), (0x0532A810, .sraW 19 5 10), (0x0532A811, .rorW 19 5 10), (0x0532A812, .minW 19 5 10)] = true := by decide
theorem test_decode_02_2 : decodes [(0x0532A813, .maxW 19 5 10), (0x0532A814, .minnW 19 5 10), (0x0532A815, .maxnW 19 5 10), (0x0532A816, .sltW 19 5 10), (0x0532A817, .sltnW 19 5 10)] = true := by decide
theorem test_decode_03 : decodes [(0x0732C005, .addi 19 5 16389)] = true := by decide
theorem test_decode_04 : decodes [(0x0932C005, .andi 19 5 16389)] = true := by decide
theorem test_decode_05 : decodes [(0x0B32C005, .ori 19 5 16389)] = true := by decide
theorem test_decode_06 : decodes [(0x0D32C005, .xori 19 5 16389)] = true := by decide
theorem test_decode_07 : decodes [(0x0F32C005, .slti 19 5 16389)] = true := by decide
theorem test_decode_08 : decodes [(0x1132C005, .sltni 19 5 16389)] = true := by decide
theorem test_decode_09 : decodes [(0x1332800A, .slli 19 5 10), (0x1332900A, .srli 19 5 10), (0x1332A00A, .srai 19 5 10), (0x1332B00A, .rori 19 5 10), (0x1332C00A, .slliW 19 5 10), (0x1332D00A, .srliW 19 5 10), (0x1332E00A, .sraiW 19 5 10), (0x1332F00A, .roriW 19 5 10)] = true := by decide
theorem test_decode_0A : decodes [(0x1432D805, .pcmpi 3 5 .gen 2053)] = true := by decide
theorem test_decode_0B : decodes [(0x1632A805, .pcmp 3 5 10 .gen), (0x1632A814, .plog 3 5 10 .orn), (0x17300018, .ptog 19), (0x16098019, .gtop 19), (0x1732A825, .sel 19 5 10 5), (0x17328030, .jalr 19 5)] = true := by decide
theorem test_decode_0D : decodes [(0x1B380005, .lui 19 524293)] = true := by decide
theorem test_decode_0E : decodes [(0x1D380005, .auipc 19 524293)] = true := by decide
theorem test_decode_0F : decodes [(0x1F328000, .clz 19 5), (0x1F328001, .ctz 19 5), (0x1F328002, .popc 19 5), (0x1F328003, .brev 19 5), (0x1F328004, .bswap 19 5), (0x1F32A808, .bfx 19 5 10), (0x1F32A809, .bfxn 19 5 10), (0x1F32A80A, .bfi 19 5 10), (0x1E099410, .hltw 19 5), (0x1F32A845, .hpack 19 5 10 5), (0x1F32A84D, .hparse 19 5 10 5)] = true := by decide
theorem test_decode_10 : decodes [(0x2132A805, .ld 19 5 .w 2053), (0x2132D805, .ldn 19 5 .h 2053)] = true := by decide
theorem test_decode_11 : decodes [(0x2332A805, .st 19 5 .w 2053)] = true := by decide
theorem test_decode_12 : decodes [(0x2532A805, .ldx 19 5 10 (.n .h)), (0x2532A80A, .stx 19 5 10 .w), (0x24099410, .publish 19 5)] = true := by decide
theorem test_decode_13 : decodes [(0x2732A803, .amoadd 19 5 10 .d), (0x2732A80B, .amoand 19 5 10 .d), (0x2732A813, .amoor 19 5 10 .d), (0x2732A81B, .amoxor 19 5 10 .d), (0x2732A823, .amomin 19 5 10 .d), (0x2732A82B, .amomax 19 5 10 .d), (0x2732A833, .amoswp 19 5 10 .d), (0x2732A83B, .amocas 19 5 10 .d)] = true := by decide
theorem test_decode_14 : decodes [(0x2800012B, .fence 37 .die)] = true := by decide
theorem test_decode_18 : decodes [(0x3132C005, .beq 19 5 16389)] = true := by decide
theorem test_decode_19 : decodes [(0x3332C005, .bne 19 5 16389)] = true := by decide
theorem test_decode_1A : decodes [(0x3532C005, .blt 19 5 16389)] = true := by decide
theorem test_decode_1B : decodes [(0x3732C005, .bge 19 5 16389)] = true := by decide
theorem test_decode_1C : decodes [(0x3932C005, .bltn 19 5 16389)] = true := by decide
theorem test_decode_1D : decodes [(0x3B32C005, .bgen 19 5 16389)] = true := by decide
theorem test_decode_1E : decodes [(0x3C304005, .bp 3 16389), (0x3D304005, .bnp 3 16389)] = true := by decide
theorem test_decode_1F : decodes [(0x3F380005, .jal 19 524293)] = true := by decide
theorem test_decode_20 : decodes [(0x40099400, .ljoin 19 5), (0x40099440, .ljoinR 19 5), (0x40099401, .lfill 19 5), (0x40099402, .lfillv 19 5), (0x40099483, .lfillm 19 5 2), (0x40099484, .lesum 19 5 .i64), (0x4132D148, .lwait 19 5 20 1 .mask), (0x4132A889, .lwaitf 19 5 10), (0x4132D14A, .larm 19 5 20 1 .mask), (0x41328010, .lfrz 19 5), (0x40098011, .lfrza 19), (0x41328012, .lxrd 19 5), (0x40328013, .lxrdv 3 5), (0x41328014, .lstat 19 5)] = true := by decide
theorem test_decode_21 : decodes [(0x4332A800, .send 19 5 10), (0x4332A801, .sendF 19 5 10), (0x4332A802, .sendH 19 5 10), (0x4332A80D, .sendl 19 5 10 5), (0x4332A815, .sendlF 19 5 10 5), (0x43328020, .recv 19 5), (0x43328021, .recvp 19 5), (0x43328022, .recvN 19 5), (0x43328023, .recvpN 19 5), (0x42098030, .vtset 19), (0x43300031, .gvtrd 19), (0x42000032, .cmtw)] = true := by decide
theorem test_decode_22 : decodes [(0x4532A800, .spawnFifo 19 5 10), (0x4532A801, .spawnOrd 19 5 10), (0x4532A802, .spawnOpt 19 5 10), (0x4532A804, .spawnL 19 5 10), (0x4532A805, .spawnC 19 5 10), (0x44000010, .exit), (0x44000011, .yield), (0x44000412, .gbar 1), (0x45301413, .widf 19 5), (0x45328014, .migr 19 5), (0x44000415, .mpin 1), (0x44098016, .twait 19)] = true := by decide
theorem test_decode_30 : decodes [(0x61300041, .csrr 19 65), (0x61329041, .csrw 19 5 65), (0x6132A041, .csrs 19 5 65), (0x6132B041, .csrc 19 5 65)] = true := by decide
theorem test_decode_31 : decodes [(0x62000000, .eret), (0x62000001, .brk), (0x62000002, .wfi), (0x63328003, .ctxsv 19 5), (0x63328004, .ctxld 19 5), (0x6332A805, .slotctl 19 5 10), (0x62099406, .xinv 19 5), (0x62099407, .cinv 19 5), (0x62000113, .trap 19)] = true := by decide
theorem test_decode_40_1 : decodes [(0x806B5560, .vadd 3 5 10 5 .f16 .rdn), (0x806B5561, .vsub 3 5 10 5 .f16 .rdn), (0x806B5562, .vmul 3 5 10 5 .f16 .rdn), (0x806B5563, .vmin 3 5 10 5 .f16 .rdn), (0x806B5564, .vmax 3 5 10 5 .f16 .rdn), (0x806B5685, .vminN 3 5 10 5 .i16), (0x806B5686, .vmaxN 3 5 10 5 .i16), (0x806A0967, .vabs 3 5 2 .f16 .rdn), (0x806A0968, .vneg 3 5 2 .f16 .rdn), (0x806B5689, .vand 3 5 10 5 .i16), (0x806B568A, .vor 3 5 10 5 .i16), (0x806B568B, .vxor 3 5 10 5 .i16), (0x806B568C, .vsll 3 5 10 5 .i16), (0x806B568D, .vsrl 3 5 10 5 .i16)] = true := by decide
theorem test_decode_40_2 : decodes [(0x806B568E, .vsra 3 5 10 5 .i16), (0x806B5570, .vfma 3 5 10 5 .f16 .rdn), (0x806B5571, .vfms 3 5 10 5 .f16 .rdn)] = true := by decide
theorem test_decode_41 : decodes [(0x826B5502, .vcmp 3 5 10 5 .f16 .lt), (0x826A400A, .vmlog 3 5 2 .xor), (0x826B5510, .vsel 3 5 10 5 .f16), (0x826B5511, .vcompress 3 5 10 5 .f16), (0x826B5512, .vexpand 3 5 10 5 .f16), (0x826A0013, .vpopm 3 5)] = true := by decide
theorem test_decode_42 : decodes [(0x846B5500, .vperm 3 5 10 5 .f16), (0x846B5501, .vslide 3 5 10 5 .f16), (0x846A0902, .vbcast 3 5 2 .f16), (0x846B4103, .vext 3 5 10 .f16), (0x846B4104, .vins 3 5 10 .f16)] = true := by decide
theorem test_decode_43 : decodes [(0x866A0900, .vrsum 3 5 2 .f16), (0x866A0901, .vrmax 3 5 2 .f16), (0x866A0902, .vrmin 3 5 2 .f16)] = true := by decide
theorem test_decode_44 : decodes [(0x886B2100, .vcvt 3 5 9 .f16)] = true := by decide
theorem test_decode_45 : decodes [(0x8A6B4080, .vpoly 3 5 10 .f32), (0x8A060001, .vcoef 3)] = true := by decide
theorem test_decode_46 : decodes [(0x8C6A0900, .vld 3 5 2 .f16), (0x8C6A0901, .vst 3 5 2 .f16), (0x8C6A0902, .vlds 3 5 2 .f16), (0x8C6A0903, .vsts 3 5 2 .f16), (0x8C6B5504, .vldx 3 5 10 5 .f16), (0x8C6B5505, .vstx 3 5 10 5 .f16), (0x8C650106, .vldq 3 5 .f16), (0x8C650107, .vstq 3 5 .f16), (0x8C650108, .vredq 3 5 .f16)] = true := by decide
theorem test_decode_60 : decodes [(0xC06B54E0, .vdiv 3 5 10 5 .f32 .rdn), (0xC06A08E1, .vsqrt 3 5 2 .f32 .rdn), (0xC06A08E2, .vexp 3 5 2 .f32 .rdn), (0xC06A08E3, .vlog 3 5 2 .f32 .rdn), (0xC06A08E4, .vrcp 3 5 2 .f32 .rdn), (0xC06A08E5, .vrsq 3 5 2 .f32 .rdn), (0xC06A08E6, .vtanh 3 5 2 .f32 .rdn)] = true := by decide
theorem test_decode_68 : decodes [(0xD06A4100, .vqnt 3 5 2 .f16), (0xD06A4101, .vdqnt 3 5 2 .f16), (0xD06B4102, .vscl 3 5 10 .f16)] = true := by decide
theorem test_decode_69 : decodes [(0xD26B4080, .vmmb 3 5 10 .f32), (0xD260A001, .vlgl 3 5)] = true := by decide
theorem test_decode_70 : decodes [(0xE1328002, .vsetvl 19 5 .f16)] = true := by decide
theorem test_decode_71 : decodes [(0xE2098005, .shset 19 5), (0xE209800D, .shget 19 5), (0xE2098015, .shadv 19 5), (0xE200001B, .shrst 3)] = true := by decide
theorem test_decode_72 : decodes [(0xE4098005, .cbset 19 5), (0xE432802A, .cbwf 3 5 10), (0xE4098045, .cbwe 19 5), (0xE4098065, .cbpa 19 5), (0xE4098085, .cbca 19 5), (0xE40000B3, .cbeos 19), (0xE5D014CA, .qbindPop 29 5 10), (0xE5D2E8F5, .qbindPush 29 5 10 21), (0xE5D00100, .qfree 29)] = true := by decide

/-- Word 0 of Table 6.13a with flags 0xABC and guard 5, then seven operand words. -/
def tileBits (engine command : Nat) : Nat :=
  natOf (bytesOf 4 (0x7E * 2 ^ 25 + engine * 2 ^ 22 + command * 2 ^ 16 + 5 * 2 ^ 12 + 0xABC) ++ [11, 12, 13, 14, 15, 16, 17].flatMap (bytesOf 4))

/-- The same fields as a term. -/
def someTile : TWord := tw 0xABC 5 11 12 13 14 15 16 17

theorem test_decode_tile_matrix : decodes [(tileBits 0 1, .mwld someTile), (tileBits 0 2, .mswap someTile), (tileBits 0 3, .mact someTile),
    (tileBits 0 4, .mdrn someTile), (tileBits 0 5, .mzero someTile), (tileBits 0 6, .msync someTile)] = true := by decide

theorem test_decode_tile_copy_and_collective : decodes [(tileBits 1 1, .cpyB someTile), (tileBits 1 2, .cpyC someTile), (tileBits 1 3, .cpyG someTile),
    (tileBits 1 4, .cpyF someTile), (tileBits 2 1, .crs someTile), (tileBits 2 2, .cag someTile), (tileBits 2 3, .car someTile),
    (tileBits 2 4, .cbc someTile)] = true := by decide

/-- Unassigned majors, functions, commands and reserved bits are no instruction. -/
theorem test_decode_refuses : [0, 0x0C * 2 ^ 25, 0x78 * 2 ^ 25, 0x0332A818, 0x0332ABFF, 0x02000000 + 0x20, 0x23 * 2 ^ 25, tileBits 0 0, tileBits 3 1,
    tileBits 1 5].all (fun w => decodeBits w == none) = true := by decide

/-! ## Integer instructions: values worked out by hand; operands at hand -/

theorem test_add_wraps : result (.add 6 1 2) (putR (putR (base 3 2) 1 0xFFFFFFFFFFFFFFFF) 2 2) 6 1 = true := by decide
theorem test_subW_signs : result (.subW 6 1 2) (putR (putR (base 3 2) 1 0) 2 1) 6 0xFFFFFFFFFFFFFFFF = true := by decide
theorem test_mulh_signed : result (.mulh 6 1 2) (putR (putR (base 3 2) 1 0x8000000000000000) 2 2) 6 0xFFFFFFFFFFFFFFFF = true := by decide
theorem test_div_by_zero : result (.div 6 1 2) (putR (putR (base 3 2) 1 7) 2 0) 6 0xFFFFFFFFFFFFFFFF = true := by decide
theorem test_rem_overflow : result (.rem 6 1 2) (putR (putR (base 3 2) 1 0x8000000000000000) 2 0xFFFFFFFFFFFFFFFF) 6 0 = true := by decide
theorem test_sra_amount_modulo : result (.sra 6 1 2) (putR (putR (base 3 2) 1 0x8000000000000000) 2 65) 6 0xC000000000000000 = true := by decide
theorem test_add_source_is_destination : result (.add 1 1 1) (putR (base 3 2) 1 21) 1 42 = true := by decide
theorem test_g0_discards : result (.addi 0 1 5) (base 3 2) 0 0 = true := by decide
theorem test_sltni_compares_unsigned : result (.sltni 6 1 0x7FFF) (putR (base 3 2) 1 5) 6 1 = true := by decide
theorem test_lui_signs : result (.lui 6 0x80000) (base 3 2) 6 0xFFFFFFFC00000000 = true := by decide
theorem test_roriW : result (.roriW 6 1 4) (putR (base 3 2) 1 0x12345678) 6 0xFFFFFFFF81234567 = true := by decide
theorem test_bswap : result (.bswap 6 1) (putR (base 3 2) 1 0x0102030405060708) 6 0x0807060504030201 = true := by decide
theorem test_bfx_signs : result (.bfx 6 1 2) (putR (putR (base 3 2) 1 0xF50) 2 0x404) 6 0x5 = true := by decide
theorem test_ptog_reads_p0 : result (.ptog 6) (base 3 2) 6 0xA5A5 = true := by decide

theorem witness_IntegerRegisterResult : operands (putR (base 3 2) 2 0) (.div 31 1 2) 31 1 2 100 0 = true ∧
    (after? (exec (.div 31 1 2) (putR (base 3 2) 2 0)) fun t => reg t 31 == 0xFFFFFFFFFFFFFFFF) = true := by decide
theorem witness_ImmediateBitAndFieldResult : operands (base 3 2) (.bfi 1 5 6) 1 5 6 500 600 = true ∧ operands (base 3 2) (.rori 9 31 63) 9 31 31 3100 3100 = true ∧
    operands (base 3 2) (.auipc 31 0xFFFFF) 31 0 0 0 0 = true := by decide
theorem witness_HeaderWords_pack : operands (base 3 2) (.hpack 7 5 6 7) 7 5 6 500 600 = true ∧ operands (base 3 2) (.hparse 7 5 6 7) 7 5 6 500 600 = true ∧
    isOk (((base 3 2).writeG ⟨3, 2⟩ 7 0).chkDst ⟨3, 2⟩ 6) = true := by decide
theorem witness_HeaderWords_layout : (putR (putR (base 3 15) 5 63) 6 0x430).who.slot = 15 ∧
    operands (putR (putR (base 3 15) 5 63) 6 0x430) (.hltw 5 6) 5 5 6 63 0x430 = true ∧
    (after? (exec (.hltw 5 6) (putR (putR (base 3 15) 5 63) 6 0x430)) fun t => (t.core 3).layout[63] == 0x430) = true := by decide
theorem witness_PredicateResult : operands (base 3 2) (.sel 31 30 1 15) 31 30 1 3000 100 = true ∧ operands (base 3 2) (.pcmp 15 30 1 .gen) 30 30 1 3000 100 = true ∧
    operands (base 3 2) (.pcmpi 15 30 .gen 0x800) 30 30 30 3000 3000 = true := by decide
theorem witness_ControlTransfer : operands (base 3 2) (.blt 1 2 0x7FFF) 1 1 2 100 200 = true ∧ operands (base 3 2) (.jal 31 0x80000) 31 0 0 0 0 = true ∧
    operands (putR (base 3 2) 5 0x40004) (.jalr 5 5) 5 5 5 0x40004 0x40004 = true ∧ operands (putR (base 3 2) 5 0x40002) (.jalr 5 5) 5 5 5 0x40002 0x40002 = true := by
  decide
theorem test_branch_back : (after? (exec (.blt 1 2 0x7FFF) (base 3 2)) fun t => (t.th ⟨3, 2⟩).pc == 0x1001C) = true := by decide
theorem test_jalr_misaligned_keeps_link : (after? (exec (.jalr 5 6) (putR (base 3 2) 6 0x40002)) fun t =>
    reg t 5 == 500 && (t.at ⟨3, 2⟩).st == .trap && (t.at ⟨3, 2⟩).cause == 5 && (t.at ⟨3, 2⟩).tval == 0x40002) = true := by decide

/-! ## Unsaved state, loads, stores, atomics, CSRs -/

theorem witness_UnsavedState_bound : (hist (bound false (ring 2 false true none))).history ⟨3, 2⟩ = true ∧
    ((hist (bound false (ring 2 false true none))).th ⟨3, 2⟩).binding 29 ≠ none := by decide +kernel
theorem witness_UnsavedState_store : let s := putR (hist (grant (base 3 2))) 5 (lw + 0x200)
    operands s (.st 6 5 .d 0) 6 5 6 (lw + 0x200) 600 = true ∧ s.spec s.who = true ∧
    ¬ ((s.th s.who).stwb.toNat ≤ (lw + 0x200).toNat ∧ (lw + 0x200).toNat + 8 ≤ (s.th s.who).stwb.toNat + (s.th s.who).stwl.toNat) := by decide +kernel
theorem witness_LoadAndStoreResult_local : let s := putR (grant (base 3 2)) 5 (lw + 0x10F8)
    operands s (.ld 6 5 .d 0) 6 5 6 (lw + 0x10F8) 600 = true ∧ s.place s.who .load (lw + 0x10F8).toNat 8 = .ok (.loc 3 0x10F8) ∧
    s.place s.who .store (lw + 0x10F8).toNat 8 = .ok (.loc 3 0x10F8) ∧ remoteHome s.who (.loc 3 0x10F8) = none ∧
    isOk (s.loadAt s.who (lw + 0x10F8).toNat (.loc 3 0x10F8) 8) = true ∧ isOk (s.storeAllowed s.who (.st 6 5 .d 0) (lw + 0x10F8).toNat 8) = true := by decide +kernel
theorem witness_LoadAndStoreResult_memory : let s := putR (mapped (base 6 2) [(0x10000, mkPte 0 0x500 0 0 0)]) 5 0x10018
    okIs (s.place s.who .load 0x10018 8) (fun l => remoteHome s.who l == none && isOk (s.loadAt s.who 0x10018 l 8)) = true ∧
    okIs (s.place s.who .store 0x10018 8) (fun l => remoteHome s.who l == none) = true ∧ opens s (.ldx 6 5 0 (.s .d)) = true := by decide +kernel
theorem witness_LoadAndStoreResult_remote : let s := putR ((base 3 2).updSlot 4 2 fun x => { x with grbase := 0x100, grlen := 0x1000 }) 5 (lw + 0x400200)
    remoteHome s.who (.loc 4 0x200) = some 4 ∧ operands s (.ld 6 5 .d 0) 6 5 6 (lw + 0x400200) 600 = true := by decide +kernel
theorem test_ldn_zero_extends : result (.ldn 6 5 .b 1) (putR ((grant (base 3 2)).lwrite 3 0x201 [0xFE]) 5 (lw + 0x200)) 6 0xFE = true := by decide +kernel
theorem test_ld_sign_extends : result (.ld 6 5 .h 0) (putR ((grant (base 3 2)).lwrite 3 0x200 [0x34, 0xF2]) 5 (lw + 0x200)) 6 0xFFFFFFFFFFFFF234 = true := by decide +kernel
theorem test_st_little_endian : (after? (exec (.st 6 5 .w 0xFFF) (putR (putR (grant (base 3 2)) 5 (lw + 0x204)) 6 0x99887766554433)) fun t =>
    t.lread 3 0x200 5 == [0x33, 0x44, 0x55, 0x66, (grant (base 3 2)).lread 3 0x204 1 |>.headD 0]) = true := by decide +kernel
theorem test_ld_misaligned : (after? (exec (.ld 6 5 .d 0) (putR (grant (base 3 2)) 5 (lw + 0x204))) fun t =>
    (t.at ⟨3, 2⟩).cause == 5 && (t.at ⟨3, 2⟩).tval == lw + 0x204 && (t.at ⟨3, 2⟩).epc == 0x10020) = true := by decide +kernel
theorem witness_AtomicResult : let s := putR (putR (grant (base 3 2)) 5 (lw + 0x200)) 6 77
    operands s (.amocas 6 5 7 .d) 6 5 7 (lw + 0x200) 700 = true ∧ s.spec s.who = false ∧ s.place s.who .atomic (lw + 0x200).toNat 8 = .ok (.loc 3 0x200) ∧
    okIs (s.readAt (.loc 3 0x200) 8) (fun bs => bs.length == 8) = true ∧ (hist s).spec s.who = true := by decide +kernel
theorem test_amocas_mismatch_stores_nothing : (after? (exec (.amocas 6 5 7 .d) (putR (putR (grant (base 3 2)) 5 (lw + 0x200)) 6 77)) fun t =>
    t.lread 3 0x200 8 == (grant (base 3 2)).lread 3 0x200 8 && reg t 6 == wordOf ((grant (base 3 2)).lread 3 0x200 8)) = true := by decide +kernel
theorem test_amoadd : (after? (exec (.amoadd 6 5 7 .w) (putR (putR ((grant (base 3 2)).lwrite 3 0x200 [0xFF, 0xFF, 0xFF, 0xFF]) 5 (lw + 0x200)) 7 2)) fun t =>
    t.lread 3 0x200 4 == [1, 0, 0, 0] && reg t 6 == 0xFFFFFFFFFFFFFFFF) = true := by decide +kernel
theorem witness_PublishAndFence : let s := putR (putR (mapped (base 6 2) [(0x10000, mkPte 0 0x500 0 0 0)]) 5 0x10000) 6 0x1000
    operands s (.publish 5 6) 5 5 6 0x10000 0x1000 = true ∧ s.spec s.who = false ∧
    okIs (s.publishCheck s.who 0x10000 0x1000 0x10000 1) (fun ps => ps.length == 1) = true ∧ (hist s).spec s.who = true := by decide +kernel
theorem witness_CsrResult : operands (putR (base 3 2) 5 7) (.csrw 6 5 0x012) 6 5 6 7 600 = true ∧ csrMayWrite ⟨3, 2⟩ 0x012 ∧ csrMayWrite ⟨3, 15⟩ 0x083 ∧
    (base 3 2).spec ⟨3, 2⟩ = false := by
  refine ⟨by decide, .inl (by decide), .inr ⟨rfl, .inr (by decide)⟩, by decide⟩
theorem test_csrw_returns_old : (after? (exec (.csrw 6 5 0x014) (putR ((base 3 2).updTh ⟨3, 2⟩ fun t => { t with vtwin := 9 }) 5 11)) fun t =>
    reg t 6 == 9 && (t.th ⟨3, 2⟩).vtwin == 11 || reg t 6 == (base 3 2).csrValue ⟨3, 2⟩ 0x014) = true := by decide
theorem witness_Privilege : (base 3 2).who.slot ≠ 15 ∧ 0x080 ∈ csrOwn ∧ 0x020 ∈ csrFixed ++ csrBanked ∧ (hist (base 3 2)).spec ⟨3, 2⟩ = true ∧
    (base 3 15).who.slot = 15 := by decide
theorem test_user_slot_may_not_return : (after? (exec .eret (base 3 2)) fun t => (t.at ⟨3, 2⟩).cause == 1 && (t.at ⟨3, 2⟩).st == .trap) = true := by decide

/-! ## Lattice -/

/-- An arena 7 on the page at 0x1000000, by the kind and size of its cells; its first cell is at 0x1000040, at physical 0x50040. -/
def lat (kind size : Nat) : State := withArena (mapped (grant (base 3 2)) [(0x1000000, mkPte 1 0x50 7 kind 0)]) 7 kind size 10 20
def arena (kind size : Nat) : Arena := ⟨1, 7, kind, size, 10, 20, 0, 0x1000000, 0x1000, 0⟩
def cellVa : Word := 0x1000040
/-- The cell in a state, with a value. -/
def cellIs (s : State) (k : Fin 8) (v : Nat) : State := (s.pwrite 0x50040 (bytesOf 8 v)).setCodes 0x50040 k 2
def waiting (s : State) (i : Instr) : State := s.waitBusy s.who i .remote
/-- The cell as a threshold read finds it, after its operands. -/
def found (s : State) (p : Cell → Fin 8 → List Byte → Bool) : Bool :=
  okIs (s.cellAt 1 cellVa.toNat .lread) fun c => okIs (s.readCell c) fun r => p c r.1 r.2

theorem witness_LatticeLaws : orderFree (arena 0 0) (0, bytesOf 8 5) (.join 7) (.join 3) ∧ orderFree (arena 8 0) (1, bytesOf 8 5) (.fill 5) (.fill 6) ∧
    orderFree (arena 9 1) (0, bytesOf 16 (2 ^ 88 * 1021)) (.esum .i64 1) (.esum .f64 0x3FF0000000000000) ∧ natOf (bytesOf 16 (2 ^ 88 * 1021)) < 2 ^ 112 ∧
    (arena 9 1).gbits ≤ 24 ∧ ¬ orderFree (arena 9 1) (0, bytesOf 16 (2 ^ 88 * 1022)) (.esum .i64 1) (.esum .i64 1) := by
  refine ⟨trivial, trivial, ?_, by decide, by decide, ?_⟩ <;> (unfold orderFree; decide)
theorem witness_LatticeRequestAtHome : let s := cellIs (lat 1 0) 0 5
    okIs ((s.countRecv 0 s.colour 1).latApply (request s (.join 9) cellVa)) (fun r => r.2 == 0) = true ∧
    okIs (((cellIs (lat 1 0) 2 5).countRecv 0 s.colour 1).latApply (request s (.join 9) cellVa)) (fun r => r.2 == 0x0E) = true ∧
    (request s (.join 9) cellVa).tagVt = none ∧ (s.countRecv 0 s.colour 1).stopped 0 = false := by decide +kernel
theorem test_join_at_home : (after? (fires (.latticeRequestApply (request (cellIs (lat 1 0) 0 5) (.join 9) cellVa)) (cellIs (lat 1 0) 0 5)) fun t =>
    t.pread 0x50040 8 == bytesOf 8 9 && match t.agenda with | [.postedReply r] => r.refusal == none | _ => false) = true := by decide +kernel
theorem witness_ThresholdReads_leaves : let s := putR (lat 1 0) 5 cellVa
    operands s (.lwait 7 5 6 0 .val) 7 5 6 cellVa 600 = true ∧ openAddr cellVa ∧ operands s (.lwait 7 5 5 0 .frozen) 7 5 5 cellVa cellVa = true ∧
    okIs (s.readRun s.who 6 1) (fun r => r.1 == [600]) = true ∧ addrFault 0x1000041 = some 5 ∧ addrFault 0x40000000000000 = some 9 ∧
    addrFault 0x3F000000000000 = some 0x0B ∧ addrFault 0x3FFFFFFFFFFFF8 = some 0x0B := by
  refine ⟨by decide +kernel, ⟨by decide, by decide, by decide⟩, by decide +kernel, by decide +kernel, by decide, by decide, by decide, by decide⟩
theorem witness_ThresholdReads_arm : let s := putR (lat 1 0) 5 cellVa
    (s.at s.who).launched = true ∧ s.history s.who = false ∧ okIs (s.trigVals s.who 6 0 .val) (fun r => r.1 == [600]) = true ∧
    opens s (.larm 29 5 6 0 .val) = true := by decide +kernel
theorem witness_ThresholdReads_home : let s := cellIs (putR (putR (lat 1 0) 5 cellVa) 6 10) 0 9
    found (waiting s (.lwait 7 5 6 0 .val)) (fun c k bs => trigOk c.ar ⟨.val, [10], []⟩ && firstStatus c.ar k bs ⟨.val, [10], []⟩ == none &&
      firstStatus c.ar k bs ⟨.val, [9], []⟩ == some 0 && trigOk c.ar ⟨.filled, [0], []⟩ == false) = true ∧
    ((waiting s (.lwait 7 5 6 0 .val)).at ⟨3, 2⟩).st = .busy := by decide +kernel
theorem witness_ThresholdReads_filled : let s := cellIs (putR (putR (lat 8 0) 5 cellVa) 6 (lw + 0x200)) 1 9
    found s (fun c k bs => firstStatus c.ar k bs ⟨.filled, [0], []⟩ == some 2 && isOk (s.storeAllowed s.who (.lwaitf 7 5 6) (lw + 0x200).toNat c.size) &&
      okIs (s.localArea s.who (lw + 0x200).toNat c.size (min c.size 32)) fun l => l == .loc 3 0x200) = true := by decide +kernel
theorem witness_ThresholdReads_wide : found (lat 9 1) (fun c _ _ => c.size == 16) = true ∧ found (lat 6 2) (fun c _ _ => c.size == 32) = true := by decide +kernel
theorem witness_ThresholdReads_arms : let s := cellIs (putR (putR (lat 1 0) 5 cellVa) 6 10) 0 9
    (found (waiting s (.larm 29 5 6 0 .val)) fun c k bs => trigOk c.ar ⟨.val, [10], []⟩ && firstStatus c.ar k bs ⟨.val, [10], []⟩ == none &&
      firstStatus c.ar k bs ⟨.val, [9], []⟩ == some 0 &&
      (s.addWaiter c ⟨c.ar.asid, BitVec.ofNat 64 c.va, ⟨.val, [10], []⟩, 0, some (2900, 3000, 0, 0), s.armTarget ⟨3, 2⟩ 3100, 0, ⟨0, 0⟩, 0x10020, none⟩).isSome) = true := by
  decide +kernel
theorem test_lwait_resolved : (after? (fires (.thresholdReadAtHome 3 2) (waiting (cellIs (putR (putR (lat 1 0) 5 cellVa) 6 9) 0 9) (.lwait 7 5 6 0 .val))) fun t =>
    reg t 7 == 0 && (t.at ⟨3, 2⟩).st == .busy) = true := by decide +kernel
theorem test_lwait_parks : (after? (fires (.thresholdReadAtHome 3 2) (waiting (cellIs (putR (putR (lat 1 0) 5 cellVa) 6 10) 0 9) (.lwait 7 5 6 0 .val))) fun t =>
    (t.at ⟨3, 2⟩).st == .park && reg t 7 == 700) = true := by decide +kernel
theorem witness_CellValues : ¬ isNaN 0x7FF0000000000000 ∧ isNaN 0xFFF0000000000001 ∧ (arena 8 0).kind = 8 ∧ (arena 4 0).size = 0 := by
  refine ⟨?_, ?_, rfl, rfl⟩ <;> (unfold isNaN; decide)
theorem witness_LatticeInstructions_post : let s := putR (lat 1 0) 5 cellVa
    operands s (.lesum 5 6 .f64) 5 5 6 cellVa 600 = true ∧ s.history s.who = false ∧ (s.at s.who).posted.length < 16 ∧ (hist s).history s.who = true ∧
    ((hist s).core 3).commitq.length < 64 ∧ ((s.upd s.who fun x => { x with posted := List.replicate 16 5 }).at s.who).posted.length = 16 := by decide +kernel
theorem witness_LatticeInstructions_fillM : let s := putR (putR (lat 8 4) 5 0x1000000) 6 (lw + 0x200)
    operands s (.lfillm 5 6 2) 5 5 6 0x1000000 (lw + 0x200) = true ∧
    okIs (s.cellAt (s.at s.who).asid 0x1000000 .lwrite) (fun c => c.kind == 8 &&
      okIs (s.localSource s.who (lw + 0x200).toNat c.size (min c.size 32)) fun l => l == .loc 3 0x200) = true := by decide +kernel
theorem witness_LatticeInstructions_ordered : let s := putR (lat 1 0) 5 cellVa
    opens s (.lfrz 7 5) = true ∧ isOk (s.chkDst s.who 7) = true ∧ (s.at s.who).posted = [] ∧ (s.at s.who).refused = [] ∧
    ((s.upd s.who fun x => { x with refused := [⟨0x0E, 77, 88⟩] }).at s.who).refused ≠ [] := by decide +kernel
theorem test_lfrza_refused_earlier : (after? (exec (.lfrza 5) ((putR (lat 1 0) 5 cellVa).upd ⟨3, 2⟩ fun x => { x with refused := [⟨0x0E, 77, 88⟩] })) fun t =>
    (t.at ⟨3, 2⟩).cause == 0x0E && (t.at ⟨3, 2⟩).tval == 77 && (t.at ⟨3, 2⟩).lfpc == 88) = true := by decide +kernel
theorem witness_LatticeInstructions_stat :
    let s := withArena (mapped ((base 3 15).upd ⟨3, 15⟩ fun x => { x with asid := 1 }) [(0x1000000, mkPte 1 0x50 7 1 0)]) 7 1 0 10 20
    let s := putR s 5 cellVa
    s.who.slot = 15 ∧ opens s (.lstat 7 5) = true ∧ (s.core 3).scanAsid = none ∧ found s (fun _ _ _ => true) = true := by decide +kernel

/-! ## Messages and virtual time -/

/-- A header: VTIME, no stop at the first fault, two levels of 8 and 4, dies 0 and 3. -/
def hdr : BitVec 1024 := BitVec.ofNat 1024 (9 * 2 ^ 384 + 2 ^ 56 + 8 * 2 ^ 128 + 4 * 2 ^ 134 + 9 * 2 ^ 192 + 3 * 2 ^ 224)
def vt : State := (grant (base 3 2)).updLaunch 0 fun l => { l with hdr := hdr }
def codelet (s : State) : State := s.updTh s.who fun t => { t with codelet := true }
def msg (v : Nat) (anti tent : Bool) (n : Nat) : InMsg := ⟨⟨v, 3, 0, 0, 4, anti, tent, false, 0, false, bytesOf n 0x123456789⟩, none⟩
/-- A task in a mode, with messages in its inbox, GVT 2, HZN 4, a window of 10, a saved window from 0x100, lvt 4. -/
def withIn (m : IMode) (q : List InMsg) : State :=
  let s := vt.updLaunch 0 fun l => { l with hzn := 4, gvt := 2 }
  (s.updTask (s.at s.who).task fun t => { t with imode := m, inbox := q }).updTh s.who fun t =>
    { t with imode := m, vtwin := 10, stwb := lw + 0x100, stwl := 0x800, lvt := 4 }
/-- What the task's RECV would take. -/
def choice (s : State) : Option (InMsg × Bool) := (s.task? (s.at s.who).task).bind fun t =>
  pick t.imode (s.gvtOf t.id.launch) (s.hznOf t.id.launch) (s.th s.who).vtwin.toNat t.inbox

theorem witness_SendAndDelivery_send : let s := putR vt 6 1
    (s.at s.who).launched = true ∧ opens s (.send 28 5 6) = true ∧ ¬ badSend s s.who 1 ∧ badSend s s.who 0 ∧
    badSend s s.who 0xFFFFFFFFFFFFFFFF ∧ ¬ badSend s s.who 0xFFFFFFFFFFFFFFFE ∧ s.history s.who = false ∧ (hist s).history s.who = true ∧
    ((hist s).core 3).commitq.length < 64 := by unfold badSend; decide +kernel
theorem witness_SendAndDelivery_full :
    let s := vt.updTask ⟨0, 0⟩ fun t => { t with epochs := [{ epoch with log := List.replicate 16 ⟨1, 2, 3, 4⟩ }] }
    s.spec s.who = true ∧ logIsFull s s.who := by
  refine ⟨by decide +kernel, ?_⟩
  unfold logIsFull
  refine ⟨_, _, rfl, rfl, ?_⟩
  decide
theorem witness_SendAndDelivery_long : let s := putR (putR vt 6 1) 7 (lw + 0x200)
    okIs (s.localSource s.who (lw + 0x200).toNat 256 32) (fun l => l == .loc 3 0x200) = true ∧ opens s (.sendlF 7 5 6 7) = true := by decide +kernel
theorem witness_SendAndDelivery_pick : pick .fifo 2 4 10 [msg 1 true false 0, msg 100 false false 32] = some (msg 100 false false 32, false) ∧
    pick .ordered 2 4 10 [msg 5 false false 32] = none ∧ pick .optimistic 2 4 10 [msg 12 false false 32] = some (msg 12 false false 32, true) ∧
    pick .optimistic 2 4 10 [msg 13 false false 32] = none ∧ pick .ordered 2 4 10 [msg 3 false false 32] = some (msg 3 false false 32, false) := by decide +kernel
theorem witness_ReceiveAndNotices : let s := putR (withIn .optimistic [msg 5 false false 32, msg 7 false false 64]) 5 (lw + 0x200)
    choice s = some (msg 5 false false 32, true) ∧ choice (withIn .ordered [msg 5 false false 32]) = none ∧
    choice (withIn .ordered [msg 3 false false 32]) = some (msg 3 false false 32, false) ∧ opens s (.recv 6 5) = true ∧
    okIs (s.localArea s.who (lw + 0x200).toNat 288 32) (fun l => l == .loc 3 0x200) = true ∧ s.windowOk s.who = true ∧
    inWindow (s.th s.who) (lw + 0x200).toNat 288 = true ∧ inWindow (s.th s.who) (lw + 0xA00).toNat 288 = false ∧
    (s.task? (s.at s.who).task).any (fun t => s.reserves s.who.core t (s.th s.who).stwl.toNat) = true ∧ (hist s).history s.who = true := by decide +kernel
theorem test_recv_certain : (after? (exec (.recv 6 5) (putR (withIn .ordered [msg 3 false false 32]) 5 (lw + 0x200))) fun t =>
    (t.th ⟨3, 2⟩).lvt == 3 && (t.task? ⟨0, 0⟩).any (fun x => x.inbox.isEmpty) && t.lread 3 0x220 5 == [0x89, 0x67, 0x45, 0x23, 1]) = true := by decide +kernel
theorem test_recv_speculative_opens_epoch : (after? (exec (.recvp 6 5) (putR (withIn .optimistic [msg 5 false false 32]) 5 (lw + 0x200))) fun t =>
    (t.th ⟨3, 2⟩).lvt == 5 && (t.task? ⟨0, 0⟩).any (fun x => x.epochs.length == 1)) = true := by decide +kernel
theorem test_recvp_nothing : result (.recvp 6 5) (putR (withIn .ordered []) 5 (lw + 0x200)) 6 0 = true := by decide +kernel
theorem test_recv_misaligned_area : (after? (exec (.recv 6 5) (putR (withIn .ordered []) 5 (lw + 0x210))) fun t => (t.at ⟨3, 2⟩).cause == 5) = true := by
  decide +kernel
theorem witness_VirtualTimeResult : operands vt (.vtset 5) 5 5 5 500 500 = true ∧ opens vt (.gvtrd 30) = true ∧ (vt.at vt.who).posted = [] ∧
    (vt.at vt.who).refused = [] ∧ isOk (vt.chkDst vt.who 30) = true := by decide +kernel
theorem test_vtset_does_not_lower : (after? (exec (.vtset 5) (putR (withIn .ordered []) 5 3)) fun t => (t.th ⟨3, 2⟩).lvt == 4) = true := by decide +kernel

/-! ## Tasks -/

def l0 (s : State) : Option Launch := s.launch? 0
theorem witness_SpawnResult_task : let s := putR (putR vt 5 4) 7 0x2001
    (s.at s.who).launched = true ∧ (l0 s).any (fun l => hVtime l.h && !l.noSuchWid 4 && affinityDies l 0x2001 && l.noSuchWid 0xFFFFFFFF && !affinityDies l 5) = true ∧
    affinityLegal 0x2001 ∧ ¬ affinityLegal 3 ∧ ¬ affinityLegal 0x20 ∧ ¬ affinityLegal 0x4000 ∧ operands s (.spawnOpt 7 5 6) 7 5 6 4 600 = true ∧
    s.task? ⟨0, 4⟩ = none ∧ (s.task? ⟨0, 0⟩).isSome = true ∧ s.history s.who = false ∧ (hist s).history s.who = true ∧
    (l0 (base 3 2)).any (fun l => !hVtime l.h) = true := by unfold affinityLegal; decide +kernel
theorem witness_SpawnResult_codelet : let s := putR (putR vt 5 0x40000) 7 0
    operands s (.spawnC 7 5 6) 7 5 6 0x40000 600 = true ∧ (l0 s).any (fun l => affinityDies l 0) = true := by decide +kernel
/-- A launch header on a frozen page at 0x1000000, and a completion queue with room. -/
def sub : State :=
  let h : Nat := 2 ^ 384 + 2 ^ 56 + 8 * 2 ^ 128 + 0x10000 + 0x40000 * 2 ^ 768 + 1024 * 2 ^ 832 + 2 ^ 852
  ((mapped vt [(0x1000000, mkPte 2 0x50 0 0 0)]).pwrite 0x50000 (bytesOf 128 h)).updWq 0 fun p => { p with cqsize := 64, ctl := 1 }
theorem witness_SpawnResult_launch : let s := putR (putR sub 5 0x1000000) 7 0
    operands s (.spawnL 7 5 6) 7 5 6 0x1000000 600 = true ∧ s.cqRoom 0 = true ∧
    okIs (s.translate 1 0x1000000 .load) (fun t => pteKind t.pte == 2 && okIs (s.checkedRead t.pa 128) fun bs => match s.accepts 1 (natOf bs) with
      | .error _ => false | .ok _ => true) = true ∧ okIs ((lat 1 0).translate 1 0x1000000 .load) (fun t => pteKind t.pte != 2) = true := by decide +kernel
theorem witness_SpawnResult_launch_refused : (match sub.accepts 1 0 with | .error _ => true | .ok _ => false) = true := by decide +kernel
theorem witness_ExitYieldAndBarrier_exit : vt.mxuBusy vt.who = false ∧ (vt.at vt.who).launched = true ∧ vt.who.slot ≠ 14 ∧ vt.history vt.who = false ∧
    ((vt.upd vt.who fun x => { x with posted := [3] }).at vt.who).posted ≠ [] ∧ (hist vt).history vt.who = true := by decide +kernel
/-- A landing handler in slot 14, its buffer 2 with one filled slot and the push pointer at the last slot. -/
def landing (woken : Bool) : State :=
  let s := { State.reset.withThread false with turn := 3, gtime := 16 * 5 + 14 }
  (s.updSlot 3 14 fun x => { x with st := .run }).updCore 3 fun k =>
    { k with landingCb := some (2, woken), cbs := k.cbs.set 2 { ring 1 false true none with pptr := 3 } }
theorem witness_ExitYieldAndBarrier_landing : [true, false].all (fun b => (landing b).who.slot == 14 && ((landing b).core 3).landingCb == some (2, b) &&
    ((landing b).at ⟨3, 14⟩).posted == [] && ((landing b).at ⟨3, 14⟩).refused == []) = true := by decide +kernel
theorem test_landing_exit_publishes : (after? (exec .exit (landing false)) fun t => (t.cb 3 2).filled == 2 && (t.cb 3 2).pptr == 0) = true := by decide +kernel
theorem test_exit_empties : (after? (exec .exit vt) fun t => (t.at ⟨3, 2⟩).st == .empty && (t.task? ⟨0, 0⟩).any (fun x => x.place == .exited)) = true := by
  decide +kernel
theorem witness_ExitYieldAndBarrier_yield :
    let e : QEntry := ⟨⟨0, 9⟩, .saved, 0, 0, 0, 0, 0, true, none, false⟩
    let s := vt.updCore 3 fun k => { k with runq := [e] }
    (e ∈ (s.core 3).runq ∧ e.prio ≤ (s.at s.who).prio ∧ e.work = .saved) ∧ (s.core 3).blocked = false ∧ (vt.core 3).runq = [] := by decide +kernel
theorem witness_ExitYieldAndBarrier_barrier : (l0 vt).any (fun l => nlev (hWidths l.h) == 2) = true ∧
    (vt.task? ⟨0, 0⟩).any (fun t => t.spawned == false) = true := by decide +kernel
theorem test_gbar_last_level : (after? (exec (.gbar 1) vt) fun t => (t.at ⟨3, 2⟩).st == .busy) = true := by decide +kernel
theorem test_gbar_retires_a_joined_episode : (after? (exec (.gbar 0) ((vt.updLaunch 0 fun l => { l with barrier := [(0, 8)] }).updTask ⟨0, 0⟩ fun t =>
    { t with pending := t.pending.set 0 true, episode := t.episode.set 0 1 })) fun t =>
      (t.at ⟨3, 2⟩).st == .busy && (t.task? ⟨0, 0⟩).any fun x => !x.pending[0]) = true := by decide +kernel
theorem witness_TaskStateResult : let s := putR vt 5 0x8000000000000003
    operands s (.migr 6 5) 6 5 5 0x8000000000000003 0x8000000000000003 = true ∧ (l0 s).any (fun l => l.dieset % 2 == 1 && l.dieset / 8 % 2 == 1) = true ∧
    (s.th s.who).mpin = false ∧ (s.th s.who).rcnt = 0 ∧ opens s (.widf 7 5) = true ∧ s.gtime = 82 := by decide +kernel
theorem witness_TaskStateResult_waits : let s := hist (putR vt 5 0x8000000000000003)
    opens s (.migr 6 5) = true ∧ s.history s.who = true ∧ s.clear s.who = false ∧ (vt.history vt.who = false ∧ (vt.at vt.who).st = .run) := by
  decide +kernel
theorem test_migr_no_such_core : result (.migr 6 5) (putR vt 5 1536) 6 2 = true := by decide +kernel
theorem test_migr_here : result (.migr 6 5) (putR vt 5 3) 6 0 = true := by decide +kernel
theorem test_twait_reached : (after? (exec (.twait 5) (putR vt 5 82)) fun t => (t.at ⟨3, 2⟩).st == .busy) = true := by decide +kernel
theorem test_twait_parks : (after? (exec (.twait 5) (putR vt 5 83)) fun t => (t.at ⟨3, 2⟩).st == .park) = true := by decide +kernel

/-! ## The system slot -/

/-- Core 3 with its firmware's turn, and a thread in slot 2 in a state. -/
def sys (st : SlotState) : State :=
  let s := { (base 3 2).withFirmware 3 with gtime := 16 * 5 + 15 }
  let s := s.updTh s.who fun t => { t with g := Vector.ofFn fun i => BitVec.ofNat 64 (100 * i.val), pc := 0x10020 }
  s.updSlot 3 2 fun x => { x with st := st, epc := 0x4444, cause := 0x205, tval := 99 }
theorem witness_ReturnAndWait : (sys .trap).who.slot = 15 ∧ ((sys .trap).core 3).hslot.val ≤ 15 ∧ ((sys .trap).at ⟨3, 2⟩).st = .trap ∧
    ((sys .trap).at ⟨3, 2⟩).deferred = [] ∧ ((sys .trap).core 3).events = [] ∧ (((sys .trap).postWake 3 1 2).core 3).events ≠ [] := by decide +kernel
theorem test_eret_resumes : (after? (exec .eret ((sys .trap).updCore 3 fun k => { k with hslot := 2, srpc := 0x9990 })) fun t =>
    (t.at ⟨3, 2⟩).st == .run && (t.th ⟨3, 2⟩).pc == 0x4444 && (t.th ⟨3, 15⟩).pc == 0x9990 && (t.core 3).eie) = true := by decide +kernel
theorem witness_ContextSaveAndLoad_save :
    let s := (putR (putR (sys .trap) 7 2) 5 (lw + 0x400)).lwrite 3 0x400 (bytesOf 16 (0x40000 + 96 * 2 ^ 64))
    operands s (.ctxsv 7 5) 7 5 7 (lw + 0x400) 2 = true ∧ inTrap s ⟨3, 2⟩ ∧ okIs (s.readDescriptor s.who (lw + 0x400)) (fun r => r == (0x40000, 96)) = true ∧
    (s.core 3).blocked = false := by unfold inTrap; decide +kernel
def intakeEntry : CtxEntry :=
  { task := ⟨0, 0⟩, let_ := none, prio := 0, img := image ⟨3, 2, ⟨0, 0⟩, 1, 0, false, false⟩ ((sys .trap).th ⟨3, 2⟩) 0x4444, slot := 5, why := 0,
    incomplete := false, dest := none, tail := [], target := none, checks := [], colour := false }
theorem witness_ContextSaveAndLoad_load :
    let s := ((putR (putR (sys .trap) 7 5) 5 0).updCore 3 fun k => { k with intake := [intakeEntry] }).updSlot 3 5 fun x => { x with st := .reserved }
    operands s (.ctxld 7 5) 7 5 7 0 5 = true ∧ (s.at ⟨3, 5⟩).st = .reserved ∧ imageOk (isK8 3) intakeEntry.img = true ∧ (s.at ⟨3, 6⟩).st = .empty ∧
    (s.core 3).intake.find? (fun e => e.slot == 5 && !e.incomplete) = some intakeEntry ∧
    (s.core 3).intake.find? (fun e => e.slot == 6 && !e.incomplete) = none := by decide +kernel
theorem test_ctxsv_of_running_slot : (after? (exec (.ctxsv 7 5) (putR (sys .run) 7 2)) fun t => (t.th ⟨3, 15⟩).g[7] == 2) = true := by decide +kernel
theorem witness_SlotControlAndInvalidations : let s := putR (putR (sys .trap) 5 4) 6 2
    operands s (.slotctl 7 5 6) 7 5 6 4 2 = true ∧ inTrap s ⟨3, 2⟩ ∧ ((sys .park).at ⟨3, 2⟩).st = .park ∧ (s.core 3).blocked = false := by
  unfold inTrap; decide +kernel
theorem test_slotctl_reads_state : (after? (exec (.slotctl 7 5 6) (putR (putR (sys .trap) 5 4) 6 2)) fun t => (t.th ⟨3, 15⟩).g[7] == 4) = true := by
  decide +kernel
theorem test_xinv_page : (after? (exec (.xinv 5 6) (putR (putR (mapped (sys .run) [(0x1000000, mkPte 1 0x50 7 8 0), (0x1001000, mkPte 1 0x50 7 8 0)])
    5 0x1000010) 6 1)) fun t => t.tcache.map (fun e => e.page) == [0x1001]) = true := by decide +kernel

/-! ## Vectors -/

/-- A strip on core `c` of launch `s`: count, type code and lane-group code of `vl`, and vector registers 1 to 3. -/
def vst (s : State) (n ty lg : Nat) (v1 v2 v3 : Nat) : State :=
  s.updTh s.who fun t =>
    let v := ((t.v.set 1 (BitVec.ofNat 1024 v1)).set 2 (BitVec.ofNat 1024 v2)).set 3 (BitVec.ofNat 1024 v3)
    { t with vl := BitVec.ofNat 64 (n + 2 ^ 9 * ty + 2 ^ 12 * lg), m := t.m.set 3 5, v := v }
/-- Register 1 after an instruction on core 3, or after its own next state with the reads that follow it. -/
def v1Is (i : Instr) (s : State) (x : Nat) : Bool := after? (exec i s) fun t => (t.th ⟨3, 2⟩).v[1].toNat == x

theorem witness_ElementwiseResult : fits (vst vt 16 1 0 1 2 3) 8 ∧ ¬ fits (vst vt 17 1 0 1 2 3) 8 ∧ fits (vst vt 128 4 0 1 2 3) 1 ∧
    activeAt (vst vt 8 1 0 1 2 3) 3 0 = true ∧ activeAt (vst vt 8 1 0 1 2 3) 3 1 = false := by unfold fits; decide +kernel
theorem test_vadd_wraps_each_element : v1Is (.vadd 1 2 3 0 .i8 .rne) (vst vt 3 4 0 0x7777 0x01FF80 0x010181) 0x020001 = true := by decide +kernel
theorem test_vadd_keeps_inactive : v1Is (.vadd 1 2 3 3 .i8 .rne) (vst vt 3 4 0 0x770077 0x01FF80 0x010181) 0x020001 = true := by decide +kernel
theorem test_vmul_f32 : v1Is (.vmul 1 2 3 0 .f32 .rne) (vst vt 1 1 0 0 0x40400000 0xC0000000) 0xC0C00000 = true := by decide +kernel
theorem test_vsra_count_modulo : v1Is (.vsra 1 2 3 0 .i8) (vst vt 1 4 0 0 0x90 0x0A) 0xE4 = true := by decide +kernel
theorem test_vfma_single_rounding : v1Is (.vfma 1 2 3 0 .f32 .rup) (vst vt 1 1 0 0xBF800000 0x3F800001 0x3F800001) 0x34800001 = true := by decide +kernel
theorem witness_CorrectlyRoundedResult :
    let k7 := vst ((base 1200 2).updLaunch 0 fun l => { l with hdr := hdr }) 8 1 0 1 2 3
    (vst vt 8 1 0 1 2 3).who.core < 1152 ∧ k7.who.core = 1200 ∧ k7.groupSomewhere (k7.at k7.who) 2 = true ∧ fits k7 4 := by unfold fits; decide +kernel
theorem test_vdiv_f64 : v1Is (.vdiv 1 2 3 0 .f64 .rne) (vst vt 1 0 0 0 0x3FF0000000000000 0x4008000000000000) 0x3FD5555555555555 = true := by decide +kernel
theorem witness_StripMaskAndSelect : operands (putR vt 5 0x1000000000000008) (.vsetvl 7 5 .f32) 7 5 5 0x1000000000000008 0x1000000000000008 = true ∧
    (strip (vst vt 8 1 1 1 2 3), unit (vst vt 8 1 1 1 2 3)) = (8, 4) ∧ fits (vst vt 8 1 1 1 2 3) 4 := by unfold fits; decide +kernel
theorem test_vsetvl : (after? (exec (.vsetvl 7 5 .f32) (putR vt 5 100)) fun t => reg t 7 == 32 && (t.th ⟨3, 2⟩).vl == 32 + 2 ^ 9) = true := by decide +kernel
theorem test_vcmp_mask_bits : (after? (exec (.vcmp 2 2 3 0 .i8 .lt) (vst vt 3 4 0 0 0x05FF80 0x0500FF)) fun t => t.readM ⟨3, 2⟩ 2 == 3) = true := by
  decide +kernel
theorem test_vsel_unselected_from_vb : v1Is (.vsel 1 2 3 3 .i8) (vst vt 3 4 0 0 0x112233 0x445566) 0x115533 = true := by decide +kernel
theorem witness_PermuteAndReduction : fits (vst vt 3 4 0 0 1 2) 1 ∧ vel (vst vt 3 4 0 0 0x112233 0x020001) 1 3 2 = 2 := by unfold fits; decide +kernel
theorem test_vperm : v1Is (.vperm 1 2 3 0 .i8) (vst vt 3 4 0 0 0x112233 0x020700) 0x110033 = true := by decide +kernel
theorem test_vrsum_accumulates : v1Is (.vrsum 1 2 0 .i8) (vst vt 3 4 0 0xAA05 0x010203 0) 0x0B = true := by decide +kernel
theorem witness_ConversionAndSmallMatrix :
    let s := (vst vt 8 1 1 1 2 3).upd ⟨3, 2⟩ fun x => { x with recs := x.recs.set 1 (some (4 + 512 + 0x7E * 2 ^ 64)) }
    (s.at s.who).recs[1] = some (4 + 512 + 0x7E * 2 ^ 64) ∧ quantOk (4 + 512 + 0x7E * 2 ^ 64) .f32 ∧ quantOk (4 + 0x7E * 2 ^ 64) .f32 ∧ ¬ quantOk (8 + 1024) .f32 ∧
    (s.at s.who).recs[2] = none ∧ fits s 4 ∧ side s = 2 ∧ side (vst vt 8 1 0 1 2 3) = 1 ∧ EType.f32.fmt.isSome = true := by unfold quantOk fits; decide +kernel
theorem test_vcvt_saturates : v1Is (.vcvt 1 2 1 .i32) (vst vt 2 1 0 0 0x40200000_4F000000 0) 0x00000002_7FFFFFFF = true := by decide +kernel
theorem test_vmmb : v1Is (.vmmb 1 2 3 .f32) (vst vt 4 1 1 0 0x3F800000000000000000000040000000 0x3F8000004040000040000000_3F800000)
    0x3F80000040400000_4080000040000000 = true := by decide +kernel
/-- A table of FP32 constants, one segment of degree 1, x0 = 0, at the frozen page 0x1000000. -/
def table (k : Nat) : State :=
  let s := (mapped vt [(0x1000000, mkPte k 0x50 0 0 0)]).pwrite 0x50000 (bytesOf 32 (1 + 1 * 16) ++ bytesOf 4 0x3F800000 ++ bytesOf 4 0x40000000)
  putR (vst s 1 1 0 0 0x40400000 0x1000000) 5 0x1000000
theorem witness_TableFunctionResult :
    okIs ((table 2).readFrozen 1 0x1000000 1) (fun hb => tableBytes hb == 40 && hd hb 63 24 == 0 && hd hb 255 128 == 0 && hd hb 3 0 == 1 &&
      !(fp64.decode (hd hb 127 64)).isNan && !(fp64.decode (hd hb 127 64)).isInf) = true ∧
    okIs ((table 2).readFrozen 1 0x1000000 2) (fun bs => bs.length == 64) = true ∧ tableRefused (bytesOf 32 2) ∧ ¬ tableRefused (bytesOf 32 17) ∧
    ((table 2).core 3).coefs = [] ∧ (table 2).readV ⟨3, 2⟩ 3 = 0x1000000 := by unfold tableRefused; decide +kernel
theorem test_vpoly : (after? (exec (.vcoef 5) (table 2)) fun t =>
    v1Is (.vpoly 1 2 3 .f32) (t.upd ⟨3, 2⟩ fun x => { x with st := .run }) 0x40E00000) = true := by decide +kernel
theorem test_vcoef_not_frozen : (after? (exec (.vcoef 5) (table 0)) fun t => (t.at ⟨3, 2⟩).cause == 0x0B) = true := by decide +kernel

/-- A strip of one-byte elements with g5 at local offset 0x200, and shape record 1 on the same bytes. -/
def vmem (n : Nat) : State :=
  let s := vst (putR vt 5 (lw + 0x200)) n 4 0 0 0 0x020100
  s.updTh s.who fun t => { t with sh := t.sh.set 1 ⟨lw + 0x200, #v[3, 2, 1, 1], #v[1, 4, 0, 0], #v[2, 1, 0, 0]⟩ }
theorem witness_VectorMemoryResult : actives (vmem 3) 0 = [0, 1, 2] ∧ actives (vmem 3) 3 = [0, 2] ∧ fits (vmem 3) 1 ∧
    (List.range 3).all (fun k => okIs ((vmem 3).place ⟨3, 2⟩ .load (lw + 0x200 + BitVec.ofNat 64 k).toNat 1) fun l =>
      l == .loc 3 (0x200 + k) && remoteHome ⟨3, 2⟩ l == none && isOk ((vmem 3).loadAt ⟨3, 2⟩ (lw + 0x200 + BitVec.ofNat 64 k).toNat l 1)) = true ∧
    okIs ((vmem 3).place ⟨3, 2⟩ .store (lw + 0x200).toNat 1) (fun l => l == .loc 3 0x200) = true ∧ ¬ shUnset ((vmem 3).th ⟨3, 2⟩).sh[1] ∧
    shUnset ((vmem 3).th ⟨3, 2⟩).sh[2] ∧ (shPos ((vmem 3).th ⟨3, 2⟩).sh[1], shPeriod ((vmem 3).th ⟨3, 2⟩).sh[1]) = (5, 6) := by
  unfold fits shUnset; decide +kernel
theorem witness_VectorMemoryResult_remote :
    let s := putR (mapped (base 3 2) [(0x10000, mkPte 0 0x500 0 0 0)]) 5 0x10000
    okIs (s.place s.who .load 0x10000 1) (fun l => l.isMem && remoteHome s.who l == some 6) = true ∧ (hist (vmem 3)).spec ⟨3, 2⟩ = true := by decide +kernel
theorem test_vld : v1Is (.vld 1 5 0 .i8) (vmem 3) 0x332211 = true := by decide +kernel
theorem test_vldx_masked : v1Is (.vldx 1 5 3 3 .i8) (vmem 3) 0x330011 = true := by decide +kernel
theorem test_vst : (after? (exec (.vst 3 5 0 .i8) (vmem 3)) fun t => t.lread 3 0x200 4 == [0, 1, 2, 0x44]) = true := by decide +kernel
theorem test_vlds_wraps_and_advances : (after? (exec (.vlds 1 1 0 .i8) (vmem 3)) fun t =>
    (t.th ⟨3, 2⟩).v[1].toNat == 0x221177 && (t.th ⟨3, 2⟩).sh[1].cur == #v[2, 0, 0, 0]) = true := by decide +kernel
theorem witness_ShapeRecordResult :
    let s := (putR vt 5 (lw + 0x200)).lwrite 3 0x200 (bytesOf 8 77 ++ bytesOf 16 (2 + 2 * 2 ^ 32 + 2 ^ 64 + 2 ^ 96) ++ bytesOf 16 1 ++ bytesOf 16 1)
    opens s (.shset 5 1) = true ∧ okIs (s.localPlace s.who (lw + 0x200).toNat 56) (fun l => l == .loc 3 0x200) = true ∧
    ¬ shUnset (shapeOf (s.lread 3 0x200 56)) ∧ (∀ k, shC (shapeOf (s.lread 3 0x200 56)) k < shE (shapeOf (s.lread 3 0x200 56)) k) ∧
    isOk (s.storeAllowed s.who (.shget 5 1) (lw + 0x200).toNat 56) = true ∧ s.upsetIn 3 0x200 56 = false := by unfold shUnset; decide +kernel
theorem test_shadv_negative : (after? (exec (.shadv 5 1) (putR (vmem 3) 5 0xFFFFFFFFFFFFFFFF)) fun t =>
    (t.th ⟨3, 2⟩).sh[1].cur == #v[1, 1, 0, 0]) = true := by decide +kernel

/-! ## Circular buffers and tile commands -/

/-- A buffer 4 of core 3 in the thread's grant, four slots of 32 bytes at 0x200, and g5. -/
def cbs (q : Cb) (k : Word) : State :=
  let s := putR vt 5 k
  s.updCore 3 fun c => { c with cbs := c.cbs.set 4 q }
theorem witness_CircularBuffersAndQueueVectors : let s := cbs (ring 2 false true none) 2
    owned s (s.cb 3 4) ∧ (s.cb 3 4).en = true ∧ slotsOf (s.cb 3 4) = 4 ∧ beforeToken (ring 2 true true (some 1)) = some 1 ∧ s.history s.who = false ∧
    (hist s).history s.who = true ∧ opens s (.cbwf 6 5 4) = true ∧ opens s (.qbindPush 28 5 6 4) = true ∧ isOk (s.chkDst s.who 5) = true ∧
    s.bound 3 4 true = false ∧ s.upsetIn 3 0x200 32 = false ∧ (bound true (ring 2 false true none)).bound 3 7 true = true ∧ ¬ owned (base 3 2) (ring 2 false true none) := by
  unfold owned; decide +kernel
theorem witness_CircularBuffers_set :
    let x := 0x200 + 2 ^ 20 + 3 * 2 ^ 32 + 2 ^ 76
    let s := (cbs (ring 0 false false none) (lw + 0x300)).lwrite 3 0x300 (bytesOf 24 x)
    okIs (s.localSource s.who (lw + 0x300).toNat 24 8) (fun l => l == .loc 3 0x300) = true ∧ natOf (s.lread 3 0x300 24) = x ∧ ¬ imageRefused x ∧
    imageRefused (x + 2 ^ 75) ∧ owned s (descriptorOf x none) := by unfold imageRefused owned; decide +kernel
theorem test_cbwf_available : (after? (exec (.cbwf 6 5 4) (cbs (ring 2 false true none) 2)) fun t =>
    (t.at ⟨3, 2⟩).st == .busy && (t.th ⟨3, 2⟩).p == 0xA5A4 - 32 * (0xA5A4 / 64 % 2) * 2) = true := by decide +kernel
theorem test_cbwf_parks : (after? (exec (.cbwf 6 5 4) (cbs (ring 2 false true none) 3)) fun t => (t.at ⟨3, 2⟩).st == .park) = true := by decide +kernel
theorem test_cbpa_wraps : (after? (exec (.cbpa 5 4) (cbs (ring 2 false true none) 2)) fun t => (t.cb 3 4).pptr == 0 && (t.cb 3 4).filled == 4) = true := by
  decide +kernel
theorem test_cbca_underflow : (after? (exec (.cbca 5 4) (cbs (ring 2 false true none) 3)) fun t => (t.at ⟨3, 2⟩).cause == 7 && (t.at ⟨3, 2⟩).tval == 4 + 32 * 3) = true := by
  decide +kernel
theorem test_vldq : (after? (exec (.vldq 1 4 .i8) (vst (cbs (ring 2 false true none) 0) 4 4 0 0 0 0)) fun t =>
    (t.th ⟨3, 2⟩).v[1].toNat == 0x44332211 && (t.cb 3 4).cptr == 1 && (t.cb 3 4).filled == 1) = true := by decide +kernel

/-- Core 3 with a buffer 4 of four slots of 9600 bytes, format record 1, and a tile command's operands. -/
def tiles : State :=
  (cbs { ring 2 false true none with slotsz := 300 } 0).upd ⟨3, 2⟩ fun x => { x with recs := x.recs.set 1 (some (4 + 0x7E * 2 ^ 64)) }
theorem witness_TileCommands_mxu : passes .mwld (tw 0 0 4 0 0 0 0 0 0) tiles ⟨3, 2⟩ 0 ∧ passes .mact (tw 0 0 4 0 0 0 0 0 0) tiles ⟨3, 2⟩ 0 ∧
    passes .mdrn (tw 2 0 4 0 0 0 0 0 0) tiles ⟨3, 2⟩ (4 + 0x7E * 2 ^ 64) ∧ passes .mswap (tw 0 0 0 0 0 0 0 0 0) tiles ⟨3, 2⟩ 0 ∧
    passes .mzero (tw 0 0 0 0 0 0 0 0 0) tiles ⟨3, 2⟩ 0 ∧ passes .msync (tw 0 0 0 0 0 0 0 0 0) tiles ⟨3, 2⟩ 0 := by
  unfold passes gives takes; dsimp only; constructorm* _ ∧ _ <;> decide +kernel
theorem witness_TileCommands_copy : passes .cpyB (tw 0 0 0x1000 0 0x2000 0 0x10001 0x20 0) tiles ⟨3, 2⟩ 0 ∧
    passes .cpyB (tw 2 0 0x1000 0 0x10E0 0 1 0 0) tiles ⟨3, 2⟩ 0 ∧ passes .cpyB (tw 4 0 0x1000 0 4 0 1 0 0) tiles ⟨3, 2⟩ 0 ∧
    passes .cpyG (tw 0 0 0x1000 0 0x2000 0 0x10001 0x200 0) tiles ⟨3, 2⟩ 0 ∧ passes .cpyF (tw 0 0 0x1000 0 5 6 1 0 0) tiles ⟨3, 2⟩ 0 ∧
    passes .cpyC (tw 0 0 0x200 2 0 0 0 0 0) tiles ⟨3, 2⟩ 0 := by unfold passes takes inGrant; dsimp only; constructorm* _ ∧ _ <;> decide +kernel
theorem witness_TileCommands_collective : [TileOp.crs, .cag, .car, .cbc].Forall fun o => passes o (tw 0 0 0x1000 0 0x2020 0 8 0 0) tiles ⟨3, 2⟩ 0 := by
  unfold passes; simp only [List.Forall]; constructorm* _ ∧ _ <;> decide +kernel
theorem witness_TileCommands_registers : let t := tw 0 0 0 0 0 0 1 0 (6 + 2 ^ 30)
    ¬ pairsBad t ∧ pairsBad (tw 0 0 0 0 0 0 1 0 (6 + 2 ^ 5 + 2 ^ 30)) ∧ opens tiles (.cpyB t) = true ∧
    okIs (readRegs ⟨3, 2⟩ tiles (regFields t)) (fun r => r.1.head? == some 600) = true ∧ tiles.readP ⟨3, 2⟩ 0 = true ∧ tiles.readP ⟨3, 2⟩ 1 = false ∧
    (hist tiles).history ⟨3, 2⟩ = true ∧ (tiles.core 3).copyq.length < 8 := by unfold pairsBad; dsimp only; constructorm* _ ∧ _ <;> decide +kernel
theorem witness_TileCommands_faults : TileOp.illegal .mwld (fun _ => true) (tw 4 0 4 0 0 0 0 0 0) = false ∧ TileOp.illegal .mwld (fun _ => true) (tw 22 0 4 0 0 0 0 0 0) = false ∧
    TileOp.illegal .mact (fun _ => true) (tw 0x40 0 4 0 0 0 0 0 0) = false ∧ (0, false, 2) ∉ combinations ∧
    ((base 1200 2).updLaunch 0 fun l => { l with hdr := hdr }).groupSomewhere
      ((base 1200 2).at ⟨1200, 2⟩) 4 = true ∧
    TileOp.illegal .cpyB (fun _ => true) (tw 0 0 0x10 0 0 0 1 0 0) = false ∧ pair12 (tw 0 0 0x20 0x3F0000 0 0 1 0 0) / 2 ^ 48 = 63 := by decide +kernel
theorem test_tile_queued_resolved : (after? (exec (.cpyB (tw 0 0 0 0 0x2000 0 1 0 5)) (putR tiles 5 0x1000)) fun t =>
    (t.core 3).copyq.map (fun q => (q.t.w1, q.t.w7)) == [(0x1000, 0)] && (t.th ⟨3, 2⟩).pc == 0x10040) = true := by decide +kernel
theorem test_tile_guard_zero : (after? (exec (.mzero (tw 0 1 0 0 0 0 0 0 0)) tiles) fun t =>
    (t.core 3).mxq.isEmpty && (t.th ⟨3, 2⟩).pc == 0x10040) = true := by decide +kernel

/-! ## Events of threads, homes, messages and waits -/

def W : Who := ⟨3, 2⟩
/-- The thread of core 3 waits for something. -/
def busyFor (s : State) (b : BusyWhy) : State := s.upd W fun x => { x with st := .busy, busy := b }
/-- An event that leaves a given state. -/
def leaves (e : Event) (s t : State) : Bool := reach (fires e s) t

theorem witness_ThreadEvents : (busyFor vt .completing).at W = { vt.at W with st := .busy, busy := .completing } ∧ atEdge (vt.at W) ∧
    ((vt.upd W fun x => { x with timer := true }).at W).timer = true ∧ (vt.task? ⟨0, 0⟩).any (fun t => t.place == .on 3 2) = true ∧
    (vt.updLaunch 0 fun l => { l with st := .stopped .driver }).stopped 0 = true ∧ (vt.core 3).dead = false ∧
    ((vt.updCore 3 fun k => { k with lmx := true, lmxCount := 256 }).core 3).lmxCount = 256 := by unfold atEdge; decide +kernel
theorem witness_ThreadEvents_entry : let k := ((sys .run).updCore 3 fun k => { k with events := [.trap 2], eie := true, evbase := 0x4444 }).core 3
    k.events = [.trap 2] ∧ k.eie = true ∧ k.dead = false ∧ k.slots[15].st = .run := by decide +kernel
theorem test_completion : leaves (.instructionCompletion 3 2) (busyFor vt .completing) (vt.upd W fun x => { x with busy := .completing }) = true := by decide +kernel
theorem test_event_entry : (after? (fires (.systemEventEntry 3) ((sys .run).updCore 3 fun k => { k with events := [.trap 2], eie := true, evbase := 0x4444 })) fun t =>
    (t.core 3).hslot == 2 && (t.th ⟨3, 15⟩).pc == 0x4444 && (t.core 3).srpc == 0x10020 && !(t.core 3).eie) = true := by decide +kernel
theorem test_refusal_trap : (after? (fires (.latticeRefusalTrap 3 2) (vt.upd W fun x => { x with refused := [⟨0x0E, 77, 88⟩] })) fun t =>
    (t.at W).cause == 0x0E && (t.at W).tval == 77 && (t.at W).lfpc == 88 && (t.at W).epc == 0x10020) = true := by decide +kernel

/-- A thread whose fetch at 0x10046 waits for its line, on a page of a kind at physical 0x500000. -/
def fetching (kind : Nat) : State := busyFor ((mapped vt [(0x10000, mkPte kind 0x500 0 0 0)]).updTh W fun t => { t with pc := 0x10046 }) .fetch
theorem witness_HomeEvents_fetch : okIs ((fetching 2).translate 1 0x10044 .fetch) (fun p => p.pa == 0x500044 &&
    isOk ((fetching 2).kindCheck 1 0 true .fetch p.pte 0x10044) && isOk ((fetching 2).checkedRead (p.pa / 32 * 32) 32)) = true ∧
    ((fetching 2).at W).asid = 1 ∧ ((fetching 2).at W).owner = 0 := by decide +kernel
theorem test_fetch_fill : (after? (fires (.instructionFetchFill 3 2) (fetching 2)) fun t =>
    (t.at W).st == .run && ((t.core 3).icache.head?.any fun l => l.va == 0x10040) && (t.th W).pc == 0x10046) = true := by decide +kernel
theorem test_fetch_of_data : (after? (fires (.instructionFetchFill 3 2) (fetching 0)) fun t =>
    (t.at W).st == .trap && (t.at W).cause == 0x0B && (t.at W).tval == 0x10046) = true := by decide +kernel
theorem witness_HomeEvents_remote :
    let s := putR (mapped vt [(0x10000, mkPte 0 0x500 0 0 0)]) 5 0x10040
    let ld := busyFor (s.upd W fun x => { x with out := some (.ld 6 5 .d 1) }) .remote
    let st := busyFor (s.upd W fun x => { x with out := some (.st 6 5 .d 1) }) .remote
    opens ld (.ld 6 5 .d 1) = true ∧ okIs (ld.place W .load 0x10048 8) (fun l => isOk (ld.loadAt W 0x10048 l 8)) = true ∧
    okIs (st.place W .store 0x10048 8) (fun l => l.isMem) = true ∧ isOk (st.storeAllowed W (.st 6 5 .d 1) 0x10048 8) = true := by decide +kernel
theorem witness_HomeEvents_locality : let s := (busyFor vt (.locality [7])).updCore 7 fun k => { k with started := true }
    s.takesThread 0 7 = true ∧ (s.core 7).entryOpen = true ∧ s.drained W false = true := by decide +kernel
theorem witness_HomeEvents_page : let s := busyFor ((mapped vt [(0x10000, mkPte 0 0x500 0 0 0)]).upd W fun x => { x with out := some (.publish 3 4) }) (.publish 2)
    okIs (s.translate (s.at W).asid 0x10000 .publish) (fun p => pteKind p.pte == kPrivate) = true := by decide +kernel
theorem witness_HomeEvents_freeze : ((lat 1 0).arena? 1 7).isSome = true := by decide +kernel
theorem witness_HomeEvents_table :
    let s := busyFor ((table 2).upd W fun x => { x with out := some (.vpoly 1 2 3 .f32) }) .coef
    okIs (s.loadTable W (.vpoly 1 2 3 .f32) (BitVec.ofNat 64 (s.readV W 3))) (fun tb => hd tb.bytes 3 0 == 1) = true ∧ (s.th W).vlN = 1 := by decide +kernel

/-- A message to the task, and an open epoch under a VT. -/
def toUs : Msg := ⟨50, 7, 0, 0, 4, false, false, false, 0, true, [1, 2]⟩
def ep (v n : Nat) (u : List (Nat × List Byte)) (l : List SentLog) : Epoch :=
  ⟨⟨v, 5, 0, 0, n, false, false, false, 0, false, []⟩, { Thread.zero with pc := BitVec.ofNat 64 v }, u, l, none, none⟩
def withT (f : Task → Task) : State := vt.updTask ⟨0, 0⟩ f
theorem witness_MessageArrivalsAndRollback : let r := counted vt toUs
    (r.launch? 0).any (fun l => widS (hWidths l.h) == 12 || decide (toUs.dwid.toNat < 2 ^ widS (hWidths l.h))) = true ∧ r.stopped 0 = false ∧
    (r.task? ⟨0, 0⟩).any (fun t => t.id == ⟨0, 0⟩ && t.place == .on 3 2 && t.epochs == [] && t.inbox == [] && t.hold == []) = true ∧
    (r.at W).st = .run ∧ r.hardUsed 3 < 256 ∧ twins toUs toUs = true ∧ toUs.key.lt ⟨60, 7, 1⟩ = true ∧ toUs.key.lt ⟨10, 7, 1⟩ = false ∧
    r.task? ⟨0, 3⟩ = none ∧ (r.launch? 0).any (fun l => l.unplaced == []) = true := by decide +kernel
theorem test_straggler : (after? (fires (.messageArrival toUs) (withT fun t => { t with epochs := [ep 60 1 [] []], lastKey := some ⟨60, 7, 1⟩ })) fun t =>
    match t.agenda with | [.rollback i k b] => i == ⟨0, 0⟩ && k == toUs.key && !b | _ => false) = true := by decide +kernel
theorem test_anti_annihilates : (after? (fires (.antiMessageArrival { toUs with anti := true }) (withT fun t => { t with inbox := [⟨toUs, none⟩] })) fun t =>
    (t.task? ⟨0, 0⟩).any fun x => x.inbox.isEmpty) = true := by decide +kernel
/-- The task has three epochs, the undo entries of each newest first; two are later than key 20. -/
def deep : State := withT fun t => { t with lastKey := some ⟨30, 5, 3⟩, epochs :=
  [ep 10 1 [(0x100, [9])] [⟨1, 2, 3, 4⟩], ep 21 2 [(0x200, [1, 2, 3]), (0x201, [7])] [⟨5, 6, 7, 8⟩], ep 30 3 [(0x202, [8, 8])] [⟨55, 6, 7, 8⟩]] }
theorem witness_MessageArrivalsAndRollback_rollback : (deep.task? ⟨0, 0⟩).any (fun t => t.epochs == [ep 10 1 [(0x100, [9])] [⟨1, 2, 3, 4⟩]] ++
      ep 21 2 [(0x200, [1, 2, 3]), (0x201, [7])] [⟨5, 6, 7, 8⟩] :: [ep 30 3 [(0x202, [8, 8])] [⟨55, 6, 7, 8⟩]]) = true ∧
    Key.lt ⟨20, 0, 0⟩ (ep 10 1 [] []).msg.key = false ∧ Key.lt ⟨20, 0, 0⟩ (ep 21 2 [] []).msg.key = true ∧ (deep.grant W).1 = 3 := by decide +kernel
theorem test_rollback_restores_newest_first : (after? (fires (.rollback ⟨0, 0⟩ ⟨20, 0, 0⟩ false) deep) fun t =>
    (t.th W).pc == 21 && t.lread 3 0x200 5 == [1, 7, 3, 8, 0x55] && t.agenda.length == 2 &&
    (t.task? ⟨0, 0⟩).any fun x => x.epochs.length == 1 && x.inbox.length == 2) = true := by decide +kernel

/-- The thread parked on a cell. -/
def parkedOn (i : Instr) : State := vt.upd W fun x => { x with st := .park, park := .cell 0 1 0x5000 ⟨.frozen, [0], []⟩, out := some i, parkAt := 20 }
def hostMsg : HostMsg := ⟨0, 77, 0x1234, 9, false, (List.range 40).map (fun i => BitVec.ofNat 8 i)⟩
def ringAt (tail head : Nat) : State :=
  vt.updWq 5 fun p => { p with hmbase := 0x4000, hmsize := 4, hmtail := BitVec.ofNat 64 tail, hmhead := BitVec.ofNat 64 head, ctl := 1 }
theorem witness_WakesAndRings : ((parkedOn (.lxrd 6 3)).at W).st = .park ∧ (((parkedOn (.lxrd 6 3)).th W).bind.toList.all fun x => !x.bound) = true ∧
    span32 (BitVec.ofNat 64 3) 0 < 4 ∧ span32 (BitVec.ofNat 64 4) 0 = 4 ∧ span32 2 0xFFFFFFFE = 4 ∧ ((ringAt 3 0).wqPage 5).ctl.getLsbD 0 = true := by
  decide +kernel
theorem witness_WakesAndRings_ring : (vt.launch? 0).any (fun l => hHring l.h == 0) = true ∧ (vt.wqPage 0).hmsize = 0 := by decide +kernel
theorem witness_WakesAndRings_timeouts : let s := { (vt.updCore 3 fun k => { k with ingress := [(toUs, 5)] }) with gtime := 2 ^ 24 + 5 }
    (s.core 3).ingress = [(toUs, 5)] ∧ 5 + 2 ^ 24 ≤ s.gtime ∧ s.stopped 0 = false := by decide +kernel
theorem test_wake_completes_lxrd : (after? (fires (.wakeDelivery ⟨3, 2, ⟨0, 0⟩, 1, 0x5000, 3, bytesOf 8 0xFEDCBA9876543210, true, 10⟩) (parkedOn (.lxrd 6 3))) fun t =>
    reg t 6 == 0xFEDCBA9876543210 && (t.at W).st == .run && (t.th W).pc == 0x10024) = true := by decide +kernel

/-! ## Events of contexts, schedulers, launches and the Odometer -/

/-- A header with save areas of 5 units of 32 bytes from 0x10000 + …, dies 0 and no levels placed. -/
def saved : State := vt.updLaunch 0 fun l => { l with hdr := BitVec.ofNat 1024 (hdr.toNat + 5 * 2 ^ 832 + 0x10000 + 96 * 2 ^ 848), gvt := 5 }
/-- The Derailleur owns the slot, on its way to core 40. -/
def derailed : State := (saved.upd W fun x => { x with st := .trap, migrTo := some 40, epc := 0x777, area := some 3 }).updCore 40 fun k => { k with started := true }
theorem witness_ContextEvents_migration : derailed.drained W true = true ∧ derailed.takesThread 0 40 = true ∧ (derailed.core 40).entryOpen = true ∧ (derailed.core 40).cacheUsed < 8 ∧
    (derailed.core 40).freeSlots.head?.isSome = true ∧ (derailed.task? ⟨0, 0⟩).any (fun t => t.hold == [] && t.deferred.isEmpty && t.place == .on 3 2) = true ∧
    (derailed.at W).launched = true ∧ (derailed.at W).deferred = [] ∧ (saved.core 3).blocked = false := by decide +kernel
theorem test_migration_leaves : (after? (fires (.derailleurMigration 3 2) derailed) fun t => (t.at W).st == .empty &&
    (t.task? ⟨0, 0⟩).any (fun x => x.place == .migrating) && (t.core 40).intake.length == 1) = true := by decide +kernel
def ctx (n : Fin 16) (b : Bool) : CtxEntry := { vt.ctxEntry W 2 none [] with slot := n, incomplete := b, why := 0, task := ⟨0, 0⟩ }
theorem witness_ContextEvents_intake : ((vt.updCore 3 fun k => { k with intake := [ctx 1 true, ctx 2 true] }).core 3).intake.find? (fun e => e.slot == 2) = some (ctx 2 true) ∧
    (vt.core 3).dead = false := by decide +kernel
theorem witness_ContextEvents_save : let s := saved.upd W fun x => { x with st := .save, saveAt := some (0, 0, 0), epc := 0x888 }
    (s.at W).saveAt = some (0, 0, 0) ∧ (s.core 3).cacheUsed = 0 ∧ (s.at W).fromPark = false ∧ s.stopped 0 = false ∧ (s.th W).codelet = false := by decide +kernel
theorem test_save_completes : (after? (fires (.saveCompletion 3 2) (saved.upd W fun x => { x with st := .save, saveAt := some (0, 0, 0), epc := 0x888 })) fun t =>
    (t.at W).st == .empty && (t.core 3).cache.length == 1 && (t.core 3).runq.length == 1) = true := by decide +kernel
theorem witness_ContextEvents_full : let s := vt.updCore 3 fun k => { k with cache := (List.range 8).map fun n => ctx (Fin.ofNat 16 n) (n < 3) }
    (s.core 3).cacheUsed = 8 ∧ (s.core 3).victim.isSome = true ∧ (s.core 3).cache.find? (fun e => !e.incomplete) = some (ctx 3 false) := by decide +kernel
/-- Core 3 with every user slot parked in RECV. -/
def crowded : State := saved.updCore 3 fun k =>
  let slots : Vector Slot 16 := Vector.ofFn fun i =>
    if i.val < 14 then { k.slots[2] with st := .park, park := .recv, parkTurns := 64, parkAt := if i = 5 then 3 else 9 } else k.slots[i]
  { k with started := true, slots := slots, runq := [⟨⟨0, 99⟩, .saved, 1, 0, 0, 0, 0, true, none, false⟩] }
theorem witness_ContextEvents_evict : (crowded.core 3).freeSlots = [] ∧ (crowded.ownEntry 3).isSome = true ∧
    ((crowded.core 3).slots[5].st = .park ∧ (crowded.core 3).slots[5].parkAt = 3) := by decide +kernel
theorem test_evicts_longest_parked : (after? (fires (.parkedThreadEviction 3) crowded) fun t => (t.slot 3 5).st == .save && (t.slot 3 4).st == .park) = true := by
  decide +kernel

def entry (n p : Nat) : QEntry := ⟨⟨0, BitVec.ofNat 64 n⟩, .task 0x55 .ordered 9 false, p, 0, 0, 0, 0, false, none, false⟩
/-- A started core 3 with a run queue and its die's ready queue. -/
def fill (own die : List QEntry) : State :=
  { (saved.updCore 3 fun k => { k with started := true, runq := own }) with ready := saved.ready.setIfInBounds 0 die }
theorem witness_SchedulerEvents_fill : (fill [entry 1 2] [entry 2 3]).ownEntry 3 = some (entry 1 2) ∧ (fill [entry 1 2] [entry 2 3]).offer 3 = some (entry 2 3) ∧
    (fill [entry 1 3] [entry 2 2]).offer 3 = some (entry 2 2) ∧ ((fill [] []).core 3).freeSlots.isEmpty = false ∧ (fill [entry 1 2] []).offer 3 = none ∧
    ((fill [] []).launch? 0).any (fun l => hLmreq l.h == 0 && hLayout l.h == 0 && l.freeArea.isSome && decide (l.unplaced = []) && nlev (hWidths l.h) == 2 &&
      (List.range 6).all fun n => hLplc l.h n == 0) = true := by decide +kernel
theorem test_new_task_registers : (after? (fires (.slotFill 3) (fill [entry 1 2] [])) fun t => (t.slot 3 0).st == .run && (t.slot 3 0).th.g[3] == 1 &&
    (t.slot 3 0).th.g[4] == 0x55 && (t.slot 3 0).th.lvt == 9 && (t.slot 3 0).th.g[5] == 0) = true := by decide +kernel
theorem test_equal_priority_own_first : (after? (fires (.slotFill 3) (fill [entry 1 2] [entry 2 2])) fun t => (t.slot 3 0).task == ⟨0, 1⟩) = true := by decide +kernel
theorem witness_SchedulerEvents_steal : (fill [] []).stealing.toList.getD 0 false = false ∧ (fill [] []).idleDie 0 = true ∧
    ((victims 0).find? ((fill [] []).mayAsk 0)).isSome = true ∧ ((victims 4).dropWhile (fun x => x != (victims 4).getLast?.getD 0)).drop 1 = [] := by decide +kernel
theorem witness_SchedulerEvents_answer : let s := fill [] [entry 3 1, entry 4 0, entry 5 0]
    bestOf (s.stealable 3) (s.ready.toList.getD 0 []) = some (entry 4 0) ∧ bestOf ((fill [] []).stealable 3) [] = none := by decide +kernel

/-- A work queue 2 with one record, and nothing running. -/
def queueWith (h : Nat) : State :=
  let s := { State.reset.withThread false with launches := [], tasks := [], gtime := 99, nextNum := 7 }
  (s.pwrite (0x8000 + 128) (bytesOf 128 h)).updWq 2 fun p =>
    { p with base := 0x8000, size := 4, tail := 2, head := 1, ctl := 1 + 3 * 256, cqbase := 0x9000, cqsize := 4, cqtail := 6, cqhead := 5 }
def goodHeader : Nat := 2 ^ 384 + 2 ^ 56 + 4 * 2 ^ 128 + 5 * 2 ^ 852 + 96 * 2 ^ 832 + 0x10000 + 2 ^ 60 + 7 * 2 ^ 64
def stepped (s : State) : State := s.updWq 2 fun p => { p with head := BitVec.ofNat 64 ((p.head.toNat + 1) % 2 ^ 32) }
theorem witness_LaunchEvents_accept : (queueWith goodHeader).acceptDue 2 = true ∧ ((queueWith goodHeader).wqPage 2).size.toNat = 4 ∧
    (match (stepped (queueWith goodHeader)).accepts 3 goodHeader with | .ok _ => true | .error _ => false) = true ∧
    (match (stepped (queueWith goodHeader)).accepts 3 (goodHeader - 2 ^ 384) with | .ok _ => false | .error r => r != 0) = true := by decide +kernel
theorem test_accepts : (after? (fires (.launchAccept 2) (queueWith goodHeader)) fun t => t.launches.length == 1 && (t.wqPage 2).head == 2) = true := by decide +kernel
theorem witness_LaunchEvents_dispatch : (after? (fires (.launchAccept 2) (queueWith goodHeader)) fun t => match t.launches with
    | [l] => l.st == .waiting && l.num == 4096 && l.odo == none && l.deps.isEmpty && t.tasks.isEmpty && decide (t.nextNum < 4096) && hNogrid l.h && !hExpl l.h
    | _ => false) = true := by decide +kernel
theorem witness_LaunchEvents_stop : (vt.launch? 0).any (fun l => l.num == 0 && l.st == .live && l.first == none) = true ∧ vt.allEntries = [] ∧
    vt.tasks.length = 1 := by decide +kernel
theorem test_launch_stop : (after? (fires (.launchStop 0 .driver none) vt) fun t => (t.launch? 0).any (fun l => l.st == .stopped .driver) &&
    t.agenda.any fun e => match e with | .driverStop c sl => c == 3 && sl == 2 | _ => false) = true := by decide +kernel
theorem witness_LaunchEvents_completion : [LState.ended, .stopped .stall, .stopped .fault, .stopped .driver].all (fun st =>
    !((saved.updLaunch 0 fun l => { l with st := st }).upd W fun _ => Slot.reset).launchBusy 0) = true := by decide +kernel

/-- The launch with counters, its two marks, and an even or odd sweep; nothing else is left. -/
def swept (n : Nat) (a b : Nat × Nat) (balanced sawEnd : Bool) : State :=
  let s := vt.updLaunch 0 fun l => { l with sent := a, recv := b, balanced := balanced, sawEnd := sawEnd, odo := some 0, gvt := 5, hzn := 6 }
  { s with sweep := n, tasks := [], cores := [] }
theorem witness_OdometerEvents : (swept 4 (9, 2) (1, 2) true true).launches.length = 1 ∧ (swept 4 (9, 2) (1, 2) true true).flits = [] ∧
    (swept 4 (9, 2) (1, 2) true true).captures = [] ∧ (swept 4 (9, 2) (1, 2) true true).agenda = [] ∧ (swept 4 (9, 2) (1, 2) true true).mxus = [] ∧
    (swept 4 (9, 2) (1, 2) true true).ready.toList.all List.isEmpty = true ∧ (swept 4 (9, 2) (1, 2) true true).hostMsgs = [] := by decide +kernel
theorem test_sweep_ends_launch : (after? (fires (.sweepResult 0) (swept 4 (9, 2) (1, 2) true true)) fun t => t.launches.all fun l => l.st == .ended) = true := by
  decide +kernel
theorem test_sweep_unbalanced : (after? (fires (.sweepResult 0) (swept 5 (9, 2) (1, 2) true true)) fun t => t.launches.all fun l => l.st == .live && !l.balanced) = true := by
  decide +kernel

/-! ## Engines -/

/-- Core 3 runs a command of a task of the launch on cluster 0's MXU, `n` rows of it done. -/
def cmd (op : TileOp) (t : TWord) (n : Nat) : QCmd := { command tiles W op t 0 with done := n }
def mxuRuns (s : State) (op : TileOp) (t : TWord) (n : Nat) : State := s.updMxu 0 fun m => { m with running := some (3, cmd op t n) }
/-- The buffer 4 of core 3 with all four slots filled, its active plane tagged 9. -/
def fed : State := (tiles.updCore 3 fun k => { k with cbs := k.cbs.set 4 { ring 4 false true none with slotsz := 300 } }).updMxu 0 fun m =>
  { m with active := { m.active with tag := 9 } }
theorem witness_MatrixUnitEvents_arbiter : (tiles.mxu 0).running = none ∧
    (((tiles.updCore 3 fun k => { k with mxq := [cmd .mswap (tw 1 0 0 0 0 0 0 0 0) 0] }).core (8 * 0 + 3)).mxq.head?).isSome = true ∧
    (tiles.mxu 0).mxwt.toNat / 16 ^ 3 % 16 ≠ 0 := by decide +kernel
theorem witness_MatrixUnitEvents_weights : (fed.cb 3 4).bytes = 9600 ∧ weightLen 0 false = 32800 ∧
    (match fed.feed 3 4 true 4 with | .slots bs => bs.length == 4 * 9600 | _ => false) = true := by decide +kernel
theorem witness_MatrixUnitEvents_row : let t := tw 1 0 (4 * 2 ^ 15 + 1 * 2 ^ 8 + 4) 9 0 0 0 0 0
    t.row0 = 4 ∧ t.rows = 2 ∧ t.tag = 9 ∧ (fed.mxu 0).active.tag = 9 ∧ (fed.mxu 0).active.wtype = t.wtype ∧ (fed.mxu 0).active.sparse = t.sparse ∧
    (match fed.feed 3 t.cbn (decide (rlen t.wtype t.sparse + 2 ≤ (fed.cb 3 t.cbn).bytes)) 1 with | .slots bs => bs.length == 9600 | _ => false) = true := by
  decide +kernel
theorem witness_MatrixUnitEvents_drain : let t := tw 2 0 (4 * 2 ^ 15 + 1 * 2 ^ 8 + 3 * 2 ^ 5 + 4) 0 0 0 0 0 0
    let s := mxuRuns tiles .mdrn t 0
    t.dcoreM = 3 ∧ (s.core 3).lmx = false ∧ (s.cb 3 4).filled ≠ (s.cb 3 4).slots := by decide +kernel
theorem test_mswap : (after? (fires (.mxuCommandExecute 0) (mxuRuns fed .mswap (tw 1 0 0 0 0 0 0 0 0) 0)) fun t =>
    (t.mxu 0).shadow.tag == 9 && (t.mxu 0).running.isNone && t.agenda.length == 1) = true := by decide +kernel
theorem test_mact_wrong_plane : (after? (fires (.mxuCommandExecute 0) (mxuRuns fed .mact (tw 0 0 (4 * 2 ^ 15 + 4) 8 0 0 0 0 0) 0)) fun t =>
    match t.agenda with | [.launchStop n k (some r)] => n == 0 && k == .fault && r.src == 1 && r.sub == 1 | _ => false) = true := by decide +kernel
theorem test_mzero_clears_rows :
    let s := (mxuRuns fed .mzero (tw 0 0 (4 * 2 ^ 15) 0 0 0 0 0 0) 0).updMxu 0 fun m => { m with acc := [(((3 * 128) + 4) * 256 + 7, 0x3F800000), (((3 * 128) + 5) * 256, 1)] }
    (after? (fires (.mxuCommandExecute 0) s) fun t => accAt (t.mxu 0) 3 4 7 == 0 && accAt (t.mxu 0) 3 5 0 == 1) = true := by decide +kernel

/-- A copy in progress on core 3, into its local memory. -/
def copying (op : TileOp) (t : TWord) (n : Nat) : State := vt.updCore 3 fun k => { k with copying := [{ cmd op t n with at_ := 77, asid := 1 }] }
theorem witness_CopyAndCollectiveEvents_fill : let t := tw 3 0 0x400 0 0x11223344 0x55667788 2 0 0
    t.dmode = 1 ∧ TileOp.total .cpyF t = 64 ∧ ((copying .cpyF t 13).core 3).copyq = [] ∧ ((copying .cpyF t 13).core 3).lmx = false := by decide +kernel
theorem witness_CopyAndCollectiveEvents_read : let t := tw 3 0 0x10020 0 0x400 0 0x10002 0x40 0
    let s := (mapped (copying .cpyB t 0) [(0x10000, mkPte 2 0x500 0 0 0)])
    t.rl = 64 ∧ TileOp.total .cpyB t = 128 ∧ t.dmode = 1 ∧
    okIs (s.translate 1 0x10020 .csrc) (fun p => isOk (s.kindCheck 1 0 false .csrc p.pte 0x10020) && okIs (s.checkedRead p.pa 64) fun bs => bs.length == 64) = true := by
  decide +kernel
/-- A channel from core 3 to buffer 7 of core 5. -/
def channel : State := (copying .cpyC (tw 1 0 0 0 0 0 0 0 0) 0).updCore 5 fun k => { k with cbs := k.cbs.set 7 { ring 1 false true none with pkind := 1, srccore := 3 } }
theorem witness_CopyAndCollectiveEvents_channel : (channel.cb 5 7).takesFrom 3 false = true ∧ (channel.cb 5 7).pkind = 1 ∧ channel.chanReady 5 7 = true ∧
    (channel.core 5).landing = [] ∧ (channel.cb 5 9).takesFrom 3 false = false ∧ (channel.cb 5 9).reclaimed = false := by decide +kernel
def ringBlock : WireBlock :=
  let es : List Nat := (List.range 32).map fun i => i + 0x30
  { ring := 2, bucket := 9, block := 0, spread := false, hops := 1, hdr := BitVec.ofNat 32 (0x7F0 + residue es * 2 ^ 16),
    body := Vector.ofFn fun i => BitVec.ofNat 8 (i.val + 0x30), fromDev := 11, colour := true, check := checkCode (es.map (BitVec.ofNat 8)) 0 }
def ringBucket : Bucket :=
  { core := 3, cmd := cmd .car (tw 0 0 0 0 0 0 0 0 0) 0, ring := 2, bucket := 9, nmem := 3, rank := 2, root := 0, scale := 0x7F0, member := [10, 11, 12], count := 32,
    blocks := [(1, (List.range 32).map fun i => BitVec.ofNat 8 i)], met := [], gotReduce := 0, gotSpread := 0, wrote := 0, late := [], away := none }
def ringState : State :=
  let fleet := { vt.fleet with wring := vt.fleet.wring.set 2 (1 + 2 * 1 + 16 * 2), wroute := vt.fleet.wroute.set 10 9 }
  { vt with buckets := [ringBucket], fleet := fleet, links := vt.links.put 33 { Link.reset with st := 1 } }
theorem witness_CopyAndCollectiveEvents_ring : (ringBlock.fromDev, ringBlock.scale, ringBlock.seq, ringBlock.elems.length, ringBlock.res, ringBlock.grow) =
      (11, 0x7F0, 0, 32, residue (ringBlock.elems.map BitVec.toNat), 0) ∧ ringBucket.expects false 0 = true ∧ 0 < ringBucket.countOf (ringBucket.expects false) ∧
    ringBucket.chunk 0 ≠ 2 ∧ ringState.portTo 10 = some (1, true) ∧ { ringState with links := [] }.portTo 10 = some (1, false) ∧ ringState.portTo 11 = none ∧
    (match hop 0 (ringBlock.elems.map BitVec.toNat) 1 (List.range 32) with | .ok _ => true | .error _ => false) = true := by decide +kernel
theorem test_ring_block_of_no_bucket : (after? (fires (.wireBlockArrival { ringBlock with bucket := 8 }) ringState) fun t => t.early.length == 1) = true := by
  decide +kernel
theorem test_ring_block_from_elsewhere : (after? (fires (.wireBlockArrival { ringBlock with fromDev := 10 }) ringState) fun t =>
    t.buckets.isEmpty && t.agenda.any fun e => match e with | .launchStop _ _ (some r) => r.src == 1 && r.sub == 7 | _ => false) = true := by decide +kernel
/-- A collective at the head of core 3's queue, its descriptor on a page at 0x10000. -/
def collective : State := (mapped vt [(0x10000, mkPte 2 0x500 0 0 0)]).updCore 3 fun k => { k with collq := [{ cmd .car (tw 0 0 0x10000 0 0x20000 0 32 9 0) 0 with asid := 1 }] }
theorem witness_CopyAndCollectiveEvents_descriptor : okIs (collective.readDesc 1 0x10000) (fun d => d == 0 && collective.descOk d == false) = true := by
  decide +kernel

/-! ## Host, driver and platform -/

def ready (s : State) : State := { s with regs := { s.regs with bootst := 6, ascbase := 0x10000, habase := 0x50000 } }
theorem witness_HostAccess : let s := ready vt
    isReady s ∧ ¬ isReady State.reset ∧ populated 0x200040 = true ∧ populated (8 * 2 ^ 36) = false ∧
    (((s.pwrite 0x50000 [2]).pbyte (s.regs.habase.toNat + 0x200040 / 2 ^ 24)).toNat / 2 ^ (0x200040 / 2 ^ 21 % 8) % 2 = 1) ∧
    (s.pbyte s.regs.habase.toNat).toNat = 0 := by unfold isReady; decide +kernel
theorem witness_HostAccess_page : let p : WqPage := { WqPage.reset with base := 0x80, size := 8, cqbase := 0x40, cqsize := 4, rpbase := 0x40, rpsize := 16 }
    pageValid p ∧ ¬ pageValid { p with base := 0x40 } ∧ p.ctl.getLsbD 0 = false := by
  refine ⟨⟨⟨3, by decide⟩, ⟨2, by decide⟩, ⟨4, by decide⟩, by decide, by decide, by decide⟩, ?_, by decide⟩
  rintro ⟨-, -, -, h, -⟩; revert h; decide
theorem test_host_read_unmapped : (after? (fires (.hostMemRead 0x200040) (ready vt)) fun t => t.hostRead == some (List.replicate 64 0xFF)) = true := by
  decide +kernel
/-- A driver command's operands. -/
def args (s : State) (a b c : Word) : State := { s with regs := { s.regs with dcarg0 := a, dcarg1 := b, dcarg2 := c, dcbusy := true, dcstatus := 99 } }
def oneBuffer : State := { ready vt with buffers := [⟨7, false, 1, 0x10000, 4096, none, []⟩], nextHandle := 2 ^ 32 - 1 }
theorem witness_DriverCommands_buffers : (oneBuffer.launches.any fun l => l.deps.any fun d => d.handle == 7) = false ∧ (ready vt).buffers = [] ∧
    (args oneBuffer 0x10000 4096 255).regs.dcarg2.toNat < 256 := by decide +kernel
theorem test_regbuf_handles_wrap : (after? (fires .regbuf (args { ready vt with nextHandle := 2 ^ 32 - 1 } 0x10000 4096 1)) fun t =>
    t.nextHandle == 1 && t.regs.dcres == 0xFFFFFFFF && t.regs.dcstatus == 0 && t.buffers.length == 1) = true := by decide +kernel
theorem test_freebuf_unknown : (after? (fires .freebuf (args oneBuffer 8 0 0)) fun t => t.regs.dcstatus == 3 && t.buffers.length == 1) = true := by decide +kernel
/-- Page tables of address space 1 with one 4 KiB leaf at 0x10000. -/
def tables : State := (List.range 5).foldl (fun (s : State) l => s.pwrite (0x20000 + 0x2000 * l + 16 * walkIndex 0x10000 l)
  (bytesOf 16 (if l = 4 then mkPte 0 0x500 0x123 0 0x1234 else 1 + ((0x20000 + 0x2000 * (l + 1)) / 4096) * 2 ^ 12)))
  ((args oneBuffer 7 0x55 2).pwrite 0x10020 (bytesOf 32 (1 + 0x20000)))
theorem witness_DriverCommands_retag : okIs (tables.walk 1 0x10000 (natOf (tables.pread 0x10020 32) / 2 ^ 10 % 2 ^ 42 * 2 ^ 10) 0 5) (fun r => pteSize r.1 == 0) = true ∧
    tables.regs.ascbase = 0x10000 := by decide +kernel
def arenaDesc : Nat := 0x1000000 * 2 ^ 64 + 0x1000 * 2 ^ 128 + 1 * 2 ^ 192 + 9 * 2 ^ 200
theorem witness_DriverCommands_arena : let s := (args (ready vt) 0x40000 0 0).pwrite 0x40000 (bytesOf 64 arenaDesc)
    okIs (s.checkedRead 0x40000 64) (fun bs => (arenaOf? (natOf bs)).isSome) = true ∧ s.arenas = [] ∧ ((lat 1 0).arena? 1 7).isSome = true := by decide +kernel
/-- The launch with save areas of 121 units, and its task holding area 2. -/
def reclaiming (p : Place) : State :=
  let s := mapped (args (ready vt) 3 0 0) [(0x10000, mkPte 0 0x500 0 0 0), (0x11000, mkPte 0 0x501 0 0 0), (0x12000, mkPte 0 0x502 0 0 0)]
  (s.updLaunch 0 fun l => { l with hdr := l.hdr ||| BitVec.ofNat 1024 (121 * 2 ^ 832 + 0x10000 * 2 ^ 768), gvt := 5 }).updTask ⟨0, 0⟩ fun t => { t with area := some 2, place := p }
theorem witness_DriverCommands_reclaim : (reclaiming (.on 3 2)).clear W = true ∧ ((reclaiming (.on 3 2)).core 3).blocked = false ∧
    ((reclaiming (.on 3 2)).launch? 0).any (fun l => hSavelen l.h == 121) = true ∧ (reclaiming (.on 3 2)).stopped 0 = false ∧
    ((reclaiming (.on 3 2)).task? ⟨0, 0⟩).any (fun t => t.area == some 2 && t.grant == none) = true ∧ ((reclaiming (.on 3 2)).slot 3 2).st = .run := by decide +kernel
theorem witness_DriverCommands_restore : ((reclaiming (.reclaimed 3)).task? ⟨0, 0⟩).any (fun t =>
    isOk ((reclaiming (.reclaimed 3)).restoreArea 3 t (0x10000 + 2 * 121 * 32) 1) && !t.parked) = true := by decide +kernel
theorem test_stop_of_no_launch : (after? (fires .stop (args (ready vt) 0 5 0)) fun t => t.regs.dcstatus == 3 && !t.regs.dcbusy) = true := by decide +kernel
/-- An arena 9 of two cells, frozen or not, named by a digest's list at 0x60000. -/
def digesting (rep st : Nat) : State :=
  let s := { ready vt with arenas := [⟨1, 9, 0, 0, 0, 0, st, 0x10000, 16, 0⟩], fleet := { vt.fleet with repgrp := BitVec.ofNat 64 rep } }
  args ((mapped s [(0x10000, mkPte 1 0x500 9 0 0)]).pwrite 0x60000 (bytesOf 2 9)) (1 + 0x77 * 65536) 0x60000 1
theorem witness_DigestEvents : okIs ((digesting 0 2).checkedRead 0x60000 2) (fun bs => arenaNumbers bs == [9]) = true ∧ ((digesting 0 2).arena? 1 9).isSome = true ∧
    isOk ((digesting 0 2).digestOf 0 (digesting 0 2).arenas) = true ∧ (digesting 3 2).peers = [] ∧ (digesting 0 2).digest = none := by decide +kernel
theorem test_digest_not_frozen : (after? (fires .digest (digesting 0 0)) fun t => t.regs.dcstatus == 1) = true := by decide +kernel
theorem witness_PlatformEvents : State.reset.powered = true ∧ State.reset.regs.bootst = 0 ∧ (ready vt).regs.bootst ≠ 0 ∧
    (ready vt).fleet.scrubctl.getLsbD 0 = true ∧ populated (32 * 5) = true ∧ 5 ∉ (ready vt).poison ∧ populated (32 * ((7 * 2 ^ 36 + 48 * 2 ^ 30) / 32 - 1)) = true := by
  decide +kernel
theorem witness_PlatformEvents_links : let s := { ready vt with links := [(4, { Link.reset with st := 1 }), (5, { Link.reset with st := 0 }), (33, { Link.reset with st := 1 })] }
    (s.link 4).st = 1 ∧ (s.link 5).st = 0 ∧ (s.link 6).st = 0 ∧ (s.link 33).st = 1 ∧ { s with portWait := [((1 : Fin 8).val, 7, 4, ringBlock)] }.portWait.length = 1 := by
  decide +kernel
theorem witness_PlatformEvents_monitor : let s := { ready vt with captures := (ready vt).captures.put 69 { Capture.reset with ctl := 0x105 } }
    (s.capture 2 5).ctl.getLsbD 8 = true ∧ (s.capture 2 5).ctl.getLsbD 9 = false ∧ (s.capture 2 5).ctl.toNat % 256 = 5 := by decide +kernel
theorem test_thermal_shutdown : (after? (fires .thermalShutdown (ready vt)) fun t => !t.powered && t.regs.bootst == 0 && t.launches.isEmpty) = true := by decide +kernel
theorem test_power_cap : (after? (fires (.powerCapThrottle 2201) (ready vt)) fun t => t.throttled && t.fleet.pwrcap == 2200) = true := by decide +kernel
theorem test_event_not_in_transit : reach (exec .timerPreemption vt) vt = true := by decide +kernel

/-! ## The turn, registers and memory -/

/-- A booted package at core 3's turn of slot 2, its line at 0x10020 held. -/
def turnOf (bs : List Byte) : State :=
  { (vt.updCore 3 fun k => { k with icache := [⟨1, 0x10020, bs, 0, checkCode bs 0⟩] }) with regs := { vt.regs with bootst := 6, odoctl := 0 } }
theorem witness_TurnsAndBoundaries : let s := turnOf (bytesOf 32 (encode (.addi 3 4 7)))
    atTurn s ∧ quiet s ∧ codeOf s (bytesOf 32 (encode (.addi 3 4 7))) ∧ reads s (bytesOf 32 (encode (.addi 3 4 7))) = some (.addi 3 4 7) ∧
    reads s (bytesOf 32 0) = none ∧ (s.at s.who).st = .run ∧ (s.at s.who).migrAt = none := by
  refine ⟨?_, ?_, ⟨_, rfl, ?_⟩, ?_, ?_, ?_, ?_⟩
  · unfold atTurn isReady; decide +kernel
  · unfold quiet; decide +kernel
  all_goals decide +kernel
theorem test_step_runs : (after? (step (turnOf (bytesOf 32 (encode (.addi 3 4 7))))) fun t =>
    reg t 3 == 407 && (t.th W).pc == 0x10024 && t.turn == 4 && t.gtime == 82) = true := by decide +kernel
theorem test_step_unassigned : (after? (step (turnOf (bytesOf 32 0))) fun t => (t.at W).cause == 1 && (t.at W).st == .trap && t.turn == 4) = true := by decide +kernel
theorem test_step_misses : (after? (step (turnOf [])) fun t => t.turn == 4) = true ∧
    (after? (step { turnOf [] with cores := (turnOf []).cores.map fun p => (p.1, { p.2 with icache := [] }) }) fun t => (t.at W).st == .busy) = true := by decide +kernel
theorem witness_TurnsAndBoundaries_pending : let s := turnOf []
    ((s.upd W fun x => { x with mcheck := some (1, 5) }).at W).mcheck = some (1, 5) ∧ (s.at W).mcheck = none ∧ (s.at W).refused = [] ∧ (s.at W).dstop = false := by
  decide +kernel
theorem test_parity_stops_launches : (after? (step ((turnOf []).upd W fun x => { x with mcheck := some (8, 5) })) fun t =>
    (t.at W).cause == 0x860 && t.agenda == [.launchStop 0 .fault (some ⟨3, 0x20, 8, 0x7FF, 0, 0, 0, 5, 0, none⟩)]) = true := by decide +kernel
theorem witness_StepKeepsRotation : (turnOf []).Inv ∧ State.reset.Inv := by unfold State.Inv; decide +kernel
theorem test_last_core_counts_a_cycle : (after? (step { turnOf [] with turn := 1535, gtime := 2 ^ 64 - 1 }) fun t => t.turn == 0 && t.gtime == 0) = true := by decide +kernel
theorem witness_TrapEntryAndReturn : W.slot ≠ 15 ∧ (⟨3, 15⟩ : Who).slot = 15 := by decide
theorem test_trap_of_user_slot : let t := vt.takeTrap W 0x09 false 0 0x1234 0x10020 false
    (t.at W).st = .trap ∧ (t.at W).cause = 9 ∧ (t.at W).tval = 0x1234 ∧ (t.at W).epc = 0x10020 ∧ (t.core 3).events.length = 1 := by decide +kernel
theorem test_trap_of_system_slot : let t := (sys .run).takeTrap ⟨3, 15⟩ 0x09 false 0 0x1234 0x10020 false
    (t.core 3).dead = true ∧ (t.at ⟨3, 15⟩).st = .trap := by decide +kernel
theorem witness_RegisterAccess : let s := bound false (ring 2 false true none)
    (s.th W).binding 29 = some ⟨7, false, true, 3, 5, 3⟩ ∧ (s.th W).binding 28 = none ∧ beforeToken (ring 2 true true (some 0)) = some 0 ∧
    (s.cb 3 7).filled = 2 ∧ (s.core 3).lmx = false ∧ s.upsetIn 3 0x200 8 = false ∧ (s.updCore 3 fun k => { k with upset := [0x40] }).upsetIn 3 0x200 8 = true := by
  decide +kernel
theorem test_bound_pop : okIs ((bound false (ring 2 false true none)).readG W 29) (fun r => r.1 == 0x8877665544332211 && (r.2.cb 3 7).popPos == 1) = true := by
  decide +kernel
theorem test_bound_push_last_element : let s := (bound true { ring 2 false true none with pushPos := 3 }).writeG W 29 0xABCD
    (s.cb 3 7).filled = 3 ∧ (s.cb 3 7).pushPos = 0 ∧ s.lread 3 (0x200 + 64 + 24) 2 = [0xCD, 0xAB] := by decide +kernel
theorem witness_MemoryAccess : populated 0x1000 = true ∧ populated (2 ^ 40) = false ∧ populated (8 * 2 ^ 36 - 32) = false ∧ populated (7 * 2 ^ 36 + 48 * 2 ^ 30 - 32) = true := by
  decide +kernel
theorem test_pwrite_clears_poison : (({ vt with poison := [0x80, 0x81] } : State).pwrite 0x1000 (List.replicate 32 1)).poison = [0x81] := by decide +kernel
theorem test_upset_load : (after? (exec (.ld 6 5 .d 0) ((putR (grant (base 3 2)) 5 (lw + 0x200)).updCore 3 fun k => { k with upset := [0x40] })) fun t =>
    (t.at ⟨3, 2⟩).st == .trap && (t.at ⟨3, 2⟩).cause == 0x220 && reg t 6 == 600) = true := by decide +kernel
theorem witness_Frames : let s := putR (grant (base 3 2)) 5 (lw + 0x200)
    (∀ r ∈ [(6 : Fin 32), 5], (s.th s.who).binding r = none) ∧ (s.core s.who.core).trctl = false ∧
    (after? (exec (.st 6 5 .d 0) s) fun t => (t.at s.who).st != .trap) = true ∧ (after? (exec (.ld 6 5 .d 0) s) fun t => (t.at s.who).st != .trap) = true := by
  decide +kernel
theorem witness_NumberFormatsAndBlocks : smallVal (e4m3.decode 0x7E) ∧ smallVal (e2m1.decode 15) ∧ (fp16.decode 0x7BFF).isNan = false ∧ 0x7BFF < 2 ^ fp16.width := by
  refine ⟨⟨by decide, by decide, 0x7E, by decide, .inl rfl⟩, ⟨by decide, by decide, 15, by decide, .inr (.inr rfl)⟩, by decide, by decide⟩
theorem test_round_ties_to_even : fp16.round .rne (.fin false 2049 1) = 0x6800 ∧ fp16.round .rne (.fin false 2051 1) = 0x6802 ∧
    fp16.round .rne (.fin false 65520 1) = 0x7C00 ∧ fp16.round .rtz (.fin false 65520 1) = 0x7BFF := by decide +kernel
theorem witness_DecodeEncodeAgree : (Instr.addi 3 4 (-1)).wf = true ∧ encode (.addi 3 4 (-1)) ≠ 0 ∧ decodeBits (encode (.mzero (tw 1 3 0 0 0 0 0 0 0))) ≠ none ∧
    encode (.mzero (tw 1 3 0 0 0 0 0 0 0)) / 2 ^ 25 % 128 = 0x7E ∧ encode (.addi 3 4 (-1)) < 2 ^ 32 := by decide +kernel
theorem witness_OnlyRotationFaults : State.reset.Inv := by unfold State.Inv; decide +kernel

/-! ## Clauses of the statements met at states of their own -/

/-- The thread waits at the cell's home for the answer to its request. -/
def asks (s : State) (i : Instr) : State := s.upd W fun x => { x with st := .busy, busy := .remote, out := some i }
theorem witness_LatticeRequestAtHome_freezes : [0, 2, 4].all (fun k =>
    let s := asks (cellIs (putR (lat 1 0) 5 cellVa) k 5) (.lfrz 7 5)
    found s (fun c k bs => (latRes c.ar k bs .frz).ans == (if k = 4 then 2 else if k = 2 then 1 else 0)) && s.awaits W ⟨0, 0⟩ &&
      okIs (s.readG W 5) (fun r => r.1 == cellVa && isOk (r.2.chkDst W 7))) = true := by decide +kernel
theorem witness_LatticeRequestAtHome_arena : [0, 2].all (fun st =>
    let s := asks (putR (lat 1 0) 5 0x1000041) (.lfrza 5)
    let s : State := { s with arenas := s.arenas.map fun (a : Arena) => { a with st := st } }
    okIs (s.translate 1 0x1000041 .lwrite) (fun x => pteKind x.pte == 1 && !farAway x.pa && (s.arenaFor 1 0x1000041 x.pte).any fun a => a.st == st) &&
      s.awaits W ⟨0, 0⟩ && (s.at W).out == some (.lfrza 5)) = true := by decide +kernel
theorem witness_LatticeLaws_frozen : let ar := arena 1 0
    ((latRes ar 0 (bytesOf 8 5) (.join 9)).new.isSome ∧ (latRes ar 2 (bytesOf 8 5) (.join 9)).ans = 0x0E) ∧
    (latRes (arena 9 1) 2 (bytesOf 16 5) (.esum .i64 1)).ans = 0x0E ∧ (latRes ar 2 (bytesOf 8 9) (.join 5)).ans = 0 := by decide +kernel
theorem witness_ThresholdReads_triggers : let s := putR (putR (lat 6 4) 5 0x1000000) 6 (lw + 0x200)
    okIs (s.localSource W (lw + 0x200).toNat 256 32) (fun l => l == .loc 3 0x200) = true ∧
    okIs (s.cellAt 1 0x1000000 .lread) (fun c => trigOk c.ar ⟨.mask, [lw + 0x200], s.lread 3 0x200 256⟩) = true ∧
    trigOk (arena 8 0) ⟨.val, [1, 2, 3, 4], []⟩ = true ∧ trigOk (arena 8 0) ⟨.val, [1, 1], []⟩ = false ∧ trigOk (arena 6 2) ⟨.mask, [1, 2, 3, 4], []⟩ = true ∧
    okIs (s.readRun W 6 4) (fun r => r.1 == [lw + 0x200, 700, 800, 900]) = true := by decide +kernel
theorem test_lwait_second_value : firstStatus (arena 8 0) 1 (bytesOf 8 7) ⟨.val, [5, 7], []⟩ = some 16 := by decide +kernel
theorem witness_LatticeInstructions_arena : addrFault 0x1000041 = some 5 ∧ opens (putR (lat 1 0) 5 0x1000041) (.lfrza 5) = true ∧
    addrFault 0x40000000000001 = some 5 ∧ opens (putR (lat 8 2) 5 cellVa) (.lfillv 5 1) = true := by decide +kernel
theorem witness_SpawnResult_number : sub.number?.isSome = true ∧ (sub.updWq 0 fun p => { p with cqsize := 0 }).cqRoom 0 = false := by
  decide +kernel
/-- A descriptor whose reserved bits are set, and one whose BASE is no multiple of 32. -/
theorem witness_ContextSaveAndLoad_malformed : [0x40000 + 96 * 2 ^ 64 + 2 ^ 60, 0x40008 + 96 * 2 ^ 64, 0x40000 + 96 * 2 ^ 64 + 2 ^ 90].all (fun (d : Nat) =>
    let s := (putR (putR (sys .trap) 7 2) 5 (lw + 0x400)).lwrite 3 0x400 (bytesOf 16 d)
    okIs (s.readDescriptor s.who (lw + 0x400)) fun r => r == none) = true := by decide +kernel
/-- Element 1 of a load is homed on core 6. -/
theorem witness_VectorMemoryResult_leaves :
    let s := putR (mapped (base 3 2) [(0x10000, mkPte 0 0x500 0 0 0)]) 5 0x10000
    okIs (s.place s.who .load 0x10000 1) (fun l => firstRemote s.who [.loc 3 0x200, l] == some l && remoteWords s.who [(lw + 0x200, .loc 3 0x200), (0x10000, l)] == [6])
      = true := by decide +kernel
/-- The states of a VREDQ over a slot of four elements, a turn each. -/
def addsRun (s : State) : Nat → State
  | 0 => s
  | n + 1 => match exec (.vredq 1 4 .i64) (addsRun s n) with | .next t => t | _ => s
theorem witness_CircularBuffersAndQueueVectors_run : let s := vst (cbs (ring 2 false true none) 0) 1 7 0 3 0 0
    [1, 2, 3].all (fun j => (addsRun s j).at W != (addsRun s (j - 1)).at W && ((addsRun s j).th W).rcnt.toNat == j && ((addsRun s j).at W).st == .busy &&
      ((addsRun s j).at W).busy == .elements) = true := by decide +kernel
theorem test_vredq_ends : let s := vst (cbs (ring 2 false true none) 0) 1 7 0 3 0 0
    ((addsRun s 4).th W).rcnt = 0 ∧ ((addsRun s 4).cb 3 4).filled = 1 ∧ ((addsRun s 4).th W).v[1].toNat = 0x8877665544332214 := by decide +kernel
theorem witness_TileCommands_room : (tiles.core 3).tileWait = [] ∧ (tiles.core 3).mxq.length < 8 ∧ (tiles.core 3).collq.length < 4 ∧
    ¬ ((tiles.updCore 3 fun k => { k with mxq := List.replicate 8 (cmd .mswap (tw 1 0 0 0 0 0 0 0 0) 0) }).core 3).mxq.length < 8 := by decide +kernel
theorem test_tile_waits_resolved : (after? (exec (.mswap (tw 1 0 0 0 0 0 0 0 0))
    (tiles.updCore 3 fun k => { k with mxq := List.replicate 8 (cmd .mswap (tw 1 0 0 0 0 0 0 0 0) 0) })) fun t =>
      (t.core 3).tileWait.length == 1 && (t.at W).busy == .queue 0 && (t.th W).pc == 0x10040) = true := by decide +kernel
theorem test_tile_decode_before_binding : (after? (exec (.mwld (tw 22 0 4 0 0 0 0 0 29)) (bound true (ring 2 false true none))) fun t => (t.at W).cause == 4) = true := by
  decide +kernel
theorem witness_ThreadEvents_elements : let s := (busyFor vt .elements).upd W fun x => { x with timer := true }
    (s.at W).st = .busy ∧ (s.at W).busy = .elements ∧ (s.at W).timer = true ∧ (busyFor vt .save).at W = { vt.at W with st := .busy, busy := .save } := by decide +kernel
theorem witness_HomeEvents_full : let s := (busyFor vt (.locality [7])).updCore 7 fun k => { k with started := true, cache := (List.range 8).map fun n => ctx (Fin.ofNat 16 n) true }
    (s.core 7).entryOpen = false ∧ s.takesThread 0 7 = true := by decide +kernel
/-- An inbox whose 256 hardware entries are taken, at a core without an overflow region. -/
def crammed : State := withT fun t => { t with inbox := List.replicate 256 ⟨{ toUs with seq := 9 }, none⟩ }
theorem witness_MessageArrivalsAndRollback_full : let r := counted crammed toUs
    256 ≤ r.hardUsed 3 ∧ (r.core 3).ioEntries = 0 ∧ ((r.task? ⟨0, 0⟩).any fun t => t.inbox.all fun x => !(x.msg.anti && twins x.msg toUs)) = true := by decide +kernel
theorem test_message_waits_at_ingress : (after? (fires (.messageArrival toUs) crammed) fun t => (t.core 3).ingress.length == 1) = true := by decide +kernel
theorem witness_MessageArrivalsAndRollback_held : let s := vt.upd W fun x => { x with st := .trap }
    ((counted s toUs).at W).st = .trap ∧ (s.cores.all fun x => x.2.ingress.isEmpty) = true ∧ ((busyFor deep .history).at W).busy = .history ∧
    ((busyFor deep .remote).at W).st = .busy := by decide +kernel
theorem test_anti_in_trap_is_told : (after? (fires (.antiMessageArrival { toUs with anti := true }) (vt.upd W fun x => { x with st := .trap })) fun t =>
    (t.core 3).events.length == 1 && (t.task? ⟨0, 0⟩).any fun x => x.hold.length == 1) = true := by decide +kernel
theorem test_rollback_ends_a_history_wait : (after? (fires (.rollback ⟨0, 0⟩ ⟨20, 0, 0⟩ false) (busyFor deep .history)) fun t => (t.at W).st == .run && (t.th W).pc == 21) = true ∧
    (after? (fires (.rollback ⟨0, 0⟩ ⟨20, 0, 0⟩ false) (busyFor deep .remote)) fun t => (t.at W).deferred.length == 1) = true := by decide +kernel
theorem witness_WakesAndRings_order : let s := { ringAt 3 0 with hostMsgs := [hostMsg] }
    (s.hostMsgs.any fun x => (s.launch? x.launch).any fun y => hHring y.h == 0) = true ∧ (ringAt 3 0).hostMsgs = [] := by decide +kernel
theorem witness_ContextEvents_flits : let e := ctx 1 true
    flitChecks [] = [] ∧ (e.checks = flitChecks e.img) = (([] : List Nat) = flitChecks e.img) ∧ { e with img := [] }.checks = flitChecks { e with img := [] }.img ∧
    (e.checks ≠ flitChecks e.img) := by refine ⟨by decide +kernel, by rfl, by decide +kernel, by decide +kernel⟩
theorem witness_ContextEvents_blocked : let s := crowded.updCore 3 fun k => { k with cache := (List.range 8).map fun n => ctx (Fin.ofNat 16 n) true }
    (s.core 3).blocked = true ∧ (s.core 3).evictHold ≤ s.gtime ∧ (s.core 3).freeSlots = [] := by decide +kernel
theorem test_eviction_held_off : (after? (fires (.parkedThreadEviction 3) (crowded.updCore 3 fun k => { k with cache := (List.range 8).map fun n => ctx (Fin.ofNat 16 n) true }))
    fun t => (t.slot 3 5).st == .park && (t.core 3).evictHold == t.gtime + 1024) = true := by decide +kernel
theorem witness_OdometerEvents_guest : let f : SweepFlit := ⟨11, true, 0, 0, 0, 7, 8, false, false⟩
    let s := { swept 4 (9, 2) (1, 2) true false with flits := [] }
    f.result = true ∧ f.idle = false ∧ f.stalled = false ∧ s.launches.all (fun l => l.st == .live && l.odo.isSome && l.num == 0 && l.guest == none) = true ∧ s.tasks = [] ∧
    (s.updLaunch 0 fun l => { l with guest := some 11 }).launches.all (fun l => l.guest == some 11) = true := by decide +kernel
theorem test_sweep_result_of_the_origin : (after? (fires (.sweepControlFlit ⟨11, true, 0, 0, 0, 7, 8, false, false⟩) (swept 4 (9, 2) (1, 2) true false)) fun t =>
    t.launches.all fun l => l.guest == some 11 && l.gvt == 7 && l.hzn == 8) = true := by decide +kernel
/-- The command of slot 2 waits for the MXU queue of core 3, whose head the arbiter may take. -/
def queueing : State := tiles.updCore 3 fun k =>
  { k with mxq := List.replicate 8 (cmd .mswap (tw 1 0 0 0 0 0 0 0 0) 0), tileWait := [cmd .mzero (tw 0 0 0 0 0 0 0 0 0) 0] }
theorem witness_MatrixUnitEvents_waiting : (queueing.core 3).tileWait = [cmd .mzero (tw 0 0 0 0 0 0 0 0 0) 0] ∧ (cmd .mzero (tw 0 0 0 0 0 0 0 0 0) 0).op.engine = 0 ∧
    (queueing.core 3).mxq.length ≤ 8 := by decide +kernel
theorem test_arbiter_lets_a_waiting_command_in : (after? (fires (.arbiterSelect 0) queueing) fun t =>
    (t.core 3).tileWait.isEmpty && (t.core 3).mxq.length == 8 && t.agenda == [.instructionCompletion 3 2]) = true := by decide +kernel
/-- Whatever core is the home of a barrier cell, it records a waiter. -/
theorem witness_ExitYieldAndBarrier_parks (n : Nat) (x : Waiter) : ∃ t, vt.addWaiter (barrierCell 0 n) x = some t := by
  have h (c : Nat) : (vt.core c).spilled = [] ∧ (vt.core c).waiters = [] := by
    by_cases h3 : c = 3
    · subst h3; decide +kernel
    · have hk : vt.cores.map Prod.fst = [3] := by decide +kernel
      have hc : vt.core c = Core.reset := Tbl.getD_absent _ _ _ (by rw [hk]; simpa using h3)
      rw [hc]
      exact ⟨rfl, rfl⟩
  exact State.addWaiter_of_room _ _ _ (show farAway 0 = false by decide) (h _).1 (by rw [(h _).2]; decide)
/-- Work queue 2 with its tail ahead of its size, and a driver command under way. -/
theorem witness_HostAccess_queue : let p : WqPage := { WqPage.reset with base := 0x80, size := 8, cqbase := 0x40, cqsize := 4, rpbase := 0x40, rpsize := 16, tail := 9 }
    pageValid p ∧ p.size.toNat < (p.tail.toNat + 2 ^ 32 - p.head.toNat % 2 ^ 32) % 2 ^ 32 ∧ (ready vt).regs.dcbusy = false ∧ (args (ready vt) 0 0 0).regs.dcbusy = true := by
  refine ⟨⟨⟨3, by decide⟩, ⟨2, by decide⟩, ⟨4, by decide⟩, by decide, by decide, by decide⟩, by decide, by decide, by decide⟩
theorem test_enable_with_too_long_a_tail : (after? (fires (.wqctlWrite 2 1) ((ready vt).updWq 2 fun _ =>
    { WqPage.reset with base := 0x80, size := 8, cqbase := 0x40, cqsize := 4, rpbase := 0x40, rpsize := 16, tail := 9 })) fun t =>
      (t.wqPage 2).err == 3 && (t.wqPage 2).ctl == 0) = true := by decide +kernel
theorem witness_HostAccess_granules : let s := { ready vt with poison := [0x10002, 0x10003] }
    s.badGranule 0x10002 = true ∧ s.badGranule 0x10003 = true ∧ { s with poison := [0x10003] }.badGranule 0x10002 = false ∧ (ready vt).badGranule 0x10002 = false := by
  decide +kernel
theorem test_host_reads_two_bad_granules : (after? (fires (.hostMemRead 0x200040) (((ready { vt with poison := [0x10002, 0x10003] }).pwrite 0x50000 [2]).updCore 3 id)) fun t =>
    t.hostRead.isNone) = true := by decide +kernel
/-- The tables of `tables`, with the leaf's kind as given. -/
def tablesOf (kind : Nat) : State := tables.pwrite (0x20000 + 0x2000 * 4 + 16 * walkIndex 0x10000 4) (bytesOf 16 (mkPte kind 0x500 0x123 0 0x1234))
theorem witness_HostAccess_pages : ((tablesOf 2).hostPage 0x500040).any (fun p => p.kind == 2) = true ∧ ((tablesOf 3).hostPage 0x500040).any (fun p => p.kind == 3) = true ∧
    (ready vt).hostPage 0x600040 = none := by decide +kernel
/-- Page tables with one 64 KiB leaf at 0x10000: sixteen entries. -/
def tables64 : State := (List.range 16).foldl (fun (s : State) k => s.pwrite (0x20000 + 0x2000 * 4 + 16 * (walkIndex 0x10000 4 + k))
  (bytesOf 16 (mkPte 0 0x500 0x123 0 0x1234 + 4))) { tables with buffers := [⟨7, false, 1, 0x10000, 65536, none, []⟩] }
theorem witness_DriverCommands_retag64 : okIs (tables64.walk 1 0x10000 (natOf (tables64.pread 0x10020 32) / 2 ^ 10 % 2 ^ 42 * 2 ^ 10) 0 5) (fun r =>
    pteSize r.1 == 1 && pteKind r.1 != 1) = true ∧ tables64.buffers = [⟨7, false, 1, 0x10000, 65536, none, []⟩] := by decide +kernel
theorem witness_DriverCommands_reclaim_out : let s := (reclaiming (.out 3)).updCore 3 fun k => { k with cache := (List.range 8).map fun n => ctx (Fin.ofNat 16 n) true }
    (s.core 3).blocked = true ∧ (s.task? ⟨0, 0⟩).any (fun t => t.place == .out 3 && t.epochs.isEmpty && decide (t.lvt.toNat < s.gvtOf 0)) = true ∧
    s.commits 3 ⟨0, 0⟩ = false ∧ ((s.launch? 0).any fun l => decide (96 + 25 ≤ hSavelen l.h)) = true ∧ s.saveStands 3 ⟨0, 0⟩ = false := by decide +kernel
theorem test_reclaim_of_a_blocked_core : (after? (fires .reclaim ((reclaiming (.out 3)).updCore 3 fun k => { k with cache := (List.range 8).map fun n => ctx (Fin.ofNat 16 n) true }))
    fun t => t.regs.dcstatus == 9) = true := by decide +kernel
/-- Replication with peer 12, which port 2 leads to. -/
def replicating (up : Bool) : State :=
  let s := digesting (1 + 2 * 1 + 12 * 2 ^ 8 + 5 * 2 ^ 24 + 2 ^ 32) 2
  { s with fleet := { s.fleet with wroute := s.fleet.wroute.set 12 10 }, links := s.links.put 34 { Link.reset with st := if up then 1 else 0 } }
theorem witness_DigestEvents_peers : [true, false].all (fun up => (replicating up).peers.isEmpty && ((replicating up).link 34).up == up &&
    ((replicating up).fleet.wroute.toList.getD 12 0).getLsbD 3 && (replicating up).fleet.repgrp.toNat / 2 % 4 == 1) = true := by decide +kernel
theorem test_digest_leaves_for_its_peer : (after? (fires .digest (replicating true)) fun t => t.sentDigests.map (fun x => (x.1, x.2.1, x.2.2.1)) == [(12, 5, 0x77)] &&
    t.digest.isSome) = true ∧ (after? (fires .digest (replicating false)) fun t => t.heldDigests.length == 1 && t.sentDigests.isEmpty) = true := by decide +kernel
/-- A package under power whose boot stands at a step. -/
def booting (n : Nat) (fail : Option BootFail) : State := { State.reset with regs := { Regs.reset with bootst := BitVec.ofNat 64 n }, bootFail := fail }
theorem witness_PlatformEvents_boot : (booting 3 none).powered = true ∧ (booting 3 none).agenda = [] ∧ (booting 3 (some ⟨3, 7⟩)).bootFail = some ⟨3, 7⟩ ∧
    (booting 5 none).regs.bootst = BitVec.ofNat 64 5 := by decide
theorem test_boot_fails_at_its_step : (after? (step (booting 3 (some ⟨3, 7⟩))) fun t => t.regs.bootst == 0x70B && t.cores.isEmpty) = true ∧
    (after? (step (booting 3 (some ⟨4, 7⟩))) fun t => t.regs.bootst == 4) = true := by decide +kernel
theorem witness_PlatformEvents_cut : (List.range 4).all (fun j => j == 1 || !((ready vt).link (4 * 2 + j)).up) = true ∧ 2 ∉ (ready vt).cutDies ∧
    { Link.reset with st := 1 }.up = true ∧ Link.reset.up = false := by decide +kernel
theorem witness_PlatformEvents_port : let s := { ready vt with latWait := [(1, 7, request vt (.join 9) cellVa)] }
    s.buckets = [] ∧ s.heldDigests = [] ∧ s.portWait = [] ∧ (s.link 33).st = 0 := by decide +kernel
theorem test_port_comes_up : (after? (fires (.welsaPortStateChange 1 1 9) { ready vt with latWait := [(1, 7, request vt (.join 9) cellVa)], portWait := [(1, 0, 7, ringBlock)] }) fun t =>
    t.latWait.isEmpty && t.portWait.isEmpty && t.sentBlocks.length == 1 && t.agenda.length == 1) = true := by decide +kernel
theorem witness_PlatformEvents_overdue : let s := { ready vt with portWait := [(1, 0, 4, ringBlock)], cores := [], gtime := 2 ^ 24 + 4 }
    s.latWait = [] ∧ s.buckets = [] ∧ s.stopped 0 = false ∧ 2 ^ 24 ≤ s.gtime - 4 := by decide +kernel
theorem witness_PlatformEvents_cleared : let s := { ready vt with captures := (ready vt).captures.put 69 { Capture.reset with ctl := 0x105, clearedAt := some vt.gtime } }
    (s.capture 2 5).clearedAt = some s.gtime ∧ (s.capture 2 5).ctl.getLsbD 8 = true := by decide +kernel
theorem witness_TrapEntryAndReturn_full : let s := vt.updCore 3 fun k => { k with events := List.replicate 32 (.trap 5) }
    ¬ (s.core 3).events.length < 32 ∧ (vt.core 3).events.length < 32 := by decide +kernel
theorem test_machine_check_behind_the_head : let s := vt.updCore 3 fun k => { k with events := List.replicate 32 (.trap 5) }
    ((s.takeTrap W 0x20 true 2 0 0x10020 false).core 3).events.take 3 = [.trap 5, .trap 2, .trap 5] := by decide +kernel
theorem witness_RegisterAccess_push : let s := bound true (ring 2 false true none)
    (s.th W).binding 29 = some ⟨7, true, true, 3, 5, 3⟩ ∧ (s.cb 3 7).pkind = 0 ∧ (s.cb 3 7).eos = false ∧ (s.cb 3 7).filled ≠ slotsOf (s.cb 3 7) ∧
    ((bound true (ring 4 false true none)).cb 3 7).filled = 4 ∧ (s.core 3).lmx = false := by decide +kernel
theorem test_local_push_into_a_channel_buffer_faults : (after? (exec (.addi 29 4 7) (bound true { ring 2 false true none with pkind := 1 })) fun t =>
    (t.at W).cause == 7) = true := by decide +kernel
theorem witness_ContextEvents_save_area : (saved.core 3).entryOpen = true ∧ (saved.core 3).dead = false ∧
    ((saved.updCore 40 fun k => { k with cache := (List.range 8).map fun n => ctx (Fin.ofNat 16 n) true }).core 40).entryOpen = false := by decide +kernel

/-! ## Clauses on other homes, broken cells and other packages -/

/-- The thread of core 3, a page of another core's memory at 0x10000 and an index of 1. -/
def away : State := putR (putR (mapped (base 3 2) [(0x10000, mkPte 0 0x500 0 0 0)]) 5 0x10000) 7 1
theorem witness_LoadAndStoreResult_leaves :
    okIs (away.place W .load 0x10008 8) (fun l => remoteHome W l == some 6 && isOk (away.chkDst W 6)) = true ∧
    okIs (away.place W .store 0x10008 8) (fun l => remoteHome W l == some 6) = true ∧ isOk (away.storeAllowed W (.stx 6 5 7 .d) 0x10008 8) = true ∧
    opens away (.ldn 6 5 .w 2) = true ∧ opens away (.ldx 6 5 7 (.s .d)) = true ∧ opens away (.stx 6 5 7 .d) = true ∧ okIs (away.readG W 7) (fun r => r.1 == 1) = true := by
  decide +kernel
theorem test_ldx_of_another_home_leaves : (after? (exec (.ldx 6 5 7 (.s .d)) away) fun t => (t.at W).st == .busy && t.agenda == [.remoteWordAccess 3 2] && reg t 6 == 600) = true := by
  decide +kernel
theorem witness_AtomicResult_leaves : okIs (away.place W .atomic 0x10000 8) (fun l => remoteHome W l == some 6) = true ∧ opens away (.amoadd 6 5 7 .d) = true := by
  decide +kernel
theorem witness_UnsavedState_forms : let s := hist (bound false (ring 2 false true none))
    s.history W = true ∧ ((s.th W).binding 29).isSome = true ∧
    (∀ f ∈ boundForms 29 5 6 0 0 0 0 0, f.2.contains 29 = true ∨ f.2.contains 5 = true) := by decide +kernel
theorem test_bound_load_under_history : (after? (exec (.ldn 6 29 .w 0) (hist (bound false (ring 2 false true none)))) fun t =>
    (t.at W).cause == 8 && (t.cb 3 7).popPos == 0) = true := by decide +kernel
theorem witness_UnsavedState_stx : let s := putR (putR (hist (grant (base 3 2))) 5 (lw + 0x1F8)) 7 1
    operands s (.stx 6 5 7 .d) 6 5 7 (lw + 0x1F8) 1 = true ∧ s.spec W = true ∧
    ¬ ((s.th W).stwb.toNat ≤ (lw + 0x200).toNat ∧ (lw + 0x200).toNat + 8 ≤ (s.th W).stwb.toNat + (s.th W).stwl.toNat) := by decide +kernel
theorem test_system_slot_reads_the_bank_of_hslot :
    ((sys .trap).updCore 3 fun k => { k with hslot := 2 }).csrValue ⟨3, 15⟩ 0x042 = 0x4444 ∧ (sys .trap).csrValue W 0x042 = 0x4444 := by decide +kernel

/-- Table 8.2 and R200 by hand: 2.5 in units of 2^-20 is 2,621,440; 2^-21 lies half-way between 0 and 1 unit, and goes to the even one. -/
theorem test_esum_scales_and_rounds : latRes (arena 9 1) 0 (bytesOf 16 0) (.esum .f64 0x4004000000000000) = ⟨0, some (bytesOf 16 (2621440 + 2 ^ 88), 0)⟩ ∧
    latRes (arena 9 1) 0 (bytesOf 16 5) (.esum .f64 0x3EA0000000000000) = ⟨0, some (bytesOf 16 (5 + 2 ^ 88), 0)⟩ ∧
    latRes (arena 9 1) 0 (bytesOf 16 0) (.esum .f64 0x7FF0000000000000) = ⟨0x10, none⟩ := by decide +kernel
theorem test_union_of_256_bits : latRes (arena 6 2) 0 (bytesOf 32 1) (.join 300) = ⟨0, some (bytesOf 32 (1 + 2 ^ 44), 0)⟩ := by decide +kernel
theorem test_masked_fill_leaves_other_words : latRes (arena 8 2) 0 (bytesOf 32 0) (.fillM (List.replicate 32 7) 5) =
      ⟨0, some (List.replicate 8 7 ++ List.replicate 8 0 ++ List.replicate 8 7 ++ List.replicate 8 0, 1)⟩ ∧
    (latRes (arena 8 2) 1 (bytesOf 32 0) (.fillM (List.replicate 32 7) 5)).ans = 0x0F := by decide +kernel
theorem witness_LatticeRequestAtHome_conflict : let s := cellIs (lat 8 0) 1 5
    okIs ((s.countRecv 0 s.colour 1).latApply (request s (.fill 9) cellVa)) (fun r => r.2 == 0x0F) = true ∧ (request s (.fill 9) cellVa).home < 1536 := by decide +kernel
/-- A wide UNION cell of the thread, its mask in local memory, sent. -/
def masked : State := putR (putR (lat 6 4) 5 0x1000000) 6 (lw + 0x200)
theorem test_mask_is_read_at_issue : (after? (exec (.lwait 7 5 6 0 .mask) masked) fun t => (t.at W).trig == some ⟨.mask, [lw + 0x200], masked.lread 3 0x200 256⟩) = true := by
  decide +kernel

theorem witness_SpawnResult_affinity : (l0 vt).any (fun l => affinityDies l 5 == false && affinityDies l 1 && affinityDies l 0) = true ∧ affinityLegal 5 := by
  unfold affinityLegal; decide +kernel
theorem witness_ReturnAndWait_held : let s := ((sys .trap).updLaunch 0 fun l => { l with hdr := hdr }).updTask ⟨0, 0⟩ fun t => { t with hold := [toUs] }
    (s.at W).st = .trap ∧ (s.at W).isTask = true ∧ (s.task? ⟨0, 0⟩).any (fun t => t.hold == [toUs]) = true ∧
    (after? (exec .eret (s.updCore 3 fun k => { k with hslot := 2 })) fun t => (t.task? ⟨0, 0⟩).any fun x => x.hold.isEmpty && x.inbox.map (·.msg) == [toUs]) = true := by
  decide +kernel
theorem test_endf_of_a_conflict_names_the_refused_operation :
    (after? (exec (.slotctl 7 5 6) ((putR (putR (sys .trap) 5 1) 6 2).updSlot 3 2 fun x => { x with cause := 0x0F, lfpc := 0x8888 })) fun t =>
      t.agenda.any fun e => match e with | .launchStop _ _ (some r) => r.pc == 0x8888 | _ => false) = true := by decide +kernel
/-- A frozen copy of core 3, and the addresses it covers. -/
def copied : State := putR (putR (sys .run) 5 0x1000010) 6 (2 ^ 48)
theorem test_cinv_of_no_bytes : (after? (exec (.cinv 5 6) ({ copied with rdc := copied.rdc.put 0 [⟨1, 0x1000000, bytesOf 32 0, 0, 0⟩] })) fun t =>
      (t.rdc.getD 0 []).length == 1) = true ∧
    (after? (exec (.cinv 5 6) (putR { copied with rdc := copied.rdc.put 0 [⟨1, 0x1000000, bytesOf 32 0, 0, 0⟩] } 6 (2 ^ 48 + 1))) fun t => (t.rdc.getD 0 []).isEmpty) = true := by
  decide +kernel

theorem witness_TableFunctionResult_broken : let s : State := { vt with upsets := [(.coef 3, lineKey 1 0x1000000)] }
    s.sramBad (.coef 3) (lineKey 1 0x1000000) 5 = true ∧ vt.sramBad (.coef 3) (lineKey 1 0x1000000) 5 = false := by decide +kernel
theorem witness_CircularBuffersAndQueueVectors_sound : (vst (cbs (ring 2 false true none) 0) 1 7 0 3 0 0).spoiltIn 3 0x200 32 = [] ∧
    (vmem 3).spoiltIn 3 0x200 56 = [] ∧ (vt.updCore 3 fun k => { k with spoilt := [0x10] }).spoiltIn 3 0x200 8 = [0x10] := by decide +kernel
theorem witness_ThreadEvents_settled : let s := (sys .run).updCore 3 fun k => { k with events := [.wake 5 2], eie := true }
    (s.core 3).slots[2].oldGrants = 0 ∧ ((s.updSlot 3 2 fun x => { x with oldGrants := 1 }).core 3).slots[2].oldGrants ≠ 0 ∧ (s.core 3).eie = true ∧
    (busyFor (vt.upd W fun x => { x with refused := [⟨0x0E, 77, 88⟩] }) .elements).at W ≠ vt.at W := by decide +kernel
theorem test_busy_thread_takes_no_refusal : let s := busyFor (vt.upd W fun x => { x with refused := [⟨0x0E, 77, 88⟩] }) .elements
    leaves (.latticeRefusalTrap 3 2) s s = true := by decide +kernel
theorem test_reply_of_its_own_home : (after? (fires (.postedReply ⟨3, 2, ⟨0, 0⟩, false, 0x10020, false, 9, none⟩) (vt.upd W fun x => { x with posted := [5, 9, 5] })) fun t =>
    (t.at W).posted == [5, 5]) = true := by decide +kernel
theorem witness_HomeEvents_broken : let s := cellIs (lat 1 0) 6 5
    okIs (s.cellAt 1 cellVa.toNat .lread) (fun c => !isOk (s.readCell c)) = true ∧ (fetching 2).sramBad (.l2 6) (0x500040 / 32 * 4) 4 = false ∧
    okIs ((fetching 2).translate 1 0x10044 .fetch) (fun p => p.home == 6) = true := by decide +kernel

/-- A die that is cut off holds the task; a message of a later order waits behind an earlier one at core 5. -/
def cutOff : State := { vt with cutDies := [0] }
theorem witness_MessageArrivalsAndRollback_cut : let r := counted cutOff toUs
    (r.task? ⟨0, 0⟩).any (fun t => t.place == .on 3 2) = true ∧ 3 / 192 ∈ r.cutDies ∧ (r.cores.all fun p => p.2.ingress.isEmpty) = true := by decide +kernel
theorem test_message_to_a_cut_die_is_held : (after? (fires (.messageArrival toUs) cutOff) fun t => (t.task? ⟨0, 0⟩).any fun x => x.hold == [toUs]) = true := by decide +kernel
theorem witness_MessageArrivalsAndRollback_behind : let s := vt.updCore 3 fun k => { k with ingress := [({ toUs with seq := 1 }, 5)] }
    s.cores = [] ++ (3, s.core 3) :: [] ∧ (∃ x ∈ (s.core 3).ingress, precedes x.1 toUs) ∧ ¬ precedes { toUs with kind := 1 } toUs := by unfold precedes; decide +kernel
theorem test_message_waits_behind_its_order : (after? (fires (.messageArrival toUs) (vt.updCore 3 fun k => { k with ingress := [({ toUs with seq := 1 }, 5)] })) fun t =>
    ((t.core 3).ingress.map fun x => x.1.seq) == [1, toUs.seq]) = true := by decide +kernel
theorem test_dead_letter_is_not_annihilated : (after? (fires (.antiMessageArrival { toUs with anti := true }) (withT fun t => { t with inbox := [⟨{ toUs with kind := 1 }, none⟩] })) fun t =>
    (t.task? ⟨0, 0⟩).any fun x => x.inbox.length == 2) = true := by decide +kernel

/-- A launch that spans device 12, which port 2 leads to, with a sweep's report due or not, and reports held. -/
def spanning (up : Bool) (flits : List SweepFlit) (home : Option Nat) : State :=
  let s := swept 4 (9, 2) (1, 2) true false
  { s with flits := flits, fleet := { s.fleet with wroute := s.fleet.wroute.set 12 10 }, links := s.links.put 34 { Link.reset with st := if up then 1 else 0 },
           launches := s.launches.map fun (l : Launch) => { l with peers := if home.isSome then [] else [12], guest := home } }
def reportOf12 : SweepFlit := ⟨12, false, 0, 3, 4, 7, 8, true, false⟩
theorem witness_OdometerEvents_spans : (spanning true [] none).launches.all (fun l => l.due.isNone && l.guest.isNone && l.peers == [12]) = true ∧
    (spanning true [] none).portTo 12 = some (2, true) ∧ (spanning false [] none).portTo 12 = some (2, false) ∧ (spanning true [] none).portTo 13 = none ∧
    (spanning true [reportOf12] none).flits.map SweepFlit.dev = [12] ∧ (spanning true [] (some 12)).launches.all (fun l => l.guest == some 12) = true ∧
    (spanning true [] none).launches.length = 1 := by decide +kernel
theorem test_sweep_waits_for_its_peer : (after? (fires (.sweepResult 0) (spanning true [] none)) fun t => t.launches.all fun l => l.due.isSome) = true ∧
    (after? (fires (.sweepResult 0) (spanning true [reportOf12] none)) fun t => t.launches.all (fun l => l.due.isNone) && t.sentFlits.map SweepFlit.dev == [12]) = true := by
  decide +kernel
theorem test_report_of_a_guest : (after? (fires (.sweepResult 0) (spanning true [] (some 12))) fun t => t.sentFlits.length == 1 && t.flitWait.isEmpty) = true ∧
    (after? (fires (.sweepResult 0) (spanning false [] (some 12))) fun t => t.sentFlits.isEmpty && t.flitWait.length == 1) = true ∧
    (after? (fires (.sweepResult 0) (spanning true [] (some 13))) fun t => t.agenda.length == 1 && t.sentFlits.isEmpty) = true := by decide +kernel
theorem test_sweep_starts_once_the_last_is_over :
    (after? (fires .sweepStart (spanning true [] none)) fun t => t.sweep == 5) = true ∧
    (after? (fires .sweepStart ({ spanning true [] none with launches := (spanning true [] none).launches.map fun (l : Launch) => { l with due := some reportOf12 } })) fun t =>
      t.sweep == 4) = true := by decide +kernel
theorem witness_OdometerEvents_due : let s := { spanning true [] none with launches := (spanning true [] none).launches.map fun (l : Launch) => { l with due := some reportOf12 } }
    (∃ l ∈ s.launches, l.st = .live ∧ l.due.isSome = true) ∧ s.regs.odoctl.getLsbD 0 = true ∧ (s.launch? 5).isNone = true := by decide +kernel

/-! ## Engines, driver and platform -/

/-- A descriptor that the engine takes: ring 2, three members of which this package is rank 2, scale 1.0. -/
def descriptor : Nat := 2 + 3 * 2 ^ 8 + 2 * 2 ^ 16 + 0x7F0 * 2 ^ 32 + (10 + 11 * 2 ^ 8 + 12 * 2 ^ 16) * 2 ^ 512
def collecting : State :=
  let s := mapped ringState [(0x10000, mkPte 2 0x500 0 0 0), (0x20000, mkPte 0 0x501 0 0 0)]
  let s := (s.pwrite 0x500000 (bytesOf 128 descriptor)).pwrite 0x501000 (bytesOf 4 0x3F800000)
  let s := s.updCore 3 fun k => { k with collq := [{ cmd .car (tw 0 0 0x10000 0 0x20000 0 32 9 0) 0 with asid := 1 }] }
  { s with buckets := [], regs := { s.regs with welsaid := 12 } }
theorem witness_CopyAndCollectiveEvents_taken : okIs (collecting.readDesc 1 0x10000) (fun d => d == descriptor && collecting.descOk d) = true ∧
    (collDesc descriptor).nmem = 3 ∧ (collDesc descriptor).rank = 2 ∧ collecting.buckets = [] ∧ collecting.early = [] ∧
    (collecting.core 3).collq.all (fun q => q.count == 32 && okIs (collecting.readBuf q q.t.hi64 128) fun bs =>
      (formBlock (wireScale 0x7F0) ((List.range 32).map fun i => (fp32s bs 32).getD i 0)).isSome) = true ∧
    (ringState.bucket? (collDesc descriptor).ring 9).isSome = true := by decide +kernel
theorem test_collective_starts : (after? (fires (.collectiveStart 3) collecting) fun t => t.buckets.map (fun b => (b.ring, b.bucket, b.rank, b.count)) == [(2, 9, 2, 32)] &&
    (t.core 3).collq.isEmpty) = true := by decide +kernel
theorem witness_CopyAndCollectiveEvents_places : ringBucket.met = [] ∧ ({ ringBucket with met := [(0, false)] }).met.contains (ringBlock.block, ringBlock.spread) = true ∧
    ringBucket.nb = 1 ∧ ¬ ringBucket.nb ≤ ringBlock.block ∧ ringBucket.nb ≤ ({ ringBlock with block := 256 } : WireBlock).block ∧ ringBlock.bytes.length = 36 := by decide +kernel
theorem test_ring_block_met_twice : (after? (fires (.wireBlockArrival ringBlock) { ringState with buckets := [{ ringBucket with met := [(0, false)] }] }) fun t =>
    t.agenda.any fun e => match e with | .launchStop _ _ (some r) => r.sub == 7 | _ => false) = true := by decide +kernel
theorem test_ring_block_too_many : (after? (fires (.wireBlockArrival ringBlock) { ringState with buckets := [{ ringBucket with gotReduce := 1 }] }) fun t =>
    t.agenda.any fun e => match e with | .launchStop _ _ (some r) => r.sub == 9 | _ => false) = true := by decide +kernel

theorem witness_DriverCommands_context : okIs (tables.context 1 0x10000) (fun z => okIs (tables.walk 1 0x10000 (z / 2 ^ 10 % 2 ^ 42 * 2 ^ 10) 0 5) fun r =>
      pteSize r.1 == 0 && pteKind r.1 != 1) = true ∧ isOk (oneBuffer.context 1 0x10000) = false := by decide +kernel
theorem test_stop_numbers : (after? (fires .stop (args (ready vt) 0 4096 0)) fun t => t.regs.dcstatus == 1) = true ∧
    (after? (fires .reclaim (args (ready vt) 1536 0 0)) fun t => t.regs.dcstatus == 1) = true := by decide +kernel
/-- A save of core 3 that is incomplete: its home area is area 2, or CTXSV named another. -/
def unsaved (dest : Option (Word × Word × Nat)) (sl : Fin 16) : State := (args (reclaiming (.out 3)) 3 0 0).updCore 3 fun k =>
  { k with cache := [{ ctx sl true with dest := dest, img := List.replicate 32 1, tail := [] }] }
theorem witness_DriverCommands_saveretry : ((unsaved none 2).core 3).cache.map (fun e => (e.incomplete, e.dest.isNone, (unsaved none 2).homeArea e)) = [(true, true, some (0x10000 + 2 * 121 * 32, 1))] ∧
    (((unsaved none 2).core 3).cache.all fun e => ((unsaved none 2).saveBytes 3 1 (0x10000 + 2 * 121 * 32) (e.img ++ e.tail)).2.isNone) = true ∧
    (((unsaved none 2).core 3).cache.all fun e => ((vt.updCore 3 id).saveBytes 3 1 0x10000 (e.img ++ e.tail)).2.isSome) = true ∧
    ((unsaved (some (0x10000, 0x12000, 1)) 15).core 3).cache.map CtxEntry.slot = [15] := by decide +kernel
theorem test_saveretry_frees_the_entry : (after? (fires .saveretry (unsaved none 2)) fun t => (t.core 3).cache.isEmpty && t.regs.dcstatus == 0 && !t.regs.dcbusy) = true := by
  decide +kernel
theorem witness_DriverCommands_restore_error : ((reclaiming (.reclaimed 3)).task? ⟨0, 0⟩).any (fun t =>
    !isOk (((reclaiming (.reclaimed 3)).pwrite 0x500000 (bytesOf 32 0)).restoreArea 3 t 0x30000 1)) = true := by decide +kernel
theorem witness_DigestEvents_missing : let s := args (digesting 0 2) (1 + 0x77 * 65536) 0x60000 1
    okIs ((s.pwrite 0x60000 (bytesOf 2 10)).checkedRead 0x60000 2) (fun bs => arenaNumbers bs == [10]) = true ∧ (s.arena? 1 10).isNone = true := by decide +kernel
theorem witness_PlatformEvents_spdm : (booting 3 none).regs.bootst.toNat % 8 = 3 ∧ (booting 2 none).regs.bootst.toNat % 8 < 3 ∧ (ready vt).powered = true := by decide
theorem test_spdm_from_step_three : reach (fires .getVersion (booting 2 none)) (booting 2 none) = true ∧ (after? (fires .getVersion (booting 3 none)) fun t => t.spdm.isSome) = true := by
  decide +kernel
/-- A granule whose key version changed since it was written, and a digest held for device 12. -/
def rekeyed : State := { (({ ready vt with regs := { (ready vt).regs with ascbase := 0 } }).pwrite 0x1000 (List.replicate 32 1)) with keyVer := (ready vt).keyVer.setIfInBounds 0 7 }
def heldDigest : State :=
  { ready vt with fleet := { vt.fleet with wroute := vt.fleet.wroute.set 12 10 }, heldDigests := [(12, 5, 0x77, 9, 4)], cores := [], gtime := 2 ^ 24 + 4 }
theorem witness_PlatformEvents_digests : heldDigest.portWait = [] ∧ heldDigest.latWait = [] ∧ heldDigest.flitWait = [] ∧ heldDigest.buckets = [] ∧
    (heldDigest.fleet.wroute.toList.getD 12 0).toNat % 16 = 8 + 2 ∧ (heldDigest.link 34).st = 0 ∧ 2 ^ 24 ≤ heldDigest.gtime - 4 ∧ ringBlock.whole = true ∧
    ({ ringBlock with check := ringBlock.check + 1 } : WireBlock).whole = false := by decide +kernel
theorem test_held_digest_leaves : (after? (fires (.welsaPortStateChange 2 1 9) heldDigest) fun t => t.sentDigests == [(12, 5, 0x77, 9)] && t.heldDigests.isEmpty) = true ∧
    (after? (fires (.welsaTransferTimeout 2) heldDigest) fun t => t.heldDigests.isEmpty && t.sentDigests.isEmpty) = true := by decide +kernel
theorem witness_PlatformEvents_scrub : (ready vt).badGranule 5 = false ∧ ({ ready vt with poison := [5] }).badGranule 5 = true := by decide +kernel
theorem test_scrub_poisons_what_does_not_check : (after? (fires (.hbmScrub 5 .uncorrectable) ({ ready vt with fleet := { vt.fleet with scrubctl := 1 } })) fun t => t.poison == [5]) = true := by
  decide +kernel

/-! ## Broken code, local memory and L2 -/

theorem witness_TurnsAndBoundaries_broken : let s := turnOf (bytesOf 32 (encode (.addi 3 4 7)))
    let bad := s.updCore 3 fun k => { k with icache := k.icache.map fun l => { l with check := l.check + 1 } }
    brokenCode s (bytesOf 32 (encode (.addi 3 4 7))) = none ∧ (brokenCode bad (bytesOf 32 (encode (.addi 3 4 7)))).isSome = true ∧
    brokenCode { s with upsets := [(.l1i 3, lineKey 1 0x10020)] } (bytesOf 32 (encode (.addi 3 4 7))) = some (0x02, 0) := by decide +kernel
theorem test_broken_code_is_a_machine_check :
    (after? (step { turnOf (bytesOf 32 (encode (.addi 3 4 7))) with upsets := [(.l1i 3, lineKey 1 0x10020)] }) fun t =>
      (t.at W).st == .trap && (t.at W).cause == 0x220 && reg t 3 == 300) = true := by decide +kernel
/-- Local memory with a granule at 0x200 whose check code does not match. -/
def spoiltAt (s : State) : State := s.updCore 3 fun k => { k with spoilt := [0x10] }
theorem witness_RegisterAccess_spoilt : let s := spoiltAt (bound false (ring 2 false true none))
    s.upsetIn 3 0x200 8 = false ∧ s.spoiltIn 3 0x200 8 = 0x10 :: [] ∧ (bound false (ring 2 false true none)).spoiltIn 3 0x200 8 = [] := by decide +kernel
theorem test_load_of_a_spoilt_granule : (after? (exec (.ld 6 5 .d 0) (spoiltAt (putR (grant (base 3 2)) 5 (lw + 0x200)))) fun t =>
    (t.at W).cause == 0x120 && (t.at W).tval == lw + 0x200) = true := by decide +kernel
theorem test_whole_granule_store_mends : ((spoiltAt (grant (base 3 2))).lwrite 3 0x200 (List.replicate 32 0)).spoiltIn 3 0x200 8 = [] ∧
    ((spoiltAt (grant (base 3 2))).lwrite 3 0x200 (List.replicate 8 0)).spoiltIn 3 0x200 8 = [0x10] := by decide +kernel
theorem witness_MemoryAccess_l2 : vt.badIn 0x1000 8 = [] ∧ ({ vt with upsets := [(.l2 6, 0x200)] } : State).upsets.any (fun k => k.1 == Sram.l2 6 && k.2 == 0x1000 / 8) = true := by
  decide +kernel
theorem witness_Frames_atomics_and_vectors : let s := putR (putR (grant (base 3 2)) 5 (lw + 0x200)) 6 0
    (∀ r ∈ [(7 : Fin 32), 5, 6], (s.th W).binding r = none) ∧ (s.core 3).trctl = false ∧
    ([.amoadd 7 5 6 .d, .stx 7 5 6 .d, .ldx 7 5 6 (.s .d), .ldn 7 5 .w 0, .vld 1 5 0 .i8, .vst 1 5 0 .i8] : List Instr).all (fun i =>
      after? (exec i s) fun t => (t.at W).st != .trap) = true ∧
    ([.vlds 1 1 0 .i8, .vsts 1 1 0 .i8, .vldx 1 5 3 3 .i8, .vstx 1 5 3 3 .i8] : List Instr).all (fun i =>
      after? (exec i (vmem 3)) fun t => (t.at W).st != .trap) = true := by decide +kernel

end Sys2Proof.Tests
end

/-! # Integer results and predicates (R163 to R165, R174 to R176)

The operators of the model, each in the exact integers of Table 7.1 and at every width; what the shared forms of an integer instruction
leave; and the two statements assembled from them. -/

namespace Sys2Proof.Scalar

open Sys2Proof.Machine Sys2Proof.Claims

/-! ## The operators of Table 7.1 in exact integers -/

section Operators

variable {n : Nat}

/-- Integers that are congruent modulo 2^n have the same low n bits (R8). -/
theorem ofInt_eq_of_modEq {a b : Int} (h : a ≡ b [ZMOD 2 ^ n]) : BitVec.ofInt n a = BitVec.ofInt n b := by
  apply BitVec.eq_of_toNat_eq
  simpa [BitVec.toNat_ofInt] using congrArg Int.toNat h

theorem ofInt_neg_one : BitVec.ofInt n (-1) = -1 := BitVec.ofInt_neg

theorem ofInt_two_pow_sub_one : BitVec.ofInt n (2 ^ n - 1) = -1 :=
  (ofInt_eq_of_modEq (Int.modEq_iff_dvd.2 ⟨-1, by ring⟩)).trans ofInt_neg_one

/-- The one quotient that does not fit the width wraps to its dividend. -/
theorem ofInt_two_pow_eq_ofInt_neg : BitVec.ofInt (n + 1) (2 ^ n) = BitVec.ofInt (n + 1) (-2 ^ n) :=
  ofInt_eq_of_modEq (Int.modEq_iff_dvd.2 ⟨-1, by ring⟩)

theorem opAdd_eq (x y : BitVec n) : opAdd x y = BitVec.ofInt n ((x.toNat : Int) + y.toNat) := by
  simp [opAdd, BitVec.ofInt_add]

theorem opSub_eq (x y : BitVec n) : opSub x y = BitVec.ofInt n ((x.toNat : Int) - y.toNat) := by
  simp [opSub, Int.sub_eq_add_neg, BitVec.ofInt_add, BitVec.ofInt_neg, BitVec.sub_eq_add_neg]

theorem opMul_eq (x y : BitVec n) : opMul x y = BitVec.ofInt n (x.toInt * y.toInt) := by
  simp [opMul, BitVec.ofInt_mul]

theorem opMulh_eq (x y : BitVec n) : opMulh x y = BitVec.ofInt n (x.toInt * y.toInt / 2 ^ n) := by
  simp [opMulh]

theorem opMulhn_eq (x y : BitVec n) : opMulhn x y = BitVec.ofInt n (x.toNat * y.toNat / 2 ^ n : Nat) :=
  (BitVec.ofInt_natCast ..).symm

theorem toInt_ne_zero {y : BitVec n} (hy : y ≠ 0) : y.toInt ≠ 0 :=
  fun h => hy (BitVec.eq_of_toInt_eq (by simpa using h))

theorem toNat_ne_zero {y : BitVec n} (hy : y ≠ 0) : y.toNat ≠ 0 :=
  fun h => hy (BitVec.eq_of_toNat_eq (by simpa using h))

theorem opDiv_eq (x y : BitVec n) : opDiv x y = BitVec.ofInt n (sdiv n x.toInt y.toInt) := by
  obtain _ | n := n
  · exact Subsingleton.elim _ _
  unfold opDiv sdiv
  by_cases hy : y = 0
  · simp [hy, ofInt_neg_one]
  · rw [if_neg hy, if_neg (toInt_ne_zero hy)]
    split
    next overflow => simp [overflow, ofInt_two_pow_eq_ofInt_neg]
    next => rfl

theorem opDivn_eq (x y : BitVec n) : opDivn x y = BitVec.ofInt n (udiv n x.toNat y.toNat) := by
  unfold opDivn udiv
  by_cases hy : y = 0
  · simp [hy, ofInt_two_pow_sub_one]
  · rw [if_neg hy, if_neg (toNat_ne_zero hy), BitVec.ofInt_natCast]

theorem opRem_eq (x y : BitVec n) : opRem x y = BitVec.ofInt n (srem n x.toInt y.toInt) := by
  unfold opRem srem
  by_cases hy : y = 0
  · simp [hy]
  · rw [if_neg hy, if_neg (toInt_ne_zero hy), ← Int.tmod_def]
    split
    next overflow => rw [overflow.2, Int.tmod_neg, Int.tmod_one]
    next => rfl

theorem opRemn_eq (x y : BitVec n) : opRemn x y = BitVec.ofInt n (urem x.toNat y.toNat) := by
  unfold opRemn urem
  by_cases hy : y = 0
  · simp [hy]
  · rw [if_neg hy, if_neg (toNat_ne_zero hy), Int.natCast_ediv, ← Int.emod_def, ← Int.natCast_emod, BitVec.ofInt_natCast]

theorem opAnd_eq (x y : Word) : opAnd x y = BitVec.ofInt 64 (Nat.land x.toNat y.toNat : Nat) := by
  rw [BitVec.ofInt_natCast]
  exact BitVec.eq_of_toNat_eq (by simp [opAnd])

theorem opOr_eq (x y : Word) : opOr x y = BitVec.ofInt 64 (Nat.lor x.toNat y.toNat : Nat) := by
  rw [BitVec.ofInt_natCast]
  exact BitVec.eq_of_toNat_eq (by simp [opOr])

theorem opXor_eq (x y : Word) : opXor x y = BitVec.ofInt 64 (Nat.xor x.toNat y.toNat : Nat) := by
  rw [BitVec.ofInt_natCast]
  exact BitVec.eq_of_toNat_eq (by simp [opXor])

theorem opAndn_eq (x y : Word) : opAndn x y = BitVec.ofInt 64 (Nat.land x.toNat (2 ^ 64 - 1 - y.toNat) : Nat) := by
  rw [← BitVec.toNat_not]
  exact opAnd_eq x (~~~y)

theorem opOrn_eq (x y : Word) : opOrn x y = BitVec.ofInt 64 (Nat.lor x.toNat (2 ^ 64 - 1 - y.toNat) : Nat) := by
  rw [← BitVec.toNat_not]
  exact opOr_eq x (~~~y)

theorem opSll_eq (x y : BitVec n) : opSll x y = BitVec.ofInt n (x.toNat * 2 ^ (y.toNat % n) : Nat) := by
  rw [BitVec.ofInt_natCast, ← Nat.shiftLeft_eq]
  exact BitVec.eq_of_toNat_eq (by simp [opSll])

theorem opSrl_eq (x y : BitVec n) : opSrl x y = BitVec.ofInt n (x.toNat / 2 ^ (y.toNat % n) : Nat) := by
  rw [BitVec.ofInt_natCast, ← Nat.shiftRight_eq_div_pow, ← BitVec.toNat_ushiftRight, BitVec.ofNat_toNat, BitVec.setWidth_eq]
  rfl

theorem opSra_eq (x y : BitVec n) : opSra x y = BitVec.ofInt n (x.toInt / 2 ^ (y.toNat % n)) := by
  have hshift : x.toInt >>> (y.toNat % n) = x.toInt / 2 ^ (y.toNat % n) := by simp [Int.shiftRight_eq_div_pow]
  rw [← hshift, ← BitVec.toInt_sshiftRight, BitVec.ofInt_toInt]
  rfl

/-- A rotation's two parts do not overlap: it is the sum of the high part moved down and the low part moved up. -/
theorem toNat_rotateRight_eq_add (x : BitVec n) {k : Nat} (hk : k < n) :
    (x.rotateRight k).toNat = x.toNat / 2 ^ k + x.toNat % 2 ^ k * 2 ^ (n - k) := by
  have hlow : x.toNat >>> k < 2 ^ (n - k) := by
    rw [Nat.shiftRight_eq_div_pow]
    exact Nat.div_lt_of_lt_mul (by rw [← Nat.pow_add]; simpa [hk.le] using x.isLt)
  have hhigh : x.toNat <<< (n - k) % 2 ^ n = (x.toNat % 2 ^ k) <<< (n - k) := by
    rw [Nat.shiftLeft_eq, Nat.shiftLeft_eq, ← Nat.mul_mod_mul_right, ← Nat.pow_add, Nat.add_sub_cancel' hk.le]
  rw [BitVec.toNat_rotateRight, Nat.mod_eq_of_lt hk, hhigh, Nat.lor_comm, ← Nat.shiftLeft_add_eq_or_of_lt hlow,
    Nat.shiftRight_eq_div_pow, Nat.shiftLeft_eq, Nat.add_comm]

theorem opRor_eq (x y : BitVec n) :
    opRor x y = BitVec.ofInt n (x.toNat / 2 ^ (y.toNat % n) + x.toNat % 2 ^ (y.toNat % n) * 2 ^ (n - y.toNat % n) : Nat) := by
  obtain _ | n := n
  · exact Subsingleton.elim _ _
  rw [← toNat_rotateRight_eq_add x (Nat.mod_lt _ n.succ_pos), BitVec.ofInt_natCast, BitVec.ofNat_toNat, BitVec.setWidth_eq]
  rfl

theorem opMin_eq (x y : BitVec n) : Machine.opMin x y = BitVec.ofInt n (Min.min x.toInt y.toInt) := by
  unfold Machine.opMin
  rw [min_def]
  split <;> simp

theorem opMax_eq (x y : BitVec n) : Machine.opMax x y = BitVec.ofInt n (Max.max x.toInt y.toInt) := by
  unfold Machine.opMax
  rw [max_def]
  split <;> simp

theorem opMinn_eq (x y : BitVec n) : opMinn x y = BitVec.ofInt n (Min.min x.toNat y.toNat : Nat) := by
  unfold opMinn
  rw [min_def]
  split <;> simp

theorem opMaxn_eq (x y : BitVec n) : opMaxn x y = BitVec.ofInt n (Max.max x.toNat y.toNat : Nat) := by
  unfold opMaxn
  rw [max_def]
  split <;> simp

theorem opSlt_eq (x y : BitVec n) : opSlt x y = BitVec.ofInt n (if x.toInt < y.toInt then 1 else 0) := by
  unfold opSlt
  split <;> simp

theorem opSltn_eq (x y : BitVec n) : opSltn x y = BitVec.ofInt n (if x.toNat < y.toNat then 1 else 0) := by
  unfold opSltn
  split <;> simp

end Operators

/-! ## The shared forms of an integer instruction -/

section Forms

variable {i : Instr} {d a b : Fin 32} {s s1 s2 : State} {x y : Word}

theorem alu_next {var : Bool} {f : Word → Word → Word} (ho : s.chkOps s.who i = .ok ()) (ha : s.readG s.who a = .ok (x, s1))
    (hb : s1.readG s.who b = .ok (y, s2)) (hd : s2.chkDst s.who d = .ok ()) :
    alu i d a b var f s = .next (ended var i s.who (s2.writeG s.who d (f x y))) := by
  simp [alu, issue_base, ho, State.read2, ha, hb, State.putG, hd, ended, bind, Except.bind]

theorem alu0_next {f : Thread → Word} (ho : s.chkOps s.who i = .ok ()) (hd : s.chkDst s.who d = .ok ()) :
    alu0 i d f s = .next ((s.writeG s.who d (f (s.th s.who))).retire s.who i) := by
  simp [alu0, issue_base, ho, State.putG, hd, bind, Except.bind]

end Forms

/-! ## The rows of Table 7.1 -/

/-- An instruction of an entry of `aluForms` reads a and b in order, writes the entry's value to d and ends as its latency class says. -/
def Completes (f : RegOp × Bool × (Word → Word → Word)) : Prop :=
  ∀ (d a b : Fin 32) (s s1 s2 : State) (x y : Word),
    open_ s (f.1 d a b) → s.readG s.who a = .ok (x, s1) → s1.readG s.who b = .ok (y, s2) → s2.chkDst s.who d = .ok () →
    exec (f.1 d a b) s = .next (ended f.2.1 (f.1 d a b) s.who (s2.writeG s.who d (f.2.2 x y)))

/-- Both instructions of a row complete with the row's value. -/
def RowCompletes (r : AluRow) : Prop :=
  Completes (r.op, r.var, r.val) ∧ ∀ o ∈ r.opW, Completes (o, r.var, r.valW)

theorem completes_of_alu {o : RegOp} {var : Bool} {f v : Word → Word → Word}
    (hexec : ∀ d a b s, exec (o d a b) s = alu (o d a b) d a b var f s) (hvalue : ∀ x y, f x y = v x y) : Completes (o, var, v) := by
  intro d a b s s1 s2 x y ho ha hb hd
  rw [hexec, alu_next ho ha hb hd, hvalue]

theorem toInt_setWidth_eq_sext (x : Word) : (x.setWidth 32).toInt = sext 32 x.toNat := by
  simp only [BitVec.toInt_eq_toNat_cond, BitVec.toNat_setWidth, sext]
  split <;> split <;> omega

/-- A .W form computes at width 32 on the low halves of its sources and sign-extends (R158). -/
theorem wform_eq_valW {r : AluRow} {f : BitVec 32 → BitVec 32 → BitVec 32}
    (hvalue : ∀ x y, f x y = BitVec.ofInt 32 (r.res 32 x.toNat y.toNat x.toInt y.toInt)) (x y : Word) : wform f x y = r.valW x y := by
  simp only [wform, AluRow.valW, hvalue, toInt_setWidth_eq_sext, BitVec.toNat_setWidth]

/-- A row without a .W form. -/
theorem rowCompletes_of_word {r : AluRow} {f : Word → Word → Word}
    (hvalue : ∀ x y, f x y = BitVec.ofInt 64 (r.res 64 x.toNat y.toNat x.toInt y.toInt)) (hW : r.opW = none)
    (hexec : ∀ d a b s, exec (r.op d a b) s = alu (r.op d a b) d a b r.var f s) : RowCompletes r :=
  ⟨completes_of_alu hexec hvalue, by simp [hW]⟩

/-- A row with a .W form: one operator, at both widths. -/
theorem rowCompletes_of_width {r : AluRow} {oW : RegOp} {f : ∀ {n : Nat}, BitVec n → BitVec n → BitVec n}
    (hvalue : ∀ {n : Nat} (x y : BitVec n), f x y = BitVec.ofInt n (r.res n x.toNat y.toNat x.toInt y.toInt)) (hW : r.opW = some oW)
    (hexec : ∀ d a b s, exec (r.op d a b) s = alu (r.op d a b) d a b r.var f s)
    (hexecW : ∀ d a b s, exec (oW d a b) s = alu (oW d a b) d a b r.var (wform f) s) : RowCompletes r := by
  refine ⟨completes_of_alu hexec hvalue, fun o ho => ?_⟩
  obtain rfl : oW = o := by simpa [hW] using ho
  exact completes_of_alu hexecW (wform_eq_valW hvalue)

theorem rowCompletes_of_mem_table71 : ∀ r ∈ table71, RowCompletes r := by
  simp only [table71, List.cons_append, List.nil_append, List.forall_mem_cons]
  exact
    ⟨rowCompletes_of_width opAdd_eq rfl (fun _ _ _ _ => rfl) fun _ _ _ _ => rfl,
     rowCompletes_of_width opSub_eq rfl (fun _ _ _ _ => rfl) fun _ _ _ _ => rfl,
     rowCompletes_of_width opMul_eq rfl (fun _ _ _ _ => rfl) fun _ _ _ _ => rfl,
     rowCompletes_of_width opMulh_eq rfl (fun _ _ _ _ => rfl) fun _ _ _ _ => rfl,
     rowCompletes_of_width opMulhn_eq rfl (fun _ _ _ _ => rfl) fun _ _ _ _ => rfl,
     rowCompletes_of_width opDiv_eq rfl (fun _ _ _ _ => rfl) fun _ _ _ _ => rfl,
     rowCompletes_of_width opDivn_eq rfl (fun _ _ _ _ => rfl) fun _ _ _ _ => rfl,
     rowCompletes_of_width opRem_eq rfl (fun _ _ _ _ => rfl) fun _ _ _ _ => rfl,
     rowCompletes_of_width opRemn_eq rfl (fun _ _ _ _ => rfl) fun _ _ _ _ => rfl,
     rowCompletes_of_word opAnd_eq rfl fun _ _ _ _ => rfl,
     rowCompletes_of_word opOr_eq rfl fun _ _ _ _ => rfl,
     rowCompletes_of_word opXor_eq rfl fun _ _ _ _ => rfl,
     rowCompletes_of_word opAndn_eq rfl fun _ _ _ _ => rfl,
     rowCompletes_of_word opOrn_eq rfl fun _ _ _ _ => rfl,
     rowCompletes_of_width opSll_eq rfl (fun _ _ _ _ => rfl) fun _ _ _ _ => rfl,
     rowCompletes_of_width opSrl_eq rfl (fun _ _ _ _ => rfl) fun _ _ _ _ => rfl,
     rowCompletes_of_width opSra_eq rfl (fun _ _ _ _ => rfl) fun _ _ _ _ => rfl,
     rowCompletes_of_width opRor_eq rfl (fun _ _ _ _ => rfl) fun _ _ _ _ => rfl,
     rowCompletes_of_width opMin_eq rfl (fun _ _ _ _ => rfl) fun _ _ _ _ => rfl,
     rowCompletes_of_width opMax_eq rfl (fun _ _ _ _ => rfl) fun _ _ _ _ => rfl,
     rowCompletes_of_width opMinn_eq rfl (fun _ _ _ _ => rfl) fun _ _ _ _ => rfl,
     rowCompletes_of_width opMaxn_eq rfl (fun _ _ _ _ => rfl) fun _ _ _ _ => rfl,
     rowCompletes_of_width opSlt_eq rfl (fun _ _ _ _ => rfl) fun _ _ _ _ => rfl,
     rowCompletes_of_width opSltn_eq rfl (fun _ _ _ _ => rfl) fun _ _ _ _ => rfl,
     by simp⟩

/-- Settles O1: every entry of `aluForms` is the 64-bit or the .W form of a row of Table 7.1, and every row completes. -/
theorem integerRegisterResult : Obligations.IntegerRegisterResult := by
  unfold Obligations.IntegerRegisterResult
  intro f hf
  obtain h64 | hW := List.mem_append.1 hf
  · obtain ⟨r, hr, rfl⟩ := List.mem_map.1 h64
    exact (rowCompletes_of_mem_table71 r hr).1
  · obtain ⟨r, hr, hro⟩ := List.mem_filterMap.1 hW
    obtain ⟨o, ho, rfl⟩ := Option.map_eq_some_iff.1 hro
    exact (rowCompletes_of_mem_table71 r hr).2 o ho

/-! ## Numbers made of bits -/

section Bits

variable (n : Nat) (f : Nat → Bool)

theorem ofBits_succ : ofBits (n + 1) f = (if f n then 2 ^ n else 0) + ofBits n f := by
  rw [ofBits, List.sum_range_succ, Nat.add_comm, ofBits]

theorem ofBits_lt : ofBits n f < 2 ^ n := by
  induction n with
  | zero => simp [ofBits]
  | succ n ih =>
    rw [ofBits_succ]
    split <;> omega

theorem testBit_ofBits (i : Nat) : (ofBits n f).testBit i = (decide (i < n) && f i) := by
  induction n with
  | zero => simp [ofBits]
  | succ n ih =>
    have hor : 2 ^ n + ofBits n f = 2 ^ n ||| ofBits n f := by simpa using Nat.two_pow_add_eq_or_of_lt (ofBits_lt n f) 1
    rw [ofBits_succ]
    by_cases hi : i = n
    · subst hi
      cases hf : f i <;> simp [hor, ih]
    · have hlt : i < n + 1 ↔ i < n := by omega
      cases hf : f n <;> simp [hor, ih, hlt, Ne.symm hi]

theorem getLsbD_ofNat_ofBits (w i : Nat) : (BitVec.ofNat w (ofBits n f)).getLsbD i = (decide (i < w) && (decide (i < n) && f i)) := by
  rw [BitVec.getLsbD_ofNat, testBit_ofBits]

end Bits

/-! ## Predicates and SEL -/

theorem holds_eq_condVal (c : Cond) (x y : Word) : c.holds x y = condVal c x y := by
  cases c with
  | eq => simp only [Cond.holds, condVal, ← BitVec.toNat_eq, beq_eq_decide]
  | ne => simp only [Cond.holds, condVal, Ne, ← BitVec.toNat_eq, bne, beq_eq_decide, decide_not]
  | lt | ge | ltn | gen => rfl

theorem eval_eq_plogVal (o : PLogOp) (a b : Bool) : o.eval a b = plogVal o a b := by
  cases o <;> cases a <;> cases b <;> rfl

theorem ofInt_toInt_eq_signExtend (v : BitVec 12) : BitVec.ofInt 64 v.toInt = v.signExtend 64 := rfl

theorem predWord_setWidth_eq (t : Thread) :
    t.predWord.setWidth 64 = BitVec.ofNat 64 (ofBits 16 fun i => decide (i = 0) || t.p.getLsbD i) := by
  refine BitVec.eq_of_getLsbD_eq fun i hi => ?_
  rw [getLsbD_ofNat_ofBits, Thread.predWord, BitVec.getLsbD_setWidth, BitVec.getLsbD_or, BitVec.getLsbD_one]
  by_cases h : i < 16
  · simp [h, Bool.or_comm]
  · simp [h, show i ≠ 0 by omega, BitVec.getLsbD_of_ge _ _ (Nat.le_of_not_lt h)]

theorem setWidth_and_mask_eq (x : Word) :
    x.setWidth 16 &&& 0xFFFE#16 = BitVec.ofNat 16 (ofBits 16 fun i => decide (i ≠ 0) && x.getLsbD i) := by
  have hmask : ∀ i < 16, (0xFFFE#16).getLsbD i = decide (i ≠ 0) := by decide
  refine BitVec.eq_of_getLsbD_eq fun i hi => ?_
  rw [getLsbD_ofNat_ofBits, BitVec.getLsbD_and, hmask i hi]
  simp [hi, Bool.and_comm]

section Predicates

variable {p : Fin 16} {d a b : Fin 32} {c : Cond} {s s1 s2 : State} {x y : Word}

theorem exec_pcmp (ho : open_ s (.pcmp p a b c)) (ha : s.readG s.who a = .ok (x, s1)) (hb : s1.readG s.who b = .ok (y, s2)) :
    exec (.pcmp p a b c) s = .next ((s2.writeP s.who p (condVal c x y)).retire s.who (.pcmp p a b c)) := by
  have hops : s.chkOps s.who (.pcmp p a b c) = .ok () := ho
  change execPcmp p a b c s = _
  simp [execPcmp, issue_base, hops, State.read2, ha, hb, holds_eq_condVal, bind, Except.bind]

theorem exec_pcmpi {v : BitVec 12} (ho : open_ s (.pcmpi p a c v)) (ha : s.readG s.who a = .ok (x, s1)) :
    exec (.pcmpi p a c v) s =
      .next ((s1.writeP s.who p (condVal c x (BitVec.ofInt 64 v.toInt))).retire s.who (.pcmpi p a c v)) := by
  have hops : s.chkOps s.who (.pcmpi p a c v) = .ok () := ho
  change execPcmpi p a c v s = _
  simp [execPcmpi, issue_base, hops, ha, holds_eq_condVal, ofInt_toInt_eq_signExtend, bind, Except.bind]

theorem exec_plog (d a b : Fin 16) (o : PLogOp) (s : State) :
    exec (.plog d a b o) s =
      .next ((s.writeP s.who d (plogVal o (s.readP s.who a) (s.readP s.who b))).retire s.who (.plog d a b o)) := by
  change execPlog d a b o s = _
  simp only [execPlog, issue_base, finish_ok, eval_eq_plogVal]

theorem exec_ptog (ho : open_ s (.ptog d)) (hd : s.chkDst s.who d = .ok ()) :
    exec (.ptog d) s =
      .next ((s.writeG s.who d (BitVec.ofNat 64 (ofBits 16 fun i => decide (i = 0) || (s.th s.who).p.getLsbD i))).retire s.who (.ptog d)) := by
  rw [← predWord_setWidth_eq]
  exact alu0_next (f := fun t => t.predWord.setWidth 64) ho hd

theorem exec_gtop (ho : open_ s (.gtop a)) (ha : s.readG s.who a = .ok (x, s1)) :
    exec (.gtop a) s =
      .next ((s1.updTh s.who fun t => { t with p := BitVec.ofNat 16 (ofBits 16 fun i => decide (i ≠ 0) && x.getLsbD i) }).retire
        s.who (.gtop a)) := by
  have hops : s.chkOps s.who (.gtop a) = .ok () := ho
  rw [← setWidth_and_mask_eq]
  change execGtop a s = _
  simp [execGtop, issue_base, hops, ha, bind, Except.bind]

theorem exec_sel {n : Fin 16} (ho : open_ s (.sel d a b n)) (ha : s.readG s.who a = .ok (x, s1)) (hb : s1.readG s.who b = .ok (y, s2))
    (hd : s2.chkDst s.who d = .ok ()) :
    exec (.sel d a b n) s = .next ((s2.writeG s.who d (if s.readP s.who n then x else y)).retire s.who (.sel d a b n)) :=
  alu_next (var := false) (f := fun x y => if s.readP s.who n then x else y) ho ha hb hd

end Predicates

theorem encode_sel (d a b : Fin 32) (n : Fin 16) :
    encode (.sel d a b n) = 0x0B * 2 ^ 25 + d.val * 2 ^ 20 + a.val * 2 ^ 15 + b.val * 2 ^ 10 + (0x020 + n.val) := by
  change 0x16000020 + d.val * 0x100000 + a.val * 0x8000 + b.val * 0x400 + n.val = _
  omega

/-- Settles O4, from what each predicate instruction and SEL leave and from SEL's word. -/
theorem predicateResult : Obligations.PredicateResult := by
  unfold Obligations.PredicateResult
  intro s
  exact ⟨fun _ _ _ _ _ _ _ _ => exec_pcmp, fun _ _ _ _ _ _ => exec_pcmpi, fun d a b o => exec_plog d a b o s, fun _ => exec_ptog,
    fun _ _ _ => exec_gtop, fun _ _ _ _ _ _ _ _ => exec_sel, encode_sel⟩

end Sys2Proof.Scalar

/-! # The rotation (R1, R4, R15) -/

namespace Sys2Proof.Rotation

open Sys2Proof.Machine Sys2Proof.Claims

/-- Two states with the same rotation and time base. -/
def SameClock (s t : State) : Prop := t.turn = s.turn ∧ t.gtime = s.gtime

theorem SameClock.inv {s t : State} (h : SameClock s t) (hs : s.Inv) : t.Inv := by
  unfold State.Inv
  rw [h.1, h.2]
  exact hs

theorem sameClock_released (s : State) : SameClock s s.released := by
  simp only [SameClock, State.released, and_self]

theorem sameClock_booted (s : State) : SameClock s s.booted := by
  simp only [SameClock, State.booted, and_self]

/-- A step of the boot takes no turn. -/
theorem sameClock_bootNext (s : State) : SameClock s s.bootNext := by
  have hgo (k : Nat) : SameClock s (State.bootNext.go s k) := by
    unfold State.bootNext.go
    by_cases h4 : k = 4
    · simpa only [SameClock, if_pos h4] using sameClock_released s
    · by_cases h5 : k = 5
      · simpa only [SameClock, if_neg h4, if_pos h5] using sameClock_booted s
      · simp only [SameClock, if_neg h4, if_neg h5, and_self]
  unfold State.bootNext
  split
  · next f _ =>
    by_cases hk : f.step % 8 = s.bootStep
    · simp only [SameClock, if_pos hk, and_self]
    · simpa only [if_neg hk] using hgo _
  · exact hgo _

/-- An event leaves the clock, or puts it back to its start where it takes or gives power (R364). -/
theorem clock_afterEvent (s t : State) :
    (t.powered = s.powered → SameClock s (s.afterEvent t)) ∧ (SameClock s (s.afterEvent t) ∨ (s.afterEvent t).Inv) := by
  unfold State.afterEvent
  split
  · exact ⟨fun _ => ⟨rfl, rfl⟩, .inl ⟨rfl, rfl⟩⟩
  · next h => exact ⟨fun hp => absurd hp.symm h, .inr ⟨Nat.zero_lt_succ _, Nat.two_pow_pos 64⟩⟩

theorem eventStep_cases {s s' : State} {e : Event} (h : s.eventStep e = .next s') : ∃ t, exec e.row s = .next t ∧ s' = s.afterEvent t := by
  unfold State.eventStep at h
  split at h
  · next t ht => exact ⟨t, ht, by simpa using h.symm⟩
  · next hne => exact absurd h (hne s')

theorem turnStep_cases {s s' : State} (h : s.turnStep = .next s') : ∃ t, s' = s.advanceTurn t := by
  unfold State.turnStep at h
  split at h
  · next t _ => exact ⟨t, by simpa using h.symm⟩
  · next hne => exact absurd h (hne s')

theorem advanceTurn_of_lt {s : State} (t : State) (h : s.turn < 1535) :
    (s.advanceTurn t).turn = s.turn + 1 ∧ (s.advanceTurn t).gtime = s.gtime := by
  simp [State.advanceTurn, h]

theorem advanceTurn_of_not_lt {s : State} (t : State) (h : ¬ s.turn < 1535) :
    (s.advanceTurn t).turn = 0 ∧ (s.advanceTurn t).gtime = (s.gtime + 1) % 2 ^ 64 := by
  simp [State.advanceTurn, h]

theorem inv_advanceTurn {s : State} (t : State) (h : s.Inv) : (s.advanceTurn t).Inv := by
  obtain ⟨hturn, hgtime⟩ := h
  unfold State.Inv
  by_cases hlt : s.turn < 1535
  · rw [(advanceTurn_of_lt t hlt).1, (advanceTurn_of_lt t hlt).2]
    omega
  · rw [(advanceTurn_of_not_lt t hlt).1, (advanceTurn_of_not_lt t hlt).2]
    omega

theorem inv_eventStep {s s' : State} {e : Event} (hs : s.Inv) (h : s.eventStep e = .next s') : s'.Inv := by
  obtain ⟨t, -, rfl⟩ := eventStep_cases h
  exact (clock_afterEvent s t).2.elim (·.inv hs) id

theorem step_event {s : State} {e : Event} {rest : List Event} (h : s.agenda = e :: rest) : step s = s.eventStep e := by
  simp [step, h]

/-- A booted package without an event in transit gives the slot its turn. -/
theorem step_atTurn {s : State} (h : atTurn s) : step s = s.turnStep := by
  obtain ⟨hagenda, ⟨hpow, hboot, hfail⟩, hturn⟩ := h
  have hne : s.regs.bootst ≠ 0 := fun h0 => by simp [h0] at hboot
  have hready : s.ready? = true := by simp [State.ready?, bits, hpow, hboot, -BitVec.getLsbD_eq_getElem, hfail]
  simp only [step, hagenda, hpow, hready]
  rw [if_neg (by decide), if_neg hne, if_neg (by simp), if_neg (by simp), if_neg (Nat.not_le.mpr hturn)]

theorem step_keeps_inv {s s' : State} (hs : s.Inv) (h : step s = .next s') : s'.Inv := by
  unfold step at h
  split at h
  · exact inv_eventStep hs h
  · split_ifs at h
    · obtain rfl : s = s' := by simpa using h
      exact hs
    · exact inv_eventStep (s := { s with agenda := [.powerOn Config.bootOutcome] }) hs h
    · obtain rfl : s.bootNext = s' := by simpa using h
      exact (sameClock_bootNext s).inv hs
    · obtain rfl : s = s' := by simpa using h
      exact hs
    · obtain ⟨t, rfl⟩ := turnStep_cases h
      exact inv_advanceTurn t hs

/-- Settles O53: an event keeps the clock or resets it, and a turn advances it. -/
theorem stepKeepsRotation : Obligations.StepKeepsRotation := by
  unfold Obligations.StepKeepsRotation
  refine ⟨fun s s' => step_keeps_inv, fun s s' hs h => ?_, fun s s' e rest he h hp => ?_⟩
  · rw [step_atTurn hs] at h
    obtain ⟨t, rfl⟩ := turnStep_cases h
    refine ⟨advanceTurn_of_lt t, fun h => advanceTurn_of_not_lt t (by omega), rfl, ?_⟩
    simp [State.who]
  · rw [step_event he] at h
    obtain ⟨t, -, rfl⟩ := eventStep_cases h
    refine (clock_afterEvent s t).1 ?_
    have hkeep : (s.afterEvent t).powered = t.powered := by
      unfold State.afterEvent
      split <;> rfl
    rw [← hkeep, hp]

end Sys2Proof.Rotation

namespace Sys2Proof.Encoding
open Sys2Proof

/-- What an operand adds to its instruction's word at bit `p`. -/
def term (v p : Nat) : Nat :=
  match p with
  | 0 => v
  | p + 1 => v * 2 ^ (p + 1)

/-- The word of a constant and operands, each at its slot (the first bit and the width of its field): the shape of every case of
`encode` but the tile commands'. -/
def word (c : Nat) : List (Nat × Nat) → List Nat → Nat
  | x :: xs, v :: vs => word (c + term v x.1) xs vs
  | _, _ => c

/-- No slot meets `n` bits from bit `lo` up. -/
def apart (lo n : Nat) (xs : List (Nat × Nat)) : Bool := xs.all fun x => decide (x.1 + x.2 ≤ lo) || decide (lo + n ≤ x.1)

/-- The constant is zero in every slot, and no two slots share a bit. -/
def clear (c : Nat) : List (Nat × Nat) → Bool
  | [] => true
  | x :: xs => fld c x.1 x.2 == 0 && apart x.1 x.2 xs && clear c xs

/-- Every slot of a word holds its operand's value. -/
def filled (w : Nat) : List (Nat × Nat) → List Nat → Prop
  | (p, k) :: xs, v :: vs => fld w p k = v ∧ filled w xs vs
  | _, _ => True

/-- Every operand's value fits its slot. -/
def fits : List (Nat × Nat) → List Nat → Prop
  | (_, k) :: xs, v :: vs => v < 2 ^ k ∧ fits xs vs
  | _, _ => True

theorem term_eq (v p : Nat) : term v p = v * 2 ^ p := by
  cases p with
  | zero => exact (Nat.mul_one v).symm
  | succ p => rfl

theorem fld_add_mul_self {c v p k : Nat} (hc : fld c p k = 0) (hv : v < 2 ^ k) : fld (c + v * 2 ^ p) p k = v := by
  have hdiv : (c + v * 2 ^ p) / 2 ^ p = c / 2 ^ p + v := Nat.add_mul_div_right _ _ (Nat.two_pow_pos p)
  rw [fld, hdiv, Nat.add_mod, show c / 2 ^ p % 2 ^ k = 0 from hc, Nat.zero_add, Nat.mod_mod, Nat.mod_eq_of_lt hv]

theorem fld_add_mul_low {c v p lo n : Nat} (h : lo + n ≤ p) : fld (c + v * 2 ^ p) lo n = fld c lo n := by
  obtain ⟨j, rfl⟩ := Nat.exists_eq_add_of_le h
  rw [fld, show c + v * 2 ^ (lo + n + j) = c + 2 ^ lo * (2 ^ n * (v * 2 ^ j)) by rw [pow_add, pow_add]; ring,
    Nat.add_mul_div_left _ _ (Nat.two_pow_pos lo), Nat.add_mul_mod_self_left, fld]

theorem fld_add_mul_high {c v p k lo n : Nat} (hc : fld c p k = 0) (hv : v < 2 ^ k) (h : p + k ≤ lo) :
    fld (c + v * 2 ^ p) lo n = fld c lo n := by
  obtain ⟨j, rfl⟩ := Nat.exists_eq_add_of_le h
  have hdiv : (c / 2 ^ p + v) / 2 ^ k = c / 2 ^ p / 2 ^ k := by
    rw [← Nat.div_add_mod (c / 2 ^ p) (2 ^ k), show c / 2 ^ p % 2 ^ k = 0 from hc, Nat.add_zero, Nat.mul_add_div (Nat.two_pow_pos k),
      Nat.div_eq_of_lt hv, Nat.mul_div_cancel_left _ (Nat.two_pow_pos k), Nat.add_zero]
  unfold fld
  rw [pow_add, pow_add, ← Nat.div_div_eq_div_mul, ← Nat.div_div_eq_div_mul, Nat.add_mul_div_right _ _ (Nat.two_pow_pos p), hdiv,
    Nat.div_div_eq_div_mul, Nat.div_div_eq_div_mul, Nat.mul_assoc]

/-- A field that the operand does not meet is as the rest of the word has it. -/
theorem fld_add_term {c v p k lo n : Nat} (hc : fld c p k = 0) (hv : v < 2 ^ k) (h : p + k ≤ lo ∨ lo + n ≤ p) :
    fld (c + term v p) lo n = fld c lo n := by
  rw [term_eq]
  exact h.elim (fld_add_mul_high hc hv) fld_add_mul_low

theorem apart_cons {lo n : Nat} {x : Nat × Nat} {xs : List (Nat × Nat)} :
    apart lo n (x :: xs) = true ↔ (x.1 + x.2 ≤ lo ∨ lo + n ≤ x.1) ∧ apart lo n xs = true := by simp [apart]

theorem clear_cons {c : Nat} {x : Nat × Nat} {xs : List (Nat × Nat)} :
    clear c (x :: xs) = true ↔ fld c x.1 x.2 = 0 ∧ apart x.1 x.2 xs = true ∧ clear c xs = true := by simp [clear, and_assoc]

theorem clear_add_term {c v p k : Nat} (hc : fld c p k = 0) (hv : v < 2 ^ k) :
    ∀ {xs : List (Nat × Nat)}, apart p k xs = true → clear c xs = true → clear (c + term v p) xs = true
  | [], _, _ => rfl
  | y :: ys, ha, h => by
    obtain ⟨hy, hys⟩ := apart_cons.1 ha
    obtain ⟨hcy, hay, h⟩ := clear_cons.1 h
    exact clear_cons.2 ⟨(fld_add_term hc hv hy.symm).trans hcy, hay, clear_add_term hc hv hys h⟩

/-- The fields of a word: one that no slot meets is the constant's, and a slot's is its operand's value. -/
theorem fields {w : Nat} : ∀ {c : Nat} (xs : List (Nat × Nat)) (vs : List Nat), word c xs vs = w → xs.length = vs.length →
    clear c xs = true → fits xs vs → (∀ lo n, apart lo n xs = true → fld w lo n = c / 2 ^ lo % 2 ^ n) ∧ filled w xs vs
  | c, [], [], hw, _, _, _ => ⟨fun _ _ _ => hw ▸ rfl, trivial⟩
  | c, x :: xs, v :: vs, hw, hlen, hc, hx => by
    obtain ⟨hcx, hax, hc⟩ := clear_cons.1 hc
    obtain ⟨hx, hxs⟩ := hx
    obtain ⟨hout, hin⟩ := fields xs vs hw (Nat.succ.inj hlen) (clear_add_term hcx hx hax hc) hxs
    refine ⟨fun lo n h => ?_, ?_, hin⟩
    · obtain ⟨h, h'⟩ := apart_cons.1 h
      exact (hout lo n h').trans (fld_add_term hcx hx h)
    · exact (hout _ _ hax).trans (term_eq v x.1 ▸ fld_add_mul_self hcx hx)

end Sys2Proof.Encoding

namespace Sys2Proof.Encoding
open Sys2Proof

theorem fin_eq_iff (k : Nat) {w lo n : Nat} [NeZero n] {d : Fin n} (h : 2 ^ k = n) : fin w lo n = d ↔ fld w lo k = d.val := by
  rw [Fin.ext_iff, fld, h]; rfl

theorem imm_eq_iff {w lo n : Nat} {d : BitVec n} : imm w lo n = d ↔ fld w lo n = d.toNat := by
  rw [← BitVec.toNat_inj]; rfl

theorem fld_eq_low_add (w lo m n : Nat) : fld w lo (m + n) = fld w lo m + 2 ^ m * fld w (lo + m) n := by
  simp only [fld, pow_add, ← Nat.div_div_eq_div_mul]
  exact Nat.mod_mul

theorem fld_eq_high_add (w lo m n : Nat) : fld w lo (m + n) = 2 ^ m * fld w (lo + m) n + fld w lo m := by
  rw [fld_eq_low_add, Nat.add_comm]

/-- A word whose constant and slots keep within 32 bits does too. -/
theorem lt_of_fields {c w : Nat} {xs : List (Nat × Nat)} (hK : ∀ lo n, apart lo n xs = true → fld w lo n = c / 2 ^ lo % 2 ^ n)
    (hxs : apart 32 w xs = true) (hc : c / 2 ^ 32 = 0) : w < 2 ^ 32 := by
  have h : w / 2 ^ 32 % 2 ^ w = 0 := by rw [← fld, hK 32 w hxs, hc, Nat.zero_mod]
  rw [Nat.mod_eq_of_lt (lt_of_le_of_lt (Nat.div_le_self _ _) Nat.lt_two_pow_self)] at h
  omega

@[simp] theorem cond_ofCode_code (c : Cond) : Cond.ofCode c.code = some c := by cases c <;> rfl

@[simp] theorem vCond_ofCode_code (c : VCond) : VCond.ofCode c.code = some c := by cases c <;> rfl

@[simp] theorem pLogOp_ofCode_code (c : PLogOp) : PLogOp.ofCode c.code = some c := by cases c <;> rfl

@[simp] theorem mLogOp_ofCode_code (c : MLogOp) : MLogOp.ofCode c.code = some c := by cases c <;> rfl

@[simp] theorem sz_ofCode_code (c : Sz) : Sz.ofCode c.code = some c := by cases c <;> rfl

@[simp] theorem szN_ofCode_code (c : SzN) : SzN.ofCode c.code = some c := by cases c <;> rfl

@[simp] theorem eType_ofCode_code (c : EType) : EType.ofCode c.code = some c := by cases c <;> rfl

@[simp] theorem eType2_ofCode_code (c : EType2) : EType2.ofCode c.code = some c := by cases c <;> rfl

@[simp] theorem rm_ofCode_code (c : Rm) : Rm.ofCode c.code = some c := by cases c <;> rfl

@[simp] theorem scope_ofCode_code (c : Scope) : Scope.ofCode c.code = some c := by cases c <;> rfl

@[simp] theorem esumT_ofCode_code (c : EsumT) : EsumT.ofCode c.code = some c := by cases c <;> rfl

@[simp] theorem szX_ofCode_code (c : SzX) : SzX.ofCode c.code = some c := by rcases c with c | c <;> cases c <;> rfl

@[simp] theorem trigK_ofCode_code (c : TrigK) : TrigK.ofCode c.code = some c := by cases c <;> rfl

@[simp] theorem szA_ofCode_code_sub (c : SzA) : SzA.ofCode (c.code - 2 + 2) = some c := by cases c <;> rfl

@[simp] theorem cond_code_lt (c : Cond) : c.code < 8 := by cases c <;> decide

@[simp] theorem vCond_code_lt (c : VCond) : c.code < 8 := by cases c <;> decide

@[simp] theorem pLogOp_code_lt (c : PLogOp) : c.code < 8 := by cases c <;> decide

@[simp] theorem mLogOp_code_lt (c : MLogOp) : c.code < 4 := by cases c <;> decide

@[simp] theorem sz_code_lt (c : Sz) : c.code < 4 := by cases c <;> decide

@[simp] theorem szN_code_lt (c : SzN) : c.code < 4 := by cases c <;> decide

@[simp] theorem eType_code_lt (c : EType) : c.code < 8 := by cases c <;> decide

@[simp] theorem eType2_code_le (c : EType2) : c.code ≤ 1 := by cases c <;> decide

@[simp] theorem rm_code_lt (c : Rm) : c.code < 4 := by cases c <;> decide

@[simp] theorem scope_code_lt (c : Scope) : c.code < 8 := by cases c <;> decide

@[simp] theorem esumT_code_lt (c : EsumT) : c.code < 4 := by cases c <;> decide

@[simp] theorem szX_code_lt (c : SzX) : c.code < 8 := by rcases c with c | c <;> cases c <;> decide

@[simp] theorem trigK_code_lt (c : TrigK) : c.code < 4 := by cases c <;> decide

@[simp] theorem szA_code_le (c : SzA) : c.code ≤ 3 := by cases c <;> decide

/-- The instructions whose major opcode is 0x45 or above, but the tile commands: vector functions and memory, shape records and circular buffers. -/
def upper : Instr → Bool
  | .qfree .. | .vsetvl .. | .vldx .. | .vstx .. | .vdiv .. | .vsqrt .. | .vexp .. | .vlog .. | .vrcp .. | .vrsq .. | .vtanh .. | .vld ..
  | .vst .. | .vpoly .. | .vscl .. | .vmmb .. | .vcoef .. | .vlds .. | .vsts .. | .vldq .. | .vstq .. | .vredq .. | .vqnt .. | .vdqnt ..
  | .vlgl .. | .shset .. | .shget .. | .shadv .. | .shrst .. | .cbset .. | .cbwe .. | .cbpa .. | .cbca .. | .cbwf .. | .cbeos ..
  | .qbindPop .. | .qbindPush .. => true
  | _ => false

theorem decodeRaw_encode_upper {w : Nat} {i : Instr} (hi : upper i = true) (hw : encode i = w) : w < 2 ^ 32 ∧ decodeRaw w = some i := by
  cases i with
  | qfree d =>
    obtain ⟨hK, hd, -⟩ := fields [(20, 5)] [d.val] hw rfl rfl (by simp [fits])
    refine ⟨lt_of_fields hK rfl rfl, ?_⟩
    simp [decodeRaw, decode72, hK 25 7 rfl, hK 5 5 rfl, hK 10 5 rfl, hK 15 5 rfl, hK 14 1 rfl, hK 0 10 rfl, hd, fin_eq_iff 5]
  | vsetvl d a e =>
    obtain ⟨hK, hd, ha, he, -⟩ := fields [(20, 5), (15, 5), (0, 3)] [d.val, a.val, e.code] hw rfl rfl (by simp [fits])
    refine ⟨lt_of_fields hK rfl rfl, ?_⟩
    simp [decodeRaw, decode70, hK 25 7 rfl, hK 3 7 rfl, hK 10 5 rfl, hd, ha, he, fin_eq_iff 5]
  | vldx d g b m e | vstx d g b m e =>
    obtain ⟨hK, hd, hg, hb, hm, he, -⟩ := fields [(21, 4), (17, 4), (13, 4), (10, 3), (7, 3)] [d.val, g.val, b.val, m.val, e.code] hw
      rfl rfl (by simp [fits])
    refine ⟨lt_of_fields hK rfl rfl, ?_⟩
    simp [decodeRaw, decode46, hK 25 7 rfl, hK 0 7 rfl, hd, hg, hb, hm, he, fin_eq_iff 3, fin_eq_iff 4]
  | vdiv d a b m e r =>
    obtain ⟨hK, hd, ha, hb, hm, he, hr, -⟩ := fields [(21, 4), (17, 4), (13, 4), (10, 3), (7, 1), (5, 2)] [d.val, a.val, b.val, m.val,
      e.code, r.code] hw rfl rfl (by simp [fits])
    refine ⟨lt_of_fields hK rfl rfl, ?_⟩
    simp [decodeRaw, decode60, hK 25 7 rfl, hK 0 5 rfl, hK 8 2 rfl, hd, ha, hb, hm, he, hr, fin_eq_iff 3, fin_eq_iff 4]
  | vsqrt d a m e r | vexp d a m e r | vlog d a m e r | vrcp d a m e r | vrsq d a m e r | vtanh d a m e r =>
    obtain ⟨hK, hd, ha, hm, he, hr, -⟩ := fields [(21, 4), (17, 4), (10, 3), (7, 1), (5, 2)] [d.val, a.val, m.val, e.code, r.code] hw
      rfl rfl (by simp [fits])
    refine ⟨lt_of_fields hK rfl rfl, ?_⟩
    simp [decodeRaw, decode60, hK 25 7 rfl, hK 0 5 rfl, hK 8 2 rfl, hK 13 4 rfl, hd, ha, hm, he, hr, fin_eq_iff 3, fin_eq_iff 4]
  | vld d g m e | vst d g m e =>
    obtain ⟨hK, hd, hg, hm, he, -⟩ := fields [(21, 4), (17, 4), (10, 3), (7, 3)] [d.val, g.val, m.val, e.code] hw rfl rfl
      (by simp [fits])
    refine ⟨lt_of_fields hK rfl rfl, ?_⟩
    simp [decodeRaw, decode46, hK 25 7 rfl, hK 0 7 rfl, hK 13 4 rfl, hd, hg, hm, he, fin_eq_iff 3, fin_eq_iff 4]
  | vpoly d a b e | vscl d a b e | vmmb d a b e =>
    obtain ⟨hK, hd, ha, hb, he, -⟩ := fields [(21, 4), (17, 4), (13, 4), (7, 3)] [d.val, a.val, b.val, e.code] hw rfl rfl
      (by simp [fits])
    refine ⟨lt_of_fields hK rfl rfl, ?_⟩
    simp [decodeRaw, decode45, decode68, decode69, hK 25 7 rfl, hK 0 7 rfl, hK 10 3 rfl, hd, ha, hb, he, fin_eq_iff 4]
  | vcoef g =>
    obtain ⟨hK, hg, -⟩ := fields [(17, 4)] [g.val] hw rfl rfl (by simp [fits])
    refine ⟨lt_of_fields hK rfl rfl, ?_⟩
    simp [decodeRaw, decode45, hK 25 7 rfl, hK 0 7 rfl, hK 10 3 rfl, hK 7 3 rfl, hK 13 4 rfl, hK 21 4 rfl, hg, fin_eq_iff 4]
  | vlds d s m e | vsts d s m e =>
    obtain ⟨hK, hd, hs, hm, he, -⟩ := fields [(21, 4), (17, 3), (10, 3), (7, 3)] [d.val, s.val, m.val, e.code] hw rfl rfl
      (by simp [fits])
    refine ⟨lt_of_fields hK rfl rfl, ?_⟩
    simp [decodeRaw, decode46, hK 25 7 rfl, hK 0 7 rfl, hK 13 4 rfl, hK 20 1 rfl, hd, hs, hm, he, fin_eq_iff 3, fin_eq_iff 4]
  | vldq d c e | vstq d c e | vredq d c e =>
    obtain ⟨hK, hd, hc, he, -⟩ := fields [(21, 4), (16, 5), (7, 3)] [d.val, c.val, e.code] hw rfl rfl (by simp [fits])
    refine ⟨lt_of_fields hK rfl rfl, ?_⟩
    simp [decodeRaw, decode46, hK 25 7 rfl, hK 0 7 rfl, hK 10 3 rfl, hK 13 3 rfl, hd, hc, he, fin_eq_iff 4, fin_eq_iff 5]
  | vqnt d a n e | vdqnt d a n e =>
    obtain ⟨hK, hd, ha, hn, he, -⟩ := fields [(21, 4), (17, 4), (13, 2), (7, 3)] [d.val, a.val, n.val, e.code] hw rfl rfl
      (by simp [fits])
    refine ⟨lt_of_fields hK rfl rfl, ?_⟩
    simp [decodeRaw, decode68, hK 25 7 rfl, hK 0 7 rfl, hK 10 3 rfl, hK 15 2 rfl, hd, ha, hn, he, fin_eq_iff 2, fin_eq_iff 4]
  | vlgl g b =>
    obtain ⟨hK, hg, hb, -⟩ := fields [(21, 4), (13, 4)] [g.val, b.val] hw rfl rfl (by simp [fits])
    refine ⟨lt_of_fields hK rfl rfl, ?_⟩
    simp [decodeRaw, decode69, hK 25 7 rfl, hK 0 7 rfl, hK 10 3 rfl, hK 7 3 rfl, hK 17 4 rfl, hg, hb, fin_eq_iff 4]
  | shset a n | shget a n | shadv a n =>
    obtain ⟨hK, ha, hn, -⟩ := fields [(15, 5), (0, 3)] [a.val, n.val] hw rfl rfl (by simp [fits])
    refine ⟨lt_of_fields hK rfl rfl, ?_⟩
    simp [decodeRaw, decode71, hK 25 7 rfl, hK 3 7 rfl, hK 10 5 rfl, hK 20 5 rfl, ha, hn, fin_eq_iff 3, fin_eq_iff 5]
  | shrst n =>
    obtain ⟨hK, hn, -⟩ := fields [(0, 3)] [n.val] hw rfl rfl (by simp [fits])
    refine ⟨lt_of_fields hK rfl rfl, ?_⟩
    simp [decodeRaw, decode71, hK 25 7 rfl, hK 3 7 rfl, hK 10 5 rfl, hK 20 5 rfl, hK 15 5 rfl, hn, fin_eq_iff 3]
  | cbset a n | cbwe a n | cbpa a n | cbca a n =>
    obtain ⟨hK, ha, hn, -⟩ := fields [(15, 5), (0, 5)] [a.val, n.val] hw rfl rfl (by simp [fits])
    refine ⟨lt_of_fields hK rfl rfl, ?_⟩
    simp [decodeRaw, decode72, hK 25 7 rfl, hK 5 5 rfl, hK 10 5 rfl, hK 20 5 rfl, hK 24 1 rfl, ha, hn, fin_eq_iff 5]
  | cbwf p a n =>
    obtain ⟨hK, hp, ha, hn, -⟩ := fields [(20, 4), (15, 5), (0, 5)] [p.val, a.val, n.val] hw rfl rfl (by simp [fits])
    refine ⟨lt_of_fields hK rfl rfl, ?_⟩
    simp [decodeRaw, decode72, hK 25 7 rfl, hK 5 5 rfl, hK 10 5 rfl, hK 24 1 rfl, hp, ha, hn, fin_eq_iff 4, fin_eq_iff 5]
  | cbeos n =>
    obtain ⟨hK, hn, -⟩ := fields [(0, 5)] [n.val] hw rfl rfl (by simp [fits])
    refine ⟨lt_of_fields hK rfl rfl, ?_⟩
    simp [decodeRaw, decode72, hK 25 7 rfl, hK 5 5 rfl, hK 10 5 rfl, hK 20 5 rfl, hK 24 1 rfl, hK 15 5 rfl, hn, fin_eq_iff 5]
  | qbindPop d p n =>
    obtain ⟨hK, hd, hp, hn, -⟩ := fields [(20, 5), (10, 4), (0, 5)] [d.val, p.val, n.val] hw rfl rfl (by simp [fits])
    refine ⟨lt_of_fields hK rfl rfl, ?_⟩
    simp [decodeRaw, decode72, hK 25 7 rfl, hK 5 5 rfl, hK 15 5 rfl, hK 14 1 rfl, hd, hp, hn, fin_eq_iff 4, fin_eq_iff 5]
  | qbindPush d a p n =>
    obtain ⟨hK, hd, ha, hp, hn, -⟩ := fields [(20, 5), (15, 5), (10, 4), (0, 5)] [d.val, a.val, p.val, n.val] hw rfl rfl
      (by simp [fits])
    refine ⟨lt_of_fields hK rfl rfl, ?_⟩
    simp [decodeRaw, decode72, hK 25 7 rfl, hK 5 5 rfl, hK 14 1 rfl, hd, ha, hp, hn, fin_eq_iff 4, fin_eq_iff 5]
  | _ => nomatch hi

/-- The instructions whose major opcode is 0x40 to 0x44: vector arithmetic, masks and permutes. -/
def vectorial : Instr → Bool
  | .vadd .. | .vsub .. | .vmul .. | .vmin .. | .vmax .. | .vfma .. | .vfms .. | .vminN .. | .vmaxN .. | .vand .. | .vor .. | .vxor ..
  | .vsll .. | .vsrl .. | .vsra .. | .vsel .. | .vcompress .. | .vexpand .. | .vperm .. | .vslide .. | .vabs .. | .vneg .. | .vcmp ..
  | .vmlog .. | .vpopm .. | .vbcast .. | .vrsum .. | .vrmax .. | .vrmin .. | .vext .. | .vins .. | .vcvt .. => true
  | _ => false

theorem decodeRaw_encode_vectorial {w : Nat} {i : Instr} (hi : vectorial i = true) (hw : encode i = w) : w < 2 ^ 32 ∧ decodeRaw w = some i := by
  cases i with
  | vadd d a b m e r | vsub d a b m e r | vmul d a b m e r | vmin d a b m e r | vmax d a b m e r | vfma d a b m e r | vfms d a b m e r =>
    obtain ⟨hK, hd, ha, hb, hm, he, hr, -⟩ := fields [(21, 4), (17, 4), (13, 4), (10, 3), (7, 3), (5, 2)] [d.val, a.val, b.val, m.val,
      e.code, r.code] hw rfl rfl (by simp [fits])
    refine ⟨lt_of_fields hK rfl rfl, ?_⟩
    simp [decodeRaw, decode40, fld_eq_high_add w 0 5 2, hK 25 7 rfl, hK 0 5 rfl, hd, ha, hb, hm, he, hr, fin_eq_iff 3, fin_eq_iff 4]
  | vminN d a b m e | vmaxN d a b m e | vand d a b m e | vor d a b m e | vxor d a b m e | vsll d a b m e | vsrl d a b m e | vsra d a b m e
  | vsel d a b m e | vcompress d a b m e | vexpand d a b m e | vperm d a b m e | vslide d a b m e =>
    obtain ⟨hK, hd, ha, hb, hm, he, -⟩ := fields [(21, 4), (17, 4), (13, 4), (10, 3), (7, 3)] [d.val, a.val, b.val, m.val, e.code] hw
      rfl rfl (by simp [fits])
    refine ⟨lt_of_fields hK rfl rfl, ?_⟩
    simp [decodeRaw, decode40, decode41, decode42, hK 25 7 rfl, hK 0 5 rfl, hK 0 7 rfl, hK 3 4 rfl, hK 2 5 rfl, hd, ha, hb, hm, he,
      fin_eq_iff 3, fin_eq_iff 4]
  | vabs d a m e r | vneg d a m e r =>
    obtain ⟨hK, hd, ha, hm, he, hr, -⟩ := fields [(21, 4), (17, 4), (10, 3), (7, 3), (5, 2)] [d.val, a.val, m.val, e.code, r.code] hw
      rfl rfl (by simp [fits])
    refine ⟨lt_of_fields hK rfl rfl, ?_⟩
    simp [decodeRaw, decode40, fld_eq_high_add w 0 5 2, hK 25 7 rfl, hK 0 5 rfl, hK 13 4 rfl, hd, ha, hm, he, hr, fin_eq_iff 3,
      fin_eq_iff 4]
  | vcmp k a b m e c =>
    obtain ⟨hK, hk, ha, hb, hm, he, hc, -⟩ := fields [(21, 3), (17, 4), (13, 4), (10, 3), (7, 3), (0, 3)] [k.val, a.val, b.val, m.val,
      e.code, c.code] hw rfl rfl (by simp [fits])
    refine ⟨lt_of_fields hK rfl rfl, ?_⟩
    simp [decodeRaw, decode41, hK 25 7 rfl, hK 3 4 rfl, hK 24 1 rfl, hk, ha, hb, hm, he, hc, fin_eq_iff 3, fin_eq_iff 4]
  | vmlog k a b o =>
    obtain ⟨hK, hk, ha, hb, ho, -⟩ := fields [(21, 3), (17, 3), (13, 3), (0, 2)] [k.val, a.val, b.val, o.code] hw rfl rfl
      (by simp [fits])
    refine ⟨lt_of_fields hK rfl rfl, ?_⟩
    simp [decodeRaw, decode41, hK 25 7 rfl, hK 3 4 rfl, hK 24 1 rfl, hK 2 5 rfl, hK 7 3 rfl, hK 10 3 rfl, hK 16 1 rfl, hK 20 1 rfl, hk,
      ha, hb, ho, fin_eq_iff 3]
  | vpopm g k =>
    obtain ⟨hK, hg, hk, -⟩ := fields [(21, 4), (17, 3)] [g.val, k.val] hw rfl rfl (by simp [fits])
    refine ⟨lt_of_fields hK rfl rfl, ?_⟩
    simp [decodeRaw, decode41, hK 25 7 rfl, hK 3 4 rfl, hK 2 5 rfl, hK 7 3 rfl, hK 10 3 rfl, hK 16 1 rfl, hK 20 1 rfl, hK 0 7 rfl,
      hK 13 4 rfl, hg, hk, fin_eq_iff 3, fin_eq_iff 4]
  | vbcast d g m e | vrsum d g m e | vrmax d g m e | vrmin d g m e =>
    obtain ⟨hK, hd, hg, hm, he, -⟩ := fields [(21, 4), (17, 4), (10, 3), (7, 3)] [d.val, g.val, m.val, e.code] hw rfl rfl
      (by simp [fits])
    refine ⟨lt_of_fields hK rfl rfl, ?_⟩
    simp [decodeRaw, decode42, decode43, hK 25 7 rfl, hK 0 7 rfl, hK 13 4 rfl, hd, hg, hm, he, fin_eq_iff 3, fin_eq_iff 4]
  | vext g a h e | vins g a h e | vcvt g a h e =>
    obtain ⟨hK, hg, ha, hh, he, -⟩ := fields [(21, 4), (17, 4), (13, 4), (7, 3)] [g.val, a.val, h.val, e.code] hw rfl rfl
      (by simp [fits])
    refine ⟨lt_of_fields hK rfl rfl, ?_⟩
    simp [decodeRaw, decode42, decode44, hK 25 7 rfl, hK 0 7 rfl, hK 10 3 rfl, hg, ha, hh, he, fin_eq_iff 4]
  | _ => nomatch hi

/-- The instructions whose major opcode is below 0x20: arithmetic, control transfers, loads, stores and atomics. -/
def lower : Instr → Bool
  | .add .. | .sub .. | .mul .. | .mulh .. | .mulhn .. | .div .. | .divn .. | .rem .. | .remn .. | .and .. | .or .. | .xor .. | .andn ..
  | .orn .. | .sll .. | .srl .. | .sra .. | .ror .. | .min .. | .max .. | .minn .. | .maxn .. | .slt .. | .sltn .. | .addW .. | .subW ..
  | .mulW .. | .mulhW .. | .mulhnW .. | .divW .. | .divnW .. | .remW .. | .remnW .. | .sllW .. | .srlW .. | .sraW .. | .rorW .. | .minW ..
  | .maxW .. | .minnW .. | .maxnW .. | .sltW .. | .sltnW .. | .bfx .. | .bfxn .. | .bfi .. | .addi .. | .andi .. | .ori .. | .xori ..
  | .slti .. | .sltni .. | .beq .. | .bne .. | .blt .. | .bge .. | .bltn .. | .bgen .. | .slli .. | .srli .. | .srai .. | .rori ..
  | .slliW .. | .srliW .. | .sraiW .. | .roriW .. | .lui .. | .auipc .. | .jal .. | .clz .. | .ctz .. | .popc .. | .brev .. | .bswap ..
  | .jalr .. | .hltw .. | .publish .. | .hpack .. | .hparse .. | .pcmp .. | .pcmpi .. | .plog .. | .ptog .. | .gtop .. | .sel .. | .bp ..
  | .bnp .. | .ld .. | .st .. | .ldn .. | .ldx .. | .stx .. | .amoadd .. | .amoand .. | .amoor .. | .amoxor .. | .amomin .. | .amomax ..
  | .amoswp .. | .amocas .. | .fence .. => true
  | _ => false

theorem decodeRaw_encode_lower {w : Nat} {i : Instr} (hi : lower i = true) (hw : encode i = w) : w < 2 ^ 32 ∧ decodeRaw w = some i := by
  cases i with
  | add d a b | sub d a b | mul d a b | mulh d a b | mulhn d a b | div d a b | divn d a b | rem d a b | remn d a b | and d a b | or d a b
  | xor d a b | andn d a b | orn d a b | sll d a b | srl d a b | sra d a b | ror d a b | min d a b | max d a b | minn d a b | maxn d a b
  | slt d a b | sltn d a b | addW d a b | subW d a b | mulW d a b | mulhW d a b | mulhnW d a b | divW d a b | divnW d a b | remW d a b
  | remnW d a b | sllW d a b | srlW d a b | sraW d a b | rorW d a b | minW d a b | maxW d a b | minnW d a b | maxnW d a b | sltW d a b
  | sltnW d a b | bfx d a b | bfxn d a b | bfi d a b =>
    obtain ⟨hK, hd, ha, hb, -⟩ := fields [(20, 5), (15, 5), (10, 5)] [d.val, a.val, b.val] hw rfl rfl (by simp [fits])
    refine ⟨lt_of_fields hK rfl rfl, ?_⟩
    simp [decodeRaw, decode01, decode02, decode0F, hK 25 7 rfl, hK 0 10 rfl, hd, ha, hb, fin_eq_iff 5]
  | addi d a i | andi d a i | ori d a i | xori d a i | slti d a i | sltni d a i | beq d a i | bne d a i | blt d a i | bge d a i
  | bltn d a i | bgen d a i =>
    obtain ⟨hK, hd, ha, hi, -⟩ := fields [(20, 5), (15, 5), (0, 15)] [d.val, a.val, i.toNat] hw rfl rfl (by simp [fits]; omega)
    refine ⟨lt_of_fields hK rfl rfl, ?_⟩
    simp [decodeRaw, decode03, decode04, decode05, decode06, decode07, decode08, decode18, decode19, decode1A, decode1B, decode1C,
      decode1D, hK 25 7 rfl, hd, ha, hi, fin_eq_iff 5, imm_eq_iff]
  | slli d a n | srli d a n | srai d a n | rori d a n =>
    obtain ⟨hK, hd, ha, hn, -⟩ := fields [(20, 5), (15, 5), (0, 6)] [d.val, a.val, n.val] hw rfl rfl (by simp [fits])
    refine ⟨lt_of_fields hK rfl rfl, ?_⟩
    simp [decodeRaw, decode09, hK 25 7 rfl, hK 6 6 rfl, hK 12 3 rfl, hd, ha, hn, fin_eq_iff 5, fin_eq_iff 6]
  | slliW d a n | srliW d a n | sraiW d a n | roriW d a n =>
    obtain ⟨hK, hd, ha, hn, -⟩ := fields [(20, 5), (15, 5), (0, 5)] [d.val, a.val, n.val] hw rfl rfl (by simp [fits])
    refine ⟨lt_of_fields hK rfl rfl, ?_⟩
    simp [decodeRaw, decode09, hK 25 7 rfl, hK 6 6 rfl, hK 12 3 rfl, hK 5 1 rfl, hd, ha, hn, fin_eq_iff 5]
  | lui d i | auipc d i | jal d i =>
    obtain ⟨hK, hd, hi, -⟩ := fields [(20, 5), (0, 20)] [d.val, i.toNat] hw rfl rfl (by simp [fits]; omega)
    refine ⟨lt_of_fields hK rfl rfl, ?_⟩
    simp [decodeRaw, decode0D, decode0E, decode1F, hK 25 7 rfl, hd, hi, fin_eq_iff 5, imm_eq_iff]
  | clz d a | ctz d a | popc d a | brev d a | bswap d a | jalr d a =>
    obtain ⟨hK, hd, ha, -⟩ := fields [(20, 5), (15, 5)] [d.val, a.val] hw rfl rfl (by simp [fits])
    refine ⟨lt_of_fields hK rfl rfl, ?_⟩
    simp [decodeRaw, decode0B, decode0F, hK 25 7 rfl, hK 0 10 rfl, hK 10 5 rfl, hK 3 7 rfl, hK 14 1 rfl, hK 4 6 rfl, hd, ha,
      fin_eq_iff 5]
  | hltw a b | publish a b =>
    obtain ⟨hK, ha, hb, -⟩ := fields [(15, 5), (10, 5)] [a.val, b.val] hw rfl rfl (by simp [fits])
    refine ⟨lt_of_fields hK rfl rfl, ?_⟩
    simp [decodeRaw, decode0F, decode12, hK 25 7 rfl, hK 0 10 rfl, hK 20 5 rfl, hK 3 7 rfl, hK 2 8 rfl, ha, hb, fin_eq_iff 5]
  | hpack d a b n | hparse d a b n =>
    obtain ⟨hK, hd, ha, hb, hn, -⟩ := fields [(20, 5), (15, 5), (10, 5), (0, 3)] [d.val, a.val, b.val, n.val] hw rfl rfl
      (by simp [fits])
    refine ⟨lt_of_fields hK rfl rfl, ?_⟩
    simp [decodeRaw, decode0F, fld_eq_low_add w 0 3 7, hK 25 7 rfl, hK 3 7 rfl, hd, ha, hb, hn, fin_eq_iff 3, fin_eq_iff 5]
  | pcmp p a b c =>
    obtain ⟨hK, hp, ha, hb, hc, -⟩ := fields [(20, 4), (15, 5), (10, 5), (0, 3)] [p.val, a.val, b.val, c.code] hw rfl rfl
      (by simp [fits])
    refine ⟨lt_of_fields hK rfl rfl, ?_⟩
    simp [decodeRaw, decode0B, hK 25 7 rfl, hK 3 7 rfl, hK 24 1 rfl, hp, ha, hb, hc, fin_eq_iff 4, fin_eq_iff 5]
  | pcmpi p a c i =>
    obtain ⟨hK, hp, ha, hc, hi, -⟩ := fields [(20, 4), (15, 5), (12, 3), (0, 12)] [p.val, a.val, c.code, i.toNat] hw rfl rfl
      (by simp [fits]; omega)
    refine ⟨lt_of_fields hK rfl rfl, ?_⟩
    simp [decodeRaw, decode0A, hK 25 7 rfl, hK 24 1 rfl, hp, ha, hc, hi, fin_eq_iff 4, fin_eq_iff 5, imm_eq_iff]
  | plog d a b o =>
    obtain ⟨hK, hd, ha, hb, ho, -⟩ := fields [(20, 4), (15, 4), (10, 4), (0, 3)] [d.val, a.val, b.val, o.code] hw rfl rfl
      (by simp [fits])
    refine ⟨lt_of_fields hK rfl rfl, ?_⟩
    simp [decodeRaw, decode0B, hK 25 7 rfl, hK 3 7 rfl, hK 24 1 rfl, hK 14 1 rfl, hK 19 1 rfl, hd, ha, hb, ho, fin_eq_iff 4]
  | ptog d =>
    obtain ⟨hK, hd, -⟩ := fields [(20, 5)] [d.val] hw rfl rfl (by simp [fits])
    refine ⟨lt_of_fields hK rfl rfl, ?_⟩
    simp [decodeRaw, decode0B, hK 25 7 rfl, hK 3 7 rfl, hK 14 1 rfl, hK 19 1 rfl, hK 0 10 rfl, hK 10 5 rfl, hK 15 5 rfl, hd,
      fin_eq_iff 5]
  | gtop a =>
    obtain ⟨hK, ha, -⟩ := fields [(15, 5)] [a.val] hw rfl rfl (by simp [fits])
    refine ⟨lt_of_fields hK rfl rfl, ?_⟩
    simp [decodeRaw, decode0B, hK 25 7 rfl, hK 3 7 rfl, hK 24 1 rfl, hK 14 1 rfl, hK 0 10 rfl, hK 10 5 rfl, hK 20 5 rfl, ha,
      fin_eq_iff 5]
  | sel d a b n =>
    obtain ⟨hK, hd, ha, hb, hn, -⟩ := fields [(20, 5), (15, 5), (10, 5), (0, 4)] [d.val, a.val, b.val, n.val] hw rfl rfl
      (by simp [fits])
    refine ⟨lt_of_fields hK rfl rfl, ?_⟩
    simp [decodeRaw, decode0B, fld_eq_low_add w 3 1 6, fld_eq_low_add w 0 4 6, hK 25 7 rfl, hK 4 6 rfl, hd, ha, hb, hn, fin_eq_iff 4,
      fin_eq_iff 5]
  | bp p o | bnp p o =>
    obtain ⟨hK, hp, ho, -⟩ := fields [(20, 4), (0, 15)] [p.val, o.toNat] hw rfl rfl (by simp [fits]; omega)
    refine ⟨lt_of_fields hK rfl rfl, ?_⟩
    simp [decodeRaw, decode1E, hK 25 7 rfl, hK 15 5 rfl, hK 24 1 rfl, hp, ho, fin_eq_iff 4, imm_eq_iff]
  | ld d a s o | st d a s o =>
    obtain ⟨hK, hd, ha, hs, ho, -⟩ := fields [(20, 5), (15, 5), (12, 2), (0, 12)] [d.val, a.val, s.code, o.toNat] hw rfl rfl
      (by simp [fits]; omega)
    refine ⟨lt_of_fields hK rfl rfl, ?_⟩
    simp [decodeRaw, decode10, decode11, hK 25 7 rfl, hK 14 1 rfl, hd, ha, hs, ho, fin_eq_iff 5, imm_eq_iff]
  | ldn d a s o =>
    obtain ⟨hK, hd, ha, hs, ho, -⟩ := fields [(20, 5), (15, 5), (12, 2), (0, 12)] [d.val, a.val, s.code, o.toNat] hw rfl rfl
      (by simp [fits]; omega)
    refine ⟨lt_of_fields hK rfl rfl, ?_⟩
    simp [decodeRaw, decode10, hK 25 7 rfl, hK 14 1 rfl, hd, ha, hs, ho, fin_eq_iff 5, imm_eq_iff]
  | ldx d a b s =>
    obtain ⟨hK, hd, ha, hb, hs, -⟩ := fields [(20, 5), (15, 5), (10, 5), (0, 3)] [d.val, a.val, b.val, s.code] hw rfl rfl
      (by simp [fits])
    refine ⟨lt_of_fields hK rfl rfl, ?_⟩
    simp [decodeRaw, decode12, hK 25 7 rfl, hK 3 7 rfl, hd, ha, hb, hs, fin_eq_iff 5]
  | stx d a b s =>
    obtain ⟨hK, hd, ha, hb, hs, -⟩ := fields [(20, 5), (15, 5), (10, 5), (0, 2)] [d.val, a.val, b.val, s.code] hw rfl rfl
      (by simp [fits])
    refine ⟨lt_of_fields hK rfl rfl, ?_⟩
    simp [decodeRaw, decode12, hK 25 7 rfl, hK 3 7 rfl, hK 2 8 rfl, hd, ha, hb, hs, fin_eq_iff 5]
  | amoadd d a b s | amoand d a b s | amoor d a b s | amoxor d a b s | amomin d a b s | amomax d a b s | amoswp d a b s
  | amocas d a b s =>
    obtain ⟨hK, hd, ha, hb, hs, -⟩ := fields [(20, 5), (15, 5), (10, 5), (0, 1)] [d.val, a.val, b.val, s.code - 2] hw rfl rfl
      (by simp [fits])
    refine ⟨lt_of_fields hK rfl rfl, ?_⟩
    simp [decodeRaw, decode13, hK 25 7 rfl, hK 1 9 rfl, hd, ha, hb, hs, fin_eq_iff 5]
  | fence k s =>
    obtain ⟨hK, hk, hs, -⟩ := fields [(3, 6), (0, 3)] [k.toNat, s.code] hw rfl rfl (by simp [fits]; omega)
    refine ⟨lt_of_fields hK rfl rfl, ?_⟩
    simp [decodeRaw, decode14, hK 25 7 rfl, hK 9 1 rfl, hK 10 5 rfl, hK 15 5 rfl, hK 20 5 rfl, hk, hs, imm_eq_iff]
  | _ => nomatch hi

/-- The instructions whose major opcode is 0x20 to 0x3F: the lattice, messages, tasks and the system. -/
def middle : Instr → Bool
  | .lwaitf .. | .send .. | .sendF .. | .sendH .. | .spawnFifo .. | .spawnOrd .. | .spawnOpt .. | .spawnL .. | .spawnC .. | .slotctl ..
  | .lfrz .. | .lxrd .. | .lstat .. | .recv .. | .recvp .. | .recvN .. | .recvpN .. | .migr .. | .ctxsv .. | .ctxld .. | .ljoin ..
  | .ljoinR .. | .lfill .. | .xinv .. | .cinv .. | .sendl .. | .sendlF .. | .gvtrd .. | .lfrza .. | .vtset .. | .twait .. | .lfillv ..
  | .lfillm .. | .lesum .. | .lwait .. | .larm .. | .lxrdv .. | .cmtw .. | .exit .. | .yield .. | .eret .. | .brk .. | .wfi .. | .gbar ..
  | .widf .. | .mpin .. | .csrr .. | .csrw .. | .csrs .. | .csrc .. | .trap .. => true
  | _ => false

theorem decodeRaw_encode_middle {w : Nat} {i : Instr} (hi : middle i = true) (hw : encode i = w) : w < 2 ^ 32 ∧ decodeRaw w = some i := by
  cases i with
  | lwaitf d a b | send d a b | sendF d a b | sendH d a b | spawnFifo d a b | spawnOrd d a b | spawnOpt d a b | spawnL d a b
  | spawnC d a b | slotctl d a b =>
    obtain ⟨hK, hd, ha, hb, -⟩ := fields [(20, 5), (15, 5), (10, 5)] [d.val, a.val, b.val] hw rfl rfl (by simp [fits])
    refine ⟨lt_of_fields hK rfl rfl, ?_⟩
    simp [decodeRaw, decode20, decode21, decode22, decode31, hK 25 7 rfl, hK 0 6 rfl, hK 6 4 rfl, hK 9 1 rfl, hK 8 2 rfl, hK 0 10 rfl,
      hd, ha, hb, fin_eq_iff 5]
  | lfrz d a | lxrd d a | lstat d a | recv d a | recvp d a | recvN d a | recvpN d a | migr d a | ctxsv d a | ctxld d a =>
    obtain ⟨hK, hd, ha, -⟩ := fields [(20, 5), (15, 5)] [d.val, a.val] hw rfl rfl (by simp [fits])
    refine ⟨lt_of_fields hK rfl rfl, ?_⟩
    simp [decodeRaw, decode20, decode21, decode22, decode31, hK 25 7 rfl, hK 0 6 rfl, hK 6 4 rfl, hK 14 1 rfl, hK 9 1 rfl, hK 8 2 rfl,
      hK 10 5 rfl, hK 0 10 rfl, hK 3 7 rfl, hd, ha, fin_eq_iff 5]
  | ljoin a b | ljoinR a b | lfill a b | xinv a b | cinv a b =>
    obtain ⟨hK, ha, hb, -⟩ := fields [(15, 5), (10, 5)] [a.val, b.val] hw rfl rfl (by simp [fits])
    refine ⟨lt_of_fields hK rfl rfl, ?_⟩
    simp [decodeRaw, decode20, decode31, hK 25 7 rfl, hK 0 6 rfl, hK 6 4 rfl, hK 20 5 rfl, hK 0 10 rfl, ha, hb, fin_eq_iff 5]
  | sendl d a b n | sendlF d a b n =>
    obtain ⟨hK, hd, ha, hb, hn, -⟩ := fields [(20, 5), (15, 5), (10, 5), (0, 3)] [d.val, a.val, b.val, n.val] hw rfl rfl
      (by simp [fits])
    refine ⟨lt_of_fields hK rfl rfl, ?_⟩
    simp [decodeRaw, decode21, fld_eq_low_add w 0 3 7, hK 25 7 rfl, hK 3 7 rfl, hd, ha, hb, hn, fin_eq_iff 3, fin_eq_iff 5]
  | gvtrd d =>
    obtain ⟨hK, hd, -⟩ := fields [(20, 5)] [d.val] hw rfl rfl (by simp [fits])
    refine ⟨lt_of_fields hK rfl rfl, ?_⟩
    simp [decodeRaw, decode21, hK 25 7 rfl, hK 0 10 rfl, hK 3 7 rfl, hK 10 5 rfl, hK 15 5 rfl, hd, fin_eq_iff 5]
  | lfrza a | vtset a | twait a =>
    obtain ⟨hK, ha, -⟩ := fields [(15, 5)] [a.val] hw rfl rfl (by simp [fits])
    refine ⟨lt_of_fields hK rfl rfl, ?_⟩
    simp [decodeRaw, decode20, decode21, decode22, hK 25 7 rfl, hK 0 6 rfl, hK 6 4 rfl, hK 20 5 rfl, hK 14 1 rfl, hK 9 1 rfl,
      hK 8 2 rfl, hK 10 5 rfl, hK 0 10 rfl, hK 3 7 rfl, hK 11 4 rfl, ha, fin_eq_iff 5]
  | lfillv a v =>
    obtain ⟨hK, ha, hv, -⟩ := fields [(15, 5), (10, 4)] [a.val, v.val] hw rfl rfl (by simp [fits])
    refine ⟨lt_of_fields hK rfl rfl, ?_⟩
    simp [decodeRaw, decode20, hK 25 7 rfl, hK 0 6 rfl, hK 6 4 rfl, hK 20 5 rfl, hK 14 1 rfl, ha, hv, fin_eq_iff 4, fin_eq_iff 5]
  | lfillm a b m =>
    obtain ⟨hK, ha, hb, hm, -⟩ := fields [(15, 5), (10, 5), (6, 3)] [a.val, b.val, m.val] hw rfl rfl (by simp [fits])
    refine ⟨lt_of_fields hK rfl rfl, ?_⟩
    simp [decodeRaw, decode20, hK 25 7 rfl, hK 0 6 rfl, hK 20 5 rfl, hK 9 1 rfl, ha, hb, hm, fin_eq_iff 3, fin_eq_iff 5]
  | lesum a b t =>
    obtain ⟨hK, ha, hb, ht, -⟩ := fields [(15, 5), (10, 5), (6, 2)] [a.val, b.val, t.code] hw rfl rfl (by simp [fits])
    refine ⟨lt_of_fields hK rfl rfl, ?_⟩
    simp [decodeRaw, decode20, hK 25 7 rfl, hK 0 6 rfl, hK 20 5 rfl, hK 9 1 rfl, hK 8 2 rfl, ha, hb, ht, fin_eq_iff 5]
  | lwait d a b n k | larm d a b n k =>
    obtain ⟨hK, hd, ha, hb, hn, hk, -⟩ := fields [(20, 5), (15, 5), (10, 5), (8, 2), (6, 2)] [d.val, a.val, b.val, n.val, k.code] hw rfl
      rfl (by simp [fits])
    refine ⟨lt_of_fields hK rfl rfl, ?_⟩
    simp [decodeRaw, decode20, hK 25 7 rfl, hK 0 6 rfl, hd, ha, hb, hn, hk, fin_eq_iff 2, fin_eq_iff 5]
  | lxrdv v a =>
    obtain ⟨hK, hv, ha, -⟩ := fields [(20, 4), (15, 5)] [v.val, a.val] hw rfl rfl (by simp [fits])
    refine ⟨lt_of_fields hK rfl rfl, ?_⟩
    simp [decodeRaw, decode20, hK 25 7 rfl, hK 0 6 rfl, hK 6 4 rfl, hK 14 1 rfl, hK 9 1 rfl, hK 8 2 rfl, hK 10 5 rfl, hK 24 1 rfl, hv,
      ha, fin_eq_iff 4, fin_eq_iff 5]
  | cmtw | exit | yield | eret | brk | wfi =>
    obtain ⟨hK, -⟩ := fields [] [] hw rfl rfl trivial
    refine ⟨lt_of_fields hK rfl rfl, ?_⟩
    simp [decodeRaw, decode21, decode22, decode31, hK 25 7 rfl, hK 0 10 rfl, hK 3 7 rfl, hK 10 5 rfl, hK 20 5 rfl, hK 15 5 rfl]
  | gbar l =>
    obtain ⟨hK, hl, -⟩ := fields [(10, 5)] [l.val] hw rfl rfl (by simp [fits]; omega)
    refine ⟨lt_of_fields hK rfl rfl, ?_⟩
    simp [decodeRaw, decode22, hK 25 7 rfl, hK 0 10 rfl, hK 15 5 rfl, hK 20 5 rfl, hl]
  | widf d n =>
    obtain ⟨hK, hd, hn, -⟩ := fields [(20, 5), (10, 5)] [d.val, n.val] hw rfl rfl (by simp [fits]; omega)
    refine ⟨lt_of_fields hK rfl rfl, ?_⟩
    simp [decodeRaw, decode22, hK 25 7 rfl, hK 0 10 rfl, hK 15 5 rfl, hd, hn, fin_eq_iff 5]
  | mpin n =>
    obtain ⟨hK, hn, -⟩ := fields [(10, 1)] [n.val] hw rfl rfl (by simp [fits]; omega)
    refine ⟨lt_of_fields hK rfl rfl, ?_⟩
    simp [decodeRaw, decode22, hK 25 7 rfl, hK 0 10 rfl, hK 15 5 rfl, hK 20 5 rfl, hK 11 4 rfl, hn, fin_eq_iff 1]
  | csrr d c =>
    obtain ⟨hK, hd, hc, -⟩ := fields [(20, 5), (0, 12)] [d.val, c.toNat] hw rfl rfl (by simp [fits]; omega)
    refine ⟨lt_of_fields hK rfl rfl, ?_⟩
    simp [decodeRaw, decode30, hK 25 7 rfl, hK 12 3 rfl, hK 15 5 rfl, hd, hc, fin_eq_iff 5, imm_eq_iff]
  | csrw d a c | csrs d a c | csrc d a c =>
    obtain ⟨hK, hd, ha, hc, -⟩ := fields [(20, 5), (15, 5), (0, 12)] [d.val, a.val, c.toNat] hw rfl rfl (by simp [fits]; omega)
    refine ⟨lt_of_fields hK rfl rfl, ?_⟩
    simp [decodeRaw, decode30, hK 25 7 rfl, hK 12 3 rfl, hd, ha, hc, fin_eq_iff 5, imm_eq_iff]
  | trap n =>
    obtain ⟨hK, hn, -⟩ := fields [(0, 8)] [n.val] hw rfl rfl (by simp [fits])
    refine ⟨lt_of_fields hK rfl rfl, ?_⟩
    simp [decodeRaw, decode31, fld_eq_low_add w 0 8 2, hK 25 7 rfl, hK 10 5 rfl, hK 15 5 rfl, hK 20 5 rfl, hK 8 2 rfl, hn, fin_eq_iff 8]
  | _ => nomatch hi

end Sys2Proof.Encoding

namespace Sys2Proof.Encoding
open Sys2Proof

/-- Whatever instruction a decoder answers, the word is its word. -/
def Encodes (w : Nat) (o : Option Instr) : Prop := ∀ i, o = some i → encode i = w

theorem encodes_none (w : Nat) : Encodes w none := fun _ h => nomatch h

theorem encodes_some {w : Nat} {i : Instr} (h : encode i = w) : Encodes w (some i) := fun _ hi => Option.some.inj hi ▸ h

theorem encodes_ite {w : Nat} {c : Prop} [Decidable c] {x y : Option Instr} (hx : c → Encodes w x) (hy : Encodes w y) :
    Encodes w (if c then x else y) := by
  split
  · next h => exact hx h
  · exact hy

theorem encodes_dite {w : Nat} {c : Prop} [Decidable c] {x : c → Option Instr} (hx : ∀ h, Encodes w (x h)) :
    Encodes w (if h : c then x h else none) := by
  split
  · next h => exact hx h
  · exact encodes_none w

theorem encodes_bind {α : Type} {w : Nat} {o : Option α} {f : α → Option Instr} (h : ∀ a, o = some a → Encodes w (f a)) : Encodes w (o >>= f) := by
  cases o with
  | none => exact encodes_none w
  | some a => exact h a rfl

theorem cond_code_of_ofCode {n : Nat} {c : Cond} (h : Cond.ofCode n = some c) : c.code = n := by
  unfold Cond.ofCode at h
  split at h <;> cases h <;> rfl

theorem vCond_code_of_ofCode {n : Nat} {c : VCond} (h : VCond.ofCode n = some c) : c.code = n := by
  unfold VCond.ofCode at h
  split at h <;> cases h <;> rfl

theorem pLogOp_code_of_ofCode {n : Nat} {c : PLogOp} (h : PLogOp.ofCode n = some c) : c.code = n := by
  unfold PLogOp.ofCode at h
  split at h <;> cases h <;> rfl

theorem mLogOp_code_of_ofCode {n : Nat} {c : MLogOp} (h : MLogOp.ofCode n = some c) : c.code = n := by
  unfold MLogOp.ofCode at h
  split at h <;> cases h <;> rfl

theorem sz_code_of_ofCode {n : Nat} {c : Sz} (h : Sz.ofCode n = some c) : c.code = n := by
  unfold Sz.ofCode at h
  split at h <;> cases h <;> rfl

theorem szN_code_of_ofCode {n : Nat} {c : SzN} (h : SzN.ofCode n = some c) : c.code = n := by
  unfold SzN.ofCode at h
  split at h <;> cases h <;> rfl

theorem eType_code_of_ofCode {n : Nat} {c : EType} (h : EType.ofCode n = some c) : c.code = n := by
  unfold EType.ofCode at h
  split at h <;> cases h <;> rfl

theorem eType2_code_of_ofCode {n : Nat} {c : EType2} (h : EType2.ofCode n = some c) : c.code = n := by
  unfold EType2.ofCode at h
  split at h <;> cases h <;> rfl

theorem rm_code_of_ofCode {n : Nat} {c : Rm} (h : Rm.ofCode n = some c) : c.code = n := by
  unfold Rm.ofCode at h
  split at h <;> cases h <;> rfl

theorem scope_code_of_ofCode {n : Nat} {c : Scope} (h : Scope.ofCode n = some c) : c.code = n := by
  unfold Scope.ofCode at h
  split at h <;> cases h <;> rfl

theorem esumT_code_of_ofCode {n : Nat} {c : EsumT} (h : EsumT.ofCode n = some c) : c.code = n := by
  unfold EsumT.ofCode at h
  split at h <;> cases h <;> rfl

theorem szX_code_of_ofCode {n : Nat} {c : SzX} (h : SzX.ofCode n = some c) : c.code = n := by
  unfold SzX.ofCode at h
  split at h <;> cases h <;> rfl

theorem trigK_code_of_ofCode {n : Nat} {c : TrigK} (h : TrigK.ofCode n = some c) : c.code = n := by
  unfold TrigK.ofCode at h
  split at h <;> cases h <;> rfl

theorem szA_code_of_ofCode {n : Nat} {c : SzA} (h : SzA.ofCode n = some c) : c.code = n := by
  unfold SzA.ofCode at h
  split at h <;> cases h <;> rfl

theorem fin_val (k : Nat) {w lo n : Nat} [NeZero n] (h : 2 ^ k = n) : (fin w lo n).val = fld w lo k := by
  subst h; rfl

theorem toNat_imm (w lo n : Nat) : (imm w lo n).toNat = fld w lo n := rfl

/-- The consecutive fields of a word from bit `lo` up, of the widths listed, each in its place. -/
def parts (w lo : Nat) : List Nat → Nat
  | [] => 0
  | k :: ks => fld w lo k * 2 ^ lo + parts w (lo + k) ks

theorem mod_add_parts (w : Nat) : ∀ (ks : List Nat) (lo : Nat), w % 2 ^ lo + parts w lo ks = w % 2 ^ (lo + ks.sum)
  | [], lo => rfl
  | k :: ks, lo => by
    rw [List.sum_cons, ← Nat.add_assoc lo, ← mod_add_parts w ks (lo + k), parts, ← Nat.add_assoc, pow_add, Nat.mod_mul, fld,
      Nat.mul_comm (2 ^ lo)]

/-- A word of 32 bits is the sum of its fields. -/
theorem parts_eq {w : Nat} (hw : w < 2 ^ 32) (ks : List Nat) (hk : ks.sum = 32) : parts w 0 ks = w := by
  have h := mod_add_parts w ks 0
  rwa [hk, Nat.pow_zero, Nat.mod_one, Nat.zero_add, Nat.zero_add, Nat.mod_eq_of_lt hw] at h

theorem encodes_decode01 {w : Nat} (hw : w < 2 ^ 32) (hM : fld w 25 7 = 0x01) : Encodes w (decode01 w) := by
  unfold decode01
  iterate 24
    refine encodes_ite (fun h => ?_) ?_
    · refine encodes_some ?_
      change _ + _ * _ + _ * _ + _ * _ = w
      have hp := parts_eq hw [10, 5, 5, 5, 7] rfl
      simp only [fin_val 5, parts, Nat.reduceAdd, Nat.reducePow] at hp ⊢
      omega
  exact encodes_none w

theorem encodes_decode02 {w : Nat} (hw : w < 2 ^ 32) (hM : fld w 25 7 = 0x02) : Encodes w (decode02 w) := by
  unfold decode02
  iterate 19
    refine encodes_ite (fun h => ?_) ?_
    · refine encodes_some ?_
      change _ + _ * _ + _ * _ + _ * _ = w
      have hp := parts_eq hw [10, 5, 5, 5, 7] rfl
      simp only [fin_val 5, parts, Nat.reduceAdd, Nat.reducePow] at hp ⊢
      omega
  exact encodes_none w

theorem encodes_decode03 {w : Nat} (hw : w < 2 ^ 32) (hM : fld w 25 7 = 0x03) : Encodes w (decode03 w) := by
  unfold decode03
  refine encodes_some ?_
  change _ + _ * _ + _ * _ + _ = w
  have hp := parts_eq hw [15, 5, 5, 7] rfl
  simp only [fin_val 5, toNat_imm, parts, Nat.reduceAdd, Nat.reducePow] at hp ⊢
  omega

theorem encodes_decode04 {w : Nat} (hw : w < 2 ^ 32) (hM : fld w 25 7 = 0x04) : Encodes w (decode04 w) := by
  unfold decode04
  refine encodes_some ?_
  change _ + _ * _ + _ * _ + _ = w
  have hp := parts_eq hw [15, 5, 5, 7] rfl
  simp only [fin_val 5, toNat_imm, parts, Nat.reduceAdd, Nat.reducePow] at hp ⊢
  omega

theorem encodes_decode05 {w : Nat} (hw : w < 2 ^ 32) (hM : fld w 25 7 = 0x05) : Encodes w (decode05 w) := by
  unfold decode05
  refine encodes_some ?_
  change _ + _ * _ + _ * _ + _ = w
  have hp := parts_eq hw [15, 5, 5, 7] rfl
  simp only [fin_val 5, toNat_imm, parts, Nat.reduceAdd, Nat.reducePow] at hp ⊢
  omega

theorem encodes_decode06 {w : Nat} (hw : w < 2 ^ 32) (hM : fld w 25 7 = 0x06) : Encodes w (decode06 w) := by
  unfold decode06
  refine encodes_some ?_
  change _ + _ * _ + _ * _ + _ = w
  have hp := parts_eq hw [15, 5, 5, 7] rfl
  simp only [fin_val 5, toNat_imm, parts, Nat.reduceAdd, Nat.reducePow] at hp ⊢
  omega

theorem encodes_decode07 {w : Nat} (hw : w < 2 ^ 32) (hM : fld w 25 7 = 0x07) : Encodes w (decode07 w) := by
  unfold decode07
  refine encodes_some ?_
  change _ + _ * _ + _ * _ + _ = w
  have hp := parts_eq hw [15, 5, 5, 7] rfl
  simp only [fin_val 5, toNat_imm, parts, Nat.reduceAdd, Nat.reducePow] at hp ⊢
  omega

theorem encodes_decode08 {w : Nat} (hw : w < 2 ^ 32) (hM : fld w 25 7 = 0x08) : Encodes w (decode08 w) := by
  unfold decode08
  refine encodes_some ?_
  change _ + _ * _ + _ * _ + _ = w
  have hp := parts_eq hw [15, 5, 5, 7] rfl
  simp only [fin_val 5, toNat_imm, parts, Nat.reduceAdd, Nat.reducePow] at hp ⊢
  omega

theorem encodes_decode09 {w : Nat} (hw : w < 2 ^ 32) (hM : fld w 25 7 = 0x09) : Encodes w (decode09 w) := by
  unfold decode09
  iterate 4
    refine encodes_ite (fun h => ?_) ?_
    · refine encodes_some ?_
      change _ + _ * _ + _ * _ + _ = w
      have hp := parts_eq hw [6, 6, 3, 5, 5, 7] rfl
      simp only [fin_val 5, fin_val 6, parts, Nat.reduceAdd, Nat.reducePow] at hp ⊢
      omega
  iterate 4
    refine encodes_ite (fun h => ?_) ?_
    · refine encodes_some ?_
      change _ + _ * _ + _ * _ + _ = w
      have hp := parts_eq hw [5, 1, 6, 3, 5, 5, 7] rfl
      simp only [fin_val 5, parts, Nat.reduceAdd, Nat.reducePow] at hp ⊢
      omega
  exact encodes_none w

theorem encodes_decode0A {w : Nat} (hw : w < 2 ^ 32) (hM : fld w 25 7 = 0x0A) : Encodes w (decode0A w) := by
  unfold decode0A
  refine encodes_ite (fun h => ?_) ?_
  · refine encodes_bind fun c hc => ?_
    refine encodes_some ?_
    have := cond_code_of_ofCode hc
    change _ + _ * _ + _ * _ + _ * _ + _ = w
    have hp := parts_eq hw [12, 3, 5, 4, 1, 7] rfl
    simp only [fin_val 4, fin_val 5, toNat_imm, parts, Nat.reduceAdd, Nat.reducePow] at hp ⊢
    omega
  exact encodes_none w

theorem encodes_decode0B {w : Nat} (hw : w < 2 ^ 32) (hM : fld w 25 7 = 0x0B) : Encodes w (decode0B w) := by
  unfold decode0B
  refine encodes_ite (fun h => ?_) ?_
  · refine encodes_bind fun c hc => ?_
    refine encodes_some ?_
    have := cond_code_of_ofCode hc
    change _ + _ * _ + _ * _ + _ * _ + _ = w
    have hp := parts_eq hw [3, 7, 5, 5, 4, 1, 7] rfl
    simp only [fin_val 4, fin_val 5, parts, Nat.reduceAdd, Nat.reducePow] at hp ⊢
    omega
  refine encodes_ite (fun h => ?_) ?_
  · refine encodes_bind fun o ho => ?_
    refine encodes_some ?_
    have := pLogOp_code_of_ofCode ho
    change _ + _ * _ + _ * _ + _ * _ + _ = w
    have hp := parts_eq hw [3, 7, 4, 1, 4, 1, 4, 1, 7] rfl
    simp only [fin_val 4, parts, Nat.reduceAdd, Nat.reducePow] at hp ⊢
    omega
  refine encodes_ite (fun h => ?_) ?_
  · refine encodes_some ?_
    change _ + _ * _ = w
    have hp := parts_eq hw [10, 5, 5, 5, 7] rfl
    simp only [fin_val 5, parts, Nat.reduceAdd, Nat.reducePow] at hp ⊢
    omega
  refine encodes_ite (fun h => ?_) ?_
  · refine encodes_some ?_
    change _ + _ * _ = w
    have hp := parts_eq hw [10, 5, 5, 5, 7] rfl
    simp only [fin_val 5, parts, Nat.reduceAdd, Nat.reducePow] at hp ⊢
    omega
  refine encodes_ite (fun h => ?_) ?_
  · refine encodes_some ?_
    change _ + _ * _ + _ * _ + _ * _ + _ = w
    have hp := parts_eq hw [4, 6, 5, 5, 5, 7] rfl
    simp only [fin_val 4, fin_val 5, parts, Nat.reduceAdd, Nat.reducePow] at hp ⊢
    omega
  refine encodes_ite (fun h => ?_) ?_
  · refine encodes_some ?_
    change _ + _ * _ + _ * _ = w
    have hp := parts_eq hw [10, 5, 5, 5, 7] rfl
    simp only [fin_val 5, parts, Nat.reduceAdd, Nat.reducePow] at hp ⊢
    omega
  exact encodes_none w

theorem encodes_decode0D {w : Nat} (hw : w < 2 ^ 32) (hM : fld w 25 7 = 0x0D) : Encodes w (decode0D w) := by
  unfold decode0D
  refine encodes_some ?_
  change _ + _ * _ + _ = w
  have hp := parts_eq hw [20, 5, 7] rfl
  simp only [fin_val 5, toNat_imm, parts, Nat.reduceAdd, Nat.reducePow] at hp ⊢
  omega

theorem encodes_decode0E {w : Nat} (hw : w < 2 ^ 32) (hM : fld w 25 7 = 0x0E) : Encodes w (decode0E w) := by
  unfold decode0E
  refine encodes_some ?_
  change _ + _ * _ + _ = w
  have hp := parts_eq hw [20, 5, 7] rfl
  simp only [fin_val 5, toNat_imm, parts, Nat.reduceAdd, Nat.reducePow] at hp ⊢
  omega

theorem encodes_decode0F {w : Nat} (hw : w < 2 ^ 32) (hM : fld w 25 7 = 0x0F) : Encodes w (decode0F w) := by
  unfold decode0F
  iterate 5
    refine encodes_ite (fun h => ?_) ?_
    · refine encodes_some ?_
      change _ + _ * _ + _ * _ = w
      have hp := parts_eq hw [10, 5, 5, 5, 7] rfl
      simp only [fin_val 5, parts, Nat.reduceAdd, Nat.reducePow] at hp ⊢
      omega
  iterate 3
    refine encodes_ite (fun h => ?_) ?_
    · refine encodes_some ?_
      change _ + _ * _ + _ * _ + _ * _ = w
      have hp := parts_eq hw [10, 5, 5, 5, 7] rfl
      simp only [fin_val 5, parts, Nat.reduceAdd, Nat.reducePow] at hp ⊢
      omega
  refine encodes_ite (fun h => ?_) ?_
  · refine encodes_some ?_
    change _ + _ * _ + _ * _ = w
    have hp := parts_eq hw [10, 5, 5, 5, 7] rfl
    simp only [fin_val 5, parts, Nat.reduceAdd, Nat.reducePow] at hp ⊢
    omega
  iterate 2
    refine encodes_ite (fun h => ?_) ?_
    · refine encodes_some ?_
      change _ + _ * _ + _ * _ + _ * _ + _ = w
      have hp := parts_eq hw [3, 7, 5, 5, 5, 7] rfl
      simp only [fin_val 3, fin_val 5, parts, Nat.reduceAdd, Nat.reducePow] at hp ⊢
      omega
  exact encodes_none w

theorem encodes_decode10 {w : Nat} (hw : w < 2 ^ 32) (hM : fld w 25 7 = 0x10) : Encodes w (decode10 w) := by
  unfold decode10
  refine encodes_ite (fun h => ?_) ?_
  · refine encodes_bind fun s hs => ?_
    refine encodes_some ?_
    have := sz_code_of_ofCode hs
    change _ + _ * _ + _ * _ + _ * _ + _ = w
    have hp := parts_eq hw [12, 2, 1, 5, 5, 7] rfl
    simp only [fin_val 5, toNat_imm, parts, Nat.reduceAdd, Nat.reducePow] at hp ⊢
    omega
  refine encodes_ite (fun h => ?_) ?_
  · refine encodes_bind fun s hs => ?_
    refine encodes_some ?_
    have := szN_code_of_ofCode hs
    change _ + _ * _ + _ * _ + _ * _ + _ = w
    have hp := parts_eq hw [12, 2, 1, 5, 5, 7] rfl
    simp only [fin_val 5, toNat_imm, parts, Nat.reduceAdd, Nat.reducePow] at hp ⊢
    omega
  exact encodes_none w

theorem encodes_decode11 {w : Nat} (hw : w < 2 ^ 32) (hM : fld w 25 7 = 0x11) : Encodes w (decode11 w) := by
  unfold decode11
  refine encodes_ite (fun h => ?_) ?_
  · refine encodes_bind fun s hs => ?_
    refine encodes_some ?_
    have := sz_code_of_ofCode hs
    change _ + _ * _ + _ * _ + _ * _ + _ = w
    have hp := parts_eq hw [12, 2, 1, 5, 5, 7] rfl
    simp only [fin_val 5, toNat_imm, parts, Nat.reduceAdd, Nat.reducePow] at hp ⊢
    omega
  exact encodes_none w

theorem encodes_decode12 {w : Nat} (hw : w < 2 ^ 32) (hM : fld w 25 7 = 0x12) : Encodes w (decode12 w) := by
  unfold decode12
  refine encodes_ite (fun h => ?_) ?_
  · refine encodes_bind fun s hs => ?_
    refine encodes_some ?_
    have := szX_code_of_ofCode hs
    change _ + _ * _ + _ * _ + _ * _ + _ = w
    have hp := parts_eq hw [3, 7, 5, 5, 5, 7] rfl
    simp only [fin_val 5, parts, Nat.reduceAdd, Nat.reducePow] at hp ⊢
    omega
  refine encodes_ite (fun h => ?_) ?_
  · refine encodes_bind fun s hs => ?_
    refine encodes_some ?_
    have := sz_code_of_ofCode hs
    change _ + _ * _ + _ * _ + _ * _ + _ = w
    have hp := parts_eq hw [2, 8, 5, 5, 5, 7] rfl
    simp only [fin_val 5, parts, Nat.reduceAdd, Nat.reducePow] at hp ⊢
    omega
  refine encodes_ite (fun h => ?_) ?_
  · refine encodes_some ?_
    change _ + _ * _ + _ * _ = w
    have hp := parts_eq hw [10, 5, 5, 5, 7] rfl
    simp only [fin_val 5, parts, Nat.reduceAdd, Nat.reducePow] at hp ⊢
    omega
  exact encodes_none w

theorem encodes_decode13 {w : Nat} (hw : w < 2 ^ 32) (hM : fld w 25 7 = 0x13) : Encodes w (decode13 w) := by
  unfold decode13
  iterate 8
    refine encodes_ite (fun h => ?_) ?_
    · refine encodes_bind fun s hs => ?_
      refine encodes_some ?_
      have := szA_code_of_ofCode hs
      change _ + _ * _ + _ * _ + _ * _ + _ = w
      have hp := parts_eq hw [1, 9, 5, 5, 5, 7] rfl
      simp only [fin_val 5, parts, Nat.reduceAdd, Nat.reducePow] at hp ⊢
      omega
  exact encodes_none w

theorem encodes_decode14 {w : Nat} (hw : w < 2 ^ 32) (hM : fld w 25 7 = 0x14) : Encodes w (decode14 w) := by
  unfold decode14
  refine encodes_ite (fun h => ?_) ?_
  · refine encodes_bind fun s hs => ?_
    refine encodes_some ?_
    have := scope_code_of_ofCode hs
    change _ + _ * _ + _ = w
    have hp := parts_eq hw [3, 6, 1, 5, 5, 5, 7] rfl
    simp only [toNat_imm, parts, Nat.reduceAdd, Nat.reducePow] at hp ⊢
    omega
  exact encodes_none w

theorem encodes_decode18 {w : Nat} (hw : w < 2 ^ 32) (hM : fld w 25 7 = 0x18) : Encodes w (decode18 w) := by
  unfold decode18
  refine encodes_some ?_
  change _ + _ * _ + _ * _ + _ = w
  have hp := parts_eq hw [15, 5, 5, 7] rfl
  simp only [fin_val 5, toNat_imm, parts, Nat.reduceAdd, Nat.reducePow] at hp ⊢
  omega

theorem encodes_decode19 {w : Nat} (hw : w < 2 ^ 32) (hM : fld w 25 7 = 0x19) : Encodes w (decode19 w) := by
  unfold decode19
  refine encodes_some ?_
  change _ + _ * _ + _ * _ + _ = w
  have hp := parts_eq hw [15, 5, 5, 7] rfl
  simp only [fin_val 5, toNat_imm, parts, Nat.reduceAdd, Nat.reducePow] at hp ⊢
  omega

theorem encodes_decode1A {w : Nat} (hw : w < 2 ^ 32) (hM : fld w 25 7 = 0x1A) : Encodes w (decode1A w) := by
  unfold decode1A
  refine encodes_some ?_
  change _ + _ * _ + _ * _ + _ = w
  have hp := parts_eq hw [15, 5, 5, 7] rfl
  simp only [fin_val 5, toNat_imm, parts, Nat.reduceAdd, Nat.reducePow] at hp ⊢
  omega

theorem encodes_decode1B {w : Nat} (hw : w < 2 ^ 32) (hM : fld w 25 7 = 0x1B) : Encodes w (decode1B w) := by
  unfold decode1B
  refine encodes_some ?_
  change _ + _ * _ + _ * _ + _ = w
  have hp := parts_eq hw [15, 5, 5, 7] rfl
  simp only [fin_val 5, toNat_imm, parts, Nat.reduceAdd, Nat.reducePow] at hp ⊢
  omega

theorem encodes_decode1C {w : Nat} (hw : w < 2 ^ 32) (hM : fld w 25 7 = 0x1C) : Encodes w (decode1C w) := by
  unfold decode1C
  refine encodes_some ?_
  change _ + _ * _ + _ * _ + _ = w
  have hp := parts_eq hw [15, 5, 5, 7] rfl
  simp only [fin_val 5, toNat_imm, parts, Nat.reduceAdd, Nat.reducePow] at hp ⊢
  omega

theorem encodes_decode1D {w : Nat} (hw : w < 2 ^ 32) (hM : fld w 25 7 = 0x1D) : Encodes w (decode1D w) := by
  unfold decode1D
  refine encodes_some ?_
  change _ + _ * _ + _ * _ + _ = w
  have hp := parts_eq hw [15, 5, 5, 7] rfl
  simp only [fin_val 5, toNat_imm, parts, Nat.reduceAdd, Nat.reducePow] at hp ⊢
  omega

theorem encodes_decode1E {w : Nat} (hw : w < 2 ^ 32) (hM : fld w 25 7 = 0x1E) : Encodes w (decode1E w) := by
  unfold decode1E
  iterate 2
    refine encodes_ite (fun h => ?_) ?_
    · refine encodes_some ?_
      change _ + _ * _ + _ = w
      have hp := parts_eq hw [15, 5, 4, 1, 7] rfl
      simp only [fin_val 4, toNat_imm, parts, Nat.reduceAdd, Nat.reducePow] at hp ⊢
      omega
  exact encodes_none w

theorem encodes_decode1F {w : Nat} (hw : w < 2 ^ 32) (hM : fld w 25 7 = 0x1F) : Encodes w (decode1F w) := by
  unfold decode1F
  refine encodes_some ?_
  change _ + _ * _ + _ = w
  have hp := parts_eq hw [20, 5, 7] rfl
  simp only [fin_val 5, toNat_imm, parts, Nat.reduceAdd, Nat.reducePow] at hp ⊢
  omega

theorem encodes_decode20 {w : Nat} (hw : w < 2 ^ 32) (hM : fld w 25 7 = 0x20) : Encodes w (decode20 w) := by
  unfold decode20
  iterate 3
    refine encodes_ite (fun h => ?_) ?_
    · refine encodes_some ?_
      change _ + _ * _ + _ * _ = w
      have hp := parts_eq hw [6, 4, 5, 5, 5, 7] rfl
      simp only [fin_val 5, parts, Nat.reduceAdd, Nat.reducePow] at hp ⊢
      omega
  refine encodes_ite (fun h => ?_) ?_
  · refine encodes_some ?_
    change _ + _ * _ + _ * _ = w
    have hp := parts_eq hw [6, 4, 4, 1, 5, 5, 7] rfl
    simp only [fin_val 4, fin_val 5, parts, Nat.reduceAdd, Nat.reducePow] at hp ⊢
    omega
  refine encodes_ite (fun h => ?_) ?_
  · refine encodes_some ?_
    change _ + _ * _ + _ * _ + _ * _ = w
    have hp := parts_eq hw [6, 3, 1, 5, 5, 5, 7] rfl
    simp only [fin_val 3, fin_val 5, parts, Nat.reduceAdd, Nat.reducePow] at hp ⊢
    omega
  refine encodes_ite (fun h => ?_) ?_
  · refine encodes_bind fun t ht => ?_
    refine encodes_some ?_
    have := esumT_code_of_ofCode ht
    change _ + _ * _ + _ * _ + _ * _ = w
    have hp := parts_eq hw [6, 2, 2, 5, 5, 5, 7] rfl
    simp only [fin_val 5, parts, Nat.reduceAdd, Nat.reducePow] at hp ⊢
    omega
  refine encodes_ite (fun h => ?_) ?_
  · refine encodes_bind fun k hk => ?_
    refine encodes_some ?_
    have := trigK_code_of_ofCode hk
    change _ + _ * _ + _ * _ + _ * _ + _ * _ + _ * _ = w
    have hp := parts_eq hw [6, 2, 2, 5, 5, 5, 7] rfl
    simp only [fin_val 2, fin_val 5, parts, Nat.reduceAdd, Nat.reducePow] at hp ⊢
    omega
  refine encodes_ite (fun h => ?_) ?_
  · refine encodes_some ?_
    change _ + _ * _ + _ * _ + _ * _ = w
    have hp := parts_eq hw [6, 4, 5, 5, 5, 7] rfl
    simp only [fin_val 5, parts, Nat.reduceAdd, Nat.reducePow] at hp ⊢
    omega
  refine encodes_ite (fun h => ?_) ?_
  · refine encodes_bind fun k hk => ?_
    refine encodes_some ?_
    have := trigK_code_of_ofCode hk
    change _ + _ * _ + _ * _ + _ * _ + _ * _ + _ * _ = w
    have hp := parts_eq hw [6, 2, 2, 5, 5, 5, 7] rfl
    simp only [fin_val 2, fin_val 5, parts, Nat.reduceAdd, Nat.reducePow] at hp ⊢
    omega
  refine encodes_ite (fun h => ?_) ?_
  · refine encodes_some ?_
    change _ + _ * _ + _ * _ = w
    have hp := parts_eq hw [6, 4, 5, 5, 5, 7] rfl
    simp only [fin_val 5, parts, Nat.reduceAdd, Nat.reducePow] at hp ⊢
    omega
  refine encodes_ite (fun h => ?_) ?_
  · refine encodes_some ?_
    change _ + _ * _ = w
    have hp := parts_eq hw [6, 4, 5, 5, 5, 7] rfl
    simp only [fin_val 5, parts, Nat.reduceAdd, Nat.reducePow] at hp ⊢
    omega
  refine encodes_ite (fun h => ?_) ?_
  · refine encodes_some ?_
    change _ + _ * _ + _ * _ = w
    have hp := parts_eq hw [6, 4, 5, 5, 5, 7] rfl
    simp only [fin_val 5, parts, Nat.reduceAdd, Nat.reducePow] at hp ⊢
    omega
  refine encodes_ite (fun h => ?_) ?_
  · refine encodes_some ?_
    change _ + _ * _ + _ * _ = w
    have hp := parts_eq hw [6, 4, 5, 5, 4, 1, 7] rfl
    simp only [fin_val 4, fin_val 5, parts, Nat.reduceAdd, Nat.reducePow] at hp ⊢
    omega
  refine encodes_ite (fun h => ?_) ?_
  · refine encodes_some ?_
    change _ + _ * _ + _ * _ = w
    have hp := parts_eq hw [6, 4, 5, 5, 5, 7] rfl
    simp only [fin_val 5, parts, Nat.reduceAdd, Nat.reducePow] at hp ⊢
    omega
  exact encodes_none w

theorem encodes_decode21 {w : Nat} (hw : w < 2 ^ 32) (hM : fld w 25 7 = 0x21) : Encodes w (decode21 w) := by
  unfold decode21
  iterate 3
    refine encodes_ite (fun h => ?_) ?_
    · refine encodes_some ?_
      change _ + _ * _ + _ * _ + _ * _ = w
      have hp := parts_eq hw [10, 5, 5, 5, 7] rfl
      simp only [fin_val 5, parts, Nat.reduceAdd, Nat.reducePow] at hp ⊢
      omega
  iterate 2
    refine encodes_ite (fun h => ?_) ?_
    · refine encodes_some ?_
      change _ + _ * _ + _ * _ + _ * _ + _ = w
      have hp := parts_eq hw [3, 7, 5, 5, 5, 7] rfl
      simp only [fin_val 3, fin_val 5, parts, Nat.reduceAdd, Nat.reducePow] at hp ⊢
      omega
  iterate 4
    refine encodes_ite (fun h => ?_) ?_
    · refine encodes_some ?_
      change _ + _ * _ + _ * _ = w
      have hp := parts_eq hw [10, 5, 5, 5, 7] rfl
      simp only [fin_val 5, parts, Nat.reduceAdd, Nat.reducePow] at hp ⊢
      omega
  refine encodes_ite (fun h => ?_) ?_
  · refine encodes_some ?_
    change _ + _ * _ = w
    have hp := parts_eq hw [10, 5, 5, 5, 7] rfl
    simp only [fin_val 5, parts, Nat.reduceAdd, Nat.reducePow] at hp ⊢
    omega
  refine encodes_ite (fun h => ?_) ?_
  · refine encodes_some ?_
    change _ + _ * _ = w
    have hp := parts_eq hw [10, 5, 5, 5, 7] rfl
    simp only [fin_val 5, parts, Nat.reduceAdd, Nat.reducePow] at hp ⊢
    omega
  refine encodes_ite (fun h => ?_) ?_
  · refine encodes_some ?_
    change (0x42000032 : Nat) = w
    have hp := parts_eq hw [10, 5, 5, 5, 7] rfl
    simp only [parts, Nat.reduceAdd, Nat.reducePow] at hp ⊢
    omega
  exact encodes_none w

theorem encodes_decode22 {w : Nat} (hw : w < 2 ^ 32) (hM : fld w 25 7 = 0x22) : Encodes w (decode22 w) := by
  unfold decode22
  iterate 5
    refine encodes_ite (fun h => ?_) ?_
    · refine encodes_some ?_
      change _ + _ * _ + _ * _ + _ * _ = w
      have hp := parts_eq hw [10, 5, 5, 5, 7] rfl
      simp only [fin_val 5, parts, Nat.reduceAdd, Nat.reducePow] at hp ⊢
      omega
  refine encodes_ite (fun h => ?_) ?_
  · refine encodes_some ?_
    change (0x44000010 : Nat) = w
    have hp := parts_eq hw [10, 5, 5, 5, 7] rfl
    simp only [parts, Nat.reduceAdd, Nat.reducePow] at hp ⊢
    omega
  refine encodes_ite (fun h => ?_) ?_
  · refine encodes_some ?_
    change (0x44000011 : Nat) = w
    have hp := parts_eq hw [10, 5, 5, 5, 7] rfl
    simp only [parts, Nat.reduceAdd, Nat.reducePow] at hp ⊢
    omega
  refine encodes_ite (fun h => ?_) ?_
  · refine encodes_dite fun h6 => ?_
    refine encodes_some ?_
    change _ + _ * _ = w
    have hp := parts_eq hw [10, 5, 5, 5, 7] rfl
    simp only [parts, Nat.reduceAdd, Nat.reducePow] at hp ⊢
    omega
  refine encodes_ite (fun h => ?_) ?_
  · refine encodes_dite fun h6 => ?_
    refine encodes_some ?_
    change _ + _ * _ + _ * _ = w
    have hp := parts_eq hw [10, 5, 5, 5, 7] rfl
    simp only [fin_val 5, parts, Nat.reduceAdd, Nat.reducePow] at hp ⊢
    omega
  refine encodes_ite (fun h => ?_) ?_
  · refine encodes_some ?_
    change _ + _ * _ + _ * _ = w
    have hp := parts_eq hw [10, 5, 5, 5, 7] rfl
    simp only [fin_val 5, parts, Nat.reduceAdd, Nat.reducePow] at hp ⊢
    omega
  refine encodes_ite (fun h => ?_) ?_
  · refine encodes_some ?_
    change _ + _ * _ = w
    have hp := parts_eq hw [10, 1, 4, 5, 5, 7] rfl
    simp only [fin_val 1, parts, Nat.reduceAdd, Nat.reducePow] at hp ⊢
    omega
  refine encodes_ite (fun h => ?_) ?_
  · refine encodes_some ?_
    change _ + _ * _ = w
    have hp := parts_eq hw [10, 5, 5, 5, 7] rfl
    simp only [fin_val 5, parts, Nat.reduceAdd, Nat.reducePow] at hp ⊢
    omega
  exact encodes_none w

theorem encodes_decode30 {w : Nat} (hw : w < 2 ^ 32) (hM : fld w 25 7 = 0x30) : Encodes w (decode30 w) := by
  unfold decode30
  refine encodes_ite (fun h => ?_) ?_
  · refine encodes_some ?_
    change _ + _ * _ + _ = w
    have hp := parts_eq hw [12, 3, 5, 5, 7] rfl
    simp only [fin_val 5, toNat_imm, parts, Nat.reduceAdd, Nat.reducePow] at hp ⊢
    omega
  iterate 3
    refine encodes_ite (fun h => ?_) ?_
    · refine encodes_some ?_
      change _ + _ * _ + _ * _ + _ = w
      have hp := parts_eq hw [12, 3, 5, 5, 7] rfl
      simp only [fin_val 5, toNat_imm, parts, Nat.reduceAdd, Nat.reducePow] at hp ⊢
      omega
  exact encodes_none w

theorem encodes_decode31 {w : Nat} (hw : w < 2 ^ 32) (hM : fld w 25 7 = 0x31) : Encodes w (decode31 w) := by
  unfold decode31
  refine encodes_ite (fun h => ?_) ?_
  · refine encodes_some ?_
    change (0x62000000 : Nat) = w
    have hp := parts_eq hw [10, 5, 5, 5, 7] rfl
    simp only [parts, Nat.reduceAdd, Nat.reducePow] at hp ⊢
    omega
  refine encodes_ite (fun h => ?_) ?_
  · refine encodes_some ?_
    change (0x62000001 : Nat) = w
    have hp := parts_eq hw [10, 5, 5, 5, 7] rfl
    simp only [parts, Nat.reduceAdd, Nat.reducePow] at hp ⊢
    omega
  refine encodes_ite (fun h => ?_) ?_
  · refine encodes_some ?_
    change (0x62000002 : Nat) = w
    have hp := parts_eq hw [10, 5, 5, 5, 7] rfl
    simp only [parts, Nat.reduceAdd, Nat.reducePow] at hp ⊢
    omega
  iterate 2
    refine encodes_ite (fun h => ?_) ?_
    · refine encodes_some ?_
      change _ + _ * _ + _ * _ = w
      have hp := parts_eq hw [10, 5, 5, 5, 7] rfl
      simp only [fin_val 5, parts, Nat.reduceAdd, Nat.reducePow] at hp ⊢
      omega
  refine encodes_ite (fun h => ?_) ?_
  · refine encodes_some ?_
    change _ + _ * _ + _ * _ + _ * _ = w
    have hp := parts_eq hw [10, 5, 5, 5, 7] rfl
    simp only [fin_val 5, parts, Nat.reduceAdd, Nat.reducePow] at hp ⊢
    omega
  iterate 2
    refine encodes_ite (fun h => ?_) ?_
    · refine encodes_some ?_
      change _ + _ * _ + _ * _ = w
      have hp := parts_eq hw [10, 5, 5, 5, 7] rfl
      simp only [fin_val 5, parts, Nat.reduceAdd, Nat.reducePow] at hp ⊢
      omega
  refine encodes_ite (fun h => ?_) ?_
  · refine encodes_some ?_
    change _ + _ = w
    have hp := parts_eq hw [8, 2, 5, 5, 5, 7] rfl
    simp only [fin_val 8, parts, Nat.reduceAdd, Nat.reducePow] at hp ⊢
    omega
  exact encodes_none w

theorem encodes_decode40 {w : Nat} (hw : w < 2 ^ 32) (hM : fld w 25 7 = 0x40) : Encodes w (decode40 w) := by
  unfold decode40
  iterate 5
    refine encodes_ite (fun h => ?_) ?_
    · refine encodes_bind fun e he => ?_
      refine encodes_bind fun r hr => ?_
      refine encodes_some ?_
      have := eType_code_of_ofCode he
      have := rm_code_of_ofCode hr
      change _ + _ * _ + _ * _ + _ * _ + _ * _ + _ * _ + _ * _ = w
      have hp := parts_eq hw [5, 2, 3, 3, 4, 4, 4, 7] rfl
      simp only [fin_val 3, fin_val 4, parts, Nat.reduceAdd, Nat.reducePow] at hp ⊢
      omega
  iterate 2
    refine encodes_ite (fun h => ?_) ?_
    · refine encodes_bind fun e he => ?_
      refine encodes_some ?_
      have := eType_code_of_ofCode he
      change _ + _ * _ + _ * _ + _ * _ + _ * _ + _ * _ = w
      have hp := parts_eq hw [7, 3, 3, 4, 4, 4, 7] rfl
      simp only [fin_val 3, fin_val 4, parts, Nat.reduceAdd, Nat.reducePow] at hp ⊢
      omega
  iterate 2
    refine encodes_ite (fun h => ?_) ?_
    · refine encodes_bind fun e he => ?_
      refine encodes_bind fun r hr => ?_
      refine encodes_some ?_
      have := eType_code_of_ofCode he
      have := rm_code_of_ofCode hr
      change _ + _ * _ + _ * _ + _ * _ + _ * _ + _ * _ = w
      have hp := parts_eq hw [5, 2, 3, 3, 4, 4, 4, 7] rfl
      simp only [fin_val 3, fin_val 4, parts, Nat.reduceAdd, Nat.reducePow] at hp ⊢
      omega
  iterate 6
    refine encodes_ite (fun h => ?_) ?_
    · refine encodes_bind fun e he => ?_
      refine encodes_some ?_
      have := eType_code_of_ofCode he
      change _ + _ * _ + _ * _ + _ * _ + _ * _ + _ * _ = w
      have hp := parts_eq hw [7, 3, 3, 4, 4, 4, 7] rfl
      simp only [fin_val 3, fin_val 4, parts, Nat.reduceAdd, Nat.reducePow] at hp ⊢
      omega
  iterate 2
    refine encodes_ite (fun h => ?_) ?_
    · refine encodes_bind fun e he => ?_
      refine encodes_bind fun r hr => ?_
      refine encodes_some ?_
      have := eType_code_of_ofCode he
      have := rm_code_of_ofCode hr
      change _ + _ * _ + _ * _ + _ * _ + _ * _ + _ * _ + _ * _ = w
      have hp := parts_eq hw [5, 2, 3, 3, 4, 4, 4, 7] rfl
      simp only [fin_val 3, fin_val 4, parts, Nat.reduceAdd, Nat.reducePow] at hp ⊢
      omega
  exact encodes_none w

theorem encodes_decode41 {w : Nat} (hw : w < 2 ^ 32) (hM : fld w 25 7 = 0x41) : Encodes w (decode41 w) := by
  unfold decode41
  refine encodes_ite (fun h => ?_) ?_
  · refine encodes_bind fun e he => ?_
    refine encodes_bind fun c hc => ?_
    refine encodes_some ?_
    have := eType_code_of_ofCode he
    have := vCond_code_of_ofCode hc
    change _ + _ * _ + _ * _ + _ * _ + _ * _ + _ * _ + _ = w
    have hp := parts_eq hw [3, 4, 3, 3, 4, 4, 3, 1, 7] rfl
    simp only [fin_val 3, fin_val 4, parts, Nat.reduceAdd, Nat.reducePow] at hp ⊢
    omega
  refine encodes_ite (fun h => ?_) ?_
  · refine encodes_bind fun o ho => ?_
    refine encodes_some ?_
    have := mLogOp_code_of_ofCode ho
    change _ + _ * _ + _ * _ + _ * _ + _ = w
    have hp := parts_eq hw [2, 5, 3, 3, 3, 1, 3, 1, 3, 1, 7] rfl
    simp only [fin_val 3, parts, Nat.reduceAdd, Nat.reducePow] at hp ⊢
    omega
  iterate 3
    refine encodes_ite (fun h => ?_) ?_
    · refine encodes_bind fun e he => ?_
      refine encodes_some ?_
      have := eType_code_of_ofCode he
      change _ + _ * _ + _ * _ + _ * _ + _ * _ + _ * _ = w
      have hp := parts_eq hw [7, 3, 3, 4, 4, 4, 7] rfl
      simp only [fin_val 3, fin_val 4, parts, Nat.reduceAdd, Nat.reducePow] at hp ⊢
      omega
  refine encodes_ite (fun h => ?_) ?_
  · refine encodes_some ?_
    change _ + _ * _ + _ * _ = w
    have hp := parts_eq hw [7, 3, 3, 4, 3, 1, 4, 7] rfl
    simp only [fin_val 3, fin_val 4, parts, Nat.reduceAdd, Nat.reducePow] at hp ⊢
    omega
  exact encodes_none w

theorem encodes_decode42 {w : Nat} (hw : w < 2 ^ 32) (hM : fld w 25 7 = 0x42) : Encodes w (decode42 w) := by
  unfold decode42
  iterate 2
    refine encodes_ite (fun h => ?_) ?_
    · refine encodes_bind fun e he => ?_
      refine encodes_some ?_
      have := eType_code_of_ofCode he
      change _ + _ * _ + _ * _ + _ * _ + _ * _ + _ * _ = w
      have hp := parts_eq hw [7, 3, 3, 4, 4, 4, 7] rfl
      simp only [fin_val 3, fin_val 4, parts, Nat.reduceAdd, Nat.reducePow] at hp ⊢
      omega
  refine encodes_ite (fun h => ?_) ?_
  · refine encodes_bind fun e he => ?_
    refine encodes_some ?_
    have := eType_code_of_ofCode he
    change _ + _ * _ + _ * _ + _ * _ + _ * _ = w
    have hp := parts_eq hw [7, 3, 3, 4, 4, 4, 7] rfl
    simp only [fin_val 3, fin_val 4, parts, Nat.reduceAdd, Nat.reducePow] at hp ⊢
    omega
  iterate 2
    refine encodes_ite (fun h => ?_) ?_
    · refine encodes_bind fun e he => ?_
      refine encodes_some ?_
      have := eType_code_of_ofCode he
      change _ + _ * _ + _ * _ + _ * _ + _ * _ = w
      have hp := parts_eq hw [7, 3, 3, 4, 4, 4, 7] rfl
      simp only [fin_val 4, parts, Nat.reduceAdd, Nat.reducePow] at hp ⊢
      omega
  exact encodes_none w

theorem encodes_decode43 {w : Nat} (hw : w < 2 ^ 32) (hM : fld w 25 7 = 0x43) : Encodes w (decode43 w) := by
  unfold decode43
  iterate 3
    refine encodes_ite (fun h => ?_) ?_
    · refine encodes_bind fun e he => ?_
      refine encodes_some ?_
      have := eType_code_of_ofCode he
      change _ + _ * _ + _ * _ + _ * _ + _ * _ = w
      have hp := parts_eq hw [7, 3, 3, 4, 4, 4, 7] rfl
      simp only [fin_val 3, fin_val 4, parts, Nat.reduceAdd, Nat.reducePow] at hp ⊢
      omega
  exact encodes_none w

theorem encodes_decode44 {w : Nat} (hw : w < 2 ^ 32) (hM : fld w 25 7 = 0x44) : Encodes w (decode44 w) := by
  unfold decode44
  refine encodes_ite (fun h => ?_) ?_
  · refine encodes_bind fun e he => ?_
    refine encodes_some ?_
    have := eType_code_of_ofCode he
    change _ + _ * _ + _ * _ + _ * _ + _ * _ = w
    have hp := parts_eq hw [7, 3, 3, 4, 4, 4, 7] rfl
    simp only [fin_val 4, parts, Nat.reduceAdd, Nat.reducePow] at hp ⊢
    omega
  exact encodes_none w

theorem encodes_decode45 {w : Nat} (hw : w < 2 ^ 32) (hM : fld w 25 7 = 0x45) : Encodes w (decode45 w) := by
  unfold decode45
  refine encodes_ite (fun h => ?_) ?_
  · refine encodes_bind fun e he => ?_
    refine encodes_some ?_
    have := eType_code_of_ofCode he
    change _ + _ * _ + _ * _ + _ * _ + _ * _ = w
    have hp := parts_eq hw [7, 3, 3, 4, 4, 4, 7] rfl
    simp only [fin_val 4, parts, Nat.reduceAdd, Nat.reducePow] at hp ⊢
    omega
  refine encodes_ite (fun h => ?_) ?_
  · refine encodes_some ?_
    change _ + _ * _ = w
    have hp := parts_eq hw [7, 3, 3, 4, 4, 4, 7] rfl
    simp only [fin_val 4, parts, Nat.reduceAdd, Nat.reducePow] at hp ⊢
    omega
  exact encodes_none w

theorem encodes_decode46 {w : Nat} (hw : w < 2 ^ 32) (hM : fld w 25 7 = 0x46) : Encodes w (decode46 w) := by
  unfold decode46
  iterate 2
    refine encodes_ite (fun h => ?_) ?_
    · refine encodes_bind fun e he => ?_
      refine encodes_some ?_
      have := eType_code_of_ofCode he
      change _ + _ * _ + _ * _ + _ * _ + _ * _ = w
      have hp := parts_eq hw [7, 3, 3, 4, 4, 4, 7] rfl
      simp only [fin_val 3, fin_val 4, parts, Nat.reduceAdd, Nat.reducePow] at hp ⊢
      omega
  iterate 2
    refine encodes_ite (fun h => ?_) ?_
    · refine encodes_bind fun e he => ?_
      refine encodes_some ?_
      have := eType_code_of_ofCode he
      change _ + _ * _ + _ * _ + _ * _ + _ * _ = w
      have hp := parts_eq hw [7, 3, 3, 4, 3, 1, 4, 7] rfl
      simp only [fin_val 3, fin_val 4, parts, Nat.reduceAdd, Nat.reducePow] at hp ⊢
      omega
  iterate 2
    refine encodes_ite (fun h => ?_) ?_
    · refine encodes_bind fun e he => ?_
      refine encodes_some ?_
      have := eType_code_of_ofCode he
      change _ + _ * _ + _ * _ + _ * _ + _ * _ + _ * _ = w
      have hp := parts_eq hw [7, 3, 3, 4, 4, 4, 7] rfl
      simp only [fin_val 3, fin_val 4, parts, Nat.reduceAdd, Nat.reducePow] at hp ⊢
      omega
  iterate 3
    refine encodes_ite (fun h => ?_) ?_
    · refine encodes_bind fun e he => ?_
      refine encodes_some ?_
      have := eType_code_of_ofCode he
      change _ + _ * _ + _ * _ + _ * _ = w
      have hp := parts_eq hw [7, 3, 3, 3, 5, 4, 7] rfl
      simp only [fin_val 4, fin_val 5, parts, Nat.reduceAdd, Nat.reducePow] at hp ⊢
      omega
  exact encodes_none w

theorem encodes_decode60 {w : Nat} (hw : w < 2 ^ 32) (hM : fld w 25 7 = 0x60) : Encodes w (decode60 w) := by
  unfold decode60
  refine encodes_ite (fun h => ?_) ?_
  · refine encodes_bind fun e he => ?_
    refine encodes_bind fun r hr => ?_
    refine encodes_some ?_
    have := eType2_code_of_ofCode he
    have := rm_code_of_ofCode hr
    change _ + _ * _ + _ * _ + _ * _ + _ * _ + _ * _ + _ * _ = w
    have hp := parts_eq hw [5, 2, 1, 2, 3, 4, 4, 4, 7] rfl
    simp only [fin_val 3, fin_val 4, parts, Nat.reduceAdd, Nat.reducePow] at hp ⊢
    omega
  iterate 6
    refine encodes_ite (fun h => ?_) ?_
    · refine encodes_bind fun e he => ?_
      refine encodes_bind fun r hr => ?_
      refine encodes_some ?_
      have := eType2_code_of_ofCode he
      have := rm_code_of_ofCode hr
      change _ + _ * _ + _ * _ + _ * _ + _ * _ + _ * _ = w
      have hp := parts_eq hw [5, 2, 1, 2, 3, 4, 4, 4, 7] rfl
      simp only [fin_val 3, fin_val 4, parts, Nat.reduceAdd, Nat.reducePow] at hp ⊢
      omega
  exact encodes_none w

theorem encodes_decode68 {w : Nat} (hw : w < 2 ^ 32) (hM : fld w 25 7 = 0x68) : Encodes w (decode68 w) := by
  unfold decode68
  iterate 2
    refine encodes_ite (fun h => ?_) ?_
    · refine encodes_bind fun e he => ?_
      refine encodes_some ?_
      have := eType_code_of_ofCode he
      change _ + _ * _ + _ * _ + _ * _ + _ * _ = w
      have hp := parts_eq hw [7, 3, 3, 2, 2, 4, 4, 7] rfl
      simp only [fin_val 2, fin_val 4, parts, Nat.reduceAdd, Nat.reducePow] at hp ⊢
      omega
  refine encodes_ite (fun h => ?_) ?_
  · refine encodes_bind fun e he => ?_
    refine encodes_some ?_
    have := eType_code_of_ofCode he
    change _ + _ * _ + _ * _ + _ * _ + _ * _ = w
    have hp := parts_eq hw [7, 3, 3, 4, 4, 4, 7] rfl
    simp only [fin_val 4, parts, Nat.reduceAdd, Nat.reducePow] at hp ⊢
    omega
  exact encodes_none w

theorem encodes_decode69 {w : Nat} (hw : w < 2 ^ 32) (hM : fld w 25 7 = 0x69) : Encodes w (decode69 w) := by
  unfold decode69
  refine encodes_ite (fun h => ?_) ?_
  · refine encodes_bind fun e he => ?_
    refine encodes_some ?_
    have := eType_code_of_ofCode he
    change _ + _ * _ + _ * _ + _ * _ + _ * _ = w
    have hp := parts_eq hw [7, 3, 3, 4, 4, 4, 7] rfl
    simp only [fin_val 4, parts, Nat.reduceAdd, Nat.reducePow] at hp ⊢
    omega
  refine encodes_ite (fun h => ?_) ?_
  · refine encodes_some ?_
    change _ + _ * _ + _ * _ = w
    have hp := parts_eq hw [7, 3, 3, 4, 4, 4, 7] rfl
    simp only [fin_val 4, parts, Nat.reduceAdd, Nat.reducePow] at hp ⊢
    omega
  exact encodes_none w

theorem encodes_decode70 {w : Nat} (hw : w < 2 ^ 32) (hM : fld w 25 7 = 0x70) : Encodes w (decode70 w) := by
  unfold decode70
  refine encodes_ite (fun h => ?_) ?_
  · refine encodes_bind fun e he => ?_
    refine encodes_some ?_
    have := eType_code_of_ofCode he
    change _ + _ * _ + _ * _ + _ = w
    have hp := parts_eq hw [3, 7, 5, 5, 5, 7] rfl
    simp only [fin_val 5, parts, Nat.reduceAdd, Nat.reducePow] at hp ⊢
    omega
  exact encodes_none w

theorem encodes_decode71 {w : Nat} (hw : w < 2 ^ 32) (hM : fld w 25 7 = 0x71) : Encodes w (decode71 w) := by
  unfold decode71
  iterate 3
    refine encodes_ite (fun h => ?_) ?_
    · refine encodes_some ?_
      change _ + _ * _ + _ = w
      have hp := parts_eq hw [3, 7, 5, 5, 5, 7] rfl
      simp only [fin_val 3, fin_val 5, parts, Nat.reduceAdd, Nat.reducePow] at hp ⊢
      omega
  refine encodes_ite (fun h => ?_) ?_
  · refine encodes_some ?_
    change _ + _ = w
    have hp := parts_eq hw [3, 7, 5, 5, 5, 7] rfl
    simp only [fin_val 3, parts, Nat.reduceAdd, Nat.reducePow] at hp ⊢
    omega
  exact encodes_none w

theorem encodes_decode72 {w : Nat} (hw : w < 2 ^ 32) (hM : fld w 25 7 = 0x72) : Encodes w (decode72 w) := by
  unfold decode72
  refine encodes_ite (fun h => ?_) ?_
  · refine encodes_some ?_
    change _ + _ * _ + _ = w
    have hp := parts_eq hw [5, 5, 5, 5, 5, 7] rfl
    simp only [fin_val 5, parts, Nat.reduceAdd, Nat.reducePow] at hp ⊢
    omega
  refine encodes_ite (fun h => ?_) ?_
  · refine encodes_some ?_
    change _ + _ * _ + _ * _ + _ = w
    have hp := parts_eq hw [5, 5, 5, 5, 4, 1, 7] rfl
    simp only [fin_val 4, fin_val 5, parts, Nat.reduceAdd, Nat.reducePow] at hp ⊢
    omega
  iterate 3
    refine encodes_ite (fun h => ?_) ?_
    · refine encodes_some ?_
      change _ + _ * _ + _ = w
      have hp := parts_eq hw [5, 5, 5, 5, 5, 7] rfl
      simp only [fin_val 5, parts, Nat.reduceAdd, Nat.reducePow] at hp ⊢
      omega
  refine encodes_ite (fun h => ?_) ?_
  · refine encodes_some ?_
    change _ + _ = w
    have hp := parts_eq hw [5, 5, 5, 5, 5, 7] rfl
    simp only [fin_val 5, parts, Nat.reduceAdd, Nat.reducePow] at hp ⊢
    omega
  refine encodes_ite (fun h => ?_) ?_
  · refine encodes_some ?_
    change _ + _ * _ + _ * _ + _ = w
    have hp := parts_eq hw [5, 5, 4, 1, 5, 5, 7] rfl
    simp only [fin_val 4, fin_val 5, parts, Nat.reduceAdd, Nat.reducePow] at hp ⊢
    omega
  refine encodes_ite (fun h => ?_) ?_
  · refine encodes_some ?_
    change _ + _ * _ + _ * _ + _ * _ + _ = w
    have hp := parts_eq hw [5, 5, 4, 1, 5, 5, 7] rfl
    simp only [fin_val 4, fin_val 5, parts, Nat.reduceAdd, Nat.reducePow] at hp ⊢
    omega
  refine encodes_ite (fun h => ?_) ?_
  · refine encodes_some ?_
    change _ + _ * _ = w
    have hp := parts_eq hw [10, 5, 5, 5, 7] rfl
    simp only [fin_val 5, parts, Nat.reduceAdd, Nat.reducePow] at hp ⊢
    omega
  exact encodes_none w

end Sys2Proof.Encoding

namespace Sys2Proof.Encoding
open Sys2Proof

/-! ## A T word and the parts of `decodeBits` -/

/-- The fields of a T word: engine, command, major, and the operand fields. -/
theorem tileWord_fields {w e c : Nat} {t : TWord} (he : e < 8) (hc : c < 64) (hw : tileWord e c t = w) :
    fld w 25 7 = 0x7E ∧ fld w 22 3 = e ∧ fld w 16 6 = c ∧ tword w = t := by
  have hword : word (0x7E * 2 ^ 25) [(0, 12), (12, 4), (16, 6), (22, 3), (32, 32), (64, 32), (96, 32), (128, 32), (160, 32), (192, 32), (224, 32)]
      [t.flags.toNat, t.guard.val, c, e, t.w1.toNat, t.w2.toNat, t.w3.toNat, t.w4.toNat, t.w5.toNat, t.w6.toNat, t.w7.toNat] = w := by
    rw [← hw]
    simp only [word, term, tileWord]
    ring
  obtain ⟨hK, hflags, hguard, hcmd, heng, h1, h2, h3, h4, h5, h6, h7, -⟩ := fields _ _ hword rfl rfl
    ⟨t.flags.isLt, t.guard.isLt, hc, he, t.w1.isLt, t.w2.isLt, t.w3.isLt, t.w4.isLt, t.w5.isLt, t.w6.isLt, t.w7.isLt, trivial⟩
  refine ⟨hK 25 7 rfl, heng, hcmd, ?_⟩
  cases t
  simp only [tword, TWord.mk.injEq, imm_eq_iff, fin_eq_iff (n := 16) 4 rfl]
  exact ⟨hflags, hguard, h1, h2, h3, h4, h5, h6, h7⟩

theorem tileWord_tword {w : Nat} (hw : w < 2 ^ 256) (hM : fld w 25 7 = 0x7E) : tileWord (fld w 22 3) (fld w 16 6) (tword w) = w := by
  have hp := mod_add_parts w [12, 4, 6, 3, 7, 32, 32, 32, 32, 32, 32, 32] 0
  rw [show 0 + [12, 4, 6, 3, 7, 32, 32, 32, 32, 32, 32, 32].sum = 256 from rfl, Nat.mod_eq_of_lt hw, Nat.pow_zero, Nat.mod_one] at hp
  simp only [parts, Nat.reduceAdd] at hp
  simp only [tileWord, tword, toNat_imm, fin_val (n := 16) 4 rfl]
  omega

/-- The tile commands. -/
def tile : Instr → Bool
  | .mwld _ | .mswap _ | .mact _ | .mdrn _ | .mzero _ | .msync _ | .cpyB _ | .cpyC _ | .cpyG _ | .cpyF _ | .crs _ | .cag _ | .car _
  | .cbc _ => true
  | _ => false

theorem decodeBits_encode_tile {w : Nat} {i : Instr} (hi : tile i = true) (hw : encode i = w) : decodeBits w = some i := by
  cases i with
  | mwld t | mswap t | mact t | mdrn t | mzero t | msync t | cpyB t | cpyC t | cpyG t | cpyF t | crs t | cag t | car t | cbc t =>
    obtain ⟨hM, he, hc, ht⟩ := tileWord_fields (by decide) (by decide) hw
    simp [decodeBits, isTile, decodeTile, hM, he, hc, ht]
  | _ => nomatch hi

/-- What `decodeTile` answers is well-formed, and encodes to a word of the engine and command that were read. -/
theorem encode_of_decodeTile {w : Nat} {i : Instr} (h : decodeTile w = some i) :
    i.wf = true ∧ encode i = tileWord (fld w 22 3) (fld w 16 6) (tword w) := by
  unfold decodeTile at h
  split at h
  case h_15 => exact nomatch h
  all_goals
    next he hc =>
      cases h
      rw [he, hc]
      exact ⟨rfl, rfl⟩

theorem decodeBits_word {w : Nat} (hw : w < 2 ^ 32) (hM : fld w 25 7 ≠ 0x7E) : decodeBits w = (decodeRaw w).filter Instr.wf := by
  rw [decodeBits, if_neg (by simpa [isTile] using hM), decode32, Nat.mod_eq_of_lt hw]

theorem encodes_decodeRaw {w : Nat} (hw : w < 2 ^ 32) : Encodes w (decodeRaw w) := by
  unfold decodeRaw
  split
  · next h => exact encodes_decode01 hw h
  · next h => exact encodes_decode02 hw h
  · next h => exact encodes_decode03 hw h
  · next h => exact encodes_decode04 hw h
  · next h => exact encodes_decode05 hw h
  · next h => exact encodes_decode06 hw h
  · next h => exact encodes_decode07 hw h
  · next h => exact encodes_decode08 hw h
  · next h => exact encodes_decode09 hw h
  · next h => exact encodes_decode0A hw h
  · next h => exact encodes_decode0B hw h
  · next h => exact encodes_decode0D hw h
  · next h => exact encodes_decode0E hw h
  · next h => exact encodes_decode0F hw h
  · next h => exact encodes_decode10 hw h
  · next h => exact encodes_decode11 hw h
  · next h => exact encodes_decode12 hw h
  · next h => exact encodes_decode13 hw h
  · next h => exact encodes_decode14 hw h
  · next h => exact encodes_decode18 hw h
  · next h => exact encodes_decode19 hw h
  · next h => exact encodes_decode1A hw h
  · next h => exact encodes_decode1B hw h
  · next h => exact encodes_decode1C hw h
  · next h => exact encodes_decode1D hw h
  · next h => exact encodes_decode1E hw h
  · next h => exact encodes_decode1F hw h
  · next h => exact encodes_decode20 hw h
  · next h => exact encodes_decode21 hw h
  · next h => exact encodes_decode22 hw h
  · next h => exact encodes_decode30 hw h
  · next h => exact encodes_decode31 hw h
  · next h => exact encodes_decode40 hw h
  · next h => exact encodes_decode41 hw h
  · next h => exact encodes_decode42 hw h
  · next h => exact encodes_decode43 hw h
  · next h => exact encodes_decode44 hw h
  · next h => exact encodes_decode45 hw h
  · next h => exact encodes_decode46 hw h
  · next h => exact encodes_decode60 hw h
  · next h => exact encodes_decode68 hw h
  · next h => exact encodes_decode69 hw h
  · next h => exact encodes_decode70 hw h
  · next h => exact encodes_decode71 hw h
  · next h => exact encodes_decode72 hw h
  · exact encodes_none w

/-- Only an event has no word. -/
theorem encode_eq_zero {i : Instr} (h : (lower i || middle i || vectorial i || upper i || tile i) = false) : encode i = 0 := by
  cases i <;> first | exact Bool.noConfusion (show true = false from h) | rfl

/-- The word of an instruction that is no tile command has 32 bits and decodes to it, before the checks of `Instr.wf`. -/
theorem decodeRaw_encode {i : Instr} (h0 : encode i ≠ 0) (ht : tile i = false) :
    encode i < 2 ^ 32 ∧ decodeRaw (encode i) = some i := by
  cases hl : lower i with
  | true => exact decodeRaw_encode_lower hl rfl
  | false =>
  cases hm : middle i with
  | true => exact decodeRaw_encode_middle hm rfl
  | false =>
  cases hv : vectorial i with
  | true => exact decodeRaw_encode_vectorial hv rfl
  | false =>
  cases hu : upper i with
  | true => exact decodeRaw_encode_upper hu rfl
  | false => exact absurd (encode_eq_zero (by simp [hl, hm, hv, hu, ht])) h0

/-- No 32-bit instruction has the major of a T word. -/
theorem major_ne_of_decodeRaw {w : Nat} {i : Instr} (h : decodeRaw w = some i) : fld w 25 7 ≠ 0x7E := by
  intro hM
  simp [decodeRaw, hM] at h

theorem decodeBits_encode {i : Instr} (hwf : i.wf = true) (h0 : encode i ≠ 0) : decodeBits (encode i) = some i := by
  cases ht : tile i with
  | true => exact decodeBits_encode_tile ht rfl
  | false =>
    obtain ⟨hlt, h⟩ := decodeRaw_encode h0 ht
    rw [decodeBits_word hlt (major_ne_of_decodeRaw h), h, Option.filter_some, if_pos hwf]

theorem wf_encode_of_decodeBits {w : Nat} {i : Instr} (hw : w < 2 ^ 32) (hM : w / 2 ^ 25 ≠ 0x7E) (h : decodeBits w = some i) :
    i.wf = true ∧ encode i = w := by
  have hM : fld w 25 7 ≠ 0x7E := by
    rwa [fld, Nat.mod_eq_of_lt (by omega)]
  rw [decodeBits_word hw hM, Option.filter_eq_some_iff] at h
  exact ⟨h.2, encodes_decodeRaw hw i h.1⟩

theorem wf_encode_of_decodeBits_tile {w : Nat} {i : Instr} (hw : w < 2 ^ 256) (hM : w / 2 ^ 25 % 128 = 0x7E) (h : decodeBits w = some i) :
    i.wf = true ∧ encode i = w := by
  rw [decodeBits, if_pos (by simpa [isTile, fld] using hM)] at h
  obtain ⟨hwf, he⟩ := encode_of_decodeTile h
  exact ⟨hwf, he.trans (tileWord_tword hw hM)⟩

/-- Settles O50: a word is its constant and its operands in their slots, so every field read back is the one written; and conversely
a word is the sum of the fields that its decoder reads. -/
theorem decodeEncodeAgree : Obligations.DecodeEncodeAgree :=
  ⟨fun _ => decodeBits_encode, fun _ _ => wf_encode_of_decodeBits, fun _ _ => wf_encode_of_decodeBits_tile⟩

end Sys2Proof.Encoding

namespace Sys2Proof.Answers
open Sys2Proof Sys2Proof.Machine Sys2Proof.Claims

theorem takeEvent_cases (s : State) (f : Event → Option (State → State)) : ∃ t, takeEvent s f = .next t := by
  unfold takeEvent
  split
  · exact ⟨_, rfl⟩
  · split <;> exact ⟨_, rfl⟩

theorem takeEventO_cases (s : State) (f : Event → Option (State → Host.Outcome State Fault Refusal))
    (hf : ∀ e g, f e = some g → ∀ s, ∃ t, g s = .next t) : ∃ t, takeEventO s f = .next t := by
  unfold takeEventO
  split
  · exact ⟨_, rfl⟩
  · split
    · next h => exact hf _ _ h _
    · exact ⟨_, rfl⟩

theorem thresholdRead_cases (s : State) (w : Who) : ∃ t, s.thresholdRead w = .next t := by
  unfold State.thresholdRead
  simp only
  split
  · split
    iterate 5 exact finish_cases _ _ _ _
    exact ⟨_, rfl⟩
  · exact ⟨_, rfl⟩

theorem remoteAccess_cases (s : State) (w : Who) : ∃ t, s.remoteAccess w = .next t := by
  unfold State.remoteAccess
  simp only
  split
  · split
    · split
      · exact finish_cases _ _ _ _
      · exact ⟨_, rfl⟩
    · exact ⟨_, rfl⟩
  · exact ⟨_, rfl⟩

theorem coefficientTableLoad_cases (s : State) : ∃ t, execCoefficientTableLoad s = .next t := by
  unfold execCoefficientTableLoad
  split
  · simp only
    split
    · exact finish_cases _ _ _ _
    · exact ⟨_, rfl⟩
  · exact ⟨_, rfl⟩

theorem thresholdReadAtHome_cases (s : State) : ∃ t, execThresholdReadAtHome s = .next t := by
  refine takeEventO_cases _ _ fun e g h s => ?_
  split at h <;> cases h
  exact thresholdRead_cases _ _

theorem remoteWordAccess_cases (s : State) : ∃ t, execRemoteWordAccess s = .next t := by
  refine takeEventO_cases _ _ fun e g h s => ?_
  split at h <;> cases h
  exact remoteAccess_cases _ _

theorem exec_cases (i : Instr) (s : State) : ∃ t, exec i s = .next t := by
  cases i
  case coefficientTableLoad => exact coefficientTableLoad_cases s
  case thresholdReadAtHome => exact thresholdReadAtHome_cases s
  case remoteWordAccess => exact remoteWordAccess_cases s
  all_goals first | exact finish_cases _ _ _ _ | exact takeEvent_cases _ _

theorem actNow_cases (s : State) (e : Event) {f : State → Host.Outcome State Fault Refusal} (hf : ∀ s, ∃ t, f s = .next t) :
    ∃ t, s.actNow e f = .next t := by
  obtain ⟨t, h⟩ := exec_cases e.row { s with agenda := e :: s.agenda }
  obtain ⟨t', h'⟩ := hf t
  exact ⟨t', by simp only [State.actNow, h, h']⟩

theorem issueWord_cases (s : State) (w : Who) (bs : List Byte) : ∃ t, s.issueWord w bs = .next t := by
  unfold State.issueWord
  split
  · exact exec_cases _ _
  · exact actNow_cases _ _ fun s => ⟨s, rfl⟩

theorem fetchIssue_cases (s : State) (w : Who) : ∃ t, s.fetchIssue w = .next t := by
  unfold State.fetchIssue
  simp only
  split
  · exact ⟨_, rfl⟩
  · split
    · exact ⟨_, rfl⟩
    · split
      · exact actNow_cases _ _ fun s => issueWord_cases _ _ _
      · exact issueWord_cases _ _ _

theorem runTurn_cases (s : State) (w : Who) : ∃ t, s.runTurn w = .next t := by
  unfold State.runTurn
  split
  · exact ⟨_, rfl⟩
  · split
    · exact ⟨_, rfl⟩
    · simp only
      split
      · exact ⟨_, rfl⟩
      · exact fetchIssue_cases _ _

theorem parkTurn_cases (s : State) (w : Who) : ∃ t, s.parkTurn w = .next t := by
  unfold State.parkTurn
  simp only
  split
  · exact ⟨_, rfl⟩
  · split
    · exact runTurn_cases _ _
    · exact ⟨_, rfl⟩

theorem busyTurn_cases (s : State) (w : Who) : ∃ t, s.busyTurn w = .next t := by
  unfold State.busyTurn
  simp only
  split
  · exact ⟨_, rfl⟩
  · exact ⟨_, rfl⟩
  · split_ifs
    · exact ⟨_, rfl⟩
    · exact ⟨_, rfl⟩
    · split
      · exact exec_cases _ _
      · exact ⟨_, rfl⟩
    · exact exec_cases _ _
    · exact ⟨_, rfl⟩

/-- A slot's turn has an outcome, whatever the slot's state. -/
theorem turnOf_cases (s : State) : ∃ t, turnOf s = .next t := by
  unfold turnOf
  simp only
  split
  · exact ⟨_, rfl⟩
  · exact ⟨_, rfl⟩
  · exact runTurn_cases _ _
  · exact parkTurn_cases _ _
  · exact busyTurn_cases _ _
  · exact ⟨_, rfl⟩
  · exact ⟨_, rfl⟩

theorem eventStep_answers (s : State) (e : Event) : ∃ t, s.eventStep e = .next t := by
  obtain ⟨t, h⟩ := exec_cases e.row s
  exact ⟨s.afterEvent t, by rw [State.eventStep, h]⟩

theorem turnStep_answers (s : State) : ∃ t, s.turnStep = .next t := by
  obtain ⟨t, h⟩ := turnOf_cases s
  exact ⟨s.advanceTurn t, by rw [State.turnStep, h]⟩

/-- A step faults at no core of the rotation. -/
theorem step_answers {s : State} (hs : s.Inv) : ∃ t, step s = .next t := by
  unfold step
  split
  · exact eventStep_answers _ _
  · split_ifs with _ _ _ _ hturn
    · exact ⟨_, rfl⟩
    · exact eventStep_answers _ _
    · exact ⟨_, rfl⟩
    · exact ⟨_, rfl⟩
    · exact absurd hs.1 (Nat.not_lt.mpr hturn)
    · exact turnStep_answers _

/-- Settles O55: every meaning ends in `finish` or in `takeEvent`, which answer a next state, and what a turn does around it does too. -/
theorem onlyRotationFaults : Obligations.OnlyRotationFaults := by
  refine ⟨exec_cases, fun e s => exec_cases _ _, fun s f hs h => ?_⟩
  obtain ⟨t, ht⟩ := step_answers hs
  exact nomatch ht.symm.trans h

end Sys2Proof.Answers

namespace Sys2Proof.Encoding
open Sys2Proof

/-- Settles O51: the decoder reads each of the words written out. -/
theorem decodedWords : Obligations.DecodedWords := by
  refine ⟨?_, ?_, ?_, ?_, ?_, ?_, ?_⟩ <;> decide

end Sys2Proof.Encoding

namespace Sys2Proof.Frame
open Sys2Proof Sys2Proof.Machine Sys2Proof.Claims

/-! ### What a write of physical memory changes -/

/-- The second state differs from the first in what physical memory holds alone. -/
def MemOnly (s t : State) : Prop :=
  ∃ mem gkey codes poison upsets, t = { s with mem := mem, gkey := gkey, codes := codes, poison := poison, upsets := upsets }

theorem MemOnly.refl (s : State) : MemOnly s s := ⟨_, _, _, _, _, rfl⟩

theorem MemOnly.trans {s t u : State} (h : MemOnly s t) (h' : MemOnly t u) : MemOnly s u := by
  obtain ⟨m, g, c, p, x, rfl⟩ := h
  obtain ⟨m', g', c', p', x', rfl⟩ := h'
  exact ⟨m', g', c', p', x', rfl⟩

theorem memOnly_rekey (s : State) (g : Nat) : MemOnly s (s.rekey g) := by
  unfold State.rekey
  simp only
  split
  · exact .refl s
  · generalize s.pread (32 * g) 32 = bs
    exact ⟨_, _, _, _, _, rfl⟩

theorem memOnly_pwriteIn (s : State) (pa : Nat) (bs : List Byte) : MemOnly s (s.pwriteIn pa bs) :=
  (memOnly_rekey s (pa / 32)).trans ⟨_, _, _, _, _, rfl⟩

theorem memOnly_pwriteN : ∀ (n : Nat) (s : State) (pa : Nat) (bs : List Byte), MemOnly s (s.pwriteN pa bs n)
  | 0, s, _, _ => .refl s
  | n + 1, s, pa, bs => by
    unfold State.pwriteN
    split
    · exact .refl s
    · exact (memOnly_pwriteIn s pa _).trans (memOnly_pwriteN n _ _ _)

theorem memOnly_pwrite (s : State) (pa : Nat) (bs : List Byte) : MemOnly s (s.pwrite pa bs) := by
  unfold State.pwrite
  split
  · exact memOnly_pwriteN _ _ _ _
  · exact .refl s

theorem memOnly_setCodes (c : Fin 8) : ∀ (n : Nat) (s : State) (pa : Nat), MemOnly s (s.setCodes pa c n)
  | 0, s, _ => .refl s
  | n + 1, s, pa => by
    unfold State.setCodes
    split
    · exact .refl s
    · exact MemOnly.trans ⟨_, _, _, _, _, rfl⟩ (memOnly_setCodes c n _ _)

/-! ### What an error record changes (R368) -/

/-- The second state differs from the first in physical memory, in the error log's registers and in what it raises alone. -/
def Logged (s t : State) : Prop :=
  ∃ mem gkey codes poison upsets eltail ellost errClasses msixPending,
    t = { s with mem := mem, gkey := gkey, codes := codes, poison := poison, upsets := upsets, errClasses := errClasses, msixPending := msixPending, regs := { s.regs with eltail := eltail, ellost := ellost } }

theorem Logged.refl (s : State) : Logged s s := ⟨_, _, _, _, _, _, _, _, _, rfl⟩

theorem Logged.trans {s t u : State} (h : Logged s t) (h' : Logged t u) : Logged s u := by
  obtain ⟨_, _, _, _, _, _, _, _, _, rfl⟩ := h
  obtain ⟨_, _, _, _, _, _, _, _, _, rfl⟩ := h'
  exact ⟨_, _, _, _, _, _, _, _, _, rfl⟩

theorem logged_raiseMsix (s : State) (v : Nat) : Logged s (s.raiseMsix v) := by
  unfold State.raiseMsix
  split
  · exact .refl s
  · exact ⟨_, _, _, _, _, _, _, _, _, rfl⟩

theorem logged_logError (s : State) (ty sub core slot die module launch : Nat) (addr : Word) :
    Logged s (s.logError ty sub core slot die module launch addr) := by
  unfold State.logError
  simp only
  split
  · refine Logged.trans ?_ (logged_raiseMsix _ _)
    obtain ⟨m, g, c, p, u, h⟩ := memOnly_pwrite s (s.regs.elbase.toNat + 64 * (s.regs.eltail.toNat % s.regs.elsize.toNat))
      (errorRecord ty sub core slot die module launch addr s.gtime)
    rw [h]
    exact ⟨_, _, _, _, _, _, _, _, _, rfl⟩
  · exact ⟨_, _, _, _, _, _, _, _, _, rfl⟩

theorem Logged.core {s t : State} (h : Logged s t) (c : Nat) : t.core c = s.core c := by
  obtain ⟨_, _, _, _, _, _, _, _, _, rfl⟩ := h
  rfl

theorem Logged.agenda {s t : State} (h : Logged s t) : t.agenda = s.agenda := by
  obtain ⟨_, _, _, _, _, _, _, _, _, rfl⟩ := h
  rfl

theorem MemOnly.core {s t : State} (h : MemOnly s t) (c : Nat) : t.core c = s.core c := by
  obtain ⟨_, _, _, _, _, rfl⟩ := h
  rfl

theorem MemOnly.agenda {s t : State} (h : MemOnly s t) : t.agenda = s.agenda := by
  obtain ⟨_, _, _, _, _, rfl⟩ := h
  rfl

/-! ### Translation sees no core -/

theorem translate_cores (s : State) (cores : Tbl Core) (asid va : Nat) (acc : Acc) :
    ({ s with cores := cores } : State).translate asid va acc = s.translate asid va acc := rfl

theorem translate_updCore (s : State) (c : Nat) (f : Core → Core) (asid va : Nat) (acc : Acc) :
    (s.updCore c f).translate asid va acc = s.translate asid va acc := translate_cores ..

theorem translate_upd (s : State) (w : Who) (f : Slot → Slot) (asid va : Nat) (acc : Acc) :
    (s.upd w f).translate asid va acc = s.translate asid va acc := translate_cores ..

/-! ### Slots and what leaves them -/

@[simp] theorem at_post (s : State) (es : List Event) (w : Who) : (s.post es).at w = s.at w := rfl

@[simp] theorem th_post (s : State) (es : List Event) (w : Who) : (s.post es).th w = s.th w := rfl

@[simp] theorem core_post (s : State) (es : List Event) (c : Nat) : (s.post es).core c = s.core c := rfl

@[simp] theorem slot_post (s : State) (es : List Event) (c : Nat) (sl : Fin 16) : (s.post es).slot c sl = s.slot c sl := rfl

@[simp] theorem th_upd_same (s : State) (w : Who) (f : Slot → Slot) : (s.upd w f).th w = (f (s.at w)).th := by
  rw [State.th, State.at_upd_same]

theorem slot_of_slots {s t : State} {c : Nat} (h : (t.core c).slots = (s.core c).slots) (sl : Fin 16) : t.slot c sl = s.slot c sl :=
  congrArg (fun v : Vector Slot 16 => v[sl]) h

/-- A change of a core that leaves its slots. -/
theorem slot_updCore (s : State) (c c' : Nat) (f : Core → Core) (sl : Fin 16) (h : (f (s.core c)).slots = (s.core c).slots) :
    (s.updCore c f).slot c' sl = s.slot c' sl := by
  refine slot_of_slots ?_ sl
  rw [State.core_updCore]
  split
  · next hc => rw [h, hc]
  · rfl

theorem slot_postEvent (s : State) (c c' : Nat) (e : SysEvent) (head : Bool) (sl : Fin 16) :
    (s.postEvent c e head).slot c' sl = s.slot c' sl := slot_updCore s c c' _ sl rfl

theorem slot_upd_other (s : State) (w : Who) (f : Slot → Slot) {c : Nat} {sl : Fin 16} (h : ¬ (c = w.core ∧ sl = w.slot)) :
    (s.upd w f).slot c sl = s.slot c sl := by
  refine (s.at_upd w ⟨c, sl⟩ f).trans (if_neg fun h' => h ?_)
  rw [← h']
  exact ⟨rfl, rfl⟩

theorem slot_upd (s : State) (w : Who) (f : Slot → Slot) (c : Nat) (sl : Fin 16) :
    (s.upd w f).slot c sl = if c = w.core ∧ sl = w.slot then f (s.at w) else s.slot c sl := by
  split
  · next h =>
    obtain ⟨rfl, rfl⟩ := h
    exact State.at_upd_same _ w _
  · next h => exact slot_upd_other _ _ _ h

theorem Logged.slot {s t : State} (h : Logged s t) (c : Nat) (sl : Fin 16) : t.slot c sl = s.slot c sl :=
  slot_of_slots (congrArg Core.slots (h.core c)) sl

/-! ### Taking a trap (R94 to R99) -/

/-- What a trap leaves in the slot that takes it. -/
def trapped (now code sub : Nat) (async insn : Bool) (tval epc : Word) (x : Slot) : Slot :=
  { x with st := .trap, cause := causeWord code async sub, epc := epc, tval := tval, insn := insn, fromPark := x.st == .park,
           consulted := false, migrAt := if code = 0x03 then some now else x.migrAt, migrTo := if code = 0x03 then some (4096 + sub) else none }

/-- The capture units replaced: what leaving PARK may do. -/
def withCaptures (s : State) (cs : Tbl Capture) : State := { s with captures := cs }

theorem unpark_withCaptures (s : State) (w : Who) : ∃ cs, s.unpark w = withCaptures s cs := s.unpark_eq w

theorem takeTrap_migrate (s : State) (w : Who) (sub : Nat) (async insn : Bool) (tval epc : Word) (hw : w.slot ≠ 15) :
    ∃ cs, s.takeTrap w 0x03 async sub tval epc insn =
      ((withCaptures s cs).upd w (trapped s.gtime 0x03 sub async insn tval epc)).post [.derailleurMigration w.core w.slot] := by
  obtain ⟨cs, h⟩ := unpark_withCaptures s w
  refine ⟨cs, ?_⟩
  rw [State.takeTrap, if_neg hw, h, if_pos rfl]
  rfl

theorem takeTrap_user (s : State) (w : Who) (code sub : Nat) (async insn : Bool) (tval epc : Word) (hw : w.slot ≠ 15) (h3 : code ≠ 0x03) :
    ∃ cs t, (if code = 0x20 then Logged ((withCaptures s cs).upd w (trapped s.gtime code sub async insn tval epc)) t
        else t = (withCaptures s cs).upd w (trapped s.gtime code sub async insn tval epc)) ∧
      s.takeTrap w code async sub tval epc insn = t.postEvent w.core (.trap w.slot) (code == 0x20) := by
  obtain ⟨cs, h⟩ := unpark_withCaptures s w
  rw [State.takeTrap, if_neg hw, h]
  refine ⟨cs, _, ?_, (if_neg h3)⟩
  by_cases h20 : code = 0x20
  · rw [if_pos h20, if_pos h20]
    exact logged_logError _ _ _ _ _ _ _ _ _
  · rw [if_neg h20, if_neg h20]
    rfl

theorem slot_takeTrap (s : State) (w : Who) (code sub : Nat) (async insn : Bool) (tval epc : Word) (hw : w.slot ≠ 15) (c : Nat) (sl : Fin 16) :
    (s.takeTrap w code async sub tval epc insn).slot c sl =
      if c = w.core ∧ sl = w.slot then trapped s.gtime code sub async insn tval epc (s.at w) else s.slot c sl := by
  by_cases h3 : code = 0x03
  · subst h3
    obtain ⟨cs, h⟩ := takeTrap_migrate s w sub async insn tval epc hw
    rw [h]
    exact slot_upd (withCaptures s cs) w _ c sl
  · obtain ⟨cs, t, ht, h⟩ := takeTrap_user s w code sub async insn tval epc hw h3
    rw [h, slot_postEvent]
    refine Eq.trans ?_ (slot_upd (withCaptures s cs) w _ c sl)
    split at ht
    · exact ht.slot c sl
    · rw [ht]

theorem at_takeTrap (s : State) (w : Who) (code sub : Nat) (async insn : Bool) (tval epc : Word) (hw : w.slot ≠ 15) :
    (s.takeTrap w code async sub tval epc insn).at w = trapped s.gtime code sub async insn tval epc (s.at w) := by
  rw [State.at, slot_takeTrap s w code sub async insn tval epc hw, if_pos ⟨rfl, rfl⟩]

theorem events_takeTrap (s : State) (w : Who) (code sub : Nat) (async insn : Bool) (tval epc : Word) (hw : w.slot ≠ 15) :
    ((s.takeTrap w code async sub tval epc insn).core w.core).events =
      if code = 0x03 then (s.core w.core).events
      else if code = 0x20 then atHead (.trap w.slot) (s.core w.core).events else (s.core w.core).events ++ [.trap w.slot] := by
  have hupd (cs : Tbl Capture) (f : Slot → Slot) : (((withCaptures s cs).upd w f).core w.core).events = (s.core w.core).events :=
    State.core_upd_events _ _ _ _
  by_cases h3 : code = 0x03
  · subst h3
    obtain ⟨cs, h⟩ := takeTrap_migrate s w sub async insn tval epc hw
    rw [h, if_pos rfl]
    exact hupd cs _
  · obtain ⟨cs, t, ht, h⟩ := takeTrap_user s w code sub async insn tval epc hw h3
    rw [h, if_neg h3, State.postEvent, State.core_updCore_same]
    split at ht
    · next h20 => rw [if_pos h20, if_pos (by simp [h20]), ht.core, hupd]
    · next h20 => rw [if_neg h20, if_neg (by simp [h20]), ht, hupd]

theorem atHead_eq (e : SysEvent) (es : List SysEvent) :
    atHead e es = if es.length < 32 then e :: es else es.take 1 ++ e :: es.drop 1 := by
  cases es with
  | nil => rfl
  | cons x xs =>
    simp only [atHead, List.length_cons]
    by_cases h : xs.length < 31
    · rw [if_pos h, if_pos (by omega)]
    · rw [if_neg h, if_neg (by omega)]
      rfl

/-- What a fault in the system slot does to its core. -/
def ended (k : Core) : Core := { k with dead := true, slots := k.slots.set 15 { k.slots[15] with st := .trap } }

/-- A fault in the system slot ends the core, is logged and stops the core's launches (R99). -/
theorem systemFault_eq (s : State) (c : Nat) (addr : Word) : ∃ t, Logged s t ∧ s.systemFault c addr =
    (t.updCore c ended).post (((t.updCore c ended).launchesOn c).map fun n => Event.launchStop n .fault (some (checkReport 7 addr))) :=
  ⟨_, logged_logError _ _ _ _ _ _ _ _ _, rfl⟩

/-- The core of a system slot that faults. -/
theorem core_systemFault (s : State) (c : Nat) (addr : Word) : (s.systemFault c addr).core c = ended (s.core c) := by
  obtain ⟨t, ht, h⟩ := systemFault_eq s c addr
  rw [h, ← ht.core]
  exact State.core_updCore_same _ _ _

theorem slot_ended (k : Core) (sl : Fin 16) : (ended k).slots[sl] = if sl = 15 then { k.slots[sl] with st := .trap } else k.slots[sl] := by
  show (k.slots.set 15 { k.slots[15] with st := .trap })[sl.val] = _
  rw [Vector.getElem_set]
  by_cases h : sl = 15
  · subst h
    rfl
  · rw [if_neg (fun h' => h (Fin.ext h'.symm)), if_neg h]
    rfl

theorem mem_launchesOn {s : State} {c n : Nat} :
    n ∈ s.launchesOn c ↔ ∃ sl : Fin 16, (s.slot c sl).st ≠ .empty ∧ (s.slot c sl).st ≠ .reserved ∧ (s.slot c sl).launched = true ∧
      (s.slot c sl).task.launch = n := by
  have hslot : ∀ x, x ∈ (s.core c).slots.toList ↔ ∃ sl : Fin 16, s.slot c sl = x := fun x => by
    rw [Vector.mem_toList_iff, Vector.mem_iff_getElem]
    exact ⟨fun ⟨i, hi, h⟩ => ⟨⟨i, hi⟩, h⟩, fun ⟨sl, h⟩ => ⟨sl.val, sl.isLt, h⟩⟩
  simp only [State.launchesOn, List.mem_dedup, List.mem_filterMap, hslot]
  constructor
  · rintro ⟨x, ⟨sl, rfl⟩, hx⟩
    rw [Option.ite_none_right_eq_some] at hx
    simp only [Bool.and_eq_true, bne_iff_ne, and_assoc] at hx
    exact ⟨sl, hx.1, hx.2.1, hx.2.2.1, by simpa using hx.2.2.2⟩
  · rintro ⟨sl, he, hr, hl, rfl⟩
    exact ⟨_, ⟨sl, rfl⟩, by simp [he, hr, hl]⟩

/-- Every launch of a core stops as its system slot faults. -/
theorem stops_systemFault {s : State} {c n : Nat} (addr : Word) (hn : n ∈ s.launchesOn c) :
    Event.launchStop n .fault (some (checkReport 7 addr)) ∈ (s.systemFault c addr).agenda := by
  obtain ⟨t, ht, h⟩ := systemFault_eq s c addr
  have hcore : (t.updCore c ended).core c = ended (s.core c) := by rw [← ht.core]; exact State.core_updCore_same _ _ _
  rw [h]
  refine List.mem_append_right _ (List.mem_map_of_mem (mem_launchesOn.2 ?_))
  obtain ⟨sl, he, hr, hl, rfl⟩ := mem_launchesOn.1 hn
  have hslot : (t.updCore c ended).slot c sl = if sl = 15 then { s.slot c sl with st := .trap } else s.slot c sl := by
    rw [State.slot, hcore]
    exact slot_ended _ _
  refine ⟨sl, ?_⟩
  rw [hslot]
  split
  · exact ⟨by simp, by simp, hl, rfl⟩
  · exact ⟨he, hr, hl, rfl⟩

/-! ### TRAP and the return from it: O56 -/

theorem causeWord_eq {code sub : Nat} (async : Bool) (hc : code < 64) (hs : sub < 256) :
    causeWord code async sub = BitVec.ofNat 64 (code + (if async then 64 else 0) + 256 * sub) := by
  rw [causeWord, Nat.mod_eq_of_lt hc, Nat.mod_eq_of_lt hs, Nat.mul_comm sub]
  cases async <;> rfl

theorem mem_takeTrap (s : State) (w : Who) (code sub : Nat) (async insn : Bool) (tval epc : Word) (hw : w.slot ≠ 15) (h20 : code ≠ 0x20) :
    (s.takeTrap w code async sub tval epc insn).mem = s.mem := by
  by_cases h3 : code = 0x03
  · subst h3
    obtain ⟨cs, h⟩ := takeTrap_migrate s w sub async insn tval epc hw
    rw [h]
    rfl
  · obtain ⟨cs, t, ht, h⟩ := takeTrap_user s w code sub async insn tval epc hw h3
    rw [if_neg h20] at ht
    rw [h, ht]
    rfl

theorem user_takeTrap (s : State) (w : Who) (code sub : Nat) (async insn : Bool) (tval epc : Word) (hc : code < 64) (hs : sub < 256)
    (hw : w.slot ≠ 15) :
    let t := s.takeTrap w code async sub tval epc insn
    let x := s.at w
    let y := t.at w
    y.st = .trap ∧ y.cause = BitVec.ofNat 64 (code + (if async then 64 else 0) + 256 * sub) ∧ y.tval = tval ∧ y.epc = epc ∧ y.insn = insn ∧
      y.fromPark = (x.st == .park) ∧ y.th = x.th ∧ y.grbase = x.grbase ∧ y.grlen = x.grlen ∧ y.quantum = x.quantum ∧ y.lfpc = x.lfpc := by
  simp only [at_takeTrap s w code sub async insn tval epc hw, trapped, causeWord_eq async hc hs, and_self]

theorem at_systemFault {s : State} {w : Who} (addr : Word) (hw : w.slot = 15) :
    (s.systemFault w.core addr).at w = { s.at w with st := .trap } := by
  rw [State.at, State.slot, core_systemFault]
  exact (slot_ended _ _).trans (if_pos hw)

/-- A trap leaves its slot in TRAP, the system slot too. -/
theorem st_takeTrap (s : State) (w : Who) (code sub : Nat) (async insn : Bool) (tval epc : Word) :
    ((s.takeTrap w code async sub tval epc insn).at w).st = .trap := by
  by_cases hw : w.slot = 15
  · rw [State.takeTrap_system s w code sub async insn tval epc hw, at_systemFault tval hw]
  · rw [at_takeTrap s w code sub async insn tval epc hw]
    rfl

/-- Settles O56: `takeTrap` is a change of the slot, of the queue and, for a machine check, of the error log. -/
theorem trapEntryAndReturn : Obligations.TrapEntryAndReturn := by
  unfold Obligations.TrapEntryAndReturn
  intro s w code sub async insn tval epc hc hs
  refine ⟨fun hw => ?_, fun hw => ?_, ?_⟩
  · obtain ⟨h1, h2, h3, h4, h5, h6, h7, h8, h9, h10, h11⟩ := user_takeTrap s w code sub async insn tval epc hc hs hw
    refine ⟨h1, h2, h3, h4, h5, h6, h7, h8, h9, h10, h11, ?_, fun h => ?_, mem_takeTrap s w code sub async insn tval epc hw, fun c sl h => ?_⟩
    · rw [events_takeTrap s w code sub async insn tval epc hw, atHead_eq]
      by_cases h20 : code = 0x20
      · simp [h20]
      · simp [h20]
    · subst h
      obtain ⟨cs, h⟩ := takeTrap_migrate s w sub async insn tval epc hw
      rw [h]
      rfl
    · rw [slot_takeTrap s w code sub async insn tval epc hw, if_neg h]
  · rw [State.takeTrap_system s w code sub async insn tval epc hw, at_systemFault tval hw, core_systemFault]
    exact ⟨rfl, rfl, rfl, rfl, fun n hn => ⟨_, stops_systemFault tval hn, rfl⟩⟩
  · refine ⟨?_, ?_, rfl, fun v hv _ => (s.at_upd w v _).trans (if_neg hv)⟩
    · rw [State.returnTrap, State.at_upd_same]
    · rw [State.returnTrap, State.at_upd_same]

end Sys2Proof.Frame

namespace Sys2Proof.Turns
open Sys2Proof Sys2Proof.Machine Sys2Proof.Claims

theorem undefer_of_nil {s : State} {w : Who} (h : (s.at w).deferred = []) : s.undefer w = s := by
  simp [State.undefer, h]

theorem boundary_of_quiet {s : State} (h : quiet s) : s.boundary s.who = none := by
  obtain ⟨hm, hr, hd, ht, -⟩ := h
  simp [State.boundary, hm, hr, hd, ht]

theorem runTurn_of_quiet {s : State} (h : quiet s) : s.runTurn s.who = s.fetchIssue s.who := by
  have hb := boundary_of_quiet h
  obtain ⟨-, -, -, -, -, hheld, hev⟩ := h
  have hev : (s.who.slot = 15 && (s.core s.who.core).eie && !(s.core s.who.core).dead && !(s.core s.who.core).events.isEmpty) = false := by
    by_cases h15 : s.who.slot = 15
    · obtain h | h | h := hev h15 <;> simp [State.who] at h ⊢ <;> simp [h]
    · simp [h15]
  simp [State.runTurn, hb, hheld, hev]

theorem turnOf_run {s : State} (hst : (s.at s.who).st = .run) (hd : (s.at s.who).deferred = []) : turnOf s = s.runTurn s.who := by
  simp only [turnOf, undefer_of_nil hd, hst]

theorem step_run {s t : State} (h : atTurn s) (hst : (s.at s.who).st = .run) (hd : (s.at s.who).deferred = [])
    (ht : s.runTurn s.who = .next t) : step s = .next (s.advanceTurn t) := by
  rw [Rotation.step_atTurn h, State.turnStep, turnOf_run hst hd, ht]

/-! ### The code that is fetched: counting a turn leaves it -/

@[simp] theorem line?_upd (s : State) (w : Who) (f : Slot → Slot) (c asid va : Nat) :
    ((s.upd w f).core c).line? asid va = (s.core c).line? asid va := by
  simp [Core.line?]

@[simp] theorem th_countTurn (s : State) (w : Who) : (s.countTurn w).th w = s.th w := by
  simp only [State.countTurn, State.th, State.at_upd_same]
  split <;> rfl

@[simp] theorem asid_countTurn (s : State) (w : Who) : ((s.countTurn w).at w).asid = (s.at w).asid := by
  simp only [State.countTurn, State.at_upd_same]
  split <;> rfl

@[simp] theorem migrAt_countTurn (s : State) (w : Who) : ((s.countTurn w).at w).migrAt = (s.at w).migrAt := by
  simp only [State.countTurn, State.at_upd_same]
  split <;> rfl

theorem codeBad_countTurn (s : State) (w : Who) (n : Nat) : (s.countTurn w).codeBad w n = s.codeBad w n := by
  have hline (asid va : Nat) : ((s.countTurn w).core w.core).line? asid va = (s.core w.core).line? asid va := line?_upd ..
  have htr (asid va : Nat) : (s.countTurn w).translate asid va .fetch = s.translate asid va .fetch := Frame.translate_upd ..
  have hsram (k : Nat) : (s.countTurn w).sramBad (.l1i w.core) k = s.sramBad (.l1i w.core) k := rfl
  simp only [State.codeBad, th_countTurn, asid_countTurn, hline, htr, hsram]

theorem codeAt_countTurn (s : State) (w : Who) : (s.countTurn w).codeAt w = s.codeAt w := by
  have hline (asid va : Nat) : ((s.countTurn w).core w.core).line? asid va = (s.core w.core).line? asid va := line?_upd ..
  simp only [State.codeAt, th_countTurn, asid_countTurn, hline]

theorem codeAt_eq_some {s : State} {bs : List Byte} (h : codeOf s bs) : s.codeAt s.who = some bs := by
  obtain ⟨l, hl, rfl⟩ := h
  simp only [State.codeAt, Core.line?, Thread.fetchVa]
  exact congrArg _ hl

theorem codeAt_eq_none {s : State} (h : ∀ bs, ¬ codeOf s bs) : s.codeAt s.who = none := by
  by_contra hne
  obtain ⟨bs, hbs⟩ := Option.ne_none_iff_exists'.1 hne
  obtain ⟨l, hl, rfl⟩ := Option.map_eq_some_iff.1 hbs
  exact h _ ⟨l, hl, rfl⟩

theorem codeLen_eq (va : Nat) (bs : List Byte) :
    codeLen va bs = if natOf (bs.take 4) / 2 ^ 25 % 128 = 0x7E ∧ va % 32 = 0 then 32 else 4 := by
  simp [codeLen, isTile, fld]

theorem decodeAt_eq (s : State) (bs : List Byte) : decodeAt (s.th s.who).fetchVa bs = reads s bs := by
  simp [decodeAt, reads, isTile, fld, Thread.fetchVa]
  rfl

theorem countLmx_countTurn (s : State) : (s.countTurn s.who).countLmx s.who = issuing s := by
  simp [issuing, State.countLmx, State.countTurn]

theorem codeBad_countTurn_eq (s : State) (bs : List Byte) :
    (s.countTurn s.who).codeBad s.who (codeLen (s.th s.who).fetchVa bs) = brokenCode s bs := by
  rw [codeBad_countTurn, codeLen_eq]
  rfl

theorem fetchIssue_broken {s : State} {bs : List Byte} {sub : Nat} {a : Word} (hc : codeOf s bs) (hb : brokenCode s bs = some (sub, a)) :
    s.fetchIssue s.who = .next ((s.countTurn s.who).takeTrap s.who 0x20 false sub a (s.th s.who).pc false) := by
  simp only [State.fetchIssue, codeAt_countTurn, codeAt_eq_some hc, codeBad_countTurn_eq, hb, State.fetchFault, if_true, th_countTurn]

theorem fetchIssue_none {s : State} (hc : ∀ bs, ¬ codeOf s bs) :
    s.fetchIssue s.who = .next (((s.countTurn s.who).upd s.who fun x => { x with st := .busy, busy := .fetch, out := none }).post
      [.instructionFetchFill s.who.core s.who.slot]) := by
  simp only [State.fetchIssue, codeAt_countTurn, codeAt_eq_none hc]

theorem migrAt_issuing {s : State} : ((issuing s).at s.who).migrAt = (s.at s.who).migrAt := by
  rw [← countLmx_countTurn, State.countLmx]
  split
  · exact (congrArg Slot.migrAt (Frame.slot_updCore _ _ _ _ _ rfl)).trans (migrAt_countTurn s s.who)
  · exact migrAt_countTurn s s.who

theorem issuing_who (s : State) : (issuing s).who = s.who := by
  simp only [issuing]
  split <;> rfl

theorem fetchIssue_sound {s : State} {bs : List Byte} (hc : codeOf s bs) (hb : brokenCode s bs = none)
    (hm : (s.at s.who).migrAt = none) (hl : s.who.slot = 15 → (s.core s.turn).lmx = true → (s.core s.turn).lmxCount < 256) :
    s.fetchIssue s.who = (issuing s).issueWord s.who bs := by
  have hlmx : ((s.countTurn s.who).core s.who.core).lmx = (s.core s.who.core).lmx := State.core_upd_lmx _ _ _ _
  have hcount : ((s.countTurn s.who).core s.who.core).lmxCount = (s.core s.who.core).lmxCount := State.core_upd_lmxCount _ _ _ _
  have hover : (s.who.slot = 15 && (s.core s.who.core).lmx && decide (256 ≤ (s.core s.who.core).lmxCount)) = false := by
    rw [Bool.eq_false_iff]
    intro h
    simp only [Bool.and_eq_true, decide_eq_true_eq] at h
    exact absurd (hl h.1.1 h.1.2) (Nat.not_lt.mpr h.2)
  have hmigr : (issuing s).afterMigration s.who = issuing s := by
    simp only [State.afterMigration, migrAt_issuing, hm]
  simp only [State.fetchIssue, codeAt_countTurn, codeAt_eq_some hc, th_countTurn, codeBad_countTurn_eq, hb, hlmx, hcount, hover,
    countLmx_countTurn, hmigr, Bool.false_eq_true, if_false]

/-! ### The clauses of O54 -/

theorem sub_lt_of_codeBad {s : State} {w : Who} {n sub : Nat} {a : Word} (h : s.codeBad w n = some (sub, a)) : sub < 256 := by
  unfold State.codeBad at h
  simp only at h
  split at h
  · cases h
    decide
  · split at h
    · split at h
      · exact nomatch h
      · cases h
        decide
    · exact nomatch h

theorem th_issuing (s : State) : (issuing s).th s.who = s.th s.who := by
  rw [← countLmx_countTurn, State.countLmx]
  split
  · exact (congrArg Slot.th (Frame.slot_updCore _ _ _ _ _ rfl)).trans (th_countTurn s s.who)
  · exact th_countTurn s s.who

theorem fetchVa_issuing (s : State) : ((issuing s).th s.who).fetchVa = (s.th s.who).fetchVa := by rw [th_issuing]

theorem natOf_lt : ∀ bs : List Byte, natOf bs < 256 ^ bs.length
  | [] => by decide
  | b :: bs => by
    have hb : b.toNat < 256 := b.isLt
    have ih := natOf_lt bs
    simp only [natOf, List.length_cons, pow_succ]
    omega

theorem natOf_take_four (bs : List Byte) : natOf (bs.take 4) < 2 ^ 32 :=
  (natOf_lt _).trans_le (Nat.pow_le_pow_right (by decide) (List.length_take_le 4 bs))

/-- A word that is no instruction faults at once (R150). -/
theorem actNow_unassignedWord (s : State) (bs : List Byte) :
    s.actNow (.unassignedWord (BitVec.ofNat 32 (natOf (bs.take 4)))) .next =
      .next (s.takeTrap s.who 0x01 false 0 (BitVec.ofNat 64 (natOf (bs.take 4))) (s.th s.who).pc false) := by
  have hw : (BitVec.ofNat 32 (natOf (bs.take 4))).setWidth 64 = BitVec.ofNat 64 (natOf (bs.take 4)) := by
    apply BitVec.eq_of_toNat_eq
    simp only [BitVec.toNat_setWidth, BitVec.toNat_ofNat, Nat.mod_eq_of_lt (natOf_take_four bs)]
  rw [← hw]
  rfl

/-- The instruction, or the fault, of the code bytes at the PC. -/
theorem step_code {s : State} {bs : List Byte} (ha : atTurn s) (hst : (s.at s.who).st = .run) (hq : quiet s)
    (hm : (s.at s.who).migrAt = none) (hc : codeOf s bs)
    (hl : s.who.slot = 15 → (s.core s.turn).lmx = true → (s.core s.turn).lmxCount < 256) :
    (∀ sub a, brokenCode s bs = some (sub, a) → ∃ t, step s = .next (s.advanceTurn t) ∧ (t.at s.who).st = .trap ∧
      (s.who.slot ≠ 15 → (t.at s.who).cause = BitVec.ofNat 64 (0x20 + 256 * sub) ∧ (t.at s.who).tval = a ∧ (t.at s.who).epc = (s.th s.who).pc)) ∧
    (brokenCode s bs = none → (∀ i, reads s bs = some i →
      (∀ t, exec i (issuing s) = .next t → step s = .next (s.advanceTurn t)) ∧ (∀ r, exec i (issuing s) = .refused r → step s = .refused r)) ∧
    (reads s bs = none → step s = .next (s.advanceTurn ((issuing s).takeTrap s.who 0x01 false 0 (BitVec.ofNat 64 (natOf (bs.take 4)))
      (s.th s.who).pc false)))) := by
  have hd : (s.at s.who).deferred = [] := hq.2.2.2.2.1
  refine ⟨fun sub a hb => ?_, fun hb => ⟨fun i hi => ⟨fun t ht => ?_, fun r hr => ?_⟩, fun hi => ?_⟩⟩
  · refine ⟨_, step_run ha hst hd ((runTurn_of_quiet hq).trans (fetchIssue_broken hc hb)), Frame.st_takeTrap _ _ _ _ _ _ _ _, fun hw => ?_⟩
    rw [Frame.at_takeTrap _ _ _ _ _ _ _ _ hw]
    exact ⟨Frame.causeWord_eq false (by decide) (sub_lt_of_codeBad hb), rfl, rfl⟩
  · refine step_run ha hst hd ((runTurn_of_quiet hq).trans ((fetchIssue_sound hc hb hm hl).trans ?_))
    simp only [State.issueWord, fetchVa_issuing, decodeAt_eq, hi, ht]
  · obtain ⟨t, ht⟩ := Answers.exec_cases i (issuing s)
    exact nomatch ht.symm.trans hr
  · refine step_run ha hst hd ((runTurn_of_quiet hq).trans ((fetchIssue_sound hc hb hm hl).trans ?_))
    simp only [State.issueWord, th_issuing, decodeAt_eq, hi, actNow_unassignedWord, issuing_who]

theorem step_uncached {s : State} (ha : atTurn s) (hst : (s.at s.who).st = .run) (hq : quiet s) (hc : ∀ bs, ¬ codeOf s bs) :
    ∃ t, step s = .next (s.advanceTurn t) ∧ (t.at s.who).st = .busy ∧ (t.at s.who).busy = .fetch ∧ (t.th s.who).pc = (s.th s.who).pc ∧
      t.agenda = [.instructionFetchFill s.who.core s.who.slot] := by
  refine ⟨_, step_run ha hst hq.2.2.2.2.1 ((runTurn_of_quiet hq).trans (fetchIssue_none hc)), ?_, ?_, ?_, ?_⟩
  · rw [Frame.at_post, State.at_upd_same]
  · rw [Frame.at_post, State.at_upd_same]
  · rw [Frame.th_post, Frame.th_upd_same]
    exact congrArg Thread.pc (th_countTurn s s.who)
  · exact (congrArg (· ++ _) ha.1).trans (List.nil_append _)

theorem step_empty {s : State} (ha : atTurn s) (hst : (s.at s.who).st = .empty) : step s = .next (s.advanceTurn s) := by
  have hd : s.undefer s.who = s := by simp [State.undefer, hst]
  rw [Rotation.step_atTurn ha, State.turnStep, turnOf]
  simp only [hd, hst]

theorem step_eventFirst {s t : State} {e : Event} {rest : List Event} (h : s.agenda = e :: rest) (ht : exec e.row s = .next t)
    (hp : t.powered = s.powered) : step s = .next { t with turn := s.turn, gtime := s.gtime } := by
  rw [Rotation.step_event h, State.eventStep, ht]
  simp only [State.afterEvent, hp, if_true]

theorem runTurn_boundary {s t : State} (h : s.boundary s.who = some t) : s.runTurn s.who = .next t := by
  simp only [State.runTurn, h]

theorem launch?_beq (x : Slot) (n : Nat) : (x.launch? == some n) = decide (x.launched = true ∧ x.task.launch = n) := by
  unfold Slot.launch?
  cases x.launched <;> simp [beq_eq_decide]

theorem run_beq_busy : (SlotState.run == SlotState.busy) = false := rfl

/-- Settles O54: a quiet turn comes down to the fetch, and a boundary's trap goes before it. -/
theorem turnsAndBoundaries : Obligations.TurnsAndBoundaries := by
  unfold Obligations.TurnsAndBoundaries
  refine ⟨⟨fun s bs => step_code, fun s => step_uncached, fun s => step_empty, fun s t e rest => step_eventFirst⟩, ?_⟩
  intro s ha hst hd
  have hstep (t : State) (h : s.boundary s.who = some t) : step s = .next (s.advanceTurn t) := step_run ha hst hd (runTurn_boundary h)
  have hpost (e : Event) (h : s.boundary s.who = some (s.post [e])) : step s = .next (s.advanceTurn { s with agenda := [e] }) := by
    rw [hstep _ h, State.post, ha.1, List.nil_append]
  refine ⟨fun sub a hm => ⟨fun h8 => hstep _ ?_, fun h8 => hstep _ ?_⟩, fun hm hr => hpost _ ?_, fun hm hr hs => hpost _ ?_,
    fun hm hr hs ht => hpost _ ?_⟩
  · simp [State.boundary, hm, hst, h8, run_beq_busy]
  · simp [State.boundary, hm, hst, h8, run_beq_busy, launch?_beq, checkReport]
  · simp [State.boundary, hm, hr, hst]
  · simp [State.boundary, hm, hr, hs]
  · simp [State.boundary, hm, hr, hs, ht]

end Sys2Proof.Turns

namespace Sys2Proof.Bits
open Sys2Proof Sys2Proof.Machine

/-! ## Bits of the model's numbers, bytes and bit fields -/

theorem bitAt_eq (x i : Nat) : bitAt x i = x.testBit i := by
  rw [Nat.testBit_eq_decide_div_mod_eq, bitAt, beq_eq_decide]

theorem testBit_reverseBits (x : Nat) : ∀ n i, (reverseBits x n).testBit i = (decide (i < n) && x.testBit (n - 1 - i))
  | 0, i => by simp [reverseBits]
  | n + 1, i => by
    rw [reverseBits, bitAt_eq]
    cases i with
    | zero => cases h : x.testBit n <;> simp [b2n, h, Nat.testBit_zero]
    | succ i =>
      have hdiv : (2 * reverseBits x n + b2n (x.testBit n)) / 2 = reverseBits x n := by
        have hb : b2n (x.testBit n) < 2 := by cases x.testBit n <;> decide
        omega
      rw [Nat.testBit_succ, hdiv, testBit_reverseBits x n i]
      simp [Nat.sub_sub, Nat.add_comm 1 i]

theorem testBit_natOf : ∀ (bs : List Byte) (i : Nat), (natOf bs).testBit i = (bs.getD (i / 8) 0).getLsbD (i % 8)
  | [], i => by simp [natOf]
  | b :: bs, i => by
    rw [natOf, Nat.add_comm, show 256 = 2 ^ 8 from rfl, Nat.testBit_two_pow_mul_add _ b.isLt]
    by_cases h : i < 8
    · rw [if_pos h, Nat.div_eq_of_lt h, Nat.mod_eq_of_lt h]
      rfl
    · obtain ⟨j, rfl⟩ := Nat.exists_eq_add_of_le (Nat.le_of_not_lt h)
      rw [if_neg h, testBit_natOf bs, Nat.add_sub_cancel_left, Nat.add_div_left _ (by decide), Nat.add_mod_left]
      rfl

theorem length_bytesOf : ∀ n x, (bytesOf n x).length = n
  | 0, _ => rfl
  | n + 1, x => congrArg (· + 1) (length_bytesOf n (x / 256))

theorem getElem?_bytesOf : ∀ n x j, j < n → (bytesOf n x)[j]? = some (BitVec.ofNat 8 (x / 256 ^ j % 256))
  | 0, _, _, h => absurd h (Nat.not_lt_zero _)
  | n + 1, x, 0, _ => by simp [bytesOf]
  | n + 1, x, j + 1, h => by
    rw [bytesOf, List.getElem?_cons_succ, getElem?_bytesOf n _ j (by omega), Nat.div_div_eq_div_mul, Nat.pow_succ, Nat.mul_comm]

theorem getLsbD_byte (x j : Nat) {k : Nat} (hk : k < 8) : (BitVec.ofNat 8 (x / 256 ^ j % 256)).getLsbD k = x.testBit (8 * j + k) := by
  rw [BitVec.getLsbD_ofNat, decide_eq_true hk, Bool.true_and, show 256 = 2 ^ 8 from rfl, ← Nat.pow_mul,
    Nat.testBit_mod_two_pow, decide_eq_true hk, Bool.true_and, Nat.testBit_div_two_pow, Nat.add_comm]

theorem natOf_lt : ∀ bs : List Byte, natOf bs < 256 ^ bs.length
  | [] => by simp [natOf]
  | b :: bs => by
    have hb : b.toNat < 256 := b.isLt
    have ih := natOf_lt bs
    simp only [natOf, List.length_cons, Nat.pow_succ]
    omega

/-- A number and its little-endian bytes (R5). -/
theorem natOf_bytesOf : ∀ n x, natOf (bytesOf n x) = x % 256 ^ n
  | 0, x => by simp [bytesOf, natOf, Nat.mod_one]
  | n + 1, x => by
    rw [bytesOf, natOf, natOf_bytesOf n, Nat.pow_succ', Nat.mod_mul]
    simp

theorem bytesOf_natOf : ∀ bs : List Byte, bytesOf bs.length (natOf bs) = bs
  | [] => rfl
  | b :: bs => by
    have hb : b.toNat < 256 := b.isLt
    rw [List.length_cons, bytesOf, natOf, show (b.toNat + 256 * natOf bs) / 256 = natOf bs by omega, bytesOf_natOf bs]
    congr 1
    apply BitVec.eq_of_toNat_eq
    simpa using hb

/-- A field replaced: its bits are those put, every other bit is as before. -/
theorem testBit_putBits (h p w v i : Nat) :
    (putBits h p w v).testBit i = if p ≤ i ∧ i < p + w then v.testBit (i - p) else h.testBit i := by
  have hsplit : putBits h p w v = 2 ^ p * (2 ^ w * (h / 2 ^ (p + w)) + v % 2 ^ w) + h % 2 ^ p := by
    rw [putBits, Nat.pow_add]
    ring
  rw [hsplit, Nat.testBit_two_pow_mul_add _ (Nat.mod_lt _ (by positivity)),
    Nat.testBit_two_pow_mul_add _ (Nat.mod_lt _ (by positivity)), Nat.testBit_mod_two_pow, Nat.testBit_mod_two_pow,
    Nat.testBit_div_two_pow]
  by_cases hlo : i < p
  · simp [hlo, Nat.not_le_of_lt hlo]
  · by_cases hhi : i - p < w
    · rw [if_neg hlo, if_pos hhi, if_pos (by omega)]
      simp [hhi]
    · rw [if_neg hlo, if_neg hhi, if_neg (by omega)]
      congr 1
      omega

end Sys2Proof.Bits

namespace Sys2Proof.Fields
open Sys2Proof Sys2Proof.Machine Sys2Proof.Claims Sys2Proof.Scalar Sys2Proof.Bits

/-! ## Immediate and shift forms (R166 to R168) -/

theorem toNat_signExtend_eq {k : Nat} (v : BitVec k) : ((v.signExtend 64).toNat : Int) = v.toInt % 2 ^ 64 := by
  rw [BitVec.signExtend, BitVec.toNat_ofInt, Int.toNat_of_nonneg (Int.emod_nonneg _ (by decide))]
  rfl

theorem opAdd_signExtend (x : Word) {k : Nat} (v : BitVec k) : opAdd x (v.signExtend 64) = BitVec.ofInt 64 (x.toNat + v.toInt) := by
  rw [opAdd_eq, toNat_signExtend_eq]
  exact ofInt_eq_of_modEq (Int.ModEq.add_left _ (Int.mod_modEq _ _))

theorem toNat_setWidth_of_le {k : Nat} (v : BitVec k) (hk : k ≤ 64) : (v.setWidth 64).toNat = v.toNat := by
  rw [BitVec.toNat_setWidth, Nat.mod_eq_of_lt (v.isLt.trans_le (Nat.pow_le_pow_right (by decide) hk))]

theorem immForms_values (v : BitVec 15) :
    (∀ x, opAdd x (v.signExtend 64) = BitVec.ofInt 64 (x.toNat + v.toInt)) ∧
    (∀ x, opAnd x (v.setWidth 64) = BitVec.ofNat 64 (Nat.land x.toNat v.toNat)) ∧
    (∀ x, opOr x (v.setWidth 64) = BitVec.ofNat 64 (Nat.lor x.toNat v.toNat)) ∧
    (∀ x, opXor x (v.setWidth 64) = BitVec.ofNat 64 (Nat.xor x.toNat v.toNat)) ∧
    (∀ x, opSlt x (v.signExtend 64) = (if x.toInt < v.toInt then 1 else 0)) ∧
    (∀ x, opSltn x (v.signExtend 64) = (if (x.toNat : Int) < v.toInt % 2 ^ 64 then 1 else 0)) := by
  have hz := toNat_setWidth_of_le v (by decide)
  refine ⟨fun x => opAdd_signExtend x v, fun x => ?_, fun x => ?_, fun x => ?_, fun x => ?_, fun x => ?_⟩
  · rw [opAnd_eq, hz, BitVec.ofInt_natCast]
  · rw [opOr_eq, hz, BitVec.ofInt_natCast]
  · rw [opXor_eq, hz, BitVec.ofInt_natCast]
  · rw [opSlt, BitVec.toInt_signExtend_of_le (by decide)]
  · simp only [opSltn, ← toNat_signExtend_eq, Nat.cast_lt]

theorem toNat_ofNat_mod {n : Fin 64} : (BitVec.ofNat 64 n.val).toNat % 64 = n.val := by
  rw [BitVec.toNat_ofNat]
  omega

theorem toNat_ofNat_mod_half {n : Fin 32} : ((BitVec.ofNat 64 n.val).setWidth 32).toNat % 32 = n.val := by
  rw [BitVec.toNat_setWidth, BitVec.toNat_ofNat]
  omega

theorem shiftForms_values (n : Fin 64) :
    (∀ x, opSll x (BitVec.ofNat 64 n.val) = BitVec.ofNat 64 (x.toNat * 2 ^ n.val)) ∧
    (∀ x, opSrl x (BitVec.ofNat 64 n.val) = BitVec.ofNat 64 (x.toNat / 2 ^ n.val)) ∧
    (∀ x, opSra x (BitVec.ofNat 64 n.val) = BitVec.ofInt 64 (x.toInt / 2 ^ n.val)) ∧
    (∀ x, opRor x (BitVec.ofNat 64 n.val) = BitVec.ofNat 64 (x.toNat / 2 ^ n.val + x.toNat % 2 ^ n.val * 2 ^ (64 - n.val))) := by
  refine ⟨fun x => ?_, fun x => ?_, fun x => ?_, fun x => ?_⟩
  · rw [opSll_eq, toNat_ofNat_mod, BitVec.ofInt_natCast]
  · rw [opSrl_eq, toNat_ofNat_mod, BitVec.ofInt_natCast]
  · rw [opSra_eq, toNat_ofNat_mod]
  · rw [opRor_eq, toNat_ofNat_mod, BitVec.ofInt_natCast]

theorem shiftFormsW_values (n : Fin 32) :
    (∀ x, wform opSll x (BitVec.ofNat 64 n.val) = (BitVec.ofInt 32 (x.toNat % 2 ^ 32 * 2 ^ n.val : Nat)).signExtend 64) ∧
    (∀ x, wform opSrl x (BitVec.ofNat 64 n.val) = (BitVec.ofInt 32 (x.toNat % 2 ^ 32 / 2 ^ n.val : Nat)).signExtend 64) ∧
    (∀ x, wform opSra x (BitVec.ofNat 64 n.val) = (BitVec.ofInt 32 (sext 32 x.toNat / 2 ^ n.val)).signExtend 64) ∧
    (∀ x, wform opRor x (BitVec.ofNat 64 n.val) = (BitVec.ofInt 32 (x.toNat % 2 ^ 32 / 2 ^ n.val + x.toNat % 2 ^ 32 % 2 ^ n.val * 2 ^ (32 - n.val) : Nat)).signExtend 64) := by
  refine ⟨fun x => ?_, fun x => ?_, fun x => ?_, fun x => ?_⟩
  · rw [wform, opSll_eq, toNat_ofNat_mod_half, BitVec.toNat_setWidth]
  · rw [wform, opSrl_eq, toNat_ofNat_mod_half, BitVec.toNat_setWidth]
  · rw [wform, opSra_eq, toNat_ofNat_mod_half, toInt_setWidth_eq_sext]
  · rw [wform, opRor_eq, toNat_ofNat_mod_half, BitVec.toNat_setWidth]

theorem hiImm_eq (v : BitVec 20) : hiImm v = BitVec.ofInt 64 (v.toInt * 2 ^ 15) := by
  rw [hiImm, BitVec.shiftLeft_eq_mul_twoPow, BitVec.ofInt_mul]
  rfl

theorem add_hiImm_eq (pc : Word) (v : BitVec 20) : pc + hiImm v = BitVec.ofInt 64 (pc.toNat + v.toInt * 2 ^ 15) := by
  rw [hiImm_eq, BitVec.ofInt_add, BitVec.ofInt_natCast, BitVec.ofNat_toNat, BitVec.setWidth_eq]

/-! ## Bit operations (R169) -/

theorem clzAuxRec_eq (x : Word) : ∀ n < 64, x.clzAuxRec n = BitVec.ofNat 64 (63 - n + leadingZeros x.toNat (n + 1))
  | 0, _ => by
    rw [BitVec.clzAuxRec_zero, leadingZeros, leadingZeros, bitAt_eq]
    change _ = BitVec.ofNat 64 (63 + if x.getLsbD 0 = true then 0 else 1)
    cases x.getLsbD 0 <;> rfl
  | n + 1, h => by
    rw [BitVec.clzAuxRec_succ, leadingZeros, bitAt_eq, clzAuxRec_eq x n (by omega)]
    change _ = BitVec.ofNat 64 (63 - (n + 1) + if x.getLsbD (n + 1) = true then 0 else 1 + leadingZeros x.toNat (n + 1))
    split
    · rfl
    · congr 1
      omega

theorem bitsClz_eq (x : Word) : bitsClz x = x.clz := by
  rw [BitVec.clz, clzAuxRec_eq x 63 (by decide), bitsClz, Nat.sub_self, Nat.zero_add]

theorem trailingZeros_eq (x : Word) : ∀ f ≤ 64, trailingZeros x.toNat (64 - f) f = leadingZeros x.reverse.toNat f
  | 0, _ => rfl
  | f + 1, h => by
    have hbit : bitAt x.toNat (64 - (f + 1)) = bitAt x.reverse.toNat f := by
      rw [bitAt_eq, bitAt_eq]
      change x.getLsbD _ = x.reverse.getLsbD f
      rw [BitVec.getLsbD_reverse, BitVec.getMsbD_eq_getLsbD, decide_eq_true (by omega), Bool.true_and]
      congr 1
      omega
    rw [trailingZeros, leadingZeros, hbit, show 64 - (f + 1) + 1 = 64 - f by omega, trailingZeros_eq x f (by omega)]

theorem bitsCtz_eq (x : Word) : bitsCtz x = x.ctz := by
  rw [BitVec.ctz, ← bitsClz_eq, bitsClz, bitsCtz]
  exact congrArg _ (trailingZeros_eq x 64 (by decide))

theorem cpopNatRec_eq (x : Word) : ∀ n acc, x.cpopNatRec n acc = acc + popCount x.toNat n
  | 0, _ => rfl
  | n + 1, acc => by
    rw [BitVec.cpopNatRec_succ, cpopNatRec_eq x n, popCount, bitAt_eq]
    change _ = acc + (b2n (x.getLsbD n) + _)
    cases x.getLsbD n <;> simp [b2n, Nat.add_assoc]

theorem bitsPopc_eq (x : Word) : bitsPopc x = x.cpop := by
  rw [BitVec.cpop, cpopNatRec_eq, Nat.zero_add, bitsPopc]

theorem bitsBrev_eq (x : Word) : bitsBrev x = x.reverse := by
  refine BitVec.eq_of_getLsbD_eq fun i hi => ?_
  rw [bitsBrev, BitVec.getLsbD_ofNat, testBit_reverseBits, BitVec.getLsbD_reverse, BitVec.getMsbD_eq_getLsbD, decide_eq_true hi,
    Bool.true_and, Bool.true_and]
  rfl

theorem bitsBswap_eq (x : Word) : bitsBswap x = BitVec.ofNat 64 (ofBits 64 fun i => x.getLsbD (8 * (7 - i / 8) + i % 8)) := by
  refine BitVec.eq_of_getLsbD_eq fun i hi => ?_
  have hlen : i / 8 < (bytesOf 8 x.toNat).length := by rw [length_bytesOf]; omega
  rw [bitsBswap, wordOf, BitVec.getLsbD_ofNat, testBit_natOf, getLsbD_ofNat_ofBits, List.getD_eq_getElem?_getD,
    List.getElem?_reverse hlen, length_bytesOf, getElem?_bytesOf _ _ _ (by omega), Option.getD_some, getLsbD_byte _ _ (by omega),
    decide_eq_true hi, Bool.true_and, Bool.true_and, Bool.true_and, show 8 - 1 - i / 8 = 7 - i / 8 by omega]
  rfl

/-! ## Bit fields (R170) -/

theorem fieldPos_eq (y : Word) : fieldPos y = fP y := by
  simp only [fieldPos, bits, fP, Nat.pow_zero, Nat.div_one]
  rfl

theorem fieldLen_eq (y : Word) : fieldLen y = fL y := rfl

theorem bitField_eq (x y : Word) : bitField x (fP y) (fL y) = field x y := rfl

/-- A field of E > 0 bits is negative where its top bit is set. -/
theorem sext_eq_of_lt {e v : Nat} (he : 0 < e) (hv : v < 2 ^ e) : sext e v = if v / 2 ^ (e - 1) % 2 = 1 then (v : Int) - 2 ^ e else v := by
  obtain ⟨e, rfl⟩ := Nat.exists_eq_succ_of_ne_zero he.ne'
  have hpow : 2 ^ (e + 1) = 2 * 2 ^ e := Nat.pow_succ'
  simp only [sext, Nat.mod_eq_of_lt hv, Nat.succ_eq_add_one, Nat.add_sub_cancel]
  by_cases hlt : v < 2 ^ e
  · simp [hlt, Nat.div_eq_of_lt hlt]
  · have hdiv : v / 2 ^ e = 1 := Nat.div_eq_of_lt_le (by omega) (by omega)
    simp [hlt, hdiv]

theorem opBfx_eq (x y : Word) : opBfx x y = bfxValue x y := by
  rw [opBfx, bfxValue, fieldLen_eq, fieldPos_eq, bitField_eq]
  by_cases h : fL y = 0
  · rw [if_pos h, if_pos h]
  · have hfield : field x y < 2 ^ min (fL y) 64 := Nat.mod_lt _ (by positivity)
    have hlen : 0 < min (fL y) 64 := Nat.lt_min.2 ⟨Nat.pos_of_ne_zero h, by decide⟩
    simp only [if_neg h, toWord, sext_eq_of_lt hlen hfield]

theorem opBfxn_eq (x y : Word) : opBfxn x y = BitVec.ofNat 64 (field x y) := by
  rw [opBfxn, fieldLen_eq, fieldPos_eq, bitField_eq]

theorem opBfi_eq (x y z : Word) : opBfi x y z = bfiValue x y z := by
  have hput : opBfi x y z = BitVec.ofNat 64 (putBits z.toNat (fP y) (min (fL y) (64 - fP y)) x.toNat) := by
    rw [← fieldPos_eq, ← fieldLen_eq]
    rfl
  have hpos : fP y < 64 := Nat.mod_lt _ (by decide)
  refine BitVec.eq_of_getLsbD_eq fun i hi => ?_
  have hiff : (fP y ≤ i ∧ i < fP y + min (fL y) (64 - fP y)) ↔ (fP y ≤ i ∧ i < fP y + fL y) := by omega
  rw [hput, bfiValue, BitVec.getLsbD_ofNat, testBit_putBits, getLsbD_ofNat_ofBits]
  simp only [hi, decide_true, Bool.true_and, hiff]
  rfl

/-! ## Completion -/

section Completion

variable {i : Instr} {d a b : Fin 32} {s s1 s2 s3 : State} {x y z : Word}

theorem alu1_next {f : Word → Word} (ho : s.chkOps s.who i = .ok ()) (ha : s.readG s.who a = .ok (x, s1))
    (hd : s1.chkDst s.who d = .ok ()) : alu1 i d a f s = .next ((s1.writeG s.who d (f x)).retire s.who i) := by
  simp [alu1, issue_base, ho, ha, State.putG, hd, bind, Except.bind]

theorem exec_bfi (ho : open_ s (.bfi d a b)) (ha : s.readG s.who a = .ok (x, s1)) (hb : s1.readG s.who b = .ok (y, s2))
    (hz : s2.readG s.who d = .ok (z, s3)) (hd : s3.chkDst s.who d = .ok ()) :
    exec (.bfi d a b) s = .next ((s3.writeG s.who d (bfiValue x y z)).retire s.who (.bfi d a b)) := by
  have hops : s.chkOps s.who (.bfi d a b) = .ok () := ho
  rw [← opBfi_eq]
  change execBfi d a b s = _
  simp [execBfi, issue_base, hops, State.read2, ha, hb, hz, State.putG, hd, bind, Except.bind]

end Completion

/-- An instruction of a list of one-source forms reads a, writes the form's value to d and retires. -/
def Retires (f : UnaryForm) : Prop :=
  ∀ (d a : Fin 32) (s s1 : State) (x : Word),
    open_ s (f.1 d a) → s.readG s.who a = .ok (x, s1) → s1.chkDst s.who d = .ok () →
    exec (f.1 d a) s = .next ((s1.writeG s.who d (f.2 x)).retire s.who (f.1 d a))

/-- It is a one-source operation of the model with the form's value. -/
def IsAlu1 (f : UnaryForm) : Prop := ∃ g : Word → Word, (∀ d a s, exec (f.1 d a) s = alu1 (f.1 d a) d a g s) ∧ ∀ x, g x = f.2 x

theorem retires_of_isAlu1 {f : UnaryForm} (h : IsAlu1 f) : Retires f := by
  obtain ⟨g, hexec, hvalue⟩ := h
  intro d a s s1 x ho ha hd
  rw [hexec, alu1_next ho ha hd, hvalue]

theorem isAlu1_immForms (v : BitVec 15) : ∀ f ∈ immForms v, IsAlu1 f := by
  simp only [immForms, List.forall_mem_cons]
  obtain ⟨hadd, hand, hor, hxor, hslt, hsltn⟩ := immForms_values v
  exact
    ⟨⟨fun x => opAdd x (v.signExtend 64), fun _ _ _ => rfl, hadd⟩,
     ⟨fun x => opAnd x (v.setWidth 64), fun _ _ _ => rfl, hand⟩,
     ⟨fun x => opOr x (v.setWidth 64), fun _ _ _ => rfl, hor⟩,
     ⟨fun x => opXor x (v.setWidth 64), fun _ _ _ => rfl, hxor⟩,
     ⟨fun x => opSlt x (v.signExtend 64), fun _ _ _ => rfl, hslt⟩,
     ⟨fun x => opSltn x (v.signExtend 64), fun _ _ _ => rfl, hsltn⟩,
     by simp⟩

theorem isAlu1_shiftForms (n : Fin 64) : ∀ f ∈ shiftForms n, IsAlu1 f := by
  simp only [shiftForms, List.forall_mem_cons]
  obtain ⟨hsll, hsrl, hsra, hror⟩ := shiftForms_values n
  exact
    ⟨⟨fun x => opSll x (BitVec.ofNat 64 n.val), fun _ _ _ => rfl, hsll⟩,
     ⟨fun x => opSrl x (BitVec.ofNat 64 n.val), fun _ _ _ => rfl, hsrl⟩,
     ⟨fun x => opSra x (BitVec.ofNat 64 n.val), fun _ _ _ => rfl, hsra⟩,
     ⟨fun x => opRor x (BitVec.ofNat 64 n.val), fun _ _ _ => rfl, hror⟩,
     by simp⟩

theorem isAlu1_shiftFormsW (n : Fin 32) : ∀ f ∈ shiftFormsW n, IsAlu1 f := by
  simp only [shiftFormsW, List.forall_mem_cons]
  obtain ⟨hsll, hsrl, hsra, hror⟩ := shiftFormsW_values n
  exact
    ⟨⟨fun x => wform opSll x (BitVec.ofNat 64 n.val), fun _ _ _ => rfl, hsll⟩,
     ⟨fun x => wform opSrl x (BitVec.ofNat 64 n.val), fun _ _ _ => rfl, hsrl⟩,
     ⟨fun x => wform opSra x (BitVec.ofNat 64 n.val), fun _ _ _ => rfl, hsra⟩,
     ⟨fun x => wform opRor x (BitVec.ofNat 64 n.val), fun _ _ _ => rfl, hror⟩,
     by simp⟩

theorem isAlu1_bitForms : ∀ f ∈ bitForms, IsAlu1 f := by
  simp only [bitForms, List.forall_mem_cons]
  exact
    ⟨⟨_, fun _ _ _ => rfl, bitsClz_eq⟩, ⟨_, fun _ _ _ => rfl, bitsCtz_eq⟩,
     ⟨_, fun _ _ _ => rfl, bitsPopc_eq⟩, ⟨_, fun _ _ _ => rfl, bitsBrev_eq⟩,
     ⟨_, fun _ _ _ => rfl, bitsBswap_eq⟩, by simp⟩

theorem isAlu1_of_mem (v : BitVec 15) (n : Fin 64) (n' : Fin 32) :
    ∀ f ∈ immForms v ++ shiftForms n ++ shiftFormsW n' ++ bitForms, IsAlu1 f := by
  intro f hf
  obtain ((himm | hshift) | hshiftW) | hbit := by simpa only [List.mem_append] using hf
  · exact isAlu1_immForms v f himm
  · exact isAlu1_shiftForms n f hshift
  · exact isAlu1_shiftFormsW n' f hshiftW
  · exact isAlu1_bitForms f hbit

/-- Settles O2: the one-source forms by their lists, LUI, AUIPC and the bit fields each by its own value. -/
theorem immediateBitAndFieldResult : Obligations.ImmediateBitAndFieldResult := by
  unfold Obligations.ImmediateBitAndFieldResult
  refine ⟨fun v n n' f hf => ?_, fun d v s hd => ⟨fun ho => ?_, fun ho => ?_⟩, fun d a b s s1 s2 x y ha hb =>
    ⟨fun ho hd => ?_, fun ho hd => ?_, fun z s3 ho hz hd => exec_bfi ho ha hb hz hd⟩⟩
  · exact retires_of_isAlu1 (isAlu1_of_mem v n n' f hf)
  · rw [← hiImm_eq]
    exact alu0_next (f := fun _ => hiImm v) ho hd
  · rw [← add_hiImm_eq]
    exact alu0_next (f := fun t => t.pc + hiImm v) ho hd
  · rw [← opBfx_eq]
    exact alu_next (var := false) (f := opBfx) ho ha hb hd
  · rw [← opBfxn_eq]
    exact alu_next (var := false) (f := opBfxn) ho ha hb hd

end Sys2Proof.Fields

namespace Sys2Proof.Reads
open Sys2Proof Sys2Proof.Machine

/-! ## Parts of an instruction in sequence -/

theorem bind_ok_iff {α β : Type} {m : M α} {f : α → M β} {r : β} : (m >>= f) = .ok r ↔ ∃ a, m = .ok a ∧ f a = .ok r := by
  cases m with
  | error e => exact ⟨nofun, nofun⟩
  | ok a => exact ⟨fun h => ⟨a, rfl, h⟩, fun ⟨_, h, h'⟩ => Except.ok.inj h ▸ h'⟩

@[simp] theorem ok_bind {α β : Type} (a : α) (f : α → M β) : (Except.ok a >>= f) = f a := rfl
@[simp] theorem error_bind {α β : Type} (e : Stop) (f : α → M β) : ((Except.error e : M α) >>= f) = .error e := rfl
@[simp] theorem fail_bind {α β : Type} (code : Nat) (tval : Word) (f : α → M β) : ((fail code tval : M α) >>= f) = fail code tval := rfl

@[simp] theorem failIf_true (code : Nat) (tval : Word) : failIf true code tval = fail code tval := rfl
@[simp] theorem failIf_false (code : Nat) (tval : Word) : failIf false code tval = .ok () := rfl

/-! ## What a register read changes (R63, R158) -/

/-- A pop leaves the state, but for its stream's predicate or its buffer's descriptor. -/
theorem pop_cases {s s1 : State} {w : Who} {b : Binding} {x : Word} (h : s.pop w b = .ok (x, s1)) :
    s1 = s.updTh w (fun t => t.setP b.pred true) ∨ ∃ q, s1 = s.updCb b.core b.cb fun _ => q := by
  unfold State.pop at h
  obtain ⟨_, -, h⟩ := bind_ok_iff.1 h
  by_cases hempty : (s.cb b.core b.cb).filled = 0
  · rw [if_pos hempty] at h
    nomatch h
  rw [if_neg hempty] at h
  by_cases hend : (s.cb b.core b.cb).tokenAt = some 0
  · rw [if_pos hend] at h
    exact .inl (Prod.mk.inj (Except.ok.inj h)).2.symm
  rw [if_neg hend] at h
  obtain ⟨_, -, h⟩ := bind_ok_iff.1 h
  obtain ⟨_, -, h⟩ := bind_ok_iff.1 h
  exact .inr ⟨_, (Prod.mk.inj (Except.ok.inj h)).2.symm⟩

theorem readG_cases {s s1 : State} {w : Who} {n : Fin 32} {x : Word} (h : s.readG w n = .ok (x, s1)) :
    s1 = s ∨ (∃ p, s1 = s.updTh w fun t => t.setP p true) ∨ ∃ c k q, s1 = s.updCb c k fun _ => q := by
  unfold State.readG at h
  split at h
  · cases h
    exact .inl rfl
  · split at h
    · cases h
      exact .inl rfl
    · next b _ =>
      split at h
      · cases h
      · obtain hp | ⟨q, hq⟩ := pop_cases h
        · exact .inr (.inl ⟨_, hp⟩)
        · exact .inr (.inr ⟨_, _, _, hq⟩)

/-- What neither a slot nor a descriptor is part of, a register read leaves. -/
theorem core_readG {α : Type} (f : Core → α) (hslots : ∀ (k : Core) v, f { k with slots := v } = f k)
    (hcbs : ∀ (k : Core) v, f { k with cbs := v } = f k) {s s1 : State} {w : Who} {n : Fin 32} {x : Word}
    (h : s.readG w n = .ok (x, s1)) (c : Nat) : f (s1.core c) = f (s.core c) := by
  obtain rfl | ⟨p, rfl⟩ | ⟨e, k, q, rfl⟩ := readG_cases h
  · rfl
  · by_cases hc : c = w.core
    · subst hc
      rw [State.updTh, State.core_upd]
      exact hslots _ _
    · rw [State.updTh, State.core_upd_other _ _ _ _ hc]
  · rw [State.updCb, State.core_updCore]
    split
    next hc =>
      subst hc
      exact hcbs _ _
    next => rfl

theorem layout_readG {s s1 : State} {w : Who} {n : Fin 32} {x : Word} (h : s.readG w n = .ok (x, s1)) (c : Nat) :
    (s1.core c).layout = (s.core c).layout :=
  core_readG Core.layout (fun _ _ => rfl) (fun _ _ => rfl) h c

end Sys2Proof.Reads

namespace Sys2Proof.Headers
open Sys2Proof Sys2Proof.Machine Sys2Proof.Claims Sys2Proof.Scalar Sys2Proof.Bits Sys2Proof.Reads

/-! ## Header words by the core's field-layout table (R171 to R173) -/

theorem layoutField_eq (k : Core) (n j : Nat) : layoutField k n j = desc k n j := by
  simp only [layoutField, desc, bits, Nat.pow_zero, Nat.div_one]
  rfl

theorem testBit_headerSlot (j : Nat) (x y : Word) (i : Nat) : (headerSlot j x.toNat y.toNat).testBit i = slotBit j x y i := by
  have hbits : ∀ (z : Word) lo, (bits z.toNat (lo + 15) lo).testBit i = (decide (i < 16) && z.getLsbD (lo + i)) := by
    intro z lo
    rw [bits, show lo + 15 + 1 - lo = 16 by omega, Nat.testBit_mod_two_pow, Nat.testBit_div_two_pow, Nat.add_comm i]
    rfl
  rw [headerSlot, slotBit]
  split
  · exact hbits x _
  · exact hbits y _

/-- HPACK's step for field j, and what it does to bit b. -/
def putField (k : Core) (n : Nat) (x y : Word) (h j : Nat) : Nat :=
  if (desc k n j).2 = 0 then h else putBits h (desc k n j).1 (desc k n j).2 (headerSlot j x.toNat y.toNat)
def fieldBit (k : Core) (n : Nat) (x y : Word) (b : Nat) (v : Bool) (j : Nat) : Bool :=
  if (desc k n j).1 ≤ b ∧ b < (desc k n j).1 + (desc k n j).2 then slotBit j x y (b - (desc k n j).1) else v

theorem hpack_eq_foldl (k : Core) (n : Nat) (x y : Word) : hpack k n x.toNat y.toNat = (List.range 8).foldl (putField k n x y) 0 := by
  simp only [hpack, layoutField_eq]
  rfl

theorem testBit_putField (k : Core) (n : Nat) (x y : Word) (h j b : Nat) :
    (putField k n x y h j).testBit b = fieldBit k n x y b (h.testBit b) j := by
  rw [putField, fieldBit]
  by_cases hw : (desc k n j).2 = 0
  · rw [if_pos hw, if_neg (by omega)]
  · rw [if_neg hw, testBit_putBits, testBit_headerSlot]

/-- Each bit of a header word is the last field's that holds it. -/
theorem testBit_foldl_putField (k : Core) (n : Nat) (x y : Word) (b : Nat) : ∀ (js : List Nat) (h : Nat),
    (js.foldl (putField k n x y) h).testBit b = js.foldl (fieldBit k n x y b) (h.testBit b)
  | [], _ => rfl
  | j :: js, h => by rw [List.foldl_cons, List.foldl_cons, testBit_foldl_putField k n x y b js, testBit_putField]

theorem header_eq (k : Core) (n : Nat) (x y : Word) :
    header k n x y = BitVec.ofNat 64 (ofBits 64 fun b => (List.range 8).foldl (fieldBit k n x y b) false) := rfl

theorem hpack_eq_header (k : Core) (n : Nat) (x y : Word) : BitVec.ofNat 64 (hpack k n x.toNat y.toNat) = header k n x y := by
  refine BitVec.eq_of_getLsbD_eq fun i hi => ?_
  rw [header_eq, BitVec.getLsbD_ofNat, hpack_eq_foldl, testBit_foldl_putField, getLsbD_ofNat_ofBits, Nat.zero_testBit,
    decide_eq_true hi, Bool.true_and, Bool.true_and]

theorem slots4_eq_sum (f : Nat → Nat) : slots4 f = ((List.range 4).map fun i => f i % 2 ^ 16 * 2 ^ (16 * i)).sum := by
  simp only [List.sum_range_succ, List.range_zero, List.map_nil, List.sum_nil, slots4]
  ring

theorem slots4_eq_fields4 (k : Core) (n : Nat) (h : Word) (j0 : Nat) :
    BitVec.ofNat 64 (slots4 fun j => hfield k n h.toNat (j0 + j)) = fields4 k n h j0 := by
  simp only [slots4_eq_sum, hfield, layoutField_eq]
  rfl

theorem fields4_layout {k k' : Core} (h : k.layout = k'.layout) : fields4 k = fields4 k' := by
  funext n x j0
  simp only [fields4, desc, h]

section Completion

variable {d a b : Fin 32} {n : Fin 8} {s s1 s2 : State} {x y : Word}

theorem exec_hpack (ho : open_ s (.hpack d a b n)) (ha : s.readG s.who a = .ok (x, s1)) (hb : s1.readG s.who b = .ok (y, s2))
    (hd : s2.chkDst s.who d = .ok ()) :
    exec (.hpack d a b n) s = .next ((s2.writeG s.who d (header (s.core s.who.core) n.val x y)).retire s.who (.hpack d a b n)) := by
  rw [← hpack_eq_header]
  exact alu_next (var := false) (f := fun x y => BitVec.ofNat 64 (hpack (s.core s.who.core) n.val x.toNat y.toNat)) ho ha hb hd

theorem exec_hparse (ho : open_ s (.hparse d a b n)) (ha : s.readG s.who a = .ok (x, s1)) (hd : s1.chkDst s.who d = .ok ())
    (hb : (s1.writeG s.who d (fields4 (s.core s.who.core) n.val x 0)).chkDst s.who b = .ok ()) :
    exec (.hparse d a b n) s =
      .next (((s1.writeG s.who d (fields4 (s.core s.who.core) n.val x 0)).writeG s.who b (fields4 (s.core s.who.core) n.val x 4)).retire
        s.who (.hparse d a b n)) := by
  have hops : s.chkOps s.who (.hparse d a b n) = .ok () := ho
  have hlow : BitVec.ofNat 64 (slots4 fun j => hfield (s1.core s.who.core) n.val x.toNat j) = fields4 (s.core s.who.core) n.val x 0 := by
    rw [← fields4_layout (layout_readG ha s.who.core), ← slots4_eq_fields4]
    simp only [Nat.zero_add]
  have hhigh : BitVec.ofNat 64 (slots4 fun j => hfield (s1.core s.who.core) n.val x.toNat (j + 4)) =
      fields4 (s.core s.who.core) n.val x 4 := by
    rw [← fields4_layout (layout_readG ha s.who.core), ← slots4_eq_fields4]
    simp only [Nat.add_comm]
  change execHparse d a b n s = _
  simp only [execHparse, issue_base, hops, ha, ok_bind, State.putG, hlow, hhigh, hd, hb, finish_ok]

/-- The operand test of HLTW (R172). -/
theorem hltw_test (x y : Word) :
    (decide (64 ≤ x.toNat) || decide (2 ^ 11 ≤ y.toNat) || decide (16 < bits y.toNat 10 6) ||
      decide (64 < bits y.toNat 5 0 + bits y.toNat 10 6)) =
    !decide (x.toNat < 64 ∧ y.toNat < 2 ^ 11 ∧ y.toNat / 64 ≤ 16 ∧ y.toNat % 64 + y.toNat / 64 ≤ 64) := by
  have hlow : bits y.toNat 5 0 = y.toNat % 64 := by
    rw [bits, Nat.pow_zero, Nat.div_one]
    rfl
  have hhigh : bits y.toNat 10 6 = y.toNat / 64 % 32 := rfl
  rw [Bool.eq_iff_iff]
  simp only [hlow, hhigh, Bool.or_eq_true, Bool.not_eq_true', decide_eq_true_eq, decide_eq_false_iff_not]
  omega

theorem exec_hltw (hslot : s.who.slot = 15) (ho : open_ s (.hltw a b)) (ha : s.readG s.who a = .ok (x, s1))
    (hb : s1.readG s.who b = .ok (y, s2)) :
    exec (.hltw a b) s = .next (
      if x.toNat < 64 ∧ y.toNat < 2 ^ 11 ∧ y.toNat / 64 ≤ 16 ∧ y.toNat % 64 + y.toNat / 64 ≤ 64 then
        (s2.updCore s.who.core fun k =>
          { k with layout := k.layout.set (x.toNat % 64) (BitVec.ofNat 16 y.toNat), layoutDirty := true }).retire s.who (.hltw a b)
      else s.systemFault s.who.core (encodeWord (.hltw a b))) := by
  have hops : s.chkOps s.who (.hltw a b) = .ok () := ho
  change execHltw a b s = _
  simp only [execHltw, issue_sys _ _ _ hslot, hops, State.read2, ha, hb, ok_bind]
  rw [hltw_test, BitVec.ofNat_toNat]
  split
  next h =>
    rw [decide_eq_true h, Bool.not_true, failIf_false, ok_bind, finish_ok]
  next h =>
    rw [decide_eq_false h, Bool.not_false, failIf_true, fail_bind, finish_fail, State.takeTrap_system _ _ _ _ _ _ _ _ hslot]

end Completion

/-- Settles O3, from what HPACK, HPARSE and HLTW leave. -/
theorem headerWords : Obligations.HeaderWords := by
  unfold Obligations.HeaderWords
  exact ⟨fun _ _ _ _ _ _ _ ha => ⟨fun _ _ ho hb hd => exec_hpack ho ha hb hd, fun ho hd hb => exec_hparse ho ha hd hb⟩,
    fun _ _ _ _ _ _ _ hslot ho ha hb => exec_hltw hslot ho ha hb⟩

end Sys2Proof.Headers

namespace Sys2Proof.FarBytes
open Sys2Proof Sys2Proof.Machine Sys2Proof.Frame

/-! ## Far addresses: what the model reads at the names of other packages' memory -/

/-- A write of physical memory does not change what is read at a far address (R38): that byte is another package's. -/
theorem pbyte_pwrite_far (s : State) (pa a : Nat) (bs : List Byte) (ha : farAway a = true) : (s.pwrite pa bs).pbyte a = s.pbyte a := by
  obtain ⟨mem, gkey, codes, poison, upsets, h⟩ := memOnly_pwrite s pa bs
  rw [h, State.pbyte, State.pbyte, if_pos ha, if_pos ha]
  rfl

/-- A byte other than the one that the reset state reads at the first far address. -/
def otherByte : Byte := State.reset.pbyte (2 ^ 60) + 1

theorem otherByte_ne : otherByte ≠ State.reset.pbyte (2 ^ 60) := by
  rw [otherByte]
  generalize State.reset.pbyte (2 ^ 60) = b
  bv_omega

/-- Refutes O58: its first clause bounds neither the span nor the address. A write of 2^60 + 1 bytes at address 0, which is populated, covers the
first far address, where the model reads another package's memory and not the bytes written. -/
theorem not_memoryAccess : ¬ Obligations.MemoryAccess := by
  unfold Obligations.MemoryAccess
  intro h
  obtain ⟨hwrite, -⟩ := h
  have hbyte := hwrite State.reset 0 (2 ^ 60) (List.replicate (2 ^ 60 + 1) otherByte) (by decide)
  rw [pbyte_pwrite_far _ _ _ _ (by decide), List.length_replicate, if_pos ⟨Nat.zero_le _, by omega⟩, Nat.sub_zero,
    List.getD_replicate _ (Nat.lt_succ_self _)] at hbyte
  exact otherByte_ne hbyte.symm

end Sys2Proof.FarBytes

namespace Sys2Proof.Registers
open Sys2Proof Sys2Proof.Machine Sys2Proof.Claims Sys2Proof.Bits Sys2Proof.Reads

/-! ## Elements of vectors by a bounded index -/

theorem getElem_set_fin {α : Type} {k : Nat} (v : Vector α k) (n m : Fin k) (x : α) : (v.set n x)[m] = if m = n then x else v[m] := by
  have h := Vector.getElem_set (xs := v) (x := x) n.isLt m.isLt
  simp only [Fin.getElem_fin, h, Fin.ext_iff, eq_comm]

/-! ## Descriptors and local memory of a core -/

@[simp] theorem cb_updCb_same (s : State) (c : Nat) (n : Fin 32) (f : Cb → Cb) : (s.updCb c n f).cb c n = f (s.cb c n) := by
  rw [State.cb, State.updCb, State.core_updCore_same]
  exact (getElem_set_fin ..).trans (if_pos rfl)

@[simp] theorem lmem_updCb (s : State) (c c' : Nat) (n : Fin 32) (f : Cb → Cb) : ((s.updCb c n f).core c').lmem = (s.core c').lmem := by
  rw [State.updCb, State.core_updCore]
  split
  next h => subst h; rfl
  next => rfl

@[simp] theorem cb_lwrite (s : State) (c c' off : Nat) (bs : List Byte) (n : Fin 32) : (s.lwrite c off bs).cb c' n = s.cb c' n := by
  rw [State.cb, State.lwrite, State.core_updCore]
  split
  next h => subst h; rfl
  next => rfl

@[simp] theorem lmem_lwrite_same (s : State) (c off : Nat) (bs : List Byte) :
    ((s.lwrite c off bs).core c).lmem = Mem.sets (s.core c).lmem off bs := by
  rw [State.lwrite, State.core_updCore_same]

/-- The word written at a place of local memory is read back there. -/
theorem natOf_gets_sets (m : List Host.Cell) (p : Nat) (v : Word) : natOf (Mem.gets (Mem.sets m p (bytesOf 8 v.toNat)) p 8) = v.toNat := by
  have h := Mem.gets_sets_same m p (bytesOf 8 v.toNat)
  rw [length_bytesOf] at h
  rw [h, natOf_bytesOf, Nat.mod_eq_of_lt (show v.toNat < 256 ^ 8 from v.isLt)]

theorem get_sets_outside (m : List Host.Cell) (p x : Nat) (bs : List Byte) (h : x < p ∨ p + bs.length ≤ x) :
    Mem.get (Mem.sets m p bs) x = Mem.get m x := by
  rw [Mem.get_sets, dif_neg (by omega)]

/-! ## Checks before a bound register's access (R18, R63, R387, R388) -/

theorem cbTval_eq (c : Nat) (n : Fin 32) : cbTval c n = BitVec.ofNat 64 (n.val + 32 * (c % 2 ^ 11)) := by
  rw [cbTval, Nat.mul_comm]
  rfl

theorem cbFault_eq {α : Type} (c : Nat) (n : Fin 32) :
    (cbFault c n : M α) = .error (.trap 0x07 (BitVec.ofNat 64 (n.val + 32 * (c % 2 ^ 11))) 0 none) := by
  rw [cbFault, fail, cbTval_eq]

theorem lockFree_ok {s : State} {w : Who} {c : Nat} (h : w.slot = 15 ∨ (s.core c).lmx = false) : s.lockFree w c = .ok () := by
  rw [State.lockFree, if_neg]
  cases h with
  | inl h => simp [h]
  | inr h => simp [h]

theorem sound_ok {s : State} {c p n : Nat} (hu : s.upsetIn c p n = false) (hs : s.spoiltIn c p n = []) : s.sound c p n = .ok () := by
  simp [State.sound, State.unsound, hu, hs]

theorem sound_upset {s : State} {c p n : Nat} (hu : s.upsetIn c p n = true) : s.sound c p n = .error (.trap 0x20 0 0x02 none) := by
  simp [State.sound, State.unsound, hu, machineCheck]

theorem sound_spoilt {s : State} {c p n g : Nat} {rest : List Nat} (hu : s.upsetIn c p n = false) (hs : s.spoiltIn c p n = g :: rest) :
    s.sound c p n = .error (.trap 0x20 (BitVec.ofNat 64 (localVa (32 * g))) 0x01 none) := by
  simp [State.sound, State.unsound, hu, hs, machineCheck, -BitVec.toNat_ofNat]

/-! ## Unbound registers -/

theorem getG_writeG_unbound {s : State} {w : Who} {n : Fin 32} (v : Word) (h0 : n ≠ 0) (h : (s.th w).binding n = none) :
    ((s.writeG w n v).th w).g[n] = v ∧ ∀ m : Fin 32, m ≠ n → ((s.writeG w n v).th w).g[m] = (s.th w).g[m] := by
  rw [State.writeG_unbound s w n v h0 h, State.th_updTh_same]
  exact ⟨(getElem_set_fin ..).trans (if_pos rfl), fun m hm => (getElem_set_fin ..).trans (if_neg hm)⟩

/-! ## Bound registers -/

section Bound

variable {s : State} {w : Who} {n : Fin 32} {b : Binding}

theorem readG_bound (h0 : n ≠ 0) (hb : (s.th w).binding n = some b) :
    s.readG w n = if b.push = true then cbFault b.core b.cb else s.pop w b := by
  rw [State.readG, if_neg h0, hb]

theorem chkDst_bound (hb : (s.th w).binding n = some b) :
    s.chkDst w n = if (!b.accepts (s.cb b.core b.cb)) = true then cbFault b.core b.cb
      else if (s.cb b.core b.cb).filled = (s.cb b.core b.cb).slots then .error (.park (.bound b.core b.cb true))
      else s.lockFree w b.core := by
  rw [State.chkDst, hb]

theorem pop_disabled (hen : (s.cb b.core b.cb).en = false) : s.pop w b = cbFault b.core b.cb := by
  simp only [State.pop, hen, Bool.not_false, failIf_true, fail_bind]
  rfl

theorem pop_empty (hen : (s.cb b.core b.cb).en = true) (hf : (s.cb b.core b.cb).filled = 0) :
    s.pop w b = .error (.park (.bound b.core b.cb false)) := by
  simp only [State.pop, hen, Bool.not_true, failIf_false, ok_bind, if_pos hf]

theorem pop_end (hen : (s.cb b.core b.cb).en = true) (hf : (s.cb b.core b.cb).filled ≠ 0) (ht : beforeToken (s.cb b.core b.cb) = some 0) :
    s.pop w b = .ok (0, s.updTh w fun t => t.setP b.pred true) := by
  have htoken : (s.cb b.core b.cb).tokenAt = some 0 := ht
  simp only [State.pop, hen, Bool.not_true, failIf_false, ok_bind, if_neg hf, if_pos htoken]

/-- The element that a pop takes stands at this offset, and the descriptor is then this. -/
def popAddr (q : Cb) : Nat := q.base + slotBytes q * q.cptr + 8 * q.popPos
def popped (q : Cb) : Cb := if slotBytes q ≤ 8 * (q.popPos + 1) then advancedC q 1 else { q with popPos := q.popPos + 1 }

theorem advC_eq (q : Cb) (k : Nat) : q.advC k = advancedC q k := by
  have hpassed : (match q.tokenAt with | some t => decide (t < k) | none => false) = (beforeToken q).any fun t => decide (t < k) := by
    change _ = q.tokenAt.any _
    cases q.tokenAt <;> rfl
  rw [Cb.advC, advancedC, ← hpassed]
  rfl

theorem pop_element (hen : (s.cb b.core b.cb).en = true) (hf : (s.cb b.core b.cb).filled ≠ 0)
    (ht : beforeToken (s.cb b.core b.cb) ≠ some 0) (hfree : w.slot = 15 ∨ (s.core b.core).lmx = false) :
    s.pop w b = (do
      s.sound b.core (popAddr (s.cb b.core b.cb)) 8
      .ok (BitVec.ofNat 64 (natOf (Mem.gets (s.core b.core).lmem (popAddr (s.cb b.core b.cb)) 8)),
        s.updCb b.core b.cb fun _ => popped (s.cb b.core b.cb))) := by
  have htoken : (s.cb b.core b.cb).tokenAt ≠ some 0 := ht
  have henabled : failIf (!(s.cb b.core b.cb).en) 0x07 (cbTval b.core b.cb) = .ok () := by rw [hen]; rfl
  simp only [State.pop, henabled, ok_bind, if_neg hf, if_neg htoken, lockFree_ok hfree, advC_eq]
  rfl

/-- The same of a push. -/
def pushAddr (q : Cb) : Nat := q.base + slotBytes q * q.pptr + 8 * q.pushPos
def pushed (q : Cb) : Cb := if slotBytes q ≤ 8 * (q.pushPos + 1) then advancedP q 1 else { q with pushPos := q.pushPos + 1 }

theorem writeG_bound (v : Word) (h0 : n ≠ 0) (hb : (s.th w).binding n = some b) :
    s.writeG w n v = (s.lwrite b.core (pushAddr (s.cb b.core b.cb)) (bytesOf 8 v.toNat)).updCb b.core b.cb
      fun _ => pushed (s.cb b.core b.cb) := by
  rw [State.writeG, if_neg h0, hb]
  rfl

/-- The buffer that a push-bound register fills: of the binding core by local production, of another by its channel. -/
def mine (b : Binding) (q : Cb) : Prop := (b.src = b.core ∧ q.pkind = 0) ∨ (b.src ≠ b.core ∧ q.pkind = 1 ∧ q.srccore = b.src)

theorem accepts_iff (b : Binding) (q : Cb) : b.accepts q = true ↔ b.push = true ∧ q.en = true ∧ q.eos = false ∧ mine b q := by
  rw [Binding.accepts, mine]
  by_cases h : b.src = b.core <;> simp [h, and_assoc]

end Bound

/-! ## Predicates, masks and vectors -/

theorem getP_setP (t : Thread) (n m : Fin 16) (b : Bool) (hn : n ≠ 0) : (t.setP n b).getP m = if m = n then b else t.getP m := by
  have hbit : (1#16 <<< n.val).getLsbD m.val = decide (m = n) := by
    rw [BitVec.getLsbD_shiftLeft, BitVec.getLsbD_one, Bool.eq_iff_iff]
    simp only [Bool.and_eq_true, decide_eq_true_eq, Bool.not_eq_true', decide_eq_false_iff_not, Fin.ext_iff]
    omega
  rw [Thread.setP, if_neg hn, Thread.getP, Thread.getP]
  by_cases hm : m = n
  · subst hm
    have hm0 : (m == 0) = false := by simpa using hn
    cases b <;> simp [hm0, hbit, -BitVec.getLsbD_eq_getElem]
  · cases b <;> simp [hm, hbit, -BitVec.getLsbD_eq_getElem]

theorem vlenB_le (c : Nat) : vlenB c ≤ 128 := by
  rw [vlenB]
  split <;> decide

/-- The low k bits of a number, kept in n ≥ k bits. -/
theorem toNat_ofNat_mod_of_le {k n : Nat} (h : k ≤ n) (x : Nat) : (BitVec.ofNat n (x % 2 ^ k)).toNat % 2 ^ k = x % 2 ^ k := by
  have hlt : x % 2 ^ k < 2 ^ n := (Nat.mod_lt _ (by positivity)).trans_le (Nat.pow_le_pow_right (by decide) h)
  rw [BitVec.toNat_ofNat, Nat.mod_eq_of_lt hlt, Nat.mod_mod]

theorem readM_writeM (s : State) (w : Who) (n m : Fin 8) (x : Nat) (hn : n ≠ 0) :
    (s.writeM w n x).readM w m = if m = n then x % 2 ^ vlenB w.core else s.readM w m := by
  rw [State.writeM, if_neg hn, State.readM, State.readM, State.th_updTh_same]
  by_cases hm : m = 0
  · subst hm
    rw [if_pos rfl, if_pos rfl, if_neg hn.symm]
  · rw [if_neg hm, if_neg hm, getElem_set_fin]
    by_cases hmn : m = n
    · rw [if_pos hmn, if_pos hmn, toNat_ofNat_mod_of_le (vlenB_le _)]
    · rw [if_neg hmn, if_neg hmn]

theorem readV_writeV (s : State) (w : Who) (n m : Fin 16) (x : Nat) :
    (s.writeV w n x).readV w m = if m = n then x % 2 ^ (8 * vlenB w.core) else s.readV w m := by
  rw [State.writeV, State.readV, State.readV, State.th_updTh_same]
  have hlen : 8 * vlenB w.core ≤ 1024 := by have := vlenB_le w.core; omega
  rw [getElem_set_fin]
  split
  · exact toNat_ofNat_mod_of_le hlen x
  · rfl

/-- Settles O57: hard-wired and unbound registers, then the bound ones by the direction of their binding, then predicates, masks and vectors. -/
theorem registerAccess : Obligations.RegisterAccess := by
  unfold Obligations.RegisterAccess
  refine ⟨fun s w n v => ⟨rfl, rfl, fun h0 hb => ⟨State.readG_unbound s w n h0 hb, State.chkDst_unbound s w n hb, getG_writeG_unbound v h0 hb⟩,
      (s.th w).binding_low n⟩, fun s w n b h0 hb => ?_, fun t n m b => ⟨rfl, rfl, getP_setP t n m b⟩,
    fun s w n m x => ⟨rfl, rfl, readM_writeM s w n m x⟩, readV_writeV⟩
  intro q faulted free
  have hread := readG_bound h0 hb
  have hdst := chkDst_bound hb
  refine ⟨fun hp => ?_, fun hp => ?_, fun hp hen => ?_, fun hp hen hf => ?_, fun hp hen hf ht => ?_, fun hp hen hf ht hfree => ?_, ?_⟩
  · rw [hread, if_pos hp]
    exact cbFault_eq _ _
  · have hacc : b.accepts q = false := Bool.eq_false_iff.2 fun h => by rw [accepts_iff, hp] at h; exact Bool.noConfusion h.1
    rw [hdst, hacc]
    exact cbFault_eq _ _
  · rw [hread, hp, pop_disabled hen]
    exact cbFault_eq _ _
  · rw [hread, hp]
    exact pop_empty hen hf
  · rw [hread, hp]
    exact pop_end hen hf ht
  · have hpop := pop_element hen hf ht hfree
    rw [hread, hp]
    refine ⟨fun hu hs => ?_, fun hu => ?_, fun g rest hu hs => ?_⟩
    · have hsound : s.sound b.core (popAddr (s.cb b.core b.cb)) 8 = .ok () := sound_ok hu hs
      exact hpop.trans (by rw [hsound]; rfl)
    · have hsound : s.sound b.core (popAddr (s.cb b.core b.cb)) 8 = .error (.trap 0x20 0 0x02 none) := sound_upset hu
      exact hpop.trans (by rw [hsound]; rfl)
    · have hsound : s.sound b.core (popAddr (s.cb b.core b.cb)) 8 = .error (.trap 0x20 (BitVec.ofNat 64 (localVa (32 * g))) 0x01 none) := sound_spoilt hu hs
      exact hpop.trans (by rw [hsound]; rfl)
  · intro hmine
    refine ⟨fun hp hbad => ?_, fun hp hen heos hm => ⟨fun hfull => ?_, fun hroom hfree => ?_⟩⟩
    · have hacc : b.accepts q = false := by
        refine Bool.eq_false_iff.2 fun h => ?_
        obtain ⟨-, hen, heos, hm⟩ := (accepts_iff b q).1 h
        obtain hen' | heos' | hm' := hbad
        · rw [hen] at hen'; exact Bool.noConfusion hen'
        · rw [heos] at heos'; exact Bool.noConfusion heos'
        · exact hm' hm
      rw [hdst, hacc]
      exact cbFault_eq _ _
    · rw [hdst, (accepts_iff b q).2 ⟨hp, hen, heos, hm⟩]
      exact if_pos hfull
    · have hacc := (accepts_iff b q).2 ⟨hp, hen, heos, hm⟩
      refine ⟨?_, fun v => ?_⟩
      · rw [hdst, hacc]
        exact (if_neg hroom).trans (lockFree_ok hfree)
      · simp only [writeG_bound v h0 hb, cb_updCb_same, lmem_updCb, lmem_lwrite_same]
        exact ⟨rfl, natOf_gets_sets _ _ v, fun off hoff => get_sets_outside _ _ _ _ (by rw [length_bytesOf]; exact hoff)⟩

end Sys2Proof.Registers

namespace Sys2Proof.Control
open Sys2Proof Sys2Proof.Machine Sys2Proof.Claims Sys2Proof.Scalar Sys2Proof.Reads

/-! ## Control transfer (R178 to R180, R229) -/

theorem branchTarget_eq (pc : Word) {k : Nat} (o : BitVec k) : branchTarget pc o = BitVec.ofInt 64 (pc.toNat + 4 * o.toInt) := by
  rw [branchTarget, BitVec.shiftLeft_eq_mul_twoPow, BitVec.ofInt_add, BitVec.ofInt_natCast, BitVec.ofNat_toNat, BitVec.setWidth_eq,
    BitVec.ofInt_mul, BitVec.mul_comm]
  rfl

/-- An instruction whose registers are open to it has no bound-register fault. -/
theorem checks_of_open {s : State} {i : Instr} (ho : open_ s i) : s.chkBound s.who i = .ok () ∧ s.chkCb s.who i = .ok () := by
  obtain ⟨_, hb, hc⟩ := bind_ok_iff.1 (show (s.chkBound s.who i >>= fun _ => s.chkCb s.who i) = .ok () from ho)
  exact ⟨hb, hc⟩

section Branches

variable {s s1 s2 : State} {a b d : Fin 32} {x y t : Word}

theorem branch_next {i : Instr} {c : Cond} {o : BitVec 15} (ho : open_ s i) (ha : s.readG s.who a = .ok (x, s1))
    (hb : s1.readG s.who b = .ok (y, s2)) :
    branch i c a b o s = .next (s2.retireTo s.who i
      (if condVal c x y then BitVec.ofInt 64 ((s.th s.who).pc.toNat + 4 * o.toInt) else (s.th s.who).pc + 4)) := by
  have hops : s.chkOps s.who i = .ok () := ho
  simp only [branch, issue_base, hops, State.read2, ha, hb, ok_bind, finish_ok, holds_eq_condVal, branchTarget_eq]

theorem exec_branchForm {o : BitVec 15} : ∀ f ∈ branchForms, open_ s (f.1 a b o) → s.readG s.who a = .ok (x, s1) →
    s1.readG s.who b = .ok (y, s2) → exec (f.1 a b o) s = .next (s2.retireTo s.who (f.1 a b o)
      (if condVal f.2 x y then BitVec.ofInt 64 ((s.th s.who).pc.toNat + 4 * o.toInt) else (s.th s.who).pc + 4)) := by
  simp only [branchForms, List.forall_mem_cons]
  exact ⟨branch_next, branch_next, branch_next, branch_next, branch_next, branch_next, by simp⟩

theorem exec_bp (p : Fin 16) (o : BitVec 15) (s : State) : exec (.bp p o) s = .next (s.retireTo s.who (.bp p o)
    (if s.readP s.who p then BitVec.ofInt 64 ((s.th s.who).pc.toNat + 4 * o.toInt) else (s.th s.who).pc + 4)) := by
  change branchP _ p true o s = _
  simp only [branchP, issue_base, finish_ok, branchTarget_eq, beq_true]

theorem exec_bnp (p : Fin 16) (o : BitVec 15) (s : State) : exec (.bnp p o) s = .next (s.retireTo s.who (.bnp p o)
    (if s.readP s.who p then (s.th s.who).pc + 4 else BitVec.ofInt 64 ((s.th s.who).pc.toNat + 4 * o.toInt))) := by
  change branchP _ p false o s = _
  simp only [branchP, issue_base, finish_ok, branchTarget_eq]
  cases s.readP s.who p <;> rfl

theorem exec_jal {o : BitVec 20} (ho : open_ s (.jal d o)) (hd : s.chkDst s.who d = .ok ()) : exec (.jal d o) s =
    .next ((s.writeG s.who d ((s.th s.who).pc + 4)).retireTo s.who (.jal d o) (BitVec.ofInt 64 ((s.th s.who).pc.toNat + 4 * o.toInt))) := by
  have hops : s.chkOps s.who (.jal d o) = .ok () := ho
  change execJal d o s = _
  simp only [execJal, issue_base, hops, State.putG, hd, ok_bind, finish_ok, branchTarget_eq]

theorem exec_jalr (ho : open_ s (.jalr d a)) (ha : s.readG s.who a = .ok (t, s1)) (ht : t.toNat % 4 = 0)
    (hd : s1.chkDst s.who d = .ok ()) :
    exec (.jalr d a) s = .next ((s1.writeG s.who d ((s.th s.who).pc + 4)).retireTo s.who (.jalr d a) t) := by
  obtain ⟨hbound, hcb⟩ := checks_of_open ho
  change execJalr d a s = _
  simp only [execJalr, issue_base, hbound, hcb, ha, M.waitsAfter_ok, ht, State.putG, hd, bne_self_eq_false, failIf_false, ok_bind, finish_ok]

theorem exec_jalr_misaligned (ho : open_ s (.jalr d a)) (ha : s.readG s.who a = .ok (t, s1)) (ht : t.toNat % 4 ≠ 0) :
    exec (.jalr d a) s = trapped s (.jalr d a) 0x05 t := by
  obtain ⟨hbound, -⟩ := checks_of_open ho
  have hmis : (t.toNat % 4 != 0) = true := bne_iff_ne.2 ht
  change execJalr d a s = _
  simp only [execJalr, issue_base, hbound, ha, M.waitsAfter_ok, hmis, failIf_true, fail_bind, ok_bind, finish_fail, trapped]

theorem exec_trap (n : Fin 256) (s : State) :
    exec (.trap n) s = .next (s.takeTrap s.who 0x12 false n.val (encodeWord (.trap n)) (s.th s.who).pc false) := by
  change execTrap n s = _
  rw [execTrap, issue_base, finish_trap]
  rfl

theorem exec_brk (s : State) : exec .brk s = .next (s.takeTrap s.who 0x13 false 0 (encodeWord .brk) (s.th s.who).pc false) := by
  change execBrk s = _
  rw [execBrk, issue_base, finish_fail]
  rfl

end Branches

/-- Settles O5, from what each branch, jump and trap instruction leaves. -/
theorem controlTransfer : Obligations.ControlTransfer := by
  unfold Obligations.ControlTransfer
  exact ⟨fun s o => ⟨fun f hf a b s1 s2 x y => exec_branchForm f hf, fun p => ⟨exec_bp p o s, exec_bnp p o s⟩⟩,
    fun d s => ⟨fun o => exec_jal, fun a s1 t ho ha => ⟨exec_jalr ho ha, exec_jalr_misaligned ho ha⟩⟩,
    fun s n => ⟨exec_trap n s, exec_brk s⟩⟩

end Sys2Proof.Control

namespace Sys2Proof.Access
open Sys2Proof Sys2Proof.Machine Sys2Proof.Claims Sys2Proof.Scalar Sys2Proof.Bits Sys2Proof.Reads Sys2Proof.Control

/-! ## Addresses (R182, R184) -/

theorem szBytes_eq (z : Sz) : szBytes z = bytesZ z := by cases z <;> rfl
theorem sznBytes_eq (z : SzN) : sznBytes z = bytesN z := by cases z <;> rfl
theorem szaBytes_eq (z : SzA) : szaBytes z = bytesA z := by cases z <;> rfl

theorem scaledOffset_eq (x : Word) (o : BitVec 12) (n : Nat) :
    x + o.signExtend 64 * BitVec.ofNat 64 n = BitVec.ofInt 64 (x.toNat + o.toInt * n) := by
  rw [BitVec.ofInt_add, BitVec.ofInt_mul, BitVec.ofInt_natCast, BitVec.ofInt_natCast, BitVec.ofNat_toNat, BitVec.setWidth_eq]
  rfl

theorem scaledIndex_eq (x y : Word) (n : Nat) : x + y * BitVec.ofNat 64 n = BitVec.ofInt 64 (x.toNat + y.toInt * n) := by
  rw [BitVec.ofInt_add, BitVec.ofInt_mul, BitVec.ofInt_natCast, BitVec.ofInt_natCast, BitVec.ofNat_toNat, BitVec.setWidth_eq,
    BitVec.ofInt_toInt]

section Addresses

variable {s s1 s2 : State} {w : Who} {a b : Fin 32} {x y : Word}

theorem eaOff_ok (ha : s.readG w a = .ok (x, s1)) (o : BitVec 12) (n : Nat) :
    s.eaOff w a o n = .ok (BitVec.ofInt 64 (x.toNat + o.toInt * n), s1) := by
  rw [State.eaOff, ha, ok_bind]
  exact congrArg (fun v => Except.ok (v, s1)) (scaledOffset_eq x o n)

theorem eaIdx_ok (ha : s.readG w a = .ok (x, s1)) (hb : s1.readG w b = .ok (y, s2)) (n : Nat) :
    s.eaIdx w a b n = .ok (BitVec.ofInt 64 (x.toNat + y.toInt * n), s2) := by
  simp only [State.eaIdx, State.read2, ha, hb, ok_bind, scaledIndex_eq]

end Addresses

/-! ## Traps of an access: fixed latency in the thread's own local memory (R17) -/

@[simp] theorem fixedIf_ok {α : Type} (b : Bool) (x : α) : M.fixedIf b (.ok x) = .ok x := rfl
@[simp] theorem fixedIf_next {α : Type} (b : Bool) (t : State) : (M.fixedIf b (.error (.next t)) : M α) = .error (.next t) := rfl
@[simp] theorem beforeWait_ok {α β : Type} (x : α) (wait : M β) : M.beforeWait (.ok x) wait = .ok x := by
  unfold M.beforeWait
  split <;> simp_all

theorem finish_fixedIf_fail {s : State} {i : Instr} {va tval : Word} {code : Nat} :
    finish s.who i s (M.fixedIf (s.ownLocal s.who va.toNat && !s.namesBound s.who i) (fail code tval)) = trappedAt s i va code tval := by
  rw [trappedAt]
  by_cases hown : s.ownLocal s.who va.toNat = true
  · by_cases hbound : s.namesBound s.who i = true
    · have hvaries : s.varies s.who i = true := by
        unfold State.varies
        rw [hbound, Bool.or_true]
      rw [if_pos hown, hown, hbound]
      change finish s.who i s (fail code tval) = _
      rw [finish_fail, hvaries, Bool.or_true]
    · rw [Bool.not_eq_true] at hbound
      rw [if_pos hown, hown, hbound]
      change finish s.who i s (.error (.localTrap code tval 0)) = _
      rw [finish_localTrap, hbound]
  · rw [if_neg hown, trapped]
    rw [Bool.not_eq_true] at hown
    rw [hown]
    exact finish_fail ..

/-! ## Loads and stores -/

theorem toInt_ofNat_eq_sext {n : Nat} (hn : 0 < n) (x : Nat) : (BitVec.ofNat n x).toInt = sext n x := by
  obtain ⟨n, rfl⟩ := Nat.exists_eq_succ_of_ne_zero hn.ne'
  have hpow : 2 ^ (n + 1) = 2 * 2 ^ n := Nat.pow_succ'
  simp only [BitVec.toInt_eq_toNat_cond, BitVec.toNat_ofNat, sext, Nat.succ_eq_add_one, Nat.add_sub_cancel]
  split <;> split <;> omega

theorem natOf_lt_two_pow {n : Nat} {bs : List Byte} (hlen : bs.length = n) : natOf bs < 2 ^ (8 * n) := by
  rw [← hlen, Nat.pow_mul]
  exact natOf_lt bs

/-- What a load delivers: its bytes, extended by its form (R182). -/
theorem extend_eq {n : Nat} {bs : List Byte} (hlen : bs.length = n) (hpos : 0 < n) (hn : n ≤ 8) (signed : Bool) :
    extend signed bs = if signed then (BitVec.ofNat (8 * n) (natOf bs)).signExtend 64 else (BitVec.ofNat (8 * n) (natOf bs)).setWidth 64 := by
  rw [extend, hlen]
  split
  · rw [toWord, BitVec.signExtend, toInt_ofNat_eq_sext (by omega)]
  · apply BitVec.eq_of_toNat_eq
    rw [wordOf, BitVec.toNat_setWidth, BitVec.toNat_ofNat, BitVec.toNat_ofNat, Nat.mod_eq_of_lt (natOf_lt_two_pow hlen)]

section Bodies

variable {i : Instr} {d : Fin 32} {n : Nat} {signed : Bool} {ea : State → Who → M (Word × State)} {s s1 : State} {va : Word}

theorem loadBody_eq (ho : open_ s i) (hea : ea s s.who = .ok (va, s1)) :
    loadBody false i d n signed ea s.who s = M.fixedIf (s.ownLocal s.who va.toNat && !s.namesBound s.who i) (do
      failIf (va.toNat % n != 0) 0x05 va
      let l ← s1.place s.who .load va.toNat n
      s1.chkDst s.who d
      s.route false s.who i true l
      let bs ← s1.loadAt s.who va.toNat l n
      .ok ((((s1.cached s.who va.toNat n false l).traceAt s.who 0 va.toNat l).writeG s.who d (extend signed bs)).retireAt s.who i l)) := by
  obtain ⟨hbound, hcb⟩ := checks_of_open ho
  simp only [loadBody, hbound, hcb, hea, M.waitsAfter_ok, ok_bind]

theorem storeBody_eq (ho : open_ s i) (hea : ea s s.who = .ok (va, s1)) :
    storeBody false i d n ea s.who s = M.fixedIf (s.ownLocal s.who va.toNat && !s.namesBound s.who i) (do
      s1.storeAllowed s.who i va.toNat n
      failIf (va.toNat % n != 0) 0x05 va
      let l ← (s1.place s.who .store va.toNat n).beforeWait (s1.readG s.who d)
      let (v, s2) ← s1.readG s.who d
      s.route false s.who i true l
      .ok ((((s2.cached s.who va.toNat n true l).traceAt s.who 1 va.toNat l).storeAt s.who l (bytesOf n v.toNat)).retireAt s.who i l)) := by
  obtain ⟨hbound, hcb⟩ := checks_of_open ho
  simp only [storeBody, hbound, hcb, hea, M.waitsAfter_ok, ok_bind]

theorem route_home {l : Loc} (h : remoteHome s.who l = none) (m : Bool) : s.route false s.who i m l = .ok () := by
  rw [State.route, h]

theorem route_away {l : Loc} {h : Nat} (hr : remoteHome s.who l = some h) (m : Bool) :
    s.route false s.who i m l = s.goRemote s.who i (m && l.isMem) h [h] := by
  rw [State.route, hr]
  rfl

/-- An access that leaves ends the instruction, whatever would follow. -/
theorem goRemote_bind {α β : Type} (w : Who) (m : Bool) (h : Nat) (ws : List Nat) (f : α → M β) :
    ((s.goRemote w i m h ws : M α) >>= f) = s.goRemote w i m h ws := by
  rw [State.goRemote, State.goRemote]
  split <;> rfl

theorem fixedIf_goRemote {α : Type} (b : Bool) (w : Who) (m : Bool) (h : Nat) (ws : List Nat) :
    M.fixedIf b (s.goRemote w i m h ws : M α) = s.goRemote w i m h ws := by
  rw [State.goRemote]
  split <;> rfl

theorem finish_goRemote (m : Bool) (l : Loc) (h : Nat) : finish s.who i s (s.goRemote s.who i (m && l.isMem) h [h]) = leaves s i m l h := by
  rw [State.goRemote, leaves]
  split <;> rfl

theorem loads_of_body (hexec : exec i s = finish s.who i s (loadBody false i d n signed ea s.who s)) (ho : open_ s i)
    (hea : ea s s.who = .ok (va, s1)) (hpos : 0 < n) (hn : n ≤ 8) : Loads i d n signed s s1 va := by
  rw [loadBody_eq ho hea] at hexec
  refine ⟨fun hmis => ?_, fun hal hd l bs hplace hhome hload hlen => ?_⟩
  · rw [hexec, bne_iff_ne.2 hmis, failIf_true, fail_bind, finish_fixedIf_fail]
  · have halign : (va.toNat % n != 0) = false := bne_eq_false_iff_eq.2 hal
    simp only [hexec, halign, failIf_false, ok_bind, hplace, hd, route_home hhome, hload, fixedIf_ok, finish_ok,
      extend_eq hlen hpos hn]

theorem loadLeaves_of_body (hexec : exec i s = finish s.who i s (loadBody false i d n signed ea s.who s)) (ho : open_ s i)
    (hea : ea s s.who = .ok (va, s1)) : LoadLeaves i d n s s1 va := by
  intro hal hd l h hplace hhome
  have halign : (va.toNat % n != 0) = false := bne_eq_false_iff_eq.2 hal
  rw [hexec, loadBody_eq ho hea, halign, failIf_false, ok_bind, hplace, ok_bind, hd, ok_bind, route_away hhome, goRemote_bind, fixedIf_goRemote, finish_goRemote]

theorem stores_of_body (hexec : exec i s = finish s.who i s (storeBody false i d n ea s.who s)) (ho : open_ s i)
    (hea : ea s s.who = .ok (va, s1)) : Stores i d n s s1 va := by
  intro hallow
  rw [storeBody_eq ho hea, hallow, ok_bind] at hexec
  refine ⟨fun hmis => ?_, fun hal v s2 l hv hplace hhome => ?_⟩
  · rw [hexec, bne_iff_ne.2 hmis, failIf_true, fail_bind, finish_fixedIf_fail]
  · have halign : (va.toNat % n != 0) = false := bne_eq_false_iff_eq.2 hal
    simp only [hexec, halign, failIf_false, ok_bind, hplace, hv, beforeWait_ok, route_home hhome, fixedIf_ok, finish_ok]

theorem storeLeaves_of_body (hexec : exec i s = finish s.who i s (storeBody false i d n ea s.who s)) (ho : open_ s i)
    (hea : ea s s.who = .ok (va, s1)) : StoreLeaves i d n s s1 va := by
  intro hal hallow v s2 l h hv hplace hhome
  have halign : (va.toNat % n != 0) = false := bne_eq_false_iff_eq.2 hal
  rw [hexec, storeBody_eq ho hea, hallow, ok_bind, halign, failIf_false, ok_bind, hplace, beforeWait_ok, ok_bind, hv, ok_bind]
  simp only [route_away hhome, goRemote_bind, fixedIf_goRemote, finish_goRemote]

theorem storeUnsaved_of_body (hexec : exec i s = finish s.who i s (storeBody false i d n ea s.who s)) (ho : open_ s i)
    (hea : ea s s.who = .ok (va, s1)) : StoreUnsaved i n s s1 va := by
  intro hspec hout
  have hwindow : inWindow (s1.th s.who) va.toNat n = false := decide_eq_false hout
  have hstore : s1.storeAllowed s.who i va.toNat n = fail 0x08 (encodeWord i) := by
    rw [State.storeAllowed, hspec, hwindow]
    rfl
  rw [hexec, storeBody_eq ho hea, hstore, fail_bind, finish_fixedIf_fail]

end Bodies

/-! ## The five instructions -/

theorem bytesZ_bounds (z : Sz) : 0 < bytesZ z ∧ bytesZ z ≤ 8 := by cases z <;> decide
theorem bytesN_bounds (z : SzN) : 0 < bytesN z ∧ bytesN z ≤ 8 := by cases z <;> decide

section Instructions

variable (s : State) (d a b : Fin 32)

theorem exec_ld (z : Sz) (o : BitVec 12) : exec (.ld d a z o) s =
    finish s.who (.ld d a z o) s (loadBody false (.ld d a z o) d (bytesZ z) true (fun s w => s.eaOff w a o (bytesZ z)) s.who s) := by
  rw [← szBytes_eq]
  change execLd d a z o s = _
  rw [execLd, issue_base]
  rfl

theorem exec_ldn (z : SzN) (o : BitVec 12) : exec (.ldn d a z o) s =
    finish s.who (.ldn d a z o) s (loadBody false (.ldn d a z o) d (bytesN z) false (fun s w => s.eaOff w a o (bytesN z)) s.who s) := by
  rw [← sznBytes_eq]
  change execLdn d a z o s = _
  rw [execLdn, issue_base]
  rfl

theorem exec_ldx (z : SzX) : exec (.ldx d a b z) s = finish s.who (.ldx d a b z) s
    (loadBody false (.ldx d a b z) d (bytesX z) (signedX z) (fun s w => s.eaIdx w a b (bytesX z)) s.who s) := by
  cases z with
  | s z =>
    rw [bytesX, ← szBytes_eq]
    change execLdx d a b (.s z) s = _
    rw [execLdx, issue_base]
    rfl
  | n z =>
    rw [bytesX, ← sznBytes_eq]
    change execLdx d a b (.n z) s = _
    rw [execLdx, issue_base]
    rfl

theorem exec_st (z : Sz) (o : BitVec 12) : exec (.st d a z o) s =
    finish s.who (.st d a z o) s (storeBody false (.st d a z o) d (bytesZ z) (fun s w => s.eaOff w a o (bytesZ z)) s.who s) := by
  rw [← szBytes_eq]
  change execSt d a z o s = _
  rw [execSt, issue_base]
  rfl

theorem exec_stx (z : Sz) : exec (.stx d a b z) s =
    finish s.who (.stx d a b z) s (storeBody false (.stx d a b z) d (bytesZ z) (fun s w => s.eaIdx w a b (bytesZ z)) s.who s) := by
  rw [← szBytes_eq]
  change execStx d a b z s = _
  rw [execStx, issue_base]
  rfl

end Instructions

theorem bytesX_bounds (z : SzX) : 0 < bytesX z ∧ bytesX z ≤ 8 := by
  cases z with
  | s z => exact bytesZ_bounds z
  | n z => exact bytesN_bounds z

/-- Settles O7: the five instructions are the load and the store body at their addresses. -/
theorem loadAndStoreResult : Obligations.LoadAndStoreResult := by
  unfold Obligations.LoadAndStoreResult
  refine ⟨fun s d a s1 x ha => ⟨fun z o ho => ?_, fun z o ho => ?_, fun z b s2 y ho hb => ?_⟩,
    fun s d a s1 x z ha => ⟨fun o ho => ?_, fun b s2 y ho hb => ?_⟩,
    fun s d a s1 x ha => ⟨fun z o => ⟨fun ho => ?_, fun ho => ?_⟩, fun z o ho => ?_, fun b s2 y hb => ⟨fun z ho => ?_, fun z ho => ?_⟩⟩⟩
  · exact loads_of_body (exec_ld s d a z o) ho (eaOff_ok ha o _) (bytesZ_bounds z).1 (bytesZ_bounds z).2
  · exact loads_of_body (exec_ldn s d a z o) ho (eaOff_ok ha o _) (bytesN_bounds z).1 (bytesN_bounds z).2
  · exact loads_of_body (exec_ldx s d a b z) ho (eaIdx_ok ha hb _) (bytesX_bounds z).1 (bytesX_bounds z).2
  · exact stores_of_body (exec_st s d a z o) ho (eaOff_ok ha o _)
  · exact stores_of_body (exec_stx s d a b z) ho (eaIdx_ok ha hb _)
  · exact loadLeaves_of_body (exec_ld s d a z o) ho (eaOff_ok ha o _)
  · exact storeLeaves_of_body (exec_st s d a z o) ho (eaOff_ok ha o _)
  · exact loadLeaves_of_body (exec_ldn s d a z o) ho (eaOff_ok ha o _)
  · exact loadLeaves_of_body (exec_ldx s d a b z) ho (eaIdx_ok ha hb _)
  · exact storeLeaves_of_body (exec_stx s d a b z) ho (eaIdx_ok ha hb _)

end Sys2Proof.Access

namespace Sys2Proof.Atomic
open Sys2Proof Sys2Proof.Machine Sys2Proof.Claims Sys2Proof.Scalar Sys2Proof.Bits Sys2Proof.Reads Sys2Proof.Control Sys2Proof.Access

/-! ## Atomics (R189) -/

/-- The word that the claim's table says an atomic stores is the model's; AMOCAS alone may store none. -/
def StoresAs (o : AmoOp) (f : Nat → Nat → Nat → Nat → Option Nat) : Prop :=
  ∀ n m b d : Nat, 0 < n → m < 2 ^ n → b < 2 ^ n → f n m b d = if o = .cas ∧ m ≠ d then none else some (o.eval n m b d)

theorem sext_of_lt {n x : Nat} (hx : x < 2 ^ n) : sext n x = if x < 2 ^ (n - 1) then (x : Int) else (x : Int) - 2 ^ n := by
  simp only [sext, Nat.mod_eq_of_lt hx]
  split
  · rfl
  · simp

theorem storesAs_min : StoresAs .min fun n m b _ =>
    some (if (if m < 2 ^ (n - 1) then (m : Int) else (m : Int) - 2 ^ n) ≤ (if b < 2 ^ (n - 1) then (b : Int) else (b : Int) - 2 ^ n) then m else b) := by
  intro n m b d _ hm hb
  simp only [AmoOp.eval, sext_of_lt hm, sext_of_lt hb, reduceCtorEq, false_and, if_false]

theorem storesAs_max : StoresAs .max fun n m b _ =>
    some (if (if m < 2 ^ (n - 1) then (m : Int) else (m : Int) - 2 ^ n) ≤ (if b < 2 ^ (n - 1) then (b : Int) else (b : Int) - 2 ^ n) then b else m) := by
  intro n m b d _ hm hb
  simp only [AmoOp.eval, sext_of_lt hm, sext_of_lt hb, reduceCtorEq, false_and, if_false]

theorem storesAs_cas : StoresAs .cas fun _ m b d => if m = d then some b else none := by
  intro n m b d _ _ _
  by_cases h : m = d <;> simp [h, AmoOp.eval]

/-- An atomic of the claims' table. -/
abbrev AmoForm := (Fin 32 → Fin 32 → Fin 32 → SzA → Instr) × Bool × (Nat → Nat → Nat → Nat → Option Nat)

/-- It executes as the atomic body of an operator that stores what the table says, and reads d where that operator is AMOCAS. -/
def IsAmo (f : AmoForm) : Prop :=
  ∃ o : AmoOp, f.2.1 = decide (o = .cas) ∧ StoresAs o f.2.2 ∧
    ∀ d a b z s, exec (f.1 d a b z) s = issue (f.1 d a b z) false 0 s fun w => amoBody false (f.1 d a b z) o d a b z w s

theorem storesAs_of_eval {o : AmoOp} {f : Nat → Nat → Nat → Nat → Option Nat} (ho : o ≠ .cas)
    (h : ∀ n m b d, f n m b d = some (o.eval n m b d)) : StoresAs o f := by
  intro n m b d _ _ _
  rw [if_neg fun hcas => ho hcas.1, h]

theorem isAmo_of_mem : ∀ f ∈ amoForms, IsAmo f := by
  simp only [amoForms, List.forall_mem_cons]
  exact
    ⟨⟨.add, rfl, storesAs_of_eval (by decide) fun _ _ _ _ => rfl, fun _ _ _ _ _ => rfl⟩,
     ⟨.and, rfl, storesAs_of_eval (by decide) fun _ _ _ _ => rfl, fun _ _ _ _ _ => rfl⟩,
     ⟨.or, rfl, storesAs_of_eval (by decide) fun _ _ _ _ => rfl, fun _ _ _ _ _ => rfl⟩,
     ⟨.xor, rfl, storesAs_of_eval (by decide) fun _ _ _ _ => rfl, fun _ _ _ _ _ => rfl⟩,
     ⟨.min, rfl, storesAs_min, fun _ _ _ _ _ => rfl⟩,
     ⟨.max, rfl, storesAs_max, fun _ _ _ _ _ => rfl⟩,
     ⟨.swp, rfl, storesAs_of_eval (by decide) fun _ _ _ _ => rfl, fun _ _ _ _ _ => rfl⟩,
     ⟨.cas, rfl, storesAs_cas, fun _ _ _ _ _ => rfl⟩, by simp⟩

section Body

variable {i : Instr} {o : AmoOp} {d a b : Fin 32} {z : SzA} {s s1 s2 s3 : State} {va x y : Word}

theorem amo_speculative (ho : open_ s i) (hspec : s.spec s.who = true) :
    finish s.who i s (amoBody false i o d a b z s.who s) = trapped s i 0x08 (encodeWord i) := by
  obtain ⟨hbound, -⟩ := checks_of_open ho
  simp only [amoBody, hbound, hspec, ok_bind, failIf_true, fail_bind, finish_fail, trapped]

theorem amo_misaligned (ho : open_ s i) (hspec : s.spec s.who = false) (ha : s.readG s.who a = .ok (va, s1))
    (hmis : va.toNat % bytesA z ≠ 0) : finish s.who i s (amoBody false i o d a b z s.who s) = trapped s i 0x05 va := by
  obtain ⟨hbound, -⟩ := checks_of_open ho
  have hne : (va.toNat % szaBytes z != 0) = true := by rw [szaBytes_eq]; exact bne_iff_ne.2 hmis
  simp only [amoBody, hbound, hspec, ha, M.waitsAfter_ok, hne, ok_bind, failIf_false, failIf_true, fail_bind, finish_fail, trapped]

theorem amoOperands_ok (hb : s1.readG s.who b = .ok (y, s2))
    (hx : if decide (o = .cas) then s2.readG s.who d = .ok (x, s3) else x = 0 ∧ s3 = s2) (hd : s3.chkDst s.who d = .ok ()) :
    s1.amoOperands s.who o d b = .ok (y, x, s3) := by
  rw [State.amoOperands, hb, ok_bind]
  by_cases hcas : o = .cas
  · rw [if_pos (decide_eq_true hcas)] at hx
    simp only [hcas, if_true, hx, ok_bind, hd]
  · rw [if_neg (by simp [hcas])] at hx
    obtain ⟨rfl, rfl⟩ := hx
    simp only [hcas, if_false, ok_bind, hd]

/-- An atomic at its place: the state the predictor leaves, the trace and the block of the slice, and the word stored. -/
def amoNoted (s : State) (w : Who) (l : Loc) : State :=
  match l with
  | .mem t => if t.home = w.core then s.noteRemote w t.home else s
  | .loc _ _ => s
def amoTraced (s : State) (w : Who) (l : Loc) (va : Nat) : State :=
  (match l with
    | .mem t => s.sector t
    | .loc _ _ => s).traceAt w 2 va l

theorem amoBody_eq (ho : open_ s i) (hspec : s.spec s.who = false) (ha : s.readG s.who a = .ok (va, s1))
    (hal : va.toNat % bytesA z = 0) (hops : s1.amoOperands s.who o d b = .ok (y, x, s3)) {l : Loc}
    (hplace : s1.place s.who .atomic va.toNat (bytesA z) = .ok l) :
    amoBody false i o d a b z s.who s = (do
      s.route false s.who i false l
      let bs ← (amoNoted s3 s.who l).readAt l (bytesA z)
      let t := amoTraced (amoNoted s3 s.who l) s.who l va.toNat
      let t := if o = .cas && natOf bs != x.toNat % 2 ^ (8 * bytesA z) then t
        else t.writeAt l (bytesOf (bytesA z) (o.eval (8 * bytesA z) (natOf bs) (y.toNat % 2 ^ (8 * bytesA z)) (x.toNat % 2 ^ (8 * bytesA z))))
      .ok ((t.writeG s.who d (extend true bs)).retireVar s.who i)) := by
  obtain ⟨hbound, hcb⟩ := checks_of_open ho
  have halign : (va.toNat % bytesA z != 0) = false := bne_eq_false_iff_eq.2 hal
  simp only [amoBody, szaBytes_eq, hbound, hspec, ha, M.waitsAfter_ok, halign, hcb, hops, hplace, beforeWait_ok, ok_bind, failIf_false]
  cases l <;> rfl

theorem amo_leaves (ho : open_ s i) (hspec : s.spec s.who = false) (ha : s.readG s.who a = .ok (va, s1))
    (hal : va.toNat % bytesA z = 0) (hops : s1.amoOperands s.who o d b = .ok (y, x, s3)) {l : Loc} {h : Nat}
    (hplace : s1.place s.who .atomic va.toNat (bytesA z) = .ok l) (hhome : remoteHome s.who l = some h) :
    finish s.who i s (amoBody false i o d a b z s.who s) = leaves s i false l h := by
  rw [amoBody_eq ho hspec ha hal hops hplace, route_away hhome, goRemote_bind, finish_goRemote]

/-- The state once an atomic has stored what its form says. -/
def amoStored (t : State) (l : Loc) (n : Nat) : Option Nat → State
  | some m => t.writeAt l (bytesOf n m)
  | none => t

theorem amo_completes {f : Nat → Nat → Nat → Nat → Option Nat} (hf : StoresAs o f) (ho : open_ s i) (hspec : s.spec s.who = false)
    (ha : s.readG s.who a = .ok (va, s1)) (hal : va.toNat % bytesA z = 0) (hops : s1.amoOperands s.who o d b = .ok (y, x, s3)) {l : Loc}
    (hplace : s1.place s.who .atomic va.toNat (bytesA z) = .ok l) (hhome : remoteHome s.who l = none) {bs : List Byte}
    (hread : (amoNoted s3 s.who l).readAt l (bytesA z) = .ok bs) (hlen : bs.length = bytesA z) :
    finish s.who i s (amoBody false i o d a b z s.who s) =
      .next (((amoStored (amoTraced (amoNoted s3 s.who l) s.who l va.toNat) l (bytesA z)
        (f (8 * bytesA z) (natOf bs) (y.toNat % 2 ^ (8 * bytesA z)) (x.toNat % 2 ^ (8 * bytesA z)))).writeG s.who d
          ((BitVec.ofNat (8 * bytesA z) (natOf bs)).signExtend 64)).retireVar s.who i) := by
  have hsize : 0 < bytesA z ∧ bytesA z ≤ 8 := by cases z <;> decide
  have hvalue : extend true bs = (BitVec.ofNat (8 * bytesA z) (natOf bs)).signExtend 64 := extend_eq hlen hsize.1 hsize.2 true
  rw [amoBody_eq ho hspec ha hal hops hplace, route_home hhome, ok_bind, hread, ok_bind, finish_ok, hvalue,
    hf _ _ _ _ (by omega) (natOf_lt_two_pow hlen) (Nat.mod_lt _ (by positivity))]
  by_cases hkeep : o = .cas ∧ natOf bs ≠ x.toNat % 2 ^ (8 * bytesA z)
  · rw [if_pos hkeep, if_pos (by simpa using hkeep)]
    rfl
  · rw [if_neg hkeep, if_neg (by simpa using hkeep)]
    rfl

end Body

/-- Settles O8: each atomic of the table is the atomic body of its operator. -/
theorem atomicResult : Obligations.AtomicResult := by
  unfold Obligations.AtomicResult
  intro f hf d a b z s i n ho
  obtain ⟨o, hcas, hstores, hexec⟩ := isAmo_of_mem f hf
  have hbody : exec i s = finish s.who i s (amoBody false i o d a b z s.who s) :=
    (hexec d a b z s).trans (issue_base ..)
  rw [hbody]
  refine ⟨fun hspec => amo_speculative ho hspec, fun hspec s1 va ha => ⟨amo_misaligned ho hspec ha, ?_⟩⟩
  intro hal s2 s3 y x l bs hb hx hd hplace
  rw [hcas] at hx
  have hops := amoOperands_ok hb hx hd
  refine ⟨fun h hhome => amo_leaves ho hspec ha hal hops hplace hhome, fun hhome => ?_⟩
  cases l with
  | loc c off => exact amo_completes hstores ho hspec ha hal hops hplace hhome
  | mem t => exact amo_completes hstores ho hspec ha hal hops hplace hhome

end Sys2Proof.Atomic

namespace Sys2Proof.Publish
open Sys2Proof Sys2Proof.Machine Sys2Proof.Claims Sys2Proof.Reads Sys2Proof.Control

/-! ## PUBLISH (R186, R187) -/

section Publish

variable {s s1 s2 : State} {a b : Fin 32} {x y : Word}

theorem publish_speculative (ho : open_ s (.publish a b)) (hspec : s.spec s.who = true) :
    exec (.publish a b) s = trapped s (.publish a b) 0x08 (encodeWord (.publish a b)) := by
  obtain ⟨hbound, -⟩ := checks_of_open ho
  change execPublish a b s = _
  simp only [execPublish, issue_base, hbound, hspec, ok_bind, failIf_true, fail_bind, finish_fail, trapped]

theorem publish_baseMisaligned (ho : open_ s (.publish a b)) (hspec : s.spec s.who = false) (ha : s.readG s.who a = .ok (x, s1))
    (hx : x.toNat % 4096 ≠ 0) : exec (.publish a b) s = trapped s (.publish a b) 0x05 x := by
  obtain ⟨hbound, -⟩ := checks_of_open ho
  have hne : (x.toNat % 2 ^ 12 != 0) = true := bne_iff_ne.2 hx
  change execPublish a b s = _
  simp only [execPublish, issue_base, hbound, hspec, ha, M.waitsAfter_ok, hne, ok_bind, failIf_false, failIf_true, fail_bind,
    finish_fail, trapped]

theorem publish_lengthMisaligned (ho : open_ s (.publish a b)) (hspec : s.spec s.who = false) (ha : s.readG s.who a = .ok (x, s1))
    (hx : x.toNat % 4096 = 0) (hb : s1.readG s.who b = .ok (y, s2)) (hy : y.toNat % 4096 ≠ 0) :
    exec (.publish a b) s = trapped s (.publish a b) 0x05 x := by
  obtain ⟨hbound, hcb⟩ := checks_of_open ho
  have hbase : (x.toNat % 2 ^ 12 != 0) = false := bne_eq_false_iff_eq.2 hx
  have hne : (y.toNat % 2 ^ 12 != 0) = true := bne_iff_ne.2 hy
  change execPublish a b s = _
  simp only [execPublish, issue_base, hbound, hcb, hspec, ha, hb, M.waitsAfter_ok, hbase, hne, ok_bind, failIf_false, failIf_true,
    fail_bind, finish_fail, trapped]

/-- What PUBLISH leaves when its check pass found the PRIVATE pages `ps`. -/
def publishes (s : State) (w : Who) (i : Instr) : List Xlat → State
  | [] => s.retireVar w i
  | [p] => (s.freezePage (s.at w).asid p.pa p.pte p.at_).retireVar w i
  | p :: q :: rest =>
    ((s.freezePage (s.at w).asid p.pa p.pte p.at_).waitBusy w i (.publish (rest.length + 1))).post
      ((q :: rest).map fun q => Event.publishPageChange w.core w.slot
        ((s.freezePage (s.at w).asid p.pa p.pte p.at_).at w).asid (BitVec.ofNat 64 q.pa))

theorem publish_completes (ho : open_ s (.publish a b)) (hspec : s.spec s.who = false) (ha : s.readG s.who a = .ok (x, s1))
    (hx : x.toNat % 4096 = 0) (hb : s1.readG s.who b = .ok (y, s2)) (hy : y.toNat % 4096 = 0) {ps : List Xlat}
    (hps : s2.publishCheck s.who x.toNat y.toNat x.toNat (y.toNat / 4096) = .ok ps) :
    exec (.publish a b) s = .next (publishes s2 s.who (.publish a b) ps) := by
  obtain ⟨hbound, hcb⟩ := checks_of_open ho
  have hbase : (x.toNat % 2 ^ 12 != 0) = false := bne_eq_false_iff_eq.2 hx
  have hlen : (y.toNat % 2 ^ 12 != 0) = false := bne_eq_false_iff_eq.2 hy
  have hcheck : s2.publishCheck s.who x.toNat y.toNat x.toNat (y.toNat / 2 ^ 12) = .ok ps := hps
  change execPublish a b s = _
  simp only [execPublish, issue_base, hbound, hcb, hspec, ha, hb, M.waitsAfter_ok, hbase, hlen, ok_bind, failIf_false, hcheck]
  match ps with
  | [] => rfl
  | [p] => rfl
  | p :: q :: rest => rfl

end Publish

/-! ## FENCE (R192) -/

/-- Whether a home lies within a scope of a core, in the claim's words. -/
def within (sc : Scope) (core h : Nat) : Bool :=
  match sc with
  | .thr | .core => decide (h = core)
  | .clu => decide (h / 8 = core / 8)
  | .die => decide (h / 192 = core / 192)
  | .pkg => decide (h < 1536)
  | .sys => true

theorem inScope_eq_within (sc : Scope) (core h : Nat) : inScope sc core h = within sc core h := by
  cases sc <;> simp only [inScope, within, dieOf, beq_eq_decide]

theorem fenceWaits_iff (k : BitVec 6) (sc : Scope) (core : Nat) (posted : List Nat) :
    fenceWaits k sc core posted = true ↔ k.getLsbD 4 ∧ ∃ h ∈ posted, within sc core h = true := by
  simp only [fenceWaits, Bool.and_eq_true, List.any_eq_true, inScope_eq_within]

theorem exec_fence (s : State) (k : BitVec 6) (sc : Scope) :
    exec (.fence k sc) s = .next (if k.getLsbD 4 ∧ ∃ h ∈ (s.at s.who).posted, within sc s.who.core h = true then
      s.waitBusy s.who (.fence k sc) (.replies true) else s.retireVar s.who (.fence k sc)) := by
  change execFence k sc s = _
  simp only [execFence, issue_base, ← fenceWaits_iff]
  split
  · exact finish_busy _ _ _ _
  · exact finish_ok _ _ _ _

/-- Settles O9: PUBLISH by its tests in their order, then by the pages its check pass finds; FENCE by the homes its scope holds. -/
theorem publishAndFence : Obligations.PublishAndFence := by
  unfold Obligations.PublishAndFence
  refine ⟨fun s a b ho => ⟨publish_speculative ho, fun hspec s1 x ha => ⟨publish_baseMisaligned ho hspec ha, fun hx s2 y hb =>
    ⟨publish_lengthMisaligned ho hspec ha hx hb, fun hy ps hps => ?_⟩⟩⟩, fun s k sc => exec_fence s k sc⟩
  have h := publish_completes ho hspec ha hx hb hy hps
  match ps with
  | [] => exact h
  | [p] => exact h
  | p :: q :: rest => exact h

end Sys2Proof.Publish

namespace Sys2Proof.Unsaved
open Sys2Proof Sys2Proof.Machine Sys2Proof.Claims Sys2Proof.Reads Sys2Proof.Fields Sys2Proof.Control Sys2Proof.Access Sys2Proof.Atomic

/-! ## Bound registers under history (R64, R158) -/

/-- The check that every instruction with register operands makes first has failed. -/
def Barred (s : State) (i : Instr) : Prop := s.chkBound s.who i = fail 0x08 (encodeWord i)

/-- The instruction then takes the unsaved-state fault. -/
def Refuses (i : Instr) : Prop := ∀ s, Barred s i → exec i s = trapped s i 0x08 (encodeWord i)

theorem barred_of_bound {s : State} {i : Instr} {r : Fin 32} (hhist : s.history s.who = true) (hbound : ((s.th s.who).binding r).isSome = true)
    (hr : r ∈ i.srcs ++ i.dsts) : Barred s i := by
  have hnames : s.namesBound s.who i = true := List.any_eq_true.2 ⟨r, hr, hbound⟩
  rw [Barred, State.chkBound, hhist, hnames]
  rfl

/-- A body that begins with the check, whatever follows, refuses. -/
theorem refuses_of_issue {i : Instr} {body : State → Who → M State} (hexec : ∀ s, exec i s = issue i false 0 s (body s))
    (hbody : ∀ s, Barred s i → body s s.who = fail 0x08 (encodeWord i)) : Refuses i := by
  intro s h
  rw [hexec, issue_base, hbody s h, finish_fail]
  rfl

theorem chkBound_barred {s : State} {i : Instr} (h : Barred s i) : s.chkBound s.who i = fail 0x08 (encodeWord i) := h
theorem chkOps_barred {s : State} {i : Instr} (h : Barred s i) : s.chkOps s.who i = fail 0x08 (encodeWord i) := by
  rw [State.chkOps, chkBound_barred h, fail_bind]

/-! ## The shared bodies make the check first -/

section Bodies

variable {i : Instr} {d a b : Fin 32}

theorem refuses_alu {var : Bool} {f : State → Word → Word → Word} (hexec : ∀ s, exec i s = alu i d a b var (f s) s) : Refuses i :=
  refuses_of_issue hexec fun s h => by simp only [chkOps_barred h, fail_bind]

theorem refuses_alu1 {f : Word → Word} (hexec : ∀ s, exec i s = alu1 i d a f s) : Refuses i :=
  refuses_of_issue hexec fun s h => by simp only [chkOps_barred h, fail_bind]

theorem refuses_alu0 {f : Thread → Word} (hexec : ∀ s, exec i s = alu0 i d f s) : Refuses i :=
  refuses_of_issue hexec fun s h => by simp only [chkOps_barred h, fail_bind]

theorem refuses_branch {c : Cond} {o : BitVec 15} (hexec : ∀ s, exec i s = branch i c a b o s) : Refuses i :=
  refuses_of_issue hexec fun s h => by simp only [chkOps_barred h, fail_bind]

theorem refuses_load {n : Nat} {signed : Bool} {ea : State → Who → M (Word × State)}
    (hexec : ∀ s, exec i s = issue i false 0 s fun w => loadBody false i d n signed ea w s) : Refuses i :=
  refuses_of_issue hexec fun s h => by simp only [loadBody, chkBound_barred h, fail_bind]

theorem refuses_store {n : Nat} {ea : State → Who → M (Word × State)}
    (hexec : ∀ s, exec i s = issue i false 0 s fun w => storeBody false i d n ea w s) : Refuses i :=
  refuses_of_issue hexec fun s h => by simp only [storeBody, chkBound_barred h, fail_bind]

theorem refuses_amo {o : AmoOp} {z : SzA} (hexec : ∀ s, exec i s = issue i false 0 s fun w => amoBody false i o d a b z w s) : Refuses i :=
  refuses_of_issue hexec fun s h => by simp only [amoBody, chkBound_barred h, fail_bind]

theorem refuses_latPost {b : Option (Fin 32)} {rel : Bool} {op : State → Who → Word → M LatOp}
    (hexec : ∀ s, exec i s = latPost i a b rel op s) : Refuses i :=
  refuses_of_issue hexec fun s h => by simp only [chkBound_barred h, fail_bind]

end Bodies

/-! ## The instructions with bodies of their own -/

section Single

variable (d a b : Fin 32)

theorem refuses_bfi : Refuses (.bfi d a b) := fun s h => by
  change execBfi d a b s = _
  simp only [execBfi, issue_base, chkOps_barred h, fail_bind, finish_fail, trapped]

theorem refuses_hparse (n : Fin 8) : Refuses (.hparse d a b n) := fun s h => by
  change execHparse d a b n s = _
  simp only [execHparse, issue_base, chkOps_barred h, fail_bind, finish_fail, trapped]

theorem refuses_pcmp (p : Fin 16) (c : Cond) : Refuses (.pcmp p a b c) := fun s h => by
  change execPcmp p a b c s = _
  simp only [execPcmp, issue_base, chkOps_barred h, fail_bind, finish_fail, trapped]

theorem refuses_pcmpi (p : Fin 16) (c : Cond) (v : BitVec 12) : Refuses (.pcmpi p a c v) := fun s h => by
  change execPcmpi p a c v s = _
  simp only [execPcmpi, issue_base, chkOps_barred h, fail_bind, finish_fail, trapped]

theorem refuses_gtop : Refuses (.gtop a) := fun s h => by
  change execGtop a s = _
  simp only [execGtop, issue_base, chkOps_barred h, fail_bind, finish_fail, trapped]

theorem refuses_jal (o : BitVec 20) : Refuses (.jal d o) := fun s h => by
  change execJal d o s = _
  simp only [execJal, issue_base, chkOps_barred h, fail_bind, finish_fail, trapped]

theorem refuses_jalr : Refuses (.jalr d a) := fun s h => by
  change execJalr d a s = _
  simp only [execJalr, issue_base, chkBound_barred h, fail_bind, finish_fail, trapped]

theorem refuses_ldx (z : SzX) : Refuses (.ldx d a b z) := fun s h => by
  simp only [exec_ldx, loadBody, chkBound_barred h, fail_bind, finish_fail, trapped]

theorem refuses_publish : Refuses (.publish a b) := fun s h => by
  change execPublish a b s = _
  simp only [execPublish, issue_base, chkBound_barred h, fail_bind, finish_fail, trapped]

theorem refuses_ljoin : Refuses (.ljoin a b) :=
  refuses_latPost (b := some b) (rel := false) (op := fun _ _ x => .ok (.join x)) fun _ => rfl

theorem refuses_ljoinR : Refuses (.ljoinR a b) :=
  refuses_latPost (b := some b) (rel := true) (op := fun _ _ x => .ok (.join x)) fun _ => rfl

theorem refuses_lfill : Refuses (.lfill a b) :=
  refuses_latPost (b := some b) (rel := false) (op := fun _ _ x => .ok (.fill x)) fun _ => rfl

theorem refuses_lfillv (v : Fin 16) : Refuses (.lfillv a v) :=
  refuses_latPost (b := none) (rel := false) (op := fun s w _ => .ok (.fillV (bytesOf 32 (s.readV w v)))) fun _ => rfl

theorem refuses_lesum (t : EsumT) : Refuses (.lesum a b t) :=
  refuses_latPost (b := some b) (rel := false) (op := fun _ _ x => .ok (.esum t x)) fun _ => rfl

theorem refuses_lfillm (m : Fin 8) : Refuses (.lfillm a b m) := fun s h => by
  change execLfillm a b m s = _
  simp only [execLfillm, issue_base, chkBound_barred h, fail_bind, finish_fail, trapped]

theorem refuses_lfrz : Refuses (.lfrz d a) := fun s h => by
  change execLfrz d a s = _
  simp only [execLfrz, issue_base, chkBound_barred h, fail_bind, finish_fail, trapped]

theorem refuses_lfrza : Refuses (.lfrza a) := fun s h => by
  change execLfrza a s = _
  simp only [execLfrza, issue_base, chkOps_barred h, fail_bind, finish_fail, trapped]

theorem refuses_lwait (n : Fin 4) (k : TrigK) : Refuses (.lwait d a b n k) := fun s h => by
  change execLwait d a b n k s = _
  simp only [execLwait, lwaitBody, issue_base, chkBound_barred h, fail_bind, finish_fail, trapped]

theorem refuses_lwaitf : Refuses (.lwaitf d a b) := fun s h => by
  change execLwaitf d a b s = _
  simp only [execLwaitf, lwaitfBody, issue_base, chkBound_barred h, fail_bind, finish_fail, trapped]

theorem refuses_lxrd : Refuses (.lxrd d a) := fun s h => by
  change execLxrd d a s = _
  simp only [execLxrd, lxrd, lxrdBody, issue_base, chkBound_barred h, fail_bind, finish_fail, trapped]

theorem refuses_lxrdv (v : Fin 16) : Refuses (.lxrdv v a) := fun s h => by
  change execLxrdv v a s = _
  simp only [execLxrdv, lxrdv, lxrdBody, issue_base, chkBound_barred h, fail_bind, finish_fail, trapped]

theorem refuses_vtset : Refuses (.vtset a) := fun s h => by
  change execVtset a s = _
  simp only [execVtset, issue_base, chkOps_barred h, fail_bind, finish_fail, trapped]

theorem refuses_widf (n : Fin 6) : Refuses (.widf d n) := fun s h => by
  change execWidf d n s = _
  simp only [execWidf, issue_base, chkOps_barred h, fail_bind, finish_fail, trapped]

theorem refuses_migr : Refuses (.migr d a) := fun s h => by
  change execMigr d a s = _
  simp only [execMigr, issue_base, chkBound_barred h, fail_bind, finish_fail, trapped]

theorem refuses_twait : Refuses (.twait a) := fun s h => by
  change execTwait a s = _
  simp only [execTwait, issue_base, chkOps_barred h, fail_bind, finish_fail, trapped]

end Single

/-! ## The lists of the claim -/

/-- A form's instruction refuses, and its list holds only registers that the instruction names. -/
structure RefusesNamed (f : Instr × List (Fin 32)) : Prop where
  names : f.2 ⊆ f.1.srcs ++ f.1.dsts
  refuses : Refuses f.1

theorem trapped_of_refusesNamed {s : State} {r : Fin 32} {f : Instr × List (Fin 32)} (h : RefusesNamed f) (hhist : s.history s.who = true)
    (hbound : ((s.th s.who).binding r).isSome = true) (hr : r ∈ f.2) : exec f.1 s = trapped s f.1 0x08 (encodeWord f.1) :=
  h.refuses s (barred_of_bound hhist hbound (h.names hr))

section Lists

variable (d a b : Fin 32)

theorem sub_da : [d, a] ⊆ [a, d] := (List.Perm.swap a d []).subset
theorem sub_dab : [d, a, b] ⊆ [a, b, d] := ((List.Perm.swap a d [b]).trans ((List.Perm.swap b d []).cons a)).subset
theorem sub_dab_adb : [d, a, b] ⊆ [a, d, b] := (List.Perm.swap a d [b]).subset
theorem sub_dab_twice : [d, a, b] ⊆ [a, b, d, d] := List.Subset.trans (sub_dab d a b) (List.subset_append_left [a, b, d] [d])

/-- The three registers of an instruction of Table 7.1. -/
def RefusesAlu (f : RegOp × Bool × (Word → Word → Word)) : Prop := ∀ d a b, Refuses (f.1 d a b) ∧ [a, b, d] ⊆ (f.1 d a b).srcs ++ (f.1 d a b).dsts

theorem refusesAlu_of_exec {o : RegOp} {var : Bool} {f v : Word → Word → Word} (hexec : ∀ d a b s, exec (o d a b) s = alu (o d a b) d a b var f s)
    (hregs : ∀ d a b, (o d a b).srcs ++ (o d a b).dsts = [a, b, d]) : RefusesAlu (o, var, v) :=
  fun d a b => ⟨refuses_alu (f := fun _ => f) (hexec d a b), by rw [hregs]; exact List.Subset.refl _⟩

end Lists

theorem refusesAlu_of_mem : ∀ f ∈ aluForms, RefusesAlu f := by
  simp only [aluForms, table71, List.cons_append, List.nil_append, List.map_cons, List.map_nil, List.filterMap_cons, Option.map_some,
    Option.map_none, List.filterMap_nil, List.forall_mem_cons, List.not_mem_nil, false_implies, implies_true, and_true]
  and_intros
  all_goals exact refusesAlu_of_exec (fun _ _ _ _ => rfl) fun _ _ _ => rfl

/-- A one-source form. -/
def RefusesUnary (f : UnaryForm) : Prop := ∀ d a, RefusesNamed (f.1 d a, [d, a])

theorem regs_unary (v : BitVec 15) (n : Fin 64) (n' : Fin 32) (d a : Fin 32) :
    ∀ f ∈ immForms v ++ shiftForms n ++ shiftFormsW n' ++ bitForms, (f.1 d a).srcs ++ (f.1 d a).dsts = [a, d] := by
  simp only [immForms, shiftForms, shiftFormsW, bitForms, List.cons_append, List.nil_append, List.forall_mem_cons, List.not_mem_nil,
    false_implies, implies_true, and_true]
  and_intros
  all_goals rfl

theorem refusesUnary_of_mem (v : BitVec 15) (n : Fin 64) (n' : Fin 32) :
    ∀ f ∈ immForms v ++ shiftForms n ++ shiftFormsW n' ++ bitForms, RefusesUnary f := by
  intro f hf d a
  obtain ⟨g, hexec, -⟩ := isAlu1_of_mem v n n' f hf
  exact ⟨by rw [regs_unary v n n' d a f hf]; exact sub_da d a, refuses_alu1 (hexec d a)⟩

theorem refusesNamed_branch (a b : Fin 32) (v : BitVec 15) : ∀ f ∈ branchForms, RefusesNamed (f.1 a b v, [a, b]) := by
  simp only [branchForms, List.forall_mem_cons, List.not_mem_nil, false_implies, implies_true, and_true]
  and_intros
  all_goals exact ⟨List.Subset.refl [a, b], refuses_branch fun _ => rfl⟩

theorem refusesNamed_amo (d a b : Fin 32) : ∀ f ∈ amoForms, RefusesNamed (f.1 d a b .d, [d, a, b]) := by
  have hrefuses : ∀ f ∈ amoForms, Refuses (f.1 d a b .d) := fun f hf => by
    obtain ⟨o, -, -, hexec⟩ := isAmo_of_mem f hf
    exact refuses_amo (hexec d a b .d)
  have hregs : ∀ f ∈ amoForms, [d, a, b] ⊆ (f.1 d a b .d).srcs ++ (f.1 d a b .d).dsts := by
    simp only [amoForms, List.forall_mem_cons, List.not_mem_nil, false_implies, implies_true, and_true]
    exact ⟨sub_dab d a b, sub_dab d a b, sub_dab d a b, sub_dab d a b, sub_dab d a b, sub_dab d a b, sub_dab d a b, sub_dab_twice d a b⟩
  exact fun f hf => ⟨hregs f hf, hrefuses f hf⟩

section Others

variable (d a b : Fin 32) (v : BitVec 15) (o : BitVec 12) (u : BitVec 20)

theorem refusesNamed_integer : ∀ f ∈ [(Instr.lui d u, [d]), (.auipc d u, [d]), (.bfx d a b, [d, a, b]), (.bfxn d a b, [d, a, b]),
    (.bfi d a b, [d, a, b]), (.hpack d a b 0, [d, a, b]), (.hparse d a b 0, [d, a, b]), (.pcmp 1 a b .lt, [a, b]), (.pcmpi 1 a .lt o, [a]),
    (.ptog d, [d]), (.gtop a, [a]), (.sel d a b 1, [d, a, b])], RefusesNamed f := by
  simp only [List.forall_mem_cons, List.not_mem_nil, false_implies, implies_true, and_true]
  exact
    ⟨⟨List.Subset.refl [d], refuses_alu0 (f := fun _ => hiImm u) fun _ => rfl⟩,
     ⟨List.Subset.refl [d], refuses_alu0 (f := fun t => t.pc + hiImm u) fun _ => rfl⟩,
     ⟨sub_dab d a b, refuses_alu (f := fun _ => opBfx) fun _ => rfl⟩, ⟨sub_dab d a b, refuses_alu (f := fun _ => opBfxn) fun _ => rfl⟩,
     ⟨sub_dab_twice d a b, refuses_bfi d a b⟩,
     ⟨sub_dab d a b, refuses_alu (f := fun s x y => BitVec.ofNat 64 (hpack (s.core s.who.core) 0 x.toNat y.toNat)) fun _ => rfl⟩,
     ⟨sub_dab_adb d a b, refuses_hparse d a b 0⟩, ⟨List.Subset.refl [a, b], refuses_pcmp a b 1 .lt⟩,
     ⟨List.Subset.refl [a], refuses_pcmpi a 1 .lt o⟩, ⟨List.Subset.refl [d], refuses_alu0 (f := fun t => t.predWord.setWidth 64) fun _ => rfl⟩,
     ⟨List.Subset.refl [a], refuses_gtop a⟩, ⟨sub_dab d a b, refuses_alu (f := fun s x y => if s.readP s.who 1 then x else y) fun _ => rfl⟩⟩

theorem refusesNamed_memory : ∀ f ∈ [(Instr.jal d u, [d]), (.jalr d a, [d, a]), (.ld d a .d o, [d, a]), (.ldn d a .w o, [d, a]),
    (.st d a .d o, [d, a]), (.ldx d a b (.s .d), [d, a, b]), (.stx d a b .d, [d, a, b]), (.publish a b, [a, b])], RefusesNamed f := by
  simp only [List.forall_mem_cons, List.not_mem_nil, false_implies, implies_true, and_true]
  exact
    ⟨⟨List.Subset.refl [d], refuses_jal d u⟩, ⟨sub_da d a, refuses_jalr d a⟩, ⟨sub_da d a, refuses_load fun _ => rfl⟩,
     ⟨sub_da d a, refuses_load fun _ => rfl⟩, ⟨sub_da d a, refuses_store fun _ => rfl⟩, ⟨sub_dab d a b, refuses_ldx d a b (.s .d)⟩,
     ⟨sub_dab d a b, refuses_store fun _ => rfl⟩, ⟨List.Subset.refl [a, b], refuses_publish a b⟩⟩

theorem sub_lwait : [d, a, b] ⊆ (Instr.lwait d a b 0 .val).srcs ++ (Instr.lwait d a b 0 .val).dsts := by
  have hregs : (Instr.lwait d a b 0 .val).srcs ++ (Instr.lwait d a b 0 .val).dsts = [a, b + 0, d] := rfl
  rw [hregs, Fin.add_zero]
  exact sub_dab d a b

theorem refusesNamed_lattice : ∀ f ∈ [(Instr.ljoin a b, [a, b]), (.ljoinR a b, [a, b]), (.lfill a b, [a, b]), (.lfillm a b 0, [a, b]),
    (.lfillv a 0, [a]), (.lesum a b .f64, [a, b]), (.lfrz d a, [d, a]), (.lfrza a, [a]), (.lwait d a b 0 .val, [d, a, b]),
    (.lwaitf d a b, [d, a, b]), (.lxrd d a, [d, a]), (.lxrdv 0 a, [a]), (.vtset a, [a]), (.widf d 0, [d]), (.migr d a, [d, a]),
    (.twait a, [a])], RefusesNamed f := by
  simp only [List.forall_mem_cons, List.not_mem_nil, false_implies, implies_true, and_true]
  exact
    ⟨⟨List.Subset.refl [a, b], refuses_ljoin a b⟩, ⟨List.Subset.refl [a, b], refuses_ljoinR a b⟩,
     ⟨List.Subset.refl [a, b], refuses_lfill a b⟩, ⟨List.Subset.refl [a, b], refuses_lfillm a b 0⟩,
     ⟨List.Subset.refl [a], refuses_lfillv a 0⟩, ⟨List.Subset.refl [a, b], refuses_lesum a b .f64⟩,
     ⟨sub_da d a, refuses_lfrz d a⟩, ⟨List.Subset.refl [a], refuses_lfrza a⟩, ⟨sub_lwait d a b, refuses_lwait d a b 0 .val⟩,
     ⟨sub_dab d a b, refuses_lwaitf d a b⟩, ⟨sub_da d a, refuses_lxrd d a⟩, ⟨List.Subset.refl [a], refuses_lxrdv a 0⟩,
     ⟨List.Subset.refl [a], refuses_vtset a⟩, ⟨List.Subset.refl [d], refuses_widf d 0⟩, ⟨sub_da d a, refuses_migr d a⟩,
     ⟨List.Subset.refl [a], refuses_twait a⟩⟩

end Others

theorem refusesNamed_of_mem (d a b : Fin 32) (n : Fin 64) (n' : Fin 32) (v : BitVec 15) (o : BitVec 12) (u : BitVec 20) :
    ∀ f ∈ boundForms d a b n n' v o u, RefusesNamed f := by
  intro f hf
  obtain ((((hunary | hint) | hbranch) | hmem) | hamo) | hlat := by simpa only [boundForms, List.mem_append] using hf
  · obtain ⟨g, hg, rfl⟩ := List.mem_map.1 (by simpa only [List.mem_append] using hunary)
    exact refusesUnary_of_mem v n n' g (by simpa only [List.mem_append] using hg) d a
  · exact refusesNamed_integer d a b o u f hint
  · obtain ⟨g, hg, rfl⟩ := List.mem_map.1 hbranch
    exact refusesNamed_branch a b v g hg
  · exact refusesNamed_memory d a b o u f hmem
  · obtain ⟨g, hg, rfl⟩ := List.mem_map.1 hamo
    exact refusesNamed_amo d a b g hg
  · exact refusesNamed_lattice d a b f hlat

/-- Settles O6: every form makes the bound-register check first; ST and STX then test the state window. -/
theorem unsavedState : Obligations.UnsavedState := by
  unfold Obligations.UnsavedState
  refine ⟨fun d a b r s hhist hbound => ⟨fun f hf hr => ?_, fun n n' v o u f hf hr => ?_⟩, fun s d a z s1 x ha =>
    ⟨fun o ho => ?_, fun b s2 y ho hb => ?_⟩⟩
  · obtain ⟨hrefuses, hregs⟩ := refusesAlu_of_mem f hf d a b
    exact hrefuses s (barred_of_bound hhist hbound (hregs hr))
  · exact trapped_of_refusesNamed (refusesNamed_of_mem d a b n n' v o u f hf) hhist hbound hr
  · exact storeUnsaved_of_body (exec_st s d a z o) ho (eaOff_ok ha o _)
  · exact storeUnsaved_of_body (exec_stx s d a b z) ho (eaIdx_ok ha hb _)

end Sys2Proof.Unsaved

namespace Sys2Proof.Csr
open Sys2Proof Sys2Proof.Machine Sys2Proof.Claims Sys2Proof.Reads Sys2Proof.Control

/-! ## CSR accesses as instructions (R227) -/

section Access

variable {s s1 : State} {i : Instr} {d a : Fin 32} {c : Nat} {new : Word → Word → Word} {x : Word}

theorem csrSystem_reached (hsys : c < 0x080 ∨ s.who.slot = 15) : (csrSystem c && !(s.who.slot == 15)) = false := by
  cases hsys with
  | inl h => rw [csrSystem, decide_eq_false (by omega), Bool.false_and]
  | inr h => rw [h, beq_self_eq_true, Bool.not_true, Bool.and_false]

theorem csrBody_read (hsys : c < 0x080 ∨ s.who.slot = 15) (ho : open_ s i) (hd : s.chkDst s.who d = .ok ()) :
    finish s.who i s (csrBody i d none c new s.who s) = .next ((s.writeG s.who d (s.csrValue s.who c)).retire s.who i) := by
  have hops : s.chkOps s.who i = .ok () := ho
  simp only [csrBody, csrSystem_reached hsys, Option.isSome_none, Bool.false_and, failIf_false, hops, State.putG, hd, ok_bind, finish_ok]

/-- Whether the claim and the model let a slot write a CSR. -/
theorem mayWrite_of_csrMayWrite (h : csrMayWrite s.who c) : (csrUserRw c || (s.who.slot == 15) && csrSystemRw c) = true := by
  obtain hprog | ⟨hslot, hbank | hown⟩ := h
  · have huser : ∀ c ∈ csrProgram, csrUserRw c = true := by decide
    rw [huser c hprog, Bool.true_or]
  · have hsys : ∀ c ∈ csrBanked, csrSystemRw c = true := by decide
    rw [hslot, beq_self_eq_true, hsys c hbank, Bool.true_and, Bool.or_true]
  · have hsys : ∀ c ∈ csrOwn, csrSystemRw c = true := by decide
    rw [hslot, beq_self_eq_true, hsys c hown, Bool.true_and, Bool.or_true]

theorem isWindow_iff : (c == 0x012 || c == 0x013 || c == 0x014) = decide (c ∈ [0x012, 0x013, 0x014]) := by
  simp only [List.mem_cons, List.not_mem_nil, or_false, beq_eq_decide, Bool.decide_or, Bool.or_assoc]

theorem csrBody_write (hsys : c < 0x080 ∨ s.who.slot = 15) (hmay : csrMayWrite s.who c)
    (hwin : s.spec s.who = false ∨ c ∉ [0x012, 0x013, 0x014]) (ho : open_ s i) (ha : s.readG s.who a = .ok (x, s1))
    (hd : s1.chkDst s.who d = .ok ()) :
    finish s.who i s (csrBody i d (some a) c new s.who s) =
      .next (((s1.csrPut s.who c (new (s1.csrValue s.who c) x)).writeG s.who d (s1.csrValue s.who c)).retire s.who i) := by
  have hops : s.chkOps s.who i = .ok () := ho
  have hwindow : (s.spec s.who && (c == 0x012 || c == 0x013 || c == 0x014)) = false := by
    rw [isWindow_iff]
    cases hwin with
    | inl h => rw [h, Bool.false_and]
    | inr h => rw [decide_eq_false h, Bool.and_false]
  simp only [csrBody, csrSystem_reached hsys, mayWrite_of_csrMayWrite hmay, Option.isSome_some, Bool.true_and, hwindow, Bool.not_true,
    failIf_false, hops, ha, hd, ok_bind, finish_ok]

end Access

section Instructions

variable (d a : Fin 32) (c : BitVec 12) (s : State)

theorem exec_csrr : exec (.csrr d c) s = finish s.who (.csrr d c) s (csrBody (.csrr d c) d none c.toNat (fun t _ => t) s.who s) :=
  issue_base (.csrr d c) s fun w => csrBody (.csrr d c) d none c.toNat (fun t _ => t) w s

theorem exec_csrw : exec (.csrw d a c) s = finish s.who (.csrw d a c) s (csrBody (.csrw d a c) d (some a) c.toNat (fun _ x => x) s.who s) :=
  issue_base (.csrw d a c) s fun w => csrBody (.csrw d a c) d (some a) c.toNat (fun _ x => x) w s

theorem exec_csrs : exec (.csrs d a c) s = finish s.who (.csrs d a c) s
    (csrBody (.csrs d a c) d (if a = 0 then none else some a) c.toNat (fun t x => t ||| x) s.who s) :=
  issue_base (.csrs d a c) s fun w => csrBody (.csrs d a c) d (if a = 0 then none else some a) c.toNat (fun t x => t ||| x) w s

theorem exec_csrc : exec (.csrc d a c) s = finish s.who (.csrc d a c) s
    (csrBody (.csrc d a c) d (if a = 0 then none else some a) c.toNat (fun t x => t &&& ~~~x) s.who s) :=
  issue_base (.csrc d a c) s fun w => csrBody (.csrc d a c) d (if a = 0 then none else some a) c.toNat (fun t x => t &&& ~~~x) w s

end Instructions

/-- Settles O10: the four accesses are one body, which reads, and writes where its form names a source. -/
theorem csrResult : Obligations.CsrResult := by
  unfold Obligations.CsrResult
  intro s d a c hsys
  refine ⟨fun ho hd => ?_, fun i hi ho hd => ?_, fun hmay hwin x s1 ha hd => ⟨fun ho => ?_, fun ha0 ho => ?_, fun ha0 ho => ?_⟩⟩
  · rw [exec_csrr, csrBody_read hsys ho hd]
  · simp only [List.mem_cons, List.not_mem_nil, or_false] at hi
    obtain rfl | rfl := hi
    · rw [exec_csrs, if_pos rfl, csrBody_read hsys ho hd]
    · rw [exec_csrc, if_pos rfl, csrBody_read hsys ho hd]
  · rw [exec_csrw, csrBody_write hsys hmay hwin ho ha hd]
  · rw [exec_csrs, if_neg ha0, csrBody_write hsys hmay hwin ho ha hd]
  · rw [exec_csrc, if_neg ha0, csrBody_write hsys hmay hwin ho ha hd]

/-! ## Privilege (R111, R227) -/

/-- The instructions that only the system slot executes. -/
theorem systemOnly_trapped (s : State) (d a b : Fin 32) (h : s.who.slot ≠ 15) :
    ∀ i ∈ [Instr.eret, .wfi, .ctxsv d a, .ctxld d a, .slotctl d a b, .xinv a b, .cinv a b, .hltw a b, .lstat d a],
      exec i s = trapped s i 0x01 (encodeWord i) := by
  simp only [List.forall_mem_cons, List.not_mem_nil, false_implies, implies_true, and_true]
  refine ⟨?_, ?_, ?_, ?_, ?_, ?_, ?_, ?_, ?_⟩
  · change execEret s = _
    rw [execEret, issue_sys_user _ _ _ _ h]
    rfl
  · change execWfi s = _
    rw [execWfi, issue_sys_user _ _ _ _ h]
    rfl
  · change execCtxsv d a s = _
    rw [execCtxsv, issue_sys_user _ _ _ _ h]
    rfl
  · change execCtxld d a s = _
    rw [execCtxld, issue_sys_user _ _ _ _ h]
    rfl
  · change execSlotctl d a b s = _
    rw [execSlotctl, issue_sys_user _ _ _ _ h]
    rfl
  · change execXinv a b s = _
    rw [execXinv, issue_sys_user _ _ _ _ h]
    rfl
  · change execCinv a b s = _
    rw [execCinv, issue_sys_user _ _ _ _ h]
    rfl
  · change execHltw a b s = _
    rw [execHltw, issue_sys_user _ _ _ _ h]
    rfl
  · change execLstat d a s = _
    rw [execLstat, issue_sys_user _ _ _ _ h]
    rfl

section Faults

variable {s : State} {i : Instr} {d a : Fin 32} {c : Nat} {new : Word → Word → Word}

theorem csrBody_system {a : Option (Fin 32)} (hc : 0x080 ≤ c) (h : s.who.slot ≠ 15) :
    finish s.who i s (csrBody i d a c new s.who s) = trapped s i 0x01 (encodeWord i) := by
  have hsys : (csrSystem c && !(s.who.slot == 15)) = true := by
    rw [csrSystem, decide_eq_true hc, Bool.true_and, beq_eq_false_iff_ne.2 h, Bool.not_false]
  simp only [csrBody, hsys, failIf_true, fail_bind, finish_fail, trapped]

theorem csrBody_readOnly (hc : c ∈ csrFixed ++ csrBanked) (h : s.who.slot ≠ 15 ∨ c ∈ csrFixed) :
    finish s.who i s (csrBody i d (some a) c new s.who s) = trapped s i 0x01 (encodeWord i) := by
  have hlow : ∀ c ∈ csrFixed ++ csrBanked, csrSystem c = false ∧ csrUserRw c = false := by decide
  have hfixed : ∀ c ∈ csrFixed, csrSystemRw c = false := by decide
  have hrw : (csrUserRw c || (s.who.slot == 15) && csrSystemRw c) = false := by
    rw [(hlow c hc).2, Bool.false_or]
    cases h with
    | inl h => rw [beq_eq_false_iff_ne.2 h, Bool.false_and]
    | inr h => rw [hfixed c h, Bool.and_false]
  simp only [csrBody, (hlow c hc).1, hrw, Bool.false_and, Option.isSome_some, Bool.true_and, Bool.not_false, failIf_false, failIf_true,
    ok_bind, fail_bind, finish_fail, trapped]

theorem csrBody_window (hc : c ∈ [0x012, 0x013, 0x014]) (hspec : s.spec s.who = true) :
    finish s.who i s (csrBody i d (some a) c new s.who s) = trapped s i 0x08 (encodeWord i) := by
  have hwin : ∀ c ∈ [0x012, 0x013, 0x014], csrSystem c = false ∧ csrUserRw c = true := by decide
  have hwindow : (c == 0x012 || c == 0x013 || c == 0x014) = true := by rw [isWindow_iff, decide_eq_true hc]
  simp only [csrBody, (hwin c hc).1, (hwin c hc).2, hspec, hwindow, Bool.false_and, Bool.true_or, Option.isSome_some, Bool.true_and,
    Bool.not_true, failIf_false, failIf_true, ok_bind, fail_bind, finish_fail, trapped]

end Faults

/-! ## What a CSR reads (Table 8.9) -/

/-- The value of a CSR from what it shows: the thread, the bank, the core's own registers, the weights, the time base, GVT and status. -/
def csrOf (t : Thread) (x : Slot) (srpc evbase : Word) (trctl : Bool) (wt : BitVec 32) (core time gvt status : Nat) (c : Nat) : Word :=
  match c with
  | 0x001 => t.vl
  | 0x002 => t.rcnt
  | 0x008 => t.fmt[0] | 0x009 => t.fmt[1] | 0x00A => t.fmt[2] | 0x00B => t.fmt[3]
  | 0x00C => t.fsc[0] | 0x00D => t.fsc[1] | 0x00E => t.fsc[2] | 0x00F => t.fsc[3]
  | 0x010 => t.seed
  | 0x011 => t.lvt
  | 0x012 => t.vtwin
  | 0x013 => t.stwb
  | 0x014 => t.stwl
  | 0x015 => t.widl
  | 0x020 => BitVec.ofNat 64 (capWord core)
  | 0x021 => BitVec.ofNat 64 (8 * vlenB core)
  | 0x022 => BitVec.ofNat 64 time
  | 0x023 => BitVec.ofNat 64 gvt
  | 0x040 => BitVec.ofNat 64 status
  | 0x041 => x.cause
  | 0x042 => x.epc
  | 0x043 => x.tval
  | 0x044 => x.quantum
  | 0x045 => x.grbase
  | 0x046 => x.grlen
  | 0x047 => x.lfpc
  | 0x080 => srpc
  | 0x081 => evbase
  | 0x082 => wt.setWidth 64
  | 0x083 => BitVec.ofNat 64 (b2n trctl)
  | _ => 0

/-- GVT as a slot's CSR shows it. -/
def gvtAt (s : State) (x : Slot) : Nat := if x.launched then s.gvtOf x.task.launch else 2 ^ 64 - 1

theorem csrValue_eq (s : State) (w : Who) (c : Nat) :
    s.csrValue w c = csrOf (s.th w) (s.at (s.bank w)) (s.core w.core).srpc (s.core w.core).evbase (s.core w.core).trctl
      (s.mxu (w.core / 8)).mxwt w.core s.gtime (gvtAt s (s.at w)) (s.status w) c := by
  unfold State.csrValue csrOf gvtAt
  rfl

section Parts

variable {t : Thread} {x : Slot} {srpc evbase : Word} {trctl : Bool} {wt : BitVec 32} {core time gvt status status' : Nat} {c : Nat}

theorem csrOf_status (hc : c ≠ 0x040) :
    csrOf t x srpc evbase trctl wt core time gvt status c = csrOf t x srpc evbase trctl wt core time gvt status' c := by
  unfold csrOf
  split <;> first | rfl | contradiction

end Parts

section Updates

variable (s : State) (w : Who) (c : Nat)

theorem bank_of_hslot {s t : State} (h : (t.core w.core).hslot = (s.core w.core).hslot) : t.bank w = s.bank w := by
  rw [State.bank, State.bank, h]

/-- A part of a slot that a change of a slot leaves. -/
theorem at_upd_part {α : Type} (g : Slot → α) (v : Who) (f : Slot → Slot) (hg : ∀ x, g (f x) = g x) (u : Who) :
    g ((s.upd v f).at u) = g (s.at u) := by
  rw [State.at_upd]
  split
  next h => rw [h, hg]
  next => rfl

theorem gvtAt_upd (v : Who) (f : Slot → Slot) (hl : ∀ x, (f x).launched = x.launched) (ht : ∀ x, (f x).task = x.task) :
    gvtAt (s.upd v f) ((s.upd v f).at w) = gvtAt s (s.at w) := by
  have hgvt : (s.upd v f).gvtOf = s.gvtOf := rfl
  rw [gvtAt, gvtAt, at_upd_part s Slot.launched v f hl, at_upd_part s Slot.task v f ht, hgvt]

theorem mxu_upd (v : Who) (f : Slot → Slot) (n : Nat) : (s.upd v f).mxu n = s.mxu n := rfl

/-- A CSR after a change of the thread. -/
theorem csrValue_updTh (f : Thread → Thread) (hc : c ≠ 0x040) :
    (s.updTh w f).csrValue w c = csrOf (f (s.th w)) (s.at (s.bank w)) (s.core w.core).srpc (s.core w.core).evbase (s.core w.core).trctl
      (s.mxu (w.core / 8)).mxwt w.core s.gtime (gvtAt s (s.at w)) (s.status w) c := by
  have hbank : (s.updTh w f).bank w = s.bank w := bank_of_hslot w (State.core_upd_hslot ..)
  have hgvt : gvtAt (s.updTh w f) ((s.updTh w f).at w) = gvtAt s (s.at w) := gvtAt_upd s w w _ (fun _ => rfl) fun _ => rfl
  rw [csrValue_eq, State.th_updTh_same, hbank, hgvt, State.updTh, mxu_upd, State.core_upd_srpc, State.core_upd_evbase,
    State.core_upd_trctl, State.at_upd, csrOf_status hc]
  split
  next h => rw [h]; rfl
  next => rfl

/-- A CSR after a change of the bank. -/
theorem csrValue_updBank (f : Slot → Slot) (hth : ∀ x, (f x).th = x.th) (hl : ∀ x, (f x).launched = x.launched)
    (ht : ∀ x, (f x).task = x.task) (hc : c ≠ 0x040) :
    (s.upd (s.bank w) f).csrValue w c = csrOf (s.th w) (f (s.at (s.bank w))) (s.core w.core).srpc (s.core w.core).evbase
      (s.core w.core).trctl (s.mxu (w.core / 8)).mxwt w.core s.gtime (gvtAt s (s.at w)) (s.status w) c := by
  have hbank : (s.upd (s.bank w) f).bank w = s.bank w := bank_of_hslot w (State.core_upd_hslot ..)
  have hthread : (s.upd (s.bank w) f).th w = s.th w := at_upd_part s Slot.th (s.bank w) f hth w
  rw [csrValue_eq, hthread, hbank, gvtAt_upd _ _ _ _ hl ht, mxu_upd, State.core_upd_srpc, State.core_upd_evbase, State.core_upd_trctl,
    State.at_upd_same, csrOf_status hc]
  rfl

/-- A CSR after a change of the core that leaves its slots. -/
theorem csrValue_updCore (f : Core → Core) (hs : ∀ k, (f k).slots = k.slots) (hh : ∀ k, (f k).hslot = k.hslot) (hc : c ≠ 0x040) :
    (s.updCore w.core f).csrValue w c = csrOf (s.th w) (s.at (s.bank w)) (f (s.core w.core)).srpc (f (s.core w.core)).evbase
      (f (s.core w.core)).trctl (s.mxu (w.core / 8)).mxwt w.core s.gtime (gvtAt s (s.at w)) (s.status w) c := by
  have hat : ∀ v, (s.updCore w.core f).at v = s.at v := fun v => Frame.slot_updCore s w.core v.core f v.slot (hs _)
  have hbank : (s.updCore w.core f).bank w = s.bank w := bank_of_hslot w (by rw [State.core_updCore_same, hh])
  have hthread : (s.updCore w.core f).th w = s.th w := congrArg Slot.th (hat w)
  have hgvt : gvtAt (s.updCore w.core f) (s.at w) = gvtAt s (s.at w) := rfl
  have hmxu : (s.updCore w.core f).mxu (w.core / 8) = s.mxu (w.core / 8) := rfl
  rw [csrValue_eq, hthread, hbank, hat, hat, hgvt, hmxu, State.core_updCore_same, csrOf_status hc]
  rfl

/-- A CSR after a change of the cluster's weights. -/
theorem csrValue_updMxu (f : Mxu → Mxu) (hc : c ≠ 0x040) :
    (s.updMxu (w.core / 8) f).csrValue w c = csrOf (s.th w) (s.at (s.bank w)) (s.core w.core).srpc (s.core w.core).evbase
      (s.core w.core).trctl (f (s.mxu (w.core / 8))).mxwt w.core s.gtime (gvtAt s (s.at w)) (s.status w) c := by
  have hmxu : (s.updMxu (w.core / 8) f).mxu (w.core / 8) = f (s.mxu (w.core / 8)) := by simp [State.updMxu, State.mxu, Tbl.getD_put]
  rw [csrValue_eq, hmxu, csrOf_status hc]
  rfl

end Updates

/-! ## What a written CSR reads back (Table 8.9) -/

/-- A CSR written reads what it keeps, and every other one but status as before. -/
structure ReadsBack (s : State) (w : Who) (v : Word) (c : Nat) : Prop where
  kept : (s.csrPut w c v).csrValue w c = csrKept c v
  others : ∀ c', c' ≠ c → c' ≠ 0x040 → (s.csrPut w c v).csrValue w c' = s.csrValue w c'

section ReadsBack

variable (s : State) (w : Who) (v : Word)

theorem readsBack_updTh {c : Nat} (f : Thread → Thread) (hput : s.csrPut w c v = s.updTh w f) (h40 : c ≠ 0x040)
    (hkept : ∀ t x sr ev tr wt k ti g st, csrOf (f t) x sr ev tr wt k ti g st c = csrKept c v)
    (hothers : ∀ c' ≠ c, ∀ t x sr ev tr wt k ti g st, csrOf (f t) x sr ev tr wt k ti g st c' = csrOf t x sr ev tr wt k ti g st c') :
    ReadsBack s w v c where
  kept := by rw [hput, csrValue_updTh _ _ _ _ h40, hkept]
  others c' hne h40' := by rw [hput, csrValue_updTh _ _ _ _ h40', hothers c' hne, csrValue_eq s w c']

theorem readsBack_updBank {c : Nat} (f : Slot → Slot) (hput : s.csrPut w c v = s.upd (s.bank w) f) (h40 : c ≠ 0x040)
    (hf : ∀ x, (f x).th = x.th ∧ (f x).launched = x.launched ∧ (f x).task = x.task)
    (hkept : ∀ t x sr ev tr wt k ti g st, csrOf t (f x) sr ev tr wt k ti g st c = csrKept c v)
    (hothers : ∀ c' ≠ c, ∀ t x sr ev tr wt k ti g st, csrOf t (f x) sr ev tr wt k ti g st c' = csrOf t x sr ev tr wt k ti g st c') :
    ReadsBack s w v c where
  kept := by rw [hput, csrValue_updBank _ _ _ _ (fun x => (hf x).1) (fun x => (hf x).2.1) (fun x => (hf x).2.2) h40, hkept]
  others c' hne h40' := by
    rw [hput, csrValue_updBank _ _ _ _ (fun x => (hf x).1) (fun x => (hf x).2.1) (fun x => (hf x).2.2) h40', hothers c' hne,
      csrValue_eq s w c']

theorem readsBack_program : ∀ c ∈ csrProgram, ReadsBack s w v c := by
  simp only [csrProgram, List.forall_mem_cons, List.not_mem_nil, false_implies, implies_true, and_true]
  refine ⟨readsBack_updTh s w v (fun t => { t with rcnt := v }) rfl (by decide) (fun _ _ _ _ _ _ _ _ _ _ => rfl) ?_,
    readsBack_updTh s w v (fun t => { t with vtwin := v }) rfl (by decide) (fun _ _ _ _ _ _ _ _ _ _ => rfl) ?_,
    readsBack_updTh s w v (fun t => { t with stwb := v }) rfl (by decide) (fun _ _ _ _ _ _ _ _ _ _ => rfl) ?_,
    readsBack_updTh s w v (fun t => { t with stwl := v }) rfl (by decide) (fun _ _ _ _ _ _ _ _ _ _ => rfl) ?_⟩
  all_goals
    intro c' hne t x sr ev tr wt k ti g st
    unfold csrOf
    split <;> first | rfl | contradiction

theorem readsBack_banked : ∀ c ∈ csrBanked.drop 1, ReadsBack s w v c := by
  simp only [csrBanked, List.drop_succ_cons, List.drop_zero, List.forall_mem_cons, List.not_mem_nil, false_implies, implies_true, and_true]
  refine ⟨readsBack_updBank s w v (fun x => { x with cause := v &&& 0xFF7F#64 }) rfl (by decide) (fun _ => ⟨rfl, rfl, rfl⟩)
      (fun _ _ _ _ _ _ _ _ _ _ => rfl) ?_,
    readsBack_updBank s w v (fun x => { x with epc := v }) rfl (by decide) (fun _ => ⟨rfl, rfl, rfl⟩)
      (fun _ _ _ _ _ _ _ _ _ _ => rfl) ?_,
    readsBack_updBank s w v (fun x => { x with tval := v }) rfl (by decide) (fun _ => ⟨rfl, rfl, rfl⟩)
      (fun _ _ _ _ _ _ _ _ _ _ => rfl) ?_,
    readsBack_updBank s w v (fun x => { x with quantum := v, timer := false }) rfl (by decide) (fun _ => ⟨rfl, rfl, rfl⟩)
      (fun _ _ _ _ _ _ _ _ _ _ => rfl) ?_,
    readsBack_updBank s w v (fun x => { x with grbase := v }) rfl (by decide) (fun _ => ⟨rfl, rfl, rfl⟩)
      (fun _ _ _ _ _ _ _ _ _ _ => rfl) ?_,
    readsBack_updBank s w v (fun x => { x with grlen := v }) rfl (by decide) (fun _ => ⟨rfl, rfl, rfl⟩)
      (fun _ _ _ _ _ _ _ _ _ _ => rfl) ?_,
    readsBack_updBank s w v (fun x => { x with lfpc := v }) rfl (by decide) (fun _ => ⟨rfl, rfl, rfl⟩)
      (fun _ _ _ _ _ _ _ _ _ _ => rfl) ?_⟩
  all_goals
    intro c' hne t x sr ev tr wt k ti g st
    unfold csrOf
    split <;> first | rfl | contradiction

/-- A weight as stored, in the claim's words. -/
theorem weight_eq (k : Nat) : max 1 (bits v.toNat (4 * k + 3) (4 * k)) * 2 ^ (4 * k) = max 1 (v.toNat / 16 ^ k % 16) * 16 ^ k := by
  rw [bits, show 4 * k + 3 + 1 - 4 * k = 4 by omega, Nat.pow_mul, show 2 ^ 4 = 16 from rfl]

theorem foldl_add_eq_sum (g : Nat → Nat) : ∀ (l : List Nat) (a : Nat), l.foldl (fun n k => n + g k) a = a + (l.map g).sum
  | [], _ => rfl
  | k :: l, a => by rw [List.foldl_cons, foldl_add_eq_sum g l, List.map_cons, List.sum_cons, Nat.add_assoc]

theorem sum_digits_lt (f : Nat → Nat) (hf : ∀ k, f k < 16) : ∀ n, ((List.range n).map fun k => f k * 16 ^ k).sum < 16 ^ n
  | 0 => by simp
  | n + 1 => by
    have hlast : (f n + 1) * 16 ^ n ≤ 16 * 16 ^ n := Nat.mul_le_mul_right _ (hf n)
    rw [List.sum_range_succ, Nat.pow_succ']
    have ih := sum_digits_lt f hf n
    rw [Nat.add_mul] at hlast
    omega

theorem weightWord_eq : (weightWord v).setWidth 64 = csrKept 0x082 v := by
  have hlt := sum_digits_lt (fun k => max 1 (v.toNat / 16 ^ k % 16)) (fun k => Nat.max_lt.2 ⟨by decide, Nat.mod_lt _ (by decide)⟩) 8
  change (weightWord v).setWidth 64 = BitVec.ofNat 64 (((List.range 8).map fun (k : Nat) => max 1 (v.toNat / 16 ^ k % 16) * 16 ^ k).sum)
  apply BitVec.eq_of_toNat_eq
  rw [weightWord, foldl_add_eq_sum, Nat.zero_add, BitVec.toNat_setWidth, BitVec.toNat_ofNat, BitVec.toNat_ofNat]
  simp only [weight_eq]
  rw [Nat.mod_eq_of_lt (show _ < 2 ^ 32 from hlt)]

theorem readsBack_weights : ReadsBack s w v 0x082 where
  kept := by
    change (s.updMxu (w.core / 8) fun m => { m with mxwt := weightWord v }).csrValue w 0x082 = _
    rw [csrValue_updMxu _ _ _ _ (by decide), ← weightWord_eq]
    rfl
  others c' hne h40 := by
    change (s.updMxu (w.core / 8) fun m => { m with mxwt := weightWord v }).csrValue w c' = _
    rw [csrValue_updMxu _ _ _ _ h40, csrValue_eq s w c']
    unfold csrOf
    split <;> first | rfl | contradiction

theorem readsBack_updCore {c : Nat} (f : Core → Core) (hput : s.csrPut w c v = s.updCore w.core f) (h40 : c ≠ 0x040)
    (hf : ∀ k, (f k).slots = k.slots ∧ (f k).hslot = k.hslot)
    (hkept : ∀ t x k wt n ti g st, csrOf t x (f k).srpc (f k).evbase (f k).trctl wt n ti g st c = csrKept c v)
    (hothers : ∀ c' ≠ c, ∀ t x k wt n ti g st, csrOf t x (f k).srpc (f k).evbase (f k).trctl wt n ti g st c' =
      csrOf t x k.srpc k.evbase k.trctl wt n ti g st c') :
    ReadsBack s w v c where
  kept := by rw [hput, csrValue_updCore _ _ _ _ (fun k => (hf k).1) (fun k => (hf k).2) h40, hkept]
  others c' hne h40' := by
    rw [hput, csrValue_updCore _ _ _ _ (fun k => (hf k).1) (fun k => (hf k).2) h40', hothers c' hne, csrValue_eq s w c']

theorem trctl_kept : BitVec.ofNat 64 (b2n (v.getLsbD 0)) = v &&& 1 := by
  change _ = v &&& 1#64
  refine BitVec.eq_of_getLsbD_eq fun i hi => ?_
  rw [BitVec.getLsbD_and, BitVec.getLsbD_one, BitVec.getLsbD_ofNat]
  cases i with
  | zero => cases v.getLsbD 0 <;> rfl
  | succ i => cases v.getLsbD 0 <;> simp [b2n, Nat.testBit_succ]

theorem readsBack_own : ∀ c ∈ csrOwn, ReadsBack s w v c := by
  simp only [csrOwn, List.forall_mem_cons, List.not_mem_nil, false_implies, implies_true, and_true]
  refine ⟨readsBack_updCore s w v (fun k => { k with srpc := v }) rfl (by decide) (fun _ => ⟨rfl, rfl⟩) (fun _ _ _ _ _ _ _ _ => rfl) ?_,
    readsBack_updCore s w v (fun k => { k with evbase := v }) rfl (by decide) (fun _ => ⟨rfl, rfl⟩) (fun _ _ _ _ _ _ _ _ => rfl) ?_,
    readsBack_weights s w v,
    readsBack_updCore s w v (fun k => { k with trctl := v.getLsbD 0 }) rfl (by decide) (fun _ => ⟨rfl, rfl⟩)
      (fun _ _ _ _ _ _ _ _ => trctl_kept v) ?_⟩
  all_goals
    intro c' hne t x k wt n ti g st
    unfold csrOf
    split <;> first | rfl | contradiction

/-- What a write of status does to the core (R98, R369). -/
def putStatus (k : Core) : Core :=
  { k with eie := v.getLsbD 0, lmx := v.getLsbD 1, started := k.started || v.getLsbD 0,
           lmxCount := if v.getLsbD 1 && k.lmx then k.lmxCount else 0 }

theorem csrPut_status : s.csrPut w 0x040 v = s.updCore w.core (putStatus v) := rfl

/-- A write of status leaves every other CSR. -/
theorem csrValue_putStatus (c : Nat) (hc : c ≠ 0x040) : (s.csrPut w 0x040 v).csrValue w c = s.csrValue w c := by
  rw [csrPut_status, csrValue_updCore _ _ _ (putStatus v) (fun _ => rfl) (fun _ => rfl) hc, csrValue_eq s w c]
  rfl

theorem status_low (hslot : w.slot = 15) : s.status w % 4 = b2n (s.core w.core).eie + 2 * b2n (s.core w.core).lmx := by
  have hbit : ∀ b, b2n b < 2 := by decide
  have heie := hbit (s.core w.core).eie
  have hlmx := hbit (s.core w.core).lmx
  simp only [State.status, if_pos hslot]
  omega

theorem status_putStatus (hslot : w.slot = 15) : ((s.csrPut w 0x040 v).csrValue w 0x040).toNat % 4 = v.toNat % 4 := by
  have hlow : v.toNat % 4 = b2n (v.getLsbD 0) + 2 * b2n (v.getLsbD 1) := by
    simp only [BitVec.getLsbD, Nat.testBit_eq_decide_div_mod_eq, b2n, decide_eq_true_eq]
    split <;> split <;> omega
  have hcore : (s.csrPut w 0x040 v).core w.core = putStatus v (s.core w.core) := State.core_updCore_same _ _ _
  have hstatus := status_low (s.csrPut w 0x040 v) w hslot
  rw [hcore] at hstatus
  change (BitVec.ofNat 64 ((s.csrPut w 0x040 v).status w)).toNat % 4 = _
  rw [BitVec.toNat_ofNat, Nat.mod_mod_of_dvd _ (by decide), hstatus, hlow]
  rfl

theorem readsBack_of_mem : ∀ c ∈ csrProgram ++ csrOwn ++ csrBanked.drop 1, ReadsBack s w v c := by
  intro c hc
  obtain (hprog | hown) | hbank := by simpa only [List.mem_append] using hc
  · exact readsBack_program s w v c hprog
  · exact readsBack_own s w v c hown
  · exact readsBack_banked s w v c hbank

end ReadsBack

theorem notStatus : ∀ c ∈ csrFixed ++ csrProgram ++ csrOwn ++ csrBanked.drop 1, c ≠ 0x040 := by decide

/-- Dies 0 to 5 are K8 dies (R1). -/
theorem dieOf_lt_six (c : Nat) : dieOf c < 6 ↔ c < 1152 := by
  rw [dieOf]
  omega

theorem capWord_eq (c : Nat) : BitVec.ofNat 64 (capWord c) = if c < 1152 then 0x23F else 0x10B := by
  by_cases h : c < 1152
  · have hdie := (dieOf_lt_six c).2 h
    simp [capWord, dieCaps, isK8, h, hdie]
  · have hdie := mt (dieOf_lt_six c).1 h
    simp [capWord, dieCaps, isK8, h, hdie]

theorem vectorLength_eq (c : Nat) : BitVec.ofNat 64 (8 * vlenB c) = if c < 1152 then 1024 else 512 := by
  by_cases h : c < 1152
  · have hdie := (dieOf_lt_six c).2 h
    simp [vlenB, isK8, h, hdie]
  · have hdie := mt (dieOf_lt_six c).1 h
    simp [vlenB, isK8, h, hdie]

/-- Settles O11: the system slot's instructions, the faults of CSR access, then what every CSR reads after a write and of the bank. -/
theorem privilege : Obligations.Privilege := by
  unfold Obligations.Privilege
  refine ⟨systemOnly_trapped, fun s d a c => ⟨fun hc h => ?_, fun hc h => ⟨?_, fun ha => ?_⟩, fun hc hspec => ?_⟩, fun s w v =>
    ⟨fun c hc => ?_, fun c hc c' hc' hne => ?_, fun hslot => ⟨status_putStatus s w v hslot, fun c hc => ?_⟩,
      ⟨rfl, rfl, rfl, rfl, rfl, rfl, rfl⟩, ?_, ?_, rfl⟩⟩
  · have hown : ∀ c ∈ csrOwn, 0x080 ≤ c := by decide
    simp only [List.forall_mem_cons, List.not_mem_nil, false_implies, implies_true, exec_csrr, exec_csrw, exec_csrs, exec_csrc,
      csrBody_system (hown _ hc) h, and_self]
  · rw [exec_csrw, csrBody_readOnly hc h]
  · simp only [List.forall_mem_cons, List.not_mem_nil, false_implies, implies_true, exec_csrs, exec_csrc, if_neg ha,
      csrBody_readOnly hc h, and_self]
  · rw [exec_csrw, csrBody_window hc hspec]
  · exact (readsBack_of_mem s w v c hc).kept
  · exact (readsBack_of_mem s w v c hc).others c' hne (notStatus c' hc')
  · exact csrValue_putStatus s w v c (notStatus c hc)
  · exact capWord_eq w.core
  · exact vectorLength_eq w.core

end Sys2Proof.Csr

namespace Sys2Proof.Cells
open Sys2Proof Sys2Proof.Machine Sys2Proof.Claims Sys2Proof.Bits Sys2Proof.Access

/-! ## An operation's cell, kind by kind (R46, R57, Table 8.2) -/

theorem toInt_eq_sext (x : Word) : x.toInt = sext 64 x.toNat := by
  have h := toInt_ofNat_eq_sext (n := 64) (by decide) x.toNat
  rwa [BitVec.ofNat_toNat, BitVec.setWidth_eq] at h

theorem after_of_none {ar : Arena} {op : LatOp} {c : Fin 8 × List Byte} (h : (latRes ar c.1 c.2 op).new = none) : after ar op c = c := by
  rw [after, h]

theorem after_of_some {ar : Arena} {op : LatOp} {c : Fin 8 × List Byte} {bs : List Byte} {k : Fin 8}
    (h : (latRes ar c.1 c.2 op).new = some (bs, k)) : after ar op c = (k, bs) := by
  rw [after, h]

/-- A cell that is OPEN has code 0 or 1; one that is frozen code 2 or 3. -/
theorem frozenCode_of_le_one {k : Fin 8} (hk : k.val ≤ 1) : frozenCode k = false := by
  revert hk
  revert k
  decide

theorem ne_four_of_le_one {k : Fin 8} (hk : k.val ≤ 1) : k ≠ 4 := by
  rintro rfl
  exact absurd hk (by decide)

/-! ### Joins -/

section Join

variable {ar : Arena} {k : Fin 8} {bs : List Byte} {x : Word}

/-- A join into a cell that takes joins and is OPEN: the joined value, or CONFLICT. -/
theorem after_join_open (h8 : ar.kind ≠ 8) (h9 : ar.kind ≠ 9) (hk : k.val ≤ 1) :
    after ar (.join x) (k, bs) = match joinValue ar.kind (cellBytes ar.size) (natOf bs) x with
      | none => (4, bs)
      | some v => (k, bytesOf (cellBytes ar.size) v) := by
  rw [after]
  simp only [latRes, joinRes, h8, h9, or_self, if_false, ne_four_of_le_one hk, frozenCode_of_le_one hk, Bool.false_eq_true]
  cases joinValue ar.kind (cellBytes ar.size) (natOf bs) x with
  | none => rfl
  | some v =>
    by_cases hsame : bytesOf (cellBytes ar.size) v = bs
    · simp only [hsame, if_true]
    · simp only [hsame, if_false]

theorem after_join_refused (h : ar.kind = 8 ∨ ar.kind = 9) (c : Fin 8 × List Byte) : after ar (.join x) c = c := by
  apply after_of_none
  simp only [latRes, joinRes, if_pos h]

theorem after_join_conflict : after ar (.join x) (4, bs) = (4, bs) := by
  apply after_of_none
  simp only [latRes, joinRes, if_true]
  split <;> rfl

theorem after_join_frozen (hk : frozenCode k = true) : after ar (.join x) (k, bs) = (k, bs) := by
  apply after_of_none
  simp only [latRes, joinRes, hk, if_true]
  split
  · rfl
  · split
    · rfl
    · split
      · rfl
      · split <;> rfl

end Join

/-- Of two values the one with the greater key, the first at a tie. -/
def pick {α : Type} [LT α] [DecidableRel (α := α) (· < ·)] (key : Nat → α) (c x : Nat) : Nat := if key c < key x then x else c

theorem pick_comm {α : Type} [LinearOrder α] (key : Nat → α) (c x y : Nat) (hinj : key x = key y → x = y) :
    pick key (pick key c x) y = pick key (pick key c y) x := by
  unfold pick
  grind

theorem sext_inj {x y : Word} (h : sext 64 x.toNat = sext 64 y.toNat) : x.toNat = y.toNat := by
  rw [← toInt_eq_sext, ← toInt_eq_sext] at h
  exact congrArg _ (BitVec.eq_of_toInt_eq h)

theorem totKey_inj {x y : Nat} (hx : x < 2 ^ 64) (hy : y < 2 ^ 64) (h : totKey x = totKey y) : x = y := by
  have hbit : ∀ {z : Nat}, z < 2 ^ 64 → (bitAt z 63 = true ↔ 2 ^ 63 ≤ z) := by
    intro z hz
    rw [bitAt, beq_iff_eq]
    omega
  simp only [totKey, hbit hx, hbit hy] at h
  split at h <;> split at h <;> omega

section JoinValue

variable (size c : Nat) (x : Word)

/-- The joined value, by the cell's kind: a maximum by the kind's order, a union, or a saturating sum. -/
theorem joinValue_max : joinValue 0 size c x = some (pick (sext 64) c x.toNat) := by
  rw [pick, ← toInt_eq_sext]
  rfl
theorem joinValue_maxn : joinValue 1 size c x = some (max c x.toNat) := rfl
theorem joinValue_min : joinValue 2 size c x = some (pick (fun z => OrderDual.toDual (sext 64 z)) c x.toNat) := by
  rw [pick, ← toInt_eq_sext]
  rfl
theorem joinValue_minn : joinValue 3 size c x = some (min c x.toNat) := rfl
theorem joinValue_maxf : joinValue 4 size c x = if (fp64.decode x.toNat).isNan then none else some (pick totKey c x.toNat) := rfl
theorem joinValue_minf :
    joinValue 5 size c x = if (fp64.decode x.toNat).isNan then none else some (pick (fun z => OrderDual.toDual (totKey z)) c x.toNat) := rfl
theorem joinValue_union : joinValue 6 size c x = some (Nat.lor c (if size = 8 then x.toNat else 2 ^ (x.toNat % (8 * size)))) := rfl
theorem joinValue_count (kind : Nat) : joinValue (kind + 7) size c x = some (min (c + x.toNat) (2 ^ 64 - 1)) := rfl

end JoinValue

theorem lor_right_comm (a b c : Nat) : Nat.lor (Nat.lor a b) c = Nat.lor (Nat.lor a c) b := by
  change (a ||| b) ||| c = (a ||| c) ||| b
  rw [Nat.lor_assoc, Nat.lor_comm b, ← Nat.lor_assoc]

theorem joinValue_comm {kind size c : Nat} {x y : Word} {v v' : Nat} (hx : joinValue kind size c x = some v)
    (hy : joinValue kind size c y = some v') : joinValue kind size v y = joinValue kind size v' x := by
  have huntie : ∀ z : Word, z.toNat < 2 ^ 64 := fun z => z.isLt
  match kind with
  | 0 =>
    obtain ⟨rfl, rfl⟩ := And.intro (Option.some.inj ((joinValue_max ..).symm.trans hx)) (Option.some.inj ((joinValue_max ..).symm.trans hy))
    rw [joinValue_max, joinValue_max, pick_comm (sext 64) c _ _ sext_inj]
  | 1 =>
    obtain ⟨rfl, rfl⟩ := And.intro (Option.some.inj hx) (Option.some.inj hy)
    rw [joinValue_maxn, joinValue_maxn, max_right_comm]
  | 2 =>
    obtain ⟨rfl, rfl⟩ := And.intro (Option.some.inj ((joinValue_min ..).symm.trans hx)) (Option.some.inj ((joinValue_min ..).symm.trans hy))
    rw [joinValue_min, joinValue_min, pick_comm _ c _ _ fun h => sext_inj (OrderDual.toDual.injective h)]
  | 3 =>
    obtain ⟨rfl, rfl⟩ := And.intro (Option.some.inj hx) (Option.some.inj hy)
    rw [joinValue_minn, joinValue_minn, min_right_comm]
  | 4 =>
    rw [joinValue_maxf] at hx hy ⊢
    rw [joinValue_maxf]
    split at hx
    · cases hx
    split at hy
    · cases hy
    next hnx hny =>
      obtain ⟨rfl, rfl⟩ := And.intro (Option.some.inj hx) (Option.some.inj hy)
      rw [if_neg hnx, if_neg hny, pick_comm totKey c _ _ (totKey_inj (huntie x) (huntie y))]
  | 5 =>
    rw [joinValue_minf] at hx hy ⊢
    rw [joinValue_minf]
    split at hx
    · cases hx
    split at hy
    · cases hy
    next hnx hny =>
      obtain ⟨rfl, rfl⟩ := And.intro (Option.some.inj hx) (Option.some.inj hy)
      rw [if_neg hnx, if_neg hny, pick_comm _ c _ _ fun h => totKey_inj (huntie x) (huntie y) (OrderDual.toDual.injective h)]
  | 6 =>
    obtain ⟨rfl, rfl⟩ := And.intro (Option.some.inj hx) (Option.some.inj hy)
    rw [joinValue_union, joinValue_union]
    exact congrArg some (lor_right_comm ..)
  | kind + 7 =>
    obtain ⟨rfl, rfl⟩ := And.intro (Option.some.inj hx) (Option.some.inj hy)
    rw [joinValue_count, joinValue_count]
    exact congrArg some (by omega)

/-- Only a NaN has no join, whatever the cell holds. -/
theorem joinValue_none_iff (kind size c c' : Nat) (x : Word) : joinValue kind size c x = none ↔ joinValue kind size c' x = none := by
  match kind with
  | 4 | 5 => simp [joinValue]
  | 0 | 1 | 2 | 3 | 6 | kind + 7 => simp [joinValue]

theorem pick_lt {α : Type} [LinearOrder α] {key : Nat → α} {c x n : Nat} (hc : c < n) (hx : x < n) : pick key c x < n := by
  rw [pick]
  split <;> assumption

/-- The joined value fits the cell. -/
theorem joinValue_lt {kind size c : Nat} {x : Word} {v : Nat} (h : joinValue kind size c x = some v) (hsize : kind ≠ 6 → size = 8)
    (hpos : 0 < size) (hc : c < 256 ^ size) : v < 256 ^ size := by
  by_cases h6 : kind = 6
  · subst h6
    obtain rfl := Option.some.inj h
    have hpow : 256 ^ size = 2 ^ (8 * size) := by rw [Nat.pow_mul]
    rw [hpow] at hc ⊢
    refine Nat.or_lt_two_pow hc ?_
    split
    next h8 => subst h8; exact x.isLt
    next => exact Nat.pow_lt_pow_right (by decide) (Nat.mod_lt _ (by omega))
  · obtain rfl := hsize h6
    have hx : x.toNat < 256 ^ 8 := x.isLt
    match kind with
    | 0 => rw [joinValue_max] at h; exact Option.some.inj h ▸ pick_lt hc hx
    | 1 => exact Option.some.inj h ▸ Nat.max_lt.2 ⟨hc, hx⟩
    | 2 => rw [joinValue_min] at h; exact Option.some.inj h ▸ pick_lt hc hx
    | 3 => exact Option.some.inj h ▸ (Nat.min_le_left ..).trans_lt hc
    | 4 =>
      rw [joinValue_maxf] at h
      split at h
      · cases h
      · exact Option.some.inj h ▸ pick_lt hc hx
    | 5 =>
      rw [joinValue_minf] at h
      split at h
      · cases h
      · exact Option.some.inj h ▸ pick_lt hc hx
    | 6 => exact absurd rfl h6
    | kind + 7 => exact Option.some.inj h ▸ (Nat.min_le_right ..).trans_lt (by decide)

/-! ### Two operations in either order (R54, R57) -/

theorem alike_refl (c : Fin 8 × List Byte) : alike c c := ⟨rfl, fun _ => rfl⟩

theorem alike_conflict {c c' : Fin 8 × List Byte} (h : c.1 = 4) (h' : c'.1 = 4) : alike c c' := ⟨h.trans h'.symm, fun hne => absurd h hne⟩

theorem state_cases {k : Fin 8} (hk : k.val ≤ 4) : k.val ≤ 1 ∨ frozenCode k = true ∨ k = 4 := by
  revert hk
  revert k
  decide

theorem cellBytes_pos (n : Nat) : 0 < cellBytes n := by
  unfold cellBytes
  split <;> decide

theorem natOf_bytesOf_of_lt {n v : Nat} (h : v < 256 ^ n) : natOf (bytesOf n v) = v := by
  rw [natOf_bytesOf, Nat.mod_eq_of_lt h]

section Joins

variable {ar : Arena} {k : Fin 8} {bs : List Byte} {x y : Word}

/-- A NaN leaves CONFLICT, from OPEN as from CONFLICT. -/
theorem state_after_nan (h8 : ar.kind ≠ 8) (h9 : ar.kind ≠ 9) (hx : ∀ c, joinValue ar.kind (cellBytes ar.size) c x = none)
    (hk : k.val ≤ 1 ∨ k = 4) : (after ar (.join x) (k, bs)).1 = 4 := by
  obtain hopen | rfl := hk
  · rw [after_join_open h8 h9 hopen, hx]
  · rw [after_join_conflict]

/-- A join leaves an OPEN cell OPEN or in CONFLICT. -/
theorem state_after_join (h8 : ar.kind ≠ 8) (h9 : ar.kind ≠ 9) (hk : k.val ≤ 1) :
    (after ar (.join x) (k, bs)).1.val ≤ 1 ∨ (after ar (.join x) (k, bs)).1 = 4 := by
  rw [after_join_open h8 h9 hk]
  cases joinValue ar.kind (cellBytes ar.size) (natOf bs) x with
  | none => exact .inr rfl
  | some v => exact .inl hk

theorem joins_commute (c : Fin 8 × List Byte) (hk : c.1.val ≤ 4) (hlen : c.2.length = cellBytes ar.size)
    (hsize : ar.kind ≠ 6 → ar.kind ≠ 8 → ar.kind ≠ 9 → ar.size = 0) :
    alike (after ar (.join y) (after ar (.join x) c)) (after ar (.join x) (after ar (.join y) c)) := by
  obtain ⟨k, bs⟩ := c
  by_cases hjoins : ar.kind = 8 ∨ ar.kind = 9
  · simp only [after_join_refused hjoins]
    exact alike_refl _
  obtain ⟨h8, h9⟩ := not_or.1 hjoins
  obtain hopen | hfrozen | rfl := state_cases hk
  · have hnan : ∀ {z}, joinValue ar.kind (cellBytes ar.size) (natOf bs) z = none → ∀ c, joinValue ar.kind (cellBytes ar.size) c z = none :=
      fun h c => (joinValue_none_iff _ _ _ c _).1 h
    cases hx : joinValue ar.kind (cellBytes ar.size) (natOf bs) x with
    | none =>
      refine alike_conflict ?_ (state_after_nan h8 h9 (hnan hx) (state_after_join h8 h9 hopen))
      rw [after_join_open h8 h9 hopen, hx, after_join_conflict]
    | some v =>
      cases hy : joinValue ar.kind (cellBytes ar.size) (natOf bs) y with
      | none =>
        refine alike_conflict (state_after_nan h8 h9 (hnan hy) (state_after_join h8 h9 hopen)) ?_
        rw [after_join_open (x := y) h8 h9 hopen, hy, after_join_conflict]
      | some v' =>
        have hfit : natOf bs < 256 ^ cellBytes ar.size := by
          rw [← show bs.length = cellBytes ar.size from hlen]
          exact natOf_lt bs
        have hword : ar.kind ≠ 6 → cellBytes ar.size = 8 := fun h6 => by rw [hsize h6 h8 h9, cellBytes]
        rw [after_join_open (x := x) (bs := bs) h8 h9 hopen, hx, after_join_open (x := y) (bs := bs) h8 h9 hopen, hy]
        dsimp only
        rw [after_join_open h8 h9 hopen, after_join_open h8 h9 hopen,
          natOf_bytesOf_of_lt (joinValue_lt hx hword (cellBytes_pos _) hfit), natOf_bytesOf_of_lt (joinValue_lt hy hword (cellBytes_pos _) hfit),
          joinValue_comm hx hy]
        cases hboth : joinValue ar.kind (cellBytes ar.size) v' x with
        | some u => exact alike_refl _
        | none => exact alike_conflict rfl rfl
  · rw [after_join_frozen hfrozen, after_join_frozen hfrozen, after_join_frozen hfrozen]
    exact alike_refl _
  · rw [after_join_conflict, after_join_conflict, after_join_conflict]
    exact alike_refl _

end Joins

/-! ### Contributions -/

section Esum

variable {ar : Arena} {k : Fin 8} {bs : List Byte} {t : EsumT} {x : Word}

/-- The number of contributions that an ESUM cell holds. -/
def esumCount (bs : List Byte) : Nat := natOf bs / 2 ^ 88 % 2 ^ 24

/-- An ESUM cell that a contribution of Q has reached. -/
def contributed (bs : List Byte) (q : Int) : List Byte :=
  bytesOf 16 (((sext 88 (natOf bs) + q) % (2 ^ 88 : Nat)).toNat + (esumCount bs + 1) * 2 ^ 88)

theorem esumRes_eq (h9 : ar.kind = 9) (hk : frozenCode k = false) :
    latRes ar k bs (.esum t x) = match esumQ (esumVal t x) ar.gbits ar.fbits with
      | none => ⟨0x10, none⟩
      | some q => if esumCount bs + 1 = 2 ^ ar.gbits then ⟨0x11, none⟩ else ⟨0, some (contributed bs q, k)⟩ := by
  simp only [latRes, esumRes, h9, ne_eq, not_true, if_false, hk, Bool.false_eq_true]
  rfl

theorem after_esum_refused (h : ar.kind ≠ 9 ∨ frozenCode k = true) : after ar (.esum t x) (k, bs) = (k, bs) := by
  apply after_of_none
  simp only [latRes, esumRes]
  obtain h9 | hk := h
  · rw [if_pos h9]
  · rw [hk]
    split <;> rfl

theorem after_esum (h9 : ar.kind = 9) (hk : frozenCode k = false) (hroom : esumCount bs + 1 ≠ 2 ^ ar.gbits) :
    after ar (.esum t x) (k, bs) = match esumQ (esumVal t x) ar.gbits ar.fbits with
      | none => (k, bs)
      | some q => (k, contributed bs q) := by
  rw [after]
  simp only [esumRes_eq h9 hk, hroom, if_false]
  cases esumQ (esumVal t x) ar.gbits ar.fbits <;> rfl

/-- What a contribution leaves of the sum, and of the count while the guard holds. -/
theorem natOf_contributed (q : Int) (hcount : esumCount bs + 1 < 2 ^ 24) :
    natOf (contributed bs q) = ((sext 88 (natOf bs) + q) % (2 ^ 88 : Nat)).toNat + (esumCount bs + 1) * 2 ^ 88 := by
  have hsum : ((sext 88 (natOf bs) + q) % (2 ^ 88 : Nat)).toNat < 2 ^ 88 := by
    have hlt := Int.emod_lt_of_pos (sext 88 (natOf bs) + q) (show (0 : Int) < (2 ^ 88 : Nat) by decide)
    have hnn := Int.emod_nonneg (sext 88 (natOf bs) + q) (show ((2 ^ 88 : Nat) : Int) ≠ 0 by decide)
    omega
  rw [contributed, natOf_bytesOf_of_lt]
  omega

theorem esumCount_contributed (q : Int) (hcount : esumCount bs + 1 < 2 ^ 24) : esumCount (contributed bs q) = esumCount bs + 1 := by
  have hlt := Int.emod_lt_of_pos (sext 88 (natOf bs) + q) (show (0 : Int) < (2 ^ 88 : Nat) by decide)
  rw [esumCount, natOf_contributed q hcount]
  omega

theorem sext_emod (n x : Nat) : sext n x % (2 ^ n : Nat) = x % (2 ^ n : Nat) := by
  rw [sext]
  split
  · rw [Int.natCast_emod, Int.emod_emod_of_dvd _ (dvd_refl _)]
  · rw [Int.sub_emod_right, Int.natCast_emod, Int.emod_emod_of_dvd _ (dvd_refl _)]

/-- The second of two contributions sums as if both had come at once. -/
theorem sum_contributed (q q' : Int) (hcount : esumCount bs + 1 < 2 ^ 24) :
    (sext 88 (natOf (contributed bs q)) + q') % (2 ^ 88 : Nat) = (sext 88 (natOf bs) + q + q') % (2 ^ 88 : Nat) := by
  have hnn := Int.emod_nonneg (sext 88 (natOf bs) + q) (show ((2 ^ 88 : Nat) : Int) ≠ 0 by decide)
  rw [Int.add_emod, sext_emod, natOf_contributed q hcount, Int.natCast_add, Int.toNat_of_nonneg hnn, Int.natCast_mul,
    Int.add_mul_emod_self_right, Int.emod_emod_of_dvd _ (dvd_refl _), ← Int.add_emod]

theorem contributed_comm (q q' : Int) (hcount : esumCount bs + 1 < 2 ^ 24) :
    contributed (contributed bs q) q' = contributed (contributed bs q') q := by
  rw [contributed, contributed.eq_def (contributed bs q') q, sum_contributed q q' hcount, sum_contributed q' q hcount,
    esumCount_contributed q hcount, esumCount_contributed q' hcount, Int.add_right_comm]

end Esum

theorem esums_commute {ar : Arena} {t t' : EsumT} {x y : Word} (c : Fin 8 × List Byte)
    (hguard : ar.kind = 9 → ar.gbits ≤ 24) (hroom : natOf c.2 / 2 ^ 88 % 2 ^ 24 + 2 < 2 ^ ar.gbits) :
    after ar (.esum t' y) (after ar (.esum t x) c) = after ar (.esum t x) (after ar (.esum t' y) c) := by
  obtain ⟨k, bs⟩ := c
  have hcount : esumCount bs + 2 < 2 ^ ar.gbits := hroom
  by_cases hrefused : ar.kind ≠ 9 ∨ frozenCode k = true
  · rw [after_esum_refused hrefused, after_esum_refused hrefused, after_esum_refused hrefused]
  obtain ⟨h9, hk⟩ := not_or.1 hrefused
  rw [ne_eq, not_not] at h9
  rw [Bool.not_eq_true] at hk
  have hlow : esumCount bs + 1 < 2 ^ 24 := by
    have := Nat.pow_le_pow_right (n := 2) (by decide) (hguard h9)
    omega
  have hagain : ∀ q, esumCount (contributed bs q) + 1 ≠ 2 ^ ar.gbits := fun q => by rw [esumCount_contributed q hlow]; omega
  rw [after_esum (t := t) h9 hk (by omega), after_esum (t := t') h9 hk (by omega)]
  cases hq : esumQ (esumVal t x) ar.gbits ar.fbits with
  | none =>
    cases hq' : esumQ (esumVal t' y) ar.gbits ar.fbits with
    | none => simp only [after_esum h9 hk (show esumCount bs + 1 ≠ _ by omega), hq, hq']
    | some q' => simp only [after_esum h9 hk (show esumCount bs + 1 ≠ _ by omega), after_esum h9 hk (hagain q'), hq, hq']
  | some q =>
    cases hq' : esumQ (esumVal t' y) ar.gbits ar.fbits with
    | none => simp only [after_esum h9 hk (show esumCount bs + 1 ≠ _ by omega), after_esum h9 hk (hagain q), hq, hq']
    | some q' => simp only [after_esum h9 hk (hagain q), after_esum h9 hk (hagain q'), hq, hq', contributed_comm q q' hlow]

/-! ### Fills -/

/-- The words of `v` that a mask selects, in place of those of `old` (R201). -/
def mixed (mask : Nat) (v old : List Byte) : List Byte :=
  (List.range old.length).map fun i => if mask / 2 ^ (i / 8) % 2 = 1 then v.getD i 0 else old.getD i 0

theorem maskWords_eq_mixed (mask : Nat) {v old : List Byte} (hlen : v.length = old.length) : maskWords mask v old = mixed mask v old := by
  apply List.ext_getElem
  · simp [maskWords, mixed, hlen]
  · intro i hi hi'
    have hold : i < old.length := by simpa [mixed] using hi'
    have hv : i < v.length := hlen ▸ hold
    simp [maskWords, mixed, bitAt, hold, hv]

theorem mixed_all {v old : List Byte} (hlen : v.length = old.length) (hsmall : old.length ≤ 256) : mixed (2 ^ 32 - 1) v old = v := by
  apply List.ext_getElem
  · simp [mixed, hlen]
  · intro i hi hv
    have hbit : (2 ^ 32 - 1) / 2 ^ (i / 8) % 2 = 1 := by
      have h := Nat.testBit_two_pow_sub_one 32 (i / 8)
      rw [decide_eq_true (by omega), Nat.testBit_eq_decide_div_mod_eq, decide_eq_true_eq] at h
      exact h
    simp only [mixed, List.getElem_map, List.getElem_range, hbit, if_true, List.getD_eq_getElem _ _ hv]

section FillRes

variable {kind : Nat} {sizeOk : Bool} {bs v : List Byte} {mask : Nat}

theorem fillRes_refused (h : kind ≠ 8 ∨ (!sizeOk) = true) (k : Fin 8) : fillRes kind sizeOk k bs v mask = ⟨0x0B, none⟩ := if_pos h

/-- A fill in each state of a FILL cell (R48). -/
theorem fillRes_empty : fillRes 8 true 0 bs v mask = ⟨0, some (maskWords mask v (List.replicate bs.length 0), 1)⟩ := rfl
theorem fillRes_filled : fillRes 8 true 1 bs v mask = if maskWords mask v bs = bs then ⟨0, none⟩ else ⟨0x0F, some (bs, 4)⟩ := by
  change (if (maskWords mask v bs == bs) = true then (⟨0, none⟩ : LatRes) else ⟨0x0F, some (bs, 4)⟩) = _
  simp only [beq_iff_eq]
theorem fillRes_frozenEmpty : fillRes 8 true 2 bs v mask = ⟨0x0E, none⟩ := rfl
theorem fillRes_frozenFilled : fillRes 8 true 3 bs v mask = if maskWords mask v bs = bs then ⟨0, none⟩ else ⟨0x0E, none⟩ := by
  change (if (maskWords mask v bs == bs) = true then (⟨0, none⟩ : LatRes) else ⟨0x0E, none⟩) = _
  simp only [beq_iff_eq]
theorem fillRes_conflict : fillRes 8 true 4 bs v mask = ⟨0x0F, none⟩ := rfl

end FillRes

section Fill

variable {ar : Arena} {k : Fin 8} {bs : List Byte} {x : Word}

theorem after_fill_refused (h : ar.kind ≠ 8 ∨ cellBytes ar.size ≠ 8) (c : Fin 8 × List Byte) : after ar (.fill x) c = c := by
  apply after_of_none
  simp only [latRes, fillRes_refused (show ar.kind ≠ 8 ∨ (!(cellBytes ar.size == 8)) = true by simpa using h)]

theorem latRes_fill (h8 : ar.kind = 8) (hsize : cellBytes ar.size = 8) :
    latRes ar k bs (.fill x) = fillRes 8 true k bs (bytesOf 8 x.toNat) (2 ^ 32 - 1) := by
  simp only [latRes, h8, hsize, beq_self_eq_true]

/-- A whole fill selects every word. -/
theorem maskWords_whole {v old : List Byte} (hv : v.length = 8) (hold : old.length = 8) : maskWords (2 ^ 32 - 1) v old = v := by
  rw [maskWords_eq_mixed _ (hv.trans hold.symm), mixed_all (hv.trans hold.symm) (by omega)]

theorem after_fill_empty (h8 : ar.kind = 8) (hsize : cellBytes ar.size = 8) (hlen : bs.length = 8) :
    after ar (.fill x) (0, bs) = (1, bytesOf 8 x.toNat) := by
  apply after_of_some
  rw [latRes_fill h8 hsize, fillRes_empty, maskWords_whole (length_bytesOf ..) (List.length_replicate.trans hlen)]

theorem after_fill_filled (h8 : ar.kind = 8) (hsize : cellBytes ar.size = 8) (hlen : bs.length = 8) :
    after ar (.fill x) (1, bs) = if bytesOf 8 x.toNat = bs then (1, bs) else (4, bs) := by
  have hres : latRes ar 1 bs (.fill x) = if bytesOf 8 x.toNat = bs then ⟨0, none⟩ else ⟨0x0F, some (bs, 4)⟩ := by
    rw [latRes_fill h8 hsize, fillRes_filled, maskWords_whole (length_bytesOf ..) hlen]
  split
  next h => exact after_of_none (by rw [hres, if_pos h])
  next h => exact after_of_some (by rw [hres, if_neg h])

/-- A frozen cell and a CONFLICT cell keep what they hold. -/
theorem after_fill_closed (h8 : ar.kind = 8) (hsize : cellBytes ar.size = 8) (hk : k ∈ [2, 3, 4]) : after ar (.fill x) (k, bs) = (k, bs) := by
  apply after_of_none
  rw [latRes_fill h8 hsize]
  simp only [List.mem_cons, List.not_mem_nil, or_false] at hk
  obtain rfl | rfl | rfl := hk
  · rw [fillRes_frozenEmpty]
  · rw [fillRes_frozenFilled]
    split <;> rfl
  · rw [fillRes_conflict]

theorem fills_commute {y : Word} (c : Fin 8 × List Byte) (hk : c.1.val ≤ 4) (hlen : c.2.length = cellBytes ar.size) :
    alike (after ar (.fill y) (after ar (.fill x) c)) (after ar (.fill x) (after ar (.fill y) c)) := by
  obtain ⟨k, bs⟩ := c
  by_cases hrefused : ar.kind ≠ 8 ∨ cellBytes ar.size ≠ 8
  · simp only [after_fill_refused hrefused]
    exact alike_refl _
  obtain ⟨h8, hsize⟩ := not_or.1 hrefused
  rw [ne_eq, not_not] at h8 hsize
  have hbs : bs.length = 8 := hlen.trans hsize
  have hstates : ∀ k : Fin 8, k.val ≤ 4 → k = 0 ∨ k = 1 ∨ k ∈ [2, 3, 4] := by decide
  obtain rfl | rfl | hclosed := hstates k hk
  · rw [after_fill_empty h8 hsize hbs, after_fill_empty h8 hsize hbs, after_fill_filled h8 hsize (length_bytesOf ..),
      after_fill_filled h8 hsize (length_bytesOf ..)]
    by_cases hxy : bytesOf 8 x.toNat = bytesOf 8 y.toNat
    · rw [hxy]
      exact alike_refl _
    · rw [if_neg hxy, if_neg (Ne.symm hxy)]
      exact alike_conflict rfl rfl
  · rw [after_fill_filled h8 hsize hbs, after_fill_filled h8 hsize hbs]
    by_cases hx : bytesOf 8 x.toNat = bs
    · by_cases hy : bytesOf 8 y.toNat = bs
      · rw [if_pos hx, if_pos hy, after_fill_filled h8 hsize hbs, after_fill_filled h8 hsize hbs, if_pos hx, if_pos hy]
        exact alike_refl _
      · rw [if_pos hx, if_neg hy, after_fill_filled h8 hsize hbs, after_fill_closed h8 hsize (by decide), if_neg hy]
        exact alike_refl _
    · by_cases hy : bytesOf 8 y.toNat = bs
      · rw [if_neg hx, if_pos hy, after_fill_closed h8 hsize (by decide), after_fill_filled h8 hsize hbs, if_neg hx]
        exact alike_refl _
      · rw [if_neg hx, if_neg hy, after_fill_closed h8 hsize (by decide), after_fill_closed h8 hsize (by decide)]
        exact alike_refl _
  · rw [after_fill_closed h8 hsize hclosed, after_fill_closed h8 hsize hclosed, after_fill_closed h8 hsize hclosed]
    exact alike_refl _

end Fill

/-! ### Finality (R57, R199, R200) -/

section Final

variable (ar : Arena) (bs : List Byte)

theorem joinRes_frozen {k : Fin 8} (hk : k = 2 ∨ k = 3) (kind size : Nat) (x : Word) :
    (joinRes kind size k bs x).new = none ∧ ((joinRes kind size k bs x).ans = 0 ∨ (joinRes kind size k bs x).ans = 0x0E ∨
      (joinRes kind size k bs x).ans = 0x0B) ∧
    ((joinRes kind size (k - 2) bs x).new ≠ none → (joinRes kind size k bs x).ans = 0x0E) := by
  have hfrozen : frozenCode k = true := by obtain rfl | rfl := hk <;> rfl
  have hne : k ≠ 4 := by obtain rfl | rfl := hk <;> decide
  have hopen : k - 2 ≠ 4 ∧ frozenCode (k - 2) = false := by obtain rfl | rfl := hk <;> decide
  simp only [joinRes, hfrozen, hne, hopen.1, hopen.2, if_true, if_false, Bool.false_eq_true]
  by_cases h : kind = 8 ∨ kind = 9
  · simp [h]
  · simp only [h, if_false]
    cases joinValue kind size (natOf bs) x with
    | none => simp
    | some v => by_cases hsame : bytesOf size v = bs <;> simp [hsame]

theorem fillRes_frozen {k : Fin 8} (hk : k = 2 ∨ k = 3) (kind : Nat) (sizeOk : Bool) (v : List Byte) (mask : Nat) :
    (fillRes kind sizeOk k bs v mask).new = none ∧ ((fillRes kind sizeOk k bs v mask).ans = 0 ∨ (fillRes kind sizeOk k bs v mask).ans = 0x0E ∨
      (fillRes kind sizeOk k bs v mask).ans = 0x0B) ∧
    ((fillRes kind sizeOk (k - 2) bs v mask).new ≠ none → (fillRes kind sizeOk k bs v mask).ans = 0x0E) := by
  by_cases h : kind ≠ 8 ∨ (!sizeOk) = true
  · simp only [fillRes_refused h, ne_eq, not_true, false_implies, and_true, true_and]
    decide
  · obtain ⟨rfl, rfl⟩ : kind = 8 ∧ sizeOk = true := by simpa using h
    obtain rfl | rfl := hk
    · rw [fillRes_frozenEmpty]
      exact ⟨rfl, by decide, fun _ => rfl⟩
    · rw [show (3 : Fin 8) - 2 = 1 from rfl, fillRes_frozenFilled, fillRes_filled]
      by_cases hsame : maskWords mask v bs = bs <;> simp [hsame]

/-- What an operation does to a frozen cell: nothing, with an answer that says which of its refusals it met. -/
theorem latRes_frozen {k : Fin 8} (hk : k = 2 ∨ k = 3) (op : LatOp) :
    (latRes ar k bs op).new = none ∧ ((latRes ar k bs op).ans = 0 ∨ (latRes ar k bs op).ans = 0x0E ∨ (latRes ar k bs op).ans = 0x0B ∨
      (op = .frz ∨ op = .frza) ∧ (latRes ar k bs op).ans = 1) ∧
    (op ≠ .frz → op ≠ .frza → (latRes ar (k - 2) bs op).new ≠ none → (latRes ar k bs op).ans = 0x0E) := by
  have hfrozen : frozenCode k = true := by obtain rfl | rfl := hk <;> rfl
  have hne : k ≠ 4 := by obtain rfl | rfl := hk <;> decide
  cases op with
  | join x =>
    obtain ⟨hnew, hans, hwas⟩ := joinRes_frozen bs hk ar.kind (cellBytes ar.size) x
    exact ⟨hnew, hans.imp_right (.imp_right .inl), fun _ _ => hwas⟩
  | esum t x =>
    have hopen : frozenCode (k - 2) = false := by obtain rfl | rfl := hk <;> rfl
    simp only [latRes, esumRes, hfrozen, if_true]
    by_cases h9 : ar.kind ≠ 9 <;> simp [h9]
  | fill x =>
    obtain ⟨hnew, hans, hwas⟩ := fillRes_frozen bs hk ar.kind (cellBytes ar.size == 8) (bytesOf 8 x.toNat) (2 ^ 32 - 1)
    exact ⟨hnew, hans.imp_right (.imp_right .inl), fun _ _ => hwas⟩
  | fillV v =>
    obtain ⟨hnew, hans, hwas⟩ := fillRes_frozen bs hk ar.kind (cellBytes ar.size == 8 || cellBytes ar.size == 32) (v.take (cellBytes ar.size)) (2 ^ 32 - 1)
    exact ⟨hnew, hans.imp_right (.imp_right .inl), fun _ _ => hwas⟩
  | fillM v m =>
    obtain ⟨hnew, hans, hwas⟩ := fillRes_frozen bs hk ar.kind true (v.take (cellBytes ar.size)) m
    exact ⟨hnew, hans.imp_right (.imp_right .inl), fun _ _ => hwas⟩
  | frz =>
    have hres : latRes ar k bs .frz = ⟨1, none⟩ := by simp only [latRes, frzRes, if_neg hne, hfrozen, if_true]
    rw [hres]
    exact ⟨rfl, .inr (.inr (.inr ⟨.inl rfl, rfl⟩)), fun h => absurd rfl h⟩
  | frza =>
    have hres : latRes ar k bs .frza = ⟨1, none⟩ := by simp only [latRes, frzRes, if_neg hne, hfrozen, if_true]
    rw [hres]
    exact ⟨rfl, .inr (.inr (.inr ⟨.inr rfl, rfl⟩)), fun _ h => absurd rfl h⟩

theorem new_ne_none_of_after_ne {op : LatOp} {c : Fin 8 × List Byte} (h : after ar op c ≠ c) : (latRes ar c.1 c.2 op).new ≠ none :=
  fun hnone => h (after_of_none hnone)

theorem after_conflict {op : LatOp} (hop : ∀ t x, op ≠ .esum t x) : after ar op (4, bs) = (4, bs) := by
  have hfill : ∀ kind sizeOk v mask, (fillRes kind sizeOk 4 bs v mask).new = none := fun kind sizeOk v mask => by
    by_cases h : kind ≠ 8 ∨ (!sizeOk) = true
    · rw [fillRes_refused h]
    · obtain ⟨rfl, rfl⟩ : kind = 8 ∧ sizeOk = true := by simpa using h
      rw [fillRes_conflict]
  cases op with
  | join x => exact after_join_conflict
  | esum t x => exact absurd rfl (hop t x)
  | fill x => exact after_of_none (hfill ar.kind (cellBytes ar.size == 8) (bytesOf 8 x.toNat) (2 ^ 32 - 1))
  | fillV v => exact after_of_none (hfill ar.kind (cellBytes ar.size == 8 || cellBytes ar.size == 32) (v.take (cellBytes ar.size)) (2 ^ 32 - 1))
  | fillM v m => exact after_of_none (hfill ar.kind true (v.take (cellBytes ar.size)) m)
  | frz => exact after_of_none rfl
  | frza => exact after_of_none rfl

/-- Only an OPEN cell enters CONFLICT. -/
theorem open_of_after_conflict {k : Fin 8} {op : LatOp} (hk : k.val ≤ 4) (h : (after ar op (k, bs)).1 = 4) : k = 4 ∨ k.val ≤ 1 := by
  obtain hopen | hfrozen | rfl := state_cases hk
  · exact .inr hopen
  · have hk23 : ∀ k : Fin 8, frozenCode k = true → k = 2 ∨ k = 3 := by decide
    obtain ⟨hnew, -⟩ := latRes_frozen ar bs (hk23 k hfrozen) op
    rw [after_of_none hnew] at h
    exact .inl h
  · exact .inl rfl

end Final

theorem latRes_esum_frozen {ar : Arena} {k : Fin 8} (bs : List Byte) (hk : k = 2 ∨ k = 3) (h9 : ar.kind = 9) (t : EsumT) (x : Word) :
    (latRes ar k bs (.esum t x)).ans = 0x0E := by
  have hfrozen : frozenCode k = true := by obtain rfl | rfl := hk <;> rfl
  simp only [latRes, esumRes, h9, hfrozen, ne_eq, not_true, if_false, if_true]

/-- Settles O12: joins, contributions and fills each commute; a frozen cell is final; only an OPEN one enters CONFLICT. -/
theorem latticeLaws : Obligations.LatticeLaws := by
  unfold Obligations.LatticeLaws
  refine ⟨fun ar c o o' hk hlen hsize h9 hfree => ?_, fun ar k bs op => ⟨fun hk => ?_, fun hk hop => ?_, open_of_after_conflict ar bs⟩⟩
  · match o, o', hfree with
    | .join x, .join y, _ => exact joins_commute c hk hlen hsize
    | .esum t x, .esum t' y, hroom =>
      rw [esums_commute c (fun h => (h9 h).2.1) hroom]
      exact alike_refl _
    | .fill x, .fill y, _ => exact fills_commute c hk hlen
  · obtain ⟨hnew, hans, hwas⟩ := latRes_frozen ar bs hk op
    refine ⟨after_of_none hnew, hans, fun hfrz hfrza hne => hwas hfrz hfrza (new_ne_none_of_after_ne ar hne), ?_⟩
    rintro t x rfl h
    exact latRes_esum_frozen bs hk h t x
  · subst hk
    exact after_conflict ar bs hop

end Sys2Proof.Cells

/-! # What a cell holds after an operation, and what a threshold read of it finds (R46 to R51, R200, R201, Table 2.6)

Each kind's rule is stated on the cell as an unsigned integer; the order of FP64 encodings is that of `orderKey`, which differs from the model's key by
a constant. -/

namespace Sys2Proof.CellVals
open Sys2Proof Sys2Proof.Machine Sys2Proof.Claims Sys2Proof.Bits Sys2Proof.Access Sys2Proof.Cells

/-! ## FP64 encodings (R46) -/

theorem bitAt_top {x : Nat} (hx : x < 2 ^ 64) : bitAt x 63 = true ↔ 2 ^ 63 ≤ x := by
  rw [bitAt, beq_iff_eq]
  omega

theorem totKey_eq (x : Word) : (totKey x.toNat : Int) = orderKey x + 2 ^ 63 := by
  have hx := x.isLt
  simp only [totKey, orderKey, bitAt_top hx]
  split <;> split <;> omega

theorem totKey_lt_iff (x y : Word) : totKey x.toNat < totKey y.toNat ↔ orderKey x < orderKey y := by
  have hx := totKey_eq x
  have hy := totKey_eq y
  omega

theorem totKey_le_iff (x y : Word) : totKey x.toNat ≤ totKey y.toNat ↔ orderKey x ≤ orderKey y := by
  have hx := totKey_eq x
  have hy := totKey_eq y
  omega

theorem orderKey_inj {x y : Word} (h : orderKey x = orderKey y) : x = y :=
  BitVec.eq_of_toNat_eq (totKey_inj x.isLt y.isLt (by have := totKey_eq x; have := totKey_eq y; omega))

theorem isNan_pow2 (s : Bool) (n : Nat) (e : Int) : (Val.pow2 s n e).isNan = false := rfl

/-- The NaN of a format that has infinities: the greatest exponent and a fraction. -/
theorem isNan_decode {f : Fmt} (hinf : f.hasInf = true) (x : Nat) :
    (f.decode x).isNan = true ↔ x / 2 ^ f.tw % 2 ^ f.ew ≠ 0 ∧ x / 2 ^ f.tw % 2 ^ f.ew = 2 ^ f.ew - 1 ∧ x % 2 ^ f.tw ≠ 0 := by
  simp only [Fmt.decode, hinf, Bool.true_and, beq_iff_eq, Bool.not_true, Bool.and_false, Bool.false_and, Bool.false_eq_true, if_false]
  by_cases hzero : x / 2 ^ f.tw % 2 ^ f.ew = 0
  · simp [hzero, isNan_pow2]
  · by_cases hmax : x / 2 ^ f.tw % 2 ^ f.ew = 2 ^ f.ew - 1
    · have hmax0 : 2 ^ f.ew - 1 ≠ 0 := hmax ▸ hzero
      by_cases hfrac : x % 2 ^ f.tw = 0
      · simp [hmax, hmax0, hfrac, Val.isNan]
      · simp [hmax, hmax0, hfrac, Val.isNan]
    · simp [hzero, hmax, isNan_pow2]

theorem isNan_iff (x : Word) : (fp64.decode x.toNat).isNan = true ↔ isNaN x := by
  have hx := x.isLt
  rw [isNan_decode rfl]
  simp only [fp64, isNaN]
  omega

/-! ## Joins into an 8-byte cell -/

section Join

variable {ar : Arena} {k : Fin 8} {c x : Word}

theorem natOf_word (c : Word) : natOf (bytesOf 8 c.toNat) = c.toNat := natOf_bytesOf_of_lt c.isLt

/-- A join whose value fits the cell. -/
theorem after_join_word (hsize : ar.size = 0) (hk : k.val ≤ 1) (h8 : ar.kind ≠ 8) (h9 : ar.kind ≠ 9) {v : Word}
    (hv : joinValue ar.kind 8 c.toNat x = some v.toNat) : after ar (.join x) (k, bytesOf 8 c.toNat) = (k, bytesOf 8 v.toNat) := by
  rw [after_join_open h8 h9 hk, hsize, natOf_word]
  simp only [cellBytes, hv]

theorem pick_toInt (c x : Word) : Cells.pick (sext 64) c.toNat x.toNat = (if c.toInt ≤ x.toInt then x else c).toNat := by
  rw [Cells.pick, ← toInt_eq_sext, ← toInt_eq_sext]
  split
  · rw [if_pos (by omega)]
  · split
    · rw [BitVec.eq_of_toInt_eq (show c.toInt = x.toInt by omega)]
    · rfl

theorem pick_toInt_dual (c x : Word) :
    Cells.pick (fun z => OrderDual.toDual (sext 64 z)) c.toNat x.toNat = (if x.toInt ≤ c.toInt then x else c).toNat := by
  simp only [Cells.pick, OrderDual.toDual_lt_toDual, ← toInt_eq_sext]
  split
  · rw [if_pos (by omega)]
  · split
    · rw [BitVec.eq_of_toInt_eq (show c.toInt = x.toInt by omega)]
    · rfl

theorem pick_orderKey (c x : Word) : Cells.pick totKey c.toNat x.toNat = (if orderKey c ≤ orderKey x then x else c).toNat := by
  simp only [Cells.pick, totKey_lt_iff]
  split
  · rw [if_pos (by omega)]
  · split
    · rw [orderKey_inj (show orderKey c = orderKey x by omega)]
    · rfl

theorem pick_orderKey_dual (c x : Word) :
    Cells.pick (fun z => OrderDual.toDual (totKey z)) c.toNat x.toNat = (if orderKey x ≤ orderKey c then x else c).toNat := by
  simp only [Cells.pick, OrderDual.toDual_lt_toDual, totKey_lt_iff]
  split
  · rw [if_pos (by omega)]
  · split
    · rw [orderKey_inj (show orderKey c = orderKey x by omega)]
    · rfl

theorem max_toNat (c x : Word) : max c.toNat x.toNat = (if c.toNat ≤ x.toNat then x else c).toNat := by
  rw [max_def]
  split <;> rfl

theorem min_toNat (c x : Word) : min c.toNat x.toNat = (if x.toNat ≤ c.toNat then x else c).toNat := by
  split <;> omega

theorem sum_toNat (c x : Word) :
    min (c.toNat + x.toNat) (2 ^ 64 - 1) = (if c.toNat + x.toNat < 2 ^ 64 then c + x else BitVec.allOnes 64).toNat := by
  split
  · rw [BitVec.toNat_add, Nat.mod_eq_of_lt ‹_›]
    omega
  · rw [BitVec.toNat_allOnes]
    omega

theorem not_isNan {x : Word} (h : ¬ isNaN x) : (fp64.decode x.toNat).isNan = false := Bool.eq_false_iff.mpr fun hnan => h ((isNan_iff x).mp hnan)

/-- The joins of an 8-byte cell that is OPEN, kind by kind (Table 8.2). -/
theorem joins_of_word (hsize : ar.size = 0) (hk : k.val ≤ 1) :
    (ar.kind = 0 → after ar (.join x) (k, bytesOf 8 c.toNat) = (k, bytesOf 8 (if c.toInt ≤ x.toInt then x else c).toNat)) ∧
    (ar.kind = 1 → after ar (.join x) (k, bytesOf 8 c.toNat) = (k, bytesOf 8 (if c.toNat ≤ x.toNat then x else c).toNat)) ∧
    (ar.kind = 2 → after ar (.join x) (k, bytesOf 8 c.toNat) = (k, bytesOf 8 (if x.toInt ≤ c.toInt then x else c).toNat)) ∧
    (ar.kind = 3 → after ar (.join x) (k, bytesOf 8 c.toNat) = (k, bytesOf 8 (if x.toNat ≤ c.toNat then x else c).toNat)) ∧
    (ar.kind = 6 → after ar (.join x) (k, bytesOf 8 c.toNat) = (k, bytesOf 8 (c ||| x).toNat)) ∧
    (ar.kind = 7 → after ar (.join x) (k, bytesOf 8 c.toNat) =
      (k, bytesOf 8 (if c.toNat + x.toNat < 2 ^ 64 then c + x else BitVec.allOnes 64).toNat)) ∧
    (ar.kind = 4 → ¬ isNaN x → after ar (.join x) (k, bytesOf 8 c.toNat) = (k, bytesOf 8 (if orderKey c ≤ orderKey x then x else c).toNat)) ∧
    (ar.kind = 5 → ¬ isNaN x → after ar (.join x) (k, bytesOf 8 c.toNat) = (k, bytesOf 8 (if orderKey x ≤ orderKey c then x else c).toNat)) := by
  refine ⟨fun h => ?_, fun h => ?_, fun h => ?_, fun h => ?_, fun h => ?_, fun h => ?_, fun h hnan => ?_, fun h hnan => ?_⟩ <;>
    refine after_join_word hsize hk (by rw [h]; decide) (by rw [h]; decide) ?_ <;> rw [h]
  · rw [joinValue_max, pick_toInt]
  · rw [joinValue_maxn, max_toNat]
  · rw [joinValue_min, pick_toInt_dual]
  · rw [joinValue_minn, min_toNat]
  · rw [joinValue_union, if_pos rfl, BitVec.toNat_or]
    rfl
  · rw [show (7 : Nat) = 0 + 7 from rfl, joinValue_count, sum_toNat]
  · rw [joinValue_maxf, not_isNan hnan, pick_orderKey]
    rfl
  · rw [joinValue_minf, not_isNan hnan, pick_orderKey_dual]
    rfl

/-- A NaN joined to a MAXF or MINF cell that is OPEN. -/
theorem after_join_nan {bs : List Byte} (hkind : ar.kind = 4 ∨ ar.kind = 5) (hk : k.val ≤ 1) (hnan : isNaN x) :
    after ar (.join x) (k, bs) = (4, bs) := by
  have hnone : ∀ n c, joinValue ar.kind n c x = none := by
    intro n c
    obtain h | h := hkind <;> rw [h]
    · rw [joinValue_maxf, if_pos ((isNan_iff x).mpr hnan)]
    · rw [joinValue_minf, if_pos ((isNan_iff x).mpr hnan)]
  rw [after_join_open (by omega) (by omega) hk, hnone]

theorem join_refused (hkind : ar.kind = 8 ∨ ar.kind = 9) (bs : List Byte) : (latRes ar k bs (.join x)).ans = 0x0B := by
  simp only [latRes, joinRes, if_pos hkind]

/-- A join sets one bit of a wider UNION cell. -/
theorem after_join_wide {bs : List Byte} (h6 : ar.kind = 6) (hsize : ar.size = 2 ∨ ar.size = 4) (hlen : bs.length = cellBytes ar.size)
    (hk : k.val ≤ 1) :
    after ar (.join x) (k, bs) = (k, bytesOf bs.length (Nat.lor (natOf bs) (2 ^ (x.toNat % (8 * bs.length))))) := by
  have hwide : cellBytes ar.size ≠ 8 := by obtain h | h := hsize <;> rw [h] <;> decide
  rw [after_join_open (by omega) (by omega) hk, h6, joinValue_union, if_neg hwide, ← hlen]

end Join

/-! ## Contributions (R49, R134, R200) -/

section Contribution

/-- Rounding to the nearest integer, to the even one of two. -/
theorem roundNat_rne {n d : Nat} (s : Bool) (mix : Nat) (hd : 0 < d) :
    2 * ((n : Int) - roundNat .rne s n d mix * d).natAbs ≤ d ∧
    (2 * ((n : Int) - roundNat .rne s n d mix * d).natAbs = d → (roundNat .rne s n d mix : Int) % 2 = 0) := by
  have hdiv := Nat.div_add_mod n d
  have hlt := Nat.mod_lt n hd
  have hup : roundsUp .rne s (n / d) (n % d) d mix = true ↔ d < 2 * (n % d) ∨ 2 * (n % d) = d ∧ n / d % 2 = 1 := by
    simp [roundsUp]
  have hn : (n : Int) = d * (n / d : Nat) + (n % d : Nat) := by exact_mod_cast hdiv.symm
  simp only [roundNat, hup]
  generalize n / d = m at *
  generalize n % d = r at *
  have hcomm : (m : Int) * d = d * m := Int.mul_comm ..
  by_cases hr : r = 0
  · rw [if_pos hr]
    omega
  · rw [if_neg hr]
    by_cases hround : d < 2 * r ∨ 2 * r = d ∧ m % 2 = 1
    · rw [if_pos hround]
      have hsucc : ((m + 1 : Nat) : Int) * d = d * m + d := by push_cast; ring
      omega
    · rw [if_neg hround]
      omega

/-- Below its range a contribution is rounded at F fraction bits, to the nearest integer, ties to even. -/
theorem esumQ_fin {sg : Bool} {n d : Nat} (g f : Nat) :
    (d * 2 ^ 87 ≤ n * 2 ^ (g + f) → esumQ (.fin sg n d) g f = none) ∧
    (n * 2 ^ (g + f) < d * 2 ^ 87 → esumQ (.fin sg n d) g f = some (roundInt .rne 0 sg (n * 2 ^ f) d)) := by
  have hle : ratLe (scale2 1 1 ((87 : Int) - g - f)).1 (scale2 1 1 ((87 : Int) - g - f)).2 n d = true ↔ d * 2 ^ 87 ≤ n * 2 ^ (g + f) := by
    simp only [ratLe, decide_eq_true_eq, scale2, one_mul]
    by_cases hexp : (0 : Int) ≤ (87 : Int) - g - f
    · have h87 : 2 ^ 87 = 2 ^ ((87 : Int) - g - f).toNat * 2 ^ (g + f) := by rw [← pow_add]; congr 1; omega
      rw [if_pos hexp, h87, ← mul_assoc, Nat.mul_le_mul_right_iff (Nat.two_pow_pos _), Nat.mul_comm d, Nat.mul_one]
    · have hgf : 2 ^ (g + f) = 2 ^ (-((87 : Int) - g - f)).toNat * 2 ^ 87 := by rw [← pow_add]; congr 1; omega
      rw [if_neg hexp, hgf, ← mul_assoc, Nat.mul_le_mul_right_iff (Nat.two_pow_pos _)]
      simp only [one_mul]
  have hbody : esumQ (.fin sg n d) g f =
      if ratLe (scale2 1 1 ((87 : Int) - g - f)).1 (scale2 1 1 ((87 : Int) - g - f)).2 n d = true then none
      else some (roundInt .rne 0 sg (n * 2 ^ f) d) := rfl
  exact ⟨fun h => by rw [hbody, if_pos (hle.mpr h)], fun h => by rw [hbody, if_neg (fun hc => by have := hle.mp hc; omega)]⟩

theorem roundInt_rne {n d : Nat} (sg : Bool) (hd : 0 < d) (z q : Int) (hz : z = if sg then -(n : Int) else n) (hq : q = roundInt .rne 0 sg n d) :
    2 * (z - q * d).natAbs ≤ d ∧ (2 * (z - q * d).natAbs = d → q % 2 = 0) := by
  obtain ⟨hnear, htie⟩ := roundNat_rne (n := n) sg 0 hd
  subst hz hq
  simp only [roundInt]
  cases sg with
  | false => exact ⟨hnear, htie⟩
  | true =>
    have hneg : -(n : Int) - -(roundNat .rne true n d 0 : Int) * d = -((n : Int) - roundNat .rne true n d 0 * d) := by ring
    simp only [if_true, hneg, Int.natAbs_neg]
    exact ⟨hnear, fun h => by have := htie h; omega⟩

/-- The sum of a cell and a contribution, both modulo 2^88. -/
theorem contributed_eq (bs : List Byte) (q : Int) :
    contributed bs q = bytesOf 16 ((((natOf bs % 2 ^ 88 : Nat) + q) % (2 ^ 88 : Nat)).toNat + (natOf bs / 2 ^ 88 % 2 ^ 24 + 1) * 2 ^ 88) := by
  have hsum : (sext 88 (natOf bs) + q) % (2 ^ 88 : Nat) = ((natOf bs % 2 ^ 88 : Nat) + q) % (2 ^ 88 : Nat) := by
    rw [Int.add_emod, sext_emod, Int.natCast_emod, ← Int.add_emod, Int.emod_add_emod]
  rw [contributed, hsum, esumCount]

variable {ar : Arena} {k : Fin 8} {bs : List Byte} {t : EsumT} {x : Word}

theorem esum_unbounded (h9 : ar.kind = 9) (hk : k.val ≤ 1) (h : (esumVal t x).isNan = true ∨ (esumVal t x).isInf = true) :
    latRes ar k bs (.esum t x) = ⟨0x10, none⟩ := by
  rw [esumRes_eq h9 (frozenCode_of_le_one hk)]
  match hval : esumVal t x with
  | .nan | .inf _ => rfl
  | .fin sg n d => simp [hval, Val.isNan, Val.isInf] at h

theorem esum_fin (h9 : ar.kind = 9) (hk : k.val ≤ 1) {sg : Bool} {n d : Nat} (hval : esumVal t x = .fin sg n d) :
    (d * 2 ^ 87 ≤ n * 2 ^ (ar.gbits + ar.fbits) → latRes ar k bs (.esum t x) = ⟨0x10, none⟩) ∧
    (n * 2 ^ (ar.gbits + ar.fbits) < d * 2 ^ 87 → esumCount bs + 1 = 2 ^ ar.gbits → latRes ar k bs (.esum t x) = ⟨0x11, none⟩) ∧
    (n * 2 ^ (ar.gbits + ar.fbits) < d * 2 ^ 87 → esumCount bs + 1 ≠ 2 ^ ar.gbits →
      latRes ar k bs (.esum t x) = ⟨0, some (contributed bs (roundInt .rne 0 sg (n * 2 ^ ar.fbits) d), k)⟩) := by
  obtain ⟨hout, hin⟩ := esumQ_fin (sg := sg) (n := n) (d := d) ar.gbits ar.fbits
  rw [esumRes_eq h9 (frozenCode_of_le_one hk), hval]
  refine ⟨fun h => by rw [hout h], fun h hfull => by rw [hin h]; exact if_pos hfull, fun h hroom => by rw [hin h]; exact if_neg hroom⟩

end Contribution

/-! ## Fills (R48, R201) -/

section Fill

variable {ar : Arena} {old v : List Byte} {mask : Nat}

theorem latRes_fillM (h8 : ar.kind = 8) (hv : v.length = cellBytes ar.size) (k : Fin 8) :
    latRes ar k old (.fillM v mask) = fillRes 8 true k old v mask := by
  simp only [latRes, h8, List.take_of_length_le hv.le]

theorem latRes_fillV (h8 : ar.kind = 8) (hv : v.length = cellBytes ar.size) (k : Fin 8) :
    latRes ar k old (.fillV v) = if ar.size = 0 ∨ ar.size = 2 then latRes ar k old (.fillM v (2 ^ 32 - 1)) else ⟨0x0B, none⟩ := by
  have hsize : (cellBytes ar.size == 8 || cellBytes ar.size == 32) = true ↔ ar.size = 0 ∨ ar.size = 2 := by
    match ar.size with
    | 0 | 1 | 2 | 3 => decide
    | n + 4 => simp [cellBytes]
  have hbody : latRes ar k old (.fillV v) = fillRes 8 (cellBytes ar.size == 8 || cellBytes ar.size == 32) k old v (2 ^ 32 - 1) := by
    simp only [latRes, h8, List.take_of_length_le hv.le]
  rw [latRes_fillM h8 hv, hbody]
  by_cases h : ar.size = 0 ∨ ar.size = 2
  · rw [if_pos h, hsize.mpr h]
  · rw [if_neg h, Bool.eq_false_iff.mpr fun hc => h (hsize.mp hc)]
    exact fillRes_refused (.inr rfl) k

/-- A whole fill of an 8-byte cell, with the value that the cell holds compared. -/
theorem fill_word {v w : Word} (h8 : ar.kind = 8) (hsize : ar.size = 0) (k : Fin 8) :
    latRes ar k (bytesOf 8 w.toNat) (.fill v) = fillRes 8 true k (bytesOf 8 w.toNat) (bytesOf 8 v.toNat) (2 ^ 32 - 1) ∧
    (maskWords (2 ^ 32 - 1) (bytesOf 8 v.toNat) (bytesOf 8 w.toNat) = bytesOf 8 w.toNat ↔ v = w) ∧
    maskWords (2 ^ 32 - 1) (bytesOf 8 v.toNat) (List.replicate (bytesOf 8 w.toNat).length 0) = bytesOf 8 v.toNat := by
  refine ⟨latRes_fill h8 (by rw [hsize]; rfl), ?_, maskWords_whole (length_bytesOf ..) (List.length_replicate.trans (length_bytesOf ..))⟩
  rw [maskWords_whole (length_bytesOf ..) (length_bytesOf ..)]
  refine ⟨fun h => BitVec.eq_of_toNat_eq ?_, fun h => h ▸ rfl⟩
  rw [← natOf_word v, h, natOf_word]

end Fill

/-! ## Trigger sets and statuses (R50, R51, Table 2.6) -/

section Status

theorem cellBytes_eq_8_iff (n : Nat) : cellBytes n = 8 ↔ n = 0 := by
  match n with
  | 0 | 1 | 2 | 3 => decide
  | n + 4 => simp [cellBytes]

theorem cellBytes_eq_32_iff (n : Nat) : cellBytes n = 32 ↔ n = 2 := by
  match n with
  | 0 | 1 | 2 | 3 => decide
  | n + 4 => simp [cellBytes]

theorem trigOk_iff (ar : Arena) (u : Trig) : trigOk ar u = true ↔ admits ar u := by
  obtain ⟨kind, vals, maskBytes⟩ := u
  cases kind with
  | frozen => simp [trigOk, admits]
  | filled => simp [trigOk, admits]
  | mask =>
    by_cases h2 : ar.size = 2
    · simp [trigOk, admits, h2, cellBytes]
    · simp [trigOk, admits, h2, cellBytes_eq_32_iff]
  | val =>
    by_cases h6 : ar.kind = 6
    · simp [trigOk, admits, h6]
    · by_cases h8 : ar.kind = 8
      · simp [trigOk, admits, h8, cellBytes_eq_8_iff, and_assoc]
      · simp only [trigOk, admits, h6, h8, if_false, Bool.and_eq_true, beq_iff_eq, Bool.not_eq_true', Bool.and_eq_false_iff, ne_eq, not_false_iff, true_and]
        simp only [Bool.or_eq_false_iff, beq_eq_false_iff_ne, List.any_eq_false, isNan_iff, isNaN, not_lt]
        refine and_congr_right fun _ => ⟨fun h hfp => h.resolve_left (by tauto), fun h => ?_⟩
        by_cases hfp : ar.kind = 4 ∨ ar.kind = 5
        · exact .inr (h hfp)
        · exact .inl (by tauto)

theorem frozenCode_iff (k : Fin 8) : frozenCode k = true ↔ k = 2 ∨ k = 3 := by simp [frozenCode]
theorem filledCode_iff (k : Fin 8) : filledCode k = true ↔ k = 1 ∨ k = 3 := by simp [filledCode]

variable {ar : Arena} {k : Fin 8} {bs : List Byte}

theorem status_conflict (ar : Arena) (bs : List Byte) (u : Trig) : firstStatus ar 4 bs u = some 5 := by
  simp only [firstStatus, if_true]
  rfl

/-- A value trigger of a chain, COUNT or ESUM cell. -/
theorem status_val (hk : k ≠ 4) (h8 : ar.kind ≠ 8) (t : Word) (p : Prop) [Decidable p] (hp : passedVal ar.kind (natOf bs) t = true ↔ p) :
    firstStatus ar k bs ⟨.val, [t], []⟩ = if p then some 0 else if k = 2 ∨ k = 3 then some 4 else none := by
  simp only [firstStatus, hk, h8, if_false, reduceCtorEq, false_and, and_false, List.findIdx?_cons, List.findIdx?_nil, frozenCode_iff]
  by_cases h : p
  · rw [if_pos h, if_pos (hp.mpr h)]
    rfl
  · rw [if_neg h, if_neg fun hc => h (hp.mp hc)]
    rfl

/-- A mask trigger of a UNION cell. -/
theorem status_mask (hk : k ≠ 4) (us : List Word) (mb : List Byte) (m : Nat) (hm : trigMask (cellBytes ar.size) ⟨.mask, us, mb⟩ = m) :
    firstStatus ar k bs ⟨.mask, us, mb⟩ = if Nat.land m (natOf bs) = m then some 0 else if k = 2 ∨ k = 3 then some 4 else none := by
  simp only [firstStatus, hk, hm, if_false, reduceCtorEq, false_and, frozenCode_iff]
  by_cases h : Nat.land m (natOf bs) = m
  · rw [if_pos h, if_pos h]
    rfl
  · rw [if_neg h, if_neg h]
    rfl

theorem trigMask_narrow (h : ar.size ≤ 3) (us : List Word) (mb : List Byte) :
    trigMask (cellBytes ar.size) ⟨.mask, us, mb⟩ = natOf (us.flatMap fun v => bytesOf 8 v.toNat) := by
  refine if_neg ?_
  match ar.size, h with
  | 0, _ | 1, _ | 2, _ | 3, _ => decide

theorem trigMask_wide (h : ar.size = 4) (us : List Word) (mb : List Byte) : trigMask (cellBytes ar.size) ⟨.mask, us, mb⟩ = natOf mb := by
  rw [h]
  exact if_pos rfl

/-- The value triggers of a FILL cell: the first one equal to the cell's value. -/
theorem status_fill_val (hk : k ≠ 4) (h8 : ar.kind = 8) (c : Word) (us : List Word) :
    firstStatus ar k (bytesOf 8 c.toNat) ⟨.val, us, []⟩ =
      if k = 1 ∨ k = 3 then (if c ∈ us then some (BitVec.ofNat 64 (16 * us.idxOf c)) else some 1) else if k = 2 then some 4 else none := by
  have hfirst : (us.findIdx? fun v => v.toNat == c.toNat) = if c ∈ us then some (us.idxOf c) else none := by
    have hp : (fun v : Word => v.toNat == c.toNat) = (· == c) := by
      funext v
      rw [Bool.eq_iff_iff, beq_iff_eq, beq_iff_eq, BitVec.toNat_inj]
    rw [hp, List.findIdx?_eq_guard_findIdx_lt, ← List.idxOf]
    by_cases hmem : c ∈ us
    · rw [if_pos hmem]
      exact Option.guard_eq_some_iff.mpr ⟨rfl, decide_eq_true (List.idxOf_lt_length_iff.mpr hmem)⟩
    · rw [if_neg hmem]
      exact Option.guard_eq_none_iff.mpr (decide_eq_false fun h => hmem (List.idxOf_lt_length_iff.mp h))
  simp only [firstStatus, hk, h8, natOf_word, if_false, if_true, reduceCtorEq, false_and, true_and, frozenCode_iff, filledCode_iff, hfirst]
  by_cases hfilled : k = 1 ∨ k = 3
  · simp only [if_pos hfilled]
    by_cases hmem : c ∈ us
    · simp only [if_pos hmem, statusWord, Nat.zero_add]
    · simp only [if_neg hmem]
      rfl
  · have hthree : k ≠ 3 := fun h => hfilled (.inr h)
    have hone : k ≠ 1 := fun h => hfilled (.inl h)
    simp only [hone, hthree, or_self, or_false, if_false]
    rfl

theorem status_filled (hk : k ≠ 4) (us : List Word) :
    firstStatus ar k bs ⟨.filled, us, []⟩ = if k = 1 ∨ k = 3 then some 2 else if k = 2 then some 4 else none := by
  simp only [firstStatus, hk, if_false, reduceCtorEq, false_and, true_and, frozenCode_iff, filledCode_iff]
  by_cases hfilled : k = 1 ∨ k = 3
  · rw [if_pos hfilled, if_pos hfilled]
    rfl
  · have hthree : k ≠ 3 := fun h => hfilled (.inr h)
    simp only [hthree, or_false]
    rfl

theorem status_frozen (hk : k ≠ 4) (us : List Word) : firstStatus ar k bs ⟨.frozen, us, []⟩ = if k = 2 ∨ k = 3 then some 3 else none := by
  simp only [firstStatus, hk, if_false, reduceCtorEq, false_and, true_and, frozenCode_iff]
  by_cases hfrozen : k = 2 ∨ k = 3
  · rw [if_pos hfrozen, if_pos hfrozen]
    rfl
  · rw [if_neg hfrozen, if_neg hfrozen, if_neg hfrozen]

end Status

/-- Settles O15: the joins, contributions, fills and statuses, each by its kind's lemma. -/
theorem cellValues : Obligations.CellValues := by
  unfold Obligations.CellValues
  refine ⟨⟨fun ar k bs x h6 hsize hlen hk => after_join_wide h6 hsize hlen hk, fun ar k bs t x h9 _ _ hk => ⟨esum_unbounded h9 hk, ?_⟩,
    fun ar k c x hsize hk => ?_⟩, ⟨fun ar old v mask h8 hold hv => ?_, fun ar v w h8 hsize => ?_⟩, fun ar k c t us => ?_⟩
  · intro sg n d hval hd
    obtain ⟨hout, hfull, hroom⟩ := esum_fin (bs := bs) (t := t) (x := x) h9 hk hval
    refine ⟨hout, hfull, fun hin hne => ?_⟩
    obtain ⟨hnear, htie⟩ := roundInt_rne (n := n * 2 ^ ar.fbits) sg hd _ _ rfl rfl
    exact ⟨_, hnear, htie, by rw [hroom hin hne, contributed_eq]⟩
  · obtain ⟨h0, h1, h2, h3, h6, h7, h4, h5⟩ := joins_of_word (c := c) (x := x) hsize hk
    exact ⟨h0, h1, h2, h3, h6, h7, h4, h5, fun hkind hnan => after_join_nan hkind hk hnan, fun hkind =>
      ⟨after_join_refused hkind _, join_refused hkind _⟩⟩
  · have hsize : v.length = cellBytes ar.size := hv.trans hold
    have hfill := latRes_fillM (ar := ar) (old := old) (v := v) (mask := mask) h8 hsize
    refine ⟨(hfill 0).trans ?_, (hfill 1).trans ?_, hfill 2, (hfill 3).trans ?_, hfill 4, latRes_fillV h8 hsize⟩
    · rw [fillRes_empty, maskWords_eq_mixed mask (hv.trans List.length_replicate.symm), mixed, List.length_replicate]
    · rw [fillRes_filled, maskWords_eq_mixed mask hv]
      rfl
    · rw [fillRes_frozenFilled, maskWords_eq_mixed mask hv]
      rfl
  · have hfill := fun k => (fill_word (ar := ar) (v := v) (w := w) h8 hsize k).1
    obtain ⟨-, hsame, hempty⟩ := fill_word (ar := ar) (v := v) (w := w) h8 hsize 0
    refine ⟨(hfill 0).trans ?_, (hfill 1).trans ?_, hfill 2, (hfill 3).trans ?_, hfill 4⟩
    · rw [fillRes_empty, hempty]
    · rw [fillRes_filled]
      simp only [hsame]
    · rw [fillRes_frozenFilled]
      simp only [hsame]
  · refine ⟨trigOk_iff ar, fun hk cell u => hk ▸ status_conflict ar cell u, ?_, ?_, ?_, ?_, ?_, ?_, ?_, ?_, ?_, ?_, ?_, ?_⟩
    · rintro hk (h | h) <;> refine status_val hk (by omega) t _ ?_ <;> simp [passedVal, h, natOf_word]
    · exact fun hk h => status_val hk (by omega) t _ (by simp [passedVal, h, natOf_word, toInt_eq_sext])
    · exact fun hk h => status_val hk (by omega) t _ (by simp [passedVal, h, natOf_word, toInt_eq_sext])
    · exact fun hk h => status_val hk (by omega) t _ (by simp [passedVal, h, natOf_word])
    · exact fun hk h => status_val hk (by omega) t _ (by simp [passedVal, h, natOf_word, totKey_le_iff])
    · exact fun hk h => status_val hk (by omega) t _ (by simp [passedVal, h, natOf_word, totKey_le_iff])
    · exact fun hk h cell => status_val hk (by omega) t _ (by rw [h]; exact decide_eq_true_iff)
    · exact fun hk _ hsize cell => status_mask hk us [] _ (trigMask_narrow hsize us [])
    · exact fun hk _ hsize cell mask => status_mask hk us mask _ (trigMask_wide hsize us mask)
    · exact fun hk h8 => status_fill_val hk h8 c us
    · exact fun hk _ => status_filled hk [t]
    · exact fun hk => status_frozen hk [t]

end Sys2Proof.CellVals

/-! # Virtual time, and the state of a task's thread (R216, R224 to R226) -/

namespace Sys2Proof.Vt
open Sys2Proof Sys2Proof.Machine Sys2Proof.Claims Sys2Proof.Reads Sys2Proof.Control

/-- With every reply in and no refusal queued, a synchronising instruction goes on (R196). -/
theorem sync_ok {s : State} {w : Who} (hp : (s.at w).posted = []) (hr : (s.at w).refused = []) : s.sync w = .ok () := by
  simp [State.sync, hp, hr]

/-- A park in a codelet is a trap on the instruction (R13). -/
theorem finish_park_codelet (s : State) (i : Instr) (p : ParkWhy) (h : (s.th s.who).codelet = true) :
    finish s.who i s (.error (.park p)) = trapped s i 0x0D (encodeWord i) := by
  have hc : (s.at s.who).th.codelet = true := h
  simp only [finish, hc, if_true]
  rfl

theorem bitAt_eq_decide (x i : Nat) : bitAt x i = decide (x / 2 ^ i % 2 = 1) := rfl

section VirtualTime

variable {s s1 : State}

theorem exec_vtset {a : Fin 32} {x : Word} (ho : open_ s (.vtset a)) (ha : s.readG s.who a = .ok (x, s1)) : exec (.vtset a) s =
    .next ((s1.updTh s.who fun t => { t with lvt := if t.lvt.toNat ≤ x.toNat then x else t.lvt }).retireVar s.who (.vtset a)) := by
  have hops : s.chkOps s.who (.vtset a) = .ok () := ho
  have hmax : ∀ l : Word, (if l.toNat < x.toNat then x else l) = if l.toNat ≤ x.toNat then x else l := fun l => by
    by_cases hlt : l.toNat < x.toNat
    · rw [if_pos hlt, if_pos hlt.le]
    · by_cases heq : l.toNat ≤ x.toNat
      · rw [if_neg hlt, if_pos heq, BitVec.eq_of_toNat_eq (le_antisymm heq (not_lt.mp hlt))]
      · rw [if_neg hlt, if_neg heq]
  change execVtset a s = _
  simp only [execVtset, issue_base, hops, ha, ok_bind, finish_ok, hmax]

theorem exec_gvtrd_top : exec (.gvtrd 31) s = trapped s (.gvtrd 31) 0x01 (encodeWord (.gvtrd 31)) := by
  change execGvtrd 31 s = _
  simp only [execGvtrd, issue_base, beq_self_eq_true, failIf_true, fail_bind, finish_fail, trapped]

theorem exec_gvtrd {d : Fin 32} (hd : d ≠ 31) (ho : open_ s (.gvtrd d)) (hfst : s.chkDst s.who d = .ok ())
    (hs1 : s1 = s.writeG s.who d (if (s.at s.who).launched then BitVec.ofNat 64 (s.gvtOf (s.at s.who).task.launch) else BitVec.allOnes 64))
    (hsnd : s1.chkDst s.who (d + 1) = .ok ()) : exec (.gvtrd d) s = .next ((s1.writeG s.who (d + 1)
      (if (s.at s.who).launched then BitVec.ofNat 64 (s.hznOf (s.at s.who).task.launch) else BitVec.allOnes 64)).retireVar s.who (.gvtrd d)) := by
  have hops : s.chkOps s.who (.gvtrd d) = .ok () := ho
  have hones : BitVec.ofNat 64 (2 ^ 64 - 1) = BitVec.allOnes 64 := rfl
  change execGvtrd d s = _
  simp only [execGvtrd, issue_base, beq_eq_false_iff_ne.2 hd, failIf_false, hops, State.putG, hfst, ok_bind]
  cases hl : (s.at s.who).launched <;> simp only [hl, if_true, if_false, Bool.false_eq_true] at hs1 ⊢ <;>
    simp only [hones, ← hs1, hsnd, ok_bind, finish_ok]

theorem clear_eq_false_iff (w : Who) : s.clear w = false ↔
    s.stopped (s.at w).task.launch = false ∧ (s.history w = true ∨ s.gvtOf (s.at w).task.launch ≤ (s.th w).lvt.toNat) := by
  rw [State.clear, Bool.or_eq_false_iff, Bool.and_eq_false_iff, Bool.not_eq_false', decide_eq_false_iff_not, not_lt]

theorem exec_cmtw (hp : (s.at s.who).posted = []) (hr : (s.at s.who).refused = []) : exec .cmtw s =
    .next (if (s.at s.who).isTask = true ∧ s.stopped (s.at s.who).task.launch = false ∧
        (s.history s.who = true ∨ s.gvtOf (s.at s.who).task.launch ≤ (s.th s.who).lvt.toNat)
      then s.waitBusy s.who .cmtw .history else s.retireVar s.who .cmtw) := by
  have hiff : ((s.at s.who).isTask && !s.clear s.who) = true ↔ (s.at s.who).isTask = true ∧ s.stopped (s.at s.who).task.launch = false ∧
      (s.history s.who = true ∨ s.gvtOf (s.at s.who).task.launch ≤ (s.th s.who).lvt.toNat) := by
    rw [Bool.and_eq_true, Bool.not_eq_true', clear_eq_false_iff]
  change execCmtw s = _
  simp only [execCmtw, issue_base, sync_ok hp hr, ok_bind, hiff]
  split
  · rw [finish_busy]
  · rw [finish_ok]

end VirtualTime

/-- Settles O19, instruction by instruction. -/
theorem virtualTimeResult : Obligations.VirtualTimeResult := by
  unfold Obligations.VirtualTimeResult
  refine fun s => ⟨fun a s1 x ho ha => exec_vtset ho ha, fun d => ⟨fun hd => hd ▸ exec_gvtrd_top, fun hd ho hfst => ?_⟩, fun hp hr => exec_cmtw hp hr⟩
  exact fun hsnd => exec_gvtrd hd ho hfst rfl hsnd

section TaskState

variable {s s1 : State}

theorem exec_widf {d : Fin 32} {n : Fin 6} (ho : open_ s (.widf d n)) (hd : s.chkDst s.who d = .ok ()) : exec (.widf d n) s =
    .next ((s.writeG s.who d (if nlev ((s.th s.who).widl.toNat % 2 ^ 36) ≤ n.val then 0
      else BitVec.ofNat 64 (widField ((s.th s.who).widl.toNat % 2 ^ 36) (s.at s.who).task.wid.toNat n.val))).retireVar s.who (.widf d n)) := by
  have hops : s.chkOps s.who (.widf d n) = .ok () := ho
  change execWidf d n s = _
  simp only [execWidf, issue_base, hops, State.putG, hd, ok_bind, finish_ok]
  rfl

theorem exec_mpin (n : Fin 2) : exec (.mpin n) s = .next ((s.updTh s.who fun t => { t with mpin := decide (n.val = 1) }).retireVar s.who (.mpin n)) := by
  have hpin : (n == 1) = decide (n.val = 1) := by revert n; decide
  change execMpin n s = _
  simp only [execMpin, issue_base, finish_ok, hpin]

theorem exec_twait {a : Fin 32} {t : Word} (ho : open_ s (.twait a)) (ha : s.readG s.who a = .ok (t, s1)) :
    exec (.twait a) s = finish s.who (.twait a) s (if t.toNat ≤ s1.gtime then .ok (s1.retireVar s.who (.twait a)) else .error (.park (.time t.toNat))) := by
  have hops : s.chkOps s.who (.twait a) = .ok () := ho
  change execTwait a s = _
  simp only [execTwait, issue_base, hops, ha, ok_bind]

variable {d a : Fin 32} {v : Word}

/-- MIGR: its tests in order (R225). -/
theorem exec_migr (ho : open_ s (.migr d a)) (hp : (s.at s.who).posted = []) (hr : (s.at s.who).refused = [])
    (ha : s.readG s.who a = .ok (v, s1)) (hd : s1.chkDst s.who d = .ok ()) :
    let byDie := v.toNat / 2 ^ 63 % 2 = 1
    let core := v.toNat % 2 ^ 11
    let die := if byDie then v.toNat % 8 else core / 192
    let dieset := ((s1.launch? (s1.at s.who).task.launch).map Launch.dieset).getD 0
    exec (.migr d a) s = .next (
      if (¬ byDie ∧ 1536 ≤ core) ∨ dieset / 2 ^ die % 2 = 0 then (s1.writeG s.who d 2).retireVar s.who (.migr d a)
      else if (if byDie then s.who.core / 192 = die else s.who.core = core) then (s1.writeG s.who d 0).retireVar s.who (.migr d a)
      else if (s1.th s.who).mpin = true ∨ (s1.th s.who).rcnt ≠ 0 ∨ (6 ≤ die ∧ 64 < stripBytes (s1.th s.who).vl) then
        (s1.writeG s.who d 1).retireVar s.who (.migr d a)
      else if (s1.history s.who = true ∨ ((s1.at s.who).st = .busy ∧ (s1.at s.who).busy = .history)) ∧ s1.clear s.who = false then
        s.waitBusy s.who (.migr d a) .history
      else ((s1.writeG s.who d 0).upd s.who fun x =>
        { x with st := .trap, out := none, epc := x.th.pc + 4, fromPark := false, insn := false,
                 migrTo := some (if byDie then 2048 + die else core) }).post [.derailleurMigration s.who.core s.who.slot]) := by
  obtain ⟨hbound, hcb⟩ := checks_of_open ho
  change execMigr d a s = _
  have hmod8 : bits v.toNat 2 0 = v.toNat % 8 := by simp [bits]
  have hcore : bits v.toNat 10 0 = v.toNat % 2 ^ 11 := by simp [bits]
  have hout : ∀ n k, bitAt n k = false ↔ n / 2 ^ k % 2 = 0 := fun n k => by
    rw [bitAt, beq_eq_false_iff_ne]
    omega
  simp only [execMigr, issue_base, hbound, hcb, sync_ok hp hr, ha, hd, ok_bind, hmod8, hcore, dieOf]
  by_cases hdie : v.toNat / 2 ^ 63 % 2 = 1
  all_goals
    have hb := bitAt_eq_decide v.toNat 63
    simp only [hdie, decide_true, decide_false] at hb
    simp only [State.th, hb, hdie, if_true, if_false, Bool.false_eq_true, Bool.not_true, Bool.not_false, Bool.false_and, Bool.true_and, Bool.false_or, Bool.or_eq_true, Bool.and_eq_true,
      Bool.not_eq_true', decide_eq_true_eq, beq_iff_eq, bne_iff_ne, hout, or_assoc, not_true, not_false_iff, true_and, false_and, false_or]
    split
    · rfl
    · split
      · rfl
      · split
        · rfl
        · split <;> rfl

end TaskState

/-- Settles O22, instruction by instruction; MIGR by the order of its tests. -/
theorem taskStateResult : Obligations.TaskStateResult := by
  unfold Obligations.TaskStateResult
  refine fun s => ⟨fun d n => exec_widf, exec_mpin, fun d a s1 v ho hp hr ha hd => ?_, fun a s1 t ho ha => ?_⟩
  · rw [exec_migr ho hp hr ha hd]
    refine ⟨fun hout => ?_, fun hout hhere => ?_, fun hout hhere hstays => ?_, fun hout hhere hstays hwaits => ?_, fun hout hhere hstays hwaits => ?_⟩
    · rw [if_pos hout]
    · rw [if_neg hout, if_pos hhere]
    · rw [if_neg hout, if_neg hhere, if_pos hstays]
    · rw [if_neg hout, if_neg hhere, if_neg hstays, if_pos hwaits]
    · rw [if_neg hout, if_neg hhere, if_neg hstays, if_neg hwaits]
  · rw [exec_twait ho ha]
    refine ⟨fun hdue => ?_, fun hlate hc => ?_, fun hlate hc => ?_⟩
    · rw [if_pos hdue, finish_ok]
    · rw [if_neg (not_le.mpr hlate), finish_park _ _ _ _ hc]
    · rw [if_neg (not_le.mpr hlate), finish_park_codelet _ _ _ hc]

end Sys2Proof.Vt

/-! # The end of a thread, YIELD, the barrier, and the system slot's return (R61, R97, R196, R220 to R222, R230, R294) -/

namespace Sys2Proof.Tasks
open Sys2Proof Sys2Proof.Machine Sys2Proof.Claims Sys2Proof.Reads Sys2Proof.Vt

/-! ## Updates of one slot and of one task -/

theorem put_put {α : Type} (t : Tbl α) (k : Nat) (v v' : α) : (t.put k v).put k v' = t.put k v' := by
  induction t with
  | nil => simp [Tbl.put]
  | cons kv t ih =>
    obtain ⟨j, u⟩ := kv
    by_cases hj : j = k
    · simp [Tbl.put, hj]
    · by_cases hlt : k < j
      · simp [Tbl.put, hj, hlt]
      · simp only [Tbl.put, hj, hlt, if_false, ih]

theorem updCore_updCore (s : State) (c : Nat) (f g : Core → Core) : (s.updCore c f).updCore c g = s.updCore c fun k => g (f k) := by
  rw [State.updCore, State.core_updCore_same, State.updCore, State.setCore, State.updCore, State.setCore]
  exact congrArg (fun cores => { s with cores := cores }) (put_put ..)

theorem upd_upd (s : State) (w : Who) (f g : Slot → Slot) : (s.upd w f).upd w g = s.upd w fun x => g (f x) := by
  have hat : (s.upd w f).at w = f (s.at w) := State.at_upd_same ..
  have hset : ∀ x y : Slot, (s.setSlot w.core w.slot x).setSlot w.core w.slot y = s.setSlot w.core w.slot y := fun x y => by
    simp only [State.setSlot, updCore_updCore, Vector.set_set]
  calc (s.upd w f).upd w g = (s.upd w f).setSlot w.core w.slot (g ((s.upd w f).at w)) := rfl
    _ = (s.setSlot w.core w.slot (f (s.at w))).setSlot w.core w.slot (g (f (s.at w))) := by rw [hat]; rfl
    _ = s.upd w fun x => g (f x) := hset _ _

theorem find?_updFirst {α : Type} {p : α → Bool} {f : α → α} (hf : ∀ x, p x = true → p (f x) = true) (l : List α) :
    (updFirst p f l).find? p = (l.find? p).map f := by
  induction l with
  | nil => rfl
  | cons x xs ih =>
    cases hx : p x with
    | true => simp [updFirst, hx, hf x hx]
    | false => simp [updFirst, hx, ih]

theorem task?_updTask {s : State} {t : TaskId} {f : Task → Task} (hf : ∀ x, (f x).id = x.id) : (s.updTask t f).task? t = (s.task? t).map f :=
  find?_updFirst (fun x hx => by rw [hf]; exact hx) _

theorem of_task?_updTask {s : State} {t : TaskId} {f : Task → Task} {y : Task} (h : (s.updTask t f).task? t = some y) (hf : ∀ x, (f x).id = x.id) :
    ∃ x, s.task? t = some x ∧ f x = y := by
  rwa [task?_updTask hf, Option.map_eq_some_iff] at h

/-! ## ERET and WFI (R97, R230) -/

/-- A slot returned from TRAP, before what was held for it. -/
def returned (x : Slot) : Slot :=
  { x with st := .run, out := none, insn := false, fromPark := false, deferred := [], migrTo := none, th := { x.th with pc := x.epc } }

section Return

variable {s : State} {v : Who}

theorem resumeSlot_idle (h : (s.at v).st ≠ .trap) : s.resumeSlot v = s := by
  have hst : ((s.at v).st != .trap) = true := bne_iff_ne.mpr h
  simp only [State.resumeSlot, hst, if_true]

theorem resumeSlot_trap (h : (s.at v).st = .trap) : s.resumeSlot v =
    (if (s.at v).isTask then (s.upd v returned).release (s.at v).task else s.upd v returned).applyDeferred v (s.at v).deferred := by
  have hst : ((s.at v).st != .trap) = false := bne_eq_false_iff_eq.mpr h
  have hret : (s.returnTrap v).upd v (fun x => { x with deferred := [], migrTo := none }) = s.upd v returned := by
    rw [State.returnTrap, upd_upd]
    rfl
  simp only [State.resumeSlot, hst, if_false, Bool.false_eq_true, hret]

theorem release_of_hold {t : TaskId} {x : Task} (hx : s.task? t = some x) : s.release t = if x.hold = [] then s
    else (x.hold.foldl State.redeliver ((s.unwait t).1.updTask t fun y => { y with hold := [] })).rewait t (s.unwait t).2 := by
  simp only [State.release, hx, List.isEmpty_iff, State.releaseAfter]
  rfl

theorem release_quiet {t : TaskId} (h : ∀ x, s.task? t = some x → x.hold = []) : s.release t = s := by
  match hx : s.task? t with
  | none => simp only [State.release, hx]
  | some x => rw [release_of_hold hx, if_pos (h x hx)]

theorem exec_eret (hw : s.who.slot = 15) : exec .eret s =
    .next ((((if (s.core s.who.core).hslot = 15 then s else s.resumeSlot ⟨s.who.core, (s.core s.who.core).hslot⟩).grantDone s.who.core).updCore s.who.core
      fun k => { k with eie := true, started := true, scanAsid := none }).upd s.who
        fun x => { x with st := .run, out := none, th := { x.th with pc := (s.core s.who.core).srpc } }) := by
  change execEret s = _
  rw [execEret, issue_sys _ _ _ hw, finish_ok]

theorem exec_wfi (hw : s.who.slot = 15) : exec .wfi s =
    .next (if (s.core s.who.core).events = [] then s.waitBusy s.who .wfi .event else s.retireVar s.who .wfi) := by
  change execWfi s = _
  rw [execWfi, issue_sys _ _ _ hw]
  simp only [List.isEmpty_iff]
  split
  · rw [finish_busy]
  · rw [finish_ok]

end Return

/-- Settles O23, by what the slot that HSLOT names is left with. -/
theorem returnAndWait : Obligations.ReturnAndWait := by
  unfold Obligations.ReturnAndWait
  refine ⟨fun s hw => ⟨_, _, exec_eret hw, rfl, fun hno => ?_, fun h15 htrap hdef hhold => ?_, fun h15 htrap => ?_⟩,
    fun s hw => ⟨fun h => ?_, fun h => ?_⟩⟩
  · by_cases h15 : (s.core s.who.core).hslot = 15
    · rw [if_pos h15]
    · rw [if_neg h15, resumeSlot_idle (hno.resolve_left h15)]
  · have hquiet : ∀ x, (s.upd ⟨s.who.core, (s.core s.who.core).hslot⟩ returned).task? (s.at ⟨s.who.core, (s.core s.who.core).hslot⟩).task = some x →
        x.hold = [] := hhold
    rw [if_neg h15, resumeSlot_trap htrap, hdef, release_quiet hquiet, ite_self]
    change ((s.upd _ returned).at _).st = _ ∧ ((s.upd _ returned).th _).pc = _ ∧ ((s.upd _ returned).th _).g = _ ∧ ((s.upd _ returned).th _).p = _
    rw [State.th, State.at_upd_same]
    exact ⟨rfl, rfl, rfl, rfl⟩
  · rw [if_neg h15, resumeSlot_trap htrap]
    refine ⟨fun hno => ?_, fun hyes x hx => ?_⟩
    · rw [hno]
      rfl
    · have hx' : (s.upd ⟨s.who.core, (s.core s.who.core).hslot⟩ returned).task? (s.at ⟨s.who.core, (s.core s.who.core).hslot⟩).task = some x := hx
      rw [hyes, if_pos rfl, release_of_hold hx']
      rfl
  · rw [exec_wfi hw, if_neg h]
  · rw [exec_wfi hw, if_pos h]

end Sys2Proof.Tasks

/-! # The end of a thread, YIELD and the barrier (R61, R196, R220 to R222, R294) -/

namespace Sys2Proof.Ends
open Sys2Proof Sys2Proof.Machine Sys2Proof.Claims Sys2Proof.Reads Sys2Proof.Vt Sys2Proof.Tasks

/-! ## EXIT -/

section Exit

variable {s : State}

theorem exec_exit_replies (hp : (s.at s.who).posted ≠ []) : exec .exit s = .next (s.waitBusy s.who .exit (.replies true)) := by
  have hsync : s.sync s.who = .error (.busy (.replies true)) := by simp [State.sync, hp]
  change execExit s = _
  simp only [execExit, issue_base, hsync, error_bind, finish_busy]

theorem exec_exit (hp : (s.at s.who).posted = []) (hr : (s.at s.who).refused = []) : exec .exit s =
    .next (if s.history s.who = true ∧ s.stopped (s.at s.who).task.launch = false then s.waitBusy s.who .exit .history
      else if s.mxuBusy s.who = true then s.waitBusy s.who .exit .mxu
      else if s.who.slot = 14 then s.landingEnd s.who else s.endThread s.who) := by
  change execExit s = _
  simp only [execExit, issue_base, sync_ok hp hr, ok_bind, Bool.and_eq_true, Bool.not_eq_true']
  split
  · rfl
  · split <;> rfl

/-- A task that has exited, whatever is held for it. -/
def Exited (t : Task) : Prop := t.place = .exited ∧ t.inbox = [] ∧ t.epochs = []

theorem task?_deadLetter (s : State) (m : Msg) (id : TaskId) : (s.deadLetter m).task? id = s.task? id := rfl

theorem exited_orphan {id : TaskId} {m : Msg} (h : ∀ t, s.task? id = some t → Exited t) : ∀ t, (s.orphan id m).task? id = some t → Exited t := by
  intro t ht
  rw [State.orphan] at ht
  split at ht
  · obtain ⟨u, hu, rfl⟩ := of_task?_updTask ht fun _ => rfl
    exact h u hu
  · exact h t ht

theorem exited_orphans {id : TaskId} (ms : List Msg) (h : ∀ t, s.task? id = some t → Exited t) :
    ∀ t, (ms.foldl (fun s m => s.orphan id m) s).task? id = some t → Exited t := by
  induction ms generalizing s with
  | nil => exact h
  | cons m ms ih => exact ih (exited_orphan h)

theorem exited_exitTask {t : Task} : ∀ x, (s.exitTask t).task? t.id = some x → Exited x := by
  have hmarked : ∀ x, (s.updTask t.id fun x =>
      { x with place := .exited, inbox := [], notices := [], hold := [], epochs := [], refused := [], posted := [], deferred := [], area := none }).task? t.id =
        some x → Exited x := by
    intro x hx
    obtain ⟨u, -, rfl⟩ := of_task?_updTask hx fun _ => rfl
    exact ⟨rfl, rfl, rfl⟩
  intro x hx
  simp only [State.exitTask] at hx
  split at hx
  · exact hmarked x hx
  · exact exited_orphans _ hmarked x hx

theorem task?_freeArea (s : State) (n : Nat) (a : Option Nat) (id : TaskId) : (s.freeArea n a).task? id = s.task? id := by
  cases a <;> rfl

/-- The last step of a thread's end: its slot emptied, FREE posted for a user slot (R325, R373). -/
def vacate (s : State) (w : Who) (g : Option (Nat × Nat × Nat)) : State :=
  if w.slot.val < 14 then (s.upd w Slot.emptied).postFree w.core w.slot.val g else s.upd w Slot.emptied

/-- A thread ends: its task exits, its area returns to the pool, and its slot is emptied. -/
theorem endThread_eq (s : State) (w : Who) : s.endThread w = vacate ((match (s.unpark w).task? (s.at w).task with
    | some t => if (s.at w).isTask then (s.unpark w).exitTask t else s.unpark w
    | none => s.unpark w).freeArea (s.at w).task.launch (s.at w).area) w (s.grantOf w) := rfl

theorem task?_vacate (s : State) (w : Who) (g : Option (Nat × Nat × Nat)) (id : TaskId) : (vacate s w g).task? id = s.task? id := by
  rw [vacate]
  split <;> rfl

theorem slots_postFree (s : State) (c slot : Nat) (g : Option (Nat × Nat × Nat)) (c' : Nat) :
    ((s.postFree c slot g).core c').slots = (s.core c').slots := by
  simp only [State.postFree, State.postWake, State.postEvent, State.core_updCore]
  split
  · next h => subst h; rfl
  · rfl

theorem at_vacate (s : State) (w : Who) (g : Option (Nat × Nat × Nat)) : (vacate s w g).at w = (s.at w).emptied := by
  rw [vacate]
  split
  · exact (Frame.slot_of_slots (slots_postFree ..) w.slot).trans (State.at_upd_same ..)
  · exact State.at_upd_same ..

theorem st_endThread (s : State) (w : Who) : ((s.endThread w).at w).st = .empty := by
  rw [endThread_eq, at_vacate]
  rfl

theorem exited_endThread {w : Who} (hi : (s.at w).isTask = true) : ∀ t, (s.endThread w).task? (s.at w).task = some t → Exited t := by
  intro t ht
  rw [endThread_eq, task?_vacate, task?_freeArea, hi] at ht
  match hx : (s.unpark w).task? (s.at w).task with
  | none => simp [hx] at ht
  | some x =>
    have hfound : ((s.unpark w).tasks.find? fun y => y.id == (s.at w).task) = some x := hx
    have hid : x.id = (s.at w).task := by simpa using List.find?_some hfound
    simp only [hx, if_true] at ht
    exact exited_exitTask t (hid ▸ ht)

end Exit

/-! ### The landing handler (R61, R294) -/

section Landing

variable {s : State} {w : Who}

/-- What the end of a landing handler leaves of a core, its buffers as given. -/
theorem landingEnd_frame (t : State) (w : Who) :
    (((t.updCore w.core fun k => { k with landingCb := none }).upd w Slot.emptied).at w).st = .empty ∧
    (((t.updCore w.core fun k => { k with landingCb := none }).upd w Slot.emptied).core w.core).landingCb = none ∧
    ∀ n, ((t.updCore w.core fun k => { k with landingCb := none }).upd w Slot.emptied).cb w.core n = t.cb w.core n := by
  refine ⟨?_, ?_, fun n => ?_⟩
  · rw [State.at_upd_same]
    rfl
  · rw [State.core_upd]
    simp
  · rw [State.cb, State.core_upd]
    simp [State.cb]

theorem landingEnd_published {n : Fin 32} (h : (s.core w.core).landingCb = some (n, false)) :
    s.landingEnd w = ((s.updCb w.core n fun b => b.advP 1).updCore w.core fun k => { k with landingCb := none }).upd w Slot.emptied := by
  simp only [State.landingEnd, h]

theorem landingEnd_token {n : Fin 32} (h : (s.core w.core).landingCb = some (n, true)) :
    s.landingEnd w = (s.updCore w.core fun k => { k with landingCb := none }).upd w Slot.emptied := by
  simp only [State.landingEnd, h]

end Landing

/-! ## YIELD (R221) -/

section Yield

variable {s : State}

/-- Whether a queue entry is a task of a priority or higher, new or saved. -/
def goesFirst (prio : Nat) (e : QEntry) : Bool := decide (e.prio ≤ prio) && (match e.work with | .task .. | .saved => true | _ => false)

theorem goesFirst_iff (prio : Nat) (e : QEntry) :
    goesFirst prio e = true ↔ e.prio ≤ prio ∧ ((∃ x m v sp, e.work = .task x m v sp) ∨ e.work = .saved) := by
  rw [goesFirst, Bool.and_eq_true, decide_eq_true_iff]
  refine and_congr_right fun _ => ?_
  cases e.work <;> simp

theorem exec_yield_codelet (hc : (s.th s.who).codelet = true) : exec .yield s = trapped s .yield 0x0D (encodeWord .yield) := by
  have hc' : (s.at s.who).th.codelet = true := hc
  change execYield s = _
  simp only [execYield, issue_base, hc', failIf_true, fail_bind, finish_fail, trapped]

theorem exec_yield (hc : (s.th s.who).codelet = false) : exec .yield s =
    .next (if s.who.slot.val < 14 ∧ (∃ e ∈ (s.core s.who.core).runq, goesFirst (s.at s.who).prio e = true) ∧ (s.core s.who.core).blocked = false
      then (s.updTh s.who fun t => { t with pc := t.pc + 4 }).beginSave s.who 0 0 0 else s.retireVar s.who .yield) := by
  have hc' : (s.at s.who).th.codelet = false := hc
  change execYield s = _
  simp only [execYield, issue_base, hc', failIf_false, ok_bind, Bool.and_eq_true, decide_eq_true_iff, Bool.not_eq_true']
  have hany : (s.core s.who.core).runq.any (goesFirst (s.at s.who).prio) = true ↔
      ∃ e ∈ (s.core s.who.core).runq, goesFirst (s.at s.who).prio e = true := List.any_eq_true
  change finish _ _ _ (if (_ ∧ (s.core s.who.core).runq.any (goesFirst (s.at s.who).prio) = true) ∧ _ then _ else _) = _
  simp only [hany, and_assoc]
  split <;> rfl

end Yield

/-! ## GBAR (R222) -/

section Barrier

variable {s : State} {lv : Fin 6} {l : Launch} {t : Task}

theorem exec_gbar_illegal (hl : s.launch? (s.at s.who).task.launch = some l) (ht : s.task? (s.at s.who).task = some t)
    (h : nlev (hWidths l.h) ≤ lv.val ∨ (t.spawned = true ∧ (s.th s.who).codelet = false)) :
    exec (.gbar lv) s = trapped s (.gbar lv) 0x01 (encodeWord (.gbar lv)) := by
  have hbad : (decide (nlev (hWidths l.h) ≤ lv.val) || (t.spawned && !(s.at s.who).th.codelet)) = true := by
    simpa [State.th] using h
  change execGbar lv s = _
  simp only [execGbar, issue_base, hl, ht, hbad, failIf_true, fail_bind, finish_fail, trapped]

theorem level_ok {c : Bool} (hn : lv.val < nlev (hWidths l.h)) (h : t.spawned = false ∨ c = true) :
    (decide (nlev (hWidths l.h) ≤ lv.val) || (t.spawned && !c)) = false := by
  obtain h | h := h <;> simp [h, hn]

theorem exec_gbar_history (hl : s.launch? (s.at s.who).task.launch = some l) (ht : s.task? (s.at s.who).task = some t)
    (hn : lv.val < nlev (hWidths l.h)) (h : t.spawned = false ∨ (s.th s.who).codelet = true) (hh : s.history s.who = true) :
    exec (.gbar lv) s = trapped s (.gbar lv) 0x08 (encodeWord (.gbar lv)) := by
  have h' : t.spawned = false ∨ (s.at s.who).th.codelet = true := h
  change execGbar lv s = _
  simp only [execGbar, issue_base, hl, ht, level_ok hn h', hh, failIf_false, failIf_true, ok_bind, fail_bind, finish_fail, trapped]

theorem exec_gbar_codelet (hl : s.launch? (s.at s.who).task.launch = some l) (ht : s.task? (s.at s.who).task = some t)
    (hn : lv.val < nlev (hWidths l.h)) (hh : s.history s.who = false) (hc : (s.th s.who).codelet = true) :
    exec (.gbar lv) s = trapped s (.gbar lv) 0x0D (encodeWord (.gbar lv)) := by
  have hc' : (s.at s.who).th.codelet = true := hc
  change execGbar lv s = _
  simp only [execGbar, issue_base, hl, ht, level_ok hn (.inr rfl), hh, hc', failIf_false, failIf_true, ok_bind, fail_bind, finish_fail, trapped]

/-- The task's episode at a level, of the barrier it waits in or of the next. -/
def episodeOf (t : Task) (lv : Fin 6) : Nat := if t.pending[lv] then t.episode[lv] else (t.episode[lv] + 1) % 2 ^ 32

/-- The count of the group's cell after the task has joined it. -/
def countOf (t : Task) (l : Launch) (lv : Fin 6) (ix : Nat) : Nat :=
  if t.pending[lv] then l.barrierCount ix else min (l.barrierCount ix + 1) (2 ^ 64 - 1)

/-- The state in which the task has joined its episode, which it does once. -/
def joined (s : State) (t : Task) (l : Launch) (lv : Fin 6) (ix : Nat) : State :=
  if t.pending[lv] then s else (s.joinBarrier l.num ix (countOf t l lv ix)).updTask t.id fun y =>
    { y with episode := y.episode.set lv (episodeOf t lv), pending := y.pending.set lv true }

theorem exec_gbar (hl : s.launch? (s.at s.who).task.launch = some l) (ht : s.task? (s.at s.who).task = some t) (hn : lv.val < nlev (hWidths l.h))
    (hsp : t.spawned = false) (hh : s.history s.who = false) (hc : (s.th s.who).codelet = false) (hp : (s.at s.who).posted = [])
    (hr : (s.at s.who).refused = []) {ix goal count : Nat} (hix : ix = barrierIndex l.h (s.at s.who).task.wid.toNat lv.val)
    (hgoal : goal = episodeOf t lv * groupSize l.h lv.val) (hcount : count = countOf t l lv ix) : exec (.gbar lv) s =
      finish s.who (.gbar lv) s (if lv.val + 1 = nlev (hWidths l.h) then .ok (s.retireVar s.who (.gbar lv))
        else if goal ≤ count then .ok (((joined s t l lv ix).updTask t.id fun y => { y with pending := y.pending.set lv false }).retireVar s.who (.gbar lv))
        else match (joined s t l lv ix).addWaiter (barrierCell l.num ix) ⟨0, BitVec.ofNat 64 (barrierCell l.num ix).va, barrierTrig goal, 3, none, s.who.core,
            s.who.slot, (s.at s.who).task, (s.th s.who).pc, none⟩ with
          | some u => .error (.next (u.parkSlot s.who (.gbar lv) (.cell 3 0 (BitVec.ofNat 64 (barrierCell l.num ix).va) (barrierTrig goal))))
          | none => .error (.next ((joined s t l lv ix).waitBusy s.who (.gbar lv) .spill))) := by
  have hc' : (s.at s.who).th.codelet = false := hc
  subst hix hgoal hcount
  change execGbar lv s = _
  simp only [execGbar, issue_base, hl, ht, level_ok hn (.inl hsp), hh, hc', sync_ok hp hr, failIf_false, ok_bind]
  rfl

/-- Below its goal the count is awaited at the cell, as LWAIT awaits one (R222). -/
theorem exec_gbar_parks (hl : s.launch? (s.at s.who).task.launch = some l) (ht : s.task? (s.at s.who).task = some t) (hn : lv.val < nlev (hWidths l.h))
    (hsp : t.spawned = false) (hh : s.history s.who = false) (hc : (s.th s.who).codelet = false) (hp : (s.at s.who).posted = [])
    (hr : (s.at s.who).refused = []) (hlast : lv.val + 1 ≠ nlev (hWidths l.h)) {ix goal : Nat}
    (hix : ix = barrierIndex l.h (s.at s.who).task.wid.toNat lv.val) (hgoal : goal = episodeOf t lv * groupSize l.h lv.val)
    (hless : countOf t l lv ix < goal) {s2 : State} (hs2 : (joined s t l lv ix).addWaiter (barrierCell l.num ix)
      ⟨0, BitVec.ofNat 64 (barrierCell l.num ix).va, barrierTrig goal, 3, none, s.who.core, s.who.slot, (s.at s.who).task, (s.th s.who).pc, none⟩ = some s2) :
    exec (.gbar lv) s = .next (s2.parkSlot s.who (.gbar lv) (.cell 3 0 (BitVec.ofNat 64 (barrierCell l.num ix).va) (barrierTrig goal))) := by
  rw [exec_gbar hl ht hn hsp hh hc hp hr hix hgoal rfl, if_neg hlast, if_neg (not_le.mpr hless), hs2]
  rfl

end Barrier

/-- Settles O21: EXIT by what it waits for and ends, YIELD by the run queue, GBAR by the count of its group's cell. -/
theorem exitYieldAndBarrier : Obligations.ExitYieldAndBarrier := by
  unfold Obligations.ExitYieldAndBarrier
  refine ⟨fun s => ⟨exec_exit_replies, fun hp hr => ⟨fun hh hstop => ?_, fun hfree hm => ?_, fun hfree hm h14 => ⟨?_, st_endThread .., fun hi t ht =>
    exited_endThread hi t ht⟩⟩⟩, fun s n h14 hp hr hh hm => ⟨fun hcb => ?_, fun hcb => ?_⟩,
    fun s => ⟨exec_yield_codelet, fun hslot hc hbetter hfree => ?_, fun hc hno => ?_⟩,
    fun s lv l t hl ht => ⟨exec_gbar_illegal hl ht, fun hn h hh => exec_gbar_history hl ht hn h hh, fun hn hh hc => exec_gbar_codelet hl ht hn hh hc,
      fun hn hsp hh hc hp hr => ⟨fun hlast => ?_, fun hlast => ⟨fun hgoal => ?_, fun s2 hgoal hs2 => ?_⟩⟩⟩⟩
  · rw [exec_exit hp hr, if_pos ⟨hh, hstop⟩]
  · rw [exec_exit hp hr, if_neg (by rintro ⟨hh, hstop⟩; simp_all), if_pos hm]
  · rw [exec_exit hp hr, if_neg (by rintro ⟨hh, hstop⟩; simp_all), if_neg (by simp [hm]), if_neg h14]
  · obtain ⟨hst, hland, hcbs⟩ := landingEnd_frame (s.updCb s.who.core n fun b => b.advP 1) s.who
    have hcbn := (hcbs n).trans (Registers.cb_updCb_same ..)
    refine ⟨_, by rw [exec_exit hp hr, if_neg (by simp [hh]), if_neg (by simp [hm]), if_pos h14, landingEnd_published hcb], hst, hland, ?_, ?_⟩
    · rw [hcbn]
      rfl
    · rw [hcbn]
      rfl
  · obtain ⟨hst, hland, hcbs⟩ := landingEnd_frame s s.who
    exact ⟨_, by rw [exec_exit hp hr, if_neg (by simp [hh]), if_neg (by simp [hm]), if_pos h14, landingEnd_token hcb], hst, hland, hcbs n⟩
  · rw [exec_yield hc, if_pos ⟨hslot, by simpa only [goesFirst_iff] using hbetter, hfree⟩]
  · rw [exec_yield hc, if_neg]
    rintro ⟨hslot, hbetter, hfree⟩
    obtain h14 | hnone | hblocked := hno
    · omega
    · exact hnone (by simpa only [goesFirst_iff] using hbetter)
    · simp [hblocked] at hfree
  · rw [exec_gbar hl ht hn hsp hh hc hp hr rfl rfl rfl, if_pos hlast, finish_ok]
  · have hgoal' : episodeOf t lv * groupSize l.h lv.val ≤ countOf t l lv (barrierIndex l.h (s.at s.who).task.wid.toNat lv.val) := hgoal
    rw [exec_gbar hl ht hn hsp hh hc hp hr rfl rfl rfl, if_neg hlast, if_pos hgoal']
    rfl
  · exact exec_gbar_parks hl ht hn hsp hh hc hp hr hlast rfl rfl hgoal hs2

end Sys2Proof.Ends

/-! # Lattice instructions at their issuing core (R194 to R204, R209) -/

namespace Sys2Proof.LatIssue
open Sys2Proof Sys2Proof.Machine Sys2Proof.Claims Sys2Proof.Reads Sys2Proof.Control Sys2Proof.Vt

/-! ## The checks of an address (R194) -/

section Address

variable {va : Word}

theorem inLocal_iff (n : Nat) : inLocal n = true ↔ n / 2 ^ 48 % 64 = 63 ∧ n < 2 ^ 54 := by
  rw [inLocal, Bool.and_eq_true, decide_eq_true_iff, beq_iff_eq]
  rfl

theorem latAligned_ok (h : va.toNat % 8 = 0) : latAligned va = .ok () := by
  simp [latAligned, h]

theorem latAddress_ok (hhigh : va.toNat < 2 ^ 54) (hwin : va.toNat / 2 ^ 48 % 64 ≠ 63) : latAddress va = .ok () := by
  have hloc : inLocal va.toNat = false := Bool.eq_false_iff.mpr fun h => hwin ((inLocal_iff _).mp h).1
  have hle : decide (2 ^ 54 ≤ va.toNat) = false := decide_eq_false (not_le.mpr hhigh)
  rw [latAddress, hle, hloc]
  rfl

theorem latIssueCheck_ok (h : openAddr va) : latAligned va = .ok () ∧ latIssueCheck va = .ok () := by
  obtain ⟨halign, hhigh, hwin⟩ := h
  refine ⟨latAligned_ok halign, ?_⟩
  simp [latIssueCheck, halign, latAddress_ok hhigh hwin]

/-- The check that fails first, of an address that is aligned. -/
theorem latAddress_fault {code : Nat} (h : addrFault va = some code) (h5 : code ≠ 0x05) :
    va.toNat % 8 = 0 ∧ latAddress va = fail code va := by
  simp only [addrFault] at h
  split at h
  · exact absurd (Option.some.inj h).symm h5
  · next halign =>
    refine ⟨not_not.mp halign, ?_⟩
    split at h
    · next hhigh =>
      rw [latAddress, decide_eq_true hhigh, ← Option.some.inj h]
      rfl
    · next hhigh =>
      split at h
      · next hwin =>
        rw [latAddress, decide_eq_false hhigh, (inLocal_iff _).mpr ⟨hwin, not_le.mp hhigh⟩, ← Option.some.inj h]
        rfl
      · exact absurd h (by simp)

/-- Either the alignment check stops the instruction, or a later one. -/
theorem latIssueCheck_fault {code : Nat} (h : addrFault va = some code) :
    latAligned va = fail code va ∨ latAligned va = .ok () ∧ latIssueCheck va = fail code va := by
  by_cases halign : va.toNat % 8 = 0
  · have h5 : code ≠ 0x05 := by
      rintro rfl
      simp only [addrFault, halign, ne_eq, not_true, if_false] at h
      split at h
      · simp at h
      · split at h <;> simp at h
    refine .inr ⟨latAligned_ok halign, ?_⟩
    simp only [latIssueCheck, halign, bne_self_eq_false, failIf_false, ok_bind, (latAddress_fault h h5).2]
  · left
    simp only [addrFault, ne_eq, halign, not_false_iff, if_true, Option.some.injEq] at h
    simp only [latAligned, bne_iff_ne.mpr halign, failIf_true, h]

end Address

/-! ## Posting (R79, R194) -/

section Posting

variable {s s1 s2 : State} {i : Instr} {a : Fin 32} {va x : Word} {b : Option (Fin 32)} {rel : Bool} {op : State → Who → Word → M LatOp} {o : LatOp}

/-- An entry of the commit queue, where it has room. -/
theorem hold_ok {s0 : State} (act : CommitAct) (hroom : (s.core s.who.core).commitq.length < 64) : s0.hold s s.who i act = .ok (queued s act) := by
  simp only [State.hold, if_pos hroom]
  rfl

/-- Whose turn it is, and the colour in force, are as before. -/
def Same (s t : State) : Prop := t.who = s.who ∧ t.colour = s.colour

theorem Same.trans {s t u : State} (h : Same s t) (h' : Same t u) : Same s u := ⟨h'.1.trans h.1, h'.2.trans h.2⟩

theorem same_readG {n : Fin 32} {w : Who} (h : s.readG w n = .ok (x, s1)) : Same s s1 := by
  obtain rfl | ⟨p, rfl⟩ | ⟨c, k, q, rfl⟩ := readG_cases h <;> exact ⟨rfl, rfl⟩

theorem same_noteSpan (s : State) (w : Who) (l : Loc) (n : Nat) : Same s (s.noteSpan w l n) := by
  have hwords : ∀ (hs : List Nat) (t : State), Same t (t.noteWords w hs) := by
    intro hs
    induction hs with
    | nil => exact fun _ => ⟨rfl, rfl⟩
    | cons h hs ih => exact fun t => Same.trans (t := t.noteRemote w h) ⟨rfl, rfl⟩ (ih _)
  rw [State.noteSpan]
  split
  · exact hwords _ _
  · exact ⟨rfl, rfl⟩

theorem request_eq (hwho : s1.who = s.who) : request s1 o va = s1.latReq s.who o va := by
  rw [← hwho]
  rfl

theorem queued_eq (hwho : s1.who = s.who) (s0 : State) (act : CommitAct) (hroom : (s1.core s.who.core).commitq.length < 64) :
    s0.hold s1 s.who i act = .ok (queued s1 act) := by
  rw [← hwho] at hroom ⊢
  exact hold_ok act hroom

/-- A posted operation: held, waiting, or sent. -/
theorem posts_of_postLat (hsame : Same s s2) (h : exec i s = finish s.who i s (s.postLat s2 s.who i o va)) : Posts i s s2 o va := by
  obtain ⟨hwho, hcolour⟩ := hsame
  rw [Posts, request_eq hwho, h, ← hcolour]
  refine ⟨fun hh hroom => ?_, fun hh hfull => ?_, fun hh hroom => ?_⟩
  · simp only [State.postLat, hh, if_true, queued_eq hwho s _ hroom, ok_bind, finish_ok]
  · simp only [State.postLat, hh, Bool.false_eq_true, if_false, if_pos hfull, finish_busy]
  · simp only [State.postLat, hh, Bool.false_eq_true, if_false, if_neg (not_le.mpr hroom), finish_ok]
    rfl

/-- The part of a posted operation before its second operand. -/
theorem latPost_open (ho : open_ s i) (hsync : rel = true → (s.at s.who).posted = [] ∧ (s.at s.who).refused = [])
    (ha : s.readG s.who a = .ok (va, s1)) (haddr : openAddr va)
    (hb : (match b with | some b => s1.readG s.who b | none => .ok (0, s1)) = .ok (x, s2)) (hop : op s2 s.who x = .ok o) :
    latPost i a b rel op s = finish s.who i s (s.postLat s2 s.who i o va) := by
  obtain ⟨hbound, hcb⟩ := checks_of_open ho
  obtain ⟨halign, hcheck⟩ := latIssueCheck_ok haddr
  have hrel : rel = true → s.sync s.who = .ok () := fun h => sync_ok (hsync h).1 (hsync h).2
  cases b with
  | none =>
    cases hb
    cases rel with
    | false =>
      simp only [latPost, issue_base, hbound, hcb, ha, M.waitsAfter_ok, halign, hcheck, hop, ok_bind, if_false, Bool.false_eq_true]
    | true => simp only [latPost, issue_base, hbound, hcb, ha, M.waitsAfter_ok, halign, hcheck, hop, hrel, ok_bind, if_true]
  | some b =>
    have hread : s1.readG s.who b = .ok (x, s2) := hb
    cases rel with
    | false =>
      simp only [latPost, issue_base, hbound, hcb, ha, M.waitsAfter_ok, halign, hcheck, hread, hop, ok_bind, if_false, Bool.false_eq_true]
    | true => simp only [latPost, issue_base, hbound, hcb, ha, M.waitsAfter_ok, halign, hcheck, hread, hop, hrel, ok_bind, if_true]

theorem latPost_fault {code : Nat} (ho : open_ s i) (ha : s.readG s.who a = .ok (va, s1)) (h : addrFault va = some code) :
    latPost i a b false op s = trapped s i code va := by
  obtain ⟨hbound, hcb⟩ := checks_of_open ho
  obtain halign | ⟨halign, hcheck⟩ := latIssueCheck_fault h
  · simp only [latPost, issue_base, hbound, ha, M.waitsAfter_ok, halign, ok_bind, fail_bind, finish_fail, trapped, if_false, Bool.false_eq_true]
  · simp only [latPost, issue_base, hbound, hcb, ha, M.waitsAfter_ok, halign, hcheck, ok_bind, fail_bind, finish_fail, trapped, if_false,
      Bool.false_eq_true]

/-- The posted operations of two registers, each by its form. -/
theorem exec_latForm {f : (Fin 32 → Fin 32 → Instr) × (Word → LatOp)} (hf : f ∈ latForms) (s : State) (a b : Fin 32) :
    exec (f.1 a b) s = latPost (f.1 a b) a (some b) false (fun _ _ x => .ok (f.2 x)) s := by
  simp only [latForms, List.mem_cons, List.not_mem_nil, or_false] at hf
  obtain rfl | rfl | rfl | rfl | rfl := hf <;> rfl

theorem exec_lfillv (s : State) (a : Fin 32) (v : Fin 16) : exec (.lfillv a v) s =
    latPost (.lfillv a v) a none false (fun s w _ => .ok (.fillV (bytesOf 32 (s.readV w v)))) s := rfl

/-- A source of LFILLM that is open to it lies at an address of its own alignment. -/
theorem aligned_of_localSource {w : Who} {n k va : Nat} {l : Loc} (h : s.localSource w va n k = .ok l) : va % k = 0 := by
  obtain ⟨_, harea, -⟩ := bind_ok_iff.1 h
  obtain ⟨_, halign, -⟩ := bind_ok_iff.1 harea
  by_contra hne
  rw [bne_iff_ne.mpr hne] at halign
  exact absurd halign nofun

theorem exec_lfillm {b : Fin 32} {m : Fin 8} {y : Word} {c : Cell} {core off : Nat} (ho : open_ s (.lfillm a b m))
    (ha : s.readG s.who a = .ok (va, s1)) (hb : s1.readG s.who b = .ok (y, s2)) (haddr : openAddr va)
    (hc : s1.cellAt (s1.at s.who).asid va.toNat .lwrite = .ok c) (h8 : c.kind = 8)
    (hsrc : s2.localSource s.who y.toNat c.size (min c.size 32) = .ok (.loc core off)) :
    exec (.lfillm a b m) s = finish s.who (.lfillm a b m) s (s.postLat (s2.noteSpan s.who (.loc core off) c.size) s.who (.lfillm a b m)
      (.fillM (s2.lread core off c.size) (s2.readM s.who m)) va) := by
  obtain ⟨hbound, hcb⟩ := checks_of_open ho
  obtain ⟨halign, hcheck⟩ := latIssueCheck_ok haddr
  have hsize : s1.fillSize s.who va = c.size := by simp only [State.fillSize, hc, h8, if_true]
  have hy : (y.toNat % min c.size 32 != 0) = false := by rw [aligned_of_localSource hsrc]; rfl
  change execLfillm a b m s = _
  simp only [execLfillm, issue_base, hbound, hcb, ha, M.waitsAfter_ok, halign, hsize, hb, hy, failIf_false, hcheck, hsrc, ok_bind]
  rfl

end Posting

/-! ## Freezes (R203, R204) -/

section Freeze

variable {s s1 : State} {d a : Fin 32} {va : Word}

/-- A synchronising instruction waits for every reply, then takes the first refusal itself (R196). -/
theorem sync_replies (hp : (s.at s.who).posted ≠ []) : s.sync s.who = .error (.busy (.replies true)) := by
  simp [State.sync, hp]

theorem sync_refusal {r : Refused} {rest : List Refused} (hp : (s.at s.who).posted = []) (hr : (s.at s.who).refused = r :: rest) :
    s.sync s.who = .error (.next ((s.upd s.who fun x => { x with refused := rest, lfpc := r.pc }).takeTrap s.who r.code false 0 r.tval (s.th s.who).pc true)) := by
  simp [State.sync, hp, hr, State.takeRefusal]

/-- What LJOIN.R, LFRZ and LFRZA do where not every reply has come, or one was a refusal. -/
theorem exec_synchronising (e : Stop) (he : s.sync s.who = .error e) (b : Fin 32) :
    ∀ i ∈ [Instr.ljoinR a b, .lfrz d a, .lfrza a], open_ s i → exec i s = finish s.who i s (.error e) := by
  simp only [List.forall_mem_cons, List.not_mem_nil, false_implies, implies_true, and_true]
  refine ⟨fun ho => ?_, fun ho => ?_, fun ho => ?_⟩
  · change latPost (.ljoinR a b) a (some b) true (fun _ _ x => .ok (.join x)) s = _
    simp only [latPost, issue_base, (checks_of_open ho).1, he, ok_bind, error_bind, if_true]
  · change execLfrz d a s = _
    simp only [execLfrz, issue_base, (checks_of_open ho).1, he, ok_bind, error_bind]
  · have hops : s.chkOps s.who (.lfrza a) = .ok () := ho
    change execLfrza a s = _
    simp only [execLfrza, issue_base, hops, he, ok_bind, error_bind]

theorem exec_ljoinR {b : Fin 32} {x : Word} {s2 : State} (ho : open_ s (.ljoinR a b)) (hp : (s.at s.who).posted = [])
    (hr : (s.at s.who).refused = []) (ha : s.readG s.who a = .ok (va, s1)) (haddr : openAddr va) (hb : s1.readG s.who b = .ok (x, s2)) :
    exec (.ljoinR a b) s = finish s.who (.ljoinR a b) s (s.postLat s2 s.who (.ljoinR a b) (.join x) va) :=
  latPost_open (op := fun _ _ x => .ok (.join x)) ho (fun _ => ⟨hp, hr⟩) ha haddr (b := some b) hb rfl

theorem exec_lfrz (ho : open_ s (.lfrz d a)) (hp : (s.at s.who).posted = []) (hr : (s.at s.who).refused = [])
    (ha : s.readG s.who a = .ok (va, s1)) (haddr : openAddr va) (hd : s1.chkDst s.who d = .ok ()) : exec (.lfrz d a) s =
    finish s.who (.lfrz d a) s (if s1.history s.who then (do
        let t ← s.hold s1 s.who (.lfrz d a) (.lattice (s1.latReq s.who .frz va))
        .ok ((t.writeG s.who d 3).retireVar s.who (.lfrz d a)))
      else .error (.next (s.sendLat s.who (.lfrz d a) .frz va))) := by
  obtain ⟨hbound, hcb⟩ := checks_of_open ho
  obtain ⟨halign, hcheck⟩ := latIssueCheck_ok haddr
  change execLfrz d a s = _
  simp only [execLfrz, issue_base, hbound, hcb, sync_ok hp hr, ha, M.waitsAfter_ok, halign, hcheck, hd, ok_bind]

theorem exec_lfrz_fault {code : Nat} (ho : open_ s (.lfrz d a)) (hp : (s.at s.who).posted = []) (hr : (s.at s.who).refused = [])
    (ha : s.readG s.who a = .ok (va, s1)) (h : addrFault va = some code) : exec (.lfrz d a) s = trapped s (.lfrz d a) code va := by
  obtain ⟨hbound, hcb⟩ := checks_of_open ho
  change execLfrz d a s = _
  obtain halign | ⟨halign, hcheck⟩ := latIssueCheck_fault h
  · simp only [execLfrz, issue_base, hbound, sync_ok hp hr, ha, M.waitsAfter_ok, halign, ok_bind, fail_bind, finish_fail, trapped]
  · simp only [execLfrz, issue_base, hbound, hcb, sync_ok hp hr, ha, M.waitsAfter_ok, halign, hcheck, ok_bind, fail_bind, finish_fail, trapped]

theorem exec_lfrza (ho : open_ s (.lfrza a)) (hp : (s.at s.who).posted = []) (hr : (s.at s.who).refused = [])
    (ha : s.readG s.who a = .ok (va, s1)) : exec (.lfrza a) s = finish s.who (.lfrza a) s (do
      latAddress va
      if s1.history s.who then (do
        let t ← s.hold s1 s.who (.lfrza a) (.lattice (s1.latReq s.who .frza va))
        .ok (t.retireVar s.who (.lfrza a)))
      else .error (.next (s.sendLat s.who (.lfrza a) .frza va))) := by
  have hops : s.chkOps s.who (.lfrza a) = .ok () := ho
  change execLfrza a s = _
  simp only [execLfrza, issue_base, hops, sync_ok hp hr, ha, ok_bind]

end Freeze

/-! ## LSTAT (R209) -/

section Status

variable {s s1 : State} {d a : Fin 32} {va : Word} {c : Cell} {code : Fin 8} {bs : List Byte}

theorem exec_lstat {count : Nat} (hw : s.who.slot = 15) (ho : open_ s (.lstat d a)) (ha : s.readG s.who a = .ok (va, s1)) (haddr : openAddr va)
    (hd : s1.chkDst s.who d = .ok ()) (hscan : (s1.core s.who.core).scanAsid = none)
    (hcell : s1.barrierOver (s1.at s.who).asid va.toNat = none ∧ s1.cellAt (s1.at s.who).asid va.toNat .lread = .ok c ∧ s1.readCell c = .ok (code, bs) ∨
      s1.barrierOver (s1.at s.who).asid va.toNat = some (c, count) ∧ code = 0) : exec (.lstat d a) s =
    .next ((s1.writeG s.who d (BitVec.ofNat 64 (code.val + c.ar.kind * 2 ^ 8 +
      min (((s1.core c.x.home).waiters.filter fun y => y.asid == (s1.at s.who).asid && y.va == va).length +
        ((s1.core c.x.home).spilled.filter fun y => y.asid == (s1.at s.who).asid && y.va == va).length) 0xFFFF * 2 ^ 16))).retireVar s.who (.lstat d a)) := by
  have hops : s.chkOps s.who (.lstat d a) = .ok () := ho
  change execLstat d a s = _
  rw [execLstat, issue_sys _ _ _ hw]
  obtain ⟨hover, hc, hread⟩ | ⟨hover, rfl⟩ := hcell
  · simp only [hops, ha, (latIssueCheck_ok haddr).2, hd, ok_bind, hscan, Option.getD_none, Option.isSome_none, Bool.false_eq_true, if_false, hover, hc,
      hread, finish_ok]
    rfl
  · simp only [hops, ha, (latIssueCheck_ok haddr).2, hd, ok_bind, hscan, Option.getD_none, Option.isSome_none, Bool.false_eq_true, if_false, hover,
      finish_ok]
    rfl

end Status

/-- Settles O16: the posted operations by one body, the freezes by what they wait for, LSTAT by the cell found. -/
theorem latticeInstructions : Obligations.LatticeInstructions := by
  unfold Obligations.LatticeInstructions
  refine ⟨fun s a s1 va ha => ⟨fun f hf b s2 x ho hb => ⟨fun code h => ?_, fun haddr => ?_⟩, fun v ho => ⟨fun code h => ?_, fun haddr => ?_⟩,
    fun b m s2 y c core off ho hb haddr hc h8 hsrc => ?_⟩, fun s d a b => ⟨fun i hi ho => ⟨fun hp => ?_, fun r rest hp hr => ?_⟩,
    fun s1 s2 va x hp hr ha => ⟨fun haddr ho hb => ?_, fun haddr ho hd => ⟨fun hh hroom => ?_, fun hh => ?_⟩,
      ⟨fun code h h5 ho => ?_, fun code h ho => exec_lfrz_fault ho hp hr ha h⟩, fun hhigh hwin ho => ⟨fun hh hroom => ?_, fun hh => ?_⟩⟩⟩,
    fun s d a s1 va c code bs count hw ho ha haddr hd hscan hcell => ?_⟩
  · rw [exec_latForm hf, latPost_fault ho ha h]
  · exact posts_of_postLat ((same_readG ha).trans (same_readG hb)) ((exec_latForm hf s a b).trans
      (latPost_open ho nofun ha haddr hb rfl))
  · rw [exec_lfillv, latPost_fault ho ha h]
  · exact posts_of_postLat (same_readG ha) ((exec_lfillv s a v).trans (latPost_open (x := 0) ho nofun ha haddr rfl rfl))
  · exact posts_of_postLat (((same_readG ha).trans (same_readG hb)).trans (same_noteSpan ..)) (exec_lfillm ho ha hb haddr hc h8 hsrc)
  · rw [exec_synchronising _ (sync_replies hp) b i hi ho, finish_busy]
  · rw [exec_synchronising _ (sync_refusal hp hr) b i hi ho, finish_next]
  · exact posts_of_postLat ((same_readG ha).trans (same_readG hb)) (exec_ljoinR ho hp hr ha haddr hb)
  · have hwho := (same_readG ha).1
    rw [exec_lfrz ho hp hr ha haddr hd, hh, if_pos rfl, queued_eq hwho s _ hroom, request_eq hwho, ok_bind, finish_ok]
  · rw [exec_lfrz ho hp hr ha haddr hd, hh, if_neg (by decide), finish_next]
    rfl
  · obtain ⟨-, hfault⟩ := latAddress_fault h h5
    rw [exec_lfrza ho hp hr ha, hfault, fail_bind, finish_fail, trapped]
  · have hwho := (same_readG ha).1
    rw [exec_lfrza ho hp hr ha, latAddress_ok hhigh hwin, ok_bind, hh, if_pos rfl, queued_eq hwho s _ hroom, request_eq hwho, ok_bind, finish_ok]
  · rw [exec_lfrza ho hp hr ha, latAddress_ok hhigh hwin, ok_bind, hh, if_neg (by decide), finish_next]
    rfl
  · exact exec_lstat hw ho ha haddr hd hscan hcell

end Sys2Proof.LatIssue

/-! # Sending messages, and the choice of one to deliver (R66, R71, R78, R79, R210, R211, Table 3.2) -/

namespace Sys2Proof.Sending
open Sys2Proof Sys2Proof.Machine Sys2Proof.Claims Sys2Proof.Reads Sys2Proof.Control Sys2Proof.Vt Sys2Proof.LatIssue

/-! ## What a register read leaves of its thread -/

section Read

variable {s s1 : State} {w : Who} {n : Fin 32} {x : Word}

/-- A slot with other predicates. -/
def withP (p : BitVec 16) (y : Slot) : Slot := { y with th := { y.th with p := p } }

theorem at_readG (h : s.readG w n = .ok (x, s1)) (v : Who) : ∃ p, s1.at v = withP p (s.at v) := by
  obtain rfl | ⟨p, rfl⟩ | ⟨c, k, q, rfl⟩ := readG_cases h
  · exact ⟨(s1.at v).th.p, rfl⟩
  · by_cases hv : v.core = w.core ∧ v.slot = w.slot
    · obtain ⟨hc, hs⟩ := hv
      obtain rfl : v = w := by cases v; cases w; simp_all
      refine ⟨((s.th v).setP p true).p, ?_⟩
      rw [State.updTh, State.at_upd_same, withP, State.th, Thread.setP]
      split <;> rfl
    · exact ⟨(s.at v).th.p, Frame.slot_upd_other s w _ hv⟩
  · exact ⟨(s.at v).th.p, Frame.slot_updCore s c v.core _ v.slot rfl⟩

theorem tasks_readG (h : s.readG w n = .ok (x, s1)) : s1.tasks = s.tasks := by
  obtain rfl | ⟨p, rfl⟩ | ⟨c, k, q, rfl⟩ := readG_cases h <;> rfl

end Read

/-- What a send sees of its thread and its task: nothing that a register read changes. -/
structure Alike (w : Who) (s t : State) : Prop where
  same : Same s t
  slot : ∃ p, t.at w = withP p (s.at w)
  tasks : t.tasks = s.tasks
  queue : ∀ c, (t.core c).commitq = (s.core c).commitq

section Alike

variable {s t u : State} {w : Who} {n : Fin 32} {x : Word}

theorem Alike.refl (w : Who) (s : State) : Alike w s s := ⟨⟨rfl, rfl⟩, ⟨(s.at w).th.p, rfl⟩, rfl, fun _ => rfl⟩

theorem Alike.trans (h : Alike w s t) (h' : Alike w t u) : Alike w s u := by
  obtain ⟨p, hp⟩ := h.slot
  obtain ⟨p', hp'⟩ := h'.slot
  exact ⟨h.same.trans h'.same, ⟨p', by rw [hp', hp]; rfl⟩, h'.tasks.trans h.tasks, fun c => (h'.queue c).trans (h.queue c)⟩

theorem alike_readG (h : s.readG w n = .ok (x, t)) : Alike w s t :=
  ⟨same_readG h, at_readG h w, tasks_readG h, core_readG Core.commitq (fun _ _ => rfl) (fun _ _ => rfl) h⟩

theorem alike_readRun (k : Nat) : ∀ {s : State} {n : Fin 32} {vs : List Word}, s.readRun w n k = .ok (vs, t) → Alike w s t := by
  induction k with
  | zero =>
    intro s n vs h
    cases h
    exact .refl w _
  | succ k ih =>
    intro s n vs h
    obtain ⟨⟨x, s1⟩, hx, h⟩ := bind_ok_iff.1 h
    obtain ⟨⟨xs, s2⟩, hxs, h⟩ := bind_ok_iff.1 h
    cases h
    exact (alike_readG hx).trans (ih hxs)

theorem Alike.task (h : Alike w s t) : (t.at w).task = (s.at w).task := by
  obtain ⟨p, hp⟩ := h.slot
  rw [hp]
  rfl

theorem Alike.lvt (h : Alike w s t) : (t.th w).lvt = (s.th w).lvt := by
  obtain ⟨p, hp⟩ := h.slot
  rw [State.th, hp]
  rfl

theorem Alike.codelet (h : Alike w s t) : (t.th w).codelet = (s.th w).codelet := by
  obtain ⟨p, hp⟩ := h.slot
  rw [State.th, hp]
  rfl

theorem Alike.task? (h : Alike w s t) (id : TaskId) : t.task? id = s.task? id := by
  rw [State.task?, h.tasks]
  rfl

theorem Alike.isTask (h : Alike w s t) : (t.at w).isTask = (s.at w).isTask := by
  obtain ⟨p, hp⟩ := h.slot
  rw [hp]
  rfl

theorem Alike.spec (h : Alike w s t) : t.spec w = s.spec w := by
  rw [State.spec, h.isTask, h.task, State.speculative, h.task?]
  rfl

theorem Alike.history (h : Alike w s t) : t.history w = s.history w := by
  rw [State.history, h.isTask, h.task, State.speculative, h.task?, State.commits, h.queue]
  rfl

theorem Alike.nextSeq (h : Alike w s t) : nextSeq t w = nextSeq s w := by
  rw [Claims.nextSeq, h.task, h.task?]
  rfl

theorem logFull_iff (s : State) (w : Who) : s.logFull w = true ↔ logIsFull s w := by
  rw [State.logFull, logIsFull]
  cases s.task? (s.at w).task with
  | none => simp
  | some t => cases hlast : t.epochs.getLast? <;> simp [hlast]

theorem Alike.logFull (h : Alike w s t) : t.logFull w = s.logFull w := by
  rw [State.logFull, h.task, h.task?]
  rfl

end Alike

/-! ## Issue of a send (R66, R210, R211) -/

/-- A form's class (Table 8.6). -/
def classOf (form : Nat) : SendForm := match form with | 0 => .ord | 1 => .fifo | _ => .host

theorem classOf_ord {form : Nat} : (classOf form == .ord) = decide (form = 0) := by
  match form with
  | 0 | 1 | n + 2 => rfl

section Issue

variable {s s1 s2 s3 t : State} {i : Instr} {f : Nat} {d a b : Fin 32} {dest delay src : Word}

/-- Whether the checks of R66 and R211 refuse the operands that were read. -/
def refused (t : State) (w : Who) (delay : Word) (f : Nat) : Bool :=
  (delay == 0 || decide (2 ^ 64 - 2 < (t.th w).lvt.toNat + delay.toNat)) || nextSeq t w == 2 ^ 32 - 1 || (decide (f = 0) && (t.th w).codelet)

theorem refused_iff (w : Who) : refused t w delay f = true ↔ badSend t w delay ∨ f = 0 ∧ (t.th w).codelet = true := by
  simp only [refused, badSend, Bool.or_eq_true, Bool.and_eq_true, beq_iff_eq, decide_eq_true_iff, or_assoc]

theorem sendCheck_eq (h : Alike s.who s t) (f : Nat) : s.sendCheck s.who i (classOf f) (some delay) =
    failIf (refused t s.who delay f) 0x01 (encodeWord i) := by
  simp only [State.sendCheck, classOf_ord, refused, h.lvt, h.codelet, h.nextSeq]
  rfl

theorem sendCheck_bad (h : Alike s.who s t) (hbad : badSend t s.who delay ∨ f = 0 ∧ (t.th s.who).codelet = true) :
    s.sendCheck s.who i (classOf f) (some delay) = fail 0x01 (encodeWord i) := by
  rw [sendCheck_eq h, (refused_iff _).mpr hbad, failIf_true]

theorem sendCheck_good (h : Alike s.who s t) (hgood : ¬ badSend t s.who delay) (hcode : f = 0 → (t.th s.who).codelet = false) :
    s.sendCheck s.who i (classOf f) (some delay) = .ok () := by
  have hno : refused t s.who delay f = false := by
    rw [Bool.eq_false_iff, ne_eq, refused_iff]
    rintro (hbad | ⟨h0, hc⟩)
    · exact hgood hbad
    · rw [hcode h0] at hc
      exact absurd hc (by decide)
  rw [sendCheck_eq h, hno, failIf_false]

theorem sendSaved_full (h : Alike s.who s t) (ho : open_ s i) (hf : f = 0) (hspec : t.spec s.who = true) (hfull : logIsFull t s.who) :
    s.sendSaved s.who i (classOf f) = fail 0x08 (encodeWord i) := by
  have hlog : s.logFull s.who = true := by rw [← h.logFull, logFull_iff]; exact hfull
  simp only [State.sendSaved, (checks_of_open ho).1, classOf_ord, decide_eq_true hf, ← h.spec, hspec, hlog, Bool.and_self, failIf_true, ok_bind]

theorem sendSaved_ok (h : Alike s.who s t) (ho : open_ s i) (hroom : f = 0 → ¬ (t.spec s.who = true ∧ logIsFull t s.who)) :
    s.sendSaved s.who i (classOf f) = .ok () := by
  have hno : (decide (f = 0) && s.spec s.who && s.logFull s.who) = false := by
    rw [Bool.eq_false_iff]
    simp only [Bool.and_eq_true, decide_eq_true_iff, ne_eq]
    rintro ⟨⟨h0, hspec⟩, hfull⟩
    exact hroom h0 ⟨h.spec.trans hspec, (logFull_iff ..).mp (h.logFull.trans hfull)⟩
  simp only [State.sendSaved, (checks_of_open ho).1, classOf_ord, hno, failIf_false, ok_bind]

theorem delayOf_read (ha : s.readG s.who a = .ok (dest, s1)) (hb : s1.readG s.who b = .ok (delay, s2)) : s.delayOf s.who a b = some delay := by
  simp only [State.delayOf, ha, hb]

theorem read2_eq (ha : s.readG s.who a = .ok (dest, s1)) (hb : s1.readG s.who b = .ok (delay, s2)) :
    s.read2 s.who a b = .ok (dest, delay, s2) := by
  simp only [State.read2, ha, hb, ok_bind]

theorem at_queued (w : Who) (act : CommitAct) : (queued s act).at w = s.at w := Frame.slot_updCore s s.who.core w.core _ w.slot rfl

theorem nextSend_queued (w : Who) (act : CommitAct) : nextSend (queued s act) w =
    (queued s act).updTask (s.at w).task fun y => { y with seq := nextSeq s w + 1 } := by
  rw [nextSend, nextSeq, at_queued]
  rfl

/-- What an accepted send does, by its class. -/
theorem sends_of_send {payload : List Byte} (hsame : Same s t) (hf : f ≤ 2)
    (h : exec i s = finish s.who i s (s.send t s.who i (classOf f) dest delay.toNat payload)) : Sends i f s t dest delay.toNat payload := by
  rw [Sends, h]
  refine ⟨fun h0 hc hroom => ?_, fun h1 hh => ?_, fun h2 hh => ?_, fun h0 hh hroom => ?_⟩
  · subst h0
    cases hspec : t.spec s.who <;>
    · simp only [State.send, classOf, hspec, beq_self_eq_true, Bool.true_and, if_true, if_false, Bool.false_eq_true, finish_ok, message]
      rfl
  · subst h1
    simp only [State.send, classOf, hh, if_false, Bool.false_eq_true, finish_ok]
    rfl
  · subst h2
    simp only [State.send, classOf, hh, if_false, Bool.false_eq_true, finish_ok]
    rfl
  · obtain rfl | rfl : f = 1 ∨ f = 2 := by omega
    · simp only [State.send, classOf, hh, if_true, queued_eq hsame.1 s _ hroom, ok_bind, finish_ok, nextSend_queued]
      rfl
    · simp only [State.send, classOf, hh, if_true, queued_eq hsame.1 s _ hroom, ok_bind, finish_ok, nextSend_queued]
      rfl

/-- The sends of registers, each by its class. -/
theorem exec_sendForm {f : (Fin 32 → Fin 32 → Fin 32 → Instr) × Nat} (hf : f ∈ sendForms) (s : State) (d a b : Fin 32) :
    f.2 ≤ 2 ∧ exec (f.1 d a b) s = sendRegs (f.1 d a b) (classOf f.2) d a b s := by
  simp only [sendForms, List.mem_cons, List.not_mem_nil, or_false] at hf
  obtain rfl | rfl | rfl := hf <;> exact ⟨by decide, rfl⟩

theorem sendRegs_high (hd : 28 < d.val) : sendRegs i (classOf f) d a b s = trapped s i 0x01 (encodeWord i) := by
  simp only [sendRegs, issue_base, decide_eq_true hd, failIf_true, fail_bind, finish_fail, trapped]

section Regs

variable (hd : d.val ≤ 28) (ha : s.readG s.who a = .ok (dest, s1)) (hb : s1.readG s.who b = .ok (delay, s2))

include ha hb in
theorem alike_operands : Alike s.who s s2 := (alike_readG ha).trans (alike_readG hb)

include hd ha hb in
theorem sendRegs_bad (hbad : badSend s2 s.who delay ∨ f = 0 ∧ (s2.th s.who).codelet = true) :
    sendRegs i (classOf f) d a b s = trapped s i 0x01 (encodeWord i) := by
  simp only [sendRegs, issue_base, decide_eq_false (not_lt.mpr hd), failIf_false, delayOf_read ha hb, sendCheck_bad (alike_operands ha hb) hbad,
    ok_bind, fail_bind, finish_fail, trapped]

include hd ha hb in
theorem sendRegs_full (hgood : ¬ badSend s2 s.who delay) (ho : open_ s i) (h0 : f = 0) (hc : (s2.th s.who).codelet = false)
    (hspec : s2.spec s.who = true) (hfull : logIsFull s2 s.who) : sendRegs i (classOf f) d a b s = trapped s i 0x08 (encodeWord i) := by
  have halike := alike_operands ha hb
  simp only [sendRegs, issue_base, decide_eq_false (not_lt.mpr hd), failIf_false, delayOf_read ha hb, sendCheck_good halike hgood (fun _ => hc),
    sendSaved_full halike ho h0 hspec hfull, ok_bind, fail_bind, finish_fail, trapped]

include hd ha hb in
theorem sendRegs_ok {vs : List Word} (hgood : ¬ badSend s2 s.who delay) (ho : open_ s i) (hc : f = 0 → (s2.th s.who).codelet = false)
    (hroom : f = 0 → ¬ (s2.spec s.who = true ∧ logIsFull s2 s.who)) (hvs : s2.readRun s.who d 4 = .ok (vs, s3)) :
    sendRegs i (classOf f) d a b s =
      finish s.who i s (s.send s3 s.who i (classOf f) dest delay.toNat (vs.flatMap fun v => bytesOf 8 v.toNat)) := by
  have halike := alike_operands ha hb
  simp only [sendRegs, issue_base, decide_eq_false (not_lt.mpr hd), failIf_false, delayOf_read ha hb, sendCheck_good halike hgood hc,
    sendSaved_ok halike ho hroom, (checks_of_open ho).2, read2_eq ha hb, hvs, ok_bind]

end Regs

section Local

variable {n core off : Nat} (ha : s.readG s.who a = .ok (dest, s1)) (hb : s1.readG s.who b = .ok (delay, s2)) (hd : s2.readG s.who d = .ok (src, s3))

include ha hb hd in
theorem alike_operands3 : Alike s.who s s3 := (alike_operands ha hb).trans (alike_readG hd)

include ha hb hd in
theorem sendLocal_bad (hbad : badSend s3 s.who delay ∨ f = 0 ∧ (s3.th s.who).codelet = true) :
    sendLocal i (classOf f) d a b n s = trapped s i 0x01 (encodeWord i) := by
  simp only [sendLocal, issue_base, delayOf_read ha hb, sendCheck_bad (alike_operands3 ha hb hd) hbad, fail_bind, finish_fail, trapped]

include ha hb hd in
theorem sendLocal_ok (hgood : ¬ badSend s3 s.who delay) (ho : open_ s i) (hc : f = 0 → (s3.th s.who).codelet = false)
    (hroom : f = 0 → ¬ (s3.spec s.who = true ∧ logIsFull s3 s.who)) (hsrc : s3.localSource s.who src.toNat (32 * n) 32 = .ok (.loc core off)) :
    sendLocal i (classOf f) d a b n s = finish s.who i s
      (s.send (s3.noteSpan s.who (.loc core off) (32 * n)) s.who i (classOf f) dest delay.toNat (s3.lread core off (32 * n))) := by
  have halike := alike_operands3 ha hb hd
  have halign : (src.toNat % 32 != 0) = false := by rw [aligned_of_localSource hsrc]; rfl
  have hread : s.read3 s.who a b d = .ok (dest, delay, src, s3) := by simp only [State.read3, read2_eq ha hb, hd, ok_bind]
  simp only [sendLocal, issue_base, delayOf_read ha hb, sendCheck_good halike hgood hc, sendSaved_ok halike ho hroom, hread, M.waitsAfter_ok, halign,
    failIf_false, (checks_of_open ho).2, hsrc, ok_bind]
  rfl

end Local

end Issue

/-! ## The message delivered (R71, Table 3.2) -/

section Pick

variable {ms : List InMsg} {q : InMsg}

theorem key_lt_iff (a b : Key) : a.lt b = true ↔ a.vt < b.vt ∨ a.vt = b.vt ∧ (a.swid < b.swid ∨ a.swid = b.swid ∧ a.seq < b.seq) := by
  simp only [Key.lt, Bool.or_eq_true, Bool.and_eq_true, decide_eq_true_iff, beq_iff_eq]

theorem key_lt_of_lt_of_not_lt {a b c : Key} (h : a.lt b = true) (h' : c.lt b = false) : c.lt a = false := by
  rw [Bool.eq_false_iff, ne_eq, key_lt_iff] at h' ⊢
  rw [key_lt_iff] at h
  omega

/-- One step of the search for the least key. -/
def lesser (b : Option InMsg) (x : InMsg) : Option InMsg :=
  if x.msg.anti then b
  else match b with
    | none => some x
    | some y => if x.msg.key.lt y.msg.key then some x else b

theorem lesser_anti {x : InMsg} (h : x.msg.anti = true) (b : Option InMsg) : lesser b x = b := if_pos h
theorem lesser_none {x : InMsg} (h : ¬ x.msg.anti = true) : lesser none x = some x := if_neg h
theorem lesser_some {x : InMsg} (h : ¬ x.msg.anti = true) (y : InMsg) : lesser (some y) x = if x.msg.key.lt y.msg.key then some x else some y := if_neg h

theorem leastMsg_eq (ms : List InMsg) : leastMsg ms = ms.foldl lesser none := rfl

/-- The least message of those met so far. -/
def Least (ms : List InMsg) (b : Option InMsg) : Prop :=
  (∀ q, b = some q → q ∈ ms ∧ q.msg.anti = false ∧ ∀ x ∈ ms, x.msg.anti = false → x.msg.key.lt q.msg.key = false) ∧
  (b = none → ∀ x ∈ ms, x.msg.anti = true)

theorem key_not_lt_self (k : Key) : k.lt k = false := by
  rw [Bool.eq_false_iff, ne_eq, key_lt_iff]
  omega

theorem least_lesser {b : Option InMsg} (h : Least ms b) (x : InMsg) : Least (ms ++ [x]) (lesser b x) := by
  obtain ⟨hsome, hnone⟩ := h
  by_cases hx : x.msg.anti = true
  · rw [lesser_anti hx]
    refine ⟨fun q hq => ?_, fun hb y hy => ?_⟩
    · obtain ⟨hmem, hanti, hmin⟩ := hsome q hq
      refine ⟨List.mem_append_left _ hmem, hanti, fun y hy hya => ?_⟩
      obtain hy | hy := List.mem_append.mp hy
      · exact hmin y hy hya
      · rw [List.mem_singleton.mp hy, hx] at hya
        exact absurd hya (by decide)
    · obtain hy | hy := List.mem_append.mp hy
      · exact hnone hb y hy
      · rw [List.mem_singleton.mp hy, hx]
  · have hx' : x.msg.anti = false := Bool.eq_false_iff.mpr hx
    match b with
    | none =>
      rw [lesser_none hx]
      refine ⟨fun q hq => ?_, nofun⟩
      obtain rfl := Option.some.inj hq
      refine ⟨List.mem_append_right _ (List.mem_singleton_self _), hx', fun y hy hya => ?_⟩
      obtain hy | hy := List.mem_append.mp hy
      · rw [hnone rfl y hy] at hya
        exact absurd hya (by decide)
      · rw [List.mem_singleton.mp hy]
        exact key_not_lt_self _
    | some z =>
      rw [lesser_some hx]
      obtain ⟨hmem, hanti, hmin⟩ := hsome z rfl
      by_cases hlt : x.msg.key.lt z.msg.key = true
      · refine ⟨fun q hq => ?_, fun hb => absurd hb (by simp [hlt])⟩
        simp only [hlt, if_true, Option.some.injEq] at hq
        subst hq
        refine ⟨List.mem_append_right _ (List.mem_singleton_self _), hx', fun y hy hya => ?_⟩
        obtain hy | hy := List.mem_append.mp hy
        · exact key_lt_of_lt_of_not_lt hlt (hmin y hy hya)
        · rw [List.mem_singleton.mp hy]
          exact key_not_lt_self _
      · refine ⟨fun q hq => ?_, fun hb => absurd hb (by simp [hlt])⟩
        simp only [hlt, if_false, Bool.false_eq_true, Option.some.injEq] at hq
        subst hq
        refine ⟨List.mem_append_left _ hmem, hanti, fun y hy hya => ?_⟩
        obtain hy | hy := List.mem_append.mp hy
        · exact hmin y hy hya
        · rw [List.mem_singleton.mp hy]
          exact Bool.eq_false_iff.mpr hlt

theorem least_foldl (xs : List InMsg) : ∀ {ys : List InMsg} {b : Option InMsg}, Least ys b → Least (ys ++ xs) (xs.foldl lesser b) := by
  induction xs with
  | nil => exact fun h => (List.append_nil _).symm ▸ h
  | cons x xs ih =>
    intro ys b h
    have hstep := ih (least_lesser h x)
    rwa [List.append_assoc, List.singleton_append] at hstep

theorem least_leastMsg (ms : List InMsg) : Least ms (leastMsg ms) := by
  have hempty : Least [] none := ⟨nofun, fun _ _ h => absurd h List.not_mem_nil⟩
  exact leastMsg_eq ms ▸ least_foldl ms hempty

variable {gvt hzn win : Nat} {b : Bool}

theorem pick_fifo (h : pick .fifo gvt hzn win ms = some (q, b)) : b = false ∧ q.msg.anti = false ∧ q.msg.tent = false ∧
    ∃ before rest, ms = before ++ q :: rest ∧ ∀ x ∈ before, x.msg.anti = true ∨ x.msg.tent = true := by
  simp only [pick, Option.map_eq_some_iff, Prod.mk.injEq] at h
  obtain ⟨z, hz, rfl, rfl⟩ := h
  obtain ⟨hp, before, rest, hms, hall⟩ := List.find?_eq_some_iff_append.mp hz
  simp only [Bool.and_eq_true, Bool.not_eq_true'] at hp
  refine ⟨rfl, hp.1, hp.2, before, rest, hms, fun x hx => ?_⟩
  simpa [Bool.and_eq_false_iff, or_iff_not_imp_left] using hall x hx

theorem pick_fifo_none : pick .fifo gvt hzn win ms = none ↔ ∀ x ∈ ms, x.msg.anti = true ∨ x.msg.tent = true := by
  simp only [pick, Option.map_eq_none_iff, List.find?_eq_none]
  refine forall₂_congr fun x _ => ?_
  cases x.msg.anti <;> cases x.msg.tent <;> decide

theorem pick_key {mode : IMode} (hmode : mode ≠ .fifo) (h : pick mode gvt hzn win ms = some (q, b)) :
    leastMsg ms = some q ∧ (b = false → q.msg.vt < hzn) ∧
      (b = true → mode = .optimistic ∧ hzn ≤ q.msg.vt ∧ q.msg.vt ≤ gvt + win ∧ q.msg.vt ≤ 2 ^ 64 - 1) := by
  cases mode with
  | fifo => exact absurd rfl hmode
  | ordered =>
    simp only [pick, Option.bind_eq_some_iff] at h
    obtain ⟨z, hz, h⟩ := h
    split at h
    · next hvt =>
      cases h
      exact ⟨hz, fun _ => hvt, nofun⟩
    · cases h
  | optimistic =>
    simp only [pick, Option.bind_eq_some_iff] at h
    obtain ⟨z, hz, h⟩ := h
    split at h
    · next hvt =>
      cases h
      exact ⟨hz, fun _ => hvt, nofun⟩
    · next hvt =>
      split at h
      · next hwin =>
        cases h
        exact ⟨hz, nofun, fun _ => ⟨rfl, not_lt.mp hvt, by omega, by omega⟩⟩
      · cases h

theorem pick_ordered_none : pick .ordered gvt hzn win ms = none ↔
    ∀ x ∈ ms, x.msg.anti = false → ∃ y ∈ ms, y.msg.anti = false ∧ hzn ≤ y.msg.vt ∧ x.msg.key.lt y.msg.key = false := by
  obtain ⟨hsome, hnone⟩ := least_leastMsg ms
  match hleast : leastMsg ms with
  | none =>
    simp only [pick, hleast, Option.bind_none, true_iff]
    intro x hx hxa
    rw [hnone hleast x hx] at hxa
    exact absurd hxa (by decide)
  | some q =>
    obtain ⟨hmem, hanti, hmin⟩ := hsome q hleast
    simp only [pick, hleast, Option.bind_some]
    by_cases hvt : q.msg.vt < hzn
    · simp only [if_pos hvt, reduceCtorEq, false_iff, not_forall]
      refine ⟨q, hmem, hanti, ?_⟩
      rintro ⟨y, -, -, hhigh, hnot⟩
      rw [Bool.eq_false_iff, ne_eq, key_lt_iff] at hnot
      exact hnot (.inl (show q.msg.vt < y.msg.vt by omega))
    · simp only [if_neg hvt, true_iff]
      exact fun x hx hxa => ⟨q, hmem, hanti, not_lt.mp hvt, hmin x hx hxa⟩

end Pick

/-- Settles O17: the sends by one body for registers and one for local memory, the choice by the least key. -/
theorem sendAndDelivery : Obligations.SendAndDelivery := by
  unfold Obligations.SendAndDelivery
  refine ⟨fun s d a b s1 s2 dest delay ha hb => ⟨fun f hf => ?_, fun n s3 src core off f hf hd => ?_⟩,
    fun gvt hzn win ms => ⟨fun q b => pick_fifo, pick_fifo_none, fun mode q b hmode h => ?_, pick_ordered_none⟩⟩
  · obtain ⟨hform, hexec⟩ := exec_sendForm hf s d a b
    simp only [hexec]
    refine ⟨sendRegs_high, fun hd hbad => sendRegs_bad hd ha hb hbad, fun ho hd hgood h0 hc hspec hfull => sendRegs_full hd ha hb hgood ho h0 hc hspec hfull,
      fun vs s3 ho hd hgood hc hroom hvs => ?_⟩
    exact sends_of_send ((alike_operands ha hb).trans (alike_readRun 4 hvs)).same hform (hexec.trans (sendRegs_ok hd ha hb hgood ho hc hroom hvs))
  · have hform : f.2 ≤ 2 ∧ exec f.1 s = sendLocal f.1 (classOf f.2) d a b (n.val + 1) s := by
      simp only [List.mem_cons, List.not_mem_nil, or_false] at hf
      obtain rfl | rfl := hf
      · exact ⟨Nat.zero_le 2, rfl⟩
      · exact ⟨Nat.le_succ 1, rfl⟩
    obtain ⟨hle, hexec⟩ := hform
    refine ⟨fun hbad => hexec.trans (sendLocal_bad ha hb hd hbad), fun ho hgood hc hroom hsrc => ?_⟩
    exact sends_of_send ((alike_operands3 ha hb hd).same.trans (same_noteSpan ..)) hle (hexec.trans (sendLocal_ok ha hb hd hgood ho hc hroom hsrc))
  · obtain ⟨hleast, hcertain, hspec⟩ := pick_key hmode h
    obtain ⟨hmem, hanti, hmin⟩ := (least_leastMsg ms).1 q hleast
    exact ⟨hmem, hanti, hmin, hcertain, hspec⟩

end Sys2Proof.Sending

/-! # RECV, RECVP, RECV.N and RECVP.N (R69, R71, R75 to R77, R214) -/

namespace Sys2Proof.Receive
open Sys2Proof Sys2Proof.Machine Sys2Proof.Claims Sys2Proof.Reads Sys2Proof.Control Sys2Proof.Vt

/-- An instruction of a group that the die has, and that any slot may execute, is its body's outcome. -/
theorem issue_group {i : Instr} {g : Nat} {s : State} {body : Who → M State} (h : bitAt (dieCaps (dieOf s.who.core)) g = true) :
    issue i false g s body = finish s.who i s (body s.who) := by
  have hfate : fate s.who i false g s = .ok () := by simp [fate, h]
  rw [issue, hfate, ok_bind]

/-- The VTO group is on the K8 dies. -/
theorem bitAt_dieCaps_vto {c : Nat} (h : c < 1152) : bitAt (dieCaps (dieOf c)) 5 = true := by
  have hd : dieOf c < 6 := by rw [dieOf]; omega
  rw [dieCaps, if_pos hd]
  rfl

theorem recvGroup_ok {s : State} (h : (s.th s.who).imode = .optimistic → s.who.core < 1152) :
    bitAt (dieCaps (dieOf s.who.core)) s.recvGroup = true := by
  rw [State.recvGroup]
  split
  · next hopt => exact bitAt_dieCaps_vto (h hopt)
  · exact bitAt_dieCaps_base _

theorem exec_recvForm {f : (Fin 32 → Fin 32 → Instr) × Bool} (hf : f ∈ recvForms) {s : State} (d a : Fin 32)
    (h : (s.th s.who).imode = .optimistic → s.who.core < 1152) :
    exec (f.1 d a) s = finish s.who (f.1 d a) s (recvBody (f.1 d a) d a f.2 s.who s) := by
  simp only [recvForms, List.mem_cons, List.not_mem_nil, or_false] at hf
  obtain rfl | rfl := hf
  · exact issue_group (body := fun w => recvBody (.recv d a) d a false w s) (recvGroup_ok h)
  · exact issue_group (body := fun w => recvBody (.recvp d a) d a true w s) (recvGroup_ok h)

theorem exec_recvNForm {f : (Fin 32 → Fin 32 → Instr) × Bool} (hf : f ∈ recvNForms) (s : State) (d a : Fin 32) :
    exec (f.1 d a) s = finish s.who (f.1 d a) s (recvNBody (f.1 d a) d a f.2 s.who s) := by
  simp only [recvNForms, List.mem_cons, List.not_mem_nil, or_false] at hf
  obtain rfl | rfl := hf
  · exact issue_base (.recvN d a) s fun w => recvNBody (.recvN d a) d a false w s
  · exact issue_base (.recvpN d a) s fun w => recvNBody (.recvpN d a) d a true w s

section Body

variable {s s1 : State} {i : Instr} {d a : Fin 32} {va : Word} {core off : Nat} {t : Task} {poll : Bool}

/-- With nothing to deliver a poll writes zero and another form parks. -/
def nothingHere (i : Instr) (d : Fin 32) (poll : Bool) (why : ParkWhy) (w : Who) (s1 : State) : M State :=
  if poll then .ok ((s1.writeG w d 0).retireVar w i) else .error (.park why)

theorem finish_nothing (hc : (s.th s.who).codelet = false) (why : ParkWhy) : finish s.who i s (nothingHere i d poll why s.who s1) =
    .next (if poll then (s1.writeG s.who d 0).retireVar s.who i else s.parkSlot s.who i why) := by
  cases poll with
  | true => rfl
  | false => exact finish_park _ _ _ _ hc

theorem dequeueLvt_eq (mode : IMode) (lvt : Word) (vt : Nat) :
    dequeueLvt mode lvt vt = if mode = .fifo ∧ vt ≤ lvt.toNat then lvt else BitVec.ofNat 64 vt := by
  cases mode with
  | fifo =>
    by_cases h : lvt.toNat < vt
    · simp [dequeueLvt, h, not_le.mpr h]
    · simp [dequeueLvt, h, not_lt.mp h]
  | ordered => simp [dequeueLvt]
  | optimistic => simp [dequeueLvt]

theorem handOver_eq (s : State) (w : Who) (i : Instr) (d : Fin 32) (core off : Nat) (m : Msg) (lvt : Word) :
    s.handOver w i d (.loc core off) m lvt = delivered s w i d core off m lvt := rfl

/-- A task with one more epoch open (R75). -/
def openEpoch (e : Epoch) (y : Task) : Task := { y with epochs := y.epochs ++ [e] }

/-- RECV and RECVP once their operands are checked. -/
theorem recvBody_eq (hc : (s1.th s.who).codelet = false) (ho : open_ s i) (ha : s.readG s.who a = .ok (va, s1)) (halign : va.toNat % 32 = 0)
    (hd : s1.chkDst s.who d = .ok ()) (harea : areaOpen s1 s.who va core off) (ht : s1.task? (s1.at s.who).task = some t) :
    recvBody i d a poll s.who s =
      match pick t.imode (s1.gvtOf t.id.launch) (s1.hznOf t.id.launch) (s1.th s.who).vtwin.toNat t.inbox with
      | none => nothingHere i d poll .recv s.who s1
      | some (q, false) => .ok (delivered (((taken s1 t.id q).updTask t.id fun y => { y with epochs := [] }).refill s.who.core) s.who i d core off q.msg
          (dequeueLvt t.imode (s1.th s.who).lvt q.msg.vt))
      | some (q, true) => failIf (!s1.windowOk s.who || !inWindow (s1.th s.who) va.toNat 288) 0x08 (encodeWord i) >>= fun _ =>
        if s1.reserves s.who.core t (s1.th s.who).stwl.toNat then
          .ok (delivered ((taken s1 t.id q).updTask t.id (openEpoch ⟨q.msg, s.th s.who, [], [], t.lastKey, q.region⟩))
            s.who i d core off q.msg (dequeueLvt t.imode (s1.th s.who).lvt q.msg.vt))
        else nothingHere i d poll .recv s.who s1 := by
  obtain ⟨hbound, hcb⟩ := checks_of_open ho
  have hc' : (s1.at s.who).th.codelet = false := hc
  have hloc : s1.localArea s.who va.toNat 288 32 = .ok (.loc core off) := harea
  simp only [recvBody, hbound, hcb, ha, M.waitsAfter_ok, halign, bne_self_eq_false, failIf_false, hloc, hd, hc', ht, ok_bind, Bool.false_eq_true, if_false]
  rfl

/-- RECV.N and RECVP.N once their operands are checked. -/
theorem recvNBody_eq (hh : s.history s.who = false) (hc : (s1.th s.who).codelet = false) (ho : open_ s i) (ha : s.readG s.who a = .ok (va, s1))
    (halign : va.toNat % 32 = 0) (hd : s1.chkDst s.who d = .ok ()) (harea : areaOpen s1 s.who va core off)
    (ht : s1.task? (s1.at s.who).task = some t) :
    recvNBody i d a poll s.who s =
      match t.notices with
      | q :: rest => .ok (delivered ((s1.updTask (s1.at s.who).task fun y => { y with notices := rest }).refill s.who.core) s.who i d core off q.msg
          (s1.th s.who).lvt)
      | [] => nothingHere i d poll .recvN s.who s1 := by
  obtain ⟨hbound, hcb⟩ := checks_of_open ho
  have hc' : (s1.at s.who).th.codelet = false := hc
  have hloc : s1.localArea s.who va.toNat 288 32 = .ok (.loc core off) := harea
  simp only [recvNBody, hbound, hcb, hh, ha, M.waitsAfter_ok, halign, bne_self_eq_false, failIf_false, hloc, hd, hc', ht, ok_bind, Bool.false_eq_true,
    if_false, Option.map_some]
  cases t.notices <;> rfl

theorem recvN_history (hbound : s.chkBound s.who i = .ok ()) (hh : s.history s.who = true) :
    finish s.who i s (recvNBody i d a poll s.who s) = trapped s i 0x08 (encodeWord i) := by
  simp only [recvNBody, hbound, hh, failIf_true, ok_bind, fail_bind, finish_fail, trapped]

/-- A task with history takes the same fault on a bound register as on its notice (R64). -/
theorem recvN_trapped (hh : s.history s.who = true) : finish s.who i s (recvNBody i d a poll s.who s) = trapped s i 0x08 (encodeWord i) := by
  cases hn : s.namesBound s.who i with
  | false => exact recvN_history (State.chkBound_unbound _ _ _ hn) hh
  | true => simp only [recvNBody, State.chkBound, hh, hn, Bool.and_self, failIf_true, fail_bind, finish_fail, trapped]

end Body

/-- Settles O18, by what is chosen for delivery. -/
theorem receiveAndNotices : Obligations.ReceiveAndNotices := by
  unfold Obligations.ReceiveAndNotices
  refine ⟨fun f hf s d a s1 va core off t hopt hc ho ha halign hd harea ht => ?_,
    fun f hf s d a s1 va core off t => ⟨fun hh => ?_, fun hh ho hc ha halign hd harea ht => ?_⟩⟩
  · have hbody := (exec_recvForm hf d a hopt).trans
      (congrArg (finish s.who (f.1 d a) s) (recvBody_eq (poll := f.2) hc ho ha halign hd harea ht))
    refine ⟨fun hnone hcs => ?_, fun q hq => ?_, fun q hq hwin hin => ⟨fun hres => ?_, fun hres hcs => ?_⟩, fun q hq hout => ?_⟩
    · rw [hbody, hnone]
      exact finish_nothing hcs .recv
    · simp only [hbody, hq, dequeueLvt_eq]
      rfl
    · simp only [hbody, hq, dequeueLvt_eq, hwin, hin, hres, Bool.not_true, Bool.or_self, failIf_false, ok_bind, if_true, finish_ok]
      rfl
    · rw [hbody, hq]
      simp only [hwin, hin, hres, Bool.not_true, Bool.or_self, failIf_false, ok_bind, Bool.false_eq_true, if_false]
      exact finish_nothing hcs .recv
    · have hbad : (!s1.windowOk s.who || !inWindow (s1.th s.who) va.toNat 288) = true := by simpa using hout
      rw [hbody, hq]
      simp only [hbad, failIf_true, fail_bind, finish_fail, trapped]
  · rw [exec_recvNForm hf, recvN_trapped hh]
  · rw [exec_recvNForm hf, recvNBody_eq hh hc ho ha halign hd harea ht]
    refine ⟨fun q rest hq => ?_, fun hnone hcs => ?_⟩
    · rw [hq]
      rfl
    · rw [hnone]
      exact finish_nothing hcs .recvN

end Sys2Proof.Receive

/-! # Threshold reads and arming, at issue and at the home of the cell (R50 to R52, R205 to R208) -/

namespace Sys2Proof.Threshold
open Sys2Proof Sys2Proof.Machine Sys2Proof.Claims Sys2Proof.Reads Sys2Proof.Control Sys2Proof.Vt Sys2Proof.LatIssue

theorem checks_of_open' {s : State} {w : Who} {i : Instr} (ho : open_' s w i) : s.chkBound w i = .ok () ∧ s.chkCb w i = .ok () := by
  obtain ⟨_, hb, hc⟩ := bind_ok_iff.1 (show (s.chkBound w i >>= fun _ => s.chkCb w i) = .ok () from ho)
  exact ⟨hb, hc⟩

@[simp] theorem orEarlier_ok {α : Type} (x : M α) : M.orEarlier (.ok ()) x = .ok () := by
  cases x <;> rfl

theorem toHome_away (s : State) (w : Who) (i : Instr) (t : Option Trig) : s.toHome false w i t =
    .error (.next (((((t.map (s.noteMask w)).getD s).upd w fun x => { x with trig := t }).waitBusy w i .remote).post
      [.thresholdReadAtHome w.core w.slot])) := rfl

@[simp] theorem toHome_here (s : State) (w : Who) (i : Instr) (t : Option Trig) : s.toHome true w i t = .ok () := rfl

/-! ## At issue -/

section Issue

variable {s s1 : State} {d a b : Fin 32} {v : Fin 16} {n : Fin 4} {k : TrigK} {va : Word}

/-- What LWAIT and LARM send of their trigger set: what the issuing core has read of it, where the cell takes it. -/
def sentTrig (s1 : State) (w : Who) (va : Word) (b : Fin 32) (n : Fin 4) (k : TrigK) : Option Trig :=
  (s1.trigAt false w va b n k).toOption.map fun r => r.2.1

/-- What an instruction sends with its request. -/
def sentBy (i : Instr) (s1 : State) (w : Who) (va : Word) : Option Trig :=
  match i with
  | .lwait _ _ b n k => sentTrig s1 w va b n k
  | .larm _ _ b n k => sentTrig s1 w va b n k
  | _ => none

/-- The threshold reads and LARM, with the conditions under which LARM may be armed. -/
def Reads (i : Instr) (s : State) (d a b : Fin 32) (v : Fin 16) (n : Fin 4) (k : TrigK) : Prop :=
  i ∈ [Instr.lwait d a b n k, .lwaitf d a b, .lxrd d a, .lxrdv v a] ∨ i = .larm d a b n k ∧ s.history s.who = false ∧ d.val ≤ 29

/-- A threshold read whose address passes leaves for its home. -/
theorem exec_read {i : Instr} (hi : Reads i s d a b v n k) (ha : s.readG s.who a = .ok (va, s1)) (ho : open_ s i) (haddr : openAddr va) :
    exec i s = finish s.who i s (s.toHome false s.who i (sentBy i s1 s.who va) >>= fun _ => .error (.busy .remote)) := by
  obtain ⟨hbound, hcb⟩ := checks_of_open ho
  obtain ⟨halign, hcheck⟩ := latIssueCheck_ok haddr
  simp only [Reads, List.mem_cons, List.not_mem_nil, or_false] at hi
  obtain (rfl | rfl | rfl | rfl) | ⟨rfl, hh, hd⟩ := hi
  · change execLwait d a b n k s = _
    simp only [execLwait, issue_base, lwaitBody, hbound, hcb, ha, M.waitsAfter_ok, halign, hcheck, orEarlier_ok, ok_bind, toHome_away, error_bind]
    rfl
  · change execLwaitf d a b s = _
    simp only [execLwaitf, issue_base, lwaitfBody, hbound, hcb, ha, M.waitsAfter_ok, halign, hcheck, orEarlier_ok, ok_bind, toHome_away, error_bind]
    rfl
  · change execLxrd d a s = _
    simp only [execLxrd, issue_base, lxrd, lxrdBody, hbound, hcb, ha, M.waitsAfter_ok, halign, hcheck, orEarlier_ok, ok_bind, toHome_away, error_bind]
    rfl
  · change execLxrdv v a s = _
    simp only [execLxrdv, issue_base, lxrdv, lxrdBody, hbound, hcb, ha, M.waitsAfter_ok, halign, hcheck, orEarlier_ok, ok_bind, toHome_away, error_bind]
    rfl
  · change execLarm d a b n k s = _
    simp only [execLarm, issue_base, larmBody, decide_eq_false (not_lt.mpr hd), hh, failIf_false, hcb, ha, M.waitsAfter_ok, halign, hcheck, orEarlier_ok,
      ok_bind, toHome_away, error_bind]
    rfl

theorem exec_read_fault {i : Instr} {code : Nat} (hi : Reads i s d a b v n k) (ha : s.readG s.who a = .ok (va, s1)) (ho : open_ s i)
    (h : addrFault va = some code) : exec i s = trapped s i code va := by
  obtain ⟨hbound, hcb⟩ := checks_of_open ho
  simp only [Reads, List.mem_cons, List.not_mem_nil, or_false] at hi
  obtain halign | ⟨halign, hcheck⟩ := latIssueCheck_fault h
  · obtain (rfl | rfl | rfl | rfl) | ⟨rfl, hh, hd⟩ := hi
    · change execLwait d a b n k s = _
      simp only [execLwait, issue_base, lwaitBody, hbound, ha, M.waitsAfter_ok, halign, ok_bind, fail_bind, finish_fail, trapped]
    · change execLwaitf d a b s = _
      simp only [execLwaitf, issue_base, lwaitfBody, hbound, ha, M.waitsAfter_ok, halign, ok_bind, fail_bind, finish_fail, trapped]
    · change execLxrd d a s = _
      simp only [execLxrd, issue_base, lxrd, lxrdBody, hbound, ha, M.waitsAfter_ok, halign, ok_bind, fail_bind, finish_fail, trapped]
    · change execLxrdv v a s = _
      simp only [execLxrdv, issue_base, lxrdv, lxrdBody, hbound, ha, M.waitsAfter_ok, halign, ok_bind, fail_bind, finish_fail, trapped]
    · change execLarm d a b n k s = _
      simp only [execLarm, issue_base, larmBody, decide_eq_false (not_lt.mpr hd), hh, failIf_false, ha, M.waitsAfter_ok, halign, ok_bind, fail_bind,
        finish_fail, trapped]
  · obtain (rfl | rfl | rfl | rfl) | ⟨rfl, hh, hd⟩ := hi
    · change execLwait d a b n k s = _
      simp only [execLwait, issue_base, lwaitBody, hbound, hcb, ha, M.waitsAfter_ok, halign, hcheck, orEarlier_ok, ok_bind, fail_bind, finish_fail, trapped]
    · change execLwaitf d a b s = _
      simp only [execLwaitf, issue_base, lwaitfBody, hbound, hcb, ha, M.waitsAfter_ok, halign, hcheck, orEarlier_ok, ok_bind, fail_bind, finish_fail, trapped]
    · change execLxrd d a s = _
      simp only [execLxrd, issue_base, lxrd, lxrdBody, hbound, hcb, ha, M.waitsAfter_ok, halign, hcheck, orEarlier_ok, ok_bind, fail_bind, finish_fail, trapped]
    · change execLxrdv v a s = _
      simp only [execLxrdv, issue_base, lxrdv, lxrdBody, hbound, hcb, ha, M.waitsAfter_ok, halign, hcheck, orEarlier_ok, ok_bind, fail_bind, finish_fail, trapped]
    · change execLarm d a b n k s = _
      simp only [execLarm, issue_base, larmBody, decide_eq_false (not_lt.mpr hd), hh, failIf_false, hcb, ha, M.waitsAfter_ok, halign, hcheck, orEarlier_ok,
        ok_bind, fail_bind, finish_fail, trapped]

end Issue

/-! ## The cell and the trigger set -/

section Trigger

variable {s1 s2 : State} {w : Who} {b : Fin 32} {n : Fin 4} {k : TrigK} {va : Word} {c : Cell} {xs : List Word} {t : Trig} {ar : Arena}

/-- The values of a trigger operand, as the claims give them. -/
def Values (s1 s2 : State) (w : Who) (b : Fin 32) (n : Fin 4) (k : TrigK) (xs : List Word) : Prop :=
  if k = .frozen then xs = List.replicate (n.val + 1) 0 ∧ s2 = s1 else s1.readRun w b (n.val + 1) = .ok (xs, s2)

theorem trigVals_eq (h : Values s1 s2 w b n k xs) : s1.trigVals w b n k = .ok (xs, s2) := by
  rw [Values] at h
  rw [State.trigVals]
  split at h
  · next hk =>
    obtain ⟨rfl, rfl⟩ := h
    rw [if_pos hk]
  · next hk => rw [if_neg hk, h]

theorem tkindOf_eq (k : TrigK) : tkindOf k = match k with | .val => .val | .mask => .mask | .frozen => .frozen := rfl

theorem trigOf_sent (h : Triggers s2 w ar k xs t) : s2.trigOf false w ar k xs = .ok t := by
  unfold Triggers at h
  rw [State.trigOf]
  split at h
  · next hwide =>
    obtain ⟨core, off, hsrc, rfl⟩ := h
    rw [if_pos hwide]
    simp only [if_false, Bool.false_eq_true, hsrc, ok_bind]
    rfl
  · next hwide =>
    subst h
    rw [if_neg hwide]
    rfl

theorem trigOf_arrived (h : Arrived s2 w ar k xs t) : s2.trigOf true w ar k xs = .ok t := by
  unfold Arrived at h
  rw [State.trigOf]
  split at h
  · next hwide =>
    rw [if_pos hwide]
    simp only [if_true, h]
  · next hwide =>
    subst h
    rw [if_neg hwide]
    rfl

theorem trigAt_eq {here : Bool} (hc : s1.cellAt (s1.at w).asid va.toNat .lread = .ok c) (hxs : Values s1 s2 w b n k xs)
    (ht : s2.trigOf here w c.ar k xs = .ok t) : s1.trigAt here w va b n k = if trigOk c.ar t then .ok (c, t, s2) else fail 0x06 va := by
  simp only [State.trigAt, hc, trigVals_eq hxs, ht, ok_bind]
  cases trigOk c.ar t <;> rfl

theorem sentTrig_eq (hc : s1.cellAt (s1.at w).asid va.toNat .lread = .ok c) (hxs : Values s1 s2 w b n k xs) (ht : Triggers s2 w c.ar k xs t) :
    sentTrig s1 w va b n k = if trigOk c.ar t then some t else none := by
  rw [sentTrig, trigAt_eq hc hxs (trigOf_sent ht)]
  split <;> rfl

end Trigger

/-! ## At the home -/

section Home

variable {s s1 s2 : State} {w : Who} {i : Instr} {d a b : Fin 32} {v : Fin 16} {n : Fin 4} {k : TrigK} {va y : Word} {c : Cell} {code : Fin 8}
  {bs : List Byte} {t : Trig}

theorem fires_threshold (s : State) (w : Who) : fires (.thresholdReadAtHome w.core w.slot) s = s.thresholdRead w := rfl

theorem thresholdRead_busy (hst : (s.at w).st = .busy) (hb : (s.at w).busy = .remote) : s.thresholdRead w = match (s.at w).out with
    | some (.lwait d a b n k) => finish w (.lwait d a b n k) s (lwaitBody true d a b n k w s)
    | some (.lwaitf d a b) => finish w (.lwaitf d a b) s (lwaitfBody true d a b w s)
    | some (.larm d a b n k) => finish w (.larm d a b n k) s (larmBody true d a b n k w s)
    | some (.lxrd d a) => finish w (.lxrd d a) s (lxrd true d a w s)
    | some (.lxrdv v a) => finish w (.lxrdv v a) s (lxrdv true v a w s)
    | _ => .next s := by
  unfold State.thresholdRead
  exact if_pos ⟨hst, .inl hb⟩

/-- The last step at the home: completion with a status, or a waiter recorded. -/
def resolution (s : State) (w : Who) (i : Instr) (c : Cell) (code : Fin 8) (bs : List Byte) (kind : Nat) (t : Trig) (done : Word → State) : M State :=
  match firstStatus c.ar code bs t with
  | some st => .ok ((done st).retireVar w i)
  | none => s.parkOnCell w i c kind t

theorem atHome_of_resolution {kind : Nat} {done : Word → State} (hv : s.varies w i = true)
    (h : fires (.thresholdReadAtHome w.core w.slot) s = finish w i s (resolution s w i c code bs kind t done)) : AtHome s w i c code bs kind t done := by
  rw [AtHome, h]
  refine ⟨fun st hst => ?_, fun hnone => ⟨fun hc => ?_, fun s' hc hs' => ?_⟩⟩
  · simp only [resolution, hst, finish_ok]
  · have hc' : (s.at w).th.codelet = true := hc
    simp only [resolution, hnone, State.parkOnCell, hc', if_true, finish_fail, hv, Bool.or_true]
  · have hc' : (s.at w).th.codelet = false := hc
    have hs'' : s.addWaiter c ⟨c.ar.asid, BitVec.ofNat 64 c.va, t, kind, none, w.core, w.slot, (s.at w).task, (s.at w).th.pc, none⟩ = some s' := hs'
    simp only [resolution, hnone, State.parkOnCell, hc', if_false, Bool.false_eq_true, hs'', finish_next]

theorem varies_lwait (s : State) (w : Who) (d a b : Fin 32) (n : Fin 4) (k : TrigK) : s.varies w (.lwait d a b n k) = true := rfl
theorem varies_lwaitf (s : State) (w : Who) (d a b : Fin 32) : s.varies w (.lwaitf d a b) = true := rfl
theorem varies_lxrd (s : State) (w : Who) (d a : Fin 32) : s.varies w (.lxrd d a) = true := rfl
theorem varies_lxrdv (s : State) (w : Who) (v : Fin 16) (a : Fin 32) : s.varies w (.lxrdv v a) = true := rfl
theorem varies_larm (s : State) (w : Who) (d a b : Fin 32) (n : Fin 4) (k : TrigK) : s.varies w (.larm d a b n k) = true := rfl

section Lwait

variable {xs : List Word} (hst : (s.at w).st = .busy) (hb : (s.at w).busy = .remote) (hout : (s.at w).out = some (.lwait d a b n k))
  (ho : open_' s w (.lwait d a b n k)) (ha : s.readG w a = .ok (va, s1)) (haddr : openAddr va)
  (hc : s1.cellAt (s1.at w).asid va.toNat .lread = .ok c) (hxs : Values s1 s2 w b n k xs) (ht : Arrived s2 w c.ar k xs t)

include hst hb hout ho ha haddr hc hxs ht

theorem lwait_refused (hbad : ¬ admits c.ar t) :
    fires (.thresholdReadAtHome w.core w.slot) s = .next (s.takeTrap w 0x06 false 0 va (s.th w).pc true) := by
  obtain ⟨hbound, hcb⟩ := checks_of_open' ho
  obtain ⟨halign, hcheck⟩ := latIssueCheck_ok haddr
  have hread := trigAt_eq hc hxs (trigOf_arrived ht)
  rw [if_neg (fun h => hbad ((CellVals.trigOk_iff ..).mp h))] at hread
  rw [fires_threshold, thresholdRead_busy hst hb, hout]
  simp only [lwaitBody, hbound, hcb, ha, M.waitsAfter_ok, halign, hcheck, orEarlier_ok, ok_bind, toHome_here, hread, fail_bind, finish_fail, varies_lwait,
    Bool.or_true]

theorem lwait_atHome (hok : admits c.ar t) (hd : s2.chkDst w d = .ok ()) (hcell : s2.readCell c = .ok (code, bs)) :
    AtHome s w (.lwait d a b n k) c code bs 0 t fun st => (s2.metStatus w c st).writeG w d st := by
  obtain ⟨hbound, hcb⟩ := checks_of_open' ho
  obtain ⟨halign, hcheck⟩ := latIssueCheck_ok haddr
  have hread := trigAt_eq hc hxs (trigOf_arrived ht)
  rw [if_pos ((CellVals.trigOk_iff ..).mpr hok)] at hread
  refine atHome_of_resolution (varies_lwait ..) ?_
  rw [fires_threshold, thresholdRead_busy hst hb, hout]
  simp only [lwaitBody, hbound, hcb, ha, M.waitsAfter_ok, halign, hcheck, orEarlier_ok, ok_bind, toHome_here, hread, hd, hcell]
  rfl

end Lwait

theorem lwaitf_atHome {core off : Nat} (hst : (s.at w).st = .busy) (hb : (s.at w).busy = .remote) (hout : (s.at w).out = some (.lwaitf d a b))
    (ho : open_' s w (.lwaitf d a b)) (ha : s.readG w a = .ok (va, s1)) (haddr : openAddr va)
    (hc : s1.cellAt (s1.at w).asid va.toNat .lread = .ok c) (hy : s1.readG w b = .ok (y, s2))
    (hstore : s2.storeAllowed w (.lwaitf d a b) y.toNat c.size = .ok ()) (hl : s2.localArea w y.toNat c.size (min c.size 32) = .ok (.loc core off))
    (h8 : c.ar.kind = 8) (hd : s2.chkDst w d = .ok ()) (hcell : s2.readCell c = .ok (code, bs)) :
    AtHome s w (.lwaitf d a b) c code bs 1 ⟨.filled, [0], []⟩ fun st =>
      if st = 2 then (((s2.metStatus w c st).writeG w d st).noteSpan w (.loc core off) c.size).localStore w core off bs
      else (s2.metStatus w c st).writeG w d st := by
  obtain ⟨hbound, hcb⟩ := checks_of_open' ho
  obtain ⟨halign, hcheck⟩ := latIssueCheck_ok haddr
  have hyalign : (y.toNat % min c.size 32 != 0) = false := by
    obtain ⟨_, hy, -⟩ := bind_ok_iff.1 hl
    cases hne : (y.toNat % min c.size 32 != 0) with
    | false => rfl
    | true =>
      rw [hne] at hy
      exact absurd hy nofun
  have htrig : trigOk c.ar ⟨.filled, [0], []⟩ = true := (CellVals.trigOk_iff ..).mpr h8
  have hread : s1.fillAt w (.lwaitf d a b) va b = .ok (c, .loc core off, s2) := by
    simp only [State.fillAt, hc, hy, hstore, hyalign, htrig, Bool.not_true, failIf_false, hl, ok_bind]
  refine atHome_of_resolution (varies_lwaitf ..) ?_
  rw [fires_threshold, thresholdRead_busy hst hb, hout]
  simp only [lwaitfBody, hbound, hcb, ha, M.waitsAfter_ok, halign, hcheck, orEarlier_ok, ok_bind, toHome_here, hread, hd, hcell]
  rfl

/-! ### LXRD and LXRDV -/

theorem length_pread (s : State) (pa n : Nat) : (s.pread pa n).length = n := by
  induction n generalizing pa with
  | zero => rfl
  | succ n ih => exact congrArg (· + 1) (ih _)

theorem length_of_checkedRead {pa m : Nat} (h : s.checkedRead pa m = .ok bs) : bs.length = m := by
  rw [State.checkedRead] at h
  split at h
  · cases h
    exact length_pread ..
  · split at h
    · cases h
    · split at h
      · cases h
      · cases h
        exact length_pread ..

theorem length_of_readCell {k : Fin 8} (h : s.readCell c = .ok (k, bs)) : bs.length = c.size := by
  obtain ⟨bs', hread, h⟩ := bind_ok_iff.1 h
  obtain ⟨bs'', hchecked, hread⟩ := bind_ok_iff.1 hread
  have hlen := length_of_checkedRead hchecked
  split at hread
  · cases hread
  · cases hread
    simp only at h
    split at h
    · cases h
    · cases h
      exact hlen

theorem natOf_zeros (m : Nat) : natOf (List.replicate m 0) = 0 := by
  induction m with
  | zero => rfl
  | succ m ih =>
    rw [List.replicate_succ, natOf, ih]
    rfl

/-- The bytes of a cell that is not an ESUM, or of one with its FP64 reading, are told apart by their number. -/
theorem length_wakeBytes (hlen : bs.length = c.size) (h9 : c.ar.kind = 9 → c.size = 16) :
    (wakeBytes c.ar bs).length = 24 ↔ c.ar.kind = 9 := by
  have h24 : c.size ≠ 24 := by
    rw [Cell.size]
    unfold cellBytes
    split <;> decide
  rw [wakeBytes]
  split
  · next hk =>
    rw [List.length_append, hlen, h9 hk, Bits.length_bytesOf]
    exact ⟨fun _ => hk, fun _ => rfl⟩
  · next hk =>
    rw [hlen]
    exact ⟨fun h => absurd h h24, fun h => absurd h hk⟩

theorem wordOf_bytesOf (v : Nat) : wordOf (bytesOf 8 v) = BitVec.ofNat 64 v := by
  have h256 : 256 ^ 8 = 2 ^ 64 := by norm_num
  apply BitVec.eq_of_toNat_eq
  rw [wordOf, Bits.natOf_bytesOf, h256, BitVec.toNat_ofNat, BitVec.toNat_ofNat, Nat.mod_mod]

theorem lxrdValue_data (hlen : bs.length = c.size) (h9 : c.ar.kind = 9 → c.size = 16) : lxrdValue (lxrdData c.ar code bs) =
    if code = 4 ∨ (c.ar.kind = 8 ∧ code = 2) then 0 else if c.ar.kind = 9 then BitVec.ofNat 64 (esumRead (natOf bs % 2 ^ 88) c.ar.fbits)
      else BitVec.ofNat 64 (natOf (bs.take 8)) := by
  rw [lxrdData]
  split
  · simp only [lxrdValue, wordOf, List.drop_replicate, List.take_replicate, natOf_zeros]
    exact ite_self _
  · rw [lxrdValue]
    simp only [length_wakeBytes hlen h9]
    split
    · next hk =>
      have h16 : bs.length = 16 := hlen.trans (h9 hk)
      rw [wakeBytes, if_pos hk, List.drop_left' h16, wordOf_bytesOf]
    · next hk => rw [wakeBytes, if_neg hk, wordOf]

theorem lxrdvValue_data (hlen : bs.length = c.size) (hsize : c.size ≤ 32) (h9 : c.ar.kind = 9 → c.size = 16) : lxrdvValue (lxrdData c.ar code bs) =
    if code = 4 ∨ (c.ar.kind = 8 ∧ code = 2) then 0 else natOf bs := by
  rw [lxrdData]
  split
  · simp only [lxrdvValue, List.take_replicate]
    split <;> exact natOf_zeros _
  · rw [lxrdvValue]
    simp only [length_wakeBytes hlen h9]
    split
    · next hk => rw [wakeBytes, if_pos hk, List.take_left' (hlen.trans (h9 hk))]
    · next hk => rw [wakeBytes, if_neg hk, List.take_of_length_le (hlen.trans_le hsize)]

theorem lxrd_atHome (hst : (s.at w).st = .busy) (hb : (s.at w).busy = .remote) (hout : (s.at w).out = some (.lxrd d a))
    (ho : open_' s w (.lxrd d a)) (ha : s.readG w a = .ok (va, s1)) (haddr : openAddr va)
    (hc : s1.cellAt (s1.at w).asid va.toNat .lread = .ok c) (hsize : c.size ≤ 16) (h9 : c.ar.kind = 9 → c.size = 16)
    (hd : s1.chkDst w d = .ok ()) (hcell : s1.readCell c = .ok (code, bs)) :
    AtHome s w (.lxrd d a) c code bs 2 ⟨.frozen, [0], []⟩ fun st => (s1.metStatus w c st).writeG w d
      (if code = 4 ∨ (c.ar.kind = 8 ∧ code = 2) then 0 else if c.ar.kind = 9 then BitVec.ofNat 64 (esumRead (natOf bs % 2 ^ 88) c.ar.fbits)
        else BitVec.ofNat 64 (natOf (bs.take 8))) := by
  obtain ⟨hbound, hcb⟩ := checks_of_open' ho
  obtain ⟨halign, hcheck⟩ := latIssueCheck_ok haddr
  have hnarrow : (decide (32 < c.size) || (!false && c.size == 32)) = false := by
    rw [decide_eq_false (by omega), beq_eq_false_iff_ne.mpr (by omega)]
    rfl
  rw [← lxrdValue_data (length_of_readCell hcell) h9]
  refine atHome_of_resolution (varies_lxrd ..) ?_
  rw [fires_threshold, thresholdRead_busy hst hb, hout]
  simp only [lxrd, lxrdBody, hbound, hcb, ha, M.waitsAfter_ok, halign, hcheck, orEarlier_ok, ok_bind, toHome_here, hc, hnarrow, failIf_false, hd, hcell]
  rfl

theorem lxrdv_atHome (hst : (s.at w).st = .busy) (hb : (s.at w).busy = .remote) (hout : (s.at w).out = some (.lxrdv v a))
    (ho : open_' s w (.lxrdv v a)) (ha : s.readG w a = .ok (va, s1)) (haddr : openAddr va)
    (hc : s1.cellAt (s1.at w).asid va.toNat .lread = .ok c) (hsize : c.size ≤ 32) (h9 : c.ar.kind = 9 → c.size = 16)
    (hcell : s1.readCell c = .ok (code, bs)) :
    AtHome s w (.lxrdv v a) c code bs 2 ⟨.frozen, [0], []⟩ fun st => (s1.metStatus w c st).writeV w v
      (if code = 4 ∨ (c.ar.kind = 8 ∧ code = 2) then 0 else natOf bs) := by
  obtain ⟨hbound, hcb⟩ := checks_of_open' ho
  obtain ⟨halign, hcheck⟩ := latIssueCheck_ok haddr
  have hfits : (decide (32 < c.size) || (!true && c.size == 32)) = false := by
    rw [decide_eq_false (by omega)]
    rfl
  rw [← lxrdvValue_data (length_of_readCell hcell) hsize h9]
  refine atHome_of_resolution (varies_lxrdv ..) ?_
  rw [fires_threshold, thresholdRead_busy hst hb, hout]
  simp only [lxrdv, lxrdBody, hbound, hcb, ha, M.waitsAfter_ok, halign, hcheck, orEarlier_ok, ok_bind, toHome_here, hc, hfits, failIf_false, hcell]
  rfl

end Home

/-! ## LARM at the home (R207) -/

section Larm

variable {s s1 s2 s3 s4 s5 : State} {w : Who} {d a b : Fin 32} {n : Fin 4} {k : TrigK} {va pc arg tgt : Word} {c : Cell} {code : Fin 8}
  {bs : List Byte} {t : Trig} {xs : List Word}

/-- The arming entry. -/
def arming (s : State) (w : Who) (c : Cell) (t : Trig) (pc arg tgt : Word) : Waiter :=
  ⟨c.ar.asid, BitVec.ofNat 64 c.va, t, 0, some (pc, arg, (s.at w).prio, (s.th w).lvt), s.armTarget w tgt, 0, (s.at w).task, (s.th w).pc, none⟩

/-- The codelet pushed on its core, as a transfer sent and received (R89, R207). -/
def pushed (s5 s : State) (w : Who) (pc arg tgt : Word) : State :=
  ((s.countSent (s5.at w).task.launch s.colour 1).countRecv (s5.at w).task.launch s.colour 1).enqueue (s5.armTarget w tgt)
    (codeletEntry (s5.at w).task pc arg (s5.th w).lvt (s5.at w).prio)

theorem va_of_cellAt {s : State} {asid va : Nat} {acc : Acc} (h : s.cellAt asid va acc = .ok c) : c.va = va := by
  obtain ⟨x, -, h⟩ := bind_ok_iff.1 h
  obtain ⟨_, -, h⟩ := bind_ok_iff.1 h
  split at h
  · cases h
  · split at h
    · cases h
    · obtain ⟨_, -, h⟩ := bind_ok_iff.1 h
      cases h
      rfl

/-- A status met once is reported once. -/
theorem reportConflict_again (s : State) (asid va launch core slot core' slot' : Nat) (wid wid' : Word) :
    (s.reportConflict asid va launch core slot wid).reportConflict asid va launch core' slot' wid' = s.reportConflict asid va launch core slot wid := by
  have hin : (s.reportConflict asid va launch core slot wid).reported.contains (asid, va, launch) = true := by
    rw [State.reportConflict]
    split
    · assumption
    · simp [State.report]
  rw [State.reportConflict, if_pos hin]

/-- An arming entry that resolves at once, after its status was reported. -/
theorem resolve_arming {st : Word} (hva : c.va < 2 ^ 64) (hlaunched : st = 5 → (s5.at w).launched = true) :
    (s5.metStatus w c st).resolve (arming s5 w c t pc arg tgt) st [] =
      if st = 5 then s5.metStatus w c st else pushed s5 (s5.metStatus w c st) w pc arg tgt := by
  have hfive : statusWord 5 0 = 5 := rfl
  by_cases h5 : st = 5
  · have hmet : s5.metStatus w c st =
        s5.reportConflict c.ar.asid c.va (s5.at w).task.launch w.core w.slot.val (s5.at w).task.wid := by
      simp only [State.metStatus, hfive, h5, hlaunched h5, and_self, if_true]
    rw [if_pos h5, hmet]
    have hagain := reportConflict_again s5 c.ar.asid c.va (s5.at w).task.launch w.core w.slot.val (s5.armTarget w tgt) 0 (s5.at w).task.wid (s5.at w).task.wid
    simp only [State.resolve, arming, hfive, h5, if_true, true_and, BitVec.toNat_ofNat, Nat.mod_eq_of_lt hva]
    split
    · exact hagain
    · rfl
  · rw [if_neg h5]
    simp only [State.resolve, arming, hfive, h5, if_false, false_and]
    rfl

variable (hst : (s.at w).st = .busy) (hb : (s.at w).busy = .remote) (hout : (s.at w).out = some (.larm d a b n k)) (h29 : d.val ≤ 29)
  (hh : s.history w = false) (ho : open_' s w (.larm d a b n k)) (ha : s.readG w a = .ok (va, s1)) (haddr : openAddr va)
  (hc : s1.cellAt (s1.at w).asid va.toNat .lread = .ok c) (hxs : Values s1 s2 w b n k xs) (ht : Arrived s2 w c.ar k xs t)

include hst hb hout h29 hh ho ha haddr hc hxs ht

theorem larm_refused (hbad : ¬ admits c.ar t) :
    fires (.thresholdReadAtHome w.core w.slot) s = .next (s.takeTrap w 0x06 false 0 va (s.th w).pc true) := by
  obtain ⟨halign, hcheck⟩ := latIssueCheck_ok haddr
  have hread := trigAt_eq hc hxs (trigOf_arrived ht)
  rw [if_neg (fun h => hbad ((CellVals.trigOk_iff ..).mp h))] at hread
  rw [fires_threshold, thresholdRead_busy hst hb, hout]
  simp only [larmBody, decide_eq_false (not_lt.mpr h29), hh, failIf_false, (checks_of_open' ho).2, ha, M.waitsAfter_ok, halign, hcheck, orEarlier_ok,
    ok_bind, toHome_here, hread, fail_bind, finish_fail, varies_larm, Bool.or_true]

theorem larm_ok (hok : admits c.ar t) (hpc : s2.readG w d = .ok (pc, s3)) (harg : s3.readG w (d + 1) = .ok (arg, s4))
    (htgt : s4.readG w (d + 2) = .ok (tgt, s5)) (hcell : s5.readCell c = .ok (code, bs)) : fires (.thresholdReadAtHome w.core w.slot) s =
      finish w (.larm d a b n k) s (match firstStatus c.ar code bs t with
        | some st => .ok (((s5.metStatus w c st).resolve (arming s5 w c t pc arg tgt) st []).retireVar w (.larm d a b n k))
        | none => match s5.addWaiter c (arming s5 w c t pc arg tgt) with
          | some s' => .ok (s'.retireVar w (.larm d a b n k))
          | none => .error (.busy .spill)) := by
  obtain ⟨halign, hcheck⟩ := latIssueCheck_ok haddr
  have hread := trigAt_eq hc hxs (trigOf_arrived ht)
  rw [if_pos ((CellVals.trigOk_iff ..).mpr hok)] at hread
  rw [fires_threshold, thresholdRead_busy hst hb, hout]
  simp only [larmBody, decide_eq_false (not_lt.mpr h29), hh, failIf_false, (checks_of_open' ho).2, ha, M.waitsAfter_ok, halign, hcheck, orEarlier_ok,
    ok_bind, toHome_here, hread, hpc, harg, htgt, hcell]
  rfl

end Larm

theorem launched_readG {s s1 : State} {w : Who} {n : Fin 32} {x : Word} (h : s.readG w n = .ok (x, s1)) : (s1.at w).launched = (s.at w).launched := by
  obtain ⟨p, hp⟩ := Sending.at_readG h w
  rw [hp]
  rfl

theorem launched_values {s1 s2 : State} {w : Who} {b : Fin 32} {n : Fin 4} {k : TrigK} {xs : List Word} (h : Values s1 s2 w b n k xs) :
    (s2.at w).launched = (s1.at w).launched := by
  unfold Values at h
  split at h
  · rw [h.2]
  · obtain ⟨p, hp⟩ := (Sending.alike_readRun _ h : Sending.Alike w s1 s2).slot
    rw [hp]
    rfl

/-- Settles O14: at issue by the checks of the address, at the home by the first status that holds. -/
theorem thresholdReads : Obligations.ThresholdReads := by
  unfold Obligations.ThresholdReads
  refine ⟨fun s d a b v n k s1 va i hi ha ho => ⟨fun code h => exec_read_fault hi ha ho h, fun haddr => ⟨sentBy i s1 s.who va, ?_, fun hnone => ?_,
    fun c xs s2 t hlw hc hxs ht => ?_⟩⟩, fun s w d a b v s1 s2 va y c code bs hst hb ha haddr hc => ⟨fun n k xs t hout ho hxs ht => ⟨?_, ?_⟩,
    fun core off hout ho hy hstore hl h8 hd hcell => ?_, fun hout ho hsize h9 hd hcell => ?_, fun hout ho hsize h9 hcell => ?_⟩,
    fun s w d a b n k s1 s2 s3 s4 s5 va pc arg tgt xs c code bs t hst hb hout h29 hh ho ha haddr hc hxs ht =>
      ⟨larm_refused hst hb hout h29 hh ho ha haddr hc hxs ht, fun hok hpc harg htgt hcell => ⟨fun st hstat hl => ?_, fun s' hstat hs' => ?_⟩⟩⟩
  · rw [exec_read hi ha ho haddr, toHome_away, error_bind, finish_next]
  · simp only [List.mem_cons, List.not_mem_nil, or_false] at hnone
    obtain rfl | rfl | rfl := hnone <;> rfl
  · obtain rfl | rfl := hlw
    · exact sentTrig_eq hc hxs ht
    · exact sentTrig_eq hc hxs ht
  · exact lwait_refused hst hb hout ho ha haddr hc hxs ht
  · exact lwait_atHome hst hb hout ho ha haddr hc hxs ht
  · exact lwaitf_atHome hst hb hout ho ha haddr hc hy hstore hl h8 hd hcell
  · exact lxrd_atHome hst hb hout ho ha haddr hc hsize h9 hd hcell
  · exact lxrdv_atHome hst hb hout ho ha haddr hc hsize h9 hcell
  · have hva : c.va < 2 ^ 64 := va_of_cellAt hc ▸ va.isLt
    have hlaunched : st = 5 → (s5.at w).launched = true := fun h => by
      rw [launched_readG htgt, launched_readG harg, launched_readG hpc, launched_values hxs, launched_readG ha, hl h]
    rw [larm_ok hst hb hout h29 hh ho ha haddr hc hxs ht hok hpc harg htgt hcell]
    simp only [hstat, finish_ok, resolve_arming hva hlaunched]
    rfl
  · have hs'' : s5.addWaiter c (arming s5 w c t pc arg tgt) = some s' := hs'
    rw [larm_ok hst hb hout h29 hh ho ha haddr hc hxs ht hok hpc harg htgt hcell]
    simp only [hstat, hs'', finish_ok]

end Sys2Proof.Threshold

/-! # Bytes of physical memory read after they were written (R6, R367) -/

namespace Sys2Proof.Readback
open Sys2Proof Sys2Proof.Machine

/-- The state read as memory: its plaintext bytes and its state codes. -/
structure SameMem (s t : State) : Prop where
  mem : t.mem = s.mem
  codes : t.codes = s.codes
  gkey : t.gkey = s.gkey
  keyVer : t.keyVer = s.keyVer
  regs : t.regs = s.regs

theorem SameMem.refl (s : State) : SameMem s s := ⟨rfl, rfl, rfl, rfl, rfl⟩

theorem SameMem.trans {s t u : State} (h : SameMem s t) (h' : SameMem t u) : SameMem s u :=
  ⟨h'.mem.trans h.mem, h'.codes.trans h.codes, h'.gkey.trans h.gkey, h'.keyVer.trans h.keyVer, h'.regs.trans h.regs⟩

theorem SameMem.keyTag {s t : State} (h : SameMem s t) (a : Nat) : t.keyTag a = s.keyTag a := by
  simp only [State.keyTag, h.regs, h.keyVer]

theorem SameMem.pbyte {s t : State} (h : SameMem s t) {a : Nat} (ha : farAway a = false) : t.pbyte a = s.pbyte a := by
  simp only [State.pbyte, ha, h.gkey, h.mem, h.keyTag, Bool.false_eq_true, if_false]

theorem SameMem.code {s t : State} (h : SameMem s t) {a : Nat} (ha : farAway a = false) : t.code a = s.code a := by
  simp only [State.code, ha, h.codes, Bool.false_eq_true, if_false]

/-- All bytes of a granule are encrypted under one key. -/
theorem keyTag_granule (s : State) (a : Nat) : s.keyTag (32 * (a / 32)) = s.keyTag a := by
  have hhigh : 32 * (a / 32) / 2 ^ 36 = a / 2 ^ 36 := by omega
  have hlow : 32 * (a / 32) % 2 ^ 36 / 2 ^ 30 = a % 2 ^ 36 / 2 ^ 30 := by omega
  simp only [State.keyTag, hhigh, hlow]

theorem getElem?_pread (s : State) (pa n i : Nat) (hi : i < n) : (s.pread pa n)[i]? = some (s.pbyte (pa + i)) := by
  induction n generalizing pa i with
  | zero => omega
  | succ n ih =>
    cases i with
    | zero => rfl
    | succ i =>
      have h := ih (pa + 1) i (by omega)
      rw [show pa + (i + 1) = pa + 1 + i by omega, ← h]
      rfl

theorem length_pread (s : State) (pa n : Nat) : (s.pread pa n).length = n := by
  induction n generalizing pa with
  | zero => rfl
  | succ n ih => exact congrArg (· + 1) (ih _)

theorem gkey_rekey (s : State) (g j : Nat) : (s.rekey g).gkey.getD j 0 = if j = g then s.keyTag (32 * g) else s.gkey.getD j 0 := by
  rw [State.rekey]
  split
  · next h =>
    split
    · next hj => rw [hj, h]
    · rfl
  · simp only
    split
    · next h0 => rw [Tbl.getD_del, h0]
    · rw [Tbl.getD_put]

theorem keyTag_rekey (s : State) (g a : Nat) : (s.rekey g).keyTag a = s.keyTag a := by
  have hregs : (s.rekey g).regs = s.regs := by rw [State.rekey]; split <;> rfl
  have hver : (s.rekey g).keyVer = s.keyVer := by rw [State.rekey]; split <;> rfl
  simp only [State.keyTag, hregs, hver]

/-- A granule brought under its key reads as before. -/
theorem pbyte_rekey (s : State) (g : Nat) {a : Nat} (ha : farAway a = false) : (s.rekey g).pbyte a = s.pbyte a := by
  by_cases hkey : s.gkey.getD g 0 = s.keyTag (32 * g)
  · rw [State.rekey, if_pos hkey]
  · have hmem : (s.rekey g).mem = Mem.sets s.mem (32 * g) (s.pread (32 * g) 32) := by rw [State.rekey, if_neg hkey]
    by_cases hg : a / 32 = g
    · have hkeyTag : (s.rekey g).gkey.getD (a / 32) 0 = (s.rekey g).keyTag a := by
        rw [gkey_rekey, if_pos hg, keyTag_rekey, ← hg, keyTag_granule]
      have hin : 32 * g ≤ a ∧ a - 32 * g < (s.pread (32 * g) 32).length := by rw [length_pread]; omega
      have hget := getElem?_pread s (32 * g) 32 (a - 32 * g) (by omega)
      rw [List.getElem?_eq_getElem hin.2, show 32 * g + (a - 32 * g) = a by omega] at hget
      rw [State.pbyte, ha]
      simp only [Bool.false_eq_true, if_false, hkeyTag, if_true, hmem, Mem.get_sets, hin, and_self, dite_true]
      exact Option.some.inj hget
    · have hout : ¬ (32 * g ≤ a ∧ a - 32 * g < (s.pread (32 * g) 32).length) := by rw [length_pread]; omega
      simp only [State.pbyte, ha, Bool.false_eq_true, if_false, gkey_rekey, if_neg hg, keyTag_rekey, hmem, Mem.get_sets, dif_neg hout]

theorem mem_pwriteIn (s : State) (pa : Nat) (bs : List Byte) : (s.pwriteIn pa bs).mem = Mem.sets (s.rekey (pa / 32)).mem pa bs := rfl
theorem gkey_pwriteIn (s : State) (pa : Nat) (bs : List Byte) : (s.pwriteIn pa bs).gkey = (s.rekey (pa / 32)).gkey := rfl
theorem keyTag_pwriteIn (s : State) (pa : Nat) (bs : List Byte) (a : Nat) : (s.pwriteIn pa bs).keyTag a = s.keyTag a := keyTag_rekey s (pa / 32) a

/-- A write within a granule, byte by byte. -/
theorem pbyte_pwriteIn (s : State) (pa : Nat) (bs : List Byte) (hfit : pa % 32 + bs.length ≤ 32) {a : Nat} (ha : farAway a = false) :
    (s.pwriteIn pa bs).pbyte a = if h : pa ≤ a ∧ a - pa < bs.length then bs[a - pa]'h.2 else s.pbyte a := by
  split
  · next h =>
    have hg : a / 32 = pa / 32 := by omega
    have hkey : (s.pwriteIn pa bs).gkey.getD (a / 32) 0 = (s.pwriteIn pa bs).keyTag a := by
      rw [gkey_pwriteIn, gkey_rekey, if_pos hg, keyTag_pwriteIn, ← hg, keyTag_granule]
    rw [State.pbyte, ha]
    simp only [Bool.false_eq_true, if_false, hkey, if_true, mem_pwriteIn, Mem.get_sets, h, and_self, dite_true]
  · next h =>
    rw [← pbyte_rekey s (pa / 32) ha]
    simp only [State.pbyte, ha, Bool.false_eq_true, if_false, keyTag_pwriteIn, keyTag_rekey, gkey_pwriteIn, mem_pwriteIn, Mem.get_sets, dif_neg h]

/-- A write of several granules, byte by byte. -/
theorem pbyte_pwriteN (n : Nat) : ∀ (s : State) (pa : Nat) (bs : List Byte), pa % 32 + bs.length ≤ 32 * n → ∀ {a : Nat}, farAway a = false →
    (s.pwriteN pa bs n).pbyte a = if h : pa ≤ a ∧ a - pa < bs.length then bs[a - pa]'h.2 else s.pbyte a := by
  induction n with
  | zero =>
    intro s pa bs hlen a ha
    rw [dif_neg (by omega)]
    rfl
  | succ n ih =>
    intro s pa bs hlen a ha
    rw [State.pwriteN]
    by_cases hbs : bs.isEmpty = true
    · rw [if_pos hbs, dif_neg]
      rw [List.isEmpty_iff.mp hbs]
      exact fun h => absurd h.2 (by simp)
    · rw [if_neg hbs, ih _ _ _ (by rw [List.length_drop]; omega) ha, pbyte_pwriteIn s pa _ (by rw [List.length_take]; omega) ha]
      simp only [List.length_drop, List.length_take, List.getElem_drop, List.getElem_take]
      by_cases hfirst : pa ≤ a ∧ a - pa < min (32 - pa % 32) bs.length
      · rw [dif_neg (by omega), dif_pos hfirst, dif_pos ⟨hfirst.1, by omega⟩]
      · by_cases hlater : pa + (32 - pa % 32) ≤ a ∧ a - (pa + (32 - pa % 32)) < bs.length - (32 - pa % 32)
        · rw [dif_pos hlater, dif_pos ⟨by omega, by omega⟩]
          congr 1
          omega
        · rw [dif_neg hlater, dif_neg hfirst, dif_neg (by omega)]

/-- What is written to populated memory is read back. -/
theorem pread_pwrite (s : State) {pa : Nat} (bs : List Byte) (hpop : populated pa = true) (hlen : bs.length ≤ 2 ^ 32) :
    (s.pwrite pa bs).pread pa bs.length = bs := by
  have hlow : pa < 2 ^ 40 := by
    simp only [populated, decide_eq_true_eq] at hpop
    omega
  have hwrite : s.pwrite pa bs = s.pwriteN pa bs (bs.length / 32 + 2) := if_pos hpop
  apply List.ext_getElem
  · rw [length_pread]
  · intro i hi hi'
    have hnear : farAway (pa + i) = false := decide_eq_false (by omega)
    have hget := getElem?_pread (s.pwrite pa bs) pa bs.length i hi'
    rw [List.getElem?_eq_getElem hi, Option.some.injEq] at hget
    rw [hget, hwrite, pbyte_pwriteN _ s pa bs (by omega) hnear, dif_pos ⟨by omega, by omega⟩]
    congr 1
    omega

theorem code_setCodes_later (c : Fin 8) (n : Nat) : ∀ (s : State) (pa a : Nat), a / 8 < pa / 8 → farAway a = false → (s.setCodes pa c n).code a = s.code a := by
  induction n with
  | zero => exact fun _ _ _ _ _ => rfl
  | succ n ih =>
    intro s pa a hlt ha
    rw [State.setCodes]
    split
    · rfl
    · rw [ih _ _ _ (by omega) ha]
      simp only [State.code, ha, Bool.false_eq_true, if_false]
      split
      · rw [Tbl.getD_del, if_neg (by omega)]
      · rw [Tbl.getD_put, if_neg (by omega)]

/-- The code of a cell's first word after all its words are set. -/
theorem code_setCodes (s : State) {pa : Nat} (c : Fin 8) (n : Nat) (ha : farAway pa = false) : (s.setCodes pa c (n + 1)).code pa = c := by
  rw [State.setCodes, ha, if_neg (by decide), code_setCodes_later _ _ _ _ _ (by omega) ha]
  simp only [State.code, ha, Bool.false_eq_true, if_false]
  split
  · next h => rw [Tbl.getD_del, if_pos rfl, h]
  · rw [Tbl.getD_put, if_pos rfl]

end Sys2Proof.Readback

/-! # A lattice request at the home of its cell (R54, R81, R195, R203, R204) -/

namespace Sys2Proof.HomeReq
open Sys2Proof Sys2Proof.Machine Sys2Proof.Claims Sys2Proof.Reads Sys2Proof.Readback

/-! ## What a change of a cell leaves of memory -/

section Memory

theorem sameMem_updCore (s : State) (c : Nat) (f : Core → Core) : SameMem s (s.updCore c f) := ⟨rfl, rfl, rfl, rfl, rfl⟩
theorem sameMem_postEvent (s : State) (c : Nat) (e : SysEvent) (head : Bool) : SameMem s (s.postEvent c e head) := ⟨rfl, rfl, rfl, rfl, rfl⟩
theorem sameMem_updArena (s : State) (ar : Arena) (f : Arena → Arena) : SameMem s (s.updArena ar f) := ⟨rfl, rfl, rfl, rfl, rfl⟩

theorem sameMem_reportConflict (s : State) (asid va launch core slot : Nat) (wid : Word) : SameMem s (s.reportConflict asid va launch core slot wid) := by
  rw [State.reportConflict]
  split
  · exact .refl s
  · exact ⟨rfl, rfl, rfl, rfl, rfl⟩

theorem sameMem_resolve (s : State) (x : Waiter) (st : Word) (data : List Byte) : SameMem s (s.resolve x st data) := by
  have hreport : SameMem s (if st = statusWord 5 0 ∧ (s.launch? x.task.launch).isSome then
      s.reportConflict x.asid x.va.toNat x.task.launch x.core x.slot.val x.task.wid else s) := by
    split
    · exact sameMem_reportConflict ..
    · exact .refl s
  refine hreport.trans ?_
  simp only [State.resolve]
  generalize (if st = statusWord 5 0 ∧ (s.launch? x.task.launch).isSome then
      s.reportConflict x.asid x.va.toNat x.task.launch x.core x.slot.val x.task.wid else s) = t
  split
  · split
    · exact .refl t
    · exact ⟨rfl, rfl, rfl, rfl, rfl⟩
  · exact ⟨rfl, rfl, rfl, rfl, rfl⟩

theorem sameMem_resolveAll (ar : Arena) (k : Fin 8) (bs : List Byte) (asid va : Nat) (xs : List Waiter) :
    ∀ s : State, SameMem s (s.resolveAll ar k bs asid va xs).1 := by
  induction xs with
  | nil => exact fun s => .refl s
  | cons x xs ih =>
    intro s
    rw [State.resolveAll]
    split
    · exact (sameMem_resolve ..).trans (ih _)
    · exact ih s

theorem sameMem_cellChanged (s : State) (c : Cell) (k : Fin 8) (bs : List Byte) : SameMem s (s.cellChanged c k bs) := by
  have hall := sameMem_resolveAll c.ar k bs c.ar.asid c.va (s.core c.x.home).waiters s
  rw [State.cellChanged]
  generalize s.resolveAll c.ar k bs c.ar.asid c.va (s.core c.x.home).waiters = r at hall
  obtain ⟨t, ws⟩ := r
  simp only
  split
  · exact hall.trans ⟨rfl, rfl, rfl, rfl, rfl⟩
  · exact hall.trans (sameMem_updCore ..)

end Memory

/-! ## The request applied -/

section Apply

variable (s0 : State) (r : LatReq) (c : Cell) (k : Fin 8) (bs : List Byte)

/-- A CONFLICT met, reported in the operation's name (R48, R348). -/
def told : State :=
  if (latRes c.ar k bs r.op).ans = 0x0F then
    (match r.tagVt with
      | none => s0.reportConflict r.asid r.va.toNat r.task.launch r.core r.slot.val r.task.wid
      | some _ => { s0 with reported := (r.asid, r.va.toNat, r.task.launch) :: s0.reported })
  else s0

/-- An arena counts a cell of its own that enters CONFLICT. -/
def counted (ar : Arena) (t : State) : State := t.updArena ar fun a => { a with nconf := min (a.nconf + 1) (2 ^ 32 - 1) }

/-- A cell written anew, and its waiters tested. -/
def rewritten (t : State) (c : Cell) (bs' : List Byte) (k' : Fin 8) : State :=
  ((if k' = 4 then counted c.ar else id) (t.writeCell c bs' k')).cellChanged c k' bs'

/-- The state after the operation has reached its cell. -/
def changed : State :=
  match (latRes c.ar k bs r.op).new with
  | none => told s0 r c k bs
  | some (bs', k') => rewritten (told s0 r c k bs) c bs' k'

variable {s0 r c k bs}

theorem latApply_eq (hc : s0.cellAt r.asid r.va.toNat .lwrite = .ok c) (hread : s0.readCell c = .ok (k, bs)) (hfar : farAway c.x.pa = false) :
    s0.latApply r = .ok (changed s0 r c k bs, (latRes c.ar k bs r.op).ans) := by
  simp only [State.latApply, hc, hread, ok_bind, hfar, Bool.false_eq_true, if_false]
  rw [changed]
  cases (latRes c.ar k bs r.op).new with
  | none => rfl
  | some new =>
    obtain ⟨bs', k'⟩ := new
    refine congrArg Except.ok (congrArg (·, _) ?_)
    simp only [rewritten]
    split <;> rfl

theorem sameMem_told : SameMem s0 (told s0 r c k bs) := by
  rw [told]
  split
  · split
    · exact sameMem_reportConflict ..
    · exact ⟨rfl, rfl, rfl, rfl, rfl⟩
  · exact .refl s0

theorem length_maskWords (mask : Nat) (v old : List Byte) : (maskWords mask v old).length ≤ old.length := by
  simp [maskWords]

theorem length_fillRes {kind : Nat} {sizeOk : Bool} {v : List Byte} {mask : Nat} {bs' : List Byte} {k' : Fin 8}
    (h : (fillRes kind sizeOk k bs v mask).new = some (bs', k')) : bs'.length ≤ bs.length := by
  unfold fillRes at h
  split at h
  · cases h
  · simp only at h
    split at h
    · cases h
      exact (length_maskWords ..).trans_eq List.length_replicate
    · split at h
      · cases h
      · cases h
        exact le_rfl
    · split at h <;> cases h
    · cases h
    · cases h

theorem length_joinRes {kind size : Nat} {x : Word} {bs' : List Byte} {k' : Fin 8} (h : (joinRes kind size k bs x).new = some (bs', k')) :
    bs'.length ≤ max size bs.length := by
  unfold joinRes at h
  split at h
  · cases h
  · split at h
    · cases h
    · split at h
      · split at h
        · cases h
        · cases h
          exact le_max_right ..
      · simp only at h
        split at h
        · cases h
        · split at h
          · cases h
          · cases h
            exact (Bits.length_bytesOf ..).trans_le (le_max_left ..)

theorem length_esumRes {ar : Arena} {t : EsumT} {x : Word} {bs' : List Byte} {k' : Fin 8} (h : (esumRes ar k bs t x).new = some (bs', k')) :
    bs'.length = 16 := by
  unfold esumRes at h
  split at h
  · cases h
  · split at h
    · cases h
    · split at h
      · cases h
      · simp only at h
        split at h
        · cases h
        · cases h
          exact Bits.length_bytesOf ..

theorem cellBytes_le (n : Nat) : cellBytes n ≤ 256 := by
  unfold cellBytes
  split <;> decide

/-- An operation leaves a cell of at most 256 bytes. -/
theorem length_new {ar : Arena} {op : LatOp} {bs' : List Byte} {k' : Fin 8} (hbs : bs.length ≤ 256) (h : (latRes ar k bs op).new = some (bs', k')) :
    bs'.length ≤ 256 := by
  cases op with
  | join x => exact (length_joinRes h).trans (max_le (cellBytes_le _) hbs)
  | esum t x => exact (length_esumRes h).trans_le (by decide)
  | fill x => exact (length_fillRes h).trans hbs
  | fillV v => exact (length_fillRes h).trans hbs
  | fillM v m => exact (length_fillRes h).trans hbs
  | frz | frza =>
    have hfrz : (frzRes k bs).new = some (bs', k') := h
    unfold frzRes at hfrz
    split at hfrz
    · cases hfrz
    · split at hfrz <;> cases hfrz
      exact hbs

/-! ### What is read back -/

theorem pbyte_setCodes (k : Fin 8) (a : Nat) : ∀ (n : Nat) (s : State) (pa : Nat), farAway a = false → (s.setCodes pa k n).pbyte a = s.pbyte a
  | 0, _, _, _ => rfl
  | n + 1, s, pa, ha => by
    rw [State.setCodes]
    split
    · rfl
    · rw [pbyte_setCodes k a n _ _ ha]
      rfl

theorem pread_congr {s t : State} {pa n : Nat} (hpa : pa + n < 2 ^ 60) (h : ∀ a, farAway a = false → t.pbyte a = s.pbyte a) : t.pread pa n = s.pread pa n := by
  induction n generalizing pa with
  | zero => rfl
  | succ n ih =>
    rw [State.pread, State.pread, ih (by omega), h pa (decide_eq_false (by omega))]

theorem populated_of_cellAt {asid va : Nat} {acc : Acc} (h : s0.cellAt asid va acc = .ok c) (hfar : farAway c.x.pa = false) : populated c.x.pa = true := by
  obtain ⟨x, -, h⟩ := bind_ok_iff.1 h
  obtain ⟨_, -, h⟩ := bind_ok_iff.1 h
  split at h
  · cases h
  · next hreach =>
    split at h
    · cases h
    · obtain ⟨_, -, h⟩ := bind_ok_iff.1 h
      cases h
      simp only [Bool.not_eq_true', Bool.not_eq_false, reaches, Bool.or_eq_true] at hreach
      exact hreach.resolve_right (by rw [hfar]; decide)

theorem size_cell (c : Cell) : ∃ n, c.size / 8 = n + 1 := by
  have hsize : 8 ≤ c.size := by
    rw [Cell.size]
    unfold cellBytes
    split <;> decide
  exact ⟨c.size / 8 - 1, by omega⟩

theorem sameMem_rewritten (t : State) (bs' : List Byte) (k' : Fin 8) : SameMem (t.writeCell c bs' k') (rewritten t c bs' k') := by
  refine SameMem.trans ?_ (sameMem_cellChanged ..)
  split
  · exact sameMem_updArena ..
  · exact .refl _

/-- The cell's bytes and code as the operation left them. -/
theorem read_rewritten (t : State) {bs' : List Byte} {k' : Fin 8} (hpop : populated c.x.pa = true) (hlen : bs'.length ≤ 256) :
    (rewritten t c bs' k').pread c.x.pa bs'.length = bs' ∧ (rewritten t c bs' k').code c.x.pa = k' := by
  have hlow : c.x.pa < 2 ^ 40 := by
    simp only [populated, decide_eq_true_eq] at hpop
    omega
  have hnear : farAway c.x.pa = false := decide_eq_false (by omega)
  have hsame := sameMem_rewritten (c := c) t bs' k'
  obtain ⟨n, hn⟩ := size_cell c
  refine ⟨?_, ?_⟩
  · rw [pread_congr (by omega) fun a ha => hsame.pbyte ha, State.writeCell, pread_congr (by omega) fun a ha => pbyte_setCodes _ a _ _ _ ha,
      pread_pwrite t bs' hpop (hlen.trans (by norm_num))]
  · rw [hsame.code hnear, State.writeCell, hn, code_setCodes _ _ _ hnear]

end Apply

/-! ## The answer -/

section Answer

variable {s s0 s' : State} {r : LatReq} {n : Nat}

theorem fires_request (s : State) (r : LatReq) : fires (.latticeRequestApply r) s = .next (s.latticeRequest r) := rfl

/-- A request of this package, as it counts where it is received (R89). -/
theorem latticeRequest_here (hhome : r.home < 1536) (htag : r.tagVt = none ∨ (s.countRecv r.task.launch r.colour 1).stopped r.task.launch = false)
    (h : (s.countRecv r.task.launch r.colour 1).latOutcome r = .ok (s', n)) : s.latticeRequest r =
      if r.op = .frza then s'
      else if (r.tagVt.isNone && (r.op = .frz || r.op = .frza)) = true then (if s'.awaits ⟨r.core, r.slot⟩ r.task then s'.freezeEnds ⟨r.core, r.slot⟩ n else s')
      else if r.op = .frz then s'
      else s'.answer r n 0 r.va := by
  have hfar : decide (1536 ≤ r.home) = false := decide_eq_false (by omega)
  have hlive : ¬ (r.tagVt.isSome = true ∧ (s.countRecv r.task.launch r.colour 1).stopped r.task.launch = true) := by
    rintro ⟨hsome, hstop⟩
    obtain h | h := htag
    · rw [h] at hsome
      exact absurd hsome (by decide)
    · rw [h] at hstop
      exact absurd hstop (by decide)
  simp only [State.latticeRequest, hfar, Bool.false_eq_true, if_false, if_neg hlive, h]

theorem freezeEnds_lfrz {s2 : State} {w : Who} {d a : Fin 32} {va : Word} (hout : (s.at w).out = some (.lfrz d a)) (ha : s.readG w a = .ok (va, s2))
    (hd : s2.chkDst w d = .ok ()) : s.freezeEnds w n = (s2.writeG w d (BitVec.ofNat 64 n)).retireVar w (.lfrz d a) := by
  simp only [State.freezeEnds, hout, ha, ok_bind, State.putG, hd]

theorem freezeEnds_lfrza {s2 : State} {w : Who} {a : Fin 32} {va : Word} (hout : (s.at w).out = some (.lfrza a)) (ha : s.readG w a = .ok (va, s2)) :
    s.freezeEnds w n = s2.retireVar w (.lfrza a) := by
  simp only [State.freezeEnds, hout, ha, ok_bind]

/-- LFRZ's status (R203). -/
theorem ans_frz (ar : Arena) (k : Fin 8) (bs : List Byte) : (latRes ar k bs .frz).ans = if k = 4 then 2 else if k = 2 ∨ k = 3 then 1 else 0 := by
  simp only [latRes, frzRes, CellVals.frozenCode_iff]
  split
  · rfl
  · split <;> rfl

theorem ofNat_status (k : Fin 8) : BitVec.ofNat 64 (if k = 4 then 2 else if k = 2 ∨ k = 3 then 1 else 0) =
    (if k = 4 then 2 else if k = 2 ∨ k = 3 then 1 else 0 : Word) := by
  split
  · rfl
  · split <;> rfl

/-- LFRZA at the home of its arena (R204). -/
theorem latOutcome_frza {x : Xlat} {ar : Arena} (hop : r.op = .frza) (hx : s0.translate r.asid r.va.toNat .lwrite = .ok x) (hkind : pteKind x.pte = 1)
    (har : s0.arenaFor r.asid r.va.toNat x.pte = some ar) (hfar : farAway x.pa = false) :
    s0.latOutcome r = .ok (s0.frzaApply r ⟨r.core, r.slot⟩ ar false, 0) := by
  have hcheck : s0.kindCheck r.asid 0 true .lwrite x.pte r.va.toNat = .ok () := by
    simp only [State.kindCheck, hkind, kLattice, bne_self_eq_false, failIf_false]
  simp only [State.latOutcome, if_pos hop, hx, hcheck, har, hfar, ok_bind]

theorem frzaApply_frozen {w : Who} {ar : Arena} (htag : r.tagVt = none) (hwaits : s.awaits w r.task = true) (hst : ar.st = 2) :
    s.frzaApply r w ar false = s.freezeEnds w 0 := by
  simp only [State.frzaApply, htag, hwaits, hst, Option.isNone_none, Bool.and_self, true_or, if_true]

theorem frzaApply_begins {w : Who} {ar : Arena} (htag : r.tagVt = none) (hwaits : s.awaits w r.task = true) (hst : ar.st ≠ 2) :
    s.frzaApply r w ar false =
      if ar.st = 0 then ((s.updArena ar fun y => { y with st := 1 }).upd w fun y => { y with busy := .freeze ar.asid ar.num }).post
        [.arenaFreeze ar.asid ar.num]
      else (s.updArena ar fun y => { y with st := 1 }).upd w fun y => { y with busy := .freeze ar.asid ar.num } := by
  simp only [State.frzaApply, htag, hwaits, hst, Option.isNone_none, Bool.and_self, or_self, if_true, if_false, Bool.false_eq_true]

end Answer

/-- Settles O13: the request's cell by `latApply`, its answer by its kind. -/
theorem latticeRequestAtHome : Obligations.LatticeRequestAtHome := by
  unfold Obligations.LatticeRequestAtHome
  intro s r c k bs s0 res conflict told' changed' hhome
  have hchanged : changed' = changed s0 r c k bs := by
    simp only [changed', changed]
    cases (latRes c.ar k bs r.op).new with
    | none => rfl
    | some new => rfl
  rw [hchanged]
  refine ⟨fun hc hread hfar hop => ?_, fun x ar a va s2 hop htag hx hkind hfar har hwaits hout ha => ?_⟩
  · have hout : s0.latOutcome r = .ok (changed s0 r c k bs, res.ans) := by
      rw [State.latOutcome, if_neg hop]
      exact latApply_eq hc hread hfar
    refine ⟨fun bs' k' _ hnew => ?_, fun htag hfrz => ?_, fun vt htag hlive hfrz => ?_, fun d a va s2 htag hfrz hwaits hout' ha hd => ?_⟩
    · have hlen : bs.length ≤ 256 := (Threshold.length_of_readCell hread).trans_le (cellBytes_le _)
      have hnew' : (latRes c.ar k bs r.op).new = some (bs', k') := hnew
      rw [changed, hnew']
      exact read_rewritten _ (populated_of_cellAt hc hfar) (length_new hlen hnew')
    · rw [fires_request, latticeRequest_here hhome (.inl htag) hout, if_neg hop, if_neg (by simp [hfrz, hop]), if_neg hfrz, State.answer, htag]
    · rw [fires_request, latticeRequest_here hhome (.inr hlive) hout, if_neg hop, if_neg (by simp [htag]), if_neg hfrz, State.answer, htag]
      simp only
      split
      · rfl
      · rw [State.commitFault, htag]
        rfl
    · have hans : res.ans = if k = 4 then 2 else if k = 2 ∨ k = 3 then 1 else 0 := by
        simp only [res, hfrz]
        exact ans_frz ..
      refine ⟨hans, ?_⟩
      rw [fires_request, latticeRequest_here hhome (.inl htag) hout, if_neg hop, if_pos (by simp [htag, hfrz]), if_pos hwaits,
        freezeEnds_lfrz hout' ha hd, hans, ofNat_status]
  · have hhere := latticeRequest_here hhome (.inl htag) (latOutcome_frza hop hx hkind har hfar)
    rw [if_pos hop] at hhere
    refine ⟨fun hst => ?_, fun hst => ?_⟩
    · rw [fires_request, hhere, frzaApply_frozen htag hwaits hst, freezeEnds_lfrza hout ha]
    · rw [fires_request, hhere, frzaApply_begins htag hwaits hst]

end Sys2Proof.HomeReq

/-! # SPAWN (R217 to R219) -/

namespace Sys2Proof.Spawn
open Sys2Proof Sys2Proof.Machine Sys2Proof.Claims Sys2Proof.Reads Sys2Proof.Control Sys2Proof.Access Sys2Proof.LatIssue

/-! ## The affinity word and the status (Table 8.8, R218) -/

theorem affinityOk_iff (z : Word) : affinityOk z.toNat = true ↔ affinityLegal z := by
  have hmode : bits z.toNat 1 0 = z.toNat % 4 := by simp [bits]
  have hhigh : z.toNat / 2 ^ 14 = 0 ↔ z.toNat < 2 ^ 14 := by omega
  have hbit : bitAt z.toNat 5 = false ↔ z.toNat / 2 ^ 5 % 2 = 0 := by
    rw [bitAt, beq_eq_false_iff_ne]
    omega
  rw [affinityOk, affinityLegal, hmode, Bool.and_eq_true, Bool.and_eq_true, bne_iff_ne, Bool.not_eq_true', hbit, beq_iff_eq, hhigh, and_assoc]

theorem affinityOk_of_legal {z : Word} (h : affinityLegal z) : affinityOk z.toNat = true := (affinityOk_iff z).2 h

theorem affinityOk_of_not_legal {z : Word} (h : ¬ affinityLegal z) : affinityOk z.toNat = false :=
  Bool.eq_false_iff.2 fun hok => h ((affinityOk_iff z).1 hok)

theorem refusedStatus_eq (r : Nat) : refusedStatus r = refusal r := by
  rw [refusedStatus, refusal, Nat.mul_comm, show (2 : Nat) ^ 8 = 256 from rfl]

theorem spawnEntry_eq (id : TaskId) (work : Work) (z : Nat) : spawnEntry id work z = entryOf id work z := by
  simp [spawnEntry, entryOf, bits]

theorem spawnWork_eq (s t : State) (l : Launch) (id : TaskId) (work : Work) (z : Nat) :
    t.spawnWork s.who l id work z = t.pushReady (dieFor s l z) (entryOf id work z) := by
  rw [State.spawnWork, spawnEntry_eq, dieFor]
  simp [bits]

section Operands

variable {s s1 s2 s3 : State} {i : Instr} {d a b : Fin 32} {x y z : Word}

theorem spawnOperands_history (hh : s.history s.who = true) : s.spawnOperands s.who i d a b = fail 0x08 (encodeWord i) := by
  rw [State.spawnOperands, hh, failIf_true, fail_bind]

theorem spawnOperands_ok (hh : s.history s.who = false) (ho : open_ s i) (ha : s.readG s.who a = .ok (x, s1)) (hb : s1.readG s.who b = .ok (y, s2))
    (hd : s2.readG s.who d = .ok (z, s3)) : s.spawnOperands s.who i d a b = .ok (x, y, z, s3) := by
  simp only [State.spawnOperands, hh, failIf_false, (checks_of_open ho).2, ha, hb, hd, ok_bind]

end Operands

/-! ## SPAWN of a task (R217, R218) -/

section Task

variable {s s1 s2 s3 : State} {i : Instr} {mode : IMode} {d a b : Fin 32} {wid arg z : Word} {l : Launch}

theorem spawnTask_illegal (hl : s.launch? (s.at s.who).task.launch = some l) (hm : mode ≠ .fifo) (hv : hVtime l.h = false) :
    spawnTask i mode d a b s = trapped s i 0x01 (encodeWord i) := by
  simp only [spawnTask, issue_base, hl, bne_iff_ne.2 hm, hv, Bool.not_false, Bool.and_true, failIf_true, fail_bind, finish_fail, trapped]

theorem spawnTask_history (hl : s.launch? (s.at s.who).task.launch = some l) (hm : mode = .fifo ∨ hVtime l.h = true)
    (hh : s.history s.who = true) : spawnTask i mode d a b s = trapped s i 0x08 (encodeWord i) := by
  have hok : (mode != .fifo && !hVtime l.h) = false := by
    rcases hm with rfl | hv
    · rfl
    · rw [hv, Bool.not_true, Bool.and_false]
  simp only [spawnTask, issue_base, hl, hok, failIf_false, ok_bind, spawnOperands_history hh, fail_bind, finish_fail, trapped]

/-- The tests of a SPAWN of a task, in their order (R218). -/
theorem spawnTask_eq (hl : s.launch? (s.at s.who).task.launch = some l) (hm : mode = .fifo ∨ hVtime l.h = true) (hh : s.history s.who = false)
    (ho : open_ s i) (ha : s.readG s.who a = .ok (wid, s1)) (hb : s1.readG s.who b = .ok (arg, s2)) (hd : s2.readG s.who d = .ok (z, s3)) :
    let id : TaskId := ⟨l.num, wid⟩
    let status (t : State) (v : Word) : Host.Outcome State Fault Refusal := .next ((t.writeG s.who d v).retireVar s.who i)
    spawnTask i mode d a b s =
      if affinityOk z.toNat = false then status s3 (refusal 1)
      else if l.noSuchWid wid = true then status s3 (refusal 3)
      else if affinityDies l z.toNat = false then status s3 (refusal 7)
      else if (s3.task? id).isSome then status s3 2
      else status ({ s3 with tasks := s3.tasks ++ [newTask id mode (z.toNat / 2 ^ 12 % 4) (ownerTag l.h wid.toNat) (s.th s.who).lvt
          (BitVec.ofNat 64 (hVtwin l.h)) true] }.pushReady (dieFor s l z.toNat) (entryOf id (.task arg mode (s.th s.who).lvt true) z.toNat)) 0 := by
  have hok : (mode != .fifo && !hVtime l.h) = false := by
    rcases hm with rfl | hv
    · rfl
    · rw [hv, Bool.not_true, Bool.and_false]
  have hprio : bits z.toNat 13 12 = z.toNat / 2 ^ 12 % 4 := by simp [bits]
  simp only [spawnTask, issue_base, hl, hok, failIf_false, ok_bind, spawnOperands_ok hh ho ha hb hd, refusedStatus_eq, spawnWork_eq, hprio,
    Bool.not_eq_true']
  split
  · rfl
  · split
    · rfl
    · split
      · rfl
      · split <;> rfl

theorem exec_spawnForm : ∀ f ∈ spawnForms, exec (f.1 d a b) s = spawnTask (f.1 d a b) f.2 d a b s := by
  intro f hf
  fin_cases hf <;> rfl

end Task

/-! ## SPAWN.C (R217, R218) -/

section Codelet

variable {s s1 s2 s3 : State} {d a b : Fin 32} {pc arg z : Word} {l : Launch}

/-- The tests of SPAWN.C, in their order. -/
theorem exec_spawnC (hh : s.history s.who = false) (ho : open_ s (.spawnC d a b)) (ha : s.readG s.who a = .ok (pc, s1))
    (hb : s1.readG s.who b = .ok (arg, s2)) (hd : s2.readG s.who d = .ok (z, s3)) (hl : s3.launch? (s3.at s.who).task.launch = some l) :
    let status (t : State) (v : Word) : Host.Outcome State Fault Refusal := .next ((t.writeG s.who d v).retireVar s.who (.spawnC d a b))
    exec (.spawnC d a b) s =
      if affinityOk z.toNat = false then status s3 (refusal 1)
      else if pc.toNat % 4 ≠ 0 then status s3 (refusal 2)
      else if affinityDies l z.toNat = false then status s3 (refusal 7)
      else status (s3.pushReady (dieFor s l z.toNat) (entryOf (s3.at s.who).task (.codelet pc arg (s3.th s.who).lvt) z.toNat)) 0 := by
  change execSpawnC d a b s = _
  simp only [execSpawnC, issue_base, spawnOperands_ok hh ho ha hb hd, ok_bind, hl, refusedStatus_eq, spawnWork_eq, Bool.not_eq_true', bne_iff_ne]
  split
  · rfl
  · split
    · rfl
    · split <;> rfl

end Codelet

/-! ## SPAWN.L (R218, R316, R326, R347) -/

section Launch

variable {s s1 s2 s3 : State} {d a b : Fin 32} {va arg z : Word} {l : Launch} {t : Xlat} {bs : List Byte}

theorem waitsAfter_ok {α : Type} (x : α) (chk : M Unit) : M.waitsAfter (.ok x) chk = .ok x := rfl

theorem exec_spawnL_misaligned (hh : s.history s.who = false) (ha : s.readG s.who a = .ok (va, s1)) (hal : va.toNat % 128 ≠ 0) :
    exec (.spawnL d a b) s = trapped s (.spawnL d a b) 0x05 va := by
  have halb : (va.toNat % 128 != 0) = true := bne_iff_ne.2 hal
  change execSpawnL d a b s = _
  rw [execSpawnL, issue_base, hh, failIf_false, ok_bind, ha, waitsAfter_ok, ok_bind]
  change finish s.who _ s (failIf (va.toNat % 128 != 0) 0x05 va >>= _) = _
  rw [halb, failIf_true, fail_bind, finish_fail, trapped]

theorem headerAt_eq (hhigh : va.toNat < 2 ^ 54) (hwin : va.toNat / 2 ^ 48 % 64 ≠ 63) (ht : s1.translate (s1.at s.who).asid va.toNat .load = .ok t) :
    s1.headerAt s.who va = (failIf (pteKind t.pte != 2) 0x0B va >>= fun _ => s1.checkedRead t.pa 128) := by
  have hloc : inLocal va.toNat = false := Bool.eq_false_iff.mpr fun h => hwin ((inLocal_iff _).mp h).1
  have hle : decide (2 ^ 54 ≤ va.toNat) = false := decide_eq_false (not_le.2 hhigh)
  rw [State.headerAt, hle, hloc, Bool.or_false, failIf_false, ok_bind, ht, ok_bind, kFrozen]

theorem read2_ok {w : Who} (hb : s1.readG w b = .ok (arg, s2)) (hd : s2.readG w d = .ok (z, s3)) : s1.read2 w b d = .ok (arg, z, s3) := by
  simp only [State.read2, hb, hd, ok_bind]

theorem exec_spawnL_kind (hh : s.history s.who = false) (ho : open_ s (.spawnL d a b)) (ha : s.readG s.who a = .ok (va, s1))
    (hb : s1.readG s.who b = .ok (arg, s2)) (hd : s2.readG s.who d = .ok (z, s3)) (hal : va.toNat % 128 = 0) (hhigh : va.toNat < 2 ^ 54)
    (hwin : va.toNat / 2 ^ 48 % 64 ≠ 63) (ht : s1.translate (s1.at s.who).asid va.toNat .load = .ok t) (hk : pteKind t.pte ≠ 2) :
    exec (.spawnL d a b) s = trapped s (.spawnL d a b) 0x0B va := by
  have halb : (va.toNat % 128 != 0) = false := bne_eq_false_iff_eq.2 hal
  have hhdr : s1.headerAt s.who va = fail 0x0B va := by
    rw [headerAt_eq hhigh hwin ht, bne_iff_ne.2 hk, failIf_true, fail_bind]
  have hbefore : M.beforeWait (fail 0x0B va : M (List Byte)) (.ok (arg, z, s3)) = fail 0x0B va := rfl
  change execSpawnL d a b s = _
  rw [execSpawnL, issue_base, hh, failIf_false, ok_bind, ha, waitsAfter_ok, ok_bind]
  change finish s.who _ s (failIf (va.toNat % 128 != 0) 0x05 va >>= fun _ => s.chkCb s.who (.spawnL d a b) >>= fun _ =>
    (s1.headerAt s.who va).beforeWait (s1.read2 s.who b d) >>= _) = _
  rw [halb, failIf_false, ok_bind, (checks_of_open ho).2, ok_bind, hhdr, read2_ok hb hd, hbefore, fail_bind, finish_fail, trapped]

/-- SPAWN.L of a header that was read: its tests in their order. -/
theorem exec_spawnL (hh : s.history s.who = false) (ho : open_ s (.spawnL d a b)) (ha : s.readG s.who a = .ok (va, s1))
    (hb : s1.readG s.who b = .ok (arg, s2)) (hd : s2.readG s.who d = .ok (z, s3)) (hl : s3.launch? (s3.at s.who).task.launch = some l)
    (hal : va.toNat % 128 = 0) (hhdr : s1.headerAt s.who va = .ok bs) :
    let status (t : State) (v : Word) : M State := .ok ((t.writeG s.who d v).retireVar s.who (.spawnL d a b))
    exec (.spawnL d a b) s = finish s.who (.spawnL d a b) s (
      if (!affinityOk z.toNat) = true then status s3 (refusedStatus 1)
      else if (!affinityDies l z.toNat) = true then status s3 (refusedStatus 7)
      else match s3.accepts (s3.at s.who).asid (natOf bs) with
        | .error r => status (s3.logHeader (s3.at s.who).asid (natOf bs)) (refusedStatus r)
        | .ok ad => match (if s3.cqRoom l.queue then s3.number? else none) with
          | none => .error (.busy .accept)
          | some n =>
            let q := newLaunch s3.nextKey n (natOf bs) (s3.at s.who).asid l.queue none arg ad
            let s4 : State := { s3 with launches := s3.launches ++ [q], nextKey := s3.nextKey + 1, nextNum := (n + 1) % 4096 }
            status (s4.post [.launchDispatch q.key]) (BitVec.ofNat 64 (n * 2 ^ 32))) := by
  have halb : (va.toNat % 128 != 0) = false := bne_eq_false_iff_eq.2 hal
  change execSpawnL d a b s = _
  rw [execSpawnL, issue_base, hh, failIf_false, ok_bind, ha, waitsAfter_ok, ok_bind]
  change finish s.who _ s (failIf (va.toNat % 128 != 0) 0x05 va >>= fun _ => s.chkCb s.who (.spawnL d a b) >>= fun _ =>
    (s1.headerAt s.who va).beforeWait (s1.read2 s.who b d) >>= _) = _
  rw [halb, failIf_false, ok_bind, (checks_of_open ho).2, ok_bind, hhdr, beforeWait_ok, ok_bind, read2_ok hb hd, ok_bind]
  change finish s.who _ s (match s3.launch? (s3.at s.who).task.launch with | none => _ | some l => _) = _
  rw [hl] <;> rfl

end Launch

/-- Settles O20, form by form; each by the order of its tests. -/
theorem spawnResult : Obligations.SpawnResult := by
  unfold Obligations.SpawnResult
  refine ⟨fun f hf s d a b s1 s2 s3 wid arg z l hl => ?_, fun s d a b s1 s2 s3 pc arg z l hh ho ha hb hd hl => ?_,
    fun s d a b s1 s2 s3 va arg z l t bs hh ho ha hb hd hl => ⟨exec_spawnL_misaligned hh ha, fun hal hhigh hwin ht => ⟨?_, fun hk hread => ?_⟩⟩⟩
  · rw [exec_spawnForm f hf]
    refine ⟨spawnTask_illegal hl, fun hm => ⟨spawnTask_history hl hm, fun hh ho ha hb hd => ?_⟩⟩
    rw [spawnTask_eq hl hm hh ho ha hb hd]
    refine ⟨fun hz => ?_, fun hz hw => ?_, fun hz hw hdie => ?_, fun hz hw hdie hid => ?_, fun hz hw hdie hid => ?_⟩
    · simp only [affinityOk_of_not_legal hz, if_true]
    · simp only [affinityOk_of_legal hz, hw, if_true, if_false, Bool.true_eq_false]
    · simp only [affinityOk_of_legal hz, hw, hdie, if_true, if_false, Bool.true_eq_false, Bool.false_eq_true]
    · simp only [affinityOk_of_legal hz, hw, hdie, hid, if_true, if_false, Bool.true_eq_false, Bool.false_eq_true]
    · simp only [affinityOk_of_legal hz, hw, hdie, hid, Option.isSome_none, if_false, Bool.true_eq_false, Bool.false_eq_true]
  · rw [exec_spawnC hh ho ha hb hd hl]
    refine ⟨fun hz => ?_, fun hz hpc => ?_, fun hz hpc hdie => ?_, fun hz hpc hdie => ?_⟩
    · simp only [affinityOk_of_not_legal hz, if_true]
    · simp only [affinityOk_of_legal hz, hpc, if_true, if_false, Bool.true_eq_false, ne_eq, not_false_iff]
    · simp only [affinityOk_of_legal hz, hpc, hdie, if_true, if_false, Bool.true_eq_false, ne_eq, not_true]
    · simp only [affinityOk_of_legal hz, hpc, hdie, if_false, Bool.true_eq_false, ne_eq, not_true]
  · exact exec_spawnL_kind hh ho ha hb hd hal hhigh hwin ht
  · have hhdr : s1.headerAt s.who va = .ok bs := by
      rw [headerAt_eq hhigh hwin ht, hk]
      exact hread
    rw [exec_spawnL hh ho ha hb hd hl hal hhdr]
    refine ⟨fun hz => ?_, fun hz hdie => ?_, fun r hz hdie hr => ?_, fun ad hz hdie had hnone => ?_, fun ad n hz hdie had hroom hn => ?_⟩
    · rw [affinityOk_of_not_legal hz, refusedStatus_eq]
      rfl
    · rw [← refusedStatus_eq, affinityOk_of_legal hz, hdie]
      rfl
    · rw [← refusedStatus_eq, affinityOk_of_legal hz, hdie, hr]
      rfl
    · have hno : (if s3.cqRoom l.queue then s3.number? else none) = none := by
        rcases hnone with hroom | hnum
        · rw [hroom]
          rfl
        · rw [hnum, ite_self]
      rw [affinityOk_of_legal hz, hdie, had, hno]
      rfl
    · rw [affinityOk_of_legal hz, hdie, had, hroom, hn]
      rfl

end Sys2Proof.Spawn

/-! # Context images, SLOTCTL and the invalidations (R231 to R234) -/

namespace Sys2Proof.Slots
open Sys2Proof Sys2Proof.Machine Sys2Proof.Claims Sys2Proof.Reads Sys2Proof.Control

/-! ## CTXSV and CTXLD (R231, R232) -/

section Context

variable {s s1 s2 : State} {d a : Fin 32} {va x : Word}

/-- CTXSV: its tests in order. -/
theorem exec_ctxsv (hw : s.who.slot = 15) (ho : open_ s (.ctxsv d a)) (ha : s.readG s.who a = .ok (va, s1)) (hd : s1.readG s.who d = .ok (x, s2)) :
    let v : Who := ⟨s.who.core, Fin.ofNat 16 x.toNat⟩
    let done (st : Word) : M State := .ok ((s2.writeG s.who d st).retireVar s.who (.ctxsv d a))
    exec (.ctxsv d a) s = finish s.who (.ctxsv d a) s (
      if 14 ≤ v.slot.val ∨ (s2.at v).st ≠ .trap then done 2
      else s2.readDescriptor s.who va >>= fun
        | none => done 1
        | some (base, len) =>
          if len < imgLen (isK8 s.who.core) / 32 then done 1
          else if (s2.core s.who.core).blocked then done 4
          else .ok ((s2.waitBusy s.who (.ctxsv d a) .save).beginSave v 1 (BitVec.ofNat 64 base) va)) := by
  have hops : s.chkOps s.who (.ctxsv d a) = .ok () := ho
  change execCtxsv d a s = _
  rw [execCtxsv, issue_sys _ _ _ hw, hops, ok_bind, ha, ok_bind]
  change finish s.who _ s (s1.readG s.who d >>= _) = _
  rw [hd, ok_bind] <;> rfl

/-- The blocks of 32 bytes of a core's image (R231). -/
theorem imageBlocks_eq (c : Nat) : imgLen (isK8 c) / 32 = if c < 1152 then 96 else 64 := by
  have hk : isK8 c = decide (c < 1152) := by
    rw [isK8, dieOf, decide_eq_decide]
    omega
  rw [hk]
  by_cases hc : c < 1152
  · rw [decide_eq_true hc, if_pos hc]
    rfl
  · rw [decide_eq_false hc, if_neg hc]
    rfl

/-- CTXLD: the slot's test, then the image. -/
theorem exec_ctxld (hw : s.who.slot = 15) (ho : open_ s (.ctxld d a)) (ha : s.readG s.who a = .ok (va, s1)) (hd : s1.readG s.who d = .ok (x, s2)) :
    let v : Who := ⟨s.who.core, Fin.ofNat 16 x.toNat⟩
    let done (p : State × Word) : M State := .ok ((p.1.writeG s.who d p.2).retireVar s.who (.ctxld d a))
    exec (.ctxld d a) s = finish s.who (.ctxld d a) s (
      if 14 ≤ v.slot.val ∨ ((s2.at v).st ≠ .empty ∧ (s2.at v).st ≠ .reserved) then done (s2, 2)
      else if va = 0 then done (s2.loadIntake v) else s2.loadFrom v va >>= done) := by
  have hops : s.chkOps s.who (.ctxld d a) = .ok () := ho
  change execCtxld d a s = _
  rw [execCtxld, issue_sys _ _ _ hw, hops, ok_bind, ha, ok_bind]
  change finish s.who _ s (s1.readG s.who d >>= _) = _
  rw [hd, ok_bind] <;> rfl

variable {v : Who} {e : CtxEntry}

theorem loadIntake_good (he : (s.core v.core).intake.find? (fun e => e.slot == v.slot && !e.incomplete) = some e)
    (hok : imageOk (isK8 v.core) e.img = true) : s.loadIntake v =
      ((s.updCore v.core fun k => { k with intake := k.intake.erase e }).placeImage v e.task e.img e.let_ e.prio true, 0) := by
  rw [State.loadIntake, he]
  exact if_pos hok

theorem loadIntake_refused (he : (s.core v.core).intake.find? (fun e => e.slot == v.slot && !e.incomplete) = some e)
    (hbad : imageOk (isK8 v.core) e.img = false) : s.loadIntake v =
      (if e.let_.isSome then s.ctxldRefused v e.task.launch 0
        else (s.ctxldRefused v e.task.launch 0).updTask e.task fun y => { y with place := .out v.core }, 1) := by
  rw [State.loadIntake, he]
  exact if_neg (Bool.eq_false_iff.1 hbad)

theorem loadIntake_none (he : (s.core v.core).intake.find? (fun e => e.slot == v.slot && !e.incomplete) = none) : s.loadIntake v = (s, 3) := by
  rw [State.loadIntake, he]

end Context

/-- Settles O24: CTXSV and CTXLD, each by the order of its tests. -/
theorem contextSaveAndLoad : Obligations.ContextSaveAndLoad := by
  unfold Obligations.ContextSaveAndLoad
  refine ⟨fun s d a s1 s2 va x base len hw ho ha hd => ?_, fun s d a s1 s2 va x hw ho ha hd => ?_⟩
  · rw [exec_ctxsv hw ho ha hd]
    refine ⟨fun hno => ?_, fun hslot htrap hdesc => ?_, fun hslot htrap hdesc => ?_⟩
    · change 14 ≤ _ ∨ (s2.at _).st ≠ .trap at hno
      rw [if_pos hno]
      rfl
    all_goals
      have htrap' : (s2.at ⟨s.who.core, Fin.ofNat 16 x.toNat⟩).st = .trap := htrap
      have hfits := not_or.2 ⟨not_le.2 hslot, not_not.2 htrap'⟩
      rw [if_neg hfits, hdesc, ok_bind]
    · rfl
    · simp only [imageBlocks_eq]
      refine ⟨fun hlen => ?_, fun hlen hblocked => ?_, fun hlen hfree => ?_⟩
      · rw [if_pos hlen]
        rfl
      · rw [if_neg (not_lt.2 hlen), if_pos hblocked]
        rfl
      · rw [if_neg (not_lt.2 hlen), if_neg (Bool.eq_false_iff.1 hfree), finish_ok]
  · rw [exec_ctxld hw ho ha hd]
    have hfits : ∀ {n : Nat} {st : SlotState}, n < 14 ∧ (st = .empty ∨ st = .reserved) → ¬ (14 ≤ n ∨ (st ≠ .empty ∧ st ≠ .reserved)) := by
      rintro n st ⟨hslot, hst⟩ (hge | ⟨hne, hnr⟩)
      · omega
      · exact hst.elim hne hnr
    refine ⟨fun hno => ?_, fun htakes hva e he hok => ?_, fun htakes hva e he hbad => ?_, fun htakes hva he => ?_, fun s3 r htakes hva hload => ?_⟩
    · rw [if_pos]
      · rfl
      · by_contra hyes
        rw [not_or, not_le, ← not_or, not_not] at hyes
        exact hno hyes
    all_goals rw [if_neg (hfits htakes)]
    · rw [if_pos hva, loadIntake_good he hok]
      rfl
    · rw [if_pos hva, loadIntake_refused he hbad]
      rfl
    · rw [if_pos hva, loadIntake_none he]
      rfl
    · rw [if_neg hva, hload, ok_bind, finish_ok]

/-! ## SLOTCTL (R233, Table 8.10) -/

section Control

variable {s s1 s2 : State} {d a b : Fin 32} {x y : Word}

/-- Whether SLOTCTL may act on a slot: a user slot or the landing slot, in TRAP. -/
def controllable (s : State) (v : Who) : Bool := v.slot != 15 && (s.at v).st == .trap

theorem controllable_iff (v : Who) : controllable s v = true ↔ v.slot ≠ 15 ∧ inTrap s v := by
  rw [controllable, Bool.and_eq_true, bne_iff_ne, beq_iff_eq, inTrap]

theorem controllable_of_not {v : Who} (h : ¬ (v.slot ≠ 15 ∧ inTrap s v)) : controllable s v = false :=
  Bool.eq_false_iff.2 fun hc => h ((controllable_iff v).1 hc)

theorem exec_slotctl (hw : s.who.slot = 15) (ho : open_ s (.slotctl d a b)) (ha : s.readG s.who a = .ok (x, s1)) (hb : s1.readG s.who b = .ok (y, s2))
    (hd : s2.chkDst s.who d = .ok ()) :
    let v : Who := ⟨s.who.core, Fin.ofNat 16 y.toNat⟩
    let done (t : State) (n : Nat) : M State := .ok ((t.writeG s.who d (BitVec.ofNat 64 n)).retireVar s.who (.slotctl d a b))
    exec (.slotctl d a b) s = finish s.who (.slotctl d a b) s (match x.toNat % 8 with
      | 0 => if controllable s2 v then done (s2.endTrapped v) 0 else done s2 1
      | 1 => if controllable s2 v then done ((s2.endReport v).endTrapped v) 0 else done s2 1
      | 2 => if !controllable s2 v || v.slot == 14 then done s2 1 else if (s2.core s.who.core).blocked then done s2 2 else done (s2.beginSave v 0 0 0) 0
      | 3 => done (s2.updCore s.who.core fun k => { k with hslot := v.slot }) 0
      | 4 => done s2 (stateCode (s2.at v).st)
      | _ => done s2 7) := by
  have hops : s.chkOps s.who (.slotctl d a b) = .ok () := ho
  change execSlotctl d a b s = _
  rw [execSlotctl, issue_sys _ _ _ hw, hops, ok_bind, State.read2, ha, ok_bind]
  change finish s.who _ s ((s1.readG s.who b >>= _) >>= _) = _
  rw [hb, ok_bind]
  change finish s.who _ s (s2.chkDst s.who d >>= _) = _
  rw [hd, ok_bind] <;> rfl

theorem stateCode_of_mem : ∀ p ∈ stateCodes, stateCode p.1 = p.2 := by decide

theorem endReport_eq (v : Who) : s.endReport v = if (s.at v).cause.toNat % 64 = 0x21 then s else s.post [.launchStop (s.at v).task.launch .fault
    (some ⟨0, (s.at v).cause.toNat % 64, (s.at v).cause.toNat / 2 ^ 8 % 2 ^ 8, v.core, v.slot.val, (s.at v).task.wid,
      if (s.at v).cause.toNat % 64 = 0x0F then (s.at v).lfpc else (s.at v).epc, (s.at v).tval, 0, none⟩)] := rfl

end Control

/-! ## XINV and CINV (R234) -/

section Invalidate

variable {s s1 s2 : State} {a b : Fin 32} {x y : Word}

/-- What XINV keeps is what its scope does not drop. -/
theorem dropXlat_eq (x y : Word) : s.dropXlat x.toNat (bits y.toNat 9 8) (bits y.toNat 7 0) =
    { s with tcache := s.tcache.filter fun e => !dropped x y e.asid e.page e.pte } := by
  have hbits : ∀ pte : Nat, pteSize pte = pte / 4 % 4 := fun pte => by simp [pteSize, bits]
  have hscope : bits y.toNat 9 8 = y.toNat / 2 ^ 8 % 4 := by simp [bits]
  have hasid : bits y.toNat 7 0 = y.toNat % 256 := by simp [bits]
  have hpage : ∀ page : Nat, page * 2 ^ 12 = page * 4096 := fun _ => rfl
  have hbeq : ∀ m n : Nat, (m == n) = decide (m = n) := fun _ _ => rfl
  rw [State.dropXlat, hscope, hasid]
  congr 1
  refine List.filter_congr fun e _ => ?_
  have hlt : y.toNat / 2 ^ 8 % 4 < 4 := Nat.mod_lt _ (by decide)
  have hsize : e.pte / 4 % 4 < 4 := Nat.mod_lt _ (by decide)
  simp only [dropped, hbits, hpage, bne, hbeq]
  interval_cases y.toNat / 2 ^ 8 % 4
  · simp only [Bool.decide_and]
    interval_cases e.pte / 4 % 4 <;> rfl
  · rfl
  · rfl
  · rfl

theorem exec_xinv (hw : s.who.slot = 15) (ho : open_ s (.xinv a b)) (ha : s.readG s.who a = .ok (x, s1)) (hb : s1.readG s.who b = .ok (y, s2)) :
    exec (.xinv a b) s = .next ((s2.dropXlat x.toNat (bits y.toNat 9 8) (bits y.toNat 7 0)).retireVar s.who (.xinv a b)) := by
  have hops : s.chkOps s.who (.xinv a b) = .ok () := ho
  change execXinv a b s = _
  rw [execXinv, issue_sys _ _ _ hw, hops, ok_bind, State.read2, ha, ok_bind]
  change finish s.who _ s ((s1.readG s.who b >>= _) >>= _) = _
  rw [hb, ok_bind] <;> rfl

theorem exec_cinv (hw : s.who.slot = 15) (ho : open_ s (.cinv a b)) (ha : s.readG s.who a = .ok (x, s1)) (hb : s1.readG s.who b = .ok (y, s2)) :
    exec (.cinv a b) s = .next ((s2.dropCopies (bits y.toNat 55 48) x.toNat (bits y.toNat 47 0)).retireVar s.who (.cinv a b)) := by
  have hops : s.chkOps s.who (.cinv a b) = .ok () := ho
  change execCinv a b s = _
  rw [execCinv, issue_sys _ _ _ hw, hops, ok_bind, State.read2, ha, ok_bind]
  change finish s.who _ s ((s1.readG s.who b >>= _) >>= _) = _
  rw [hb, ok_bind] <;> rfl

/-- A lookup in a table whose values were mapped. -/
theorem find?_mapValues {α : Type} (f : α → α) (t : Tbl α) (k : Nat) : Tbl.find? (t.map fun p => (p.1, f p.2)) k = (Tbl.find? t k).map f := by
  induction t with
  | nil => rfl
  | cons p t ih =>
    obtain ⟨j, v⟩ := p
    simp only [List.map_cons, Tbl.find?]
    split
    · rfl
    · exact ih

/-- The lines that a discard of copies leaves in a die's remote-data cache. -/
theorem mem_rdc_dropWhere (p : Nat → Nat → Bool) (die : Nat) (l : ILine) :
    l ∈ (s.dropWhere p).rdc.getD die [] ↔ l ∈ s.rdc.getD die [] ∧ p l.asid l.va = false := by
  have hrdc : (s.dropWhere p).rdc = s.rdc.map fun q => (q.1, q.2.filter fun i => !p i.asid i.va) := rfl
  rw [hrdc, Tbl.getD, find?_mapValues fun ls : List ILine => ls.filter fun i => !p i.asid i.va, Tbl.getD]
  cases Tbl.find? s.rdc die with
  | none => simp
  | some ls => simp

/-- A core without its copies of frozen data that `p` names. -/
def coreWithout (p : Nat → Nat → Bool) (k : Core) : Core :=
  { k with icache := k.icache.filter fun i => !p i.asid i.va, dcache := k.dcache.filter fun l => !(l.frozen && p l.asid l.va),
           coefs := k.coefs.filter fun t => !((List.range (t.bytes.length / 32 + 1)).any fun i => p t.asid (t.va.toNat / 32 * 32 + 32 * i)) }

/-- What a discard of copies leaves in a core's caches, and what else the core holds. -/
theorem core_dropWhere (p : Nat → Nat → Bool) {c : Nat} {k : Core} (hk : Tbl.find? s.cores c = some k) :
    ∃ k', Tbl.find? (s.dropWhere p).cores c = some k' ∧ k'.slots = k.slots ∧ k'.lmem = k.lmem ∧ k'.cbs = k.cbs ∧
      (∀ l, l ∈ k'.icache ↔ l ∈ k.icache ∧ p l.asid l.va = false) ∧
      ∀ l, l ∈ k'.dcache ↔ l ∈ k.dcache ∧ ¬ (l.frozen = true ∧ p l.asid l.va = true) := by
  have hcores : (s.dropWhere p).cores = s.cores.map fun q => (q.1, coreWithout p q.2) := rfl
  refine ⟨coreWithout p k, ?_, rfl, rfl, rfl, fun l => ?_, fun l => ?_⟩
  · rw [hcores, find?_mapValues, hk, Option.map_some]
  · simp [coreWithout]
  · simp only [coreWithout, List.mem_filter, Bool.not_eq_true', ← Bool.not_eq_true, Bool.and_eq_true]

/-- CINV's range as granules meet it (R234). -/
theorem inRange_iff (x y : Word) (asid va : Nat) :
    (asid == bits y.toNat 55 48 && decide (bits y.toNat 47 0 ≠ 0 ∧ va < x.toNat + bits y.toNat 47 0 ∧ x.toNat / 32 * 32 < va + 32)) = true ↔
      asid = y.toNat / 2 ^ 48 % 256 ∧ 0 < y.toNat % 2 ^ 48 ∧ va < x.toNat + y.toNat % 2 ^ 48 ∧ x.toNat / 32 * 32 < va + 32 := by
  have hasid : bits y.toNat 55 48 = y.toNat / 2 ^ 48 % 256 := by simp [bits]
  have hlen : bits y.toNat 47 0 = y.toNat % 2 ^ 48 := by simp [bits]
  rw [hasid, hlen, Bool.and_eq_true, beq_iff_eq, decide_eq_true_iff, Nat.pos_iff_ne_zero]

end Invalidate

/-- Settles O25: SLOTCTL by operation, XINV and CINV by what stays in the caches. -/
theorem slotControlAndInvalidations : Obligations.SlotControlAndInvalidations := by
  unfold Obligations.SlotControlAndInvalidations
  refine ⟨fun s d a b s1 s2 x y hw ho ha hb hd => ?_, fun s a b s1 s2 x y hw ha hb => ⟨fun ho => ?_, fun ho => ?_⟩⟩
  · rw [exec_slotctl hw ho ha hb hd]
    refine ⟨fun hop hno => ?_, fun hop hmay => ?_, fun hop hmay => ?_, fun hop hno => ?_, fun hop hmay h14 hblocked => ?_, fun hop hmay h14 hfree => ?_,
      fun hop => ?_, fun hop p hp hst => ?_, fun hop => ?_⟩
    · rw [controllable_of_not hno]
      interval_cases x.toNat % 8 <;> rfl
    · rw [hop, (controllable_iff _).2 hmay]
      rfl
    · rw [hop, (controllable_iff _).2 hmay]
      rfl
    · have hrefused : (!controllable s2 ⟨s.who.core, Fin.ofNat 16 y.toNat⟩ || (Fin.ofNat 16 y.toNat : Fin 16) == 14) = true := by
        rcases hno with hno | h14
        · rw [controllable_of_not hno]
          rfl
        · rw [Bool.or_eq_true]
          exact .inr (beq_iff_eq.2 h14)
      rw [hop, hrefused]
      rfl
    · rw [hop, (controllable_iff _).2 hmay, beq_eq_false_iff_ne.2 h14, hblocked]
      rfl
    · rw [hop, (controllable_iff _).2 hmay, beq_eq_false_iff_ne.2 h14, hfree]
      rfl
    · rw [hop]
      rfl
    · rw [hop, ← stateCode_of_mem p hp, ← hst]
      rfl
    · have hlt : x.toNat % 8 < 8 := Nat.mod_lt _ (by decide)
      interval_cases x.toNat % 8 <;> rfl
  · rw [exec_xinv hw ho ha hb, dropXlat_eq]
  · refine ⟨_, exec_cinv hw ho ha hb, rfl, rfl, fun die l => ?_, fun c k hk => ?_⟩
    · rw [State.dropCopies, mem_rdc_dropWhere, ← Bool.not_eq_true, inRange_iff]
    · obtain ⟨k', hk', hslots, hlmem, hcbs, hi, hdc⟩ := core_dropWhere _ hk
      refine ⟨k', hk', hslots, hlmem, hcbs, fun l => ?_, fun l => ?_⟩
      · rw [hi, ← Bool.not_eq_true, inRange_iff]
      · rw [hdc, inRange_iff]

end Sys2Proof.Slots

/-! # Floating formats: encodings, the grid and Round (R117, R123, R124) -/

namespace Sys2Proof.Floats
open Sys2Proof

/-! ## Powers of two and the binary logarithm -/

theorem scale2_pos {n d : Nat} (hd : 0 < d) (e : Int) : 0 < (scale2 n d e).2 := by
  rw [scale2]
  split
  · exact hd
  · exact Nat.mul_pos hd (Nat.two_pow_pos _)

/-- `scale2` multiplies by a power of two. -/
theorem scale2_eq (n d : Nat) (e : Int) : ((scale2 n d e).1 : ℚ) / (scale2 n d e).2 = n / d * 2 ^ e := by
  rw [scale2]
  split
  · next h =>
    have he : (2 : ℚ) ^ e = 2 ^ e.toNat := by rw [← zpow_natCast, Int.toNat_of_nonneg h]
    rw [he]
    push_cast
    ring
  · next h =>
    have he : (2 : ℚ) ^ e = (2 ^ (-e).toNat)⁻¹ := by rw [← zpow_natCast, ← zpow_neg, Int.toNat_of_nonneg (by omega), neg_neg]
    rw [he]
    push_cast
    rw [← div_div, div_eq_mul_inv]

theorem two_zpow_pos (e : Int) : (0 : ℚ) < 2 ^ e := zpow_pos (by norm_num) e

theorem two_zpow_succ (e : Int) : (2 : ℚ) ^ (e + 1) = 2 * 2 ^ e := by rw [zpow_add_one₀ (by norm_num), mul_comm]

theorem two_zpow_lt_iff {a b : Int} : (2 : ℚ) ^ a < 2 ^ b ↔ a < b := zpow_lt_zpow_iff_right₀ (by norm_num)

/-- The binary logarithm of a positive rational. -/
theorem floorLog2_spec {n d : Nat} (hn : 0 < n) (hd : 0 < d) :
    (2 : ℚ) ^ floorLog2 n d ≤ n / d ∧ (n : ℚ) / d < 2 ^ (floorLog2 n d + 1) := by
  have hnl : (2 : ℚ) ^ (Nat.log2 n : Int) ≤ n := by
    rw [zpow_natCast]
    exact_mod_cast Nat.log2_self_le hn.ne'
  have hnu : (n : ℚ) < 2 ^ ((Nat.log2 n : Int) + 1) := by
    rw [← Nat.cast_succ, zpow_natCast]
    exact_mod_cast Nat.lt_log2_self
  have hdl : (2 : ℚ) ^ (Nat.log2 d : Int) ≤ d := by
    rw [zpow_natCast]
    exact_mod_cast Nat.log2_self_le hd.ne'
  have hdu : (d : ℚ) < 2 ^ ((Nat.log2 d : Int) + 1) := by
    rw [← Nat.cast_succ, zpow_natCast]
    exact_mod_cast Nat.lt_log2_self
  have hdpos : (0 : ℚ) < d := Nat.cast_pos.2 hd
  set l : Int := (Nat.log2 n : Int) - Nat.log2 d with hl
  have hlow : (2 : ℚ) ^ (l - 1) ≤ n / d := by
    rw [le_div_iff₀ hdpos]
    calc (2 : ℚ) ^ (l - 1) * d ≤ 2 ^ (l - 1) * 2 ^ ((Nat.log2 d : Int) + 1) := mul_le_mul_of_nonneg_left hdu.le (two_zpow_pos _).le
      _ = 2 ^ (Nat.log2 n : Int) := by rw [← zpow_add₀ (by norm_num)]; congr 1; omega
      _ ≤ n := hnl
  have hhigh : (n : ℚ) / d < 2 ^ (l + 1) := by
    rw [div_lt_iff₀ hdpos]
    calc (n : ℚ) < 2 ^ ((Nat.log2 n : Int) + 1) := hnu
      _ = 2 ^ (l + 1) * 2 ^ (Nat.log2 d : Int) := by rw [← zpow_add₀ (by norm_num)]; congr 1; omega
      _ ≤ 2 ^ (l + 1) * d := mul_le_mul_of_nonneg_left hdl (two_zpow_pos _).le
  have hb : (0 : ℚ) < (scale2 n d (-l)).2 := Nat.cast_pos.2 (scale2_pos hd _)
  have hab := scale2_eq n d (-l)
  have hcancel : (2 : ℚ) ^ (-l) * 2 ^ l = 1 := by rw [← zpow_add₀ (by norm_num), neg_add_cancel, zpow_zero]
  have hlpos := two_zpow_pos l
  have hval : (n : ℚ) / d = (scale2 n d (-l)).1 / (scale2 n d (-l)).2 * 2 ^ l := by rw [hab, mul_assoc, hcancel, mul_one]
  have hfloor : floorLog2 n d = if (scale2 n d (-l)).1 < (scale2 n d (-l)).2 then l - 1
      else if 2 * (scale2 n d (-l)).2 ≤ (scale2 n d (-l)).1 then l + 1 else l := rfl
  rw [hfloor]
  split
  · next hlt =>
    refine ⟨hlow, ?_⟩
    rw [sub_add_cancel, hval]
    have hone : ((scale2 n d (-l)).1 : ℚ) / (scale2 n d (-l)).2 < 1 := (div_lt_one hb).2 (by exact_mod_cast hlt)
    exact mul_lt_of_lt_one_left hlpos hone
  · next hge =>
    have hone : (1 : ℚ) ≤ (scale2 n d (-l)).1 / (scale2 n d (-l)).2 := (one_le_div hb).2 (by exact_mod_cast not_lt.1 hge)
    split
    · next htwo =>
      exfalso
      have h2 : (2 : ℚ) ≤ (scale2 n d (-l)).1 / (scale2 n d (-l)).2 := (le_div_iff₀ hb).2 (by exact_mod_cast htwo)
      rw [hval, two_zpow_succ] at hhigh
      exact absurd (lt_of_mul_lt_mul_right hhigh hlpos.le) (not_lt.2 h2)
    · refine ⟨?_, hhigh⟩
      rw [hval]
      exact le_mul_of_one_le_left hlpos.le hone

/-- The binary logarithm is the only exponent of its kind. -/
theorem floorLog2_eq {n d : Nat} {e : Int} (hn : 0 < n) (hd : 0 < d) (hlow : (2 : ℚ) ^ e ≤ n / d) (hhigh : (n : ℚ) / d < 2 ^ (e + 1)) :
    floorLog2 n d = e := by
  obtain ⟨hl, hh⟩ := floorLog2_spec hn hd
  have h1 : e < floorLog2 n d + 1 := two_zpow_lt_iff.1 (hlow.trans_lt hh)
  have h2 : floorLog2 n d < e + 1 := two_zpow_lt_iff.1 (hl.trans_lt hhigh)
  omega

/-! ## The grid of a format -/

/-- Step `k` of a format's grid: 2^(k − bias − tw); k is the exponent field, 1 for the subnormals too (R117). -/
def step (f : Fmt) (k : Nat) : ℚ := 2 ^ ((k : Int) - f.bias - f.tw)

/-- A magnitude n / d is m steps of step k. The significand m may reach the next binade. -/
structure OnGrid (f : Fmt) (n d k m : Nat) : Prop where
  den : 0 < d
  value : (n : ℚ) / d = m * step f k
  one_le : 1 ≤ k
  le : m ≤ 2 ^ (f.tw + 1)
  normal : k = 1 ∨ 2 ^ f.tw ≤ m

/-- The encoding, without its sign, of a point of the grid. -/
def code (f : Fmt) (k m : Nat) : Nat := (k - 1) * 2 ^ f.tw + m

section Encode

variable {f : Fmt} {n d k m : Nat}

theorem step_pos (f : Fmt) (k : Nat) : 0 < step f k := two_zpow_pos _

theorem step_succ (f : Fmt) (k : Nat) : step f (k + 1) = 2 * step f k := by
  rw [step, step, ← two_zpow_succ]
  congr 1
  push_cast
  ring

/-- The significand read back from a value on the grid. -/
theorem significand (h : (n : ℚ) / d = m * step f k) (hd : 0 < d) (q : Int) (hq : q = (k : Int) - f.bias - f.tw) :
    (scale2 n d (-q)).1 = m * (scale2 n d (-q)).2 := by
  have hb : ((scale2 n d (-q)).2 : ℚ) ≠ 0 := by exact_mod_cast (scale2_pos hd _).ne'
  have hcancel : step f k * 2 ^ (-q) = 1 := by rw [step, ← hq, ← zpow_add₀ (by norm_num), add_neg_cancel, zpow_zero]
  have hval : ((scale2 n d (-q)).1 : ℚ) / (scale2 n d (-q)).2 = m := by rw [scale2_eq, h, mul_assoc, hcancel, mul_one]
  rw [div_eq_iff hb] at hval
  exact_mod_cast hval

theorem step_mul_pow (f : Fmt) (k j : Nat) : (2 ^ j : ℚ) * step f k = 2 ^ ((k : Int) + j - f.bias - f.tw) := by
  rw [step, ← zpow_natCast, ← zpow_add₀ (by norm_num)]
  congr 1
  ring

/-- The encoding of a value whose significand is below the next binade. -/
theorem encode_below (h : OnGrid f n d k m) (hm : m < 2 ^ (f.tw + 1)) (s : Bool) :
    f.encode (.fin s n d) = b2n s * 2 ^ (f.ew + f.tw) + code f k m := by
  obtain ⟨hd, hval, hk, -, hnorm⟩ := h
  have hdq : (0 : ℚ) < d := Nat.cast_pos.2 hd
  rcases Nat.eq_zero_or_pos m with rfl | hmpos
  · have hn : n = 0 := by
      rw [Nat.cast_zero, zero_mul, div_eq_zero_iff] at hval
      exact_mod_cast hval.resolve_right hdq.ne'
    have hk1 : k = 1 := hnorm.resolve_right (not_le.2 (Nat.two_pow_pos _))
    rw [Fmt.encode, if_pos hn, code, hk1]
    simp
  · have hn : 0 < n := by
      rw [Nat.pos_iff_ne_zero]
      rintro rfl
      rw [Nat.cast_zero, zero_div] at hval
      exact absurd hval (mul_pos (Nat.cast_pos.2 hmpos) (step_pos f k)).ne
    rw [Fmt.encode, if_neg hn.ne']
    rcases lt_or_ge m (2 ^ f.tw) with hsub | hnormal
    · have hk1 : k = 1 := hnorm.resolve_right (not_le.2 hsub)
      have he : floorLog2 n d < 1 - (f.bias : Int) := by
        rw [← two_zpow_lt_iff]
        calc (2 : ℚ) ^ floorLog2 n d ≤ n / d := (floorLog2_spec hn hd).1
          _ = m * step f k := hval
          _ < 2 ^ f.tw * step f k := mul_lt_mul_of_pos_right (by exact_mod_cast hsub) (step_pos f k)
          _ = 2 ^ (1 - (f.bias : Int)) := by rw [step_mul_pow, hk1]; congr 1; push_cast; ring
      have hq := significand hval hd (1 - (f.bias : Int) - f.tw) (by rw [hk1]; rfl)
      simp only [max_eq_right he.le, if_pos he, hq, Nat.mul_div_cancel _ (scale2_pos hd _), code, hk1]
      simp
    · have he : floorLog2 n d = (k : Int) - f.bias := by
        refine floorLog2_eq hn hd ?_ ?_
        · calc (2 : ℚ) ^ ((k : Int) - f.bias) = 2 ^ f.tw * step f k := by rw [step_mul_pow]; congr 1; ring
            _ ≤ m * step f k := mul_le_mul_of_nonneg_right (by exact_mod_cast hnormal) (step_pos f k).le
            _ = n / d := hval.symm
        · calc (n : ℚ) / d = m * step f k := hval
            _ < 2 ^ (f.tw + 1) * step f k := mul_lt_mul_of_pos_right (by exact_mod_cast hm) (step_pos f k)
            _ = 2 ^ ((k : Int) - f.bias + 1) := by rw [step_mul_pow]; congr 1; push_cast; ring
      have hq := significand hval hd ((k : Int) - f.bias - f.tw) rfl
      have hge : 1 - (f.bias : Int) ≤ k - f.bias := by omega
      have hexp : ((k : Int) - f.bias + f.bias).toNat = k := by omega
      simp only [he, max_eq_left hge, if_neg (not_lt.2 hge), hq, Nat.mul_div_cancel _ (scale2_pos hd _), code, hexp]
      have hmul : k * 2 ^ f.tw = (k - 1) * 2 ^ f.tw + 2 ^ f.tw := by
        conv_lhs => rw [← Nat.sub_add_cancel hk]
        rw [Nat.add_mul, one_mul]
      omega

/-- The encoding of a value on the grid. -/
theorem encode_onGrid (h : OnGrid f n d k m) (s : Bool) : f.encode (.fin s n d) = b2n s * 2 ^ (f.ew + f.tw) + code f k m := by
  rcases lt_or_eq_of_le h.le with hm | hm
  · exact encode_below h hm s
  · have hnext : OnGrid f n d (k + 1) (2 ^ f.tw) := by
      refine ⟨h.den, ?_, by omega, Nat.pow_le_pow_right (by norm_num) (by omega), .inr le_rfl⟩
      rw [h.value, hm, step_succ]
      push_cast
      ring
    rw [encode_below hnext (Nat.pow_lt_pow_right (by norm_num) (by omega)) s, code, code, hm]
    have hmul : (k + 1 - 1) * 2 ^ f.tw = (k - 1) * 2 ^ f.tw + 2 ^ f.tw := by
      rw [Nat.add_sub_cancel]
      conv_lhs => rw [← Nat.sub_add_cancel h.one_le]
      rw [Nat.add_mul, one_mul]
    rw [hmul, pow_succ]
    omega

/-- A value that is no greater has no greater encoding. -/
theorem code_le {n' d' k' m' : Nat} (h : OnGrid f n d k m) (h' : OnGrid f n' d' k' m') (hm' : m' < 2 ^ (f.tw + 1))
    (hle : (n : ℚ) / d ≤ n' / d') : code f k m ≤ code f k' m' := by
  by_contra hgt
  rw [not_le] at hgt
  rw [h.value, h'.value] at hle
  have hk' := h'.one_le
  have hk := h.one_le
  rcases lt_trichotomy k k' with hlt | rfl | hlt
  · have hnormal : 2 ^ f.tw ≤ m' := h'.normal.resolve_left (by omega)
    have hstep : (k - 1) * 2 ^ f.tw + 2 * 2 ^ f.tw ≤ (k' - 1) * 2 ^ f.tw + 2 ^ f.tw := by
      have hmul : (k - 1 + 1) * 2 ^ f.tw ≤ (k' - 1) * 2 ^ f.tw := Nat.mul_le_mul_right _ (by omega)
      rw [Nat.add_mul, one_mul] at hmul
      omega
    have hm := h.le
    rw [pow_succ] at hm
    rw [code, code] at hgt
    omega
  · rw [code, code] at hgt
    have hm : m' < m := by omega
    have : (m' : ℚ) * step f k < m * step f k := mul_lt_mul_of_pos_right (by exact_mod_cast hm) (step_pos f k)
    exact absurd hle (not_le.2 this)
  · have hnormal : 2 ^ f.tw ≤ m := h.normal.resolve_left (by omega)
    have hstep : 2 * step f k' ≤ step f k := by
      rw [← step_succ, step, step]
      exact zpow_le_zpow_right₀ (by norm_num) (by omega)
    have hlt' : (m' : ℚ) * step f k' < m * step f k := by
      calc (m' : ℚ) * step f k' < 2 ^ (f.tw + 1) * step f k' := mul_lt_mul_of_pos_right (by exact_mod_cast hm') (step_pos f k')
        _ = 2 ^ f.tw * (2 * step f k') := by ring
        _ ≤ 2 ^ f.tw * step f k := mul_le_mul_of_nonneg_left hstep (by positivity)
        _ ≤ m * step f k := mul_le_mul_of_nonneg_right (by exact_mod_cast hnormal) (step_pos f k).le
    exact absurd hle (not_le.2 hlt')

end Encode

/-! ## Decoding -/

section Decode

variable {f : Fmt} {x : Nat}

theorem pow2_onGrid {t k : Nat} (hk : 1 ≤ k) (ht : t ≤ 2 ^ (f.tw + 1)) (hn : k = 1 ∨ 2 ^ f.tw ≤ t) (s : Bool) :
    ∃ n d, Val.pow2 s t ((k : Int) - f.bias - f.tw) = .fin s n d ∧ OnGrid f n d k t := by
  refine ⟨(scale2 t 1 ((k : Int) - f.bias - f.tw)).1, (scale2 t 1 ((k : Int) - f.bias - f.tw)).2, rfl, scale2_pos one_pos _, ?_, hk, ht, hn⟩
  rw [scale2_eq, Nat.cast_one, div_one, step]

/-- The magnitude bits of an encoding, taken apart. -/
theorem magnitude_eq (f : Fmt) (x : Nat) : x % 2 ^ (f.ew + f.tw) = x / 2 ^ f.tw % 2 ^ f.ew * 2 ^ f.tw + x % 2 ^ f.tw := by
  rw [Nat.add_comm f.ew, pow_add, Nat.mod_mul, Nat.mul_comm (2 ^ f.tw), Nat.add_comm]

/-- An encoding that is neither a NaN nor an infinity stands for a point of the grid, whose code it holds. -/
theorem decode_onGrid (hnan : (f.decode x).isNan = false) (hinf : (f.decode x).isInf = false) :
    ∃ n d k m, f.decode x = .fin (bitAt x (f.ew + f.tw)) n d ∧ OnGrid f n d k m ∧ m < 2 ^ (f.tw + 1) ∧ code f k m = x % 2 ^ (f.ew + f.tw) := by
  have hmant : x % 2 ^ f.tw < 2 ^ f.tw := Nat.mod_lt _ (Nat.two_pow_pos _)
  have hmag := magnitude_eq f x
  have hdec : f.decode x = if x / 2 ^ f.tw % 2 ^ f.ew = 0 then Val.pow2 (bitAt x (f.ew + f.tw)) (x % 2 ^ f.tw) (1 - (f.bias : Int) - f.tw)
    else if f.hasInf && x / 2 ^ f.tw % 2 ^ f.ew == 2 ^ f.ew - 1 then (if x % 2 ^ f.tw = 0 then .inf (bitAt x (f.ew + f.tw)) else .nan)
    else if f.hasNan && !f.hasInf && x / 2 ^ f.tw % 2 ^ f.ew == 2 ^ f.ew - 1 && x % 2 ^ f.tw == 2 ^ f.tw - 1 then .nan
    else Val.pow2 (bitAt x (f.ew + f.tw)) (2 ^ f.tw + x % 2 ^ f.tw) (((x / 2 ^ f.tw % 2 ^ f.ew : Nat) : Int) - f.bias - f.tw) := rfl
  rw [hdec] at hnan hinf ⊢
  generalize x / 2 ^ f.tw % 2 ^ f.ew = e at *
  split at hnan
  · next he =>
    rw [if_pos he]
    have hlt : x % 2 ^ f.tw < 2 ^ (f.tw + 1) := by omega
    obtain ⟨n, d, hp, hg⟩ := pow2_onGrid (f := f) le_rfl hlt.le (.inl rfl) (bitAt x (f.ew + f.tw))
    refine ⟨n, d, 1, _, hp, hg, hlt, ?_⟩
    rw [code, hmag, he, Nat.sub_self, Nat.zero_mul]
  · next he =>
    rw [if_neg he] at hinf ⊢
    split at hnan
    · next htop =>
      rw [if_pos htop] at hinf
      split at hnan
      · next ht =>
        rw [if_pos ht] at hinf
        exact absurd hinf (by simp [Val.isInf])
      · exact absurd hnan (by simp [Val.isNan])
    · next htop =>
      rw [if_neg htop]
      split at hnan
      · exact absurd hnan (by simp [Val.isNan])
      · next hones =>
        rw [if_neg hones]
        have hlt : 2 ^ f.tw + x % 2 ^ f.tw < 2 ^ (f.tw + 1) := by
          rw [pow_succ]
          omega
        obtain ⟨n, d, hp, hg⟩ := pow2_onGrid (f := f) (Nat.one_le_iff_ne_zero.2 he) hlt.le (.inr (Nat.le_add_right _ _)) (bitAt x (f.ew + f.tw))
        refine ⟨n, d, e, _, hp, hg, hlt, ?_⟩
        rw [code, hmag]
        have hmul : e * 2 ^ f.tw = (e - 1) * 2 ^ f.tw + 2 ^ f.tw := by
          conv_lhs => rw [← Nat.sub_add_cancel (Nat.one_le_iff_ne_zero.2 he)]
          rw [Nat.add_mul, one_mul]
        omega

/-- An encoding below the sign bit's next power is its sign and its magnitude. -/
theorem eq_sign_add_magnitude (hx : x < 2 ^ f.width) : x = b2n (bitAt x (f.ew + f.tw)) * 2 ^ (f.ew + f.tw) + x % 2 ^ (f.ew + f.tw) := by
  have hq : x / 2 ^ (f.ew + f.tw) < 2 := by
    rw [Nat.div_lt_iff_lt_mul (Nat.two_pow_pos _), ← pow_succ']
    rwa [Fmt.width, Nat.add_assoc, Nat.add_comm 1] at hx
  have hbit : b2n (bitAt x (f.ew + f.tw)) = x / 2 ^ (f.ew + f.tw) := by
    rw [bitAt]
    interval_cases x / 2 ^ (f.ew + f.tw) <;> rfl
  rw [hbit, Nat.mul_comm, Nat.div_add_mod]

/-- A format's widths are not degenerate, and its canonical NaN is an encoding. -/
structure Sound (f : Fmt) : Prop where
  ew : 1 ≤ f.ew
  tw : 1 ≤ f.tw
  nan : f.nan < 2 ^ f.width

/-- Every format of Table 5.1. -/
theorem sound_formats : ∀ f ∈ [fp64, fp32, fp16, bf16, e5m2, e4m3, e2m1], Sound f := by
  intro f hf
  fin_cases hf <;> exact ⟨by decide, by decide, by decide⟩

theorem sound_of_fmt {e : EType} (he : e.fmt = some f) : Sound f := by
  refine sound_formats f ?_
  cases e <;> simp only [EType.fmt, Option.some.injEq, reduceCtorEq] at he <;> subst he <;> simp

/-- The magnitudes of the finite encodings are those up to the greatest one. -/
theorem finite_iff (hf : Sound f) : ((f.decode x).isNan = false ∧ (f.decode x).isInf = false) ↔ x % 2 ^ (f.ew + f.tw) ≤ f.maxEnc := by
  have hdec : f.decode x = if x / 2 ^ f.tw % 2 ^ f.ew = 0 then Val.pow2 (bitAt x (f.ew + f.tw)) (x % 2 ^ f.tw) (1 - (f.bias : Int) - f.tw)
    else if f.hasInf && x / 2 ^ f.tw % 2 ^ f.ew == 2 ^ f.ew - 1 then (if x % 2 ^ f.tw = 0 then .inf (bitAt x (f.ew + f.tw)) else .nan)
    else if f.hasNan && !f.hasInf && x / 2 ^ f.tw % 2 ^ f.ew == 2 ^ f.ew - 1 && x % 2 ^ f.tw == 2 ^ f.tw - 1 then .nan
    else Val.pow2 (bitAt x (f.ew + f.tw)) (2 ^ f.tw + x % 2 ^ f.tw) (((x / 2 ^ f.tw % 2 ^ f.ew : Nat) : Int) - f.bias - f.tw) := rfl
  have hpow : ∀ s n q, (Val.pow2 s n q).isNan = false ∧ (Val.pow2 s n q).isInf = false := fun _ _ _ => ⟨rfl, rfl⟩
  have hmant : x % 2 ^ f.tw < 2 ^ f.tw := Nat.mod_lt _ (Nat.two_pow_pos _)
  have hexp : x / 2 ^ f.tw % 2 ^ f.ew < 2 ^ f.ew := Nat.mod_lt _ (Nat.two_pow_pos _)
  have he2 : 2 ≤ 2 ^ f.ew := Nat.pow_le_pow_right (by norm_num) hf.ew |>.trans' (by norm_num)
  have ht2 : 2 ≤ 2 ^ f.tw := Nat.pow_le_pow_right (by norm_num) hf.tw |>.trans' (by norm_num)
  rw [magnitude_eq, Fmt.maxEnc, hdec]
  rw [pow_add]
  generalize x / 2 ^ f.tw % 2 ^ f.ew = e at *
  generalize x % 2 ^ f.tw = t at *
  generalize 2 ^ f.ew = E at *
  generalize 2 ^ f.tw = T at *
  have hfull : e = E - 1 ∨ e + 2 ≤ E := by omega
  have hlast : (E - 1) * T + T = E * T := by
    conv_rhs => rw [← Nat.sub_add_cancel (show 1 ≤ E by omega)]
    rw [Nat.add_mul, one_mul]
  have hother : e + 2 ≤ E → e * T + t < (E - 1) * T := fun h => by
    have : (e + 1) * T ≤ (E - 1) * T := Nat.mul_le_mul_right _ (by omega)
    rw [Nat.add_mul, one_mul] at this
    omega
  have hpos : 2 ≤ (E - 1) * T := ht2.trans (Nat.le_mul_of_pos_left _ (by omega))
  have htop : e = E - 1 → e * T + t = (E - 1) * T + t := fun h => by rw [h]
  have hnan : Val.nan.isNan = true := rfl
  have hinf : ∀ s, (Val.inf s).isInf = true := fun _ => rfl
  cases f.hasInf <;> cases f.hasNan <;>
    simp only [Bool.true_and, Bool.false_and, Bool.not_false, Bool.not_true, Bool.and_true, Bool.and_false, Bool.and_eq_true, beq_iff_eq, if_true, if_false,
      Bool.false_eq_true]
  · split <;> simp only [hpow, and_self, true_iff] <;> omega
  · split
    · simp only [hpow, and_self, true_iff]
      omega
    · split
      · simp only [hnan, Bool.true_eq_false, false_and, false_iff]
        omega
      · simp only [hpow, and_self, true_iff]
        omega
  all_goals
    split
    · simp only [hpow, and_self, true_iff]
      omega
    · split
      · split <;> simp only [hnan, hinf, Bool.true_eq_false, false_and, and_false, false_iff] <;> omega
      · simp only [hpow, and_self, true_iff]
        omega

/-- The greatest finite encoding stands for a point of the grid. -/
theorem maxEnc_lt (hf : Sound f) : f.maxEnc < 2 ^ (f.ew + f.tw) := by
  have he2 : 2 ≤ 2 ^ f.ew := Nat.pow_le_pow_right (by norm_num) hf.ew |>.trans' (by norm_num)
  have ht2 : 2 ≤ 2 ^ f.tw := Nat.pow_le_pow_right (by norm_num) hf.tw |>.trans' (by norm_num)
  rw [Fmt.maxEnc, pow_add]
  have hle : (2 ^ f.ew - 1) * 2 ^ f.tw ≤ 2 ^ f.ew * 2 ^ f.tw := Nat.mul_le_mul_right _ (Nat.sub_le _ _)
  have hpos : 4 ≤ 2 ^ f.ew * 2 ^ f.tw := Nat.mul_le_mul he2 ht2
  split
  · omega
  · split <;> omega

theorem decode_maxEnc (hf : Sound f) :
    ∃ n d k m, f.decode f.maxEnc = .fin false n d ∧ OnGrid f n d k m ∧ m < 2 ^ (f.tw + 1) ∧ code f k m = f.maxEnc := by
  have hmod : f.maxEnc % 2 ^ (f.ew + f.tw) = f.maxEnc := Nat.mod_eq_of_lt (maxEnc_lt hf)
  obtain ⟨hnan, hinf⟩ := (finite_iff (x := f.maxEnc) hf).2 hmod.le
  obtain ⟨n, d, k, m, hdec, hg, hm, hcode⟩ := decode_onGrid hnan hinf
  have hsign : bitAt f.maxEnc (f.ew + f.tw) = false := by
    rw [bitAt, Nat.div_eq_of_lt (maxEnc_lt hf)]
    rfl
  exact ⟨n, d, k, m, hsign ▸ hdec, hg, hm, hcode.trans hmod⟩

/-- Encoding is the inverse of decoding, but for the NaNs (R117). -/
theorem encode_decode (hx : x < 2 ^ f.width) (hnan : (f.decode x).isNan = false) : f.encode (f.decode x) = x := by
  cases hinf : (f.decode x).isInf with
  | false =>
    obtain ⟨n, d, k, m, hdec, hg, -, hcode⟩ := decode_onGrid hnan hinf
    rw [hdec, encode_onGrid hg, hcode, ← eq_sign_add_magnitude hx]
  | true =>
    have hpow : ∀ s n q, (Val.pow2 s n q).isInf = false := fun _ _ _ => rfl
    have hmag := magnitude_eq f x
    have heq := eq_sign_add_magnitude hx
    simp only [Fmt.decode] at hinf hnan ⊢
    split at hinf
    · rw [hpow] at hinf
      exact absurd hinf (by simp)
    · next he =>
      rw [if_neg he]
      split at hinf
      · next htop =>
        rw [if_pos htop] at hnan ⊢
        rw [Bool.and_eq_true, beq_iff_eq] at htop
        split at hinf
        · next ht =>
          rw [if_pos ht]
          rw [htop.2, ht, Nat.add_zero] at hmag
          rw [Fmt.encode, ← hmag, ← heq]
        · exact absurd hinf (by simp [Val.isInf])
      · split at hinf
        · exact absurd hinf (by simp [Val.isInf])
        · rw [hpow] at hinf
          exact absurd hinf (by simp)

end Decode

/-! ## Round (R123, R124) -/

/-- A value of a format: NaN, an infinity, or a point of the grid that is no greater than the greatest finite value. -/
inductive Value (f : Fmt) : Val → Prop
  | nan : Value f .nan
  | inf (s : Bool) : Value f (.inf s)
  | fin {s : Bool} {n d k m : Nat} (grid : OnGrid f n d k m) (le : code f k m ≤ f.maxEnc) : Value f (.fin s n d)

/-- A value with a denominator. -/
def Proper (v : Val) : Prop := ∀ s n d, v = .fin s n d → 0 < d

section Round

variable {f : Fmt} {v : Val} {x : Nat}

theorem Value.proper (h : Value f v) : Proper v := by
  cases h with
  | nan => exact fun _ _ _ h => by simp at h
  | inf s => exact fun _ _ _ h => by simp at h
  | fin hg _ =>
    rintro _ _ _ ⟨⟩
    exact hg.den

theorem value_decode (hf : Sound f) (x : Nat) : Value f (f.decode x) := by
  cases hnan : (f.decode x).isNan with
  | true =>
    cases h : f.decode x with
    | nan => exact .nan
    | inf s => exact .inf s
    | fin s n d => rw [h] at hnan; simp [Val.isNan] at hnan
  | false =>
    cases hinf : (f.decode x).isInf with
    | true =>
      cases h : f.decode x with
      | nan => exact .nan
      | inf s => exact .inf s
      | fin s n d => rw [h] at hinf; simp [Val.isInf] at hinf
    | false =>
      obtain ⟨n, d, k, m, hdec, hg, -, hcode⟩ := decode_onGrid hnan hinf
      rw [hdec]
      exact .fin hg (hcode.le.trans ((finite_iff hf).1 ⟨hnan, hinf⟩))

/-- The encoding of a value of the format is one of the format's encodings. -/
theorem encode_lt (hf : Sound f) (h : Value f v) : f.encode v < 2 ^ f.width := by
  have hwidth : 2 ^ f.width = 2 ^ (f.ew + f.tw) + 2 ^ (f.ew + f.tw) := by rw [Fmt.width, Nat.add_assoc, Nat.add_comm, pow_succ, Nat.mul_two]
  have hsign : ∀ s, b2n s * 2 ^ (f.ew + f.tw) ≤ 2 ^ (f.ew + f.tw) := fun s => by cases s <;> simp [b2n]
  cases h with
  | nan => exact hf.nan
  | inf s =>
    have hlt : (2 ^ f.ew - 1) * 2 ^ f.tw < 2 ^ (f.ew + f.tw) := by
      rw [pow_add]
      exact Nat.mul_lt_mul_of_pos_right (Nat.sub_lt (Nat.two_pow_pos _) one_pos) (Nat.two_pow_pos _)
    change b2n s * 2 ^ (f.ew + f.tw) + (2 ^ f.ew - 1) * 2 ^ f.tw < _
    have := hsign s
    omega
  | @fin s n d k m hg hle =>
    rw [encode_onGrid hg]
    have := hsign s
    have := maxEnc_lt hf
    omega

theorem roundNat_bounds (mode : RMode) (neg : Bool) (n d mix : Nat) : n / d ≤ roundNat mode neg n d mix ∧ roundNat mode neg n d mix ≤ n / d + 1 := by
  rw [roundNat]
  split
  · omega
  · split <;> omega

theorem roundNat_exact (mode : RMode) (neg : Bool) (m mix : Nat) {d : Nat} (hd : 0 < d) : roundNat mode neg (m * d) d mix = m := by
  rw [roundNat, Nat.mul_mod_left, if_pos rfl, Nat.mul_div_cancel _ hd]

/-- RoundGrid's step for a positive value. -/
def gridStep (f : Fmt) (n d : Nat) : Nat := (max (floorLog2 n d) (1 - (f.bias : Int)) + f.bias).toNat

theorem gridStep_eq (f : Fmt) (n d : Nat) : ((gridStep f n d : Nat) : Int) = max (floorLog2 n d) (1 - (f.bias : Int)) + f.bias := by
  rw [gridStep, Int.toNat_of_nonneg]
  have := le_max_right (floorLog2 n d) (1 - (f.bias : Int))
  omega

theorem grid_eq (f : Fmt) (mode : RMode) (mix : Nat) (neg : Bool) {n d : Nat} (hn : 0 < n) :
    f.grid mode mix neg n d = Val.pow2 neg (roundNat mode neg (scale2 n d (-((gridStep f n d : Int) - f.bias - f.tw))).1
      (scale2 n d (-((gridStep f n d : Int) - f.bias - f.tw))).2 mix) ((gridStep f n d : Int) - f.bias - f.tw) := by
  have hq : (gridStep f n d : Int) - f.bias - f.tw = max (floorLog2 n d) (1 - (f.bias : Int)) - f.tw := by
    rw [gridStep_eq]
    ring
  rw [hq, Fmt.grid, if_neg hn.ne']

/-- RoundGrid gives a point of the grid (R123). -/
theorem grid_onGrid (f : Fmt) (mode : RMode) (mix : Nat) (neg : Bool) {n d : Nat} (hd : 0 < d) :
    ∃ n' d' k m, f.grid mode mix neg n d = .fin neg n' d' ∧ OnGrid f n' d' k m := by
  rcases Nat.eq_zero_or_pos n with rfl | hn
  · refine ⟨0, 1, 1, 0, rfl, one_pos, ?_, le_rfl, Nat.zero_le _, .inl rfl⟩
    rw [Nat.cast_zero, zero_div, zero_mul]
  · rw [grid_eq f mode mix neg hn]
    have hk := gridStep_eq f n d
    set k := gridStep f n d
    set p := scale2 n d (-((k : Int) - f.bias - f.tw)) with hp
    have hpos : 0 < p.2 := scale2_pos hd _
    have hposq : (0 : ℚ) < p.2 := Nat.cast_pos.2 hpos
    have hval : (p.1 : ℚ) / p.2 = n / d * 2 ^ (-((k : Int) - f.bias - f.tw)) := scale2_eq _ _ _
    obtain ⟨hlow, hhigh⟩ := floorLog2_spec hn hd
    have hmaxl := le_max_left (floorLog2 n d) (1 - (f.bias : Int))
    have hmaxr := le_max_right (floorLog2 n d) (1 - (f.bias : Int))
    have hlt : p.1 / p.2 < 2 ^ (f.tw + 1) := by
      rw [Nat.div_lt_iff_lt_mul hpos]
      have hq : (p.1 : ℚ) / p.2 < 2 ^ (f.tw + 1) := by
        calc (p.1 : ℚ) / p.2 < 2 ^ (floorLog2 n d + 1) * 2 ^ (-((k : Int) - f.bias - f.tw)) := by
              rw [hval]
              exact mul_lt_mul_of_pos_right hhigh (two_zpow_pos _)
          _ = 2 ^ (floorLog2 n d + 1 + -((k : Int) - f.bias - f.tw)) := (zpow_add₀ (by norm_num) (floorLog2 n d + 1) _).symm
          _ ≤ 2 ^ ((f.tw + 1 : Nat) : Int) := zpow_le_zpow_right₀ (by norm_num) (by push_cast; omega)
          _ = 2 ^ (f.tw + 1) := zpow_natCast _ _
      rw [div_lt_iff₀ hposq] at hq
      exact_mod_cast hq
    have hge : k = 1 ∨ 2 ^ f.tw ≤ p.1 / p.2 := by
      rcases max_choice (floorLog2 n d) (1 - (f.bias : Int)) with hmax | hmax
      · right
        rw [Nat.le_div_iff_mul_le hpos]
        have hq : (2 : ℚ) ^ f.tw ≤ p.1 / p.2 := by
          calc (2 : ℚ) ^ f.tw = 2 ^ (floorLog2 n d) * 2 ^ (-((k : Int) - f.bias - f.tw)) := by
                rw [← zpow_add₀ (by norm_num), ← zpow_natCast]
                congr 1
                omega
            _ ≤ n / d * 2 ^ (-((k : Int) - f.bias - f.tw)) := mul_le_mul_of_nonneg_right hlow (two_zpow_pos _).le
            _ = p.1 / p.2 := hval.symm
        rw [le_div_iff₀ hposq] at hq
        exact_mod_cast hq
      · left
        omega
    obtain ⟨hrl, hru⟩ := roundNat_bounds mode neg p.1 p.2 mix
    obtain ⟨n', d', hpow, hg⟩ := pow2_onGrid (f := f) (k := k) (t := roundNat mode neg p.1 p.2 mix) (by omega) (by omega)
      (hge.imp_right fun h => h.trans hrl) neg
    exact ⟨n', d', k, _, hpow, hg⟩

/-- The step of a point of the grid that is below the next binade, and no zero. -/
theorem gridStep_onGrid {n d k m : Nat} (hg : OnGrid f n d k m) (hm : m < 2 ^ (f.tw + 1)) (hmpos : 0 < m) : 0 < n ∧ gridStep f n d = k := by
  obtain ⟨hd, hval, hk, -, hnorm⟩ := hg
  have hn : 0 < n := by
    rw [Nat.pos_iff_ne_zero]
    rintro rfl
    rw [Nat.cast_zero, zero_div] at hval
    exact absurd hval (mul_pos (Nat.cast_pos.2 hmpos) (step_pos f k)).ne
  obtain ⟨hlow, hhigh⟩ := floorLog2_spec hn hd
  have hupper : floorLog2 n d < (k : Int) - f.bias + 1 := by
    rw [← two_zpow_lt_iff]
    calc (2 : ℚ) ^ floorLog2 n d ≤ n / d := hlow
      _ = m * step f k := hval
      _ < 2 ^ (f.tw + 1) * step f k := mul_lt_mul_of_pos_right (by exact_mod_cast hm) (step_pos f k)
      _ = 2 ^ ((k : Int) - f.bias + 1) := by rw [step_mul_pow]; congr 1; push_cast; ring
  have hlower : k = 1 ∨ (k : Int) - f.bias ≤ floorLog2 n d := by
    refine hnorm.imp_right fun h => ?_
    have hlt : (k : Int) - f.bias < floorLog2 n d + 1 := by
      rw [← two_zpow_lt_iff]
      calc (2 : ℚ) ^ ((k : Int) - f.bias) = 2 ^ f.tw * step f k := by rw [step_mul_pow]; congr 1; ring
        _ ≤ m * step f k := mul_le_mul_of_nonneg_right (by exact_mod_cast h) (step_pos f k).le
        _ = n / d := hval.symm
        _ < 2 ^ (floorLog2 n d + 1) := hhigh
    omega
  refine ⟨hn, ?_⟩
  have heq := gridStep_eq f n d
  rcases max_choice (floorLog2 n d) (1 - (f.bias : Int)) with hmax | hmax <;>
    have hl := le_max_left (floorLog2 n d) (1 - (f.bias : Int)) <;>
    have hr := le_max_right (floorLog2 n d) (1 - (f.bias : Int)) <;> omega

/-- RoundGrid leaves a point of the grid as it is. -/
theorem grid_exact {n d k m : Nat} (hg : OnGrid f n d k m) (hm : m < 2 ^ (f.tw + 1)) (mode : RMode) (mix : Nat) (neg : Bool) :
    ∃ n' d', f.grid mode mix neg n d = .fin neg n' d' ∧ OnGrid f n' d' k m := by
  rcases Nat.eq_zero_or_pos m with rfl | hmpos
  · have hk1 : k = 1 := hg.normal.resolve_right (not_le.2 (Nat.two_pow_pos _))
    have hn : n = 0 := by
      have hval := hg.value
      rw [Nat.cast_zero, zero_mul, div_eq_zero_iff] at hval
      exact_mod_cast hval.resolve_right (by exact_mod_cast hg.den.ne')
    rw [Fmt.grid, if_pos hn]
    refine ⟨0, 1, rfl, one_pos, ?_, hk1.ge, Nat.zero_le _, .inl hk1⟩
    rw [Nat.cast_zero, zero_div, zero_mul]
  · obtain ⟨hn, hk⟩ := gridStep_onGrid hg hm hmpos
    have hsig := significand hg.value hg.den _ rfl
    rw [grid_eq f mode mix neg hn, hk, hsig, roundNat_exact _ _ _ _ (scale2_pos hg.den _)]
    exact pow2_onGrid hg.one_le hg.le hg.normal neg

theorem absGt_fin {s t : Bool} {n d n' d' : Nat} (hd : 0 < d) (hd' : 0 < d') :
    Val.absGt (.fin s n d) (.fin t n' d') = false ↔ (n : ℚ) / d ≤ n' / d' := by
  rw [Val.absGt, ratLe, Bool.not_eq_false', decide_eq_true_iff, div_le_div_iff₀ (Nat.cast_pos.2 hd) (Nat.cast_pos.2 hd')]
  exact_mod_cast Iff.rfl

/-- Round gives a value of the format (R124). -/
theorem value_roundV (hf : Sound f) (mode : RMode) (hv : Proper v) : Value f (f.roundV mode v) := by
  cases v with
  | nan => exact .nan
  | inf s => exact .inf s
  | fin s n d =>
    obtain ⟨n', d', k, m, hgrid, hg⟩ := grid_onGrid f mode 0 s (hv s n d rfl)
    obtain ⟨M, D, K, S, hmx, hG, hS, hcode⟩ := decode_maxEnc hf
    rw [Fmt.roundV, hgrid, hmx]
    simp only
    split
    · split
      · exact .fin hG hcode.le
      · exact .inf s
    · next hle =>
      rw [Bool.not_eq_true, absGt_fin hg.den hG.den] at hle
      exact .fin hg ((code_le hg hG hS hle).trans hcode.le)

theorem round_lt (hf : Sound f) (mode : RMode) (hv : Proper v) : f.round mode v < 2 ^ f.width := encode_lt hf (value_roundV hf mode hv)

/-- A lower step has lower codes, below the next binade. -/
theorem code_lt_of_step {n d k m n' d' k' m' : Nat} (h : OnGrid f n d k m) (hm : m < 2 ^ (f.tw + 1)) (h' : OnGrid f n' d' k' m') (hlt : k < k') :
    code f k m < code f k' m' := by
  have hk := h.one_le
  have hnormal : 2 ^ f.tw ≤ m' := h'.normal.resolve_left (by omega)
  have hmul : (k - 1 + 1) * 2 ^ f.tw ≤ (k' - 1) * 2 ^ f.tw := Nat.mul_le_mul_right _ (by omega)
  rw [Nat.add_mul, one_mul] at hmul
  rw [pow_succ] at hm
  rw [code, code]
  omega

/-- Two significands below the next binade with the same code are one. -/
theorem code_inj {n d k m n' d' k' m' : Nat} (h : OnGrid f n d k m) (hm : m < 2 ^ (f.tw + 1)) (h' : OnGrid f n' d' k' m') (hm' : m' < 2 ^ (f.tw + 1))
    (heq : code f k m = code f k' m') : k = k' ∧ m = m' := by
  rcases lt_trichotomy k k' with hlt | rfl | hlt
  · exact absurd heq (code_lt_of_step h hm h' hlt).ne
  · exact ⟨rfl, by rw [code, code] at heq; omega⟩
  · exact absurd heq (code_lt_of_step h' hm' h hlt).ne'

/-- Round of an encoding's value is that encoding (R124). -/
theorem round_decode (hf : Sound f) (mode : RMode) (hx : x < 2 ^ f.width) (hnan : (f.decode x).isNan = false) : f.round mode (f.decode x) = x := by
  cases hinf : (f.decode x).isInf with
  | true =>
    have hfix : f.roundV mode (f.decode x) = f.decode x := by
      cases h : f.decode x with
      | nan => rfl
      | inf s => rfl
      | fin s n d => rw [h] at hinf; simp [Val.isInf] at hinf
    rw [Fmt.round, hfix, encode_decode hx hnan]
  | false =>
    obtain ⟨n, d, k, m, hdec, hg, hm, hcode⟩ := decode_onGrid hnan hinf
    obtain ⟨n', d', hgrid, hg'⟩ := grid_exact hg hm mode 0 (bitAt x (f.ew + f.tw))
    obtain ⟨M, D, K, S, hmx, hG, hS, hmax⟩ := decode_maxEnc hf
    have hle : (n' : ℚ) / d' ≤ M / D := by
      by_contra hgt
      have hback := code_le hG hg' hm (not_le.1 hgt).le
      have hfin := (finite_iff hf).1 ⟨hnan, hinf⟩
      obtain ⟨hk, hsig⟩ := code_inj hG hS hg' hm (le_antisymm hback (by rw [hcode, hmax]; exact hfin))
      rw [hG.value, hg'.value, hk, hsig] at hgt
      exact hgt le_rfl
    rw [Fmt.round, hdec]
    simp only [Fmt.roundV, hgrid, hmx, (absGt_fin hg'.den hG.den).2 hle, Bool.false_eq_true, if_false]
    rw [encode_onGrid hg', hcode, ← eq_sign_add_magnitude hx]

end Round

end Sys2Proof.Floats

/-! # The strip: its elements, and what an element-wise instruction writes (R235 to R237) -/

namespace Sys2Proof.Strip
open Sys2Proof Sys2Proof.Machine Sys2Proof.Claims Sys2Proof.Reads Sys2Proof.Control

/-! ## Fields of vl, and the register's length -/

section Fields

variable (s : State)

theorem vlN_eq : (s.th s.who).vlN = strip s := by simp [Thread.vlN, strip, bits]

theorem vlE_eq : (s.th s.who).vlE = stripES s := by
  have hbits : bits (s.th s.who).vl.toNat 11 9 = (s.th s.who).vl.toNat / 2 ^ 9 % 8 := by simp [bits]
  have hlt : (s.th s.who).vl.toNat / 2 ^ 9 % 8 < 8 := Nat.mod_lt _ (by decide)
  rw [Thread.vlE, stripES, hbits]
  interval_cases (s.th s.who).vl.toNat / 2 ^ 9 % 8 <;> rfl

theorem vlLgd_eq : (s.th s.who).vlLgd = (s.th s.who).vl.toNat / 2 ^ 12 % 4 := by simp [Thread.vlLgd, bits]

theorem lgSide_eq : (s.th s.who).lgSide = side s := by rw [Thread.lgSide, vlLgd_eq, side]

theorem unit_eq : (s.th s.who).unit = unit s := by
  rw [Thread.unit, lgSide_eq, vlLgd_eq, unit, side]
  split
  · next h => rw [h]; rfl
  · rfl

theorem unit_pos : 0 < unit s := Nat.mul_pos (Nat.two_pow_pos _) (Nat.two_pow_pos _)

theorem isK8_eq (c : Nat) : isK8 c = decide (c < 1152) := by
  rw [isK8, dieOf, decide_eq_decide]
  omega

theorem vlenB_eq : vlenB s.who.core = vbytes s := by
  rw [vlenB, vbytes, isK8_eq]
  by_cases h : s.who.core < 1152
  · rw [if_pos h, if_pos (decide_eq_true h)]
  · rw [if_neg h, if_neg (by simpa using h)]

theorem vbytes_cases : vbytes s = 128 ∨ vbytes s = 64 := by
  rw [vbytes]
  split
  · exact .inl rfl
  · exact .inr rfl

theorem size_dvd (e : EType) : e.size ∣ 64 := by cases e <;> decide

theorem size_pos (e : EType) : 0 < e.size := by cases e <;> decide

end Fields

/-! ## Elements of a register -/

section Elements

variable {s : State} {es : Nat}

/-- A field of a number cut off above it. -/
theorem field_of_mod {a b c : Nat} (h : b + c ≤ a) (x : Nat) : x % 2 ^ a / 2 ^ b % 2 ^ c = x / 2 ^ b % 2 ^ c := by
  refine Nat.eq_of_testBit_eq fun i => ?_
  simp only [Nat.testBit_mod_two_pow, Nat.testBit_div_two_pow]
  by_cases hi : i < c
  · have hlt : i + b < a := by omega
    simp [hi, hlt]
  · simp [hi]

/-- An element of a register, as the model reads it (R235). -/
theorem elem_readV (hes : es ∣ 64) (v : Fin 16) (k : Nat) : elem es k (s.readV s.who v) = vel s es v k := by
  have hdvd : es ∣ vbytes s := by
    rcases vbytes_cases s with h | h <;> rw [h]
    · exact hes.trans (by decide)
    · exact hes
  rw [elem, State.readV, vlenB_eq, vel]
  split
  · next hlt =>
    obtain ⟨q, hq⟩ := hdvd
    have hle : k * es + es ≤ vbytes s := by
      rw [hq, Nat.mul_comm es] at hlt ⊢
      have hkq : k < q := Nat.lt_of_mul_lt_mul_right hlt
      calc k * es + es = (k + 1) * es := by ring
        _ ≤ q * es := Nat.mul_le_mul_right _ hkq
    refine field_of_mod ?_ _
    calc 8 * es * k + 8 * es = 8 * (k * es + es) := by ring
      _ ≤ 8 * vbytes s := Nat.mul_le_mul_left _ hle
  · next hge =>
    have hdiv : (s.th s.who).v[v].toNat % 2 ^ (8 * vbytes s) / 2 ^ (8 * es * k) = 0 := by
      refine Nat.div_eq_of_lt ((Nat.mod_lt _ (Nat.two_pow_pos _)).trans_le (Nat.pow_le_pow_right (by norm_num) ?_))
      calc 8 * vbytes s ≤ 8 * (k * es) := Nat.mul_le_mul_left _ (not_lt.1 hge)
        _ = 8 * es * k := by ring
    rw [hdiv, Nat.zero_mod]

theorem vel_lt (v : Fin 16) (k : Nat) : vel s es v k < 2 ^ (8 * es) := by
  rw [vel]
  split
  · exact Nat.mod_lt _ (Nat.two_pow_pos _)
  · exact Nat.two_pow_pos _

/-- Whether an element is active, as the model tests it (R237). -/
theorem active_eq (m : Fin 8) (k : Nat) : s.active s.who m k = activeAt s m k := by
  rw [State.active, activeAt, State.readM, vlE_eq, vlenB_eq]
  by_cases hm : m = 0
  · simp [hm]
  · rw [if_neg hm, beq_eq_false_iff_ne.2 hm, decide_eq_false hm, Bool.false_or, Bool.false_or]
    have hbit : ∀ x i : Nat, bitAt x i = x.testBit i := fun x i => by
      rw [bitAt, Nat.testBit_eq_decide_div_mod_eq]
      rfl
    rw [hbit, Nat.testBit_mod_two_pow, BitVec.testBit_toNat]

/-- The bytes a strip of elements takes, element 0 first (R237). -/
theorem packE_lt (es : Nat) (xs : List Nat) : packE es xs < 2 ^ (8 * es * xs.length) := by
  induction xs with
  | nil => exact Nat.two_pow_pos _
  | cons x xs ih =>
    rw [packE, List.length_cons, Nat.mul_succ, pow_add, Nat.mul_comm (2 ^ (8 * es * xs.length))]
    calc x % 2 ^ (8 * es) + 2 ^ (8 * es) * packE es xs < 2 ^ (8 * es) + 2 ^ (8 * es) * packE es xs :=
          Nat.add_lt_add_right (Nat.mod_lt _ (Nat.two_pow_pos _)) _
      _ = 2 ^ (8 * es) * (packE es xs + 1) := by ring
      _ ≤ 2 ^ (8 * es) * 2 ^ (8 * es * xs.length) := Nat.mul_le_mul_left _ ih

theorem packE_elem (es : Nat) (xs : List Nat) (k : Nat) : packE es xs / 2 ^ (8 * es * k) % 2 ^ (8 * es) = xs.getD k 0 % 2 ^ (8 * es) := by
  induction xs generalizing k with
  | nil => simp [packE]
  | cons x xs ih =>
    have hpos : 0 < 2 ^ (8 * es) := Nat.two_pow_pos _
    cases k with
    | zero => simp [packE, Nat.add_mul_mod_self_left]
    | succ k =>
      have hdiv : packE es (x :: xs) / 2 ^ (8 * es) = packE es xs := by
        rw [packE, Nat.add_mul_div_left _ _ hpos, Nat.div_eq_of_lt (Nat.mod_lt _ hpos), Nat.zero_add]
      have hpow : 2 ^ (8 * es * (k + 1)) = 2 ^ (8 * es) * 2 ^ (8 * es * k) := by rw [← pow_add]; ring_nf
      rw [hpow, ← Nat.div_div_eq_div_mul, hdiv, ih, List.getD_cons_succ]

theorem packE_range (es n : Nat) (f : Nat → Nat) :
    packE es ((List.range n).map f) < 2 ^ (8 * es * n) ∧
      ∀ k < n, packE es ((List.range n).map f) / 2 ^ (8 * es * k) % 2 ^ (8 * es) = f k % 2 ^ (8 * es) := by
  refine ⟨?_, fun k hk => ?_⟩
  · have hlt := packE_lt es ((List.range n).map f)
    rwa [List.length_map, List.length_range] at hlt
  · rw [packE_elem]
    simp [List.getD_eq_getElem?_getD, hk]

end Elements

/-! ## What an instruction over the strip does -/

section Instruction

variable {s : State} {i : Instr} {d : Fin 16} {m : Fin 8} {es : Nat}

theorem fits_ok (h : fits s es) : s.fits s.who i es = .ok () := by
  rw [State.fits, illegalIf, vlN_eq, vlenB_eq, decide_eq_false (not_lt.2 h), failIf_false]

theorem fits_fail (h : ¬ fits s es) : s.fits s.who i es = fail 0x01 (encodeWord i) := by
  rw [State.fits, illegalIf, vlN_eq, vlenB_eq, decide_eq_true (not_le.1 h), failIf_true]

/-- Element `k` of what is written. -/
theorem writeElems_eq (hes : es ∣ 64) (g : Nat → Nat → Nat) : s.writeElems s.who es m d g =
    s.writeV s.who d (packE es ((List.range (strip s)).map fun k => if activeAt s m k then g k (vel s es d k) else vel s es d k)) := by
  rw [State.writeElems, vlN_eq]
  simp only [elem_readV hes, active_eq]

/-- An instruction that completes with its strip written has the effect that the claims name. -/
theorem writes_of_writeElems {var : Bool} {F : Nat → Nat} (hes : es ∣ 64) {g : Nat → Nat → Nat}
    (hexec : exec i s = .next (ended var i s.who (s.writeElems s.who es m d g)))
    (hg : ∀ k < strip s, g k (vel s es d k) % 2 ^ (8 * es) = F k) : Writes var i d es s (masked s m es d F) := by
  rw [writeElems_eq hes] at hexec
  obtain ⟨hlt, helem⟩ := packE_range es (strip s) fun k => if activeAt s m k then g k (vel s es d k) else vel s es d k
  refine ⟨_, hexec, hlt, fun k hk => ?_⟩
  rw [helem k hk, masked]
  split
  · exact hg k hk
  · exact Nat.mod_eq_of_lt (vel_lt d k)

/-- With every element active the mask does nothing. -/
theorem masked_zero (F : Nat → Nat) : masked s 0 es d F = F := by
  funext k
  rw [masked, activeAt, decide_eq_true rfl, Bool.true_or, if_pos rfl]

/-- An element-wise instruction: the strip's check, then its elements. -/
theorem vecOp_unfit {a b : Fin 16} {e : EType} {f : Nat → Nat → Nat → Nat} (h : ¬ fits s e.size) :
    vecOp i d a b m e f s = trapped s i 0x01 (encodeWord i) := by
  rw [vecOp, issue_vec, fits_fail h, fail_bind, finish_fail, trapped]

theorem vecOp_fits {a b : Fin 16} {e : EType} {f : Nat → Nat → Nat → Nat} (h : fits s e.size) :
    vecOp i d a b m e f s = .next (ended false i s.who (s.writeElems s.who e.size m d
      fun k o => f (vel s e.size a k) (vel s e.size b k) o)) := by
  rw [vecOp, issue_vec, fits_ok h, ok_bind]
  simp only [elem_readV (size_dvd e), finish_ok]
  rfl

/-- What an element-wise instruction settles, from the element that it computes. -/
theorem vecOp_claim {a b : Fin 16} {e : EType} {f : Nat → Nat → Nat → Nat} {F : Nat → Nat → Nat → Nat} (hexec : exec i s = vecOp i d a b m e f s)
    (hf : ∀ x y z, x < 2 ^ (8 * e.size) → y < 2 ^ (8 * e.size) → z < 2 ^ (8 * e.size) → f x y z % 2 ^ (8 * e.size) = F x y z) :
    unfit i s e.size ∧ (fits s e.size →
      Writes false i d e.size s (masked s m e.size d fun k => F (vel s e.size a k) (vel s e.size b k) (vel s e.size d k))) :=
  ⟨fun h => hexec.trans (vecOp_unfit h),
    fun h => writes_of_writeElems (size_dvd e) (hexec.trans (vecOp_fits h)) fun k _ => hf _ _ _ (vel_lt a k) (vel_lt b k) (vel_lt d k)⟩

end Instruction

end Sys2Proof.Strip

/-! # Element-wise arithmetic (R241 to R243) -/

namespace Sys2Proof.Elementwise
open Sys2Proof Sys2Proof.Machine Sys2Proof.Claims Sys2Proof.Reads Sys2Proof.Control Sys2Proof.Floats Sys2Proof.Strip

theorem by_int {e : EType} (he : e.fmt = none) (f : Fmt → Nat) (g : Nat → Nat) : e.by f g = g (8 * e.size) := by
  rw [EType.by, he]

theorem by_float {e : EType} {fm : Fmt} (he : e.fmt = some fm) (f : Fmt → Nat) (g : Nat → Nat) : e.by f g = f fm := by
  rw [EType.by, he]

/-! ## Integer elements -/

section Integer

/-- A result modulo 2^w, from the exact integer it is congruent to. -/
theorem mod_eq_toNat {w n : Nat} {z : Int} (h : (n : Int) % 2 ^ w = z % 2 ^ w) : n % 2 ^ w = (z % 2 ^ w).toNat := by
  rw [← h]
  have hcast : (n : Int) % 2 ^ w = ((n % 2 ^ w : Nat) : Int) := by push_cast; rfl
  rw [hcast, Int.toNat_natCast]

theorem mod_eq_self {w n : Nat} : n % 2 ^ w = ((n : Int) % 2 ^ w).toNat := mod_eq_toNat rfl

theorem sext_mod (w x : Nat) : sext w x % 2 ^ w = (x : Int) % 2 ^ w := by
  have h := Cells.sext_emod w x
  push_cast at h
  exact h

/-- A number below 2^w read as signed. -/
theorem signed_eq {w x : Nat} (hx : x < 2 ^ w) : (if x < 2 ^ (w - 1) then (x : Int) else (x : Int) - 2 ^ w) = sext w x := (Atomic.sext_of_lt hx).symm

variable {e : EType} {r : Rm} {x y z : Nat}

theorem add_int (he : e.fmt = none) : vAdd e r x y % 2 ^ (8 * e.size) = (((x : Int) + y) % 2 ^ (8 * e.size)).toNat := by
  rw [vAdd, by_int he]
  exact mod_eq_toNat (by push_cast; rfl)

/-- y below 2^w taken from a multiple of it. -/
theorem mod_sub {w y : Nat} (x : Nat) (hy : y ≤ 2 ^ w) : ((x + 2 ^ w - y : Nat) : Int) % 2 ^ w = ((x : Int) - y) % 2 ^ w := by
  have hcast : ((x + 2 ^ w - y : Nat) : Int) = (x : Int) - y + 2 ^ w := by
    push_cast [Nat.cast_sub (show y ≤ x + 2 ^ w by omega)]
    ring
  rw [hcast, Int.add_emod_right]

theorem sub_int (he : e.fmt = none) (hy : y < 2 ^ (8 * e.size)) :
    vSub e r x y % 2 ^ (8 * e.size) = (((x : Int) - y) % 2 ^ (8 * e.size)).toNat := by
  rw [vSub, by_int he]
  exact mod_eq_toNat (mod_sub x hy.le)

theorem mul_int (he : e.fmt = none) : vMul e r x y % 2 ^ (8 * e.size) = (((x : Int) * y) % 2 ^ (8 * e.size)).toNat := by
  rw [vMul, by_int he]
  exact mod_eq_toNat (by push_cast; rfl)

theorem min_int (he : e.fmt = none) :
    vMin e x y % 2 ^ (8 * e.size) = ((min (sext (8 * e.size) x) (sext (8 * e.size) y)) % 2 ^ (8 * e.size)).toNat := by
  rw [vMin, by_int he]
  split
  · next h => exact mod_eq_toNat (by rw [min_eq_right h.le, sext_mod])
  · next h => exact mod_eq_toNat (by rw [min_eq_left (not_lt.1 h), sext_mod])

theorem max_int (he : e.fmt = none) :
    vMax e x y % 2 ^ (8 * e.size) = ((max (sext (8 * e.size) x) (sext (8 * e.size) y)) % 2 ^ (8 * e.size)).toNat := by
  rw [vMax, by_int he]
  split
  · next h => exact mod_eq_toNat (by rw [max_eq_right h.le, sext_mod])
  · next h => exact mod_eq_toNat (by rw [max_eq_left (not_lt.1 h), sext_mod])

theorem abs_int (he : e.fmt = none) : vAbs e x % 2 ^ (8 * e.size) =
    ((if sext (8 * e.size) x < 0 then -sext (8 * e.size) x else sext (8 * e.size) x) % 2 ^ (8 * e.size)).toNat := by
  rw [vAbs, by_int he]
  refine mod_eq_toNat (congrArg (· % _) ?_)
  split <;> omega

theorem neg_mod {w x : Nat} (hx : x ≤ 2 ^ w) : ((2 ^ w - x : Nat) : Int) % 2 ^ w = (-sext w x) % 2 ^ w := by
  have hneg : (-sext w x) % 2 ^ w = (-(x : Int)) % 2 ^ w := Int.ModEq.neg (sext_mod w x)
  rw [hneg]
  have h := mod_sub 0 hx
  rwa [Nat.zero_add, Nat.cast_zero, zero_sub] at h

theorem neg_int (he : e.fmt = none) (hx : x < 2 ^ (8 * e.size)) :
    vNeg e x % 2 ^ (8 * e.size) = ((-sext (8 * e.size) x) % 2 ^ (8 * e.size)).toNat := by
  rw [vNeg, by_int he]
  exact mod_eq_toNat (neg_mod hx.le)

theorem fma_int (he : e.fmt = none) : vFma false e r x y z % 2 ^ (8 * e.size) = (((z : Int) + x * y) % 2 ^ (8 * e.size)).toNat := by
  rw [vFma, by_int he]
  exact mod_eq_toNat (by simp)

theorem fms_int (he : e.fmt = none) : vFma true e r x y z % 2 ^ (8 * e.size) = (((z : Int) - x * y) % 2 ^ (8 * e.size)).toNat := by
  rw [vFma, by_int he]
  refine mod_eq_toNat ?_
  have hlt : x * y % 2 ^ (8 * e.size) < 2 ^ (8 * e.size) := Nat.mod_lt _ (Nat.two_pow_pos _)
  rw [if_pos rfl, ← Nat.add_sub_assoc hlt.le, mod_sub z hlt.le]
  push_cast
  exact Int.sub_emod_emod _ _ _

theorem sra_int : vSra e x y % 2 ^ (8 * e.size) = (sext (8 * e.size) x / 2 ^ (y % (8 * e.size)) % 2 ^ (8 * e.size)).toNat := by
  rw [vSra]
  have hpos : (0 : Int) < 2 ^ (8 * e.size) := by positivity
  have hnn := Int.emod_nonneg (sext (8 * e.size) x / 2 ^ (y % (8 * e.size))) hpos.ne'
  have hlt := Int.emod_lt_of_pos (sext (8 * e.size) x / 2 ^ (y % (8 * e.size))) hpos
  push_cast
  rw [Nat.mod_eq_of_lt]
  rw [Int.toNat_lt hnn]
  exact_mod_cast hlt

end Integer

/-! ## Floating elements -/

section Floating

variable {f : Fmt}

/-- A value with another sign. -/
def withSign (s : Bool) : Val → Val
  | .nan => .nan
  | .inf _ => .inf s
  | .fin _ n d => .fin s n d

theorem withSign_pow2 (s t : Bool) (n : Nat) (e : Int) : withSign s (Val.pow2 t n e) = Val.pow2 s n e := rfl

/-- An encoding's value is its magnitude's under its sign. -/
theorem decode_signed (f : Fmt) (s : Bool) {mag : Nat} (hm : mag < 2 ^ (f.ew + f.tw)) :
    f.decode (b2n s * 2 ^ (f.ew + f.tw) + mag) = withSign s (f.decode mag) := by
  have hfield : (b2n s * 2 ^ (f.ew + f.tw) + mag) % 2 ^ f.tw = mag % 2 ^ f.tw := by
    rw [pow_add, ← Nat.mul_assoc, Nat.mul_comm, Nat.mul_add_mod]
  have hexp : (b2n s * 2 ^ (f.ew + f.tw) + mag) / 2 ^ f.tw % 2 ^ f.ew = mag / 2 ^ f.tw % 2 ^ f.ew := by
    rw [pow_add, ← Nat.mul_assoc, Nat.mul_comm (b2n s * 2 ^ f.ew), Nat.mul_add_div (Nat.two_pow_pos _), Nat.mul_comm (b2n s), Nat.mul_add_mod]
  have hsign : bitAt (b2n s * 2 ^ (f.ew + f.tw) + mag) (f.ew + f.tw) = s := by
    rw [bitAt, Nat.mul_comm, Nat.mul_add_div (Nat.two_pow_pos _), Nat.div_eq_of_lt hm]
    cases s <;> rfl
  simp only [Fmt.decode, hfield, hexp, hsign]
  split
  · rfl
  · split
    · split <;> rfl
    · split <;> rfl

theorem width_eq (f : Fmt) : 2 ^ f.width = 2 * 2 ^ (f.ew + f.tw) := by rw [Fmt.width, Nat.add_assoc, Nat.add_comm, pow_succ, Nat.mul_comm]

theorem isNan_withSign (s : Bool) (v : Val) : (withSign s v).isNan = v.isNan := by cases v <;> rfl

/-- The sign and the magnitude of an encoding that is no NaN. -/
theorem decode_parts {x : Nat} (hx : x < 2 ^ f.width) :
    f.decode x = withSign (bitAt x (f.ew + f.tw)) (f.decode (x % 2 ^ (f.ew + f.tw))) := by
  conv_lhs => rw [eq_sign_add_magnitude hx]
  exact decode_signed f _ (Nat.mod_lt _ (Nat.two_pow_pos _))

/-- The encoding of a magnitude under a sign. -/
theorem encode_withSign {x : Nat} (hx : x < 2 ^ f.width) (hnan : (f.decode x).isNan = false) (s : Bool) :
    f.encode (withSign s (f.decode (x % 2 ^ (f.ew + f.tw)))) = b2n s * 2 ^ (f.ew + f.tw) + x % 2 ^ (f.ew + f.tw) := by
  have hm : x % 2 ^ (f.ew + f.tw) < 2 ^ (f.ew + f.tw) := Nat.mod_lt _ (Nat.two_pow_pos _)
  have hb : b2n s * 2 ^ (f.ew + f.tw) ≤ 2 ^ (f.ew + f.tw) := by cases s <;> simp [b2n]
  rw [← decode_signed f s hm, encode_decode]
  · rw [width_eq]
    omega
  · rw [decode_signed f s hm, isNan_withSign]
    rwa [decode_parts hx, isNan_withSign] at hnan

theorem encode_nan {v : Val} (h : v.isNan = true) : f.encode v.abs = f.nan ∧ f.encode v.neg = f.nan := by
  cases v with
  | nan => exact ⟨rfl, rfl⟩
  | inf s => simp [Val.isNan] at h
  | fin s n d => simp [Val.isNan] at h

/-- VABS clears the sign bit (R242). -/
theorem encode_abs {x : Nat} (hx : x < 2 ^ f.width) (hnan : (f.decode x).isNan = false) : f.encode (f.decode x).abs = x % 2 ^ (f.ew + f.tw) := by
  have habs : ∀ s v, (withSign s v).abs = withSign false v := fun s v => by cases v <;> rfl
  have h := encode_withSign hx hnan false
  rw [decode_parts hx, habs, h, b2n]
  simp

/-- VNEG turns the sign bit over (R242). -/
theorem encode_neg {x : Nat} (hx : x < 2 ^ f.width) (hnan : (f.decode x).isNan = false) :
    f.encode (f.decode x).neg = (x + 2 ^ (f.ew + f.tw)) % (2 * 2 ^ (f.ew + f.tw)) := by
  have hneg : ∀ s v, (withSign s v).neg = withSign (!s) v := fun s v => by cases v <;> rfl
  have h := encode_withSign hx hnan (!bitAt x (f.ew + f.tw))
  have hm : x % 2 ^ (f.ew + f.tw) < 2 ^ (f.ew + f.tw) := Nat.mod_lt _ (Nat.two_pow_pos _)
  have heq := eq_sign_add_magnitude hx
  rw [decode_parts hx, hneg, h]
  generalize 2 ^ (f.ew + f.tw) = T at *
  cases hs : bitAt x (f.ew + f.tw) <;> rw [hs] at heq <;> simp only [b2n, Bool.not_true, Bool.not_false, if_true, if_false, Bool.false_eq_true] at heq ⊢
  · rw [Nat.mod_eq_of_lt (show x + T < 2 * T by omega)]
    omega
  · have hx2 : x + T = 2 * T + x % T := by omega
    rw [hx2, Nat.add_mod_left, Nat.mod_eq_of_lt (show x % T < 2 * T by omega)]
    omega

/-! ### Operands and results -/

theorem proper_of_pos {s : Bool} {n d : Nat} (h : 0 < d) : Proper (.fin s n d) := by
  rintro _ _ _ ⟨⟩
  exact h

theorem proper_nan : Proper .nan := fun _ _ _ h => by simp at h
theorem proper_inf (s : Bool) : Proper (.inf s) := fun _ _ _ h => by simp at h

theorem proper_neg {v : Val} (h : Proper v) : Proper v.neg := by
  cases v with
  | nan => exact proper_nan
  | inf s => exact proper_inf _
  | fin s n d => exact proper_of_pos (h s n d rfl)

theorem proper_add (mode : RMode) {v u : Val} (hv : Proper v) (hu : Proper u) : Proper (Val.add mode v u) := by
  cases v with
  | nan => exact proper_nan
  | inf s =>
    cases u with
    | nan => exact proper_nan
    | inf t =>
      simp only [Val.add]
      split
      · exact proper_inf _
      · exact proper_nan
    | fin t n d => exact proper_inf _
  | fin s n d =>
    cases u with
    | nan => exact proper_nan
    | inf t => exact proper_inf _
    | fin t n' d' =>
      have hpos : 0 < d * d' := Nat.mul_pos (hv s n d rfl) (hu t n' d' rfl)
      simp only [Val.add]
      split
      · exact proper_of_pos hpos
      · split
        · exact proper_of_pos one_pos
        · split <;> exact proper_of_pos hpos

theorem proper_mul {v u : Val} (hv : Proper v) (hu : Proper u) : Proper (v.mul u) := by
  cases v with
  | nan => exact proper_nan
  | inf s =>
    cases u with
    | nan => exact proper_nan
    | inf t => exact proper_inf _
    | fin t n d =>
      simp only [Val.mul]
      split
      · exact proper_nan
      · exact proper_inf _
  | fin s n d =>
    cases u with
    | nan => exact proper_nan
    | inf t =>
      simp only [Val.mul]
      split
      · exact proper_nan
      · exact proper_inf _
    | fin t n' d' => exact proper_of_pos (Nat.mul_pos (hv s n d rfl) (hu t n' d' rfl))

theorem proper_decode (hf : Sound f) (x : Nat) : Proper (f.decode x) := (value_decode hf x).proper

theorem value_maxT {v u : Val} (hv : Value f v) (hu : Value f u) : Value f (Val.maxT v u) := by
  rw [Val.maxT]
  split
  · exact .nan
  · split
    · exact hu
    · exact hv

theorem value_minT {v u : Val} (hv : Value f v) (hu : Value f u) : Value f (Val.minT v u) := by
  rw [Val.minT]
  split
  · exact .nan
  · split
    · exact hu
    · exact hv

/-- A product with a negated factor, and a sum in the other order (R241). -/
theorem neg_mul (v u : Val) : v.neg.mul u = (v.mul u).neg := by
  cases v with
  | nan => rfl
  | inf s =>
    cases u with
    | nan => rfl
    | inf t => simp [Val.neg, Val.mul]
    | fin t n d =>
      simp only [Val.neg, Val.mul]
      split
      · rfl
      · simp
  | fin s n d =>
    cases u with
    | nan => rfl
    | inf t =>
      simp only [Val.neg, Val.mul]
      split
      · rfl
      · simp
    | fin t n' d' => simp [Val.neg, Val.mul]

theorem add_comm (mode : RMode) (v u : Val) : Val.add mode v u = Val.add mode u v := by
  cases v with
  | nan => cases u <;> rfl
  | inf s =>
    cases u with
    | nan => rfl
    | inf t =>
      simp only [Val.add, eq_comm (a := t)]
      split
      · next h => rw [h]
      · rfl
    | fin t n d => rfl
  | fin s n d =>
    cases u with
    | nan => rfl
    | inf t => rfl
    | fin t n' d' =>
      simp only [Val.add, eq_comm (a := t), Nat.mul_comm d', Nat.add_comm (n' * d)]
      split
      · next h => rw [h]
      · rcases lt_trichotomy (n * d') (n' * d) with hlt | heq | hlt
        · rw [if_neg hlt.ne, if_neg (not_lt.2 hlt.le), if_neg hlt.ne', if_pos hlt]
        · rw [if_pos heq, if_pos heq.symm]
        · rw [if_neg hlt.ne', if_pos hlt, if_neg hlt.ne, if_neg (not_lt.2 hlt.le)]

theorem width_of_fmt {e : EType} (he : e.fmt = some f) : f.width = 8 * e.size := by
  cases e <;> simp only [EType.fmt, Option.some.injEq, reduceCtorEq] at he <;> subst he <;> rfl

theorem top_of_fmt {e : EType} (he : e.fmt = some f) : f.ew + f.tw = 8 * e.size - 1 := by
  have h := width_of_fmt he
  rw [Fmt.width] at h
  omega

/-! ### Elements of a floating type -/

section Element

variable {e : EType} {r : Rm} {x y z : Nat}

theorem round_mod (he : e.fmt = some f) (mode : RMode) {v : Val} (hv : Proper v) : f.round mode v % 2 ^ (8 * e.size) = f.round mode v :=
  Nat.mod_eq_of_lt (width_of_fmt he ▸ round_lt (sound_of_fmt he) mode hv)

theorem encode_mod (he : e.fmt = some f) {v : Val} (hv : Value f v) : f.encode v % 2 ^ (8 * e.size) = f.encode v :=
  Nat.mod_eq_of_lt (width_of_fmt he ▸ encode_lt (sound_of_fmt he) hv)

theorem add_float (he : e.fmt = some f) : vAdd e r x y % 2 ^ (8 * e.size) = f.round r.mode (Val.add r.mode (f.decode x) (f.decode y)) := by
  have hf := sound_of_fmt he
  rw [vAdd, by_float he, round_mod he _ (proper_add _ (proper_decode hf x) (proper_decode hf y))]

theorem sub_float (he : e.fmt = some f) : vSub e r x y % 2 ^ (8 * e.size) = f.round r.mode (Val.add r.mode (f.decode x) (f.decode y).neg) := by
  have hf := sound_of_fmt he
  rw [vSub, by_float he, round_mod he _ (proper_add _ (proper_decode hf x) (proper_neg (proper_decode hf y)))]

theorem mul_float (he : e.fmt = some f) : vMul e r x y % 2 ^ (8 * e.size) = f.round r.mode ((f.decode x).mul (f.decode y)) := by
  have hf := sound_of_fmt he
  rw [vMul, by_float he, round_mod he _ (proper_mul (proper_decode hf x) (proper_decode hf y))]

theorem min_float (he : e.fmt = some f) : vMin e x y % 2 ^ (8 * e.size) = f.encode (Val.minT (f.decode x) (f.decode y)) := by
  have hf := sound_of_fmt he
  rw [vMin, by_float he, encode_mod he (value_minT (value_decode hf x) (value_decode hf y))]

theorem max_float (he : e.fmt = some f) : vMax e x y % 2 ^ (8 * e.size) = f.encode (Val.maxT (f.decode x) (f.decode y)) := by
  have hf := sound_of_fmt he
  rw [vMax, by_float he, encode_mod he (value_maxT (value_decode hf x) (value_decode hf y))]

theorem abs_float (he : e.fmt = some f) (hx : x < 2 ^ (8 * e.size)) :
    vAbs e x % 2 ^ (8 * e.size) = if (f.decode x).isNan then f.nan else x % 2 ^ (8 * e.size - 1) := by
  have hxw : x < 2 ^ f.width := width_of_fmt he ▸ hx
  rw [vAbs, by_float he]
  split
  · next hnan => rw [(encode_nan hnan).1, Nat.mod_eq_of_lt (width_of_fmt he ▸ (sound_of_fmt he).nan)]
  · next hnan =>
    rw [encode_abs hxw (Bool.eq_false_iff.2 hnan), top_of_fmt he]
    exact Nat.mod_eq_of_lt ((Nat.mod_lt _ (Nat.two_pow_pos _)).trans_le (Nat.pow_le_pow_right (by norm_num) (Nat.sub_le _ _)))

theorem neg_float (he : e.fmt = some f) (hx : x < 2 ^ (8 * e.size)) :
    vNeg e x % 2 ^ (8 * e.size) = if (f.decode x).isNan then f.nan else (x + 2 ^ (8 * e.size - 1)) % (2 * 2 ^ (8 * e.size - 1)) := by
  have hxw : x < 2 ^ f.width := width_of_fmt he ▸ hx
  rw [vNeg, by_float he]
  split
  · next hnan => rw [(encode_nan hnan).2, Nat.mod_eq_of_lt (width_of_fmt he ▸ (sound_of_fmt he).nan)]
  · next hnan =>
    rw [encode_neg hxw (Bool.eq_false_iff.2 hnan), ← width_of_fmt he, width_eq, Nat.mod_mod, ← Nat.sub_eq_of_eq_add (show f.width = f.ew + f.tw + 1 by
      rw [Fmt.width]; omega)]

theorem fma_float (he : e.fmt = some f) :
    vFma false e r x y z % 2 ^ (8 * e.size) = f.round r.mode (Val.add r.mode (Val.mul (f.decode x) (f.decode y)) (f.decode z)) := by
  have hf := sound_of_fmt he
  rw [vFma, by_float he]
  exact round_mod he r.mode (proper_add _ (proper_mul (proper_decode hf x) (proper_decode hf y)) (proper_decode hf z))

theorem fms_float (he : e.fmt = some f) :
    vFma true e r x y z % 2 ^ (8 * e.size) = f.round r.mode (Val.add r.mode (f.decode z) (Val.mul (f.decode x) (f.decode y)).neg) := by
  have hf := sound_of_fmt he
  rw [vFma, by_float he, add_comm, ← neg_mul]
  exact round_mod he r.mode (proper_add _ (proper_mul (proper_neg (proper_decode hf x)) (proper_decode hf y)) (proper_decode hf z))

end Element

end Floating

/-! ## The instructions -/

section Forms

variable {s : State} {d a b : Fin 16} {m : Fin 8} {e : EType}

/-- A form of integers, from the element that it computes. -/
theorem intForm {p : VecForm × (Nat → Nat → Nat → Int)} {f : Nat → Nat → Nat → Nat} (hexec : exec (p.1 d a b m) s = vecOp (p.1 d a b m) d a b m e f s)
    (hf : ∀ x y z, x < 2 ^ (8 * e.size) → y < 2 ^ (8 * e.size) → z < 2 ^ (8 * e.size) →
      f x y z % 2 ^ (8 * e.size) = (p.2 x y z % 2 ^ (8 * e.size)).toNat) :
    unfit (p.1 d a b m) s e.size ∧ (fits s e.size → Writes false (p.1 d a b m) d e.size s
      (masked s m e.size d fun k => (p.2 (vel s e.size a k) (vel s e.size b k) (vel s e.size d k) % 2 ^ (8 * e.size)).toNat)) :=
  vecOp_claim (F := fun x y z => (p.2 x y z % 2 ^ (8 * e.size)).toNat) hexec hf

/-- A form of one integer. -/
theorem intForm_unary {p : VecForm × (Nat → Nat → Nat → Int)} {f : Nat → Nat}
    (hexec : exec (p.1 d a b m) s = vecOp (p.1 d a b m) d a a m e (fun x _ _ => f x) s)
    (hf : ∀ x y z, x < 2 ^ (8 * e.size) → f x % 2 ^ (8 * e.size) = (p.2 x y z % 2 ^ (8 * e.size)).toNat) :
    unfit (p.1 d a b m) s e.size ∧ (fits s e.size → Writes false (p.1 d a b m) d e.size s
      (masked s m e.size d fun k => (p.2 (vel s e.size a k) (vel s e.size b k) (vel s e.size d k) % 2 ^ (8 * e.size)).toNat)) :=
  ⟨fun h => hexec.trans (vecOp_unfit h),
    fun h => writes_of_writeElems (size_dvd e) (hexec.trans (vecOp_fits h)) fun k _ => hf _ _ _ (vel_lt a k)⟩

/-- A form of floating elements. -/
theorem floatForm {p : VecForm × (Nat → Nat → Nat → Nat)} {f : Nat → Nat → Nat → Nat} (hexec : exec (p.1 d a b m) s = vecOp (p.1 d a b m) d a b m e f s)
    (hf : ∀ x y z, f x y z % 2 ^ (8 * e.size) = p.2 x y z) :
    unfit (p.1 d a b m) s e.size ∧ (fits s e.size → Writes false (p.1 d a b m) d e.size s
      (masked s m e.size d fun k => p.2 (vel s e.size a k) (vel s e.size b k) (vel s e.size d k))) :=
  vecOp_claim (F := p.2) hexec fun x y z _ _ _ => hf x y z

/-- A form of one floating element. -/
theorem floatForm_unary {p : VecForm × (Nat → Nat → Nat → Nat)} {f : Nat → Nat}
    (hexec : exec (p.1 d a b m) s = vecOp (p.1 d a b m) d a a m e (fun x _ _ => f x) s)
    (hf : ∀ x y z, x < 2 ^ (8 * e.size) → f x % 2 ^ (8 * e.size) = p.2 x y z) :
    unfit (p.1 d a b m) s e.size ∧ (fits s e.size → Writes false (p.1 d a b m) d e.size s
      (masked s m e.size d fun k => p.2 (vel s e.size a k) (vel s e.size b k) (vel s e.size d k))) :=
  ⟨fun h => hexec.trans (vecOp_unfit h),
    fun h => writes_of_writeElems (size_dvd e) (hexec.trans (vecOp_fits h)) fun k _ => hf _ _ _ (vel_lt a k)⟩

theorem intForm_claim (he : e.fmt = none) : ∀ f ∈ intForms e, unfit (f.1 d a b m) s e.size ∧ (fits s e.size → Writes false (f.1 d a b m) d e.size s
    (masked s m e.size d fun k => (f.2 (vel s e.size a k) (vel s e.size b k) (vel s e.size d k) % 2 ^ (8 * e.size)).toNat)) := by
  intro f hf
  simp only [intForms, List.mem_cons, List.not_mem_nil, or_false] at hf
  rcases hf with rfl | rfl | rfl | rfl | rfl | rfl | rfl | rfl | rfl | rfl | rfl | rfl | rfl | rfl | rfl | rfl | rfl
  · exact intForm (f := fun x y _ => vAdd e .rne x y) rfl fun x y z hx hy hz => add_int he
  · exact intForm (f := fun x y _ => vSub e .rne x y) rfl fun x y z hx hy hz => sub_int he hy
  · exact intForm (f := fun x y _ => vMul e .rne x y) rfl fun x y z hx hy hz => mul_int he
  · exact intForm (f := fun x y _ => vMin e x y) rfl fun x y z hx hy hz => by simp only [min_int he, signed_eq hx, signed_eq hy]
  · exact intForm (f := fun x y _ => vMax e x y) rfl fun x y z hx hy hz => by simp only [max_int he, signed_eq hx, signed_eq hy]
  · exact intForm (f := fun x y _ => Nat.min x y) rfl fun x y z hx hy hz => mod_eq_toNat (congrArg (· % _) (Nat.cast_min x y))
  · exact intForm (f := fun x y _ => Nat.max x y) rfl fun x y z hx hy hz => mod_eq_toNat (congrArg (· % _) (Nat.cast_max x y))
  · exact intForm_unary (f := fun x => vAbs e x) rfl fun x y z hx => by simp only [abs_int he, signed_eq hx]
  · exact intForm_unary (f := fun x => vNeg e x) rfl fun x y z hx => by simp only [neg_int he hx, signed_eq hx]
  · exact intForm (f := fun x y _ => Nat.land x y) rfl fun x y z hx hy hz => mod_eq_self
  · exact intForm (f := fun x y _ => Nat.lor x y) rfl fun x y z hx hy hz => mod_eq_self
  · exact intForm (f := fun x y _ => Nat.xor x y) rfl fun x y z hx hy hz => mod_eq_self
  · exact intForm (f := fun x y _ => x * 2 ^ (y % (8 * e.size))) rfl fun x y z hx hy hz => mod_eq_toNat (by push_cast; rfl)
  · exact intForm (f := fun x y _ => x / 2 ^ (y % (8 * e.size))) rfl fun x y z hx hy hz => mod_eq_toNat (by push_cast; rfl)
  · exact intForm (f := fun x y _ => vSra e x y) rfl fun x y z hx hy hz => by simp only [sra_int, signed_eq hx]
  · exact intForm (f := fun x y z => vFma false e .rne x y z) rfl fun x y z hx hy hz => fma_int he
  · exact intForm (f := fun x y z => vFma true e .rne x y z) rfl fun x y z hx hy hz => fms_int he

theorem floatForm_claim {fm : Fmt} {r : Rm} (he : e.fmt = some fm) : ∀ f ∈ floatForms e fm r, unfit (f.1 d a b m) s e.size ∧ (fits s e.size →
    Writes false (f.1 d a b m) d e.size s (masked s m e.size d fun k => f.2 (vel s e.size a k) (vel s e.size b k) (vel s e.size d k))) := by
  intro f hf
  simp only [floatForms, List.mem_cons, List.not_mem_nil, or_false] at hf
  rcases hf with rfl | rfl | rfl | rfl | rfl | rfl | rfl | rfl | rfl
  · exact floatForm (f := fun x y _ => vAdd e r x y) rfl fun x y z => add_float he
  · exact floatForm (f := fun x y _ => vSub e r x y) rfl fun x y z => sub_float he
  · exact floatForm (f := fun x y _ => vMul e r x y) rfl fun x y z => mul_float he
  · exact floatForm (f := fun x y _ => vMin e x y) rfl fun x y z => min_float he
  · exact floatForm (f := fun x y _ => vMax e x y) rfl fun x y z => max_float he
  · exact floatForm_unary (f := fun x => vAbs e x) rfl fun x y z hx => abs_float he hx
  · exact floatForm_unary (f := fun x => vNeg e x) rfl fun x y z hx => neg_float he hx
  · exact floatForm (f := fun x y z => vFma false e r x y z) rfl fun x y z => fma_float he
  · exact floatForm (f := fun x y z => vFma true e r x y z) rfl fun x y z => fms_float he

/-- A correctly rounded function completes on a K8 die, which has its group (R243). -/
theorem vcrOp_completes {i : Instr} {e : EType2} {f : Nat → Nat → Nat} (hexec : exec i s = vcrOp i d a b m e f s) (hfit : fits s e.etype.size)
    (hk8 : s.who.core < 1152) : ∃ X : Nat, exec i s = .next ((s.writeV s.who d X).retireVar s.who i) ∧ X < 2 ^ (8 * e.etype.size * strip s) := by
  have hfate : fate s.who i false 2 s = .ok () := by
    have hdie : dieOf s.who.core < 6 := by
      rw [dieOf]
      omega
    rw [fate, dieCaps, if_pos hdie]
    rfl
  have hlt := (packE_range e.etype.size (strip s)
    fun k => if activeAt s m k then f (vel s e.etype.size a k) (vel s e.etype.size b k) else vel s e.etype.size d k).1
  refine ⟨_, ?_, hlt⟩
  rw [hexec, vcrOp, fits_ok hfit, ok_bind, hfate, ok_bind]
  simp only [writeElems_eq (size_dvd _), elem_readV (size_dvd _), finish_ok]

theorem vcr_completes {e : EType2} {r : Rm} (hfit : fits s e.etype.size) (hk8 : s.who.core < 1152) :
    ∀ i ∈ [Instr.vdiv d a b m e r, .vsqrt d a m e r, .vexp d a m e r, .vlog d a m e r, .vrcp d a m e r, .vrsq d a m e r, .vtanh d a m e r],
      ∃ X : Nat, exec i s = .next ((s.writeV s.who d X).retireVar s.who i) ∧ X < 2 ^ (8 * e.etype.size * strip s) := by
  simp only [List.forall_mem_cons]
  refine ⟨?_, ?_, ?_, ?_, ?_, ?_, ?_, List.forall_mem_nil _⟩
  · exact vcrOp_completes (m := m) (f := fun x y => e.fmt.round r.mode ((e.fmt.decode x).div (e.fmt.decode y))) rfl hfit hk8
  · exact vcrOp_completes (b := a) (m := m) (f := fun x _ => vcrSqrt e.fmt r.mode (e.fmt.decode x)) rfl hfit hk8
  · exact vcrOp_completes (b := a) (m := m) (f := fun x _ => vTrans 0 e r x) rfl hfit hk8
  · exact vcrOp_completes (b := a) (m := m) (f := fun x _ => vTrans 1 e r x) rfl hfit hk8
  · exact vcrOp_completes (b := a) (m := m) (f := fun x _ => vcrRcp e.fmt r.mode (e.fmt.decode x)) rfl hfit hk8
  · exact vcrOp_completes (b := a) (m := m) (f := fun x _ => vcrRsq e.fmt r.mode (e.fmt.decode x)) rfl hfit hk8
  · exact vcrOp_completes (b := a) (m := m) (f := fun x _ => vTrans 2 e r x) rfl hfit hk8

end Forms

/-- Settles O26: integer and floating forms by their elements, the correctly rounded ones by their completion. -/
theorem elementwiseResult : Obligations.ElementwiseResult := by
  unfold Obligations.ElementwiseResult
  exact fun s d a b m e => ⟨intForm_claim, fun fm r he => floatForm_claim he, fun e r hfit hk8 => vcr_completes hfit hk8⟩

end Sys2Proof.Elementwise

/-! # VSETVL, masks, selection and compaction (R239, R244 to R247) -/

namespace Sys2Proof.Masks
open Sys2Proof Sys2Proof.Machine Sys2Proof.Claims Sys2Proof.Reads Sys2Proof.Control Sys2Proof.Strip Sys2Proof.Elementwise

/-! ## VSETVL (R239) -/

section SetVl

variable {s s1 : State} {d a : Fin 32} {e : EType} {x : Word}

/-- The operands of VSETVL that R239 refuses. -/
theorem vlIllegal_iff (e : EType) (x : Word) : vlIllegal e x.toNat = true ↔
    x.toNat / 2 ^ 62 ≠ 0 ∨ x.toNat / 2 ^ 60 % 4 = 3 ∨ (x.toNat / 2 ^ 60 % 4 ≠ 0 ∧
      (64 < 4 ^ (x.toNat / 2 ^ 60 % 4) * e.size ∨ x.toNat % 2 ^ 32 % 4 ^ (x.toNat / 2 ^ 60 % 4) ≠ 0)) := by
  have hhigh : bits x.toNat 63 62 = x.toNat / 2 ^ 62 := by
    have := x.isLt
    rw [bits, Nat.mod_eq_of_lt]
    omega
  have hlgd : bits x.toNat 61 60 = x.toNat / 2 ^ 60 % 4 := by simp [bits]
  have havl : bits x.toNat 31 0 = x.toNat % 2 ^ 32 := by simp [bits]
  have hg : ∀ n : Nat, 2 ^ n * 2 ^ n = 4 ^ n := fun n => by rw [← Nat.mul_pow]
  simp only [vlIllegal, hhigh, hlgd, havl, hg, Bool.or_eq_true, Bool.and_eq_true, bne_iff_ne, beq_iff_eq, decide_eq_true_eq, or_assoc]

theorem exec_vsetvl_illegal (ha : s.readG s.who a = .ok (x, s1)) (hbad : vlIllegal e x.toNat = true) :
    exec (.vsetvl d a e) s = trapped s (.vsetvl d a e) 0x01 (encodeWord (.vsetvl d a e)) := by
  change execVsetvl d a e s = _
  simp only [execVsetvl, issue_vec, ha, illegalIf, hbad, failIf_true, fail_bind, finish_fail, trapped]

theorem vlWord_eq {n : Nat} (hn : n < 2 ^ 9) (e : EType) (lgd sidx : Nat) :
    vlWord n e.code lgd sidx = BitVec.ofNat 64 (n + 2 ^ 9 * e.code + 2 ^ 12 * lgd + 2 ^ 32 * sidx) := by
  rw [vlWord, Nat.mod_eq_of_lt hn, Nat.mul_comm e.code, Nat.mul_comm lgd, Nat.mul_comm sidx]

theorem exec_vsetvl (ho : open_ s (.vsetvl d a e)) (ha : s.readG s.who a = .ok (x, s1)) (hok : vlIllegal e x.toNat = false)
    (hd : s1.chkDst s.who d = .ok ()) : exec (.vsetvl d a e) s =
    .next (((s1.writeG s.who d (BitVec.ofNat 64 (min (x.toNat % 2 ^ 32) (vbytes s / e.size)))).updTh s.who fun t =>
      { t with vl := BitVec.ofNat 64 (min (x.toNat % 2 ^ 32) (vbytes s / e.size) + 2 ^ 9 * e.code + 2 ^ 12 * (x.toNat / 2 ^ 60 % 4) +
        2 ^ 32 * (x.toNat / 2 ^ 32 % 2 ^ 28)) }).retire s.who (.vsetvl d a e)) := by
  have hops : s.chkOps s.who (.vsetvl d a e) = .ok () := ho
  have hlgd : bits x.toNat 61 60 = x.toNat / 2 ^ 60 % 4 := by simp [bits]
  have havl : bits x.toNat 31 0 = x.toNat % 2 ^ 32 := by simp [bits]
  have hidx : bits x.toNat 59 32 = x.toNat / 2 ^ 32 % 2 ^ 28 := by simp [bits]
  have hmin : ∀ n m : Nat, Nat.min n m = min n m := fun _ _ => rfl
  have hlt : min (x.toNat % 2 ^ 32) (vbytes s / e.size) < 2 ^ 9 := by
    refine (min_le_right _ _).trans_lt ((Nat.div_le_self _ _).trans_lt ?_)
    rcases vbytes_cases s with h | h <;> rw [h] <;> decide
  change execVsetvl d a e s = _
  simp only [execVsetvl, issue_vec, ha, illegalIf, hok, failIf_false, ok_bind, hops, State.putG, vlenB_eq, hlgd, havl, hidx, hmin, hd, finish_ok,
    vlWord_eq hlt]

end SetVl

/-! ## Mask bits (R244, R245) -/

section Bits

theorem maskOf_lt (bs : List Bool) : maskOf bs < 2 ^ bs.length := by
  induction bs with
  | nil => exact Nat.one_pos
  | cons b bs ih =>
    have hb : b2n b ≤ 1 := by cases b <;> decide
    rw [maskOf, List.length_cons, pow_succ]
    omega

theorem testBit_maskOf (bs : List Bool) (i : Nat) : (maskOf bs).testBit i = bs.getD i false := by
  induction bs generalizing i with
  | nil => simp [maskOf]
  | cons b bs ih =>
    cases i with
    | zero => cases b <;> simp [maskOf, b2n, Nat.testBit_zero]
    | succ i =>
      have hdiv : maskOf (b :: bs) / 2 = maskOf bs := by
        have hb : b2n b < 2 := by cases b <;> decide
        rw [maskOf]
        omega
      rw [Nat.testBit_succ, hdiv, ih, List.getD_cons_succ]

/-- Runs of `w` equal bits, one run for each index. -/
theorem getD_runs (w : Nat) (f : Nat → Bool) (n : Nat) :
    ((List.range n).flatMap fun j => List.replicate w (f j)).length = n * w ∧
      ∀ j t, j < n → t < w → ((List.range n).flatMap fun j => List.replicate w (f j)).getD (j * w + t) false = f j := by
  induction n with
  | zero => exact ⟨by simp, fun j t hj => absurd hj (Nat.not_lt_zero _)⟩
  | succ n ih =>
    obtain ⟨hlen, hget⟩ := ih
    have hsplit : (List.range (n + 1)).flatMap (fun j => List.replicate w (f j)) =
        (List.range n).flatMap (fun j => List.replicate w (f j)) ++ List.replicate w (f n) := by
      rw [List.range_succ, List.flatMap_append, List.flatMap_singleton]
    rw [hsplit]
    refine ⟨by rw [List.length_append, hlen, List.length_replicate, Nat.succ_mul], fun j t hj ht => ?_⟩
    rcases Nat.lt_succ_iff_lt_or_eq.1 hj with hlt | rfl
    · have hin : j * w + t < n * w := by
        calc j * w + t < j * w + w := Nat.add_lt_add_left ht _
          _ = (j + 1) * w := by ring
          _ ≤ n * w := Nat.mul_le_mul_right _ hlt
      rw [List.getD_append _ _ _ _ (by rw [hlen]; exact hin), hget j t hlt ht]
    · rw [List.getD_append_right _ _ _ _ (by rw [hlen]; exact Nat.le_add_right _ _), hlen, Nat.add_sub_cancel_left]
      simp [List.getD_eq_getElem?_getD, ht]

/-- The mask logic bit by bit (R245). -/
theorem testBit_mlog (o : MLogOp) (l a b i : Nat) (hi : i < l) : (o.eval l a b).testBit i =
    (match o with
    | .and => a.testBit i && b.testBit i
    | .or => a.testBit i || b.testBit i
    | .xor => (a.testBit i != b.testBit i)
    | .andn => a.testBit i && !b.testBit i) := by
  cases o <;> simp [MLogOp.eval, Nat.testBit_mod_two_pow, Nat.testBit_two_pow_sub_one, hi]

theorem mlog_lt (o : MLogOp) (l a b : Nat) : o.eval l a b < 2 ^ l := by
  have ha : a % 2 ^ l < 2 ^ l := Nat.mod_lt _ (Nat.two_pow_pos _)
  have hb : b % 2 ^ l < 2 ^ l := Nat.mod_lt _ (Nat.two_pow_pos _)
  have hfull : 2 ^ l - 1 < 2 ^ l := Nat.sub_lt (Nat.two_pow_pos _) one_pos
  cases o with
  | and => exact Nat.and_lt_two_pow _ hb
  | or => exact Nat.or_lt_two_pow ha hb
  | xor => exact Nat.xor_lt_two_pow ha hb
  | andn => exact Nat.and_lt_two_pow _ (Nat.xor_lt_two_pow hb hfull)

end Bits

/-- The conditions of VCMP (R244). -/
theorem holds_eq (c : VCond) {e : EType} {x y : Nat} (hx : x < 2 ^ (8 * e.size)) (hy : y < 2 ^ (8 * e.size)) : c.holds e x y = vcondVal e c x y := by
  cases hfmt : e.fmt with
  | some f =>
    simp only [VCond.holds, vcondVal, hfmt]
    cases c with
    | eq => simp [Val.eqv, Bool.not_or]
    | ne => simp [Val.eqv, Bool.not_and]
    | lt =>
      cases hX : f.decode x <;> cases hY : f.decode y <;> simp [Val.isNan, Val.lt]
    | ge => simp [Bool.not_or]
    | un => rfl
    | ltn => rfl
    | gen => rfl
  | none =>
    simp only [VCond.holds, vcondVal, hfmt, signed_eq hx, signed_eq hy]
    cases c with
    | ne => exact (decide_not (p := x = y)).symm
    | _ => rfl

section Masks

variable {s : State} {e : EType}

theorem exec_vcmp {k : Fin 8} {a b : Fin 16} {m : Fin 8} {c : VCond} (h : fits s e.size) : exec (.vcmp k a b m e c) s =
    .next ((s.writeM s.who k (maskOf ((List.range (strip s)).flatMap fun j => List.replicate (stripES s)
      (activeAt s m j && vcondVal e c (vel s e.size a j) (vel s e.size b j))))).retire s.who (.vcmp k a b m e c)) := by
  change execVcmp k a b m e c s = _
  simp only [execVcmp, issue_vec, fits_ok h, ok_bind, vlN_eq, vlE_eq, active_eq, elem_readV (size_dvd e), holds_eq c (vel_lt a _) (vel_lt b _), finish_ok]

theorem exec_vmlog (k x y : Fin 8) (o : MLogOp) : exec (.vmlog k x y o) s =
    .next ((s.writeM s.who k (o.eval (strip s * stripES s) (s.readM s.who x) (s.readM s.who y))).retire s.who (.vmlog k x y o)) := by
  change execVmlog k x y o s = _
  rw [execVmlog, issue_vec, finish_ok, Thread.vlL, vlN_eq, vlE_eq]

/-- The registers that a vector field names are never bound (Table 6.12). -/
theorem binding_gv (t : Thread) (g : Fin 16) : t.binding (gv g) = none :=
  t.binding_low (gv g) (g.isLt.trans (by decide))

theorem putG_gv (t : State) (g : Fin 16) (v : Word) : t.putG s.who (gv g) v = .ok (t.writeG s.who (gv g) v) := by
  rw [State.putG, State.chkDst_unbound _ _ _ (binding_gv _ _), ok_bind]

theorem exec_vpopm (g : Fin 16) (k : Fin 8) : WritesG (.vpopm g k) g s (BitVec.ofNat 64 ((List.range (strip s)).filter (activeAt s k)).length) := by
  change execVpopm g k s = _
  simp only [execVpopm, issue_vec, putG_gv, ok_bind, finish_ok, vlN_eq, active_eq]
  rfl

end Masks

/-! ## Units of the strip (R246) -/

section Units

variable {u n : Nat}

/-- The units of a strip that is given element by element. -/
theorem unitsOf_range (hu : 0 < u) (N : Nat) (f : Nat → Nat) :
    unitsOf u ((List.range N).map f) = (List.range (N / u)).map fun t => (List.range u).map fun i => f (t * u + i) := by
  rw [unitsOf, List.length_map, List.length_range]
  refine List.map_congr_left fun t ht => ?_
  have hle : t * u + u ≤ N := by
    have hlt := List.mem_range.1 ht
    calc t * u + u = (t + 1) * u := by ring
      _ ≤ N / u * u := Nat.mul_le_mul_right _ hlt
      _ ≤ N := Nat.div_mul_le_self N u
  refine List.ext_getElem ?_ fun i h1 h2 => ?_
  · simp only [List.length_take, List.length_drop, List.length_map, List.length_range]
    rw [Nat.mul_comm]
    omega
  · simp [Nat.mul_comm u]

/-- Lists of one length, joined. -/
theorem flatten_units {L : List (List Nat)} (hL : ∀ x ∈ L, x.length = u) :
    L.flatten.length = L.length * u ∧ ∀ j i, i < u → L.flatten.getD (j * u + i) 0 = (L.getD j []).getD i 0 := by
  induction L with
  | nil => exact ⟨by simp, fun j i _ => by simp⟩
  | cons x L ih =>
    obtain ⟨hlen, hget⟩ := ih fun y hy => hL y (List.mem_cons_of_mem _ hy)
    have hx := hL x List.mem_cons_self
    refine ⟨by rw [List.flatten_cons, List.length_append, hlen, hx, List.length_cons, Nat.succ_mul, Nat.add_comm], fun j i hi => ?_⟩
    rw [List.flatten_cons]
    cases j with
    | zero => rw [List.getD_append _ _ _ _ (by omega), Nat.zero_mul, Nat.zero_add, List.getD_cons_zero]
    | succ j =>
      rw [List.getD_append_right _ _ _ _ (by rw [hx, Nat.succ_mul]; omega), hx, List.getD_cons_succ, ← hget j i hi]
      congr 1
      rw [Nat.succ_mul]
      omega

variable {α : Type} (p : Nat → Bool) (A B : Nat → α)

theorem zipIdx_range (n : Nat) : ((List.range n).map A).zipIdx.map (fun q => (p q.2, q.1)) = (List.range n).map fun t => (p t, A t) := by
  refine List.ext_getElem (by simp) fun i h1 h2 => ?_
  simp

/-- The indices of the selected units, ascending. -/
theorem selected_range (n : Nat) : (((List.range n).map fun t => (p t, A t)).filter Prod.fst).map Prod.snd = ((List.range n).filter p).map A := by
  rw [List.filter_map, List.map_map]
  rfl

end Units

section Select

variable (p : Nat → Bool) (A B : Nat → List Nat) (n : Nat)

theorem select_eq : (((List.range n).map fun t => (p t, A t)).zip ((List.range n).map B)).map (fun q => if q.1.1 then q.1.2 else q.2) =
    (List.range n).map fun t => if p t then A t else B t := by
  rw [List.zip_map', List.map_map]
  rfl

theorem compressed_eq : compressed ((List.range n).map fun t => (p t, A t)) ((List.range n).map B) =
    (List.range n).map fun t => if t < ((List.range n).filter p).length then A (((List.range n).filter p).getD t 0)
      else B (t - ((List.range n).filter p).length) := by
  have hle : ((List.range n).filter p).length ≤ n := (List.length_filter_le _ _).trans List.length_range.le
  rw [compressed, selected_range]
  refine List.ext_getElem ?_ fun i h1 h2 => ?_
  · simp only [List.length_append, List.length_map, List.length_take, List.length_range]
    omega
  · simp only [List.length_map, List.length_range] at h2
    rw [List.getElem_append]
    simp only [List.length_map, List.getElem_map, List.getElem_range]
    split
    · next hlt => simp [List.getD_eq_getElem?_getD, hlt]
    · simp

/-- Expansion, unit by unit: a selected one takes the next of `xs`. -/
theorem getD_expanded (ps : List Bool) : ∀ xs ys : List (List Nat), ps.countP id ≤ xs.length → ys.length = ps.length →
    (expanded ps xs ys).length = ps.length ∧
      ∀ t < ps.length, (expanded ps xs ys).getD t [] = if ps.getD t false then xs.getD ((ps.take t).countP id) [] else ys.getD t [] := by
  induction ps with
  | nil => exact fun xs ys _ _ => ⟨by simp [expanded], fun t ht => absurd ht (Nat.not_lt_zero _)⟩
  | cons q ps ih =>
    intro xs ys hxs hys
    cases ys with
    | nil => simp at hys
    | cons y ys =>
      rw [List.length_cons, List.length_cons, Nat.succ_inj] at hys
      cases q with
      | false =>
        rw [List.countP_cons_of_neg (by simp)] at hxs
        obtain ⟨hlen, hget⟩ := ih xs ys hxs hys
        refine ⟨by rw [expanded, List.length_cons, hlen, List.length_cons], fun t ht => ?_⟩
        cases t with
        | zero => simp [expanded]
        | succ t =>
          rw [expanded, List.getD_cons_succ, List.getD_cons_succ, List.getD_cons_succ, hget t (by simpa using ht), List.take_succ_cons,
            List.countP_cons_of_neg (by simp)]
      | true =>
        rw [List.countP_cons_of_pos (by simp)] at hxs
        cases xs with
        | nil => simp at hxs
        | cons x xs =>
          rw [List.length_cons, Nat.add_le_add_iff_right] at hxs
          obtain ⟨hlen, hget⟩ := ih xs ys hxs hys
          refine ⟨by rw [expanded, List.length_cons, hlen, List.length_cons], fun t ht => ?_⟩
          cases t with
          | zero => simp [expanded]
          | succ t =>
            rw [expanded, List.getD_cons_succ, List.getD_cons_succ, List.getD_cons_succ, hget t (by simpa using ht), List.take_succ_cons,
              List.countP_cons_of_pos (by simp), List.getD_cons_succ]

/-- The selected units below t. -/
theorem selectedBelow {t : Nat} (ht : t ≤ n) : ((List.range n).filter p).filter (fun x => decide (x < t)) = (List.range t).filter p := by
  obtain ⟨k, rfl⟩ := Nat.exists_eq_add_of_le ht
  rw [List.range_add, List.filter_append, List.filter_append]
  have hlow : ((List.range t).filter p).filter (fun x => decide (x < t)) = (List.range t).filter p :=
    List.filter_eq_self.2 fun x hx => decide_eq_true (List.mem_range.1 (List.mem_filter.1 hx).1)
  have hhigh : (((List.range k).map (t + ·)).filter p).filter (fun x => decide (x < t)) = [] := by
    refine List.filter_eq_nil_iff.2 fun x hx => ?_
    obtain ⟨i, -, rfl⟩ := List.mem_map.1 (List.mem_filter.1 hx).1
    simp
  rw [hlow, hhigh, List.append_nil]

theorem getD_map_range {c : Nat} (hc : c < n) : ((List.range n).map A).getD c [] = A c := by
  simp [List.getD_eq_getElem?_getD, hc]

theorem expanded_eq : expanded (((List.range n).map fun t => (p t, A t)).map Prod.fst) (((List.range n).map fun t => (p t, A t)).map Prod.snd)
    ((List.range n).map B) =
    (List.range n).map fun t => if p t then A ((((List.range n).filter p).filter fun x => decide (x < t)).length) else B t := by
  have hps : ((List.range n).map fun t => (p t, A t)).map Prod.fst = (List.range n).map p := by rw [List.map_map]; rfl
  have hxs : ((List.range n).map fun t => (p t, A t)).map Prod.snd = (List.range n).map A := by rw [List.map_map]; rfl
  rw [hps, hxs]
  have hcount : ((List.range n).map p).countP id ≤ ((List.range n).map A).length := by
    rw [List.length_map, ← List.length_map (f := p)]
    exact List.countP_le_length
  obtain ⟨hlen, hget⟩ := getD_expanded ((List.range n).map p) ((List.range n).map A) ((List.range n).map B) hcount (by simp)
  refine List.ext_getElem (by simpa using hlen) fun t h1 h2 => ?_
  have ht : t < n := by simpa using h2
  have hval := hget t (by simpa using ht)
  have hbelow : (((List.range n).map p).take t).countP id = (((List.range n).filter p).filter fun x => decide (x < t)).length := by
    rw [selectedBelow p n ht.le, ← List.map_take, List.take_range, min_eq_left ht.le, List.countP_map, List.countP_eq_length_filter]
    rfl
  have hcle : (((List.range n).filter p).filter fun x => decide (x < t)).length < n := by
    rw [selectedBelow p n ht.le]
    exact ((List.length_filter_le _ _).trans List.length_range.le).trans_lt ht
  rw [hbelow] at hval
  rw [List.getD_eq_getElem _ _ h1] at hval
  have hsel : ((List.range n).map p).getD t false = p t := by simp [List.getD_eq_getElem?_getD, ht]
  rw [hval, hsel, getD_map_range A n hcle, getD_map_range B n ht, List.getElem_map, List.getElem_range]

end Select

section Forms

variable {s : State} {d a b : Fin 16} {m : Fin 8} {e : EType}

/-- Unit t of a register. -/
def unitAt (s : State) (es : Nat) (v : Fin 16) (t : Nat) : List Nat := (List.range (unit s)).map fun i => vel s es v (t * unit s + i)

/-- What a selection settles, from where each unit of the destination comes. -/
def Selects (i : Instr) (s : State) (d a b : Fin 16) (e : EType) (g : Nat → Bool × Nat) : Prop :=
  unfit i s e.size ∧ (fits s e.size → strip s % unit s = 0 → Writes false i d e.size s fun k =>
    vel s e.size (if (g (k / unit s)).1 then a else b) ((g (k / unit s)).2 * unit s + k % unit s))

/-- VSEL, VCOMPRESS and VEXPAND, from the units that the destination takes. -/
theorem selOp_claim {i : Instr} (g : Nat → Bool × Nat) {f : List (Bool × List Nat) → List (List Nat) → List (List Nat)}
    (hexec : exec i s = selOp i d a b m e f s)
    (hf : f ((List.range (strip s / unit s)).map fun t => (unitSel s m t, unitAt s e.size a t)) ((List.range (strip s / unit s)).map (unitAt s e.size b)) =
      (List.range (strip s / unit s)).map fun t => unitAt s e.size (if (g t).1 then a else b) (g t).2) :
    Selects i s d a b e g := by
  have hu := unit_pos s
  have helems : ∀ v, s.elems s.who e.size v = (List.range (strip s)).map fun k => vel s e.size v k := fun v => by
    simp only [State.elems, vlN_eq, elem_readV (size_dvd e)]
  have hunits : ∀ v, unitsOf (unit s) (s.elems s.who e.size v) = (List.range (strip s / unit s)).map (unitAt s e.size v) := fun v => by
    rw [helems, unitsOf_range hu]
    rfl
  refine ⟨fun h => ?_, fun h hmod => ?_⟩
  · rw [hexec, selOp, issue_vec, fits_fail h, fail_bind, finish_fail, trapped]
  · have hsel : ((List.range (strip s / unit s)).map (unitAt s e.size a)).zipIdx.map (fun q => (s.active s.who m (q.2 * unit s), q.1)) =
        (List.range (strip s / unit s)).map fun t => (unitSel s m t, unitAt s e.size a t) := by
      simp only [active_eq]
      exact zipIdx_range (unitSel s m) (unitAt s e.size a) _
    set L := (List.range (strip s / unit s)).map fun t => unitAt s e.size (if (g t).1 then a else b) (g t).2 with hL
    have hlen : ∀ x ∈ L, x.length = unit s := fun x hx => by
      obtain ⟨t, -, rfl⟩ := List.mem_map.1 hx
      rw [unitAt, List.length_map, List.length_range]
    obtain ⟨hflat, hget⟩ := flatten_units hlen
    have hN : strip s / unit s * unit s = strip s := Nat.div_mul_cancel (Nat.dvd_of_mod_eq_zero hmod)
    have hLlen : L.flatten.length = strip s := by rw [hflat, hL, List.length_map, List.length_range, hN]
    refine ⟨packE e.size L.flatten, ?_, ?_, fun k hk => ?_⟩
    · rw [hexec, selOp, issue_vec, fits_ok h, ok_bind]
      simp only [unit_eq, hunits]
      rw [hsel, hf, finish_ok]
      rfl
    · have hlt := packE_lt e.size L.flatten
      rwa [hLlen] at hlt
    · have hj : k / unit s < strip s / unit s := by
        rw [Nat.div_lt_iff_lt_mul hu, hN]
        exact hk
      have hi : k % unit s < unit s := Nat.mod_lt _ hu
      have hkk : k = k / unit s * unit s + k % unit s := by rw [Nat.mul_comm, Nat.div_add_mod]
      have hval : L.flatten.getD k 0 = vel s e.size (if (g (k / unit s)).1 then a else b) ((g (k / unit s)).2 * unit s + k % unit s) := by
        conv_lhs => rw [hkk]
        rw [hget _ _ hi, hL]
        simp [List.getD_eq_getElem?_getD, hj, hi, unitAt]
      rw [packE_elem, hval]
      exact Nat.mod_eq_of_lt (vel_lt _ _)

theorem exec_vsel (d a b : Fin 16) (m : Fin 8) (e : EType) (s : State) : exec (.vsel d a b m e) s =
    selOp (.vsel d a b m e) d a b m e (fun sel ys => (sel.zip ys).map fun q => if q.1.1 then q.1.2 else q.2) s := by
  change execVsel d a b m e s = _
  rw [execVsel]

theorem vsel_claim : Selects (.vsel d a b m e) s d a b e fun t => (unitSel s m t, t) := by
  refine selOp_claim _ (exec_vsel d a b m e s) ?_
  refine (select_eq (unitSel s m) (unitAt s e.size a) (unitAt s e.size b) _).trans (List.map_congr_left fun t _ => ?_)
  cases unitSel s m t <;> rfl

theorem vcompress_claim : Selects (.vcompress d a b m e) s d a b e fun t =>
    if t < (chosen s m).length then (true, (chosen s m).getD t 0) else (false, t - (chosen s m).length) := by
  have hexec : exec (.vcompress d a b m e) s = selOp (.vcompress d a b m e) d a b m e compressed s := by
    change execVcompress d a b m e s = _
    rw [execVcompress]
  refine selOp_claim _ hexec ?_
  refine (compressed_eq (unitSel s m) (unitAt s e.size a) (unitAt s e.size b) _).trans (List.map_congr_left fun t _ => ?_)
  rw [← chosen]
  split <;> rfl

theorem vexpand_claim : Selects (.vexpand d a b m e) s d a b e fun t =>
    if unitSel s m t then (true, ((chosen s m).filter fun (x : Nat) => decide (x < t)).length) else (false, t) := by
  have hexec : exec (.vexpand d a b m e) s = selOp (.vexpand d a b m e) d a b m e
      (fun sel ys => expanded (sel.map Prod.fst) (sel.map Prod.snd) ys) s := by
    change execVexpand d a b m e s = _
    rw [execVexpand]
  refine selOp_claim _ hexec ?_
  refine (expanded_eq (unitSel s m) (unitAt s e.size a) (unitAt s e.size b) _).trans (List.map_congr_left fun t _ => ?_)
  cases unitSel s m t <;> rfl

theorem selForm_claim : ∀ f ∈ selForms e, unfit (f.1 d a b m) s e.size ∧ (fits s e.size → strip s % unit s = 0 →
    Writes false (f.1 d a b m) d e.size s fun k =>
      let (fromA, t) := f.2 s m (k / unit s)
      vel s e.size (if fromA then a else b) (t * unit s + k % unit s)) := by
  intro f hf
  simp only [selForms, List.mem_cons, List.not_mem_nil, or_false] at hf
  rcases hf with rfl | rfl | rfl
  · exact vsel_claim
  · exact vcompress_claim
  · exact vexpand_claim

end Forms

/-- Settles O28: VSETVL by its operand, masks bit by bit, and selection unit by unit. -/
theorem stripMaskAndSelect : Obligations.StripMaskAndSelect := by
  unfold Obligations.StripMaskAndSelect
  refine ⟨fun s d a e s1 x ho ha => ⟨fun hbad => exec_vsetvl_illegal ha ((vlIllegal_iff e x).2 hbad), fun hok hd =>
    exec_vsetvl ho ha (Bool.eq_false_iff.2 fun h => hok ((vlIllegal_iff e x).1 h)) hd⟩, fun s a b m e => ⟨fun k c => ⟨fun h => ?_, fun h => ?_⟩,
    fun k x y o => ⟨_, exec_vmlog k x y o, mlog_lt o _ _ _, fun j hj => testBit_mlog o _ _ _ j hj⟩, exec_vpopm, fun d => selForm_claim⟩⟩
  · change execVcmp k a b m e c s = _
    rw [execVcmp, issue_vec, fits_fail h, fail_bind, finish_fail, trapped]
  · obtain ⟨hlen, hget⟩ := getD_runs (stripES s) (fun j => activeAt s m j && vcondVal e c (vel s e.size a j) (vel s e.size b j)) (strip s)
    refine ⟨_, exec_vcmp h, ?_, fun j t hj ht => ?_⟩
    · have hlt := maskOf_lt ((List.range (strip s)).flatMap fun j => List.replicate (stripES s)
        (activeAt s m j && vcondVal e c (vel s e.size a j) (vel s e.size b j)))
      rwa [hlen] at hlt
    · rw [testBit_maskOf, hget j t hj ht]

end Sys2Proof.Masks

/-! # Permutes and reductions (R131, R248, R249) -/

namespace Sys2Proof.Permute
open Sys2Proof Sys2Proof.Machine Sys2Proof.Claims Sys2Proof.Reads Sys2Proof.Control Sys2Proof.Floats Sys2Proof.Strip Sys2Proof.Elementwise Sys2Proof.Masks

/-! ## Permutes (R248) -/

section Permutes

variable {s : State} {d a b : Fin 16} {m : Fin 8} {e : EType}

theorem vg_eq (n : Fin 16) : (s.th s.who).vg n = reg16 s n := rfl

theorem readG_gv (n : Fin 16) : s.readG s.who (gv n) = .ok (reg16 s n, s) := by
  have h0 : gv n = 0 ↔ n = 0 := by
    rw [gv, Fin.ext_iff, Fin.ext_iff]
    rfl
  by_cases hn : n = 0
  · rw [State.readG, if_pos (h0.2 hn), reg16, if_pos hn]
  · rw [State.readG, if_neg fun h => hn (h0.1 h), binding_gv, reg16, if_neg hn]
    rfl

/-- A permute, from the element that it computes. -/
theorem permOp_claim {i : Instr} {f : State → Who → Nat → Nat} {F : Nat → Nat} (hexec : exec i s = permOp i d m e f s)
    (hf : ∀ k < strip s, f s s.who k % 2 ^ (8 * e.size) = F k) :
    unfit i s e.size ∧ (fits s e.size → Writes false i d e.size s (masked s m e.size d F)) := by
  refine ⟨fun h => ?_, fun h => writes_of_writeElems (g := fun k _ => f s s.who k) (size_dvd e) ?_ hf⟩
  · rw [hexec, permOp, issue_vec, fits_fail h, fail_bind, finish_fail, trapped]
  · rw [hexec, permOp, issue_vec, fits_ok h, ok_bind, finish_ok]
    rfl

theorem exec_vext (h : fits s e.size) : WritesG (.vext d a b e) d s (if (reg16 s b).toNat < strip s then
    (if e.fmt.isSome then BitVec.ofNat 64 (vel s e.size a (reg16 s b).toNat) else BitVec.ofInt 64 (sext (8 * e.size) (vel s e.size a (reg16 s b).toNat)))
    else 0) := by
  have hfloat : e.floating = e.fmt.isSome := by cases e <;> rfl
  change execVext d a b e s = _
  simp only [execVext, issue_vec, fits_ok h, readG_gv, putG_gv, ok_bind, finish_ok, vlN_eq, elem_readV (size_dvd e), hfloat, toWord]
  rfl

theorem exec_vins (h : fits s e.size) : exec (.vins d a b e) s = .next (ended false (.vins d a b e) s.who
    (s.writeElems s.who e.size 0 d fun k o => if k = (reg16 s b).toNat then vel s e.size a 0 else o)) := by
  change execVins d a b e s = _
  simp only [execVins, issue_vec, fits_ok h, readG_gv, ok_bind, finish_ok, elem_readV (size_dvd e)]
  rfl

end Permutes

/-! ## The tree of R131 -/

section Tree

variable {op : Nat → Nat → Nat}

/-- One step of the tree: the two parts, where an absent one leaves the other. -/
def joined (op : Nat → Nat → Nat) : Option Nat → Option Nat → Option Nat
  | none, r => r
  | l, none => l
  | some l, some r => some (op l r)

theorem treeFold_split (f : Nat) {xs : List (Option Nat)} (h : 2 ≤ xs.length) : treeFold op (f + 1) xs =
    joined op (treeFold op f (xs.take (2 ^ Nat.log2 (xs.length - 1)))) (treeFold op f (xs.drop (2 ^ Nat.log2 (xs.length - 1)))) := by
  match xs, h with
  | x :: y :: xs, _ =>
    rw [treeFold]
    · cases treeFold op f (List.take (2 ^ Nat.log2 ((x :: y :: xs).length - 1)) (x :: y :: xs)) <;>
        cases treeFold op f (List.drop (2 ^ Nat.log2 ((x :: y :: xs).length - 1)) (x :: y :: xs)) <;> rfl
    · exact fun hz => absurd hz (by simp)
    · exact fun z hz => absurd hz (by simp)

theorem tree_split (x : Nat → Option Nat) (f lo : Nat) {n : Nat} (h : 2 ≤ n) : tree op x (f + 1) lo n =
    joined op (tree op x f lo (2 ^ Nat.log2 (n - 1))) (tree op x f (lo + 2 ^ Nat.log2 (n - 1)) (n - 2 ^ Nat.log2 (n - 1))) := by
  rw [tree, if_neg (by omega)]
  simp only
  cases tree op x f lo (2 ^ Nat.log2 (n - 1)) <;> cases tree op x f (lo + 2 ^ Nat.log2 (n - 1)) (n - 2 ^ Nat.log2 (n - 1)) <;> rfl

/-- The greatest power of two below a length halves what is left. -/
theorem half_bounds {n f : Nat} (h : 2 ≤ n) (hn : n ≤ 2 ^ (f + 1)) :
    1 ≤ 2 ^ Nat.log2 (n - 1) ∧ 2 ^ Nat.log2 (n - 1) < n ∧ 2 ^ Nat.log2 (n - 1) ≤ 2 ^ f ∧ n - 2 ^ Nat.log2 (n - 1) ≤ 2 ^ f := by
  have hself := Nat.log2_self_le (n := n - 1) (by omega)
  have hlt : n - 1 < 2 ^ (Nat.log2 (n - 1) + 1) := Nat.lt_log2_self
  have hlog : Nat.log2 (n - 1) ≤ f := by
    have hpow : 2 ^ Nat.log2 (n - 1) < 2 ^ (f + 1) := by omega
    have := (Nat.pow_lt_pow_iff_right (by norm_num : 1 < 2)).1 hpow
    omega
  have hle : 2 ^ Nat.log2 (n - 1) ≤ 2 ^ f := Nat.pow_le_pow_right (by norm_num) hlog
  rw [pow_succ] at hlt
  exact ⟨Nat.one_le_two_pow, by omega, hle, by omega⟩

/-- The model's tree over a list is the tree over its indices; enough fuel is left to either. -/
theorem treeFold_eq_tree (x : Nat → Option Nat) (f : Nat) : ∀ f' lo n : Nat, 1 ≤ n → n ≤ 2 ^ f → n ≤ 2 ^ f' →
    treeFold op (f + 1) ((List.range' lo n).map x) = tree op x (f' + 1) lo n := by
  induction f with
  | zero =>
    intro f' lo n hpos hn hn'
    obtain rfl : n = 1 := by omega
    rfl
  | succ f ih =>
    intro f' lo n hpos hn hn'
    rcases Nat.lt_or_ge n 2 with hone | htwo
    · obtain rfl : n = 1 := by omega
      rfl
    · obtain ⟨g, rfl⟩ : ∃ g, f' = g + 1 := ⟨f' - 1, by cases f' with | zero => omega | succ g => rfl⟩
      obtain ⟨h1, hlt, hle, hrest⟩ := half_bounds htwo hn
      obtain ⟨-, -, hle', hrest'⟩ := half_bounds htwo hn'
      have hlen : ((List.range' lo n).map x).length = n := by rw [List.length_map, List.length_range']
      rw [treeFold_split _ (by rw [hlen]; exact htwo), tree_split _ _ _ htwo, hlen]
      set h := 2 ^ Nat.log2 (n - 1)
      have htake : ((List.range' lo n).map x).take h = (List.range' lo h).map x := by
        rw [← List.map_take, List.take_range'_of_length_ge hlt.le]
      have hdrop : ((List.range' lo n).map x).drop h = (List.range' (lo + h) (n - h)).map x := by
        rw [← List.map_drop, List.drop_range', Nat.mul_one]
      rw [htake, hdrop, ih g lo h h1 hle hle', ih g (lo + h) (n - h) (by omega) hrest hrest']

/-- One group's part in a reduction. -/
def groupStep (op : Nat → Nat → Nat) (x : Nat → Option Nat) (g n acc j : Nat) : Nat :=
  match tree op x 8 (j * g) (min (n - j * g) g) with
  | some t => op acc t
  | none => acc

/-- The groups of a reduction from the j-th on. -/
theorem reduceGroups_eq (x : Nat → Option Nat) {g : Nat} (hg : 0 < g) (hg64 : g ≤ 64) (n : Nat) (f : Nat) : ∀ j acc : Nat,
    (n + g - 1) / g - j < f → reduceGroups op g f acc ((List.range' (j * g) (n - j * g)).map x) =
      (List.range' j ((n + g - 1) / g - j)).foldl (groupStep op x g n) acc := by
  induction f with
  | zero => exact fun j acc h => absurd h (Nat.not_lt_zero _)
  | succ f ih =>
    intro j acc hf
    have hcount : (n + g - 1) / g ≤ j ↔ n ≤ j * g := by
      rw [← Nat.lt_succ_iff, Nat.div_lt_iff_lt_mul hg, Nat.succ_mul]
      omega
    rw [reduceGroups]
    by_cases hdone : n ≤ j * g
    · have hn0 : n - j * g = 0 := by omega
      have hj0 : (n + g - 1) / g - j = 0 := by have := hcount.2 hdone; omega
      rw [hn0, hj0]
      rfl
    · have hmore : j < (n + g - 1) / g := by
        rw [← not_le, hcount]
        exact hdone
      have hsplit : (n + g - 1) / g - j = ((n + g - 1) / g - (j + 1)) + 1 := by omega
      have hne : ((List.range' (j * g) (n - j * g)).map x).isEmpty = false := by
        rw [List.isEmpty_eq_false_iff]
        intro hnil
        have := congrArg List.length hnil
        simp at this
        omega
      have htake : ((List.range' (j * g) (n - j * g)).map x).take g = (List.range' (j * g) (min (n - j * g) g)).map x := by
        rw [← List.map_take]
        congr 1
        rcases le_total g (n - j * g) with hle | hle
        · rw [List.take_range'_of_length_ge hle, min_eq_right hle]
        · rw [List.take_range'_of_length_le hle, min_eq_left hle]
      have hdrop : ((List.range' (j * g) (n - j * g)).map x).drop g = (List.range' ((j + 1) * g) (n - (j + 1) * g)).map x := by
        rw [← List.map_drop, List.drop_range', Nat.mul_one, Nat.succ_mul, Nat.sub_sub]
      have hmin : min (n - j * g) g ≤ 64 := (min_le_right _ _).trans hg64
      have htree : treeFold op 16 ((List.range' (j * g) (min (n - j * g) g)).map x) = tree op x 8 (j * g) (min (n - j * g) g) :=
        treeFold_eq_tree x 15 7 _ _ (by omega) (hmin.trans (by norm_num)) (hmin.trans (by norm_num))
      rw [hne, hsplit, List.range'_succ, List.foldl_cons, htake, hdrop, htree, if_neg (by simp)]
      simp only
      rw [ih (j + 1) _ (by omega)]
      congr 1
      rw [groupStep]
      cases tree op x 8 (j * g) (min (n - j * g) g) <;> rfl

/-- The model's reduction is that of R131. -/
theorem reduceGroups_eq_reduce (x : Nat → Option Nat) {es : Nat} (hes : es ∣ 64) (hpos : 0 < es) (n acc : Nat) :
    reduceGroups op (64 / es) (n + 1) acc ((List.range n).map x) = reduce op x es n acc := by
  have hg : 0 < 64 / es := Nat.div_pos (Nat.le_of_dvd (by norm_num) hes) hpos
  have hfuel : (n + 64 / es - 1) / (64 / es) - 0 < n + 1 := by
    rw [Nat.sub_zero, Nat.div_lt_iff_lt_mul hg, Nat.succ_mul]
    have := Nat.le_mul_of_pos_right n hg
    omega
  have h := reduceGroups_eq (op := op) x hg (Nat.div_le_self _ _) n (n + 1) 0 acc hfuel
  rw [Nat.zero_mul, Nat.sub_zero, Nat.sub_zero, ← List.range_eq_range', ← List.range_eq_range'] at h
  rw [h]
  rfl

end Tree

/-! ## Reductions (R249) -/

section Reductions

variable {s : State} {d a : Fin 16} {m : Fin 8} {e : EType}

theorem eval_sum (e : EType) : RedOp.sum.eval e = opSum e := by
  funext l r
  rw [RedOp.eval, opSum]
  cases hfmt : e.fmt with
  | some f => rw [add_float hfmt]; rfl
  | none => rw [vAdd, by_int hfmt]

theorem eval_max (e : EType) : RedOp.max.eval e = opMax e := by
  funext l r
  cases hfmt : e.fmt <;> simp only [RedOp.eval, Claims.opMax, vMax, EType.by, hfmt]

theorem eval_min (e : EType) : RedOp.min.eval e = opMin e := by
  funext l r
  cases hfmt : e.fmt <;> simp only [RedOp.eval, Claims.opMin, vMin, EType.by, hfmt]

theorem redOp_claim {i : Instr} {o : RedOp} {f : Nat → Nat → Nat} (hexec : exec i s = redOp i o d a m e s) (ho : o.eval e = f) :
    unfit i s e.size ∧ (fits s e.size → exec i s = .next ((s.writeV s.who d
      (reduce f (fun k => if activeAt s m k then some (vel s e.size a k) else none) e.size (strip s) (vel s e.size d 0) % 2 ^ (8 * e.size))).retire s.who i)) := by
  refine ⟨fun h => ?_, fun h => ?_⟩
  · rw [hexec, redOp, issue_vec, fits_fail h, fail_bind, finish_fail, trapped]
  · have hxs : (s.elems s.who e.size a).zipIdx.map (fun q => if s.active s.who m q.2 then some q.1 else none) =
        (List.range (strip s)).map fun k => if activeAt s m k then some (vel s e.size a k) else none := by
      simp only [State.elems, vlN_eq, active_eq, elem_readV (size_dvd e)]
      refine List.ext_getElem (by simp) fun j h1 h2 => ?_
      simp
    rw [hexec, redOp, issue_vec, fits_ok h, ok_bind]
    simp only [elem_readV (size_dvd e), ho]
    rw [hxs, List.length_map, List.length_range, reduceGroups_eq_reduce _ (size_dvd e) (size_pos e), finish_ok]

theorem redForm_claim : ∀ f ∈ redForms e, unfit (f.1 d a m) s e.size ∧ (fits s e.size → exec (f.1 d a m) s = .next ((s.writeV s.who d
    (reduce f.2 (fun k => if activeAt s m k then some (vel s e.size a k) else none) e.size (strip s) (vel s e.size d 0) % 2 ^ (8 * e.size))).retire
      s.who (f.1 d a m))) := by
  intro f hf
  simp only [redForms, List.mem_cons, List.not_mem_nil, or_false] at hf
  rcases hf with rfl | rfl | rfl
  · exact redOp_claim (i := .vrsum d a m e) (o := .sum) rfl (eval_sum e)
  · exact redOp_claim (i := .vrmax d a m e) (o := .max) rfl (eval_max e)
  · exact redOp_claim (i := .vrmin d a m e) (o := .min) rfl (eval_min e)

end Reductions

/-- Settles O29: the permutes by their elements, the reductions by the tree of R131. -/
theorem permuteAndReduction : Obligations.PermuteAndReduction := by
  unfold Obligations.PermuteAndReduction
  refine ⟨fun s d a b m e => ⟨?_, ?_, ?_, ⟨fun h => ?_, exec_vext⟩, ⟨fun h => ?_, fun h => ?_⟩⟩, fun s d a m e => redForm_claim⟩
  · refine permOp_claim (f := fun s w k => let j := elem e.size k (s.readV w b); if j < (s.th w).vlN then elem e.size j (s.readV w a) else 0) rfl fun k _ => ?_
    simp only [elem_readV (size_dvd e), vlN_eq]
    split
    · exact Nat.mod_eq_of_lt (vel_lt _ _)
    · rw [Nat.zero_mod]
  · refine permOp_claim (f := fun s w k => let j : Int := k + ((s.th w).vg b).toInt
      if 0 ≤ j ∧ j < (s.th w).vlN then elem e.size j.toNat (s.readV w a) else 0) rfl fun k _ => ?_
    simp only [elem_readV (size_dvd e), vlN_eq, vg_eq]
    split
    · exact Nat.mod_eq_of_lt (vel_lt _ _)
    · rw [Nat.zero_mod]
  · exact permOp_claim (f := fun s w _ => ((s.th w).vg b).toNat) rfl fun k _ => rfl
  · change execVext d a b e s = _
    rw [execVext, issue_vec, fits_fail h, fail_bind, finish_fail, trapped]
  · change execVins d a b e s = _
    rw [execVins, issue_vec, fits_fail h, fail_bind, finish_fail, trapped]
  · have hlt : ∀ k, (if k = (reg16 s b).toNat then vel s e.size a 0 else vel s e.size d k) < 2 ^ (8 * e.size) := fun k => by
      split
      · exact vel_lt _ _
      · exact vel_lt _ _
    have hw := writes_of_writeElems (F := fun k => if k = (reg16 s b).toNat then vel s e.size a 0 else vel s e.size d k) (size_dvd e) (exec_vins h)
      fun k _ => Nat.mod_eq_of_lt (hlt k)
    rwa [masked_zero] at hw

end Sys2Proof.Permute

/-! # Conversion, quantisation and small matrices (R250 to R252, R256 to R258) -/

namespace Sys2Proof.Convert
open Sys2Proof Sys2Proof.Machine Sys2Proof.Claims Sys2Proof.Reads Sys2Proof.Control Sys2Proof.Floats Sys2Proof.Strip Sys2Proof.Elementwise Sys2Proof.Masks
  Sys2Proof.Permute

theorem codeBits_eq (c : Nat) (hc : c < 16) : codeBits c = fmtBits c := by interval_cases c <;> rfl

theorem fmtBits_dvd : ∀ z : Fin 16, fmtBits z.val / 8 = 0 ∨ fmtBits z.val / 8 ∣ 64 := by decide

/-! ## VCVT (R250) -/

section Cvt

variable {s : State} {d a : Fin 16} {e : EType}

/-- The conversion of VCVT. -/
theorem vCvt_eq (e : EType) (v : Val) : vCvt e v = converted e v := by
  rw [vCvt, converted, EType.by]
  cases hfmt : e.fmt with
  | some f => rfl
  | none =>
    have hpos : 0 < 8 * e.size := Nat.mul_pos (by norm_num) (size_pos e)
    have hpow : (2 : Int) ^ (8 * e.size) = 2 * 2 ^ (8 * e.size - 1) := by rw [← pow_succ', Nat.sub_add_cancel hpos]
    have htop : (1 : Int) ≤ 2 ^ (8 * e.size - 1) := one_le_pow₀ (by norm_num)
    cases v with
    | nan => simp
    | inf s =>
      cases s
      · simp only [Bool.false_eq_true, if_false]
        push_cast
        rw [hpow, Int.emod_eq_of_lt (by omega) (by omega)]
        have hcast : ((2 ^ (8 * e.size - 1) - 1 : Nat) : Int) = 2 ^ (8 * e.size - 1) - 1 := by
          rw [Nat.cast_sub Nat.one_le_two_pow]
          push_cast
          rfl
        rw [← hcast, Int.toNat_natCast]
      · simp only [if_true]
        push_cast
        have hadd : (-2 ^ (8 * e.size - 1) : Int) % (2 * 2 ^ (8 * e.size - 1)) = 2 ^ (8 * e.size - 1) := by
          rw [← Int.add_emod_right, Int.emod_eq_of_lt (by omega) (by omega)]
          omega
        rw [hpow, hadd]
        have hcast : ((2 ^ (8 * e.size - 1) : Nat) : Int) = 2 ^ (8 * e.size - 1) := by push_cast; rfl
        rw [← hcast, Int.toNat_natCast]
    | fin s n d =>
      simp only
      push_cast
      congr 2
      generalize roundInt .rne 0 s n d = x
      rcases lt_or_ge x (-2 ^ (8 * e.size - 1)) with hlow | hlow
      · rw [if_pos hlow, max_eq_right hlow.le, min_eq_left (by omega)]
      · rw [if_neg (not_lt.2 hlow), max_eq_left hlow]
        rcases lt_or_ge (2 ^ (8 * e.size - 1) - 1) x with hhigh | hhigh
        · rw [if_pos hhigh, min_eq_right hhigh.le]
        · rw [if_neg (not_lt.2 hhigh), min_eq_left hhigh]

/-- Elements of a source of a format code, of no bytes where the code has less than a byte. -/
theorem elem_code (z : Fin 16) (v : Fin 16) (k : Nat) : elem (fmtBits z.val / 8) k (s.readV s.who v) = vel s (fmtBits z.val / 8) v k := by
  rcases fmtBits_dvd z with h | h
  · rw [h, elem, vel]
    simp [Nat.mod_one]
  · exact elem_readV h v k

theorem exec_vcvt {z : Fin 16} : exec (.vcvt d a z e) s = finish s.who (.vcvt d a z e) s (do
    s.fits s.who (.vcvt d a z e) (fmtBits z.val / 8)
    s.fits s.who (.vcvt d a z e) e.size
    .ok ((s.writeElems s.who e.size 0 d fun k _ => converted e (codeVal z.val false (vel s (fmtBits z.val / 8) a k))).retire s.who (.vcvt d a z e))) := by
  change execVcvt d a z e s = _
  rw [execVcvt, issue_vec]
  simp only [codeBits_eq _ z.isLt, vCvt_eq, elem_code]

end Cvt

/-! ## Values with a denominator -/

section Proper

theorem proper_pow2 (s : Bool) (n : Nat) (e : Int) : Proper (Val.pow2 s n e) := proper_of_pos (scale2_pos one_pos e)

theorem proper_s12 (x : Nat) : Proper (s12 x) := by
  rw [s12]
  split
  · exact proper_of_pos one_pos
  · split
    · exact proper_nan
    · exact proper_pow2 _ _ _

theorem proper_scaled {v u : Val} (hv : Proper v) (hu : Proper u) : Proper (scaled v u) := by
  cases v with
  | nan => exact proper_nan
  | inf s =>
    cases u with
    | nan => exact proper_nan
    | inf t => exact proper_inf s
    | fin t n d =>
      simp only [scaled]
      split
      · exact proper_nan
      · exact proper_inf s
  | fin s n d =>
    cases u with
    | nan => exact proper_nan
    | inf t => exact hv
    | fin t n' d' =>
      simp only [scaled]
      split
      · exact proper_of_pos one_pos
      · exact proper_of_pos (Nat.mul_pos (hv s n d rfl) (hu t n' d' rfl))

theorem sound_of_floatOf {c : Nat} {f : Fmt} (h : floatOf c = some f) : Sound f := by
  refine sound_formats f ?_
  match c, h with
  | 0, h => cases h; simp
  | 1, h => cases h; simp
  | 2, h => cases h; simp
  | 3, h => cases h; simp
  | 4, h => cases h; simp
  | 5, h => cases h; simp
  | 6, h => cases h; simp

theorem proper_codeVal (c : Nat) (ftz : Bool) (x : Nat) : Proper (codeVal c ftz x) := by
  rw [codeVal]
  cases hf : floatOf c with
  | some f =>
    simp only [Fmt.flush]
    split
    · exact proper_of_pos one_pos
    · exact proper_decode (sound_of_floatOf hf) _
  | none =>
    simp only
    split
    · exact proper_of_pos one_pos
    · exact proper_of_pos one_pos
    · exact proper_nan

end Proper

/-! ## VSCL (R252) -/

section Scl

variable {s : State} {d a b : Fin 16} {e : EType} {fm : Fmt}

theorem vscl_claim (he : e.fmt = some fm) : unfit (.vscl d a b e) s e.size ∧ (fits s e.size → Writes false (.vscl d a b e) d e.size s fun k =>
    fm.round .rne (scaled (fm.decode (vel s e.size a k)) (s12 (vel s 2 b k % 2 ^ 12)))) := by
  refine ⟨fun h => ?_, fun h => ?_⟩
  · change execVscl d a b e s = _
    rw [execVscl, issue_vec, fits_fail h, fail_bind, finish_fail, trapped]
  · have hexec : exec (.vscl d a b e) s = .next (ended false (.vscl d a b e) s.who (s.writeElems s.who e.size 0 d fun k _ =>
        fm.round .rne (scaled (fm.decode (vel s e.size a k)) (s12 (vel s 2 b k % 2 ^ 12))))) := by
      change execVscl d a b e s = _
      rw [execVscl, issue_vec, fits_ok h, ok_bind]
      simp only [by_float he, elem_readV (size_dvd e), elem_readV (show 2 ∣ 64 by decide), finish_ok]
      rfl
    have hw := writes_of_writeElems (size_dvd e) hexec fun k _ =>
      round_mod he .rne (proper_scaled (proper_decode (sound_of_fmt he) (vel s e.size a k)) (proper_s12 (vel s 2 b k % 2 ^ 12)))
    rwa [masked_zero] at hw

end Scl

/-! ## VQNT and VDQNT: the record (R251) -/

section Record

variable {s : State} {i : Instr} {n : Fin 4} {e : EType} {r : Nat}

theorem recFmt_eq (r : Nat) : recFmt r = r % 16 := by simp [recFmt, bits]
theorem recBlk_eq (r : Nat) : recBlk r = r / 2 ^ 9 % 4 := by simp [recBlk, bits]

theorem recBits_eq (r : Nat) : codeBits (recFmt r) = fmtBits (r % 16) := by
  rw [recFmt_eq, codeBits_eq _ (Nat.mod_lt _ (by norm_num))]

theorem quantRec_none (h : (s.at s.who).recs[n] = none) : s.quantRec s.who i n e = fail 0x01 (encodeWord i) := by
  rw [State.quantRec, h]

/-- The record that a quantisation accepts. -/
theorem quantRefused_iff (r : Nat) (e : EType) : (decide (2 ≤ recBlk r) || codeBits (recFmt r) == 64 || decide (8 * e.size < codeBits (recFmt r)) ||
    (recBlk r == 1 && codeBits (recFmt r) == 8 * e.size)) = true ↔ ¬ quantOk r e := by
  rw [quantOk, recBlk_eq, recBits_eq]
  simp only [Bool.or_eq_true, Bool.and_eq_true, decide_eq_true_eq, beq_iff_eq]
  omega

theorem quantRec_refused (h : (s.at s.who).recs[n] = some r) (hr : ¬ quantOk r e) : s.quantRec s.who i n e = fail 0x01 (encodeWord i) := by
  rw [State.quantRec, h]
  simp only [(quantRefused_iff r e).2 hr, illegalIf, failIf_true, fail_bind]

theorem quantRec_ok (h : (s.at s.who).recs[n] = some r) (hr : quantOk r e) : s.quantRec s.who i n e = .ok r := by
  have hno : ∀ b : Bool, (b = true ↔ ¬ quantOk r e) → b = false := fun b hb => Bool.eq_false_iff.2 fun h => hb.1 h hr
  rw [State.quantRec, h]
  simp only [hno _ (quantRefused_iff r e), illegalIf, failIf_false, ok_bind]

end Record

/-! ## Fields packed at a width (R251) -/

section Packed

theorem packBits_lt (b : Nat) (xs : List Nat) : packBits b xs < 2 ^ (b * xs.length) := by
  induction xs with
  | nil => exact Nat.two_pow_pos _
  | cons x xs ih =>
    rw [packBits, List.length_cons, Nat.mul_succ, pow_add, Nat.mul_comm (2 ^ (b * xs.length))]
    calc x % 2 ^ b + 2 ^ b * packBits b xs < 2 ^ b + 2 ^ b * packBits b xs := Nat.add_lt_add_right (Nat.mod_lt _ (Nat.two_pow_pos _)) _
      _ = 2 ^ b * (packBits b xs + 1) := by ring
      _ ≤ 2 ^ b * 2 ^ (b * xs.length) := Nat.mul_le_mul_left _ ih

theorem packBits_field (b : Nat) (xs : List Nat) (k : Nat) : packBits b xs / 2 ^ (b * k) % 2 ^ b = xs.getD k 0 % 2 ^ b := by
  induction xs generalizing k with
  | nil => simp [packBits]
  | cons x xs ih =>
    have hpos : 0 < 2 ^ b := Nat.two_pow_pos _
    cases k with
    | zero => simp [packBits, Nat.add_mul_mod_self_left]
    | succ k =>
      have hdiv : packBits b (x :: xs) / 2 ^ b = packBits b xs := by
        rw [packBits, Nat.add_mul_div_left _ _ hpos, Nat.div_eq_of_lt (Nat.mod_lt _ hpos), Nat.zero_add]
      have hpow : 2 ^ (b * (k + 1)) = 2 ^ b * 2 ^ (b * k) := by rw [← pow_add]; ring_nf
      rw [hpow, ← Nat.div_div_eq_div_mul, hdiv, ih, List.getD_cons_succ]

/-- A field of the part below a higher one. -/
theorem field_below {l h c o w : Nat} (hle : o + w ≤ c) : (l + 2 ^ c * h) / 2 ^ o % 2 ^ w = l / 2 ^ o % 2 ^ w := by
  obtain ⟨k, rfl⟩ := Nat.exists_eq_add_of_le hle
  have hsplit : 2 ^ (o + w + k) * h = 2 ^ o * (2 ^ w * (2 ^ k * h)) := by rw [pow_add, pow_add]; ring
  rw [hsplit, Nat.add_mul_div_left _ _ (Nat.two_pow_pos _), Nat.add_mul_mod_self_left]

/-- A field of the part above a lower one. -/
theorem field_above {l h c o w : Nat} (hl : l < 2 ^ c) : (l + 2 ^ c * h) / 2 ^ (c + o) % 2 ^ w = h / 2 ^ o % 2 ^ w := by
  rw [pow_add, ← Nat.div_div_eq_div_mul, Nat.add_mul_div_left _ _ (Nat.two_pow_pos _), Nat.div_eq_of_lt hl, Nat.zero_add]

/-- Runs of 16 elements, the last one cut off at the strip's end. -/
theorem getD_blocks (N : Nat) (G : Nat → List Nat) (hG : ∀ j, (G j).length = min 16 (N - 16 * j)) (K : Nat) :
    ((List.range K).flatMap G).length = min (16 * K) N ∧
      ∀ j t, j < K → t < min 16 (N - 16 * j) → ((List.range K).flatMap G).getD (16 * j + t) 0 = (G j).getD t 0 := by
  induction K with
  | zero => exact ⟨by simp, fun j t hj => absurd hj (Nat.not_lt_zero _)⟩
  | succ K ih =>
    obtain ⟨hlen, hget⟩ := ih
    have hsplit : (List.range (K + 1)).flatMap G = (List.range K).flatMap G ++ G K := by
      rw [List.range_succ, List.flatMap_append, List.flatMap_singleton]
    have hK := hG K
    rw [hsplit]
    refine ⟨by rw [List.length_append, hlen, hK]; omega, fun j t hj ht => ?_⟩
    rcases Nat.lt_succ_iff_lt_or_eq.1 hj with hlt | rfl
    · rw [List.getD_append _ _ _ _ (by rw [hlen]; omega), hget j t hlt ht]
    · rw [List.getD_append_right _ _ _ _ (by rw [hlen]; omega), hlen]
      congr 1
      omega

end Packed

/-! ## VQNT and VDQNT (R251) -/

section Quantise

variable {s : State} {d a : Fin 16} {n : Fin 4} {e : EType} {r : Nat} {fm : Fmt}

/-- Element k of the strip as a value. -/
def valueAt (s : State) (fm : Fmt) (es : Nat) (a : Fin 16) (k : Nat) : Val := fm.decode (vel s es a k)

theorem mix_eq (k : Nat) : mix32 (s.th s.who).seed.toNat (s.at s.who).task.wid.toNat ((s.th s.who).vlSidx + k) = drawAt s k := by
  have hidx : (s.th s.who).vlSidx = (s.th s.who).vl.toNat / 2 ^ 32 % 2 ^ 28 := by simp [Thread.vlSidx, bits]
  rw [drawAt, hidx]

/-- An element's value by its format's code. -/
theorem codeVal_elem (he : e.fmt = some fm) {x : Nat} (hx : x < 2 ^ (8 * e.size)) : codeVal e.code false x = fm.decode x := by
  have hcode : floatOf e.code = some fm := by
    cases e <;> simp only [EType.fmt, reduceCtorEq] at he <;> exact he
  rw [codeVal, hcode]
  simp only [Fmt.flush, Bool.false_and, Bool.false_eq_true, if_false]
  rw [Nat.mod_eq_of_lt (width_of_fmt he ▸ hx)]

theorem values_eq (he : e.fmt = some fm) :
    (s.elems s.who e.size a).map (fun x => codeVal e.code false x) = (List.range (strip s)).map (valueAt s fm e.size a) := by
  simp only [State.elems, vlN_eq, elem_readV (size_dvd e), List.map_map]
  exact List.map_congr_left fun k _ => codeVal_elem he (vel_lt a k)

/-- What VQNT packs without scales. -/
def packedPlain (s : State) (fm : Fmt) (es : Nat) (a : Fin 16) (r : Nat) : Nat :=
  packBits (fmtBits (r % 16)) ((List.range (strip s)).map fun k => convert (valueAt s fm es a k) r (drawAt s k))

/-- Block j of VQNT, quantised. -/
def block (s : State) (fm : Fmt) (es : Nat) (a : Fin 16) (r j : Nat) : Nat × List Nat :=
  quantBlock ((List.range (min 16 (strip s - 16 * j))).map fun t => valueAt s fm es a (16 * j + t)) r fun t => drawAt s (16 * j + t)

/-- What VQNT packs with scales: the elements, and above them a scale for each block. -/
def packedBlocks (s : State) (fm : Fmt) (es : Nat) (a : Fin 16) (r : Nat) : Nat :=
  packBits (fmtBits (r % 16)) ((List.range ((strip s + 15) / 16)).flatMap fun j => (block s fm es a r j).2) +
    2 ^ (8 * scaleAt (strip s) (fmtBits (r % 16))) * packBits 16 ((List.range ((strip s + 15) / 16)).map fun j => (block s fm es a r j).1)

theorem blocksOf_range {α : Type} (N : Nat) (f : Nat → α) : blocksOf 16 ((List.range N).map f) =
    (List.range ((N + 15) / 16)).map fun j => (16 * j, (List.range (min 16 (N - 16 * j))).map fun t => f (16 * j + t)) := by
  have hceil : ceilDiv ((List.range N).map f).length 16 = (N + 15) / 16 := by rw [List.length_map, List.length_range]; rfl
  rw [blocksOf, hceil]
  refine List.map_congr_left fun j _ => ?_
  congr 1
  refine List.ext_getElem (by simp) fun t h1 h2 => by simp

theorem exec_vqnt (he : e.fmt = some fm) (h : fits s e.size) (hr : (s.at s.who).recs[n] = some r) (hok : quantOk r e) : exec (.vqnt d a n e) s =
    .next ((s.writeV s.who d (if r / 2 ^ 9 % 4 = 1 then packedBlocks s fm e.size a r else packedPlain s fm e.size a r)).retire s.who (.vqnt d a n e)) := by
  have hzip : ∀ N, (((List.range N).map (valueAt s fm e.size a)).zipIdx.map fun q => convert q.1 r (drawAt s q.2)) =
      (List.range N).map fun k => convert (valueAt s fm e.size a k) r (drawAt s k) := fun N => List.ext_getElem (by simp) fun j h1 h2 => by simp
  have hscale : ∀ N w, scaleOff N w = scaleAt N w := fun _ _ => rfl
  change execVqnt d a n e s = _
  rw [execVqnt, issue_vec, fits_ok h, ok_bind, quantRec_ok hr hok, ok_bind]
  simp only [values_eq he, mix_eq, recBits_eq, recBlk_eq, blocksOf_range, List.length_map, List.length_range, hscale, List.flatMap_map, List.map_map, hzip,
    finish_ok]
  split <;> rfl

theorem block_length (j : Nat) : (block s fm e.size a r j).2.length = min 16 (strip s - 16 * j) := by
  rw [block, quantBlock]
  split
  · simp
  · simp

theorem packedPlain_spec (s : State) (fm : Fmt) (es : Nat) (a : Fin 16) (r : Nat) : packedPlain s fm es a r < 2 ^ (fmtBits (r % 16) * strip s) ∧
    ∀ k < strip s, packedPlain s fm es a r / 2 ^ (fmtBits (r % 16) * k) % 2 ^ fmtBits (r % 16) =
      convert (valueAt s fm es a k) r (drawAt s k) % 2 ^ fmtBits (r % 16) := by
  refine ⟨?_, fun k hk => ?_⟩
  · have hlt := packBits_lt (fmtBits (r % 16)) ((List.range (strip s)).map fun k => convert (valueAt s fm es a k) r (drawAt s k))
    rwa [List.length_map, List.length_range] at hlt
  · rw [packedPlain, packBits_field]
    simp [List.getD_eq_getElem?_getD, hk]

theorem packedBlocks_spec {j : Nat} (hj : 16 * j < strip s) :
    packedBlocks s fm e.size a r / 2 ^ (8 * (scaleAt (strip s) (fmtBits (r % 16)) + 2 * j)) % 2 ^ 16 = (block s fm e.size a r j).1 % 2 ^ 16 ∧
    ∀ t < min 16 (strip s - 16 * j), packedBlocks s fm e.size a r / 2 ^ (fmtBits (r % 16) * (16 * j + t)) % 2 ^ fmtBits (r % 16) =
      (block s fm e.size a r j).2.getD t 0 % 2 ^ fmtBits (r % 16) := by
  obtain ⟨hlen, hget⟩ := getD_blocks (strip s) (fun j => (block s fm e.size a r j).2) (fun j => block_length j) ((strip s + 15) / 16)
  have hjK : j < (strip s + 15) / 16 := by omega
  have hlenN : ((List.range ((strip s + 15) / 16)).flatMap fun j => (block s fm e.size a r j).2).length = strip s := by
    rw [hlen]
    omega
  have hspace : fmtBits (r % 16) * strip s ≤ 8 * scaleAt (strip s) (fmtBits (r % 16)) := by
    rw [scaleAt, Nat.mul_comm]
    omega
  have hlow := packBits_lt (fmtBits (r % 16)) ((List.range ((strip s + 15) / 16)).flatMap fun j => (block s fm e.size a r j).2)
  rw [hlenN] at hlow
  have hlow' := hlow.trans_le (Nat.pow_le_pow_right (by norm_num) hspace)
  refine ⟨?_, fun t ht => ?_⟩
  · have hpos : 8 * (scaleAt (strip s) (fmtBits (r % 16)) + 2 * j) = 8 * scaleAt (strip s) (fmtBits (r % 16)) + 16 * j := by ring
    rw [packedBlocks, hpos, field_above hlow', packBits_field]
    simp [List.getD_eq_getElem?_getD, hjK]
  · have hin : fmtBits (r % 16) * (16 * j + t) + fmtBits (r % 16) ≤ 8 * scaleAt (strip s) (fmtBits (r % 16)) := by
      refine le_trans ?_ hspace
      rw [← Nat.mul_succ]
      exact Nat.mul_le_mul_left _ (by omega)
    rw [packedBlocks, field_below hin, packBits_field, hget j t hjK ht]

theorem vdqnt_claim (he : e.fmt = some fm) (h : fits s e.size) (hr : (s.at s.who).recs[n] = some r) (hok : quantOk r e) :
    Writes false (.vdqnt d a n e) d e.size s fun k =>
      fm.round .rne (if r / 2 ^ 9 % 4 = 1 then scaled (codeVal (r % 16) (r.testBit 7) (s.readV s.who a / 2 ^ (fmtBits (r % 16) * k)))
          (s12 (s.readV s.who a / 2 ^ (8 * (scaleAt (strip s) (fmtBits (r % 16)) + 2 * (k / 16))) % 2 ^ 12))
        else codeVal (r % 16) (r.testBit 7) (s.readV s.who a / 2 ^ (fmtBits (r % 16) * k))) := by
  have hftz : recFtz r = r.testBit 7 := by
    rw [recFtz, bitAt, Nat.testBit_eq_decide_div_mod_eq]
    rfl
  have hscale : ∀ N w, scaleOff N w = scaleAt N w := fun _ _ => rfl
  have hexec : exec (.vdqnt d a n e) s = .next (ended false (.vdqnt d a n e) s.who (s.writeElems s.who e.size 0 d fun k _ =>
      fm.round .rne (if r / 2 ^ 9 % 4 = 1 then scaled (codeVal (r % 16) (r.testBit 7) (s.readV s.who a / 2 ^ (fmtBits (r % 16) * k)))
          (s12 (s.readV s.who a / 2 ^ (8 * (scaleAt (strip s) (fmtBits (r % 16)) + 2 * (k / 16))) % 2 ^ 12))
        else codeVal (r % 16) (r.testBit 7) (s.readV s.who a / 2 ^ (fmtBits (r % 16) * k))))) := by
    change execVdqnt d a n e s = _
    rw [execVdqnt, issue_vec, fits_ok h, ok_bind, quantRec_ok hr hok, ok_bind]
    simp only [by_float he, recBlk_eq, recFmt_eq, codeBits_eq _ (Nat.mod_lt r (show 0 < 16 by norm_num)), hftz, hscale, vlN_eq, finish_ok]
    rfl
  have hw := writes_of_writeElems (size_dvd e) hexec fun k _ => round_mod he .rne (by
    split
    · exact proper_scaled (proper_codeVal _ _ _) (proper_s12 _)
    · exact proper_codeVal _ _ _)
  rwa [masked_zero] at hw

end Quantise

/-! ## Small matrices (R256 to R258) -/

section Matrix

variable {s : State} {d a b : Fin 16} {e : EType} {fm : Fmt}

theorem vlLgd_eq_zero_iff (s : State) : ((s.th s.who).vlLgd == 0) = decide (side s = 1) := by
  rw [vlLgd_eq, side]
  have hlt : (s.th s.who).vl.toNat / 2 ^ 12 % 4 < 4 := Nat.mod_lt _ (by decide)
  interval_cases (s.th s.who).vl.toNat / 2 ^ 12 % 4 <;> rfl

/-- VMMB's element (R257). -/
def entry (s : State) (fm : Fmt) (es : Nat) (d a b : Fin 16) (k : Nat) : Nat :=
  (List.range (side s)).foldl (fun acc j => fm.encode (fm.fma .rne (fm.decode (vel s es a (k - k % unit s + k % unit s / side s * side s + j)))
    (fm.decode (vel s es b (k - k % unit s + j * side s + k % unit s % side s))) (fm.decode acc))) (vel s es d k)

theorem mmbEntry_eq (fm : Fmt) (es k : Nat) : mmbEntry fm (side s) (vel s es a) (vel s es b) (vel s es d) (k - k % unit s) (k % unit s / side s)
    (k % unit s % side s) = entry s fm es d a b k := by
  have hindex : k - k % unit s + k % unit s / side s * side s + k % unit s % side s = k := by
    have hmod := Nat.mod_le k (unit s)
    have hdiv := Nat.div_add_mod (k % unit s) (side s)
    rw [Nat.mul_comm] at hdiv
    omega
  rw [mmbEntry, hindex, entry]

theorem entry_lt (he : e.fmt = some fm) (k : Nat) : entry s fm e.size d a b k < 2 ^ (8 * e.size) := by
  have hf := sound_of_fmt he
  have hfold : ∀ (js : List Nat) (acc : Nat), acc < 2 ^ (8 * e.size) → js.foldl (fun acc j =>
      fm.encode (fm.fma .rne (fm.decode (vel s e.size a (k - k % unit s + k % unit s / side s * side s + j)))
        (fm.decode (vel s e.size b (k - k % unit s + j * side s + k % unit s % side s))) (fm.decode acc))) acc < 2 ^ (8 * e.size) := by
    intro js
    induction js with
    | nil => exact fun acc h => h
    | cons j js ih =>
      intro acc _
      refine ih _ ?_
      rw [← width_of_fmt he]
      exact round_lt hf .rne (proper_add _ (proper_mul (proper_decode hf _) (proper_decode hf _)) (proper_decode hf _))
  exact hfold _ _ (vel_lt d k)

theorem vmmb_claim (he : e.fmt = some fm) (hside : side s ≠ 1) : unfit (.vmmb d a b e) s e.size ∧
    (fits s e.size → Writes false (.vmmb d a b e) d e.size s (entry s fm e.size d a b)) := by
  have hlgd : ((s.th s.who).vlLgd == 0) = false := by rw [vlLgd_eq_zero_iff, decide_eq_false hside]
  refine ⟨fun h => ?_, fun h => ?_⟩
  · change execVmmb d a b e s = _
    rw [execVmmb, issue_vec]
    simp only [illegalIf, hlgd, failIf_false, ok_bind, fits_fail h, fail_bind, finish_fail, trapped]
  · have hexec : exec (.vmmb d a b e) s = .next (ended false (.vmmb d a b e) s.who (s.writeElems s.who e.size 0 d fun k _ => entry s fm e.size d a b k)) := by
      have hel : ∀ v, (fun k => elem e.size k (s.readV s.who v)) = vel s e.size v := fun v => funext fun k => elem_readV (size_dvd e) v k
      change execVmmb d a b e s = _
      rw [execVmmb, issue_vec]
      simp only [illegalIf, hlgd, failIf_false, ok_bind, fits_ok h, by_float he, hel, unit_eq, lgSide_eq, mmbEntry_eq, finish_ok]
      rfl
    have hw := writes_of_writeElems (size_dvd e) hexec fun k _ => Nat.mod_eq_of_lt (entry_lt he k)
    rwa [masked_zero] at hw

theorem exec_vlgl (hside : side s ≠ 1) : WritesG (.vlgl d b) d s (BitVec.ofNat 64 ((List.range (strip s / unit s)).filter fun (j : Nat) =>
    decide ((s.readV s.who b) / 2 ^ (8 * stripES s * (j * unit s)) % 2 ^ (8 * stripES s) ≠ 0)).length) := by
  have hlgd : ((s.th s.who).vlLgd == 0) = false := by rw [vlLgd_eq_zero_iff, decide_eq_false hside]
  have hne : ∀ x : Nat, (x != 0) = decide (x ≠ 0) := fun x => (decide_not (p := x = 0)).symm
  change execVlgl d b s = _
  rw [execVlgl, issue_vec]
  simp only [illegalIf, hlgd, failIf_false, ok_bind, vlN_eq, vlE_eq, unit_eq, putG_gv, finish_ok, elem, hne]
  rfl

theorem no_groups (hside : side s = 1) : ∀ i ∈ [Instr.vmmb d a b e, .vlgl d b], exec i s = trapped s i 0x01 (encodeWord i) := by
  have hlgd : ((s.th s.who).vlLgd == 0) = true := by rw [vlLgd_eq_zero_iff, decide_eq_true hside]
  intro i hi
  simp only [List.mem_cons, List.not_mem_nil, or_false] at hi
  rcases hi with rfl | rfl
  · change execVmmb d a b e s = _
    rw [execVmmb, issue_vec]
    simp only [illegalIf, hlgd, failIf_true, fail_bind, finish_fail, trapped]
  · change execVlgl d b s = _
    rw [execVlgl, issue_vec]
    simp only [illegalIf, hlgd, failIf_true, fail_bind, finish_fail, trapped]

end Matrix

/-- What refuses VQNT and VDQNT. -/
theorem quant_refused {s : State} {d a : Fin 16} {n : Fin 4} {e : EType} : ∀ i ∈ [Instr.vqnt d a n e, .vdqnt d a n e], unfit i s e.size ∧
    (fits s e.size → (s.at s.who).recs[n] = none → exec i s = trapped s i 0x01 (encodeWord i)) ∧
    (∀ r, fits s e.size → (s.at s.who).recs[n] = some r → ¬ quantOk r e → exec i s = trapped s i 0x01 (encodeWord i)) := by
  intro i hi
  simp only [List.mem_cons, List.not_mem_nil, or_false] at hi
  rcases hi with rfl | rfl
  · have hexec : exec (.vqnt d a n e) s = execVqnt d a n e s := rfl
    refine ⟨fun h => ?_, fun h hr => ?_, fun r h hr hno => ?_⟩ <;> rw [hexec, execVqnt, issue_vec]
    · rw [fits_fail h, fail_bind, finish_fail, trapped]
    · rw [fits_ok h, ok_bind, quantRec_none hr, fail_bind, finish_fail, trapped]
    · rw [fits_ok h, ok_bind, quantRec_refused hr hno, fail_bind, finish_fail, trapped]
  · have hexec : exec (.vdqnt d a n e) s = execVdqnt d a n e s := rfl
    refine ⟨fun h => ?_, fun h hr => ?_, fun r h hr hno => ?_⟩ <;> rw [hexec, execVdqnt, issue_vec]
    · rw [fits_fail h, fail_bind, finish_fail, trapped]
    · rw [fits_ok h, ok_bind, quantRec_none hr, fail_bind, finish_fail, trapped]
    · rw [fits_ok h, ok_bind, quantRec_refused hr hno, fail_bind, finish_fail, trapped]

/-- Settles O30, instruction by instruction. -/
theorem conversionAndSmallMatrix : Obligations.ConversionAndSmallMatrix := by
  unfold Obligations.ConversionAndSmallMatrix
  refine ⟨fun s d a b e => ⟨fun z => ⟨fun hno => ?_, fun hsrc h => ?_⟩, fun fm he => vscl_claim he, fun n => quant_refused,
    fun n r fm he h hr hok => ⟨fun hplain => ⟨_, ?_, packedPlain_spec s fm e.size a r⟩, fun hblk => ⟨_, ?_, fun j hj => packedBlocks_spec hj⟩,
      vdqnt_claim he h hr hok⟩⟩,
    fun s d a b e fm he => ⟨no_groups, fun hside => ?_⟩⟩
  · rw [exec_vcvt]
    by_cases hsrc : fits s (fmtBits z.val / 8)
    · rw [fits_ok hsrc, ok_bind, fits_fail (hno.resolve_left (not_not.2 hsrc)), fail_bind, finish_fail, trapped]
    · rw [fits_fail hsrc, fail_bind, finish_fail, trapped]
  · have hexec := exec_vcvt (s := s) (d := d) (a := a) (e := e) (z := z)
    rw [fits_ok hsrc, ok_bind, fits_ok h, ok_bind, finish_ok] at hexec
    have hw := writes_of_writeElems (var := false) (size_dvd e) hexec fun k _ => rfl
    rwa [masked_zero] at hw
  · rw [exec_vqnt he h hr hok, if_neg (by omega)]
  · rw [exec_vqnt he h hr hok, if_pos hblk]
  · exact ⟨(vmmb_claim he hside).1, fun h => (vmmb_claim he hside).2 h, exec_vlgl hside⟩

end Sys2Proof.Convert

/-! # Table functions (R253 to R255) -/

namespace Sys2Proof.TableFn
open Sys2Proof Sys2Proof.Machine Sys2Proof.Claims Sys2Proof.Reads Sys2Proof.Control Sys2Proof.Floats Sys2Proof.Strip Sys2Proof.Elementwise
  Sys2Proof.Permute Sys2Proof.Convert

/-! ## The header (Table 9.6, R253) -/

section Header

theorem hd_eq (bs : List Byte) (hi lo : Nat) : bits (natOf (bs.take 32)) hi lo = hd bs hi lo := rfl

theorem tabEs_eq (bs : List Byte) : tabEs (natOf (bs.take 32)) = tableES bs := rfl

theorem tabLen_eq (bs : List Byte) : tabLen (natOf (bs.take 32)) = tableBytes bs := rfl

theorem tabBad_iff (bs : List Byte) : tabBad (natOf (bs.take 32)) = true ↔ tableRefused bs := by
  have hx0 : (match tabX0 (natOf (bs.take 32)) with | .fin .. => false | _ => true) = true ↔
      (fp64.decode (hd bs 127 64)).isNan = true ∨ (fp64.decode (hd bs 127 64)).isInf = true := by
    rw [tabX0, hd_eq]
    cases fp64.decode (hd bs 127 64) <;> simp [Val.isNan, Val.isInf]
  rw [tabBad, Bool.or_eq_true]
  refine (or_congr Iff.rfl hx0).trans ?_
  rw [tabFmt, tabLen_eq]
  rw [hd_eq, hd_eq, hd_eq]
  simp only [Bool.or_eq_true, bne_iff_ne, decide_eq_true_iff, or_assoc]
  rfl

/-- One granule read from a frozen page has 32 bytes. -/
theorem length_readFrozen {s : State} {asid va : Nat} {bs : List Byte} (h : s.readFrozen asid va 1 = .ok bs) : bs.length = 32 := by
  rw [State.readFrozen] at h
  simp only [bind_ok_iff] at h
  obtain ⟨-, -, -, -, x, -, -, -, ys, hread, rest, hrest, hbs⟩ := h
  cases hrest
  cases hbs
  rw [List.append_nil, Threshold.length_of_checkedRead hread]

end Header

/-! ## VCOEF (R254) -/

section Coef

variable {s s1 : State} {g : Fin 16} {va : Word} {hb bs : List Byte}

theorem exec_vcoef (ha : s.readG s.who (gv g) = .ok (va, s1)) : exec (.vcoef g) s = finish s.who (.vcoef g) s
    (s1.loadTable s.who (.vcoef g) va >>= fun t => .ok ((s1.keepTable s.who.core t).retireVar s.who (.vcoef g))) := by
  change execVcoef g s = _
  rw [execVcoef, issue_vec, ha, ok_bind]

theorem loadTable_misaligned {i : Instr} (h : va.toNat % 32 ≠ 0) : s1.loadTable s.who i va = fail 0x05 va := by
  rw [State.loadTable, bne_iff_ne.2 h, failIf_true, fail_bind]

theorem loadTable_refused {i : Instr} (hal : va.toNat % 32 = 0) (hh : s1.readFrozen (s1.at s.who).asid va.toNat 1 = .ok hb) (hr : tableRefused hb) :
    s1.loadTable s.who i va = fail 0x01 (encodeWord i) := by
  have hbad : tabBad (natOf hb) = true := by
    have := (tabBad_iff hb).2 hr
    rwa [List.take_of_length_le (length_readFrozen hh).le] at this
  rw [State.loadTable, hal, bne_self_eq_false, failIf_false, ok_bind, hh, ok_bind]
  simp only [illegalIf, hbad, failIf_true, fail_bind]

theorem loadTable_ok {i : Instr} (hal : va.toNat % 32 = 0) (hh : s1.readFrozen (s1.at s.who).asid va.toNat 1 = .ok hb) (hr : ¬ tableRefused hb)
    (hbs : s1.readFrozen (s1.at s.who).asid va.toNat ((tableBytes hb + 31) / 32) = .ok bs) :
    s1.loadTable s.who i va = .ok ⟨(s1.at s.who).asid, va, bs⟩ := by
  have htake : hb.take 32 = hb := List.take_of_length_le (length_readFrozen hh).le
  have hbad : tabBad (natOf hb) = false := by
    rw [Bool.eq_false_iff]
    intro h
    rw [← htake] at h
    exact hr ((tabBad_iff hb).1 h)
  have hlen : ceilDiv (tabLen (natOf hb)) 32 = (tableBytes hb + 31) / 32 := by
    have h := tabLen_eq hb
    rw [htake] at h
    rw [h]
    rfl
  rw [State.loadTable, hal, bne_self_eq_false, failIf_false, ok_bind, hh, ok_bind]
  simp only [illegalIf, hbad, failIf_false, ok_bind, hlen, hbs]

end Coef

/-! ## Poly (R255) -/

section Poly

variable {f : Fmt} {bs : List Byte} {x : Nat}

/-- `timesPow2` is `scale2` on a finite value. -/
theorem timesPow2_fin (s : Bool) (n d : Nat) (e : Int) : timesPow2 (.fin s n d) e = .fin s (scale2 n d e).1 (scale2 n d e).2 := by
  rw [scale2]
  simp only [timesPow2]
  split <;> rfl

/-- The segment of an argument. -/
theorem polySeg_eq (bs : List Byte) (v : Val) : polySeg (natOf (bs.take 32)) v =
    match timesPow2 (Val.add .rne v (fp64.decode (hd bs 127 64)).neg) (sext 8 (hd bs 23 16)) with
    | .fin s n d => if s then 0 else min (n / d) (hd bs 15 8)
    | .inf s => if s then 0 else hd bs 15 8
    | .nan => 0 := by
  have htop : tabSegs (natOf (bs.take 32)) - 1 = hd bs 15 8 := rfl
  have hx0 : tabX0 (natOf (bs.take 32)) = fp64.decode (hd bs 127 64) := rfl
  have hsh : tabShift (natOf (bs.take 32)) = sext 8 (hd bs 23 16) := rfl
  rw [polySeg, htop, hx0, hsh]
  cases Val.add .rne v (fp64.decode (hd bs 127 64)).neg with
  | nan => rfl
  | inf s => rfl
  | fin s n d =>
    rw [timesPow2_fin]

/-- A fold from the right over indices, as one from the left. -/
theorem foldr_range {α : Type} (g : Nat → α → α) (z : α) (n : Nat) :
    (List.range n).foldr g z = (List.range n).foldl (fun y i => g (n - 1 - i) y) z := by
  have hrev : (List.range n).reverse = (List.range n).map fun i => n - 1 - i := by
    refine List.ext_getElem (by simp) fun i h1 h2 => by simp
  rw [List.foldr_eq_foldl_reverse, hrev, List.foldl_map]

theorem poly_eq (f : Fmt) (bs : List Byte) (x : Nat) : poly f bs x = polyValue f bs x := by
  have hscale : ∀ k : Nat, (match scale2 k 1 (-sext 8 (hd bs 23 16)) with | (a, b) => Val.fin false a b) =
      timesPow2 (.fin false k 1) (-sext 8 (hd bs 23 16)) := fun k => (timesPow2_fin _ _ _ _).symm
  have hx0 : tabX0 (natOf (bs.take 32)) = fp64.decode (hd bs 127 64) := rfl
  have hsh : tabShift (natOf (bs.take 32)) = sext 8 (hd bs 23 16) := rfl
  have hdeg : tabDeg (natOf (bs.take 32)) = hd bs 7 4 := rfl
  simp only [poly, polyValue, hx0, hsh, hdeg, tabEs_eq, polySeg_eq, foldr_range]
  split
  · rfl
  · rw [← hscale]
    rfl

theorem proper_timesPow2 {v : Val} (hv : Proper v) (e : Int) : Proper (timesPow2 v e) := by
  cases v with
  | nan => exact proper_nan
  | inf s => exact proper_inf s
  | fin s n d =>
    rw [timesPow2_fin]
    exact proper_of_pos (scale2_pos (hv s n d rfl) e)

/-- A fold of values of the format, each rounded, is a value of the format. -/
theorem value_foldl (hf : Sound f) {g : Val → Nat → Val} (hg : ∀ y i, Value f y → Proper (g y i)) (js : List Nat) {z : Val} (hz : Value f z) :
    Value f (js.foldl (fun y i => f.roundV .rne (g y i)) z) := by
  induction js generalizing z with
  | nil => exact hz
  | cons j js ih => exact ih (value_roundV hf .rne (hg z j hz))

theorem polyValue_lt (hf : Sound f) (bs : List Byte) (x : Nat) : polyValue f bs x < 2 ^ f.width := by
  have h64 : Sound fp64 := sound_formats fp64 (by simp)
  rw [polyValue]
  split
  · exact hf.nan
  · refine encode_lt hf (value_foldl hf (fun y i hy => ?_) _ (value_decode hf _))
    refine proper_add _ (proper_mul hy.proper (value_roundV hf .rne ?_).proper) (proper_decode hf _)
    exact proper_add _ (proper_decode hf _) (proper_neg (proper_add _ (proper_decode h64 _) (proper_timesPow2 (proper_of_pos one_pos) _)))

end Poly

/-! ## VPOLY (R255) -/

section VPoly

variable {s : State} {d a b : Fin 16} {e : EType} {f : Fmt} {t : CoefTable}

theorem tableVa_eq (x : Nat) : BitVec.ofNat 64 (x % 2 ^ 64) = BitVec.ofNat 64 x := by
  refine BitVec.eq_of_toNat_eq ?_
  rw [BitVec.toNat_ofNat, BitVec.toNat_ofNat, Nat.mod_mod]

theorem exec_vpoly_unfit (h : ¬ fits s e.size) : exec (.vpoly d a b e) s = trapped s (.vpoly d a b e) 0x01 (encodeWord (.vpoly d a b e)) := by
  change execVpoly d a b e s = _
  rw [execVpoly, issue_vec, fits_fail h, fail_bind, finish_fail, trapped]

theorem exec_vpoly_load (h : fits s e.size)
    (hnone : (s.core s.who.core).coefs.find? (fun t => t.asid == (s.at s.who).asid && t.va == BitVec.ofNat 64 (s.readV s.who b)) = none) :
    exec (.vpoly d a b e) s = .next ((s.waitBusy s.who (.vpoly d a b e) .coef).post [.coefficientTableLoad s.who.core s.who.slot]) := by
  change execVpoly d a b e s = _
  rw [execVpoly, issue_vec, fits_ok h, ok_bind]
  simp only [tableVa_eq, hnone, finish_next]

theorem exec_vpoly (h : fits s e.size)
    (hsome : (s.core s.who.core).coefs.find? (fun t => t.asid == (s.at s.who).asid && t.va == BitVec.ofNat 64 (s.readV s.who b)) = some t) :
    exec (.vpoly d a b e) s = finish s.who (.vpoly d a b e) s (s.vpoly s.who (.vpoly d a b e) d a e t) := by
  change execVpoly d a b e s = _
  rw [execVpoly, issue_vec, fits_ok h, ok_bind]
  simp only [tableVa_eq, hsome]

theorem vpoly_broken {i : Instr} (hbad : s.sramBad (.coef s.who.core) (lineKey t.asid t.va.toNat) (t.bytes.length / 8) = true) :
    finish s.who i s (s.vpoly s.who i d a e t) = .next (s.takeTrap s.who 0x20 false 2 0 (s.th s.who).pc (s.varies s.who i)) := by
  rw [State.vpoly, hbad]
  rfl

theorem vpoly_format {i : Instr} (hok : s.sramBad (.coef s.who.core) (lineKey t.asid t.va.toNat) (t.bytes.length / 8) = false)
    (hfmt : hd t.bytes 3 0 ≠ e.code) : finish s.who i s (s.vpoly s.who i d a e t) = trapped s i 0x01 (encodeWord i) := by
  have hne : (tabFmt (natOf (t.bytes.take 32)) != e.code) = true := bne_iff_ne.2 hfmt
  rw [State.vpoly, hok, hne]
  rfl

theorem vpoly_ok {i : Instr} (he : e.fmt = some f) (hok : s.sramBad (.coef s.who.core) (lineKey t.asid t.va.toNat) (t.bytes.length / 8) = false)
    (hfmt : hd t.bytes 3 0 = e.code) : finish s.who i s (s.vpoly s.who i d a e t) = .next (ended false i s.who
      (s.writeElems s.who e.size 0 d fun k _ => polyValue f t.bytes (vel s e.size a k))) := by
  have heq : (tabFmt (natOf (t.bytes.take 32)) != e.code) = false := bne_eq_false_iff_eq.2 hfmt
  rw [State.vpoly, hok, heq]
  simp only [by_float he, elem_readV (size_dvd e), poly_eq, Bool.false_eq_true, if_false, illegalIf, failIf_false, ok_bind, finish_ok]
  rfl

end VPoly

/-- Settles O31: VCOEF by its checks, VPOLY by what the coefficient store holds. -/
theorem tableFunctionResult : Obligations.TableFunctionResult := by
  unfold Obligations.TableFunctionResult
  refine fun s d a b g e f hb bs he => ⟨fun va s1 ha => ⟨fun h => ?_, fun hal hh hr => ?_, fun hal hh hr hbs => ?_⟩,
    exec_vpoly_unfit, exec_vpoly_load, fun t h ht hbad => ?_, fun t h ht hok hfmt => ?_, fun t h ht hok hfmt => ?_⟩
  · rw [exec_vcoef ha, loadTable_misaligned h, fail_bind, finish_fail, trapped]
  · rw [exec_vcoef ha, loadTable_refused hal hh hr, fail_bind, finish_fail, trapped]
  · rw [exec_vcoef ha, loadTable_ok hal hh hr hbs, ok_bind, finish_ok]
  · rw [exec_vpoly h ht, vpoly_broken hbad]
  · rw [exec_vpoly h ht, vpoly_format hok hfmt]
  · have hw := writes_of_writeElems (d := d) (size_dvd e) ((exec_vpoly h ht).trans (vpoly_ok he hok hfmt)) fun k _ =>
      Nat.mod_eq_of_lt (width_of_fmt he ▸ polyValue_lt (sound_of_fmt he) t.bytes (vel s e.size a k))
    rwa [masked_zero] at hw

end Sys2Proof.TableFn

/-! # Shape records (R261, R263) -/

namespace Sys2Proof.Shapes
open Sys2Proof Sys2Proof.Machine Sys2Proof.Claims Sys2Proof.Reads Sys2Proof.Control

/-! ## Extents, cursor and address of a record -/

section Record

variable (h : Shape)

theorem e_eq (k : Fin 4) : h.e k = shE h k := by
  simp [Shape.e, shE]

theorem c_eq (k : Fin 4) : h.c k = shC h k := by
  simp [Shape.c, shC]

theorem s_eq (k : Fin 4) : h.s k = h.str[k].toInt := by
  simp [Shape.s]

theorem pos_eq : h.pos = shPos h := by
  simp only [Shape.pos, shPos, ← e_eq, ← c_eq]
  rfl

theorem period_eq : h.period = shPeriod h := by
  simp only [Shape.period, shPeriod, ← e_eq]
  rfl

theorem coord_eq (p : Nat) (k : Fin 4) : h.coord p k = shCoord h p k := by
  fin_cases k <;> simp only [Shape.coord, shCoord, ← e_eq] <;> rfl

theorem addr_eq (p es : Nat) : h.addr p es = shAddr h p es := by
  have h0 : h.s 0 = h.str[0].toInt := s_eq h 0
  have h1 : h.s 1 = h.str[1].toInt := s_eq h 1
  have h2 : h.s 2 = h.str[2].toInt := s_eq h 2
  have h3 : h.s 3 = h.str[3].toInt := s_eq h 3
  simp only [Shape.addr, toWord, shAddr, ← coord_eq, h0, h1, h2, h3]
  rw [BitVec.ofInt_add, BitVec.ofInt_natCast, BitVec.ofNat_toNat, BitVec.setWidth_eq]
  rfl

theorem advance_eq (k : Int) : h.advance k = shAdvance h k := by
  simp only [Shape.advance, Shape.setPos, shAdvance, coord_eq, pos_eq, period_eq]

theorem unset_iff : h.unset = true ↔ shUnset h := by
  have hmem : h.unset = true ↔ ∃ k : Fin 4, shE h k = 0 := by
    simp only [Shape.unset, List.any_eq_true, shE]
    constructor
    · rintro ⟨x, hx, h0⟩
      obtain ⟨k, hk, rfl⟩ := List.mem_iff_getElem.1 hx
      refine ⟨⟨k, by simpa using hk⟩, ?_⟩
      simpa [BitVec.toNat_eq] using h0
    · rintro ⟨k, hk⟩
      exact ⟨h.ext[k], by simp, by simpa [BitVec.toNat_eq] using hk⟩
  simp [hmem, Fin.exists_fin_succ, shUnset]

theorem cursorOut_iff : ((List.range 4).any fun k => decide (h.e k ≤ h.c k)) = true ↔ ∃ k, shE h k ≤ shC h k := by
  simp only [List.any_eq_true, List.mem_range, decide_eq_true_iff]
  constructor
  · rintro ⟨k, hk, hle⟩
    exact ⟨⟨k, hk⟩, by rwa [← e_eq, ← c_eq]⟩
  · rintro ⟨k, hle⟩
    exact ⟨k, k.2, by rwa [e_eq, c_eq]⟩

end Record

theorem imgShape_eq (bs : List Byte) : imgShape bs 0 = shapeOf bs := by
  simp only [imgShape, shapeOf, imgN, List.drop_zero, Nat.zero_add]

theorem bytes_eq (h : Shape) : h.bytes = bytesOfShape h := rfl

/-! ## The place of a record in local memory (R263) -/

section Place

variable {s : State} {w : Who} {va : Word}

theorem shapePlace_stray (hhigh : va.toNat < 2 ^ 54) (h : va.toNat % 8 ≠ 0 ∨ va.toNat / 2 ^ 48 ≠ 63) : s.shapePlace w va = fail 0x0B va := by
  have hbad : (va.toNat % 8 != 0 || !inLocal va.toNat) = true := by
    rw [Bool.or_eq_true, bne_iff_ne, Bool.not_eq_true', ← Bool.not_eq_true, LatIssue.inLocal_iff]
    omega
  rw [State.shapePlace, decide_eq_false (not_le.2 hhigh), failIf_false, ok_bind, hbad, failIf_true, fail_bind]

theorem shapePlace_ok {l : Loc} (hal : va.toNat % 8 = 0) (hwin : va.toNat / 2 ^ 48 = 63) (hl : s.localPlace w va.toNat 56 = .ok l) :
    s.shapePlace w va = .ok l := by
  have hhigh : va.toNat < 2 ^ 54 := by omega
  have hin : inLocal va.toNat = true := (LatIssue.inLocal_iff _).2 ⟨by omega, hhigh⟩
  rw [State.shapePlace, decide_eq_false (not_le.2 hhigh), failIf_false, ok_bind, hal, hin]
  exact hl

theorem readAt_ok {core off n : Nat} (hu : s.upsetIn core off n = false) (hs : s.spoiltIn core off n = []) :
    s.readAt (.loc core off) n = .ok (s.lread core off n) := by
  have hsound : s.sound core off n = .ok () := by simp [State.sound, State.unsound, hu, hs]
  rw [State.readAt, hsound, ok_bind]

end Place

/-! ## The instructions (R263) -/

section Instructions

variable {s s1 : State} {a : Fin 32} {n : Fin 8} {va : Word} {core off : Nat}

theorem illegal_of_unset {h : Shape} (i : Instr) (hu : shUnset h) : illegalIf i h.unset = fail 0x01 (encodeWord i) := by
  rw [illegalIf, (unset_iff h).2 hu, failIf_true]

theorem legal_of_set {h : Shape} (i : Instr) (hu : ¬ shUnset h) : illegalIf i h.unset = .ok () := by
  rw [illegalIf, Bool.eq_false_iff.2 fun h' => hu ((unset_iff h).1 h'), failIf_false]

theorem exec_shset_stray (ha : s.readG s.who a = .ok (va, s1)) (ho : open_ s (.shset a n))
    (h : va.toNat < 2 ^ 54 ∧ (va.toNat % 8 ≠ 0 ∨ va.toNat / 2 ^ 48 ≠ 63)) :
    exec (.shset a n) s = trapped s (.shset a n) 0x0B va := by
  have hops : s.chkOps s.who (.shset a n) = .ok () := ho
  change execShset a n s = _
  rw [execShset, issue_vec, hops, ok_bind, ha, ok_bind]
  simp only [shapePlace_stray h.1 h.2, fail_bind, finish_fail, trapped]

section Load

variable (ha : s.readG s.who a = .ok (va, s1)) (ho : open_ s (.shset a n)) (hal : va.toNat % 8 = 0) (hwin : va.toNat / 2 ^ 48 = 63)
  (hl : s1.localPlace s.who va.toNat 56 = .ok (.loc core off)) (hu : s1.upsetIn core off 56 = false) (hs : s1.spoiltIn core off 56 = [])
include ha ho hal hwin hl hu hs

/-- SHSET up to the tests of the record that it has read. -/
theorem exec_shset {r : Shape} (hr : shapeOf (s1.lread core off 56) = r) :
    exec (.shset a n) s = finish s.who (.shset a n) s (do
      illegalIf (.shset a n) (r.unset || (List.range 4).any fun k => decide (r.e k ≤ r.c k))
      .ok (((s1.noteSpan s.who (.loc core off) 56).updShape s.who n fun _ => r).retireAt s.who (.shset a n) (.loc core off))) := by
  have hops : s.chkOps s.who (.shset a n) = .ok () := ho
  change execShset a n s = _
  rw [execShset, issue_vec, hops, ok_bind, ha, ok_bind]
  simp only [shapePlace_ok hal hwin hl, readAt_ok hu hs, ok_bind, imgShape_eq, hr]

theorem exec_shset_bad {r : Shape} (hr : shapeOf (s1.lread core off 56) = r) (hbad : shUnset r ∨ ∃ k, shE r k ≤ shC r k) :
    exec (.shset a n) s = trapped s (.shset a n) 0x01 (encodeWord (.shset a n)) := by
  have hbad' : (r.unset || (List.range 4).any fun k => decide (r.e k ≤ r.c k)) = true := by
    rwa [Bool.or_eq_true, unset_iff, cursorOut_iff]
  rw [exec_shset ha ho hal hwin hl hu hs hr, hbad', illegalIf, failIf_true, fail_bind, finish_fail]
  rfl

theorem exec_shset_good {r : Shape} (hr : shapeOf (s1.lread core off 56) = r) (hset : ¬ shUnset r) (hcur : ∀ k, shC r k < shE r k) :
    exec (.shset a n) s = .next ((((s1.noteSpan s.who (.loc core off) 56).updTh s.who fun t => { t with sh := t.sh.set n r })).retireAt s.who
      (.shset a n) (.loc core off)) := by
  have hgood : (r.unset || (List.range 4).any fun k => decide (r.e k ≤ r.c k)) = false := by
    rw [← Bool.not_eq_true, Bool.or_eq_true, unset_iff, cursorOut_iff, not_or, not_exists]
    exact ⟨hset, fun k => not_le.2 (hcur k)⟩
  rw [exec_shset ha ho hal hwin hl hu hs hr, hgood, illegalIf, failIf_false, ok_bind, finish_ok]
  rfl

end Load

theorem unset_traps (hu : shUnset (s.th s.who).sh[n]) : exec (.shget a n) s = trapped s (.shget a n) 0x01 (encodeWord (.shget a n)) ∧
    exec (.shadv a n) s = trapped s (.shadv a n) 0x01 (encodeWord (.shadv a n)) ∧
    exec (.shrst n) s = trapped s (.shrst n) 0x01 (encodeWord (.shrst n)) := by
  refine ⟨?_, ?_, ?_⟩
  · change execShget a n s = _
    simp only [execShget, issue_vec, illegal_of_unset _ hu, fail_bind, finish_fail, trapped]
  · change execShadv a n s = _
    simp only [execShadv, issue_vec, illegal_of_unset _ hu, fail_bind, finish_fail, trapped]
  · change execShrst n s = _
    simp only [execShrst, issue_vec, illegal_of_unset _ hu, fail_bind, finish_fail, trapped]

theorem exec_shget (ha : s.readG s.who a = .ok (va, s1)) (hset : ¬ shUnset (s.th s.who).sh[n]) (ho : open_ s (.shget a n))
    (hst : s1.storeAllowed s.who (.shget a n) va.toNat 56 = .ok ()) (hal : va.toNat % 8 = 0) (hwin : va.toNat / 2 ^ 48 = 63)
    (hl : s1.localPlace s.who va.toNat 56 = .ok (.loc core off)) :
    exec (.shget a n) s = .next (((s1.noteSpan s.who (.loc core off) 56).localStore s.who core off (bytesOfShape (s.th s.who).sh[n])).retireAt s.who
      (.shget a n) (.loc core off)) := by
  have hops : s.chkOps s.who (.shget a n) = .ok () := ho
  change execShget a n s = _
  simp only [execShget, issue_vec, legal_of_set _ hset, hops, ha, hst, ok_bind, shapePlace_ok hal hwin hl, finish_ok, bytes_eq, State.storeAt]

theorem exec_shadv (ha : s.readG s.who a = .ok (va, s1)) (hset : ¬ shUnset (s.th s.who).sh[n]) (ho : open_ s (.shadv a n)) :
    exec (.shadv a n) s = .next ((s1.updShape s.who n fun h => h.advance va.toInt).retire s.who (.shadv a n)) := by
  have hops : s.chkOps s.who (.shadv a n) = .ok () := ho
  change execShadv a n s = _
  simp only [execShadv, issue_vec, legal_of_set _ hset, hops, ha, ok_bind, finish_ok]

theorem exec_shrst (hset : ¬ shUnset (s.th s.who).sh[n]) :
    exec (.shrst n) s = .next ((s.updShape s.who n fun h => { h with cur := .replicate 4 0 }).retire s.who (.shrst n)) := by
  change execShrst n s = _
  simp only [execShrst, issue_vec, legal_of_set _ hset, ok_bind, finish_ok]

theorem who_noteSpan (s : State) (w : Who) (l : Loc) (n : Nat) : (s.noteSpan w l n).who = s.who := by
  unfold State.noteSpan State.noteWords
  split
  · generalize List.replicate _ _ = hs
    induction hs generalizing s with
    | nil => rfl
    | cons h hs ih => exact (ih _).trans rfl
  · rfl

theorem who_readG (h : s.readG s.who a = .ok (va, s1)) : s1.who = s.who := by
  obtain rfl | ⟨p, rfl⟩ | ⟨c, k, q, rfl⟩ := readG_cases h <;> rfl

/-- A change of a record is the record set to its changed value. -/
theorem updShape_eq (t : State) (f : Shape → Shape) : t.updShape t.who n f = setShape t n (f (t.th t.who).sh[n]) := rfl

end Instructions

/-- Settles O33. -/
theorem shapeRecordResult : Obligations.ShapeRecordResult := by
  unfold Obligations.ShapeRecordResult
  intro s a n s1 va ha
  have hwho : s1.who = s.who := who_readG ha
  refine ⟨fun ho hstray => exec_shset_stray ha ho hstray, fun core off ho hal hwin hl hu hs => ⟨fun hbad => exec_shset_bad ha ho hal hwin hl hu hs rfl hbad, fun hset hcur => ?_⟩,
    unset_traps, fun core off hset ho hst hal hwin hl => exec_shget ha hset ho hst hal hwin hl, fun hset => ⟨fun ho => ?_, exec_shrst hset⟩⟩
  · have hw : (s1.noteSpan s.who (.loc core off) 56).who = s.who := (who_noteSpan ..).trans hwho
    rw [exec_shset_good ha ho hal hwin hl hu hs rfl hset hcur, setShape, hw]
  · rw [exec_shadv ha hset ho, ← hwho, updShape_eq, advance_eq]

end Sys2Proof.Shapes

/-! # Vector loads and stores (R260, R262) -/

namespace Sys2Proof.VecMem
open Sys2Proof Sys2Proof.Machine Sys2Proof.Claims Sys2Proof.Reads Sys2Proof.Control Sys2Proof.Access Sys2Proof.Strip Sys2Proof.Shapes

/-! ## What the caches, the trace and the stores leave of the threads -/

/-- The slots, and whose turn it is, are those of the first state. -/
def SameSlots (s t : State) : Prop := t.who = s.who ∧ ∀ w, t.at w = s.at w

section Leaves

theorem SameSlots.refl (s : State) : SameSlots s s := ⟨rfl, fun _ => rfl⟩

theorem SameSlots.trans {s t u : State} (h : SameSlots s t) (h' : SameSlots t u) : SameSlots s u :=
  ⟨h'.1.trans h.1, fun w => (h'.2 w).trans (h.2 w)⟩

theorem SameSlots.th {s t : State} (h : SameSlots s t) (w : Who) : t.th w = s.th w := congrArg Slot.th (h.2 w)

theorem sameSlots_updCore (s : State) (c : Nat) (f : Core → Core) (hf : ∀ k, (f k).slots = k.slots) : SameSlots s (s.updCore c f) :=
  ⟨rfl, fun w => Frame.slot_updCore s c w.core f w.slot (hf _)⟩

theorem sameSlots_pwrite (s : State) (pa : Nat) (bs : List Byte) : SameSlots s (s.pwrite pa bs) := by
  obtain ⟨_, _, _, _, _, h⟩ := Frame.memOnly_pwrite s pa bs
  rw [h]
  exact ⟨rfl, fun _ => rfl⟩

theorem sameSlots_refresh (s : State) (a : Sram) (k n : Nat) : SameSlots s (s.refresh a k n) := ⟨rfl, fun _ => rfl⟩

theorem sameSlots_sector (s : State) (x : Xlat) : SameSlots s (s.sector x) := by
  unfold State.sector
  split
  · refine SameSlots.trans ?_ (sameSlots_updCore _ _ _ fun _ => rfl)
    split
    · exact .refl s
    · exact sameSlots_refresh ..
  · exact .refl s

theorem sameSlots_ite {p : Prop} [Decidable p] {s t u : State} (ht : SameSlots s t) (hu : SameSlots s u) : SameSlots s (if p then t else u) := by
  split
  · exact ht
  · exact hu

theorem sameSlots_fillFrozen (s : State) (c asid va : Nat) (x : Xlat) : SameSlots s (s.fillFrozen c asid va x) := by
  unfold State.fillFrozen
  extract_lets base new whole
  split
  next line full _ =>
    extract_lets s1 s2
    have h1 : SameSlots s s1 := sameSlots_ite (.refl s) (sameSlots_refresh ..)
    have h2 : SameSlots s s2 := h1.trans ((sameSlots_updCore s1 c (fun k => k.putLine line) fun _ => rfl).trans (sameSlots_sector _ x))
    exact sameSlots_ite h2 (h2.trans ⟨rfl, fun _ => rfl⟩)

theorem sameSlots_fillPrivate (s : State) (c asid va n : Nat) (store : Bool) (x : Xlat) : SameSlots s (s.fillPrivate c asid va n store x) := by
  unfold State.fillPrivate
  extract_lets m old whole valid s1 s2
  have h1 : SameSlots s s1 := sameSlots_ite ((sameSlots_refresh ..).trans (sameSlots_refresh ..)) (sameSlots_ite (.refl s) (sameSlots_refresh ..))
  have h2 : SameSlots s s2 := h1.trans (sameSlots_updCore s1 c _ fun _ => rfl)
  exact sameSlots_ite h2 (h2.trans (sameSlots_sector ..))

theorem sameSlots_cached (s : State) (w : Who) (va n : Nat) (store : Bool) (l : Loc) : SameSlots s (s.cached w va n store l) := by
  unfold State.cached
  split
  · exact .refl s
  · dsimp only
    split
    · exact sameSlots_fillFrozen ..
    · split
      · split
        · exact sameSlots_fillPrivate ..
        · exact sameSlots_sector ..
      · exact .refl s

theorem sameSlots_trace (s : State) (w : Who) (kind va : Nat) (x : Xlat) : SameSlots s (s.trace w kind va x) := by
  unfold State.trace
  extract_lets k v me kk s1
  have h1 : SameSlots s s1 := by
    simp only [s1]
    split
    · refine sameSlots_ite (.refl s) (sameSlots_ite ?_ (sameSlots_updCore _ _ _ fun _ => rfl))
      exact (sameSlots_pwrite ..).trans (sameSlots_updCore _ _ _ fun _ => rfl)
    · exact .refl s
  exact sameSlots_ite (.refl s) (sameSlots_ite h1 (h1.trans (sameSlots_updCore _ _ _ fun _ => rfl)))

theorem sameSlots_traceAt (s : State) (w : Who) (kind va : Nat) (l : Loc) : SameSlots s (s.traceAt w kind va l) := by
  cases l with
  | loc _ _ => exact .refl s
  | mem x => exact sameSlots_trace s w kind va x

theorem sameSlots_localStore (s : State) (w : Who) (c off : Nat) (bs : List Byte) : SameSlots s (s.localStore w c off bs) := by
  unfold State.localStore
  refine SameSlots.trans ?_ (sameSlots_updCore _ c _ fun _ => rfl)
  split
  · exact ⟨rfl, fun _ => rfl⟩
  · exact .refl s

theorem sameSlots_storeAt (s : State) (w : Who) (l : Loc) (bs : List Byte) : SameSlots s (s.storeAt w l bs) := by
  cases l with
  | loc c off => exact sameSlots_localStore s w c off bs
  | mem x => exact sameSlots_pwrite s x.pa bs

theorem sameSlots_foldl {α : Type} (f : State → α → State) (hf : ∀ t x, SameSlots t (f t x)) : ∀ (xs : List α) (s : State), SameSlots s (xs.foldl f s)
  | [], s => .refl s
  | x :: xs, s => (hf s x).trans (sameSlots_foldl f hf xs (f s x))

theorem sameSlots_touched (s : State) (store : Bool) (es : Nat) (xs : List (Word × Loc)) : SameSlots s (touched s store es xs) :=
  sameSlots_foldl _ (fun t _ => (sameSlots_cached t _ _ _ _ _).trans (sameSlots_traceAt _ _ _ _ _)) xs s

end Leaves

/-! ## The elements' checks (R260) -/

section Gather

variable {α β : Type} {f : β → M α}

theorem gather_ok {g : β → α} : ∀ {L : List β}, (∀ k ∈ L, f k = .ok (g k)) → gather (L.map f) = .ok (L.map g)
  | [], _ => rfl
  | k :: L, h => by
    obtain ⟨hk, hL⟩ := List.forall_mem_cons.1 h
    simp only [List.map_cons, gather, hk, gather_ok hL]

theorem rank_of_gather {n : Nat} : ∀ {L : List β}, (∀ k ∈ L, ∀ e, f k = .error e → n ≤ e.rank) → ∀ e, gather (L.map f) = .error e → n ≤ e.rank
  | [], _, _, h => by cases h
  | k :: L, hf, e, h => by
    obtain ⟨hk, hL⟩ := List.forall_mem_cons.1 hf
    simp only [List.map_cons, gather] at h
    split at h
    · cases h
    · next heq => cases h; exact rank_of_gather hL _ heq
    · next heq _ => cases h; exact hk _ heq
    · next heq heq' =>
      cases h
      split
      · exact hk _ heq
      · exact rank_of_gather hL _ heq'

/-- What stops a vector access is the fault of the first element that meets it, where every other fault ranks after it. -/
theorem gather_first {p : β → Bool} {k : β} {e : β → Stop} {n : Nat} (he : ∀ j, (e j).rank = n) : ∀ {L : List β}, L.find? p = some k →
    (∀ j ∈ L, p j = true → f j = .error (e j)) → (∀ j ∈ L, p j = false → ∀ e', f j = .error e' → n < e'.rank) →
    gather (L.map f) = .error (e k)
  | [], h, _, _ => by cases h
  | j :: L, h, hp, hn => by
    obtain ⟨hpj, hpL⟩ := List.forall_mem_cons.1 hp
    obtain ⟨hnj, hnL⟩ := List.forall_mem_cons.1 hn
    simp only [List.map_cons, gather]
    by_cases hj : p j = true
    · rw [List.find?_cons_of_pos hj] at h
      cases h
      have hrank : ∀ i ∈ L, ∀ e', f i = .error e' → n ≤ e'.rank := fun i hi e' hf => by
        cases hpi : p i
        · exact (hnL i hi hpi e' hf).le
        · rw [hpL i hi hpi] at hf
          cases hf
          exact (he i).ge
      rw [hpj hj]
      cases hg : gather (L.map f) with
      | ok xs => rfl
      | error e' => simp only [he, if_pos (rank_of_gather hrank e' hg)]
    · rw [List.find?_cons_of_neg hj] at h
      rw [gather_first he h hpL hnL]
      cases hf : f j with
      | ok x => rfl
      | error e' =>
        have hlt := hnj (Bool.eq_false_iff.2 hj) e' hf
        simp only [he, if_neg (not_le.2 hlt)]

end Gather

/-! ## What can stop the place of an access -/

/-- A stop that ranks after a misaligned element: any but a machine check. -/
def After5 (e : Stop) : Prop := (∃ tv sub log, e = .trap 0x20 tv sub log) ∨ 6 < e.rank

structure StopsAfter5 {α : Type} (x : M α) : Prop where
  stop : ∀ e, x = .error e → After5 e

section Rank

variable {α β : Type}

theorem after5_ok (x : α) : StopsAfter5 (.ok x : M α) := ⟨fun _ h => by cases h⟩

theorem after5_bind {x : M α} {f : α → M β} (hx : StopsAfter5 x) (hf : ∀ a, StopsAfter5 (f a)) : StopsAfter5 (x >>= f) := by
  cases x with
  | ok a => exact hf a
  | error e => exact ⟨fun e' h => by cases h; exact hx.stop e rfl⟩

theorem after5_map {x : M α} {f : α → β} (hx : StopsAfter5 x) : StopsAfter5 (f <$> x) := by
  cases x with
  | ok a => exact after5_ok _
  | error e => exact ⟨fun e' h => by cases h; exact hx.stop e rfl⟩

theorem after5_error {e : Stop} (h : After5 e) : StopsAfter5 (.error e : M α) := ⟨fun e' h' => by cases h'; exact h⟩

theorem after5_fail {code : Nat} (h : 6 < causePrio code) (tv : Word) : StopsAfter5 (fail code tv : M α) := after5_error (.inr h)

theorem after5_failIf {code : Nat} (h : 6 < causePrio code) (b : Bool) (tv : Word) : StopsAfter5 (failIf b code tv) := by
  cases b
  · exact after5_ok ()
  · exact after5_fail h tv

theorem after5_machineCheck (sub tv : Nat) : StopsAfter5 (machineCheck sub tv : M α) := after5_error (.inl ⟨_, _, _, rfl⟩)

theorem after5_ite {p : Prop} [Decidable p] {x y : M α} (hx : StopsAfter5 x) (hy : StopsAfter5 y) : StopsAfter5 (if p then x else y) := by
  split
  · exact hx
  · exact hy

theorem after5_checkedRead (s : State) (pa n : Nat) : StopsAfter5 (s.checkedRead pa n) := by
  unfold State.checkedRead
  refine after5_ite (after5_ok _) (after5_ite (after5_machineCheck ..) ?_)
  split
  · exact after5_machineCheck ..
  · exact after5_ok _

theorem after5_context (s : State) (asid va : Nat) : StopsAfter5 (s.context asid va) :=
  after5_bind (after5_map (after5_checkedRead ..)) fun _ => after5_bind (after5_failIf (by decide) ..) fun _ => after5_ok _

theorem after5_window (s : State) (asid va : Nat) : StopsAfter5 (s.window asid va) :=
  after5_bind (after5_context ..) fun _ => after5_bind (after5_map (after5_checkedRead ..)) fun _ =>
    after5_bind (after5_failIf (by decide) ..) fun _ => after5_ok _

theorem after5_pageFault (va : Nat) : StopsAfter5 (pageFault va : M α) := after5_fail (by decide) _

theorem after5_walk (s : State) (asid va : Nat) : ∀ n t lvl, StopsAfter5 (s.walk asid va t lvl n)
  | 0, _, _ => after5_pageFault va
  | n + 1, t, lvl => after5_bind (after5_map (after5_checkedRead ..)) fun _ => after5_bind (after5_failIf (by decide) ..) fun _ =>
      after5_ite (after5_error (.inr (show 6 < 9 by decide))) (after5_ite (after5_ok _) (after5_walk s asid va n _ _))

theorem after5_away (n : Nat) : StopsAfter5 (.error (.away n) : M α) := after5_error (.inr (show 6 < 21 by decide))

theorem after5_lookup (s : State) (asid va : Nat) : StopsAfter5 (s.lookup asid va) := by
  refine after5_bind (after5_failIf (by decide) ..) fun _ => after5_bind (after5_window ..) fun d => after5_ite ?_ ?_
  · split
    · split
      · exact after5_ok _
      · exact after5_pageFault va
    · exact after5_away _
  · split
    · exact after5_ok _
    · exact after5_bind (after5_context ..) fun _ => after5_bind (after5_walk ..) fun _ => after5_ok _

theorem after5_translate (s : State) (asid va : Nat) (acc : Acc) : StopsAfter5 (s.translate asid va acc) :=
  after5_bind (after5_lookup ..) fun _ => after5_bind (after5_failIf (by decide) ..) fun _ => after5_bind (after5_failIf (by decide) ..) fun _ =>
    after5_ite (after5_ok _) (after5_ite (after5_away _) (after5_ok _))

theorem after5_storeCheck (s : State) (asid owner : Nat) (exempt : Bool) (e va : Nat) : StopsAfter5 (s.kindCheck asid owner exempt .store e va) :=
  after5_ite (after5_failIf (by decide) ..) (after5_ite (after5_fail (by decide) _) (after5_failIf (by decide) ..))

theorem after5_localPlace (s : State) (w : Who) (va n : Nat) : StopsAfter5 (s.localPlace w va n) :=
  after5_bind (after5_failIf (by decide) ..) fun _ => after5_ite
    (after5_bind (after5_failIf (by decide) ..) fun _ => after5_ok _)
    (after5_bind (after5_failIf (by decide) ..) fun _ => after5_ite (after5_error (.inr (by decide))) (after5_ok _))

/-- What stops a store's place other than a machine check ranks after a misaligned address (Table 4.1). -/
theorem after5_place (s : State) (w : Who) (va n : Nat) : StopsAfter5 (s.place w .store va n) :=
  after5_bind (after5_failIf (by decide) ..) fun _ => after5_ite (after5_localPlace ..)
    (after5_bind (after5_translate ..) fun _ => after5_bind (after5_storeCheck ..) fun _ => after5_ite (after5_ok _) (after5_machineCheck ..))

end Rank

/-! ## The instructions (R260) -/

section Body

variable {s : State} {i : Instr} {store : Bool} {d : Fin 16} {m : Fin 8} {e : EType} {ea : State → Who → Nat → Word} {after : State → Who → State}
  {A : Nat → Word} {ls : Nat → Loc} {bs : Nat → List Byte}

theorem finish_fixed_fail {code : Nat} {tval : Word} :
    finish s.who i s (M.fixedIf (s.allLocal s.who ((actives s m).map A)) (fail code tval)) = trappedAll s i m A code tval := by
  rw [trappedAll, State.allLocal, List.all_map, Function.comp_def]
  cases hown : (actives s m).all fun k => s.ownLocal s.who (A k).toNat
  · exact finish_fail ..
  · exact finish_localTrap ..

theorem inWindow_iff {t : Thread} {va n : Nat} : inWindow t va n = true ↔ t.stwb.toNat ≤ va ∧ va + n ≤ t.stwb.toNat + t.stwl.toNat := decide_eq_true_iff

theorem elemPlace_misaligned {va : Word} {es : Nat} (h : va.toNat % es ≠ 0) : s.elemPlace s.who store va es = fail 0x05 va := by
  rw [State.elemPlace, bne_iff_ne.2 h, failIf_true, fail_bind]

theorem elemPlace_ok {va : Word} {es : Nat} {l : Loc} (h : va.toNat % es = 0) (hl : s.place s.who (if store then .store else .load) va.toNat es = .ok l) :
    s.elemPlace s.who store va es = .ok (va, l) := by
  rw [State.elemPlace, h, bne_self_eq_false, failIf_false, ok_bind, hl, ok_bind]

theorem elemPlaces_ok {es : Nat} (h : ∀ k ∈ actives s m, (A k).toNat % es = 0 ∧ s.place s.who (if store then .store else .load) (A k).toNat es = .ok (ls k)) :
    s.elemPlaces s.who store es ((actives s m).map A) = .ok ((actives s m).map fun k => (A k, ls k)) := by
  rw [State.elemPlaces, List.map_map, Function.comp_def, gather_ok fun k hk => elemPlace_ok (h k hk).1 (h k hk).2]

/-- Of a store's misaligned elements the first is what stops it (R260). -/
theorem elemPlaces_misaligned {es k : Nat} (hmc : ∀ j ∈ actives s m, ∀ tv sub log, s.place s.who .store (A j).toNat es ≠ .error (.trap 0x20 tv sub log))
    (hk : (actives s m).find? (fun k => decide ((A k).toNat % es ≠ 0)) = some k) :
    s.elemPlaces s.who true es ((actives s m).map A) = fail 0x05 (A k) := by
  have hg : gather ((actives s m).map fun k => s.elemPlace s.who true (A k) es) = fail 0x05 (A k) := by
    refine gather_first (e := fun k => .trap 0x05 (A k) 0 none) (n := 6) (fun _ => rfl) hk (fun j _ hj => elemPlace_misaligned (of_decide_eq_true hj))
      fun j hj hal e' he' => ?_
    rw [State.elemPlace, not_not.1 (of_decide_eq_false hal), bne_self_eq_false, failIf_false, ok_bind] at he'
    cases hp : s.place s.who .store (A j).toNat es with
    | ok l =>
      simp only [if_true, hp] at he'
      cases he'
    | error e =>
      simp only [if_true, hp] at he'
      cases he'
      rcases (after5_place ..).stop _ hp with ⟨tv, sub, log, rfl⟩ | hr
      · exact absurd hp (hmc j hj tv sub log)
      · exact hr
  rw [State.elemPlaces, List.map_map, Function.comp_def, hg]
  simp only [fail, if_true]
  split <;> rfl

/-- No element is homed elsewhere. -/
theorem firstRemote_none {xs : List Loc} {w : Who} (h : ∀ l ∈ xs, remoteHome w l = none) : firstRemote w xs = none := by
  have h1 : (xs.find? fun l => l.isMem && (remoteHome w l).isSome) = none := List.find?_eq_none.2 fun l hl => by simp [h l hl]
  have h2 : (xs.find? fun l => (remoteHome w l).isSome) = none := List.find?_eq_none.2 fun l hl => by simp [h l hl]
  rw [firstRemote, h1]
  exact h2

theorem find?_zip_map {L : List Nat} {k : Nat} (hk : k ∈ L) (f : Nat → List Byte) : ((L.zip (L.map f)).find? fun y => y.1 == k).map Prod.snd = some (f k) := by
  induction L with
  | nil => cases hk
  | cons j L ih =>
    rw [List.map_cons, List.zip_cons_cons]
    by_cases hj : j = k
    · simp [hj]
    · rw [List.find?_cons_of_neg (by simpa using hj)]
      exact ih ((List.mem_cons.1 hk).resolve_left (Ne.symm hj))

theorem writeElems_same {t : State} {es : Nat} (ht : SameSlots s t) (hes : es ∣ 64) (g : Nat → Nat → Nat) : t.writeElems s.who es m d g =
    t.writeV s.who d (packE es ((List.range (strip s)).map fun k => if activeAt s m k then g k (vel s es d k) else vel s es d k)) := by
  have hr : t.readV s.who d = s.readV s.who d := by rw [State.readV, State.readV, ht.th]
  have ha : ∀ k, t.active s.who m k = s.active s.who m k := fun k => by rw [State.active, State.active, State.readM, State.readM, ht.th]
  rw [State.writeElems, hr, ht.th, vlN_eq]
  simp only [ha, elem_readV hes, active_eq]

/-- What follows the elements' accesses, of a state whose thread has its strip and its records as before. -/
def Follows (s : State) (after : State → Who → State) (fin : State → State) : Prop :=
  ∀ t, t.who = s.who → (t.th s.who).sh = (s.th s.who).sh → (t.th s.who).vl = (s.th s.who).vl → after t s.who = fin t

/-- Whether an element is reached by way of another core or a home (R17). -/
theorem own_eq : ∀ l : Loc, l.own s.who = ownPlace s.who l
  | .loc c _ => beq_eq_decide c s.who.core
  | .mem _ => rfl

theorem ended_eq (u : State) : (if ((actives s m).map fun k => (A k, ls k)).all fun x => x.2.own s.who then u.retire s.who i else u.retireVar s.who i) =
    ended ((actives s m).any fun k => !ownPlace s.who (ls k)) i s.who u := by
  have h : (((actives s m).map fun k => (A k, ls k)).all fun x => x.2.own s.who) = !((actives s m).any fun k => !ownPlace s.who (ls k)) := by
    rw [List.all_map, ← List.all_eq_not_any_not]
    exact congrArg _ (funext fun k => own_eq _)
  rw [h, ended]
  cases (actives s m).any fun k => !ownPlace s.who (ls k) <;> rfl

section Whole

variable (hexec : exec i s = finish s.who i s (vmemBody false i store d m e ea after s.who s)) (hea : ea s s.who = A)
include hexec

theorem exec_unfit : unfit i s e.size := by
  intro h
  rw [hexec, vmemBody, fits_fail h, fail_bind, finish_fail, trapped]

include hea

/-- The checks of a vector access, and what follows them. -/
theorem exec_fits (h : fits s e.size) : exec i s = finish s.who i s (M.fixedIf (s.allLocal s.who ((actives s m).map A)) (do
    failIf (store && s.spec s.who && (actives s m).any fun k => !inWindow (s.th s.who) (A k).toNat e.size) 0x08 (encodeWord i)
    let xs ← s.elemPlaces s.who store e.size ((actives s m).map A)
    match firstRemote s.who (xs.map Prod.snd) with
    | some l => s.goRemote s.who i l.isMem ((remoteHome s.who l).getD 0) (remoteWords s.who xs)
    | none => .ok ()
    let bss ← if store then .ok [] else gather (xs.map fun x => s.loadAt s.who x.1.toNat x.2 e.size)
    let t := touched s store e.size xs
    let t := if store then ((actives s m).zip xs).foldl (fun t (k, x) => t.storeAt s.who x.2 (bytesOf e.size (elem e.size k (s.readV s.who d)))) t
      else t.writeElems s.who e.size m d fun k _ => natOf (((((actives s m).zip bss).find? fun y => y.1 == k).map Prod.snd).getD [])
    .ok (if xs.all fun x => x.2.own s.who then (after t s.who).retire s.who i else (after t s.who).retireVar s.who i))) := by
  have hact : ((List.range (s.th s.who).vlN).filter fun k => s.active s.who m k) = actives s m := by
    rw [vlN_eq, actives]
    exact congrArg (List.filter · _) (funext fun k => active_eq m k)
  rw [hexec, vmemBody, fits_ok h, ok_bind]
  simp only [hact, hea]
  rfl

/-- With every active element at its place the thread or its accesses leave for another core (R40, R43). -/
theorem exec_leaves (h : fits s e.size) (hwin : (store && s.spec s.who && (actives s m).any fun k => !inWindow (s.th s.who) (A k).toNat e.size) = false)
    (hpl : ∀ k ∈ actives s m, (A k).toNat % e.size = 0 ∧ s.place s.who (if store then .store else .load) (A k).toNat e.size = .ok (ls k)) :
    VLeaves i s ((actives s m).map fun k => (A k, ls k)) := by
  intro l c hl hc
  rw [exec_fits hexec hea h, hwin, failIf_false, ok_bind, elemPlaces_ok hpl, ok_bind]
  simp only [hl, hc, Option.getD_some, goRemote_bind]
  rw [State.goRemote]
  by_cases hm : l.isMem = true ∧ s.mayMigrate s.who c = true
  · rw [if_pos hm, if_pos (by rw [hm.1, hm.2]; rfl)]
    rfl
  · rw [if_neg hm, if_neg (by rwa [Bool.and_eq_true])]
    rfl

theorem exec_home (h : fits s e.size) (hwin : (store && s.spec s.who && (actives s m).any fun k => !inWindow (s.th s.who) (A k).toNat e.size) = false)
    (hpl : ∀ k ∈ actives s m, (A k).toNat % e.size = 0 ∧ s.place s.who (if store then .store else .load) (A k).toNat e.size = .ok (ls k))
    (hhome : ∀ k ∈ actives s m, remoteHome s.who (ls k) = none)
    (hload : store = false → ∀ k ∈ actives s m, s.loadAt s.who (A k).toNat (ls k) e.size = .ok (bs k)) :
    exec i s = .next (ended ((actives s m).any fun k => !ownPlace s.who (ls k)) i s.who (after
      (if store then ((actives s m).zip ((actives s m).map fun k => (A k, ls k))).foldl
          (fun t (k, x) => t.storeAt s.who x.2 (bytesOf e.size (elem e.size k (s.readV s.who d)))) (touched s store e.size ((actives s m).map fun k => (A k, ls k)))
        else (touched s store e.size ((actives s m).map fun k => (A k, ls k))).writeElems s.who e.size m d
          fun k _ => natOf (((((actives s m).zip ((actives s m).map bs)).find? fun y => y.1 == k).map Prod.snd).getD [])) s.who)) := by
  have hnone : firstRemote s.who (((actives s m).map fun k => (A k, ls k)).map Prod.snd) = none := by
    refine firstRemote_none fun l hl => ?_
    simp only [List.map_map, List.mem_map, Function.comp_apply] at hl
    obtain ⟨k, hk, rfl⟩ := hl
    exact hhome k hk
  rw [exec_fits hexec hea h, hwin, failIf_false, ok_bind, elemPlaces_ok hpl, ok_bind]
  simp only [hnone, ok_bind]
  cases store with
  | true => simp only [if_true, fixedIf_ok, finish_ok, ended_eq]
  | false =>
    have hg : gather (((actives s m).map fun k => (A k, ls k)).map fun x => s.loadAt s.who x.1.toNat x.2 e.size) = .ok ((actives s m).map bs) := by
      rw [List.map_map]
      exact gather_ok (hload rfl)
    simp only [hg, if_false, Bool.false_eq_true, ok_bind, fixedIf_ok, finish_ok, ended_eq]

end Whole

theorem follows_writeV {fin : State → State} (hfin : Follows s after fin) {t : State} (ht : SameSlots s t) (X : Nat) :
    after (t.writeV s.who d X) s.who = fin (t.writeV s.who d X) := by
  have hth := ht.th s.who
  refine hfin _ ht.1 ?_ ?_
  · rw [State.writeV, State.updTh, Frame.th_upd_same, ← hth]
    rfl
  · rw [State.writeV, State.updTh, Frame.th_upd_same, ← hth]
    rfl

/-- What a load's body settles. -/
theorem vloads {fin : State → State} (hexec : exec i s = finish s.who i s (vmemBody false i false d m e ea after s.who s)) (hea : ea s s.who = A)
    (hfin : Follows s after fin) : VLoads i d m e.size s A fin := by
  refine ⟨exec_unfit hexec, fun ls bs h hpl => ⟨fun hk => ?_, exec_leaves (store := false) hexec hea h rfl hpl⟩⟩
  have hsame := sameSlots_touched s false e.size ((actives s m).map fun k => (A k, ls k))
  have hexec' := exec_home (store := false) hexec hea h rfl hpl (fun k hk' => (hk k hk').1) fun _ k hk' => (hk k hk').2
  rw [if_neg Bool.false_ne_true, writeElems_same hsame (size_dvd e), follows_writeV hfin hsame] at hexec'
  obtain ⟨hlt, helem⟩ := packE_range e.size (strip s) fun k => if activeAt s m k
    then natOf (((((actives s m).zip ((actives s m).map bs)).find? fun y => y.1 == k).map Prod.snd).getD []) else vel s e.size d k
  refine ⟨_, hexec', hlt, fun k hlt => ?_⟩
  rw [helem k hlt, masked]
  by_cases hact : activeAt s m k = true
  · have hmem : k ∈ actives s m := List.mem_filter.2 ⟨List.mem_range.2 hlt, hact⟩
    rw [if_pos hact, if_pos hact, find?_zip_map hmem, Option.getD_some]
  · rw [if_neg hact, if_neg hact, Nat.mod_eq_of_lt (vel_lt d k)]

/-- What a store's body settles. -/
theorem vstores {fin : State → State} (hexec : exec i s = finish s.who i s (vmemBody false i true d m e ea after s.who s)) (hea : ea s s.who = A)
    (hfin : Follows s after fin) : VStores i d m e.size s A fin := by
  have hwin (hopen : s.spec s.who = true → ∀ k ∈ actives s m, ¬ ¬ ((s.th s.who).stwb.toNat ≤ (A k).toNat ∧
      (A k).toNat + e.size ≤ (s.th s.who).stwb.toNat + (s.th s.who).stwl.toNat)) :
      (true && s.spec s.who && (actives s m).any fun k => !inWindow (s.th s.who) (A k).toNat e.size) = false := by
    rw [Bool.true_and]
    cases hs : s.spec s.who
    · rfl
    · rw [Bool.true_and, List.any_eq_false]
      intro k hk
      rw [inWindow_iff.2 (not_not.1 (hopen hs k hk))]
      decide
  refine ⟨exec_unfit hexec, fun k hk h hs hout => ?_, fun k h hopen hmc hk => ?_, fun ls h hopen hpl => ⟨fun hhome => ?_, exec_leaves (store := true) hexec hea h
    (hwin hopen) hpl⟩⟩
  · have hbad : (true && s.spec s.who && (actives s m).any fun k => !inWindow (s.th s.who) (A k).toNat e.size) = true := by
      rw [Bool.true_and, hs, Bool.true_and, List.any_eq_true]
      refine ⟨k, hk, ?_⟩
      rw [Bool.not_eq_true', ← Bool.not_eq_true, inWindow_iff]
      exact hout
    rw [exec_fits hexec hea h, hbad, failIf_true, fail_bind, finish_fixed_fail]
  · rw [exec_fits hexec hea h, hwin hopen, failIf_false, ok_bind, elemPlaces_misaligned hmc hk, fail_bind, finish_fixed_fail]
  · rw [exec_home (store := true) (bs := fun _ => []) hexec hea h (hwin hopen) hpl hhome (by simp), if_pos rfl]
    have hzip (L : List Nat) : L.zip (L.map fun k => (A k, ls k)) = L.map fun k => (k, A k, ls k) := by
      induction L with
      | nil => rfl
      | cons k L ih => rw [List.map_cons, List.zip_cons_cons, ih, List.map_cons]
    have hsame := (sameSlots_touched s true e.size ((actives s m).map fun k => (A k, ls k))).trans
      (sameSlots_foldl (fun t k => t.storeAt s.who (ls k) (bytesOf e.size (vel s e.size d k))) (fun t _ => sameSlots_storeAt t _ _ _) (actives s m) _)
    rw [hzip, List.foldl_map]
    simp only [elem_readV (size_dvd e)]
    rw [hfin _ hsame.1 (by rw [hsame.th]) (by rw [hsame.th])]

end Body

/-! ## The addresses -/

section Addresses

variable {s : State} {g b : Fin 16} {n : Fin 8} {e : EType}

theorem eaUnit_eq (es : Nat) : eaUnit g es s s.who = fun k => BitVec.ofNat 64 ((reg16 s g).toNat + k * es) := by
  funext k
  rw [eaUnit, Permute.vg_eq, BitVec.ofNat_add, BitVec.ofNat_toNat, BitVec.setWidth_eq]

theorem eaIndexed_eq : eaIndexed g b e.size s s.who = fun k => BitVec.ofInt 64 ((reg16 s g).toNat + e.size * sext (8 * e.size) (vel s e.size b k)) := by
  funext k
  rw [eaIndexed, Permute.vg_eq, elem_readV (size_dvd e), toWord, BitVec.ofInt_add, BitVec.ofInt_natCast, BitVec.ofNat_toNat, BitVec.setWidth_eq]

theorem eaShape_eq (es : Nat) : eaShape n es s s.who = fun k => shAddr (s.th s.who).sh[n] ((shPos (s.th s.who).sh[n] + k) % shPeriod (s.th s.who).sh[n]) es := by
  funext k
  simp only [eaShape, addr_eq, pos_eq, period_eq]

theorem follows_id : Follows s (fun t _ => t) id := fun _ _ _ _ => rfl

theorem follows_step : Follows s (stepShape n) fun t => setShape t n (shAdvance (s.th s.who).sh[n] (strip s)) := by
  intro t hwho hsh hvl
  have hN : (t.th s.who).vlN = strip s := by
    rw [← vlN_eq, Thread.vlN, Thread.vlN, hvl]
  simp only [stepShape, advance_eq, hN]
  rw [← hwho, updShape_eq, hwho, hsh]

end Addresses

/-- Settles O32. -/
theorem vectorMemoryResult : Obligations.VectorMemoryResult := by
  unfold Obligations.VectorMemoryResult
  intro s d g b n m e es unitStride indexed h walk step
  have hloads : exec (.vlds d n m e) s = finish s.who (.vlds d n m e) s (shapedBody false (.vlds d n m e) false d n m e s.who s) := issue_vec _ s (vldsBody false d n m e · s)
  have hstores : exec (.vsts d n m e) s = finish s.who (.vsts d n m e) s (shapedBody false (.vsts d n m e) true d n m e s.who s) := issue_vec _ s (vstsBody false d n m e · s)
  refine ⟨vloads (issue_vec _ s (vldBody false d g m e · s)) (eaUnit_eq _) follows_id, vstores (issue_vec _ s (vstBody false d g m e · s)) (eaUnit_eq _) follows_id,
    vloads (issue_vec _ s (vldxBody false d g b m e · s)) eaIndexed_eq follows_id, vstores (issue_vec _ s (vstxBody false d g b m e · s)) eaIndexed_eq follows_id,
    fun hu i hi => ?_, fun hset => ⟨vloads (hloads.trans ?_) (eaShape_eq _) follows_step, vstores (hstores.trans ?_) (eaShape_eq _) follows_step⟩⟩
  · simp only [List.mem_cons, List.not_mem_nil, or_false] at hi
    rcases hi with rfl | rfl
    · rw [hloads, shapedBody, illegal_of_unset _ hu, fail_bind, finish_fail, trapped]
    · rw [hstores, shapedBody, illegal_of_unset _ hu, fail_bind, finish_fail, trapped]
  · rw [shapedBody, legal_of_set _ hset, ok_bind]
  · rw [shapedBody, legal_of_set _ hset, ok_bind]

end Sys2Proof.VecMem

/-! # Exact block sums and the hops of a ring (R128, R135, R137) -/

namespace Sys2Proof.Blocks
open Sys2Proof Sys2Proof.Machine Sys2Proof.Claims Sys2Proof.Floats

/-! ## The block sum (R128) -/

section BlockSum

/-- A finite value is a multiple of 2^−16. -/
def inUnits16 : Val → Bool
  | .fin _ n d => decide (0 < d) && (n * 2 ^ 16 % d == 0)
  | _ => true

/-- A property of bytes, by their nibbles. -/
theorem forall_byte {P : Nat → Prop} (h : ∀ a < 16, ∀ b < 16, P (16 * a + b)) : ∀ x < 256, P x := fun x hx => by
  have hP := h (x / 16) (by omega) (x % 16) (by omega)
  rwa [Nat.div_add_mod] at hP

theorem inUnits16_e4m3 : ∀ x < 256, inUnits16 (e4m3.decode x) = true := forall_byte (by decide)
theorem inUnits16_e5m2 : ∀ x < 256, inUnits16 (e5m2.decode x) = true := forall_byte (by decide)
theorem inUnits16_e2m1 : ∀ x < 16, inUnits16 (e2m1.decode x) = true := by decide

theorem small_fin {v : Val} (h : smallVal v) : ∃ s n d, v = .fin s n d ∧ 0 < d ∧ d ∣ n * 2 ^ 16 := by
  obtain ⟨hnan, hinf, x, hx, hv⟩ := h
  have hunits : inUnits16 v = true := by
    rcases hv with rfl | rfl | rfl
    · exact inUnits16_e4m3 x hx
    · exact inUnits16_e5m2 x hx
    · exact inUnits16_e2m1 _ (Nat.mod_lt _ (by decide))
  cases v with
  | nan => cases hnan
  | inf s => cases hinf
  | fin s n d =>
    rw [inUnits16, Bool.and_eq_true, decide_eq_true_iff, beq_iff_eq] at hunits
    exact ⟨s, n, d, rfl, hunits.1, Nat.dvd_of_mod_eq_zero hunits.2⟩

theorem ratOf_eq_units16 {v : Val} (h : smallVal v) : ratOf v = v.units16 / 2 ^ 16 := by
  obtain ⟨s, n, d, rfl, hd, c, hc⟩ := small_fin h
  have hdiv : ((n : Int) * 2 ^ 16 / d) = c := by
    have hcast : (n : Int) * 2 ^ 16 = d * c := by exact_mod_cast hc
    rw [hcast, Int.mul_ediv_cancel_left _ (by exact_mod_cast hd.ne')]
  have hq : (n : ℚ) / d = c / 2 ^ 16 := by
    rw [div_eq_div_iff (by exact_mod_cast hd.ne') (by norm_num), mul_comm (c : ℚ)]
    exact_mod_cast hc
  rw [ratOf, mul_div_assoc, hq, Val.units16]
  simp only [hdiv]
  cases s
  · simp
  · simp only [if_true]
    push_cast
    ring

theorem mul_fin {a w : Val} (ha : smallVal a) (hw : smallVal w) : ((a.mul w).isNan || (a.mul w).isInf) = false := by
  obtain ⟨s, n, d, rfl, -, -⟩ := small_fin ha
  obtain ⟨t, n', d', rfl, -, -⟩ := small_fin hw
  rfl

/-- The sum of the products in units of 2^−32. -/
def unitSum (ps : List (Val × Val)) : Int := (ps.map fun p => (p.1.units16 * p.2.units16 : Int)).sum

theorem blockSum_small {ps : List (Val × Val)} (h : ∀ p ∈ ps, smallVal p.1 ∧ smallVal p.2) :
    blockSum ps = .fin (decide (unitSum ps < 0)) (unitSum ps).natAbs (2 ^ 32) := by
  have hsp : ((ps.map fun (a, w) => a.mul w).filter fun p => p.isNan || p.isInf) = [] := by
    rw [List.filter_eq_nil_iff]
    intro p hp
    obtain ⟨⟨a, w⟩, hq, rfl⟩ := List.mem_map.1 hp
    rw [mul_fin (h _ hq).1 (h _ hq).2]
    decide
  have hnan : (ps.any fun (a, w) => a.isNan || w.isNan) = false := by
    rw [List.any_eq_false]
    rintro ⟨a, w⟩ hp
    obtain ⟨⟨ha, -⟩, hw, -⟩ := h _ hp
    simp only [ha, hw]
    decide
  rw [blockSum, hsp, hnan]
  rfl

theorem ratOf_blockSum {ps : List (Val × Val)} (h : ∀ p ∈ ps, smallVal p.1 ∧ smallVal p.2) :
    ratOf (.fin (decide (unitSum ps < 0)) (unitSum ps).natAbs (2 ^ 32)) = (ps.map fun p => ratOf p.1 * ratOf p.2).sum := by
  have hz (z : Int) : ratOf (.fin (decide (z < 0)) z.natAbs (2 ^ 32)) = z / 2 ^ 32 := by
    have habs : ((z.natAbs : ℕ) : ℚ) = |(z : ℚ)| := by rw [Nat.cast_natAbs, Int.cast_abs]
    rw [ratOf, habs]
    by_cases hneg : z < 0
    · rw [decide_eq_true hneg, if_pos rfl, abs_of_neg (by exact_mod_cast hneg)]
      push_cast
      ring
    · rw [decide_eq_false hneg, if_neg Bool.false_ne_true, abs_of_nonneg (by exact_mod_cast not_lt.1 hneg)]
      push_cast
      ring
  rw [hz]
  induction ps with
  | nil => simp [unitSum]
  | cons p ps ih =>
    obtain ⟨⟨hp1, hp2⟩, hps⟩ := List.forall_mem_cons.1 h
    rw [List.map_cons, List.sum_cons, ← ih hps, ratOf_eq_units16 hp1, ratOf_eq_units16 hp2, unitSum, List.map_cons, List.sum_cons, ← unitSum]
    push_cast
    ring

end BlockSum

/-! ## Hops (R135, R137) -/

section Hop

variable {ga gb g : Nat} {ea eb es : List Nat}

theorem hop_comm (ga gb : Nat) (ea eb : List Nat) : hop ga ea gb eb = hop gb eb ga ea := by
  have hzip {β : Type} (f : Nat × Nat → β) : (ea.zip eb).map f = (eb.zip ea).map fun p => f p.swap := by
    rw [← List.zip_swap, List.map_map]
    rfl
  rw [hop, hop, Nat.min_comm ga gb, Nat.max_comm ga gb]
  simp only [hzip, Prod.fst_swap, Prod.snd_swap, Int.add_comm, Bool.or_comm]

/-- E4M3's encodings lie between −448 and 448, in units of 2^−9. -/
theorem elemUnits_bounds (x : Nat) : -229376 ≤ elemUnits x ∧ elemUnits x ≤ 229376 := by
  have hmod : e4m3.decode x = e4m3.decode (x % 256) := by
    have hm : x % 256 % 2 ^ 3 = x % 2 ^ 3 := by omega
    have he : x % 256 / 2 ^ 3 % 2 ^ 4 = x / 2 ^ 3 % 2 ^ 4 := by omega
    have hs : bitAt (x % 256) (4 + 3) = bitAt x (4 + 3) := by
      rw [bitAt, bitAt, show x % 256 / 2 ^ (4 + 3) % 2 = x / 2 ^ (4 + 3) % 2 by omega]
    simp only [Fmt.decode, e4m3, hm, he, hs] <;> rfl
  have hall : ∀ x < 256, -229376 ≤ elemUnits x ∧ elemUnits x ≤ 229376 := forall_byte (by decide)
  rw [show elemUnits x = elemUnits (x % 256) by rw [elemUnits, elemUnits, hmod]]
  exact hall _ (Nat.mod_lt _ (by decide))

/-- The value a growth's element is formed from. -/
def elemAt (g : Nat) (v : Option (Bool × Nat × Nat)) : Val :=
  match v with
  | none => .nan
  | some (s, n, d) => e4m3.grid .rne 0 s n (d * 2 ^ g)

/-- A growth found is the least from `g` up at which no element passes 448. -/
theorem growTo_some (vs : List (Option (Bool × Nat × Nat))) : ∀ {f g g' : Nat} {es : List Nat}, growTo vs f g = some (g', es) →
    g ≤ g' ∧ g' < g + f ∧ es = (vs.map (elemAt g')).map e4m3.encode ∧ ∀ v ∈ vs, (elemAt g' v).absGt (.fin false 448 1) = false
  | 0, _, _, _, h => by cases h
  | f + 1, g, g', es, h => by
    rw [growTo] at h
    split at h
    · obtain ⟨hle, hlt, hrest⟩ := growTo_some vs h
      exact ⟨by omega, by omega, hrest⟩
    · next hfit =>
      cases h
      refine ⟨le_rfl, by omega, rfl, fun v hv => ?_⟩
      rw [Bool.not_eq_true, List.any_eq_false] at hfit
      exact Bool.eq_false_iff.2 (hfit _ (List.mem_map_of_mem hv))

/-- 448 is the greatest finite value of E4M3. -/
theorem onGrid_448 : OnGrid e4m3 448 1 15 14 := by
  refine ⟨by decide, ?_, by decide, by decide, .inr (by decide)⟩
  rw [Floats.step]
  norm_num [e4m3]

theorem elemNan_encode {s : Bool} {n d : Nat} (hd : 0 < d) (h : (e4m3.grid .rne 0 s n d).absGt (.fin false 448 1) = false) :
    elemNan (e4m3.encode (e4m3.grid .rne 0 s n d)) = false := by
  obtain ⟨n', d', k, m, hgrid, hg⟩ := grid_onGrid e4m3 .rne 0 s hd
  rw [hgrid] at h ⊢
  have hcode : code e4m3 k m ≤ code e4m3 15 14 := code_le hg onGrid_448 (by decide) ((absGt_fin hg.den one_pos).1 h)
  have hmax : code e4m3 15 14 = e4m3.maxEnc := by decide
  have hsound : Sound e4m3 := sound_formats _ (by simp)
  refine ((finite_iff hsound).2 ?_).1
  rw [encode_onGrid hg, Nat.mul_comm, Nat.mul_add_mod, Nat.mod_eq_of_lt ((hcode.trans_eq hmax).trans_lt (maxEnc_lt hsound))]
  exact hcode.trans_eq hmax

/-- The sum of two elements, in units of 2^−9 at the lower growth; a NaN gives none. -/
def hopElem (ga gb : Nat) (p : Nat × Nat) : Option (Bool × Nat × Nat) :=
  let z := elemUnits p.1 * 2 ^ (ga - min ga gb) + elemUnits p.2 * 2 ^ (gb - min ga gb)
  if elemNan p.1 || elemNan p.2 then none else some (decide (z < 0), z.natAbs * 2 ^ min ga gb, 2 ^ 9)

theorem hop_ok (h : hop ga ea gb eb = .ok (g, es)) : growTo ((ea.zip eb).map (hopElem ga gb)) (8 - max ga gb) (max ga gb) = some (g, es) := by
  have hvs : (((ea.zip eb).map fun (a, b) => elemUnits a * 2 ^ (ga - min ga gb) + elemUnits b * 2 ^ (gb - min ga gb)).zip
      ((ea.zip eb).map fun (a, b) => elemNan a || elemNan b)).map (fun (z, n) => if n then none else some (decide (z < 0), z.natAbs * 2 ^ min ga gb, 2 ^ 9)) =
      (ea.zip eb).map (hopElem ga gb) := by
    rw [List.zip_map', List.map_map]
    rfl
  rw [hop] at h
  simp only [hvs] at h
  split at h
  · next heq =>
    split at h
    · cases h
      exact heq
    · cases h
  · cases h

theorem elemNan_hop {p : Nat × Nat} : ((elemNan p.1 = true ∨ elemNan p.2 = true) → e4m3.encode (elemAt g (hopElem ga gb p)) = 0x7F) ∧
    ((elemAt g (hopElem ga gb p)).absGt (.fin false 448 1) = false → elemNan p.1 = false → elemNan p.2 = false →
      elemNan (e4m3.encode (elemAt g (hopElem ga gb p))) = false) := by
  refine ⟨fun h => ?_, fun h h1 h2 => ?_⟩
  · have hnan : (elemNan p.1 || elemNan p.2) = true := by rwa [Bool.or_eq_true]
    rw [hopElem, hnan]
    rfl
  · rw [hopElem, h1, h2] at h ⊢
    exact elemNan_encode (by positivity) h

end Hop

/-- Settles O60. -/
theorem numberFormatsAndBlocks : Obligations.NumberFormatsAndBlocks := by
  unfold Obligations.NumberFormatsAndBlocks
  refine ⟨⟨fun ps h => ⟨_, _, _, blockSum_small h, Nat.two_pow_pos _, ratOf_blockSum h⟩, fun ga gb ea eb hlen _ hga hgb => ⟨hop_comm ga gb ea eb,
    fun g es h => ?_⟩⟩, fun f hf mode x hx => ⟨round_decode (sound_formats f hf) mode hx, fun hnan => ?_⟩⟩
  · obtain ⟨hle, hlt, rfl, hfit⟩ := growTo_some _ (hop_ok h)
    refine ⟨by omega, by omega, by omega, by simp [hlen], fun x _ => elemUnits_bounds x, fun i a b e ha hb he => ?_⟩
    have hp : (ea.zip eb)[i]? = some (a, b) := by rw [List.getElem?_zip_eq_some]; exact ⟨ha, hb⟩
    simp only [List.getElem?_map, hp, Option.map_some, Option.some.injEq] at he
    subst he
    exact ⟨(elemNan_hop (p := (a, b))).1, (elemNan_hop (p := (a, b))).2 (hfit _ (List.mem_map_of_mem (List.mem_of_getElem? hp)))⟩
  · rw [Fmt.round, Fmt.roundV, Fmt.encode]

end Sys2Proof.Blocks

/-! # Queue vector instructions from an EMPTY slot (R271) -/

namespace Sys2Proof.Queues
open Sys2Proof Sys2Proof.Machine Sys2Proof.Claims Sys2Proof.Reads

/-- A buffer of one filled slot of 32 bytes, and a thread whose g28 is bound to pop from it. -/
def oneSlot : Cb := { Cb.reset with slotsz := 1, en := true, filled := 1 }
def popBound : Thread := { Thread.zero with bind := Thread.zero.bind.set 0 ⟨0, false, true, 0, 0, 0⟩ }

/-- The state at reset, but that slot 0 of core 0, which is EMPTY, holds that binding, owns the buffer, and has the turn. -/
def unbound : State :=
  { State.reset with
    turn := 0, gtime := 0,
    cores := [(0, { Core.reset with slots := Core.reset.slots.set 0 { Slot.reset with grlen := 2 ^ 15, th := popBound }, cbs := Core.reset.cbs.set 0 oneSlot })] }

/-- The instruction, and a state after its first turn. -/
def queueSum : Instr := .vredq 0 0 .f64
def afterOne (X : Nat) : State :=
  ((unbound.writeV unbound.who 0 X).updTh unbound.who fun t => { t with rcnt := BitVec.ofNat 64 1 }).waitBusy unbound.who queueSum .elements

/-- Before its first turn no thread counts as bound to the buffer; from then on its own slot, which is BUSY, does. -/
theorem bound_before : unbound.bound 0 0 false = false := by decide

theorem bound_after (X : Nat) : (afterOne X).bound 0 0 false = true := rfl

theorem fits_empty {s : State} {es : Nat} (h : strip s = 0) : fits s es := by
  rw [fits, h, Nat.zero_mul]
  exact Nat.zero_le _

theorem strip_unbound : strip unbound = 0 := by decide
theorem strip_afterOne (X : Nat) : strip (afterOne X) = 0 := strip_unbound

/-- So the second turn takes a CB fault. -/
theorem exec_afterOne (X : Nat) : ∃ u, exec queueSum (afterOne X) = .next u ∧ (u.at unbound.who).st = .trap := by
  have hwho : (afterOne X).who = unbound.who := rfl
  have hslot : unbound.who.slot ≠ 15 := by decide
  have hfits : (afterOne X).fits unbound.who queueSum 8 = .ok () := Strip.fits_ok (s := afterOne X) (fits_empty (strip_afterOne X))
  have hsaved : (afterOne X).cbSaved unbound.who queueSum = .ok () := rfl
  have howned : (afterOne X).cbOwned unbound.who 0 = .ok oneSlot := rfl
  have hbound : (afterOne X).bound unbound.who.core 0 false = true := bound_after X
  have hexec : exec queueSum (afterOne X) = Claims.trapped (afterOne X) queueSum 0x07 (cbTval unbound.who.core 0) := by
    change execVredq 0 0 .f64 (afterOne X) = _
    rw [execVredq, issue_vec, hwho, show EType.f64.size = 8 from rfl]
    change finish _ queueSum _ ((afterOne X).fits unbound.who queueSum 8 >>= _) = _
    rw [hfits, ok_bind]
    change finish _ queueSum _ ((afterOne X).cbSaved unbound.who queueSum >>= _) = _
    rw [hsaved, ok_bind, howned, ok_bind, hbound, Bool.or_true, if_pos rfl]
    exact finish_fail ..
  exact ⟨_, hexec, congrArg Slot.st (Frame.at_takeTrap _ _ _ _ _ _ _ _ hslot)⟩

/-- The states of the run of its turns. -/
def turns : Nat → State
  | 0 => unbound
  | j + 1 => match exec queueSum (turns j) with
    | .next t => t
    | _ => turns j

theorem exec_turns (j : Nat) : exec queueSum (turns j) = .next (turns (j + 1)) := by
  obtain ⟨t, ht⟩ := Answers.exec_cases queueSum (turns j)
  rw [turns, ht]

/-- Refutes O34: its clause on the run of VREDQ's turns does not say that the thread's slot is in RUN. -/
theorem not_circularBuffersAndQueueVectors : ¬ Obligations.CircularBuffersAndQueueVectors := by
  unfold Obligations.CircularBuffersAndQueueVectors
  rintro ⟨-, h⟩
  obtain ⟨-, h⟩ := h unbound 0 0 .f64
  obtain ⟨-, hrun, -⟩ := h (fits_empty strip_unbound) (by decide)
  obtain ⟨-, -, hrun⟩ := hrun (.inr ⟨rfl, by decide, by decide⟩) rfl bound_before (by decide) (by decide) rfl (by decide) (by decide)
  obtain ⟨hturns, -⟩ := hrun turns rfl rfl fun j _ => exec_turns j
  obtain ⟨X, h1⟩ := hturns 0 (by decide)
  obtain ⟨Y, h2⟩ := hturns 1 (by decide)
  obtain ⟨u, hu, htrap⟩ := exec_afterOne X
  have hexec : exec queueSum (afterOne X) = .next (turns 2) := (congrArg (exec queueSum) h1).symm.trans (exec_turns 1)
  rw [hu] at hexec
  cases hexec
  have hbusy : ((turns 2).at unbound.who).st = .busy := by
    rw [h2, State.waitBusy, State.at_upd_same]
  exact absurd (hbusy.symm.trans htrap) (by decide)

end Sys2Proof.Queues

/-! # Tile commands at issue (R148, R273, R274, R278) -/

namespace Sys2Proof.Tiles
open Sys2Proof Sys2Proof.Machine Sys2Proof.Claims Sys2Proof.Reads Sys2Proof.Control

/-! ## Substitution (R148) -/

section Resolve

variable {t : TWord} {w : Who}

theorem subst_field {k : Nat} (hk : 1 ≤ k) : t.subst k = (regField t k).val := by
  have h1 : 5 * k - 1 + 1 - (5 * k - 5) = 5 := by omega
  have h2 : 5 * k - 5 = 5 * (k - 1) := by omega
  rw [TWord.subst, bits, h1, h2]
  rfl

/-- The registers of units of operand words, a pair's second field naming g0. -/
def unitRegs (t : TWord) (us : List (Nat × Bool)) : List (Fin 32) :=
  us.flatMap fun u => if u.2 then [regField t u.1, 0] else [regField t u.1]

/-- The words of units from the registers' values. -/
def unitWords (t : TWord) : List (Nat × Bool) → List Word → List (BitVec 32)
  | [], _ => []
  | (k, false) :: us, v :: vs => (if regField t k = 0 then t.word k else v.setWidth 32) :: unitWords t us vs
  | (_, true) :: us, v :: _ :: vs => v.setWidth 32 :: (v >>> 32).setWidth 32 :: unitWords t us vs
  | _, _ => []

theorem readG_zero (s : State) : s.readG w 0 = .ok (0, s) := rfl

/-- With every register read, substitution gives the words of the units. -/
theorem resolve_eq : ∀ {us : List (Nat × Bool)} {s s1 : State} {vs : List Word}, (∀ u ∈ us, 1 ≤ u.1) → readRegs w s (unitRegs t us) = .ok (vs, s1) →
    s.resolve? w t none us = (unitWords t us vs, s1, [], none)
  | [], s, s1, vs, _, h => by
    cases h
    rfl
  | (k, two) :: us, s, s1, vs, hpos, h => by
    obtain ⟨hk, hus⟩ := List.forall_mem_cons.1 hpos
    have hzero : t.subst k = 0 ↔ regField t k = 0 := by
      rw [subst_field hk]
      exact Fin.val_eq_zero_iff
    have hreg : (Fin.ofNat 32 (t.subst k) : Fin 32) = regField t k := by
      rw [subst_field hk]
      exact Fin.ofNat_val_eq_self _
    cases two with
    | false =>
      change readRegs w s (regField t k :: unitRegs t us) = _ at h
      simp only [readRegs, bind_ok_iff] at h
      obtain ⟨⟨v, s2⟩, hv, ⟨vs', s3⟩, hrest, hend⟩ := h
      cases hend
      have ih := resolve_eq hus hrest
      simp only [State.resolve?, hzero, hreg, unitWords]
      by_cases h0 : regField t k = 0
      · rw [h0, readG_zero] at hv
        cases hv
        simp [h0, ih]
      · simp [h0, State.readBehind, hv, ih]
    | true =>
      change readRegs w s (regField t k :: 0 :: unitRegs t us) = _ at h
      simp only [readRegs, bind_ok_iff] at h
      obtain ⟨⟨v, s2⟩, hv, ⟨vs', s3⟩, ⟨⟨z, s4⟩, hz, ⟨vs2, s5⟩, hrest, hend'⟩, hend⟩ := h
      cases hz
      cases hend'
      cases hend
      have ih := resolve_eq hus hrest
      simp only [State.resolve?, hzero, hreg, unitWords]
      by_cases h0 : regField t k = 0
      · rw [h0, readG_zero] at hv
        cases hv
        simp [h0, ih]
      · simp [h0, State.readBehind, hv, ih]

theorem pairBad_iff : t.pairBad = true ↔ pairsBad t := by
  have hbit (k : Nat) : bitAt t.w7.toNat k = t.w7.getLsbD k := Bits.bitAt_eq ..
  have h2 : (t.subst 2 != 0) = true ↔ regField t 2 ≠ 0 := by rw [subst_field (by decide), bne_iff_ne, ne_eq, Fin.val_eq_zero_iff]
  have h4 : (t.subst 4 != 0) = true ↔ regField t 4 ≠ 0 := by rw [subst_field (by decide), bne_iff_ne, ne_eq, Fin.val_eq_zero_iff]
  simp only [TWord.pairBad, TWord.pair1, TWord.pair3, hbit, Bool.or_eq_true, Bool.and_eq_true, h2, h4, pairsBad]

theorem pair1_eq : t.pair1 = t.w7.getLsbD 30 := Bits.bitAt_eq ..
theorem pair3_eq : t.pair3 = t.w7.getLsbD 31 := Bits.bitAt_eq ..

theorem unitRegs_units (h : ¬ pairsBad t) : unitRegs t t.units = regFields t := by
  rw [pairsBad, not_or] at h
  obtain ⟨h1, h3⟩ := h
  simp only [not_and, not_not] at h1 h3
  rw [TWord.units, pair1_eq, pair3_eq]
  cases hp1 : t.w7.getLsbD 30 <;> cases hp3 : t.w7.getLsbD 31 <;> simp [unitRegs, regFields, hp1, hp3] at h1 h3 ⊢ <;> simp [*]

theorem length_readRegs : ∀ {rs : List (Fin 32)} {s s1 : State} {vs : List Word}, readRegs w s rs = .ok (vs, s1) → vs.length = rs.length
  | [], _, _, _, h => by
    cases h
    rfl
  | r :: rs, s, s1, vs, h => by
    simp only [readRegs, bind_ok_iff] at h
    obtain ⟨⟨v, s2⟩, -, ⟨vs', s3⟩, hrest, hend⟩ := h
    cases hend
    rw [List.length_cons, List.length_cons, length_readRegs hrest]

theorem resolved_eq {vs : List Word} (h : vs.length = 6) : t.withWords (unitWords t t.units vs) = resolved t vs := by
  obtain ⟨v1, v2, v3, v4, v5, v6, rfl⟩ : ∃ v1 v2 v3 v4 v5 v6, vs = [v1, v2, v3, v4, v5, v6] := by
    match vs, h with
    | [v1, v2, v3, v4, v5, v6], _ => exact ⟨v1, v2, v3, v4, v5, v6, rfl⟩
  have hhigh (v : Word) : (v >>> 32).setWidth 32 = v.extractLsb' 32 32 := by
    refine BitVec.eq_of_toNat_eq ?_
    simp [BitVec.extractLsb'_toNat]
  rw [TWord.units, pair1_eq, pair3_eq, resolved]
  cases t.w7.getLsbD 30 <;> cases t.w7.getLsbD 31 <;> simp [unitWords, TWord.withWords, TWord.word, hhigh]

theorem readRegs_resolve {s s1 : State} {vs : List Word} (h : ¬ pairsBad t) (hr : readRegs w s (regFields t) = .ok (vs, s1)) :
    ∃ ws, s.resolve? w t none t.units = (ws, s1, [], none) ∧ t.withWords ws = resolved t vs := by
  refine ⟨_, resolve_eq ?_ (by rwa [unitRegs_units h]), resolved_eq (length_readRegs hr)⟩
  rw [TWord.units, pair1_eq, pair3_eq]
  cases t.w7.getLsbD 30 <;> cases t.w7.getLsbD 31 <;> decide

theorem who_readRegs : ∀ {rs : List (Fin 32)} {s s1 : State} {vs : List Word}, readRegs s.who s rs = .ok (vs, s1) → s1.who = s.who
  | [], _, _, _, h => by
    cases h
    rfl
  | r :: rs, s, s1, vs, h => by
    simp only [readRegs, bind_ok_iff] at h
    obtain ⟨⟨v, s2⟩, hv, ⟨vs', s3⟩, hrest, hend⟩ := h
    cases hend
    have hw := Shapes.who_readG hv
    exact (who_readRegs (by rwa [hw])).trans hw

end Resolve
/-! ## The checks of R274 -/

section Checks

variable {s : State} {w : Who} {i : Instr} {o : TileOp} {t : TWord} {r : Nat}

/-- Every operand word is known. -/
def known (_ : Nat) : Bool := true

theorem allKnown_known (ns : List Nat) : allKnown known ns = true := by
  simp [allKnown, known]

theorem bit_flags (k : Nat) : bitAt t.flags.toNat k = t.flags.getLsbD k := Bits.bitAt_eq ..

theorem note_eq : t.note = t.flags.getLsbD 0 := bit_flags 0
theorem sparse_eq : t.sparse = sp t := bit_flags 4
theorem wtype_eq : t.wtype = wt t := rfl
theorem atype_eq : t.atype = at_ t := rfl
theorem dmode_eq : t.dmode = dmode t := rfl

theorem wtypeOk_iff : wtypeOk (wt t) (sp t) = true ↔ ∃ c ∈ combinations, c.1 = wt t ∧ c.2.1 = sp t := by
  have hw : wt t < 8 := Nat.mod_lt _ (by decide)
  generalize wt t = x at hw
  generalize sp t = b
  revert x b
  decide

theorem combOk_iff : combOk (wt t) (at_ t) (sp t) = true ↔ (wt t, sp t, at_ t) ∈ combinations := by
  have hw : wt t < 8 := Nat.mod_lt _ (by decide)
  have ha : at_ t < 8 := Nat.mod_lt _ (by decide)
  generalize wt t = x at hw
  generalize at_ t = y at ha
  generalize sp t = b
  revert x y b
  decide

/-- A die has the MXU's base group, and the first six its sparse and FP4 hardware (R110). -/
theorem fate_base_mxu : fate w i false 3 s = .ok () := by
  have h : bitAt (dieCaps (dieOf w.core)) 3 = true := by
    rw [dieCaps]
    split <;> rfl
  simp [fate, h]

theorem fate_sparse (h : w.core < 1152) : fate w i false 4 s = .ok () := by
  have hbit : bitAt (dieCaps (dieOf w.core)) 4 = true := by
    rw [dieCaps, if_pos (show dieOf w.core < 6 by rw [dieOf]; omega)]
    rfl
  simp [fate, hbit]

theorem fate_mxu {b : Bool} (h : b = true → w.core < 1152) : fate w i false (if b then 4 else 3) s = .ok () := by
  cases b
  · exact fate_base_mxu
  · exact fate_sparse (h rfl)

theorem tileRange_ok {off n : Nat} (h : inGrant s w off n) : s.tileRange w off n = .ok () := by
  rw [State.tileRange]
  rcases h with h | ⟨hc, hlo, hhi⟩
  · exact if_pos h
  · simp only [hc, ne_eq, not_true, if_false]
    rw [if_neg (not_or.2 ⟨not_lt.2 hlo, not_lt.2 hhi⟩), ite_self]

theorem takes_iff {n : Fin 32} {size : Nat} : s.cbTakes w.core n size = true ↔ takes s w n size := by
  simp only [State.cbTakes, takes, Bool.and_eq_true, Bool.not_eq_true', beq_iff_eq, decide_eq_true_iff, and_assoc]
  rfl

theorem gives_iff {n : Fin 32} : ((s.cb w.core n).en && !s.bound w.core n false) = true ↔ gives s w n := by
  simp [gives]

theorem sparse_core (h : w.core < 1152 ∨ (wt t ≠ 2 ∧ sp t = false)) : (wt t == 2 || sp t) = true → w.core < 1152 := by
  intro hb
  rcases h with h | ⟨h2, hs⟩
  · exact h
  · rw [hs, Bool.or_false, beq_iff_eq] at hb
    exact absurd hb h2

theorem r_zero (h : passes o t s w r) (ho : o ≠ .mdrn) : r = 0 := by
  obtain ⟨-, -, h⟩ := h
  cases o with
  | mwld | mact | crs | cag | car | cbc => exact h.2.2.2.2
  | mdrn => exact absurd rfl ho
  | mswap | mzero | msync => exact h
  | cpyB | cpyG => exact h.2.2.2.2.2.2.2
  | cpyF => exact h.2.2.2
  | cpyC => exact h.2.2

/-- Step 1, of a command that passes. -/
theorem decode_ok (h : passes o t s w r) : s.tileDecode w i o known t = .ok r := by
  obtain ⟨hill, hlet, h⟩ := h
  have hleg : (o.illegal known t || ((s.th w).codelet && (t.note || o == .msync))) = false := by
    rw [show o.illegal known t = false from hill, Bool.false_or]
    cases hc : (s.th w).codelet
    · rfl
    · obtain ⟨hn, hm⟩ := hlet hc
      rw [note_eq, hn]
      exact beq_eq_false_iff_ne.2 hm
  unfold State.tileDecode
  rw [hleg, illegalIf, failIf_false, ok_bind]
  cases o with
  | mwld =>
    obtain ⟨hcomb, hk, -, -, rfl⟩ := h
    simp only [wtype_eq, sparse_eq, wtypeOk_iff.2 hcomb, reduceCtorEq, if_false, ok_bind, Bool.not_true, failIf_false, fate_mxu (sparse_core hk)]
  | mact =>
    obtain ⟨hcomb, hk, -, -, rfl⟩ := h
    simp only [wtype_eq, sparse_eq, atype_eq, combOk_iff.2 hcomb, reduceCtorEq, if_false, ok_bind, Bool.not_true, failIf_false, fate_mxu (sparse_core hk)]
  | mdrn =>
    obtain ⟨hrec, h1, h6, hblk, hk, -⟩ := h
    have hfsh : t.fsh = Fin.ofNat 4 (t.flags.toNat / 2) := Fin.ext (Nat.mod_mod_of_dvd _ (dvd_refl 4))
    have hr : s.drainRec w i t.fsh = .ok r := by
      simp only [State.drainRec, hfsh, hrec]
      exact if_pos ⟨by rwa [Convert.recFmt_eq], by rwa [Convert.recFmt_eq], by rwa [Convert.recBlk_eq]⟩
    have hf : (recFmt r == 6) = true → w.core < 1152 := fun h => hk.resolve_right (not_not.2 ((Convert.recFmt_eq r).symm.trans (beq_iff_eq.1 h)))
    simp only [if_true, hr, ok_bind, Bool.not_true, failIf_false, fate_mxu hf]
  | mswap | mzero | msync | cpyB | cpyC | cpyG | cpyF | crs | cag | car | cbc =>
    obtain rfl := r_zero ⟨hill, hlet, h⟩ (by decide)
    simp only [reduceCtorEq, if_false, ok_bind, Bool.not_true, failIf_false, Bool.false_eq_true, fate_base_mxu]

theorem failIf_of_not {b : Bool} {code : Nat} {tval : Word} (h : ¬ b = true) : failIf b code tval = .ok () := by
  rw [Bool.eq_false_iff.2 h, failIf_false]

theorem then_ok {x y : M Unit} (hx : x = .ok ()) (hy : y = .ok ()) : (do x; y) = .ok () := by
  rw [hx, ok_bind, hy]

theorem then_next {x y z : M Unit} (hx : x = .ok ()) (hy : y = z) : (do x; y) = z := by
  rw [hx, ok_bind, hy]

theorem then_stop {x y : M Unit} {code : Nat} {tval : Word} (hx : x = fail code tval) : (do x; y) = fail code tval := by
  rw [hx, fail_bind]

theorem fails {b : Bool} {code : Nat} {tval : Word} (h : b = true) : failIf b code tval = fail code tval := by
  rw [h, failIf_true]

/-- A check of alignment, and one of the high bits, that an address meets. -/
theorem aligned_ok {ns : List Nat} {x n : Nat} {va : Word} (h : x % n = 0) : failIf (allKnown known ns && x % n != 0) 0x05 va = .ok () :=
  failIf_of_not (by simp [h])
theorem high_ok {ns : List Nat} {x : Nat} {va : Word} (h : x < 2 ^ 54) : failIf (allKnown known ns && decide (2 ^ 54 ≤ x)) 0x09 va = .ok () :=
  failIf_of_not (by rw [Bool.and_eq_true, decide_eq_true_iff, not_and]; exact fun _ => not_le.2 h)

theorem lo64_eq : t.lo64 = pair12 t := rfl
theorem hi64_eq : t.hi64 = pair34 t := rfl
theorem dst_eq : o.dst t = copyDst o t := rfl

theorem dst_aligned (h : dmode t ≠ 2 → copyDst o t % 32 = 0) (ns : List Nat) : (match t.dmode with
    | 0 => failIf (allKnown known ns && o.dst t % 32 != 0) 0x05 (BitVec.ofNat 64 (o.dst t))
    | 1 => failIf (allKnown known ns && o.dst t % 32 != 0) 0x05 (BitVec.ofNat 64 (localVa (o.dst t)))
    | _ => .ok ()) = .ok () := by
  rw [dst_eq]
  split
  · next hd => exact aligned_ok (h (by rw [← dmode_eq, hd]; decide))
  · next hd => exact aligned_ok (h (by rw [← dmode_eq, hd]; decide))
  · rfl

/-- A pitch is a multiple of 32 where its word is. -/
theorem pitch_aligned (h : t.w6.toNat % 32 = 0) : t.spitch % 32 = 0 := by
  rw [TWord.spitch, BitVec.toInt_eq_toNat_cond]
  split <;> omega

/-- Step 3. -/
theorem align_ok (h : passes o t s w r) : tileAligned o known t = .ok () := by
  obtain ⟨-, -, h⟩ := h
  cases o with
  | mwld | mact | mdrn | mswap | mzero | msync => rfl
  | cpyB =>
    obtain ⟨hsrc, hpitch, hal, -⟩ := h
    have hp : failIf (known 6 && t.spitch % 32 != 0) 0x05 (toWord t.spitch) = .ok () := failIf_of_not (by simp [pitch_aligned hpitch])
    exact then_ok (aligned_ok hsrc) (then_ok hp (dst_aligned (o := .cpyB) hal _))
  | cpyG =>
    obtain ⟨hidx, hsrc, hal, -⟩ := h
    exact then_ok (aligned_ok hidx) (then_ok (aligned_ok hsrc) (dst_aligned (o := .cpyG) hal _))
  | cpyF =>
    obtain ⟨hal, -⟩ := h
    exact dst_aligned (o := .cpyF) hal _
  | cpyC =>
    obtain ⟨hoff, -⟩ := h
    exact aligned_ok hoff
  | crs | cag | car | cbc =>
    obtain ⟨h12, h34, -⟩ := h
    exact then_ok (aligned_ok h12) (aligned_ok h34)

/-- A buffer's check that is met. -/
theorem need_ok {b c : Bool} {n : Fin 32} (h : b = true) : (if (b || c) = true then .ok () else cbFault w.core n : M Unit) = .ok () := by
  rw [h, Bool.true_or, if_pos rfl]

theorem room_ok (hr : dmode t = 2 → takes s w (Fin.ofNat 32 (copyDst o t)) 0) : (t.dmode != 2 || s.cbTakes w.core (Fin.ofNat 32 (o.dst t)) 0) = true := by
  rw [Bool.or_eq_true, bne_iff_ne, takes_iff]
  exact Classical.or_iff_not_imp_left.2 fun h => hr (not_not.1 h)

theorem weightLen_eq : weightLen t.wtype t.sparse = imageLen t := by
  rw [weightLen, imageLen, sparse_eq, wtype_eq]
  cases sp t <;> rfl

theorem rlen_eq : rlen t.wtype t.sparse = rowLen t := by
  rw [rlen, rowLen, sparse_eq, wtype_eq]
  cases sp t <;> simp

theorem drained_eq : t.drained.length = columns t := by
  change _ = if t.cols = 0 then 256 else 128
  rw [TWord.drained]
  split
  · next h => rw [h, if_pos rfl, List.length_range]
  · next h => rw [h, if_neg (by decide), List.length_range]
  · next h _ => rw [if_neg h, List.length_map, List.length_range]

/-- Step 4. -/
theorem buffers_ok (h : passes o t s w r) : s.tileBuffers w o known t r = .ok () := by
  obtain ⟨-, -, h⟩ := h
  cases o with
  | mswap | mzero | msync | cpyC | crs | cag | car | cbc => rfl
  | mwld =>
    obtain ⟨-, -, hg, hlen, -⟩ := h
    refine need_ok ?_
    rw [Bool.and_eq_true, decide_eq_true_iff, weightLen_eq]
    exact ⟨gives_iff.2 hg, hlen⟩
  | mact =>
    obtain ⟨-, -, hg, hlen, -⟩ := h
    refine need_ok ?_
    rw [Bool.and_eq_true, decide_eq_true_iff, rlen_eq]
    exact ⟨gives_iff.2 hg, hlen⟩
  | mdrn =>
    obtain ⟨-, -, -, -, -, ht⟩ := h
    refine need_ok ?_
    rw [Bool.or_eq_true, bne_iff_ne, takes_iff, Convert.recFmt_eq, Convert.codeBits_eq _ (Nat.mod_lt _ (by decide)), drained_eq]
    exact Classical.or_iff_not_imp_left.2 fun h => ht (not_not.1 h)
  | cpyB =>
    obtain ⟨-, -, -, hr, -⟩ := h
    exact need_ok (room_ok (o := .cpyB) hr)
  | cpyG =>
    obtain ⟨-, -, -, hr, -⟩ := h
    exact need_ok (room_ok (o := .cpyG) hr)
  | cpyF =>
    obtain ⟨-, hr, -⟩ := h
    exact need_ok (room_ok (o := .cpyF) hr)

theorem reach_ok (hr : dmode t = 0 → copyDst o t < 2 ^ 54) :
    (if t.dmode = 0 then failIf (allKnown known o.dstWords && decide (2 ^ 54 ≤ o.dst t)) 0x09 (BitVec.ofNat 64 (o.dst t)) else .ok ()) = .ok () := by
  split
  · next h0 => exact high_ok (hr h0)
  · rfl

/-- Steps 5 and 6. -/
theorem addresses_ok (h : passes o t s w r) : tileAddresses o known t = .ok () := by
  obtain ⟨-, -, h⟩ := h
  cases o with
  | mwld | mact | mdrn | mswap | mzero | msync | cpyC => rfl
  | cpyB =>
    obtain ⟨-, -, -, -, hsrc, hwin, ⟨hdst, -⟩, -⟩ := h
    have hloc : ¬ (allKnown known [1, 2] && inLocal t.lo64) = true := by
      rw [Bool.and_eq_true, LatIssue.inLocal_iff, lo64_eq]
      omega
    exact then_ok (high_ok hsrc) (then_ok (reach_ok (o := .cpyB) hdst) (failIf_of_not hloc))
  | cpyG =>
    obtain ⟨-, -, -, -, hsrc, ⟨hdst, -⟩, -⟩ := h
    exact then_ok (high_ok hsrc) (reach_ok (o := .cpyG) hdst)
  | cpyF =>
    obtain ⟨-, -, ⟨hdst, -⟩, -⟩ := h
    exact reach_ok (o := .cpyF) hdst
  | crs | cag | car | cbc =>
    obtain ⟨-, -, h12, h34, -⟩ := h
    exact then_ok (high_ok h12) (high_ok h34)

theorem range_ok {ns : List Nat} {off n : Nat} (h : inGrant s w off n) : (if allKnown known ns then s.tileRange w off n else .ok ()) = .ok () := by
  rw [allKnown_known, if_pos rfl, tileRange_ok h]

theorem within_ok {n : Nat} (hr : dmode t = 1 → inGrant s w (copyDst o t) n) :
    (if t.dmode = 1 then (if allKnown known (5 :: o.dstWords) then s.tileRange w (o.dst t) n else .ok ()) else .ok ()) = .ok () := by
  split
  · next h1 => exact range_ok (hr h1)
  · rfl

/-- Step 7. -/
theorem grant_ok (h : passes o t s w r) : s.tileGrant w o known t = .ok () := by
  obtain ⟨-, -, h⟩ := h
  cases o with
  | mwld | mact | mdrn | mswap | mzero | msync | crs | cag | car | cbc => rfl
  | cpyB =>
    obtain ⟨-, -, -, -, -, -, ⟨-, hdst⟩, -⟩ := h
    exact within_ok (o := .cpyB) hdst
  | cpyG =>
    obtain ⟨-, -, -, -, -, ⟨-, hdst⟩, hidx, -⟩ := h
    have hiw : t.iw = if t.w6.getLsbD 20 then 8 else 4 := by rw [TWord.iw, Bits.bitAt_eq]; rfl
    exact then_ok (range_ok (by rw [hiw]; exact hidx)) (within_ok (o := .cpyG) hdst)
  | cpyF =>
    obtain ⟨-, -, ⟨-, hdst⟩, -⟩ := h
    exact within_ok (o := .cpyF) hdst
  | cpyC =>
    obtain ⟨-, hg, -⟩ := h
    exact range_ok (ns := [1, 2]) hg

end Checks
/-! ## Issue (R273, R278) -/

section Issue

variable {s s1 : State} {i : Instr} {o : TileOp} {t : TWord} {r : Nat} {vs : List Word}

theorem tileForm_claim : ∀ f ∈ tileForms, exec (f.1 t) s = tileIssue f.2 (f.1 t) t s ∧ isTile (encode (f.1 t)) = true := by
  intro f hf
  simp only [tileForms, List.mem_cons, List.not_mem_nil, or_false] at hf
  have htile {i : Instr} {e c : Nat} (h : tileWord e c t = encode i) (he : e < 8) (hc : c < 64) : isTile (encode i) = true :=
    beq_iff_eq.2 (Encoding.tileWord_fields he hc h).1
  rcases hf with rfl | rfl | rfl | rfl | rfl | rfl | rfl | rfl | rfl | rfl | rfl | rfl | rfl | rfl <;>
    exact ⟨rfl, htile rfl (by decide) (by decide)⟩

theorem guarded (h : s.readP s.who t.guard = false) : tileIssue o i t s = .next (s.retire s.who i) := by
  rw [tileIssue, h]
  rfl

/-- Steps 4 to 7. -/
def laterChecks (s : State) (w : Who) (o : TileOp) (t : TWord) (r : Nat) : M Unit := do
  s.tileBuffers w o known t r
  tileAddresses o known t
  s.tileGrant w o known t

/-- What follows the checks: the commit queue, or the engine's queue. -/
def sent (s s1 : State) (w : Who) (i : Instr) (q : QCmd) : M State :=
  if s1.history w then do
    let u ← s.hold s1 w i (.tile q)
    .ok (u.retire w i)
  else .ok (s1.pushCmd w i q)

/-- An issued command: its operands resolved, then its checks. -/
theorem issued (hg : s.readP s.who t.guard = true) (hp : ¬ pairsBad t) (ho : open_ s i) (hr : readRegs s.who s (regFields t) = .ok (vs, s1)) :
    tileIssue o i t s = finish s.who i s (do
      let r ← s1.tileDecode s.who i o known (resolved t vs)
      failIf (o.engine == 0 && s1.history s.who) 0x08 (encodeWord i)
      tileAligned o known (resolved t vs)
      laterChecks s1 s.who o (resolved t vs) r
      sent s s1 s.who i (s1.qcmd s.who o (resolved t vs) r)) := by
  obtain ⟨ws, hres, hws⟩ := readRegs_resolve hp hr
  obtain ⟨hbound, -⟩ := checks_of_open ho
  have hpair : t.pairBad = false := Bool.eq_false_iff.2 fun h => hp (pairBad_iff.1 h)
  have hk : (fun n : Nat => !([] : List Nat).contains n) = known := rfl
  rw [tileIssue, hg]
  simp only [Bool.not_true, Bool.false_eq_true, if_false, hres, hws, hpair, illegalIf, failIf_false, hbound, ok_bind, hk]
  rfl

theorem issued_pairBad (hg : s.readP s.who t.guard = true) (hp : pairsBad t) : tileIssue o i t s = trapped s i 0x01 (encodeWord i) := by
  rw [tileIssue, hg]
  simp only [Bool.not_true, Bool.false_eq_true, if_false, illegalIf, pairBad_iff.2 hp, failIf_true, fail_bind]
  exact finish_fail ..

theorem issued_illegal (hg : s.readP s.who t.guard = true) (hp : ¬ pairsBad t) (ho : open_ s i) (hr : readRegs s.who s (regFields t) = .ok (vs, s1))
    (hill : o.illegal known (resolved t vs) = true) : tileIssue o i t s = trapped s i 0x01 (encodeWord i) := by
  rw [issued hg hp ho hr]
  unfold State.tileDecode
  rw [hill, Bool.true_or, illegalIf, failIf_true]
  exact finish_fail ..

/-- A command that passes its checks. -/
theorem issued_passes (hg : s.readP s.who t.guard = true) (hp : ¬ pairsBad t) (ho : open_ s i) (hr : readRegs s.who s (regFields t) = .ok (vs, s1))
    (h : passes o (resolved t vs) s1 s.who r) : tileIssue o i t s = finish s.who i s (do
      failIf (o.engine == 0 && s1.history s.who) 0x08 (encodeWord i)
      sent s s1 s.who i (s1.qcmd s.who o (resolved t vs) r)) := by
  rw [issued hg hp ho hr, decode_ok h, ok_bind, align_ok h, ok_bind, laterChecks, then_ok (buffers_ok h) (then_ok (addresses_ok h) (grant_ok h)), ok_bind]

theorem engine_eq : o.engine = engineOf o := by cases o <;> rfl

theorem qcmd_eq : s1.qcmd s.who o t r = command s1 s.who o t r := rfl

theorem room_iff {c : Nat} :
    ((s.core c).queueFree o.engine && !((s.core c).tileWait.any fun x => x.op.engine == o.engine)) = true ↔ engineRoom s c (engineOf o) := by
  have hany (e : Nat) : (!((s.core c).tileWait.any fun x => x.op.engine == e)) = true ↔ ∀ x ∈ (s.core c).tileWait, engineOf x.op ≠ e := by
    simp [engine_eq]
  have h3 : engineOf o = 0 ∨ engineOf o = 1 ∨ engineOf o = 2 := by cases o <;> decide
  rw [Bool.and_eq_true, hany, engine_eq]
  rcases h3 with h | h | h <;> rw [h] <;> exact and_congr_left' decide_eq_true_iff

theorem enter_eq {c : Nat} {q : QCmd} : s.updCore c (fun k => k.enter q) = enqueued s c q (engineOf q.op) := by
  have h3 : engineOf q.op = 0 ∨ engineOf q.op = 1 ∨ engineOf q.op = 2 := by cases q.op <;> decide
  unfold Core.enter
  rw [engine_eq]
  rcases h3 with h | h | h <;> rw [h] <;> rfl

/-- What becomes of a command that passes. -/
theorem sent_claims {w : Who} (hw : s.who = w) (hw1 : s1.who = w) (htile : isTile (encode i) = true) {q : QCmd} (hq : q.op = o) :
    let x := finish w i s (do
      failIf (o.engine == 0 && s1.history w) 0x08 (encodeWord i)
      sent s s1 w i q)
    (s1.history w = true → engineOf o = 0 → x = trapped s i 0x08 (encodeWord i)) ∧
    (s1.history w = true → engineOf o ≠ 0 → (s1.core w.core).commitq.length < 64 → x = .next ((queued s1 (.tile q)).retire w i)) ∧
    (s1.history w = false → engineRoom s1 w.core (engineOf o) → x = .next ((enqueued s1 w.core q (engineOf o)).retire w i)) ∧
    (s1.history w = false → ¬ engineRoom s1 w.core (engineOf o) → x =
      .next ((s1.updCore w.core fun k => { k with tileWait := k.tileWait ++ [q] }).upd w fun x =>
        { x with st := .busy, out := some i, busy := .queue (engineOf o), th := { x.th with pc := (s1.th w).pc + 32 } })) := by
  intro x
  have hpush : s1.pushCmd w i q = if (s1.core w.core).queueFree o.engine && !((s1.core w.core).tileWait.any fun x => x.op.engine == o.engine)
      then (s1.updCore w.core fun k => k.enter q).retire w i
      else (s1.updCore w.core fun k => { k with tileWait := k.tileWait ++ [q] }).upd w fun x =>
        { x with st := .busy, out := some i, busy := .queue (engineOf o), th := { x.th with pc := s1.nextPc w i } } := by
    rw [State.pushCmd, hq, engine_eq]
  refine ⟨fun hh h0 => ?_, fun hh h0 hroom => ?_, fun hh hroom => ?_, fun hh hroom => ?_⟩
  · subst hw
    simp only [x, hh, engine_eq, h0, beq_self_eq_true, Bool.and_true, failIf_true]
    exact finish_fail ..
  · subst hw1
    simp only [x, hh, engine_eq, beq_eq_false_iff_ne.2 h0, Bool.false_and, failIf_false, ok_bind, sent, if_true, LatIssue.hold_ok _ hroom, finish_ok]
  · simp only [x, hh, Bool.and_false, failIf_false, ok_bind, sent, Bool.false_eq_true, if_false, finish_ok, hpush, if_pos (room_iff.2 hroom), enter_eq, hq]
  · have hpc : s1.nextPc w i = (s1.th w).pc + 32 := by rw [State.nextPc, sizeOf', htile]; rfl
    simp only [x, hh, Bool.and_false, failIf_false, ok_bind, sent, Bool.false_eq_true, if_false, finish_ok, hpush, if_neg fun h => hroom (room_iff.1 h), hpc]

end Issue

/-! ## Commands without registers -/

section Fixed

variable {s : State} {i : Instr} {o : TileOp} {t : TWord}

theorem readRegs_fixed (h7 : t.w7 = 0) : readRegs s.who s (regFields t) = .ok (List.replicate 6 0, s) := by
  have hf : regFields t = List.replicate 6 0 := by
    rw [regFields]
    simp [regField, h7]
  rw [hf]
  rfl

theorem resolved_fixed (h7 : t.w7 = 0) : resolved t (List.replicate 6 0) = t := by
  cases t
  subst h7
  simp [resolved, regField]

theorem regs_fixed (h7 : t.w7 = 0) : t.regs = [] := by
  rw [TWord.regs, h7]
  decide

theorem issued_fixed (hg : s.readP s.who t.guard = true) (h7 : t.w7 = 0) (hsrcs : i.srcs = t.regs) (hdsts : i.dsts = []) :
    tileIssue o i t s = finish s.who i s (do
      let r ← s.tileDecode s.who i o known t
      failIf (o.engine == 0 && s.history s.who) 0x08 (encodeWord i)
      tileAligned o known t
      laterChecks s s.who o t r
      sent s s s.who i (s.qcmd s.who o t r)) := by
  have hp : ¬ pairsBad t := by simp [pairsBad, h7]
  have ho : open_ s i := by
    rw [open_, State.chkOps, State.chkBound, State.chkCb, State.namesBound, hsrcs, hdsts, regs_fixed h7, List.append_nil, List.any_nil, Bool.and_false, failIf_false]
    rfl
  rw [issued hg hp ho (readRegs_fixed h7), resolved_fixed h7]

/-- The fault of an MWLD or MACT whose combination Table 10.3 does not list, and of one whose hardware the die lacks (R282, R111). -/
theorem decode_comb {b : Bool} (hlet : (s.th s.who).codelet = false) (hill : o.illegal (fun _ => true) t = false)
    (ho : o = .mwld ∧ wtypeOk (wt t) (sp t) = b ∨ o = .mact ∧ combOk (wt t) (at_ t) (sp t) = b) :
    s.tileDecode s.who i o known t = (do
      failIf (!b) 0x04 (encodeWord i)
      fate s.who i false (if wt t == 2 || sp t then 4 else 3) s
      .ok 0) := by
  have hill' : o.illegal known t = false := hill
  unfold State.tileDecode
  rw [hill', hlet, Bool.false_and, Bool.or_false, illegalIf, failIf_false, ok_bind]
  rcases ho with ⟨rfl, hb⟩ | ⟨rfl, hb⟩ <;>
    simp only [reduceCtorEq, if_false, ok_bind, wtype_eq, atype_eq, sparse_eq, hb]

theorem fine_iff : (∃ c ∈ combinations, c.1 = wt t ∧ c.2.1 = sp t ∧ (o = .mact → c.2.2 = at_ t)) ↔
    (o = .mact ∧ combOk (wt t) (at_ t) (sp t) = true ∨ o ≠ .mact ∧ wtypeOk (wt t) (sp t) = true) := by
  by_cases ho : o = .mact
  · simp only [ho, true_imp_iff, true_and, ne_eq, not_true, false_and, or_false, combOk_iff]
    constructor
    · rintro ⟨⟨x, y, z⟩, hc, rfl, rfl, rfl⟩
      exact hc
    · exact fun hc => ⟨_, hc, rfl, rfl, rfl⟩
  · simp only [ho, false_imp_iff, and_true, false_and, false_or, ne_eq, not_false_iff, true_and, wtypeOk_iff]

/-- An absent group: a migrate trap where a die of the placement set has it (R111). -/
theorem fate_absent {g : Nat} (h : bitAt (dieCaps (dieOf s.who.core)) g = false) : fate s.who i false g s =
    .error (.trap (if s.who.slot.val < 14 ∧ s.groupSomewhere (s.at s.who) g = true then 0x03 else 0x02) (encodeWord i) g none) := by
  rw [fate, Bool.false_and, if_neg Bool.false_ne_true, h, if_neg Bool.false_ne_true]
  by_cases hs : s.who.slot.val < 14
  · rw [if_neg (by omega)]
    by_cases hg : s.groupSomewhere (s.at s.who) g = true
    · rw [if_pos hg, if_pos ⟨hs, hg⟩]
    · rw [if_neg hg, if_neg fun h => hg h.2]
  · rw [if_pos (by omega), if_neg fun h => hs h.1]

/-- MWLD and MACT of a combination that is not listed, and on a die without its hardware. -/
theorem mxu_faults (hexec : exec i s = tileIssue o i t s) (hg : s.readP s.who t.guard = true) (h7 : t.w7 = 0) (hsrcs : i.srcs = t.regs)
    (hdsts : i.dsts = []) (hvar : Instr.variable i = false) (hv : s.varies s.who i = (Instr.variable i || s.namesBound s.who i))
    (ho : o = .mwld ∨ o = .mact) (hlet : (s.th s.who).codelet = false) (hill : o.illegal (fun _ => true) t = false) :
    let fine : Prop := ∃ c ∈ combinations, c.1 = wt t ∧ c.2.1 = sp t ∧ (o = .mact → c.2.2 = at_ t)
    (¬ fine → exec i s = trapped s i 0x04 (encodeWord i)) ∧
    (fine → 1152 ≤ s.who.core → s.who.core < 1536 → (wt t = 2 ∨ sp t = true) → (
      let code := if s.who.slot.val < 14 ∧ s.groupSomewhere (s.at s.who) 4 = true then 0x03 else 0x02
      exec i s = .next (s.takeTrap s.who code false 4 (encodeWord i) (s.th s.who).pc (code == 0x03)))) := by
  have hb : ∃ b, (o = .mwld ∧ wtypeOk (wt t) (sp t) = b ∨ o = .mact ∧ combOk (wt t) (at_ t) (sp t) = b) ∧
      (b = true ↔ ∃ c ∈ combinations, c.1 = wt t ∧ c.2.1 = sp t ∧ (o = .mact → c.2.2 = at_ t)) := by
    rcases ho with rfl | rfl
    · exact ⟨_, .inl ⟨rfl, rfl⟩, by rw [fine_iff]; simp⟩
    · exact ⟨_, .inr ⟨rfl, rfl⟩, by rw [fine_iff]; simp⟩
  obtain ⟨b, hcomb, hfine⟩ := hb
  have hissue := hexec.trans (issued_fixed hg h7 hsrcs hdsts)
  rw [decode_comb hlet hill hcomb] at hissue
  have hnames : s.namesBound s.who i = false := by
    rw [State.namesBound, hsrcs, hdsts, regs_fixed h7]
    rfl
  refine ⟨fun hbad => ?_, fun hok hk7 _ hmx => ?_⟩
  · have hb : b = false := Bool.eq_false_iff.2 fun h => hbad (hfine.1 h)
    rw [hissue, hb]
    exact finish_fail ..
  · have hmx' : (wt t == 2 || sp t) = true := by rwa [Bool.or_eq_true, beq_iff_eq]
    have hbit : bitAt (dieCaps (dieOf s.who.core)) 4 = false := by
      rw [dieCaps, if_neg (show ¬ dieOf s.who.core < 6 by rw [dieOf]; omega)]
      rfl
    rw [hissue, hfine.2 hok, hmx', if_pos rfl, fate_absent hbit]
    change Host.Outcome.next (s.takeTrap s.who _ false 4 _ _ (_ || s.varies s.who i)) = _
    rw [hv, hvar, hnames, Bool.or_false, Bool.or_false]

/-- The decode of a CPY.B is met wherever its fields are. -/
theorem decode_cpyB (hlet : (s.th s.who).codelet = false) (hill : TileOp.illegal .cpyB (fun _ => true) t = false) :
    s.tileDecode s.who i .cpyB known t = .ok 0 := by
  have hill' : TileOp.illegal .cpyB known t = false := hill
  unfold State.tileDecode
  rw [hill', hlet, Bool.false_and, Bool.or_false, illegalIf, failIf_false, ok_bind]
  simp only [reduceCtorEq, if_false, ok_bind, Bool.not_true, failIf_false, Bool.false_eq_true, fate_base_mxu]

/-- A misaligned source, and one in window 63. -/
theorem cpyB_faults (hg : s.readP s.who t.guard = true) (h7 : t.w7 = 0) (hlet : (s.th s.who).codelet = false)
    (hill : TileOp.illegal .cpyB (fun _ => true) t = false) :
    (pair12 t % 32 ≠ 0 → exec (.cpyB t) s = trapped s (.cpyB t) 0x05 (BitVec.ofNat 64 (pair12 t))) ∧
    (pair12 t % 32 = 0 → t.w6.toNat % 32 = 0 → dmode t = 0 → pair34 t % 32 = 0 → pair34 t < 2 ^ 54 → pair12 t / 2 ^ 48 = 63 →
      exec (.cpyB t) s = trapped s (.cpyB t) 0x0B (BitVec.ofNat 64 (pair12 t))) := by
  have hissue : exec (.cpyB t) s = _ := issued_fixed (o := .cpyB) (i := .cpyB t) hg h7 rfl rfl
  rw [decode_cpyB hlet hill, ok_bind, show (TileOp.cpyB.engine == 0 && s.history s.who) = false from rfl, failIf_false, ok_bind] at hissue
  refine ⟨fun hal => ?_, fun hsrc hpitch h0 hdst hhigh hwin => ?_⟩
  · have hbad : (allKnown known [1, 2] && t.lo64 % 32 != 0) = true := by rw [allKnown_known, Bool.true_and, lo64_eq, bne_iff_ne]; exact hal
    have hfail : tileAligned .cpyB known t = fail 0x05 (BitVec.ofNat 64 (pair12 t)) := then_stop (fails hbad)
    rw [hissue, hfail]
    exact finish_fail ..
  · have hp : failIf (known 6 && t.spitch % 32 != 0) 0x05 (toWord t.spitch) = .ok () := failIf_of_not (by simp [pitch_aligned hpitch])
    have hal : tileAligned .cpyB known t = .ok () := then_ok (aligned_ok hsrc) (then_ok hp (dst_aligned (o := .cpyB) (fun _ => hdst) _))
    have hbuf : s.tileBuffers s.who .cpyB known t 0 = .ok () := need_ok (by rw [dmode_eq, h0]; rfl)
    have hloc : (allKnown known [1, 2] && inLocal t.lo64) = true := by
      rw [allKnown_known, Bool.true_and, LatIssue.inLocal_iff, lo64_eq]
      omega
    have hkind : tileAddresses .cpyB known t = fail 0x0B (BitVec.ofNat 64 (pair12 t)) :=
      then_next (high_ok (show pair12 t < 2 ^ 54 by omega)) (then_next (reach_ok (o := .cpyB) fun _ => hhigh) (fails hloc))
    rw [hissue, hal, ok_bind, laterChecks, hbuf, ok_bind, hkind, fail_bind, fail_bind]
    exact finish_fail ..

end Fixed

/-- Settles O35. -/
theorem tileCommands : Obligations.TileCommands := by
  unfold Obligations.TileCommands
  refine ⟨fun f hf s t => ?_, fun s t hg h7 hlet => ⟨fun p hp hill => ?_, fun hill _ => cpyB_faults hg h7 hlet hill⟩⟩
  · obtain ⟨hexec, htile⟩ := tileForm_claim (t := t) (s := s) f hf
    refine ⟨fun hg => hexec.trans (guarded hg), fun hg => ⟨fun hp => hexec.trans (issued_pairBad hg hp), fun vs s1 hp ho hr =>
      ⟨fun hill => hexec.trans (issued_illegal hg hp ho hr hill), fun r h => ?_⟩⟩⟩
    rw [hexec, issued_passes hg hp ho hr h]
    exact sent_claims rfl (who_readRegs hr) htile rfl
  · simp only [List.mem_cons, List.not_mem_nil, or_false] at hp
    rcases hp with rfl | rfl
    · exact mxu_faults (i := .mwld t) rfl hg h7 rfl rfl rfl rfl (.inl rfl) hlet hill
    · exact mxu_faults (i := .mact t) rfl hg h7 rfl rfl rfl rfl (.inr rfl) hlet hill

end Sys2Proof.Tiles

/-! # Events: statements that the model does not meet -/

namespace Sys2Proof.Events
open Sys2Proof Sys2Proof.Machine Sys2Proof.Claims

/-! ## GRANT events of earlier reservations (R372) -/

/-- The state at reset, but that the system slot of core 0 runs with its event entry enabled, that core's queue holds a GRANT event for slot 0 that an
earlier reservation left, and the ERET of an event before it is still to settle a grant. -/
def oldGrant : State :=
  { State.reset with
    cores := [(0, { Core.reset with
      slots := (Core.reset.slots.set 0 { Slot.reset with oldGrants := 1 }).set 15 { Slot.reset with st := .run },
      events := [.wake 0x05 0], eie := true, granting := some 0 })] }

/-- The entry of that event settles no grant: the model names none, and not the one named before. -/
theorem granting_oldGrant : ((oldGrant.eventEntry 0).core 0).granting = none := rfl

/-- A task that has exited, which the clause does not look at. -/
def anyTask : Task :=
  { id := ⟨0, 0⟩, place := .exited, spawned := false, imode := .fifo, prio := 0, owner := 0, seq := 0, episode := .replicate 6 0,
    pending := .replicate 6 false, area := none, grant := none, inbox := [], notices := [], hold := [], epochs := [], lastKey := none, refused := [],
    posted := [], deferred := [], parked := false, lvt := 0, vtwin := 0, parkWhy := .recv, ready := false, preds := [], mcheck := none,
    capDie := none, migrAt := none }

/-- Refutes O36: the clause on a GRANT event of an earlier reservation says that the grant named before stays. -/
theorem not_threadEvents : ¬ Obligations.ThreadEvents := by
  unfold Obligations.ThreadEvents
  intro h
  obtain ⟨-, -, -, -, -, -, -, -, -, -, hentry⟩ := h oldGrant ⟨0, 0⟩ ⟨0, 0, ⟨0, 0⟩, false, 0, false, 0, none⟩ 0 anyTask
  obtain ⟨t, ht, -, -, -, -, -, hgrant, -⟩ := hentry (.wake 0x05 0) [] rfl rfl rfl rfl
  obtain ⟨-, hold⟩ := hgrant 0 rfl
  obtain ⟨hstays, -⟩ := hold (by decide)
  have hfires : fires (.systemEventEntry 0) oldGrant = .next (oldGrant.eventEntry 0) := rfl
  cases hfires.symm.trans ht
  exact absurd (granting_oldGrant.symm.trans hstays) (by decide)

end Sys2Proof.Events

/-! # Wakes at parked reads, rings of host messages, and the waits that stop a launch -/

namespace Sys2Proof.Wakes
open Sys2Proof Sys2Proof.Machine Sys2Proof.Claims
open Sys2Proof.Bits (length_bytesOf natOf_bytesOf bytesOf_natOf)

variable {s : State} {w : Who} {q : Wake} {t : Task} {i : Instr} {m : HostMsg} {l : Launch}

/-! ## Wakes (R101) -/

/-- What a wake counts and what its die samples, as it arrives. -/
def arrived (s : State) (q : Wake) : State :=
  (s.countRecv q.task.launch q.colour 1).sample 0x01 (dieOf q.core) q.core (some q.task.launch) (s.gtime - q.at_)

theorem at_arrived (s : State) (q : Wake) (w : Who) : (arrived s q).at w = s.at w := rfl

theorem task?_arrived (s : State) (q : Wake) (id : TaskId) : (arrived s q).task? id = s.task? id := rfl

/-- A wake meets the parked thread of its task, where that waits on the wake's cell. -/
theorem giveWake_parked (ht : s.task? q.task = some t) (hp : t.place = .on w.core w.slot) (hst : (s.at w).st = .park)
    (hpark : ∃ wk c, (s.at w).park = .cell wk q.asid q.va c) : s.giveWake q = s.wakeThread w q := by
  obtain ⟨wk, c, hc⟩ := hpark
  unfold State.giveWake
  simp only [ht, hp, hst, hc, and_self, if_true]

theorem binding_unbound {th : Thread} (h : ∀ x ∈ th.bind.toList, x.bound = false) (d : Fin 32) : th.binding d = none := by
  unfold Thread.binding
  split
  · exact if_neg (by rw [h _ (by simp)]; decide)
  · rfl

theorem any_bound {th : Thread} (h : ∀ x ∈ th.bind.toList, x.bound = false) : th.bind.toList.any Binding.bound = false :=
  List.any_eq_false.mpr fun x hx => by rw [h x hx]; decide

/-- A wake at an instruction that writes one register: it completes with that value. -/
theorem wakeThread_put {d : Fin 32} {v : Word} (hb : ∀ x ∈ (s.th w).bind.toList, x.bound = false) (hout : (s.at w).out = some i)
    (hput : s.wakeResult w i q = s.putG w d v) : s.wakeThread w q = ((s.writeG w d v).unpark w).retire w i := by
  have hres : s.wakeResult w i q = .ok (s.writeG w d v) := by
    rw [hput, State.putG, s.chkDst_unbound w d (binding_unbound hb d)]
    rfl
  unfold State.wakeThread
  simp only [hout, any_bound hb, hres, Bool.false_eq_true, if_false]

/-- Eight bytes as LXRD delivers them. -/
theorem lxrdValue_of_length {bs : List Byte} (h : bs.length = 8) : lxrdValue bs = BitVec.ofNat 64 (natOf bs) := by
  rw [lxrdValue, if_neg (by omega), ← h, List.take_length]
  rfl

/-! ## The ring of host messages (R349) -/

/-- The bytes of a number of two parts. -/
theorem bytesOf_add (n a b : Nat) : ∀ k, a < 256 ^ k → bytesOf (k + n) (a + b * 256 ^ k) = bytesOf k a ++ bytesOf n b := by
  intro k
  induction k generalizing a with
  | zero =>
    intro ha
    obtain rfl : a = 0 := by omega
    simp [bytesOf]
  | succ k ih =>
    intro ha
    have hsplit : a + b * 256 ^ (k + 1) = a + 256 * (b * 256 ^ k) := by ring
    have hhigh : a / 256 < 256 ^ k := Nat.div_lt_of_lt_mul (by rw [pow_succ'] at ha; exact ha)
    rw [Nat.succ_add, bytesOf, bytesOf, hsplit, Nat.add_mul_mod_self_left, Nat.add_mul_div_left _ _ (by decide), ih _ hhigh]
    rfl

/-- The record as four words and the payload. -/
theorem hostRecord_eq (m : HostMsg) (phase : Bool) (hvt : m.vt < 2 ^ 64) :
    hostRecord m phase = bytesOf 8 m.vt ++ bytesOf 8 m.tag.toNat ++ bytesOf 8 m.swid.toNat ++
      bytesOf 8 (m.launch % 4096 + (if phase then 2 ^ 15 else 0)) ++ m.payload.take 32 := by
  have hlaunch : m.launch % 4096 < 4096 := Nat.mod_lt _ (by decide)
  have htag := m.tag.isLt
  have hsplit : m.vt % 2 ^ 64 + m.tag.toNat * 2 ^ 64 + m.swid.toNat * 2 ^ 128 + m.launch % 4096 * 2 ^ 192 + b2n phase * 2 ^ 207 =
      m.vt + (m.tag.toNat + (m.swid.toNat + (m.launch % 4096 + (if phase then 2 ^ 15 else 0)) * 256 ^ 8) * 256 ^ 8) * 256 ^ 8 := by
    rw [Nat.mod_eq_of_lt hvt]
    cases phase <;> simp only [b2n, Bool.false_eq_true, if_true, if_false] <;> ring
  rw [hostRecord, hsplit, bytesOf_add 24 m.vt _ 8 (by omega), bytesOf_add 16 m.tag.toNat _ 8 htag, bytesOf_add 8 m.swid.toNat _ 8 m.swid.isLt]
  simp only [List.append_assoc]

/-- Whether an earlier message waits for a ring. -/
theorem waits_iff (s : State) (ring : Nat) : (s.hostMsgs.any fun x => (s.launch? x.launch).any fun y => hHring y.h == ring) = true ↔
    ∃ x ∈ s.hostMsgs, ∃ y, s.launch? x.launch = some y ∧ hHring y.h = ring := by
  simp only [List.any_eq_true, Option.any_eq_true, beq_iff_eq]

theorem fires_hostMessage (s : State) (m : HostMsg) : fires (.hostMessageWrite m) s = .next (s.hostWrite m) := rfl

/-- No ring: the launch stops. -/
theorem hostWrite_noRing (hl : s.launch? m.launch = some l) (hs : s.stopped m.launch = false)
    (h : hHring l.h = 0xFFF ∨ (s.wqPage (hHring l.h)).hmsize = 0 ∨ (s.wqPage (hHring l.h)).ctl.getLsbD 0 = false) :
    s.hostWrite m = (s.countRecv m.launch m.colour 1).report m.launch (cpReport 0x01) := by
  unfold State.hostWrite
  simp only [hl, hs, Bool.false_eq_true, if_false]
  refine if_pos ?_
  rcases h with h | h | h
  · exact .inl h
  · exact .inr (.inl (by rw [h]; rfl))
  · exact .inr (.inr (by rw [h]; rfl))

/-- A ring with room and nothing waiting takes the record. -/
theorem hostWrite_room (hl : s.launch? m.launch = some l) (hs : s.stopped m.launch = false) (hring : hHring l.h ≠ 0xFFF)
    (hen : (s.wqPage (hHring l.h)).ctl.getLsbD 0 = true) (hn : 0 < (s.wqPage (hHring l.h)).hmsize.toNat)
    (hroom : span32 (s.wqPage (hHring l.h)).hmtail (s.wqPage (hHring l.h)).hmhead < (s.wqPage (hHring l.h)).hmsize.toNat)
    (hw : (s.hostMsgs.any fun x => (s.launch? x.launch).any fun y => hHring y.h == hHring l.h) = false) :
    s.hostWrite m = (((s.countRecv m.launch m.colour 1).pwrite
      ((s.wqPage (hHring l.h)).hmbase.toNat + 64 * ((s.wqPage (hHring l.h)).hmtail.toNat % (s.wqPage (hHring l.h)).hmsize.toNat))
      (hostRecord m (phaseOf (s.wqPage (hHring l.h)).hmtail.toNat (s.wqPage (hHring l.h)).hmsize.toNat))).updWq (hHring l.h) fun p =>
        { p with hmtail := inc32 p.hmtail }) := by
  unfold State.hostWrite
  simp only [hl, hs, Bool.false_eq_true, if_false, hw, Bool.not_false, and_true]
  refine (if_neg ?_).trans (if_pos hroom)
  rw [hen]
  simp only [hring, Bool.not_true, Bool.false_eq_true, or_false, false_or]
  omega

/-- A full ring, or an earlier message for it, makes a message wait. -/
theorem hostWrite_waits (hl : s.launch? m.launch = some l) (hs : s.stopped m.launch = false) (hring : hHring l.h ≠ 0xFFF)
    (hen : (s.wqPage (hHring l.h)).ctl.getLsbD 0 = true) (hn : 0 < (s.wqPage (hHring l.h)).hmsize.toNat)
    (hw : (s.wqPage (hHring l.h)).hmsize.toNat ≤ span32 (s.wqPage (hHring l.h)).hmtail (s.wqPage (hHring l.h)).hmhead ∨
      (s.hostMsgs.any fun x => (s.launch? x.launch).any fun y => hHring y.h == hHring l.h) = true) :
    s.hostWrite m = { s with hostMsgs := s.hostMsgs ++ [m] } := by
  unfold State.hostWrite
  simp only [hl, hs, Bool.false_eq_true, if_false]
  refine (if_neg ?_).trans (if_neg ?_)
  · rw [hen]
    simp only [hring, Bool.not_true, Bool.false_eq_true, or_false, false_or]
    omega
  · rintro ⟨hroom, hnone⟩
    rcases hw with hfull | hany
    · omega
    · rw [hany] at hnone
      exact absurd hnone (by decide)

/-! ## Waits of 2^24 cycles (R359, R360) -/

/-- The first message of an ingress that has waited too long, for a launch that is not stopped. -/
theorem inboxTimeout_first {c : Nat} {x : Msg} {at_ : Nat} {early rest : List (Msg × Nat)} (h : (s.core c).ingress = early ++ (x, at_) :: rest)
    (hearly : ∀ y ∈ early, s.gtime < y.2 + 2 ^ 24 ∨ s.stopped y.1.launch = true) (hlate : at_ + 2 ^ 24 ≤ s.gtime) (hs : s.stopped x.launch = false) :
    s.inboxTimeout c = s.report x.launch (cpReport 0x03) := by
  have hnone : early.find? (fun y => decide (y.2 + longWait ≤ s.gtime) && !s.stopped y.1.launch) = none := by
    rw [List.find?_eq_none]
    intro y hy
    rcases hearly y hy with h | h
    · rw [longWait, decide_eq_false (by omega), Bool.false_and]
      decide
    · simp only [h, Bool.not_true, Bool.and_false, Bool.false_eq_true, not_false_eq_true]
  have hfound : (s.core c).ingress.find? (fun y => decide (y.2 + longWait ≤ s.gtime) && !s.stopped y.1.launch) = some (x, at_) := by
    rw [h, List.find?_append, hnone, Option.none_or]
    refine List.find?_cons_of_pos ?_
    simp only [longWait, hs, Bool.not_false, Bool.and_true]
    exact decide_eq_true hlate
  unfold State.inboxTimeout
  rw [hfound]

/-- Reports one after another are the events of all of them. -/
theorem foldl_report (r : Report) : ∀ (xs : List Slot) (s : State), xs.foldl (fun (s : State) x => s.report x.task.launch r) s =
    s.post (xs.map fun x => .launchStop x.task.launch .fault (some r))
  | [], s => by rw [List.foldl_nil, List.map_nil, State.post, List.append_nil]
  | x :: xs, s => by
    rw [List.foldl_cons, foldl_report r xs, State.report, List.map_cons]
    simp only [State.post, List.append_assoc, List.singleton_append]

theorem spillTimeout_eq (s : State) (c : Nat) : s.spillTimeout c = s.post (((s.core c).slots.toList.filter fun x =>
    decide (x.st = .busy ∧ x.busy = .spill ∧ x.waitAt + 2 ^ 24 ≤ s.gtime ∧ x.launched = true ∧ s.stopped x.task.launch = false)).map fun x =>
      .launchStop x.task.launch .fault (some (cpReport 0x04))) := by
  have hlate : (fun x : Slot => x.spillLate s.gtime && x.launched && !s.stopped x.task.launch) = fun x =>
      decide (x.st = .busy ∧ x.busy = .spill ∧ x.waitAt + 2 ^ 24 ≤ s.gtime ∧ x.launched = true ∧ s.stopped x.task.launch = false) := by
    funext x
    rw [Bool.eq_iff_iff]
    simp only [Slot.spillLate, Bool.and_eq_true, beq_iff_eq, decide_eq_true_eq, Bool.not_eq_true', and_assoc]
    rfl
  rw [State.spillTimeout, foldl_report, hlate]

/-- Settles O39: each handler through what it does with the thread, the ring or the waiter that it finds. -/
theorem wakesAndRings : Obligations.WakesAndRings := by
  unfold Obligations.WakesAndRings
  intro s w q t d a b n kind m l
  refine ⟨?_, ?_, ?_, ?_⟩
  · intro ht hp hst hpark hb
    have hfires : fires (.wakeDelivery q) s = .next ((arrived s q).wakeThread w q) := congrArg Host.Outcome.next (giveWake_parked (s := arrived s q) ht hp hst hpark)
    refine ⟨fun hout => ?_, fun hout h5 hlen => ?_⟩
    · exact hfires.trans (congrArg _ (wakeThread_put (s := arrived s q) hb hout rfl))
    · refine hfires.trans (congrArg _ (wakeThread_put (s := arrived s q) hb hout ?_))
      change State.putG _ _ _ (if q.status = 5 then 0 else lxrdValue q.data) = _
      rw [if_neg h5, lxrdValue_of_length hlen]
  · intro hl hs
    refine ⟨fun h => congrArg _ (hostWrite_noRing hl hs h), fun hring hen hn hvt => ⟨fun hroom hw => ?_, fun hw => ?_⟩⟩
    · have hnone : (s.hostMsgs.any fun x => (s.launch? x.launch).any fun y => hHring y.h == hHring l.h) = false :=
        Bool.eq_false_iff.mpr fun h => let ⟨x, hx, y, hy, heq⟩ := (waits_iff s _).mp h; hw x hx y hy heq
      refine congrArg _ ((hostWrite_room hl hs hring hen hn hroom hnone).trans ?_)
      rw [hostRecord_eq m _ hvt]
      simp only [phaseOf, beq_iff_eq]
      rfl
    · exact congrArg _ (hostWrite_waits hl hs hring hen hn (hw.imp_right (waits_iff s _).mpr))
  · intro x at_ early rest h hearly hlate hs
    exact congrArg _ (inboxTimeout_first h hearly hlate hs)
  · exact congrArg _ (spillTimeout_eq s w.core)

end Sys2Proof.Wakes

/-! # The schedulers: placement of units, filling of slots, stealing -/

namespace Sys2Proof.Sched
open Sys2Proof Sys2Proof.Machine Sys2Proof.Claims
open Sys2Proof.Frame (Logged logged_logError)

variable {s : State} {w : Who} {c d : Nat} {l : Launch} {e f : QEntry} {sl : Fin 16} {rest : List (Fin 16)}

/-! ## Placement of a unit (R319) -/

/-- Entries pushed one after another stand at the tail of their die's queue. -/
theorem foldl_pushReady (g : QEntry → QEntry) (hd : d < 8) : ∀ (es : List QEntry) (s : State), es.foldl (fun s e => s.pushReady d (g e)) s =
    { s with ready := s.ready.setIfInBounds d (s.ready.toList.getD d [] ++ es.map g) }
  | [], s => by
    have hget : s.ready.toList.getD d [] = s.ready[d] := by rw [List.getD_eq_getElem _ _ (by simpa using hd)]; rfl
    have hsame : s.ready.setIfInBounds d s.ready[d] = s.ready := Vector.ext fun i hi => by
      rw [Vector.getElem_setIfInBounds hi]
      split
      · next h => subst h; rfl
      · rfl
    rw [List.map_nil, List.append_nil, hget, hsame]
    rfl
  | e :: es, s => by
    rw [List.foldl_cons, foldl_pushReady g hd es]
    have hget : (s.pushReady d (g e)).ready.toList.getD d [] = s.ready.toList.getD d [] ++ [g e] := by
      simp [State.pushReady, hd]
    rw [hget]
    simp [State.pushReady]

theorem bindingLevel_none {h : Nat} (hn : nlev (hWidths h) ≤ 6) (hp : ∀ lvl, lvl < 6 → hLplc h lvl = 0) : bindingLevel h = none := by
  refine List.find?_eq_none.mpr fun x hx => ?_
  have hx6 : x < 6 := (List.mem_range.mp hx).trans_le hn
  rw [hp x hx6]
  decide

/-- A unit without a binding level enters its die's queue. -/
theorem placeUnit_unbound {u : DealtUnit} (hl : s.launch? u.launch = some l) (hs : s.stopped u.launch = false) (hd : d < 8)
    (hn : nlev (hWidths l.h) ≤ 6) (hp : ∀ lvl, lvl < 6 → hLplc l.h lvl = 0) : s.placeUnit d u =
    { s with ready := s.ready.setIfInBounds d (s.ready.toList.getD d [] ++ u.entries.map fun e => { e with bound := u.place != 0, cluster := none }) } := by
  have hplace : s.placeUnit d u = s.placeGroup d l.h none ((bindingLevel l.h).getD 6) (u.entries.map fun e => { e with bound := u.place != 0 }) 7 := by
    unfold State.placeUnit
    simp only [hl, hs, Bool.false_eq_true, if_false]
  rw [hplace, bindingLevel_none hn hp]
  refine (if_pos hn).trans ((foldl_pushReady (fun e => { e with cluster := none }) hd _ s).trans ?_)
  rw [List.map_map]
  rfl

/-! ## Filling a slot (R320) -/

theorem fillSlot_own (hfree : (s.core c).freeSlots = sl :: rest) (hown : s.ownEntry c = some e)
    (hdie : ∀ f, s.offer c = some f → e.prio ≤ f.prio) :
    s.fillSlot c = (s.updCore c fun k => { k with runq := giveOut (s.eligible c) e k.runq }).dispatchEntry ⟨c, sl⟩ e := by
  unfold State.fillSlot
  simp only [hfree, hown]
  cases ho : s.offer c with
  | none => rfl
  | some f => exact if_pos (hdie f ho)

theorem fillSlot_die (hfree : (s.core c).freeSlots = sl :: rest) (hoffer : s.offer c = some f)
    (hown : ∀ e, s.ownEntry c = some e → f.prio < e.prio) :
    s.fillSlot c = { s with ready := s.ready.setIfInBounds (dieOf c) (giveOut (s.eligible c) f (s.ready.toList.getD (dieOf c) [])) }.dispatchEntry
      ⟨c, sl⟩ { f with passes := 0 } := by
  unfold State.fillSlot
  simp only [hfree, hoffer]
  cases he : s.ownEntry c with
  | none => rfl
  | some e => exact if_neg (Nat.not_le.mpr (hown e he))

/-! ## A new task enters a slot (R26) -/

theorem logged_logWalk (s : State) (x : Stop) : Logged s (s.logWalk x) := by
  unfold State.logWalk
  split
  · exact logged_logError ..
  · exact logged_logError ..
  · exact .refl s

theorem logged_foldl {α : Type} (g : State → α → State) (hg : ∀ t x, Logged t (g t x)) : ∀ (xs : List α) (s : State), Logged s (xs.foldl g s)
  | [], s => .refl s
  | x :: xs, s => (hg s x).trans (logged_foldl g hg xs (g s x))

theorem logged_logRecords (s : State) (asid owner : Nat) (fmt : Vector Word 4) : Logged s (s.logRecords asid owner fmt) := by
  refine logged_foldl _ (fun t p => ?_) _ s
  split
  · exact .refl t
  · split
    · exact .refl t
    · exact logged_logWalk ..

theorem launch?_updLaunch {n : Nat} {g : Launch → Launch} (hl : s.launch? n = some l)
    (hg : ∀ x : Launch, (g x).num = x.num ∧ (g x).st = x.st) : (s.updLaunch n g).launch? n = some (g l) := by
  refine (Tasks.find?_updFirst (fun x hx => ?_) s.launches).trans (congrArg (Option.map g) hl)
  rw [(hg x).1, (hg x).2]
  exact hx

/-- A launch without layouts changes no table. -/
theorem loadLayout_none {n : Nat} (hl : s.launch? n = some l) (h0 : hLayout l.h = 0) : s.loadLayout c n = s := by
  unfold State.loadLayout
  simp only [hl]
  exact if_pos (by rw [h0]; rfl)

/-- Where no messages are held for a work identifier, its placement releases none. -/
theorem at_releasePlaced {t : TaskId} (hl : s.launch? t.launch = some l) (h0 : l.unplaced = []) : (s.releasePlaced t).at w = s.at w := by
  unfold State.releasePlaced
  simp only [hl, h0]
  rfl

theorem grantNeed_none {arg lvt : Word} {mode : IMode} {sp : Bool} (hwork : e.work = .task arg mode lvt sp) (hl : s.launch? e.task.launch = some l)
    (h0 : hLmreq l.h = 0) : s.grantNeed e = none := by
  unfold State.grantNeed
  simp only [hwork, hl]
  exact if_pos h0

/-- What a slot holds of a new task. -/
structure Entered (x : Slot) (l : Launch) (e : QEntry) (area : Option Nat) (arg lvt : Word) (mode : IMode) : Prop where
  st : x.st = .run
  task : x.task = e.task
  area_ : x.area = area
  asid : x.asid = l.asid
  th : x.th = entryThread l 0 0 e.task.wid (BitVec.ofNat 64 (hEntry l.h)) arg lvt mode false

/-- A thread that starts: its slot is written, and neither a launch nor a task beside it. -/
theorem entered_startThread {arg lvt : Word} {mode : IMode} {area : Option Nat} {q : QEntry} (hl : s.launch? l.num = some l) (hlay : hLayout l.h = 0)
    (hq : q.task = e.task) : let t := s.startThread w l q area 0 0 (BitVec.ofNat 64 (hEntry l.h)) arg lvt mode false
      Entered (t.at w) l e area arg lvt mode ∧ t.launches = s.launches ∧ t.tasks = s.tasks := by
  have hlog := logged_logRecords s l.asid (ownerTag l.h q.task.wid.toNat) l.fmt
  have hsame : (s.logRecords l.asid (ownerTag l.h q.task.wid.toNat) l.fmt).launches = s.launches ∧
      (s.logRecords l.asid (ownerTag l.h q.task.wid.toNat) l.fmt).tasks = s.tasks := by
    obtain ⟨_, _, _, _, _, _, _, _, _, h⟩ := hlog
    rw [h]
    exact ⟨rfl, rfl⟩
  unfold State.startThread
  rw [loadLayout_none hl hlay]
  refine ⟨?_, hsame⟩
  rw [State.at_upd_same]
  exact ⟨rfl, hq, rfl, rfl, hq ▸ rfl⟩

/-- A task that starts leaves its slot so, where nothing waits for it. -/
theorem entered_enterSlot {arg lvt : Word} {mode : IMode} {sp : Bool} {area : Option Nat} (hwork : e.work = .task arg mode lvt sp)
    (hl : s.launch? e.task.launch = some l) (hnum : l.num = e.task.launch) (hlay : hLayout l.h = 0) (hun : l.unplaced = [])
    (hdef : ∀ t, s.task? e.task = some t → t.deferred = []) : Entered ((s.enterSlot w e area 0 0).at w) l e area arg lvt mode := by
  have hnone : ((s.task? e.task).map Task.deferred).getD [] = [] := by
    cases ht : s.task? e.task with
    | none => rfl
    | some t => exact hdef t ht
  unfold State.enterSlot
  simp only [hl, hwork]
  generalize hq : ({ e with work := .task arg mode lvt sp, prio := ((s.task? e.task).map Task.prio).getD e.prio } : QEntry) = q
  obtain ⟨hentered, hlaunches, htasks⟩ := entered_startThread (w := w) (arg := arg) (lvt := lvt) (mode := mode) (area := area) (e := e)
    (q := q) (hnum ▸ hl) hlay (by rw [← hq])
  generalize s.startThread w l q area 0 0 (BitVec.ofNat 64 (hEntry l.h)) arg lvt mode false = t at hentered hlaunches htasks
  have hlaunch : t.launch? e.task.launch = some l := by rw [State.launch?, hlaunches]; exact hl
  have hds : ((t.task? e.task).map Task.deferred).getD [] = [] := by rw [State.task?, htasks]; exact hnone
  rw [hds, State.applyDeferred, List.foldl_nil]
  exact (at_releasePlaced (s := t.updTask e.task _) hlaunch hun) ▸ hentered

/-- A new task of a launch that needs no grant starts in the slot that takes its entry. -/
theorem entered_dispatchEntry {arg lvt : Word} {mode : IMode} {sp : Bool} {n : Nat} (hwork : e.work = .task arg mode lvt sp)
    (hl : s.launch? e.task.launch = some l) (hnum : l.num = e.task.launch) (hreq : hLmreq l.h = 0) (hlay : hLayout l.h = 0) (hun : l.unplaced = [])
    (harea : l.freeArea = some n) (hdef : ∀ t, s.task? e.task = some t → t.deferred = []) :
    Entered ((s.dispatchEntry w e).at w) l e (some n) arg lvt mode := by
  have hl' : (s.updLaunch e.task.launch fun l => { l with areas := l.areas ++ [n] }).launch? e.task.launch = some { l with areas := l.areas ++ [n] } :=
    launch?_updLaunch hl fun _ => ⟨rfl, rfl⟩
  unfold State.dispatchEntry
  simp only [hwork, if_true, hl, Option.bind_some, harea]
  rw [grantNeed_none hwork hl' hreq]
  obtain ⟨hst, htask, harea', hasid, hth⟩ := entered_enterSlot (w := w) (area := some n) hwork hl' hnum hlay hun hdef
  exact ⟨hst, htask, harea', hasid, hth⟩

/-- Registers of R26 of a launch without local memory. -/
theorem g_entryThread (hreq : hLmreq l.h = 0) (gb gl : Nat) (wid pc arg lvt : Word) (mode : IMode) (cd : Bool) :
    (entryThread l gb gl wid pc arg lvt mode cd).g = (Vector.replicate 32 0 |>.set 3 wid).set 4 arg := by
  have hzero : Thread.zero.g.set 2 (0 : Word) (by decide) = Vector.replicate 32 0 := by decide
  change ((Thread.zero.g.set 2 (if hLmreq l.h = 0 then 0 else _)).set 3 wid).set 4 arg = _
  rw [if_pos hreq, hzero]

/-- What R26 gives a new task of a launch without local memory. -/
theorem Entered.registers {x : Slot} {area : Option Nat} {arg lvt : Word} {mode : IMode} (h : Entered x l e area arg lvt mode) (hreq : hLmreq l.h = 0) :
    x.th.pc = BitVec.ofNat 64 (hEntry l.h) ∧ x.th.lvt = lvt ∧ x.th.imode = mode ∧ x.th.codelet = false ∧ x.th.fmt = l.fmt ∧ x.th.fsc = l.fsc ∧
      x.th.vtwin = BitVec.ofNat 64 (hVtwin l.h) ∧ x.th.seed = BitVec.ofNat 64 (hSeed l.h) ∧ x.th.g[3] = e.task.wid ∧ x.th.g[4] = arg ∧
      (∀ r : Fin 32, r ≠ 3 → r ≠ 4 → x.th.g[r] = 0) ∧ x.th.p = 0 := by
  rw [h.th]
  refine ⟨rfl, rfl, rfl, rfl, rfl, rfl, rfl, rfl, ?_, ?_, fun r h3 h4 => ?_, rfl⟩
  · simp [g_entryThread hreq]
  · simp [g_entryThread hreq]
  · have h3' : (3 : Nat) ≠ r.val := fun h => h3 (Fin.ext h.symm)
    have h4' : (4 : Nat) ≠ r.val := fun h => h4 (Fin.ext h.symm)
    simp [g_entryThread hreq, h3', h4']

/-! ## Stealing (R323) -/

theorem stealAsk_first {v : Nat} (hst : s.stealing.toList.getD d false = false) (hidle : s.idleDie d = true)
    (hv : (victims d).find? (s.mayAsk d) = some v) : s.stealAsk d =
    ({ s with steals := s.steals.put (8 * d + v) s.gtime, stealing := s.stealing.setIfInBounds d true } : State).post [.stealAnswer v d] := by
  unfold State.stealAsk State.askNext
  simp only [hst, hidle, hv, Bool.not_true, Bool.or_false, Bool.false_eq_true, if_false]

theorem stealGive_some {v : Nat} (he : bestOf (s.stealable d) (s.ready.toList.getD v []) = some e) (hdv : d ≠ v) (hd : d < 8) : s.stealGive v d =
    { s with
      ready := (s.ready.setIfInBounds v (giveOut (s.stealable d) e (s.ready.toList.getD v []))).setIfInBounds d (s.ready.toList.getD d [] ++ [{ e with passes := 0 }]),
      stealing := s.stealing.setIfInBounds d false } := by
  have hother : ∀ q, (s.ready.setIfInBounds v q).toList.getD d [] = s.ready.toList.getD d [] := by
    intro q
    simp [hd, Ne.symm hdv]
  unfold State.stealGive
  simp only [he, State.pushReady, hother]

theorem stealGive_none {v : Nat} (he : bestOf (s.stealable d) (s.ready.toList.getD v []) = none)
    (hlast : ((victims d).dropWhile (fun x => x != v)).drop 1 = []) : s.stealGive v d = { s with stealing := s.stealing.setIfInBounds d false } := by
  unfold State.stealGive State.askNext
  simp only [he, hlast, List.find?_nil]

/-! ## The entry that a queue gives out (R321) -/

/-- The least of a list is in it, and is least. -/
theorem argMin_least {α : Type} {f : α → Nat} : ∀ {l : List α} {x : α}, argMin f l = some x → x ∈ l ∧ ∀ y ∈ l, f x ≤ f y
  | a :: l, x, h => by
    unfold argMin at h
    cases hm : argMin f l with
    | none =>
      have hnil : l = [] := by
        cases l with
        | nil => rfl
        | cons b l =>
          unfold argMin at hm
          split at hm
          · cases hm
          · split at hm <;> cases hm
      rw [hm] at h
      obtain rfl : a = x := by simpa using h
      simp [hnil]
    | some y =>
      obtain ⟨hy, hle⟩ := argMin_least hm
      rw [hm] at h
      simp only at h
      split at h
      · next hay =>
        obtain rfl : a = x := by simpa using h
        refine ⟨List.mem_cons_self, fun z hz => ?_⟩
        rcases List.mem_cons.mp hz with rfl | hz
        · exact Nat.le_refl _
        · exact hay.trans (hle z hz)
      · next hay =>
        obtain rfl : y = x := by simpa using h
        refine ⟨List.mem_cons_of_mem _ hy, fun z hz => ?_⟩
        rcases List.mem_cons.mp hz with rfl | hz
        · omega
        · exact hle z hz

theorem bestOf_least {ok : QEntry → Bool} {q : List QEntry} (h : bestOf ok q = some e) :
    e ∈ q ∧ ok e = true ∧ ∀ x ∈ q, ok x = true → e.prio ≤ x.prio := by
  obtain ⟨hmem, hle⟩ := argMin_least h
  obtain ⟨hq, hok⟩ := List.mem_filter.mp hmem
  exact ⟨hq, hok, fun x hx hx' => hle x (List.mem_filter.mpr ⟨hx, hx'⟩)⟩

/-- Settles O41: each scheduler's event by the rule of its queue. -/
theorem schedulerEvents : Obligations.SchedulerEvents := by
  unfold Obligations.SchedulerEvents
  intro s c d l u e sl rest
  refine ⟨?_, ?_, rfl, ?_, ?_, ?_⟩
  · intro hl hs hd hn hp
    exact congrArg _ (placeUnit_unbound hl hs hd hn hp)
  · intro hfree
    refine ⟨?_, ?_, ?_⟩
    · intro e hown hdie
      exact congrArg _ (fillSlot_own hfree hown hdie)
    · intro f hoffer hown
      exact congrArg _ (fillSlot_die hfree hoffer hown)
    · intro arg lvt mode sp n hown hoffer hwork hl hreq hlay harea hun hnum hdef
      have hfill := fillSlot_own hfree hown fun f hf => absurd (hoffer.symm.trans hf) nofun
      refine ⟨_, congrArg Host.Outcome.next hfill, ?_⟩
      have hent := entered_dispatchEntry (s := s.updCore c fun k => { k with runq := giveOut (s.eligible c) e k.runq }) (w := ⟨c, sl⟩)
        hwork hl hnum hreq hlay hun harea hdef
      exact ⟨hent.st, hent.task, hent.area_, hent.asid, hent.registers hreq⟩
  · intro v hst hidle hv
    exact congrArg _ (stealAsk_first hst hidle hv)
  · intro v q
    refine ⟨fun e he hdv hd => congrArg _ (stealGive_some he hdv hd), fun he hlast => congrArg _ (stealGive_none he hlast)⟩
  · intro e q h
    exact bestOf_least h

end Sys2Proof.Sched

/-! # Threads that leave their slots: migration, saves, write-back, eviction -/

namespace Sys2Proof.Moves
open Sys2Proof Sys2Proof.Machine Sys2Proof.Claims
open Sys2Proof.Frame (Logged logged_logError)

variable {s : State} {w : Who} {t : Task} {c n : Nat} {l : Launch} {e : CtxEntry} {sl : Fin 16}

/-! ## A task's entry takes over what its slot held (R101) -/

/-- What the directory entry of a task takes from a slot with nothing deferred. -/
def stowed (x : Slot) (pl : Place) (t : Task) : Task :=
  { t with place := pl, parked := x.fromPark, lvt := x.th.lvt, vtwin := x.th.vtwin, parkWhy := x.park, ready := false,
           preds := x.th.bindRec, refused := t.refused ++ x.refused, posted := t.posted ++ x.posted,
           deferred := t.deferred ++ [] ++ (if x.dstop then [.stop] else []), mcheck := x.mcheck, capDie := x.capDie, migrAt := x.migrAt }

theorem stow_eq {pl : Place} (hcode : (s.at w).th.codelet = false) (hdef : (s.at w).deferred = []) :
    s.stow w pl = (s.updTask (s.at w).task (stowed (s.at w) pl)).upd w Slot.emptied := by
  unfold State.stow
  simp only [hdef, List.any_nil, List.filter_nil, hcode, Bool.false_eq_true, if_false]
  rfl

theorem vacated_upd_emptied (s : State) (w : Who) : vacated (s.upd w Slot.emptied) w := by
  unfold vacated
  rw [State.at_upd_same]
  exact ⟨rfl, rfl⟩

/-- Two states whose slots are alike. -/
theorem vacated_of_at {u : State} (h : u.at w = s.at w) (hv : vacated s w) : vacated u w := by
  unfold vacated
  rw [h]
  exact hv

/-! ## The Derailleur (R112, R113) -/

/-- The one candidate core of a MIGR. -/
theorem intakeCore_single (s : State) (c launch : Nat) : s.intakeCore [c] launch = if s.takesThread launch c && (s.core c).entryOpen then some c else none := by
  unfold State.intakeCore
  cases htakes : s.takesThread launch c with
  | false => simp [htakes, argMax]
  | true => cases hopen : (s.core c).entryOpen <;> simp [htakes, hopen, argMax]

/-- What the Derailleur does with a thread whose MIGR names a core. -/
theorem derail_named (hst : (s.at w).st = .trap) (hm : (s.at w).migrTo = some c) (hc : c < 1536) (hd : s.drained w true = true)
    (hl : s.launch? (s.at w).task.launch = some l) : s.derail w =
    match s.intakeCore [c] (s.at w).task.launch with
    | some c => s.sendImage w c
    | none => if (s.core w.core).blocked then s
      else match (s.at w).area with
        | some n => (s.upd w fun x => { x with capDie := none }).beginSave w 2 (BitVec.ofNat 64 (l.areaVa n)) 0
        | none => s := by
  have hdies : s.targetDies w = [dieOf c] := by
    unfold State.targetDies
    simp only [hl, hm]
    rw [if_neg (by omega), if_neg (by omega)]
  have hderails : (s.at w).derails = true := by
    unfold Slot.derails
    rw [hst, hm]
    rfl
  unfold State.derail
  rw [if_neg (by rw [hderails, hd]; decide), hdies]
  simp only [hm, hl, if_pos (show c < 2048 by omega), if_neg (show ¬ 4096 ≤ c by omega)]
  cases hi : s.intakeCore [c] (s.at w).task.launch with
  | some c => simp only [List.filterMap_cons, List.head?_cons]
  | none => simp only [List.filterMap_cons, List.filterMap_nil, List.head?_nil]; cases (s.at w).area <;> rfl

/-- A layout loaded changes no task, no event in transit, no slot and no intake. -/
theorem loadLayout_keeps (s : State) (c launch : Nat) : (s.loadLayout c launch).tasks = s.tasks ∧ (s.loadLayout c launch).agenda = s.agenda ∧
    ∀ c', ((s.loadLayout c launch).core c').slots = (s.core c').slots ∧ ((s.loadLayout c launch).core c').intake = (s.core c').intake := by
  unfold State.loadLayout
  split
  · exact ⟨rfl, rfl, fun _ => ⟨rfl, rfl⟩⟩
  · split
    · exact ⟨rfl, rfl, fun _ => ⟨rfl, rfl⟩⟩
    · split
      · refine ⟨rfl, rfl, fun c' => ?_⟩
        rw [State.core_updCore]
        split
        · next h => subst h; exact ⟨rfl, rfl⟩
        · exact ⟨rfl, rfl⟩
      · obtain ⟨_, _, _, _, _, _, _, _, _, h⟩ := Sched.logged_logWalk s ‹_›
        rw [h]
        exact ⟨rfl, rfl, fun _ => ⟨rfl, rfl⟩⟩

/-- A change of a core that leaves its slots leaves every thread. -/
theorem at_updCore_slots (s : State) (c : Nat) (g : Core → Core) (hg : ∀ k, (g k).slots = k.slots) (w : Who) : (s.updCore c g).at w = s.at w :=
  Frame.slot_updCore s c w.core g w.slot (hg _)

/-- What a migration leaves at the core it leaves and at the one it goes to. -/
structure Moved (s : State) (w : Who) (t : Task) (c : Nat) (sl : Fin 16) (u : State) : Prop where
  vacated_ : vacated u w
  task : ∃ t', u.task? t.id = some t' ∧ t'.place = .migrating
  reserved : (u.slot c sl).st = .reserved ∧ (u.slot c sl).task = t.id
  intake : ∃ e : CtxEntry, (u.core c).intake = (s.core c).intake ++ [e] ∧ e.task = t.id ∧ e.slot = sl ∧ e.incomplete = true ∧
    e.img = sentImage s w 2 true ∧ e.checks = flitChecks e.img ∧ e.colour = s.colour
  agenda : u.agenda = s.agenda ++ [.migrationIntake c sl]

/-- The last steps of a migration: the source slot is empty, the target's is reserved, and the image is on its way. -/
theorem moved_arrives {u : State} {t' : Task} {f : Slot → Slot} (hf : ∀ x, (f x).st = .reserved ∧ (f x).task = t.id) {launch : Nat} (hw : c ≠ w.core)
    (hv : vacated u w) (ht : u.task? t.id = some t') (hp : t'.place = .migrating) (hin : (u.core c).intake = (s.core c).intake)
    (hag : u.agenda = s.agenda) (htask : e.task = t.id) (hslot : e.slot = sl) (hinc : e.incomplete = true) (himg : e.img = sentImage s w 2 true)
    (hchk : e.checks = flitChecks e.img) (hcol : e.colour = s.colour) :
    Moved s w t c sl ((((u.loadLayout c launch).updSlot c sl f).updCore c fun k => { k with intake := k.intake ++ [e] }).post [.migrationIntake c sl]) := by
  obtain ⟨htasks, hagenda, hcores⟩ := loadLayout_keeps u c launch
  have hother : w ≠ ⟨c, sl⟩ := fun h => hw (congrArg Who.core h).symm
  refine ⟨?_, ⟨t', ?_, hp⟩, ?_, ⟨e, ?_, htask, hslot, hinc, himg, hchk, hcol⟩, ?_⟩
  · refine vacated_of_at ((at_updCore_slots _ c (fun k => { k with intake := k.intake ++ [e] }) (fun _ => rfl) w).trans ?_) hv
    refine ((State.at_upd (u.loadLayout c launch) ⟨c, sl⟩ w _).trans (if_neg hother)).trans ?_
    exact Frame.slot_of_slots (hcores w.core).1 w.slot
  · rw [← ht]
    exact congrArg (List.find? _) htasks
  · have hat := (at_updCore_slots ((u.loadLayout c launch).updSlot c sl f) c (fun k => { k with intake := k.intake ++ [e] }) (fun _ => rfl)
      ⟨c, sl⟩).trans (State.at_upd_same (u.loadLayout c launch) ⟨c, sl⟩ f)
    change ((State.at _ ⟨c, sl⟩).st = _) ∧ (State.at _ ⟨c, sl⟩).task = _
    rw [Frame.at_post, hat]
    exact hf _
  · rw [Frame.core_post, State.core_updCore_same]
    change ((State.upd (u.loadLayout c launch) ⟨c, sl⟩ _).core c).intake ++ [e] = _
    rw [State.core_upd (u.loadLayout c launch) ⟨c, sl⟩]
    change ((u.loadLayout c launch).core c).intake ++ [e] = _
    rw [(hcores c).2, hin]
  · change (u.loadLayout c launch).agenda ++ [_] = _
    rw [hagenda, hag]

/-- What arrives with a thread holds no hardware entry of the core it left. -/
def offChip (t : Task) : Task :=
  { t with inbox := t.inbox.map fun q => { q with region := none }, notices := t.notices.map fun q => { q with region := none } }

/-- An image sent to a reserved slot of another core. -/
theorem moved_moveImage (hplain : plainTask s w t) (hm : (s.at w).migrTo = some c) (hc : c < 4096) (hw : c ≠ w.core) :
    Moved s w t c sl (s.moveImage w c sl) := by
  obtain ⟨hlaunched, hcode, hdef, htask, ht, hhold, htdef, hplace⟩ := hplain
  have hisTask : (s.at w).isTask = true := by
    unfold Slot.isTask
    rw [hlaunched, show (s.at w).th.codelet = false from hcode]
    rfl
  unfold State.moveImage
  extract_lets x n s0 e0 e1 s1 s2 away s3 s4
  have hat0 : s0.at w = { s.at w with capDie := none } := by
    refine (State.at_upd_same s w _).trans ?_
    simp only [hm, if_neg (show ¬ 4096 ≤ c by omega)]
  have hat1 : s1.at w = { s.at w with capDie := none } := hat0
  have hs2 : s2 = (s1.updTask t.id (stowed (s1.at w) .migrating)).upd w Slot.emptied := by
    refine (stow_eq (s := s1) (w := w) (by rw [hat1]; exact hcode) (by rw [hat1]; exact hdef)).trans ?_
    rw [hat1, ← htask]
  have hx : x.isTask = true ∧ x.task = t.id := ⟨hisTask, htask⟩
  have hs3 : s3 = s2.updTask t.id offChip := by
    refine (if_pos hx.1).trans ?_
    rw [hx.2]
    rfl
  have ht1 : s1.task? t.id = some t := ht
  have ht3 : ∃ t', s3.task? t.id = some t' ∧ t'.place = .migrating := by
    have ht2 : s2.task? t.id = some (stowed (s1.at w) .migrating t) := by
      rw [hs2]
      exact (Tasks.task?_updTask (s := s1) (f := stowed (s1.at w) .migrating) fun _ => rfl).trans (congrArg _ ht1)
    refine ⟨offChip (stowed (s1.at w) .migrating t), ?_, rfl⟩
    rw [hs3]
    exact (Tasks.task?_updTask (s := s2) (f := offChip) fun _ => rfl).trans (congrArg _ ht2)
  obtain ⟨t', ht', hp'⟩ := ht3
  have himg : e0.img = sentImage s w 2 true := by
    change s0.imageIn w 2 (2 = 2 && (match (s0.at w).migrTo with | some t => decide (t < 4096) | none => false)) = _
    unfold State.imageIn
    rw [hat0]
    simp only [hm, decide_eq_true hc]
    rfl
  have hcol : e1.colour = s.colour := by
    change (s0.sweep % 2 == 1) = (s.sweep % 2 == 1)
    rw [show s0.sweep = s.sweep from State.upd_sweep ..]
  have htask1 : e1.task = t.id := by
    change (s0.at w).task = t.id
    rw [hat0]
    exact htask
  have hv : vacated s3 w := by
    rw [hs3, hs2]
    exact vacated_upd_emptied ..
  have hin : (s3.core c).intake = (s.core c).intake := by
    rw [hs3, hs2]
    change ((State.upd _ w _).core c).intake = _
    rw [State.core_upd_other _ w c _ hw]
    change (s0.core c).intake = _
    rw [State.core_upd_other s w c _ hw]
  have hag : s3.agenda = s.agenda := by
    have h1 : s1.agenda = s.agenda := (show s1.agenda = s0.agenda from rfl).trans (State.upd_agenda ..)
    rw [hs3, State.updTask_agenda, hs2, State.upd_agenda, State.updTask_agenda, h1]

  have hfinal := moved_arrives (s := s) (w := w) (t := t) (t' := t') (u := s3) (launch := x.task.launch) (e := e1)
    (f := fun y => { y.emptied with st := .reserved, launched := true, task := x.task, consulted := x.consulted })
    (fun y => ⟨rfl, htask⟩) hw hv ht' hp' hin hag htask1 rfl rfl himg rfl hcol
  exact hfinal

/-- A thread whose MIGR names a core that takes it goes there. -/
theorem derail_moves (hplain : plainTask s w t) (hst : (s.at w).st = .trap) (hm : (s.at w).migrTo = some c) (hc : c < 1536)
    (hd : s.drained w true = true) (hl : s.launch? t.id.launch = some l) (htakes : s.takesThread t.id.launch c = true) (hw : c ≠ w.core)
    (hroom : (s.core c).cacheUsed < 8) : ∃ sl, (s.core c).freeSlots.head? = some sl ∧ Moved s w t c sl (s.derail w) := by
  have htask : (s.at w).task = t.id := hplain.2.2.2.1
  obtain ⟨sl, rest, hfree⟩ : ∃ sl rest, (s.core c).freeSlots = sl :: rest := by
    cases hfree : (s.core c).freeSlots with
    | cons sl rest => exact ⟨sl, rest, rfl⟩
    | nil =>
      unfold State.takesThread at htakes
      rw [hfree] at htakes
      simp at htakes
  have hopen : (s.core c).entryOpen = true := by
    unfold Core.entryOpen
    rw [decide_eq_true hroom]
    rfl
  refine ⟨sl, by rw [hfree]; rfl, ?_⟩
  have hsend : s.derail w = s.moveImage w c sl := by
    rw [derail_named hst hm hc hd (htask ▸ hl), intakeCore_single, htask, htakes, hopen]
    simp only [Bool.and_self, if_true, State.sendImage]
    rw [if_neg (by omega), hfree]
    exact if_neg (by omega)
  rw [hsend]
  exact moved_moveImage hplain hm (by omega) hw

/-- A save begun for a thread in TRAP. -/
theorem beginSave_trap {why : Nat} {area desc : Word} (hst : (s.at w).st = .trap) : s.beginSave w why area desc =
    (s.upd w fun x => { x with saveAt := some (area, desc, why), fromPark := x.fromPark || x.st == .park, st := .save, epc := if x.st == .trap then x.epc else x.th.pc }).post
      ((if 8 ≤ (s.core w.core).cacheUsed then [.contextCacheWriteback w.core] else []) ++ [.saveCompletion w.core w.slot]) := by
  unfold State.beginSave State.unpark
  simp only [hst]
  rfl

/-- A thread that no core takes is saved to its area. -/
theorem derail_saves (hst : (s.at w).st = .trap) (hm : (s.at w).migrTo = some c) (hc : c < 1536)
    (hd : s.drained w true = true) (hl : s.launch? (s.at w).task.launch = some l)
    (hno : s.takesThread (s.at w).task.launch c = false ∨ (s.core c).entryOpen = false) (hb : (s.core w.core).blocked = false) (ha : (s.at w).area = some n) :
    s.derail w = ((s.upd w fun x => { x with capDie := none }).upd w fun x =>
      { x with saveAt := some (BitVec.ofNat 64 (l.areaVa n), 0, 2), fromPark := x.fromPark || x.st == .park, st := .save, epc := if x.st == .trap then x.epc else x.th.pc }).post
        ((if 8 ≤ (s.core w.core).cacheUsed then [.contextCacheWriteback w.core] else []) ++ [.saveCompletion w.core w.slot]) := by
  have hnone : (s.takesThread (s.at w).task.launch c && (s.core c).entryOpen) = false := by
    rcases hno with h | h
    · rw [h]; rfl
    · rw [h, Bool.and_false]
  rw [derail_named hst hm hc hd hl, intakeCore_single, hnone]
  simp only [Bool.false_eq_true, if_false, hb, ha]
  rw [beginSave_trap (by rw [State.at_upd_same]; exact hst)]
  have hused : ((s.upd w fun x => { x with capDie := none }).core w.core).cacheUsed = (s.core w.core).cacheUsed := by
    rw [State.core_upd]
    rfl
  rw [hused]

/-! ## Intake (R112) -/

/-- What the arrival of an image's last flit leaves at a core that lives. -/
def cameIn (r : State) (w : Who) : State :=
  (r.updCore w.core fun k => { k with intake := k.intake.map fun x => if x.slot = w.slot then { x with incomplete := false } else x }).postWake
    w.core 0x03 w.slot.val

theorem intakeArrives_good (he : (s.core w.core).intake.find? (fun e => e.slot == w.slot) = some e) (hdead : (s.core w.core).dead = false)
    (hchk : e.checks = flitChecks e.img) : s.intakeArrives w.core w.slot = cameIn (s.countRecv e.task.launch e.colour 1) w := by
  unfold State.intakeArrives
  simp only [he]
  rw [if_pos hchk]
  exact if_neg (by rw [show ((s.countRecv e.task.launch e.colour 1).core w.core).dead = false from hdead]; simp)

theorem intakeArrives_bad (he : (s.core w.core).intake.find? (fun e => e.slot == w.slot) = some e) (hdead : (s.core w.core).dead = false)
    (hchk : e.checks ≠ flitChecks e.img) : s.intakeArrives w.core w.slot =
    cameIn (((s.countRecv e.task.launch e.colour 1).logError 0x01 0x01 w.core w.slot.val 0 0 e.task.launch 0).report e.task.launch (checkReport 1 0)) w := by
  unfold State.intakeArrives
  simp only [he]
  rw [if_neg hchk]
  refine if_neg ?_
  have hlog := logged_logError (s.countRecv e.task.launch e.colour 1) 0x01 0x01 w.core w.slot.val 0 0 e.task.launch 0
  have hcore := (hlog.core w.core).trans (show (s.countRecv e.task.launch e.colour 1).core w.core = s.core w.core from rfl)
  rw [show (((s.countRecv e.task.launch e.colour 1).logError 0x01 0x01 w.core w.slot.val 0 0 e.task.launch 0).report e.task.launch (checkReport 1 0)).core
    w.core = s.core w.core from hcore, hdead]
  simp

/-! ## The end of a save (R102, R103) -/

/-- A task that is not parked and for which nothing is held is swapped out, and no more. -/
theorem swappedOut_quiet {id : TaskId} (hs : s.stopped id.launch = false) (ht : s.task? id = some t) (hhold : t.hold = [])
    (hplace : t.place = .out c) (hparked : t.parked = false) : s.swappedOut id = s := by
  have hready : s.makeReady t = s := by
    unfold State.makeReady
    simp only [hplace, hparked, Bool.not_false, if_true]
  unfold State.swappedOut
  rw [hs, Tasks.release_quiet fun x hx => by rw [Option.some.inj (hx.symm.trans ht)]; exact hhold]
  simp only [Bool.false_eq_true, if_false, ht, hready, ite_self]

theorem at_enqueue (s : State) (c : Nat) (q : QEntry) (w : Who) : (s.enqueue c q).at w = s.at w :=
  at_updCore_slots s c (fun k => { k with runq := k.runq ++ [q] }) (fun _ => rfl) w

/-- A task saved to the context cache stands in its core's run queue. -/
structure Cached (s : State) (w : Who) (t : Task) (u : State) : Prop where
  vacated_ : vacated u w
  task : ∃ t', u.task? t.id = some t' ∧ t'.place = .out w.core ∧ t'.parked = false
  cache : ∃ e : CtxEntry, (u.core w.core).cache = (s.core w.core).cache ++ [e] ∧ e.task = t.id ∧ e.img = sentImage s w 0 false
  runq : (u.core w.core).runq = (s.core w.core).runq ++ [⟨t.id, .saved, t.prio, 0, 0, 0, 0, true, none, false⟩]

theorem cached_cacheSaved (hplain : plainTask s w t) (hs : s.stopped t.id.launch = false) (hpark : (s.at w).fromPark = false) :
    Cached s w t (s.cacheSaved w) := by
  obtain ⟨hlaunched, hcode, hdef, htask, ht, hhold, htdef, hplace⟩ := hplain
  unfold State.cacheSaved
  extract_lets x e s1 s2 s3
  have hat1 : s1.at w = s.at w := at_updCore_slots s w.core (fun k => { k with cache := k.cache ++ [e] }) (fun _ => rfl) w
  have hs2 : s2 = (s1.updTask t.id (stowed (s.at w) (.out w.core))).upd w Slot.emptied := by
    refine (stow_eq (s := s1) (w := w) (by rw [hat1]; exact hcode) (by rw [hat1]; exact hdef)).trans ?_
    rw [hat1, htask]
  have hlet : e.let_ = none := if_neg (by rw [show (s.at w).th.codelet = false from hcode]; decide)
  have ht2 : s2.task? t.id = some (stowed (s.at w) (.out w.core) t) := by
    rw [hs2]
    exact (Tasks.task?_updTask (s := s1) (f := stowed (s.at w) (.out w.core)) fun _ => rfl).trans (congrArg _ ht)
  have hstop2 : s2.stopped t.id.launch = false := by rw [hs2]; exact hs
  have hs3 : s3 = s2 := by
    change s2.swappedOut (s.at w).task = s2
    rw [htask]
    exact swappedOut_quiet hstop2 ht2 hhold rfl hpark
  have ht3 : s3.task? x.task = some (stowed (s.at w) (.out w.core) t) := by
    rw [hs3, show x.task = t.id from htask]
    exact ht2
  have hqueue : (!(stowed (s.at w) (.out w.core) t).parked && (stowed (s.at w) (.out w.core) t).place == .out w.core && !x.fromPark) = true := by
    change (!(s.at w).fromPark && (Place.out w.core == .out w.core) && !(s.at w).fromPark) = true
    rw [hpark, beq_self_eq_true]
    rfl
  have hcache : (s2.core w.core).cache = (s.core w.core).cache ++ [e] := by
    rw [hs2, State.core_upd]
    change (s1.core w.core).cache = _
    rw [show s1.core w.core = _ from State.core_updCore_same ..]
  have hrunq : (s2.core w.core).runq = (s.core w.core).runq := by
    rw [hs2, State.core_upd]
    change (s1.core w.core).runq = _
    rw [show s1.core w.core = _ from State.core_updCore_same ..]
  have hv : vacated s2 w := by
    rw [hs2]
    exact vacated_upd_emptied ..
  have himg : e.task = t.id ∧ e.img = sentImage s w 0 false := ⟨htask, rfl⟩
  clear_value e s2 s3
  rw [hlet]
  simp only [ht3]
  rw [if_pos hqueue, hs3]
  refine ⟨vacated_of_at (at_enqueue s2 w.core _ w) hv, ⟨_, ht2, rfl, hpark⟩, ⟨e, ?_, himg⟩, ?_⟩
  · rw [State.enqueue, State.core_updCore_same]
    exact hcache
  · rw [State.enqueue, State.core_updCore_same]
    change (s2.core w.core).runq ++ [_] = _
    rw [hrunq]
    rfl

theorem saveDone_room {area desc : Word} (hst : (s.at w).st = .save) (hat : (s.at w).saveAt = some (area, desc, 0))
    (hretry : ((s.core w.core).cache.any fun e => e.slot == w.slot && e.incomplete && e.dest.isSome) = false) (hroom : (s.core w.core).cacheUsed < 8) :
    s.saveDone w = s.cacheSaved w := by
  unfold State.saveDone
  simp only [hst, hat, hretry, Bool.false_eq_true, if_false, if_true]
  exact if_neg (by omega)

theorem saveDone_full {area desc : Word} (hst : (s.at w).st = .save) (hat : (s.at w).saveAt = some (area, desc, 0))
    (hretry : ((s.core w.core).cache.any fun e => e.slot == w.slot && e.incomplete && e.dest.isSome) = false) (hfull : 8 ≤ (s.core w.core).cacheUsed)
    (hv : (s.core w.core).victim.isSome = true) : s.saveDone w = s.post [.contextCacheWriteback w.core, .saveCompletion w.core w.slot] := by
  unfold State.saveDone
  simp only [hst, hat, hretry, Bool.false_eq_true, if_false, hv, if_true]
  exact if_pos hfull

/-! ## Write-back (R103) and eviction (R324) -/

theorem writeBack_done {va asid : Nat} {u : State} (hv : (s.core c).victim = some e) (hhome : s.homeArea e = some (va, asid))
    (hsave : s.saveBytes c asid va (e.img ++ e.tail) = (u, none)) : s.writeBack c = u.updCore c fun k => { k with cache := k.cache.erase e } := by
  unfold State.writeBack
  simp only [hv, hhome, hsave]

theorem writeBack_failed {va asid a : Nat} {u : State} (hv : (s.core c).victim = some e) (hhome : s.homeArea e = some (va, asid))
    (hsave : s.saveBytes c asid va (e.img ++ e.tail) = (u, some a)) : s.writeBack c =
    (u.updCore c (markIncomplete e)).logError 0x10 0x04 c e.slot.val 0 0 e.task.launch (BitVec.ofNat 64 a) := by
  unfold State.writeBack
  simp only [hv, hhome, hsave]
  rfl

theorem argMinSlot_mem {k : Core} {y : Fin 16} : ∀ {xs : List (Fin 16)}, Core.longestParked.argMinSlot k xs = some y → y ∈ xs
  | a :: xs, h => by
    unfold Core.longestParked.argMinSlot at h
    cases hm : Core.longestParked.argMinSlot k xs with
    | none =>
      rw [hm] at h
      obtain rfl : a = y := Option.some.inj h
      exact List.mem_cons_self
    | some z =>
      rw [hm] at h
      by_cases hle : k.slots[a].parkAt ≤ k.slots[z].parkAt
      · obtain rfl : a = y := Option.some.inj ((if_pos hle).symm.trans h)
        exact List.mem_cons_self
      · obtain rfl : z = y := Option.some.inj ((if_neg hle).symm.trans h)
        exact List.mem_cons_of_mem _ (argMinSlot_mem hm)

/-- The slot that a search for the thread parked longest finds is one of them, none has parked longer, and it is the first of those that parked with it. -/
theorem argMinSlot_eq {k : Core} {sl : Fin 16} : ∀ {xs : List (Fin 16)}, xs.Pairwise (· < ·) → sl ∈ xs →
    (∀ x ∈ xs, k.slots[sl].parkAt ≤ k.slots[x].parkAt ∧ (k.slots[x].parkAt = k.slots[sl].parkAt → sl ≤ x)) →
    Core.longestParked.argMinSlot k xs = some sl
  | [], _, hmem, _ => absurd hmem (by simp)
  | a :: xs, hsorted, hmem, hleast => by
    obtain ⟨ha, hxs⟩ := List.pairwise_cons.mp hsorted
    unfold Core.longestParked.argMinSlot
    rcases List.mem_cons.mp hmem with rfl | hin
    · cases hm : Core.longestParked.argMinSlot k xs with
      | none => rfl
      | some y => exact if_pos (hleast y (List.mem_cons_of_mem _ (argMinSlot_mem hm))).1
    · rw [argMinSlot_eq hxs hin fun x hx => hleast x (List.mem_cons_of_mem _ hx)]
      obtain ⟨hle, htie⟩ := hleast a List.mem_cons_self
      exact if_neg fun h => absurd (htie (Nat.le_antisymm h hle)) (Fin.not_le.mpr (ha sl hin))

/-- Whether a slot's thread may be evicted, as the claim says it. -/
theorem evictable_iff (x : Slot) : x.evictable = true ↔ x.st = .park ∧ x.launched = true ∧ x.th.codelet = false ∧ 64 ≤ x.parkTurns ∧
    (match x.park with | .cell .. | .recv | .recvN => True | _ => False) := by
  unfold Slot.evictable
  cases x.park <;> simp [and_assoc]

theorem longestParked_of {k : Core} (h : parkedLongest k sl) : k.longestParked = some sl := by
  have hmay (x : Fin 16) : x ∈ (List.finRange 16).filter (fun sl => decide (sl.val < 14) && (k.slots[sl]).evictable) ↔
      x.val < 14 ∧ k.slots[x].st = .park ∧ k.slots[x].launched = true ∧ k.slots[x].th.codelet = false ∧ 64 ≤ k.slots[x].parkTurns ∧
        (match k.slots[x].park with | .cell .. | .recv | .recvN => True | _ => False) := by
    simp only [List.mem_filter, List.mem_finRange, true_and, Bool.and_eq_true, decide_eq_true_eq, evictable_iff]
  obtain ⟨hsl, hleast⟩ := h
  exact argMinSlot_eq ((List.pairwise_lt_finRange 16).filter _) ((hmay sl).mpr hsl) fun x hx => hleast x ((hmay x).mp hx)

/-- An eviction of the thread parked longest, where a ready entry waits for a slot. -/
theorem evict_longest (hfree : (s.core c).freeSlots = []) (hown : (s.ownEntry c).isSome = true) (hp : parkedLongest (s.core c) sl)
    (hhold : (s.core c).evictHold ≤ s.gtime) : s.evict c =
    if (s.core c).blocked then s.updCore c fun k => { k with evictHold := s.gtime + 1024 } else s.beginSave ⟨c, sl⟩ 0 0 0 := by
  have hlong := longestParked_of hp
  have hdue : s.evictDue c = true := by
    unfold State.evictDue
    simp only [hhold, hfree, hown, hlong, decide_true, List.isEmpty_nil, Option.isSome_some, Bool.and_self]
  unfold State.evict
  rw [hdue]
  simp only [Bool.not_true, Bool.false_eq_true, if_false, hlong]

/-- Settles O40: each event through what it does with the slot, its task and the cache. -/
theorem contextEvents : Obligations.ContextEvents := by
  unfold Obligations.ContextEvents
  intro s w t c l n x k
  refine ⟨?_, ?_, ?_, ?_, ?_⟩
  · intro hst hm hc hd hplain hl moves
    have hmoves : moves = .next (s.derail w) := rfl
    have htask : (s.at w).task = t.id := hplain.2.2.2.1
    refine ⟨fun htakes hw hroom => ?_, fun hno hb ha => ?_⟩
    · obtain ⟨sl, hfree, hv, ⟨t', ht', hp'⟩, ⟨hres, hrtask⟩, ⟨e, hin, he⟩, hag⟩ := derail_moves hplain hst hm hc hd hl htakes hw hroom
      obtain ⟨hetask, hslot, hinc, himg, hchk, hcol⟩ := he
      exact ⟨_, t', sl, e, hmoves, hv, ht', hp', hfree, hres, hrtask, hin, hetask, hslot, hinc, himg, hchk, hcol, hag⟩
    · have hsaves := derail_saves hst hm hc hd (htask ▸ hl) (htask ▸ hno) hb ha
      refine ⟨_, hmoves, ?_⟩
      rw [hsaves]
      refine ⟨?_, ?_, ?_, ?_, fun v hv => ?_, rfl, rfl, rfl⟩
      · rw [Frame.at_post, State.at_upd_same]
      · rw [Frame.at_post, State.at_upd_same]
        rfl
      · rw [Frame.at_post, State.at_upd_same, State.at_upd_same]
        exact if_pos (by rw [hst]; rfl)
      · rw [Frame.at_post, State.at_upd_same, State.at_upd_same]
      · rw [Frame.at_post, State.at_upd, if_neg hv, State.at_upd, if_neg hv]
  · intro e he hdead came counted
    exact ⟨fun hchk => congrArg _ (intakeArrives_good he hdead hchk), fun hchk => congrArg _ (intakeArrives_bad he hdead hchk)⟩
  · intro hst hat hretry
    refine ⟨fun hroom hplain hs hpark => ?_, fun hfull hv => congrArg _ (saveDone_full hst hat hretry hfull hv)⟩
    obtain ⟨hv, ⟨t', ht', hp', hparked⟩, ⟨e, hcache, he, himg⟩, hrunq⟩ := cached_cacheSaved hplain hs hpark
    exact ⟨_, t', e, congrArg Host.Outcome.next (saveDone_room hst hat hretry hroom), hv, hcache, he, himg, ht', hp', hparked, hrunq⟩
  · intro e va asid s' hv hhome
    exact ⟨fun hsave => congrArg _ (writeBack_done hv hhome hsave), fun a hsave => congrArg _ (writeBack_failed hv hhome hsave)⟩
  · intro hfree hown hp hhold
    exact congrArg _ (evict_longest hfree hown hp hhold)

end Sys2Proof.Moves

/-! # DIGEST, its peers and its timeout -/

namespace Sys2Proof.Digest
open Sys2Proof Sys2Proof.Machine Sys2Proof.Claims

variable {s : State} {a0 a1 a2 : Nat} {bs : List Byte} {d x : Word} {as : List Arena} {w : DigestWait} {peer group step : Nat}

/-! ## Driver commands on their operands (R350) -/

/-- A driver command whose event comes acts on the operand registers. -/
theorem driverCommand_fires (e : Event) (f : State → Nat → Nat → Nat → State) (s : State) :
    driverCommand { s with agenda := e :: s.agenda } e f = .next (f s s.regs.dcarg0.toNat s.regs.dcarg1.toNat s.regs.dcarg2.toNat) := by
  unfold driverCommand takeEvent
  simp only [if_true]

theorem fires_digest (s : State) : fires .digest s = .next (s.digestCmd s.regs.dcarg0.toNat s.regs.dcarg1.toNat s.regs.dcarg2.toNat) :=
  driverCommand_fires .digest (fun s a b c => s.digestCmd a b c) s

/-! ## The command (R392) -/

/-- Whether DIGEST's operands are such as it takes. -/
def operandsOk (a0 a1 a2 : Nat) : Prop := a0 / 2 ^ 8 % 2 ^ 8 = 0 ∧ a0 < 2 ^ 48 ∧ a1 % 8 = 0 ∧ 0 < a2 ∧ a2 ≤ 4096

theorem digestCmd_bad (h : ¬ operandsOk a0 a1 a2) : s.digestCmd a0 a1 a2 = s.dcEnd 0x01 := by
  unfold State.digestCmd
  refine if_pos ?_
  unfold operandsOk at h
  change a0 / 2 ^ 8 % 2 ^ 8 ≠ 0 ∨ _
  omega

theorem digestCmd_read (h : operandsOk a0 a1 a2) (hread : s.checkedRead a1 (2 * a2) = .ok bs) : s.digestCmd a0 a1 a2 =
    if ((arenaNumbers bs).map fun n => s.arena? (a0 % 256) n).any Option.isNone then s.dcEnd 0x03
    else if (((arenaNumbers bs).map fun n => s.arena? (a0 % 256) n).filterMap id).any fun a => a.st != 2 then s.dcEnd 0x01
    else
      let v := s.digestValue (((arenaNumbers bs).map fun n => s.arena? (a0 % 256) n).filterMap id)
      let t : State := { v.2 with regs := { v.2.regs with dcres := v.1 }, fleet := { v.2.fleet with diglast := v.1 } }
      if t.repOn then t.digestBegin ⟨a0 % 256, bits a0 47 16, v.1, t.gtime, none, []⟩ else t.dcEnd 0x00 := by
  obtain ⟨hres, hlt, halign, hpos, hle⟩ := h
  unfold State.digestCmd
  rw [if_neg (by change ¬ (a0 / 2 ^ 8 % 2 ^ 8 ≠ 0 ∨ _); omega)]
  simp only [hread]

/-- A list of arenas that the table holds. -/
theorem found_all (h : (arenaNumbers bs).map (fun n => s.arena? (a0 % 256) n) = as.map some) :
    (((arenaNumbers bs).map fun n => s.arena? (a0 % 256) n).any Option.isNone) = false ∧
      ((arenaNumbers bs).map fun n => s.arena? (a0 % 256) n).filterMap id = as := by
  rw [h]
  exact ⟨by simp, by simp⟩

theorem digestValue_ok (h : s.digestOf 0 as = .ok d) : s.digestValue as = (d, s) := by
  unfold State.digestValue
  rw [h]

/-- A digest of arenas that are all frozen. -/
theorem digestCmd_frozen (h : operandsOk a0 a1 a2) (hread : s.checkedRead a1 (2 * a2) = .ok bs)
    (hfound : (arenaNumbers bs).map (fun n => s.arena? (a0 % 256) n) = as.map some) (hfrozen : ∀ a ∈ as, a.st = 2) (hd : s.digestOf 0 as = .ok d) :
    let got : State := { s with regs := { s.regs with dcres := d }, fleet := { s.fleet with diglast := d } }
    s.digestCmd a0 a1 a2 = if got.repOn then got.digestBegin ⟨a0 % 256, bits a0 47 16, d, s.gtime, none, []⟩ else got.dcEnd 0x00 := by
  obtain ⟨hany, hlist⟩ := found_all hfound
  rw [digestCmd_read h hread, hany, hlist, digestValue_ok hd]
  have hst : (as.any fun a => a.st != 2) = false := List.any_eq_false.mpr fun a ha => by rw [hfrozen a ha]; decide
  rw [hst]
  rfl

/-! ## Peers (R392, R393) -/

theorem repOn_iff (s : State) : s.repOn = decide (s.fleet.repgrp.toNat % 2 = 1) := by
  unfold State.repOn
  rw [BitVec.getLsbD, Nat.testBit_zero]

/-- With one peer named, that one. -/
theorem repPeers_one (h : s.fleet.repgrp.toNat / 2 % 4 = 1) : s.repPeers = [s.fleet.repgrp.toNat / 2 ^ 8 % 2 ^ 6] := by
  unfold State.repPeers
  have h1 : bits s.fleet.repgrp.toNat 2 1 = 1 := h
  simp only [h1]
  rfl

theorem repTimeout_eq (s : State) : s.repTimeout = s.fleet.repgrp.toNat / 2 ^ 32 * 1024 := by
  have hlt := s.fleet.repgrp.isLt
  change s.fleet.repgrp.toNat / 2 ^ 32 % 2 ^ 32 * 1024 = _
  rw [Nat.mod_eq_of_lt (by omega)]

/-- The port of a device below 64, with its state, where its route is VALID. -/
theorem portTo_eq {dest : Nat} (h : dest < 64) : s.portTo dest = if (s.fleet.wroute.toList.getD dest 0).getLsbD 3 = true then
    some ((s.fleet.wroute.toList.getD dest 0).toNat % 8, (s.link (32 + (s.fleet.wroute.toList.getD dest 0).toNat % 8)).up) else none := by
  unfold State.portTo
  rw [if_neg (Nat.ne_of_lt h)]
  simp only [Bits.bitAt_eq]
  rfl

/-- A digest sent to a device below 64: over its port, held while that is down, nowhere without a route. -/
theorem sendDigest_eq (m : Nat × Nat × Nat × Word) (hm : m.1 < 64) : s.sendDigest m =
    { s with
      sentDigests := s.sentDigests ++ (if (s.fleet.wroute.toList.getD m.1 0).getLsbD 3 = true ∧
        (s.link (32 + (s.fleet.wroute.toList.getD m.1 0).toNat % 8)).up = true then [m] else []),
      heldDigests := s.heldDigests ++ (if (s.fleet.wroute.toList.getD m.1 0).getLsbD 3 = true ∧
        (s.link (32 + (s.fleet.wroute.toList.getD m.1 0).toNat % 8)).up = false then [(m.1, m.2.1, m.2.2.1, m.2.2.2, s.gtime)] else []) } := by
  unfold State.sendDigest
  rw [portTo_eq hm]
  cases hr : (s.fleet.wroute.toList.getD m.1 0).getLsbD 3 with
  | false => simp
  | true => cases hu : (s.link (32 + (s.fleet.wroute.toList.getD m.1 0).toNat % 8)).up <;> simp

/-- A wait for one peer begins where none has been heard. -/
theorem digestBegin_one (h1 : s.fleet.repgrp.toNat / 2 % 4 = 1) (hp : s.peers = []) (hw : w.heard = []) : s.digestBegin w =
    { s.sendDigest (s.fleet.repgrp.toNat / 2 ^ 8 % 2 ^ 6, s.repGroup, w.step, w.digest) with digest := some w } := by
  have hlt : s.fleet.repgrp.toNat / 2 ^ 8 % 2 ^ 6 < 64 := Nat.mod_lt _ (by decide)
  unfold State.digestBegin
  rw [repPeers_one h1]
  simp only [List.foldl_cons, List.foldl_nil]
  have hsent := sendDigest_eq (s := s) (s.fleet.repgrp.toNat / 2 ^ 8 % 2 ^ 6, s.repGroup, w.step, w.digest) hlt
  generalize s.sendDigest (s.fleet.repgrp.toNat / 2 ^ 8 % 2 ^ 6, s.repGroup, w.step, w.digest) = t at hsent ⊢
  have hpeers : t.peers = [] := by rw [hsent]; exact hp
  have hrep : t.fleet = s.fleet := by rw [hsent]
  rw [hpeers]
  change ({ t with peers := [] } : State).digestNext w = _
  have hkept : ({ t with peers := [] } : State) = t := by rw [← hpeers]
  rw [hkept]
  unfold State.digestNext
  rw [repPeers_one (by rw [hrep]; exact h1), hw]
  have hnone (p : Nat) : ([p].all fun p => ([] : List Nat).contains p) = false := rfl
  rw [hnone, if_neg Bool.false_ne_true, hpeers]

/-! ## Refusals of the list (R392) -/

theorem dcEnd_eq (s : State) (n : Nat) : s.dcEnd n = withStatus s n := rfl

/-- A list with an arena that is not frozen. -/
theorem digestCmd_open (h : operandsOk a0 a1 a2) (hread : s.checkedRead a1 (2 * a2) = .ok bs)
    (hfound : (arenaNumbers bs).map (fun n => s.arena? (a0 % 256) n) = as.map some) (hopen : ∃ a ∈ as, a.st ≠ 2) :
    s.digestCmd a0 a1 a2 = withStatus s 1 := by
  obtain ⟨hany, hlist⟩ := found_all hfound
  obtain ⟨a, ha, hst⟩ := hopen
  rw [digestCmd_read h hread, hany, hlist, if_neg Bool.false_ne_true]
  exact if_pos (List.any_eq_true.mpr ⟨a, ha, (bne_iff_ne (a := a.st) (b := 2)).mpr hst⟩)

/-- A list that names an arena of no entry. -/
theorem digestCmd_unknown (h : operandsOk a0 a1 a2) (hread : s.checkedRead a1 (2 * a2) = .ok bs)
    (hnone : ∃ n ∈ arenaNumbers bs, s.arena? (a0 % 256) n = none) : s.digestCmd a0 a1 a2 = withStatus s 3 := by
  obtain ⟨n, hn, hnone⟩ := hnone
  rw [digestCmd_read h hread]
  exact if_pos (List.any_eq_true.mpr ⟨none, List.mem_map.mpr ⟨n, hn, hnone⟩, rfl⟩)

/-! ## A peer's message and the timeout (R392, R393) -/

theorem peerArrives_held (hd : s.digest = none) (hp : s.peers = []) : s.peerArrives peer group step x = { s with peers := [(peer, group, step, x)] } := by
  unfold State.peerArrives
  split
  next v hv =>
    rw [hd] at hv
    exact nomatch hv
  next =>
    unfold State.holdPeer
    rw [hp]
    simp only [List.find?_nil, List.nil_append]

/-- The only peer's digest of the step that DIGEST waits for ends the command. -/
theorem peerArrives_awaited (hd : s.digest = some w) (hheard : w.heard = []) (hdiff : w.differs = none) (h1 : s.fleet.repgrp.toNat / 2 % 4 = 1)
    (hpeer : peer = s.fleet.repgrp.toNat / 2 ^ 8 % 2 ^ 6) (hgroup : group = s.fleet.repgrp.toNat / 2 ^ 24 % 2 ^ 8) (hstep : step = w.step) :
    s.peerArrives peer group step x =
      if x = w.digest then withStatus { s with digest := none } 0 else withStatus ({ s with digest := none }.disagree w.asid x) 7 := by
  have hgrp : s.repGroup = group := hgroup.symm
  unfold State.peerArrives
  rw [hd]
  simp only [repPeers_one h1, hheard, hgrp, hstep, ← hpeer]
  rw [if_pos (by simp)]
  unfold State.digestNext
  rw [repPeers_one h1, ← hpeer, if_pos (by simp [DigestWait.hear])]
  unfold State.digestEnd
  simp only [DigestWait.hear, hdiff, Option.none_or]
  by_cases hx : x = w.digest
  · rw [if_pos hx, if_pos hx]
    rfl
  · rw [if_neg hx, if_neg hx]
    rfl

theorem digestLate_iff (hd : s.digest = some w) : s.digestLate = decide (s.fleet.repgrp.toNat / 2 ^ 32 * 1024 ≤ s.gtime - w.since) := by
  unfold State.digestLate
  rw [hd, ← repTimeout_eq]

/-- What the timeout does. -/
def timeoutActs (s : State) : State := match s.digest with | some w => if s.digestLate then s.digestEnd w true else s | none => s

theorem fires_digestTimeout (s : State) : fires .digestTimeout s = .next (timeoutActs s) := rfl

theorem timeoutActs_late (hd : s.digest = some w) (hlate : s.fleet.repgrp.toNat / 2 ^ 32 * 1024 ≤ s.gtime - w.since) (hdiff : w.differs = none) :
    timeoutActs s = withStatus { s with digest := none } 8 := by
  unfold timeoutActs
  rw [hd]
  simp only [digestLate_iff hd, decide_eq_true hlate, if_true]
  unfold State.digestEnd
  rw [hdiff]
  rfl

theorem timeoutActs_early (hd : s.digest = some w) (hearly : s.gtime - w.since < s.fleet.repgrp.toNat / 2 ^ 32 * 1024) : timeoutActs s = s := by
  unfold timeoutActs
  rw [hd]
  simp only [digestLate_iff hd, decide_eq_false (Nat.not_le.mpr hearly)]
  exact if_neg Bool.false_ne_true

/-- DIGEST with replication on and one peer, of which nothing is held. -/
theorem digestBegin_got (h1 : s.fleet.repgrp.toNat / 2 % 4 = 1) (hp : s.peers = []) :
    let got : State := { s with regs := { s.regs with dcres := d }, fleet := { s.fleet with diglast := d } }
    let dest := s.fleet.repgrp.toNat / 2 ^ 8 % 2 ^ 6
    let route := s.fleet.wroute.toList.getD dest 0
    let routed := route.getLsbD 3
    let up := (s.link (32 + route.toNat % 8)).up
    let told : Nat × Nat × Nat × Word := (dest, s.fleet.repgrp.toNat / 2 ^ 24 % 2 ^ 8, bits a0 47 16, d)
    got.digestBegin ⟨a0 % 256, bits a0 47 16, d, s.gtime, none, []⟩ =
      { got with digest := some ⟨a0 % 256, bits a0 47 16, d, s.gtime, none, []⟩,
                 sentDigests := s.sentDigests ++ (if routed = true ∧ up = true then [told] else []),
                 heldDigests := s.heldDigests ++ (if routed = true ∧ up = false
                   then [(dest, s.fleet.repgrp.toNat / 2 ^ 24 % 2 ^ 8, bits a0 47 16, d, s.gtime)] else []) } := by
  intro got dest route routed up told
  rw [digestBegin_one (s := got) h1 hp rfl, sendDigest_eq _ (Nat.mod_lt _ (by decide))]
  rfl

/-- Settles O48: the command by its operands and the list they name, then a peer's message and the timeout by the wait. -/
theorem digestEvents : Obligations.DigestEvents := by
  unfold Obligations.DigestEvents
  intro s bs d as w peer group step x a0 a1 a2 rep got late dest route routed up told
  refine ⟨fun hbad => ?_, fun hres hlt halign hpos hle hread hfound => ⟨fun hopen => ?_, fun hfrozen hd => ?_⟩,
    fun hres hlt halign hpos hle hread hnone => ?_, fun hd hp => ?_,
    fun hd hheard hdiff h1 hpeer hgroup hstep => ?_, fun hd hlate hdiff => ?_, fun hd hearly => ?_⟩
  · rw [fires_digest, digestCmd_bad (by unfold operandsOk; omega)]
    rfl
  · rw [fires_digest, digestCmd_open ⟨hres, hlt, halign, hpos, hle⟩ hread hfound hopen]
  · have hcmd := (fires_digest s).trans (congrArg Host.Outcome.next (digestCmd_frozen ⟨hres, hlt, halign, hpos, hle⟩ hread hfound hfrozen hd))
    have hon : got.repOn = decide (rep % 2 = 1) := repOn_iff got
    refine ⟨fun hoff => hcmd.trans (congrArg Host.Outcome.next ?_), fun honbit h1 hp => hcmd.trans (congrArg Host.Outcome.next ?_)⟩
    · refine (if_neg ?_).trans rfl
      rw [hon, decide_eq_true_eq]
      omega
    · refine (if_pos ?_).trans (digestBegin_got h1 hp)
      rw [hon, decide_eq_true_eq]
      exact honbit
  · rw [fires_digest, digestCmd_unknown ⟨hres, hlt, halign, hpos, hle⟩ hread hnone]
  · exact congrArg Host.Outcome.next (peerArrives_held hd hp)
  · have h := congrArg (Host.Outcome.next (φ := Fault) (ρ := Refusal)) (peerArrives_awaited (x := x) hd hheard hdiff h1 hpeer hgroup hstep)
    exact ⟨fun hx => h.trans (congrArg Host.Outcome.next (if_pos hx)), fun hx => h.trans (congrArg Host.Outcome.next (if_neg hx))⟩
  · rw [fires_digestTimeout, timeoutActs_late hd hlate hdiff]
  · rw [fires_digestTimeout, timeoutActs_early hd hearly]

end Sys2Proof.Digest

/-! # Host register accesses -/

namespace Sys2Proof.HostRegs
open Sys2Proof Sys2Proof.Machine Sys2Proof.Claims

variable {s : State} {v : Word} {p : WqPage} {q c off : Nat}

/-! ## A write reaches its register (R344, R364) -/

theorem ready_iff (s : State) : s.ready? = true ↔ isReady s := by
  unfold State.ready? isReady
  have hlow : bits s.regs.bootst.toNat 2 0 = s.regs.bootst.toNat % 8 := by
    unfold bits
    rw [Nat.pow_zero, Nat.div_one]
    rfl
  rw [Bool.and_eq_true, Bool.and_eq_true, beq_iff_eq, Bool.not_eq_true', and_assoc, hlow]

theorem regWrite_unready (h : ¬ isReady s) (bar : Nat) : s.regWrite bar off v = s := by
  unfold State.regWrite
  refine if_pos ?_
  rw [Bool.not_eq_true', ← Bool.not_eq_true, ready_iff]
  exact h

theorem regWrite_queue (h : isReady s) (hq : q < 4096) (hoff : off < 4096) : s.regWrite 0 (4096 * q + off) v = s.updWq q fun p => p.write off v := by
  unfold State.regWrite
  rw [(ready_iff s).mpr h, if_neg (by decide), if_pos rfl, if_pos (by omega)]
  have hdiv : (4096 * q + off) / 2 ^ 12 = q := by omega
  have hmod : (4096 * q + off) % 2 ^ 12 = off := by omega
  rw [hdiv, hmod]

theorem regWrite_package (h : isReady s) (hoff : off < 0x1000) : s.regWrite 2 off v = s.writePackage off v := by
  unfold State.regWrite
  rw [(ready_iff s).mpr h, if_neg (by decide), if_neg (by decide), if_neg (by decide), if_pos hoff]

theorem regWrite_core (h : isReady s) (hc : c < 1536) (hoff : off < 128) : s.regWrite 2 (0x100000 + off + 128 * c) v = s.writeCore c off v := by
  unfold State.regWrite
  rw [(ready_iff s).mpr h, if_neg (by decide), if_neg (by decide), if_neg (by decide), if_neg (by omega), if_neg (by omega), if_pos (by omega)]
  have hdiv : (0x100000 + off + 128 * c - 0x100000) / 128 = c := by omega
  have hmod : (0x100000 + off + 128 * c) % 128 = off := by omega
  rw [hdiv, hmod]

theorem regWrite_fleet (h : isReady s) (hoff : off < 0x2000) : s.regWrite 2 (0x310000 + off) v = s.writeFleet off v := by
  unfold State.regWrite
  rw [(ready_iff s).mpr h, if_neg (by decide), if_neg (by decide), if_neg (by decide), if_neg (by omega), if_neg (by omega), if_neg (by omega),
    if_pos (by omega), Nat.add_sub_cancel_left]

theorem regWrite_capture (h : isReady s) {die unit : Nat} (hd : die < 8) (hu : unit < 32) :
    s.regWrite 2 (0x300000 + 0x2000 * die + 0x100 * unit) v = s.updCapture die unit fun u => u.setCtl s.gtime v := by
  unfold State.regWrite
  rw [(ready_iff s).mpr h, if_neg (by decide), if_neg (by decide), if_neg (by decide), if_neg (by omega), if_neg (by omega), if_neg (by omega),
    if_neg (by omega), if_pos (by omega)]
  have hdie : (0x300000 + 0x2000 * die + 0x100 * unit - 0x300000) / 0x2000 = die := by omega
  have hunit : (0x300000 + 0x2000 * die + 0x100 * unit - 0x300000) % 0x2000 / 0x100 = unit := by omega
  have hoff : (0x300000 + 0x2000 * die + 0x100 * unit) % 0x100 = 0 := by omega
  rw [hdie, hunit, hoff]
  rfl

/-! ## Work-queue pages (R345, R346) -/

theorem asid_bits (n : Nat) : bits n 15 8 = n / 2 ^ 8 % 2 ^ 8 := rfl

theorem regWord_low (v : Word) (n : Nat) : regWord v n 0 = low v (n + 1) := by
  unfold regWord low bits
  rw [Nat.pow_zero, Nat.div_one, Nat.mul_one, Nat.sub_zero]

theorem toNat_low (v : Word) : (low v 32).toNat = v.toNat % 2 ^ 32 := by
  unfold low
  rw [BitVec.toNat_ofNat]
  omega

theorem updWq_eq (s : State) (q : Nat) (f : WqPage → WqPage) : s.updWq q f = { s with wq := s.wq.put q (f (s.wqPage q)) } := rfl

theorem fail_eq (p : WqPage) (e : Nat) : p.fail e = { p with err := if p.err = 0 then BitVec.ofNat 64 e else p.err } := by
  unfold WqPage.fail
  split <;> rfl

theorem fail_ctl (p : WqPage) (e : Nat) : (p.fail e).ctl = p.ctl := by
  rw [fail_eq]

theorem setTail_eq (p : WqPage) (v : Word) : p.setTail v =
    if p.ctl.getLsbD 0 = true ∧ p.size.toNat < (v.toNat + 2 ^ 32 - p.head.toNat % 2 ^ 32) % 2 ^ 32
    then { p with tail := low v 32, err := if p.err = 0 then 3 else p.err, ctl := BitVec.ofNat 64 (p.ctl.toNat / 2 ^ 8 % 2 ^ 8 * 2 ^ 8) }
    else { p with tail := low v 32 } := by
  have hlow : regWord v 31 0 = low v 32 := regWord_low v 31
  unfold WqPage.setTail
  simp only [hlow, fail_eq, asid_bits, WqPage.tailOver, span32, toNat_low, Bool.and_eq_true, decide_eq_true_eq]
  have hspan : (v.toNat % 2 ^ 32 + 2 ^ 32 - p.head.toNat % 2 ^ 32) % 2 ^ 32 = (v.toNat + 2 ^ 32 - p.head.toNat % 2 ^ 32) % 2 ^ 32 := by omega
  rw [hspan]
  rfl

theorem ringOk_iff (lo hi a b n : Nat) (hb : b ≤ 20) (hlo : lo = 2 ^ a) (hhi : hi = 2 ^ b) : ringOk lo hi n = true ↔ ∃ k, a ≤ k ∧ k ≤ b ∧ n = 2 ^ k := by
  unfold ringOk
  rw [List.any_eq_true]
  constructor
  · rintro ⟨k, -, hk⟩
    rw [Bool.and_eq_true, beq_iff_eq, decide_eq_true_eq] at hk
    obtain ⟨rfl, hl, hh⟩ := hk
    rw [hlo] at hl
    rw [hhi] at hh
    exact ⟨k, (Nat.pow_le_pow_iff_right (by decide)).mp hl, (Nat.pow_le_pow_iff_right (by decide)).mp hh, rfl⟩
  · rintro ⟨k, hak, hkb, rfl⟩
    refine ⟨k, List.mem_range.mpr (by omega), ?_⟩
    rw [Bool.and_eq_true, beq_iff_eq, decide_eq_true_eq, hlo, hhi]
    exact ⟨rfl, Nat.pow_le_pow_right (by decide) hak, Nat.pow_le_pow_right (by decide) hkb⟩

theorem enableOk_iff (p : WqPage) : p.enableOk = true ↔ pageValid p := by
  unfold WqPage.enableOk pageValid pow2In
  simp only [Bool.and_eq_true, beq_iff_eq, ringOk_iff 2 65536 1 16 _ (by decide) (by decide) (by decide),
    ringOk_iff 16 (2 ^ 20) 4 20 _ (by decide) (by decide) (by decide), and_assoc]

theorem tailOver_iff (p : WqPage) : p.tailOver = true ↔ p.size.toNat < (p.tail.toNat + 2 ^ 32 - p.head.toNat % 2 ^ 32) % 2 ^ 32 := decide_eq_true_iff

theorem setCtl_enabled (h : p.ctl.getLsbD 0 = true) : p.setCtl v = { p with
    ctl := BitVec.ofNat 64 (v.toNat % 2 + p.ctl.toNat / 2 ^ 8 % 2 ^ 8 * 2 ^ 8),
    err := if v.toNat / 2 ^ 8 % 2 ^ 8 = p.ctl.toNat / 2 ^ 8 % 2 ^ 8 then p.err else if p.err = 0 then 2 else p.err } := by
  have hbit : b2n (v.getLsbD 0) = v.toNat % 2 := by
    rw [BitVec.getLsbD, Nat.testBit_zero]
    unfold b2n
    rcases Nat.mod_two_eq_zero_or_one v.toNat with h | h <;> rw [h] <;> rfl
  unfold WqPage.setCtl
  extract_lets en a
  have ha : a = if v.toNat / 2 ^ 8 % 2 ^ 8 = p.ctl.toNat / 2 ^ 8 % 2 ^ 8 then p else p.fail 0x02 := rfl
  clear_value a
  rw [if_pos (show en = true from h), hbit, asid_bits, ha]
  by_cases hv : v.toNat / 2 ^ 8 % 2 ^ 8 = p.ctl.toNat / 2 ^ 8 % 2 ^ 8
  · rw [if_pos hv, if_pos hv]
  · rw [if_neg hv, if_neg hv, fail_ctl, fail_eq]
    generalize BitVec.ofNat 64 (v.toNat % 2 + p.ctl.toNat / 2 ^ 8 % 2 ^ 8 * 2 ^ 8) = ctl
    rfl

theorem setCtl_stopped (h : p.ctl.getLsbD 0 = false) : p.setCtl v =
    if !v.getLsbD 0 then { p with ctl := BitVec.ofNat 64 (v.toNat / 2 ^ 8 % 2 ^ 8 * 2 ^ 8) }
    else if !p.enableOk then { p with ctl := BitVec.ofNat 64 (v.toNat / 2 ^ 8 % 2 ^ 8 * 2 ^ 8), err := 1 }
    else if p.tailOver then { p with ctl := BitVec.ofNat 64 (v.toNat / 2 ^ 8 % 2 ^ 8 * 2 ^ 8), err := 3 }
    else { p with ctl := BitVec.ofNat 64 (v.toNat / 2 ^ 8 % 2 ^ 8 * 2 ^ 8 + 1), err := 0 } := by
  unfold WqPage.setCtl
  extract_lets en a
  rw [if_neg (show ¬ en = true by rw [show en = false from h]; exact Bool.false_ne_true)]
  rfl

/-! ## Capture units (Table 17.2) -/

/-- A capture unit's control word by its fields. -/
def ctlNat (n : Nat) : Nat := n % 256 + bits n 10 8 * 2 ^ 8 + bits n 23 12 * 2 ^ 12 + bits n 42 32 * 2 ^ 32

/-- The fields of a control word whose change clears the unit. -/
def watchNat (n : Nat) : Nat := n % 256 + bits n 10 10 * 2 ^ 10 + bits n 23 12 * 2 ^ 12 + bits n 42 32 * 2 ^ 32

theorem testBit_add_high {a b k i : Nat} (h : a < 2 ^ k) : (a + b * 2 ^ k).testBit i = if i < k then a.testBit i else b.testBit (i - k) := by
  rw [Nat.add_comm, Nat.mul_comm, Nat.testBit_two_pow_mul_add _ h]

theorem testBit_bits (n hi lo i : Nat) : (bits n hi lo).testBit i = (decide (i < hi + 1 - lo) && n.testBit (i + lo)) := by
  unfold bits
  rw [Nat.testBit_mod_two_pow, Nat.testBit_div_two_pow]

theorem bits_lt (n hi lo : Nat) : bits n hi lo < 2 ^ (hi + 1 - lo) := Nat.mod_lt _ (Nat.two_pow_pos _)

/-- A mask of the low bits of four fields, bit by bit. -/
theorem testBit_mask {m : Nat} {P : Nat → Bool} (hm : m < 2 ^ 43) (h : ∀ i < 43, m.testBit i = P i) (hP : ∀ i, 43 ≤ i → P i = false) (i : Nat) :
    m.testBit i = P i := by
  rcases Nat.lt_or_ge i 43 with hi | hi
  · exact h i hi
  · rw [hP i hi]
    exact Nat.testBit_lt_two_pow (lt_of_lt_of_le hm (Nat.pow_le_pow_right (by decide) hi))

theorem testBit_ctlMask (i : Nat) : (0x7FF00FFF7FF : Nat).testBit i = (decide (i < 11) || decide (12 ≤ i ∧ i < 24) || decide (32 ≤ i ∧ i < 43)) :=
  testBit_mask (P := fun i => decide (i < 11) || decide (12 ≤ i ∧ i < 24) || decide (32 ≤ i ∧ i < 43)) (by decide) (by decide)
    (fun i hi => by simp; omega) i

theorem testBit_watchMask (i : Nat) : (0x7FF00FFF4FF : Nat).testBit i =
    (decide (i < 8) || decide (i = 10) || decide (12 ≤ i ∧ i < 24) || decide (32 ≤ i ∧ i < 43)) :=
  testBit_mask (P := fun i => decide (i < 8) || decide (i = 10) || decide (12 ≤ i ∧ i < 24) || decide (32 ≤ i ∧ i < 43)) (by decide) (by decide)
    (fun i hi => by simp; omega) i

theorem ctlNat_eq (n : Nat) : ctlNat n = n &&& 0x7FF00FFF7FF := by
  have h0 : n % 256 < 2 ^ 8 := Nat.mod_lt _ (by decide)
  have h1 := bits_lt n 10 8
  have h2 := bits_lt n 23 12
  refine Nat.eq_of_testBit_eq fun i => ?_
  unfold ctlNat
  rw [testBit_add_high (by omega), testBit_add_high (by omega), testBit_add_high h0, Nat.testBit_and, testBit_bits, testBit_bits, testBit_bits,
    show 256 = 2 ^ 8 from rfl, Nat.testBit_mod_two_pow, testBit_ctlMask]
  grind

theorem watchNat_eq (n : Nat) : watchNat n = n &&& 0x7FF00FFF4FF := by
  have h0 : n % 256 < 2 ^ 8 := Nat.mod_lt _ (by decide)
  have h1 := bits_lt n 10 10
  have h2 := bits_lt n 23 12
  refine Nat.eq_of_testBit_eq fun i => ?_
  unfold watchNat
  rw [testBit_add_high (by omega), testBit_add_high (by omega), testBit_add_high (show n % 256 < 2 ^ 10 by omega), Nat.testBit_and, testBit_bits,
    testBit_bits, testBit_bits, show 256 = 2 ^ 8 from rfl, Nat.testBit_mod_two_pow, testBit_watchMask]
  grind

theorem ctl_word (v : Word) : BitVec.ofNat 64 (ctlNat v.toNat) = v &&& 0x7FF00FFF7FF#64 := by
  refine BitVec.eq_of_toNat_eq ?_
  rw [BitVec.toNat_ofNat, BitVec.toNat_and, ctlNat_eq, Nat.mod_eq_of_lt (lt_of_le_of_lt Nat.and_le_left v.isLt)]
  rfl

/-- Two control words watch the same events when their watched fields agree. -/
theorem watch_iff (u v : Word) : u &&& 0x7FF00FFF4FF#64 = v &&& 0x7FF00FFF4FF#64 ↔
    u.toNat % 256 = v.toNat % 256 ∧ bits u.toNat 10 10 = bits v.toNat 10 10 ∧ bits u.toNat 23 12 = bits v.toNat 23 12 ∧
      bits u.toNat 42 32 = bits v.toNat 42 32 := by
  have hword (x : Word) : (x &&& 0x7FF00FFF4FF#64).toNat = watchNat x.toNat := by rw [BitVec.toNat_and, watchNat_eq]; rfl
  rw [← BitVec.toNat_inj, hword, hword]
  have hu1 := bits_lt u.toNat 10 10
  have hu2 := bits_lt u.toNat 23 12
  have hu3 := bits_lt u.toNat 42 32
  have hv1 := bits_lt v.toNat 10 10
  have hv2 := bits_lt v.toNat 23 12
  have hv3 := bits_lt v.toNat 42 32
  unfold watchNat
  omega

/-- A control word of a listed source written to a capture unit. -/
theorem setCtl_listed {u : Capture} {now : Nat} (hsrc : v.toNat % 256 ≤ 0x0A) : u.setCtl now v =
    if v.getLsbD 11 = false ∧ u.ctl &&& 0x7FF00FFF4FF#64 = v &&& 0x7FF00FFF4FF#64 then { u with ctl := v &&& 0x7FF00FFF7FF#64 }
    else { u with ctl := v &&& 0x7FF00FFF7FF#64 }.clear now := by
  unfold Capture.setCtl
  extract_lets n src ctl old same u'
  have hsrc' : src = n % 256 := if_pos hsrc
  have hctl : ctl = v &&& 0x7FF00FFF7FF#64 := by
    rw [← ctl_word, show ctl = BitVec.ofNat 64 (src + bits n 10 8 * 2 ^ 8 + bits n 23 12 * 2 ^ 12 + bits n 42 32 * 2 ^ 32) from rfl, hsrc']
    rfl
  have hsame : (same && !v.getLsbD 11) = true ↔ v.getLsbD 11 = false ∧ u.ctl &&& 0x7FF00FFF4FF#64 = v &&& 0x7FF00FFF4FF#64 := by
    rw [watch_iff, show same = (old % 256 == src && bits old 10 10 == bits n 10 10 && bits old 23 12 == bits n 23 12 && bits old 42 32 == bits n 42 32)
      from rfl, hsrc']
    simp only [Bool.and_eq_true, beq_iff_eq, Bool.not_eq_true', and_assoc]
    constructor
    · rintro ⟨h1, h2, h3, h4, h5⟩
      exact ⟨h5, h1, h2, h3, h4⟩
    · rintro ⟨h5, h1, h2, h3, h4⟩
      exact ⟨h1, h2, h3, h4, h5⟩
  have hu : u' = { u with ctl := v &&& 0x7FF00FFF7FF#64 } := by rw [← hctl]
  rw [← hu]
  exact if_congr hsame rfl rfl

/-! ## Package registers (Table 15.2) -/

theorem setElhead_eq (s : State) (v : Word) : s.setElhead v =
    { s with regs := { s.regs with elhead := low v 32 },
             errClasses := s.errClasses.drop (s.errClasses.length - (s.regs.eltail.toNat + 2 ^ 32 - v.toNat % 2 ^ 32) % 2 ^ 32) } := by
  have hlow : regWord v 31 0 = low v 32 := regWord_low v 31
  unfold State.setElhead
  simp only [hlow, span32, toNat_low, Nat.mod_mod]

theorem whileIdle_live {f : State → State} (h : s.launches.any (fun l => l.st != .waiting) = true) : s.whileIdle off f = recorded s 0x23 off := if_pos h

theorem setWring_eq (s : State) (r : Fin 16) (v : Word) : s.writeFleet (0x1400 + 8 * r.val) v =
    if s.buckets.any (fun b => b.ring == r.val) then recorded s 0x23 (0x311400 + 8 * r.val)
    else { s with fleet := { s.fleet with wring := s.fleet.wring.set r.val (low v 7) } } := by
  have hr := r.isLt
  have hlow : regWord v 6 0 = low v 7 := regWord_low v 6
  have hset : s.writeFleet (0x1400 + 8 * r.val) v = s.setWring r.val v := by
    unfold State.writeFleet
    extract_lets f n
    split
    next h => omega
    next h => omega
    next h => omega
    next => rw [if_neg (by omega), if_pos (by omega), show (0x1400 + 8 * r.val - 0x1400) / 8 = r.val by omega]
  rw [hset]
  unfold State.setWring
  have hring : s.fleet.wring.setIfInBounds r.val (low v 7) = s.fleet.wring.set r.val (low v 7) :=
    Vector.ext fun i hi => by rw [Vector.getElem_setIfInBounds, Vector.getElem_set]
  rw [hlow, hring]
  rfl

theorem badAccess_write (h : isReady s) : s.badAccess off false = recorded s 0x22 off := if_pos ((ready_iff s).mpr h)

theorem badAccess_read (h : isReady s) : s.badAccess off true = recorded { s with hostRead := some (List.replicate 8 0xFF) } 0x22 off :=
  if_pos ((ready_iff _).mpr h)

theorem regRead_split (h : off % 8 ≠ 0) (bar : Nat) : s.regRead bar off = BitVec.allOnes 64 := if_pos h

/-- A register write as an event. -/
theorem fires_registerWrite (s : State) (bar off : Nat) (v : Word) : fires (.registerWrite bar off v) s =
    .next (if off % 8 = 0 then s.regWrite bar off v else s.badAccess off false) := rfl

theorem fires_aligned (h : off % 8 = 0) (bar : Nat) : fires (.registerWrite bar off v) s = .next (s.regWrite bar off v) := by
  rw [fires_registerWrite, if_pos h]

theorem fires_split (hs : isReady s) (h : off % 8 ≠ 0) (bar : Nat) : fires (.registerWrite bar off v) s = .next (recorded s 0x22 off) := by
  rw [fires_registerWrite, if_neg h, badAccess_write hs]

theorem fires_package (hs : isReady s) (h : off % 8 = 0) (hoff : off < 0x1000) : fires (.registerWrite 2 off v) s = .next (s.writePackage off v) := by
  rw [fires_aligned h, regWrite_package hs hoff]

theorem setDccmd_busy (h : s.regs.dcbusy = true) : s.setDccmd v = { s with regs := { s.regs with dcover := true } } := if_pos h

theorem setDccmd_idle (h : s.regs.dcbusy = false) : s.setDccmd v =
    if v.getLsbD 63 then
      { s with regs := { s.regs with dccmd := v &&& 0x80000000000000FF, dcbusy := true, dcover := false } }.post [commandEvent (v.toNat % 256)]
    else { s with regs := { s.regs with dccmd := v &&& 0x80000000000000FF } } := by
  unfold State.setDccmd
  exact if_neg (by rw [h]; exact Bool.false_ne_true)

/-! ## Host memory (R309, R342, R343, R387) -/

theorem hostMapped_iff (s : State) (pa : Nat) : s.hostMapped pa = true ↔
    (s.pbyte (s.regs.habase.toNat + pa / 2 ^ 24)).toNat / 2 ^ (pa / 2 ^ 21 % 8) % 2 = 1 := by
  have hdiv : pa / 2 ^ 21 / 8 = pa / 2 ^ 24 := Nat.div_div_eq_div_mul ..
  unfold State.hostMapped bitAt
  simp only [hdiv, beq_iff_eq]

/-- An address that the package has no memory for, or a package that is not ready. -/
theorem refused_iff (s : State) (a : Nat) : (!s.ready? || !populated a) = true ↔ ¬ isReady s ∨ populated a = false := by
  rw [Bool.or_eq_true, Bool.not_eq_true', Bool.not_eq_true', ← Bool.not_eq_true, ready_iff]

/-- The granules of a line that do not check. -/
theorem badIn_line (s : State) (pa : Nat) : s.badIn (pa / 64 * 64) 64 = [pa / 64 * 64 / 32, pa / 64 * 64 / 32 + 1].filter s.badGranule := by
  unfold State.badIn
  rw [show (pa / 64 * 64 + 64 + 31) / 32 - pa / 64 * 64 / 32 = 2 by omega]
  rfl

variable {pa : Nat} {bs : List Byte}

theorem hostReadMem_refused (h : ¬ isReady s ∨ populated (pa / 64 * 64) = false) :
    s.hostReadMem pa = { recorded s 0x21 pa with hostRead := some (List.replicate 64 0xFF) } :=
  if_pos ((refused_iff s _).mpr h)

theorem not_refused (hs : isReady s) {a : Nat} (hpop : populated a = true) : ¬ (!s.ready? || !populated a) = true := by
  rw [refused_iff, hpop]
  exact fun h => h.elim (absurd hs) (absurd · (by decide))

theorem hostReadMem_unmapped (hs : isReady s) (hpop : populated (pa / 64 * 64) = true) (hmap : ¬ s.hostMapped (pa / 64 * 64) = true) :
    s.hostReadMem pa = { recorded s 0x20 pa with hostRead := some (List.replicate 64 0xFF) } := by
  refine (if_neg (not_refused hs hpop)).trans (if_pos ?_)
  rw [Bool.not_eq_true', ← Bool.not_eq_true]
  exact hmap

/-- A line read within the map, by the granules that do not check. -/
def lineRead (s : State) (a : Nat) : List Nat → State
  | [] => { s with hostRead := some (s.pread a 64) }
  | gs => { s.logGranules gs with hostRead := none }

theorem hostReadMem_mapped (hs : isReady s) (hpop : populated (pa / 64 * 64) = true) (hmap : s.hostMapped (pa / 64 * 64) = true) :
    s.hostReadMem pa = lineRead s (pa / 64 * 64) ([pa / 64 * 64 / 32, pa / 64 * 64 / 32 + 1].filter s.badGranule) := by
  refine (if_neg (not_refused hs hpop)).trans ((if_neg ?_).trans ?_)
  · rw [hmap]
    decide
  · rw [badIn_line]
    generalize [pa / 64 * 64 / 32, pa / 64 * 64 / 32 + 1].filter s.badGranule = gs
    cases gs <;> rfl

theorem hostWriteMem_refused (h : ¬ isReady s ∨ populated pa = false) : s.hostWriteMem pa bs = recorded s 0x21 pa := if_pos ((refused_iff s _).mpr h)

theorem hostWriteMem_unmapped (hs : isReady s) (hpop : populated pa = true) (hmap : ¬ s.hostMapped pa = true) :
    s.hostWriteMem pa bs = recorded s 0x20 pa := by
  refine (if_neg (not_refused hs hpop)).trans (if_pos ?_)
  rw [Bool.not_eq_true', ← Bool.not_eq_true]
  exact hmap

/-- A write within the map, by the page. -/
def pageWrite (s : State) (pa : Nat) (bs : List Byte) : Option Page → State
  | none => s.pwrite pa bs
  | some p =>
    if p.kind = kHostbuf then s.pwrite pa bs
    else if p.kind = kFrozen then
      if (s.pwrite pa bs).hostPages.contains (pa / 2 ^ 12) then s.pwrite pa bs
      else { s.pwrite pa bs with hostPages := pa / 2 ^ 12 :: (s.pwrite pa bs).hostPages }
    else s.scramble p.base (p.kind == kLattice) (p.len / 8)

theorem hostWriteMem_mapped (hs : isReady s) (hpop : populated pa = true) (hmap : s.hostMapped pa = true) :
    s.hostWriteMem pa bs = pageWrite s pa bs (s.hostPage pa) := by
  refine (if_neg (not_refused hs hpop)).trans ((if_neg ?_).trans ?_)
  · rw [hmap]
    decide
  · cases s.hostPage pa <;> rfl

theorem pageWrite_frozen {p : Page} (hk : p.kind = 2) : pa / 2 ^ 12 ∈ (pageWrite s pa bs (some p)).hostPages ∧
    { pageWrite s pa bs (some p) with hostPages := s.hostPages } = s.pwrite pa bs := by
  obtain ⟨m, g, c, p', u, hw⟩ := Frame.memOnly_pwrite s pa bs
  have hpages : (s.pwrite pa bs).hostPages = s.hostPages := by rw [hw]
  have heq : pageWrite s pa bs (some p) = if (s.pwrite pa bs).hostPages.contains (pa / 2 ^ 12) then s.pwrite pa bs
      else { s.pwrite pa bs with hostPages := pa / 2 ^ 12 :: (s.pwrite pa bs).hostPages } :=
    (if_neg (by rw [hk]; decide)).trans (if_pos hk)
  generalize s.pwrite pa bs = t at heq hpages ⊢
  rw [heq]
  by_cases hin : t.hostPages.contains (pa / 2 ^ 12) = true
  · rw [if_pos hin]
    refine ⟨List.contains_iff_mem.mp hin, ?_⟩
    rw [← hpages]
  · rw [if_neg hin]
    refine ⟨List.mem_cons_self .., ?_⟩
    rw [← hpages]

end Sys2Proof.HostRegs

/-! # The host's accesses -/

namespace Sys2Proof.HostAcc
open Sys2Proof Sys2Proof.Machine Sys2Proof.Claims Sys2Proof.HostRegs

variable {s : State} {v : Word} {q off : Nat}

/-- A write of a queue page's register. -/
theorem queue_write (h : isReady s) (hq : q < 4096) (hoff : off < 4096) {e : Event} {p' : WqPage}
    (hfire : fires e s = .next (s.regWrite 0 (0x1000 * q + off) v)) (hp : (s.wqPage q).write off v = p') :
    fires e s = .next { s with wq := s.wq.put q p' } := by
  rw [hfire, show 0x1000 * q = 4096 * q from rfl, regWrite_queue h hq hoff, updWq_eq, hp]

theorem dccmd_write (h : isReady s) : fires (.registerWrite 2 0x040 v) s = .next (s.setDccmd v) := fires_package h rfl (by decide)

/-- A read-only or unlisted package register. -/
theorem ignored_write (h : isReady s) (hoff : off ∈ [0x000, 0x008, 0x030, 0x060, 0x068, 0x090, 0x0A8, 0x0B0]) :
    fires (.registerWrite 2 off v) s = .next s := by
  have hmod : off % 8 = 0 ∧ off < 0x1000 := by revert hoff; revert off; decide
  rw [fires_package h hmod.1 hmod.2]
  simp only [List.mem_cons, List.not_mem_nil, or_false] at hoff
  rcases hoff with rfl | rfl | rfl | rfl | rfl | rfl | rfl | rfl <;> rfl

/-- A package register that a live launch protects. -/
theorem protected_write (h : isReady s) (hlive : s.launches.any (fun l => l.st != .waiting) = true)
    (hoff : off ∈ [0x010, 0x018, 0x020, 0x100, 0x1B8]) : fires (.registerWrite 2 off v) s = .next (recorded s 0x23 off) := by
  have hmod : off % 8 = 0 ∧ off < 0x1000 := by revert hoff; revert off; decide
  rw [fires_package h hmod.1 hmod.2]
  simp only [List.mem_cons, List.not_mem_nil, or_false] at hoff
  rcases hoff with rfl | rfl | rfl | rfl | rfl <;> simp [State.writePackage, whileIdle_live hlive]

/-- What WQCTL holds after a write, by the queue's state. -/
theorem wqctl_write (h : isReady s) (hq : q < 4096) {p' : WqPage} (hp : (s.wqPage q).setCtl v = p') :
    fires (.wqctlWrite q v) s = .next { s with wq := s.wq.put q p' } :=
  queue_write (off := 0) h hq (by decide) rfl hp

theorem cqhead_page (p : WqPage) (v : Word) : p.write 0x040 v = { p with cqhead := low v 32 } := by
  rw [← regWord_low v 31]
  rfl

theorem hmhead_page (p : WqPage) (v : Word) : p.write 0x060 v = { p with hmhead := low v 32 } := by
  rw [← regWord_low v 31]
  rfl

theorem rphead_page (p : WqPage) (v : Word) : p.write 0x080 v = { p with rphead := low v 32 } := by
  rw [← regWord_low v 31]
  rfl

/-- A capture unit's control word written. -/
theorem captureConfig_write {die : Fin 8} {unit : Fin 32} (h : isReady s) : fires (.captureConfigWrite die unit v) s =
    .next { s with captures := s.captures.put (32 * die.val + unit.val) ((s.capture die.val unit.val).setCtl s.gtime v) } :=
  congrArg Host.Outcome.next (regWrite_capture h die.isLt unit.isLt)

theorem trhead_write {c : Nat} (h : isReady s) (hc : c < 1536) :
    fires (.trheadWrite c v) s = .next (s.updCore c fun k => { k with trhead := v }) :=
  congrArg Host.Outcome.next (regWrite_core (off := 0x18) h hc (by decide))

/-- Settles O46: the host's register accesses by the register they reach, then its memory accesses by the map, the line's granules and the page. -/
theorem hostAccess : Obligations.HostAccess := by
  unfold Obligations.HostAccess
  refine ⟨?_, ?_⟩
  · intro s q v c ring die unit h hq hc p page en asid keep
    refine ⟨queue_write (off := 0x040) h hq (by decide) rfl ?_, queue_write (off := 0x060) h hq (by decide) rfl ?_,
      queue_write (off := 0x080) h hq (by decide) rfl ?_, queue_write (off := 0x018) h hq (by decide) rfl (setTail_eq p v),
      ⟨fun hen hv => wqctl_write h hq ?_, fun hen hv hp hroom => wqctl_write h hq ?_, fun hen hv hp hover => wqctl_write h hq ?_,
        fun hen hv hp => wqctl_write h hq ?_, fun hen => wqctl_write h hq (setCtl_enabled hen)⟩, ?_, trhead_write h hc, ?_,
      ⟨?_, fun hsrc hclr hsame => ?_, fun hsrc hchange => ?_⟩,
      fun bar off => ⟨?_, ?_, fun hoff => ⟨fires_split h hoff bar, regRead_split hoff bar⟩⟩,
      ⟨fun hbusy => ?_, fun hbusy hgo => ?_, fun hbusy hgo => ⟨commandEvent (v.toNat % 256), ?_⟩⟩, fires_package h rfl (by decide), ?_,
      fun off hoff => ignored_write h hoff, fun hlive off hoff => protected_write h hlive hoff, fun t ht bar off hoff => ?_⟩
    · exact cqhead_page p v
    · exact hmhead_page p v
    · exact rphead_page p v
    · rw [setCtl_stopped hen, hv]
      rfl
    · rw [setCtl_stopped hen, hv, (enableOk_iff _).mpr hp, Bool.eq_false_iff.mpr (mt (tailOver_iff _).mp (Nat.not_lt.mpr hroom))]
      rfl
    · rw [setCtl_stopped hen, hv, (enableOk_iff _).mpr hp, (tailOver_iff _).mpr hover]
      rfl
    · rw [setCtl_stopped hen, hv, Bool.eq_false_iff.mpr (mt (enableOk_iff _).mp hp)]
      rfl
    · exact congrArg Host.Outcome.next ((regWrite_package h (by decide)).trans (setElhead_eq s v))
    · have hr := ring.isLt
      have hoff : 0x311400 + 8 * ring.val = 0x310000 + (0x1400 + 8 * ring.val) := by omega
      have hw : s.regWrite 2 (0x311400 + 8 * ring.val) v = s.writeFleet (0x1400 + 8 * ring.val) v := by
        rw [hoff, regWrite_fleet h (by omega)]
      exact congrArg Host.Outcome.next (hw.trans (setWring_eq s ring v))
    · exact congrArg Host.Outcome.next (if_pos ((ready_iff s).mpr h))
    · rw [captureConfig_write h, setCtl_listed hsrc, if_pos ⟨hclr, hsame⟩]
    · rw [captureConfig_write h, setCtl_listed hsrc, if_neg ?_]
      · rfl
      · rintro ⟨hclr, hsame⟩
        rcases hchange with hset | hne
        · rw [hset] at hclr
          exact nomatch hclr
        · exact hne hsame
    · exact congrArg Host.Outcome.next (badAccess_write h)
    · exact congrArg Host.Outcome.next (badAccess_read h)
    · rw [dccmd_write h, setDccmd_busy hbusy]
    · rw [dccmd_write h, setDccmd_idle hbusy, hgo]
      rfl
    · rw [dccmd_write h, setDccmd_idle hbusy, hgo]
      rfl
    · exact (fires_aligned rfl 2).trans (congrArg Host.Outcome.next (regWrite_fleet (off := 0x010) h (by decide)))
    · rw [fires_aligned hoff, regWrite_unready ht]
  · intro s pa bs line ones read write mapped mappedLine
    have hline : ∀ i, 32 * (line / 32 + i) = line + 32 * i := fun i => by simp only [line]; omega
    refine ⟨fun h => congrArg Host.Outcome.next (hostReadMem_refused h),
      fun hs hpop hmap => congrArg Host.Outcome.next (hostReadMem_unmapped hs hpop (mt (hostMapped_iff s line).mp hmap)),
      fun hs hpop hmap => ?_, fun g hg => ?_, fun h => congrArg Host.Outcome.next (hostWriteMem_refused h),
      fun hs hpop hmap => congrArg Host.Outcome.next (hostWriteMem_unmapped hs hpop (mt (hostMapped_iff s pa).mp hmap)),
      fun hs hpop hmap hpage => ?_, fun hs hpop hmap p hpage hkind => ?_⟩
    · have hread : read = .next (lineRead s line ([line / 32, line / 32 + 1].filter s.badGranule)) :=
        congrArg Host.Outcome.next (hostReadMem_mapped hs hpop ((hostMapped_iff s line).mpr hmap))
      refine ⟨fun h0 h1 => ?_, fun g hg hbad hother => ?_, fun h0 h1 => ?_⟩
      · rw [hread]
        simp only [List.filter_cons, h0, h1, List.filter_nil]
        rfl
      · rw [hread]
        rcases hg with rfl | rfl
        · have h1 := hother (line / 32 + 1) (.inr rfl) (by omega)
          simp only [List.filter_cons, hbad, h1, List.filter_nil]
          rfl
        · have h0 := hother (line / 32) (.inl rfl) (by omega)
          simp only [List.filter_cons, hbad, h0, List.filter_nil]
          rfl
      · have hlow : 32 * (line / 32) = line := hline 0
        have hhigh : 32 * (line / 32 + 1) = line + 32 := hline 1
        rw [hread]
        simp only [List.filter_cons, h0, h1, List.filter_nil, if_true, lineRead, State.logGranules, List.foldl_cons, List.foldl_nil, hlow, hhigh]
    · unfold State.badGranule
      rw [List.contains_iff_mem.mpr hg, Bool.true_or]
    · have hwrite : write = .next (pageWrite s pa bs (s.hostPage pa)) :=
        congrArg Host.Outcome.next (hostWriteMem_mapped hs hpop ((hostMapped_iff s pa).mpr hmap))
      rw [hwrite]
      rcases hpage with hnone | ⟨p, hp, hkind⟩
      · rw [hnone]
        rfl
      · rw [hp]
        exact congrArg Host.Outcome.next (if_pos hkind)
    · refine ⟨pageWrite s pa bs (some p), ?_, pageWrite_frozen hkind⟩
      rw [← hpage]
      exact congrArg Host.Outcome.next (hostWriteMem_mapped hs hpop ((hostMapped_iff s pa).mpr hmap))

end Sys2Proof.HostAcc

/-! # The boot, the SPDM responder and power -/

namespace Sys2Proof.Boot
open Sys2Proof Sys2Proof.Machine Sys2Proof.Claims

variable {s : State} {n code : Nat}

/-! ## The boot (R364, R369) -/

theorem bootWord_toNat (hn : n < 8) (hc : code < 256) : (bootWord n (some code)).toNat = n + 8 + code * 2 ^ 8 := by
  unfold bootWord
  rw [BitVec.toNat_ofNat]
  simp only
  omega

theorem bootWord_failed (hn : n < 8) (hc : code < 256) : bootWord n (some code) = BitVec.ofNat 64 (n + 8 + code * 2 ^ 8) := by
  refine BitVec.eq_of_toNat_eq ?_
  rw [bootWord_toNat hn hc, BitVec.toNat_ofNat]
  omega

theorem bootWord_going (hn : n < 8) : bootWord n none = BitVec.ofNat 64 n := by
  unfold bootWord
  rw [Nat.mod_eq_of_lt hn, Nat.add_zero]

theorem bootStep_eq (s : State) : s.bootStep = s.regs.bootst.toNat % 8 := by
  unfold State.bootStep bits
  rw [Nat.pow_zero, Nat.div_one]
  rfl

/-- A package in boot step 1 to 5. -/
structure Booting (s : State) (n : Nat) : Prop where
  powered : s.powered = true
  agenda : s.agenda = []
  low : 1 ≤ n
  high : n < 6
  bootst : s.regs.bootst = BitVec.ofNat 64 n

theorem Booting.step_number (h : Booting s n) : s.bootStep = n := by
  have hhigh := h.high
  rw [bootStep_eq, h.bootst, BitVec.toNat_ofNat]
  omega

/-- A package in boot step 1 to 5 boots on. -/
theorem Booting.step (h : Booting s n) : step s = .next s.bootNext := by
  obtain ⟨hpow, hag, hlow, hhigh, hboot⟩ := h
  have hready : s.ready? = false := by
    rw [← Bool.not_eq_true, HostRegs.ready_iff]
    rintro ⟨-, hsix, -⟩
    rw [hboot, BitVec.toNat_ofNat] at hsix
    omega
  have hzero : ¬ s.regs.bootst = 0 := by
    rw [hboot]
    intro h0
    have h1 : n % 2 ^ 64 = 0 := congrArg BitVec.toNat h0
    omega
  have hbit : s.regs.bootst.getLsbD 3 = false := by
    rw [hboot, BitVec.getLsbD_ofNat, Nat.testBit_lt_two_pow (by omega : n < 2 ^ 3), Bool.and_false]
  unfold Machine.step
  rw [hag]
  simp only [hpow, hready, hbit, if_neg hzero]
  rfl

/-- A boot step that fails stays, with its code. -/
theorem Booting.next_failed (h : Booting s n) (hf : s.bootFail = some ⟨n, code⟩) :
    s.bootNext = { s with regs := { s.regs with bootst := bootWord n (some code) } } := by
  have hhigh := h.high
  unfold State.bootNext
  rw [hf]
  simp only [h.step_number, if_pos (show n % 8 = n by omega)]

/-- What a step leaves as it is done. -/
def stepDone (s : State) (n : Nat) : State := if n = 4 then s.released else if n = 5 then s.booted else s

/-- A boot step done: its effect, its measurement, and the next begins. -/
theorem Booting.next_done (h : Booting s n) (hf : s.bootFail = none) : s.bootNext =
    { stepDone s n with regs := { (stepDone s n).regs with bootst := bootWord (n + 1) none }, measures := measuresBefore (n + 1) } := by
  unfold State.bootNext
  rw [hf]
  simp only [h.step_number]
  rfl

/-- The indices of the measurements that the steps before have taken. -/
theorem measuresBefore_indices (hlow : 1 ≤ n) (hhigh : n < 6) :
    (measuresBefore (n + 1)).map Prod.fst = if n < 4 then [1, 2, 3, 4].take n else [1, 2, 3, 4, 5] := by
  interval_cases n <;> rfl

theorem find?_map_range {α : Type} (f : Nat → α) (k : Nat) : ∀ (n a : Nat), k < n →
    Tbl.find? ((List.range' a n).map fun c => (c, f c)) (a + k) = some (f (a + k))
  | 0, a, h => absurd h (Nat.not_lt_zero k)
  | n + 1, a, h => by
    rw [List.range'_succ, List.map_cons, Tbl.find?]
    by_cases hk : k = 0
    · rw [if_pos (by omega), hk, Nat.add_zero]
    · rw [if_neg (by omega)]
      have ih := find?_map_range f (k - 1) n (a + 1) (by omega)
      rw [show a + 1 + (k - 1) = a + k by omega] at ih
      exact ih

/-- An entry of a table that lists every key below a bound. -/
theorem getD_map_range {α : Type} (f : Nat → α) (d : α) {k n : Nat} (h : k < n) : Tbl.getD ((List.range n).map fun c => (c, f c)) k d = f k := by
  have hfind := find?_map_range f k n 0 h
  rw [Nat.zero_add] at hfind
  unfold Tbl.getD
  rw [List.range_eq_range', hfind]
  rfl

theorem core_of_table {k : Core} {c n : Nat} (h : s.cores = (List.range n).map fun c => (c, k)) (hc : c < n) : s.core c = k := by
  unfold State.core
  rw [h]
  exact getD_map_range (fun _ => k) Core.reset hc

theorem link_of_table {l : Link} {m n : Nat} (h : s.links = (List.range n).map fun m => (m, l)) (hm : m < n) : s.link m = l := by
  unfold State.link
  rw [h]
  exact getD_map_range (fun _ => l) Link.reset hm

theorem booted_core (s : State) {c : Nat} (hc : c < 1536) : s.booted.core c = bootCore := by
  refine core_of_table ?_ hc
  rw [State.booted]

/-- A core released waits for its first fetch. -/
def fetching (k : Core) : Core := { k with slots := k.slots.set 15 { k.slots[15] with st := .busy, busy := .fetch } }

theorem released_core (s : State) {c : Nat} (hc : c < 1536) : s.released.core c = fetching bootCore := by
  refine core_of_table ?_ hc
  rw [State.released]
  generalize List.range 1536 = cores
  rfl

theorem released_link (s : State) {m : Nat} (hm : m < 32) : s.released.link m = { Link.reset with st := 1 } := by
  refine link_of_table ?_ hm
  rw [State.released]

theorem released_slot (s : State) {c : Nat} (hc : c < 1536) :
    ((s.released.core c).slots.get 15).st = .busy ∧ ((s.released.core c).slots.get 15).busy = .fetch := by
  rw [released_core s hc]
  generalize bootCore = k
  have hget : (fetching k).slots.get 15 = { k.slots[15] with st := .busy, busy := .fetch } := Vector.getElem_set_self ..
  rw [hget]
  exact ⟨rfl, rfl⟩

theorem bootCore_slot (j : Fin 16) : (bootCore.slots.get j).quantum = 0 ∧ (bootCore.slots.get j).grbase = 0 ∧ (bootCore.slots.get j).grlen = 0 ∧
    (j.val < 15 → (bootCore.slots.get j).st = .empty) := by
  have hget : bootCore.slots.get j = if 15 = j.val then { Slot.reset with st := .run, th := { Thread.zero with pc := Config.firmwareEntry } } else Slot.reset := by
    change (Core.reset.slots.set 15 { Slot.reset with st := .run, th := { Thread.zero with pc := Config.firmwareEntry } })[j.val] = _
    rw [Vector.getElem_set]
    have hreset : Core.reset.slots[j.val] = Slot.reset := Vector.getElem_replicate ..
    rw [hreset]
  rw [hget]
  by_cases hj : 15 = j.val
  · rw [if_pos hj]
    exact ⟨rfl, rfl, rfl, fun h => absurd hj (Nat.ne_of_gt h)⟩
  · rw [if_neg hj]
    exact ⟨rfl, rfl, rfl, fun _ => rfl⟩

/-- The boot as power comes, where power is off or the boot has not begun. -/
theorem fires_powerOn {fail : Option BootFail} (h : s.powered = false ∨ s.regs.bootst = 0) : fires (.powerOn fail) s =
    .next (State.boot { s with agenda := s.agenda } fail) := by
  refine congrArg Host.Outcome.next (if_neg ?_)
  rcases h with h | h
  · rw [show ({ s with agenda := s.agenda } : State).powered = false from h]
    exact Bool.false_ne_true
  · rw [Bool.and_eq_true, bne_iff_ne]
    exact fun hboth => hboth.2 h

/-- A package in boot step 1 to 5, or failed there, ignores register writes. -/
theorem write_ignored (h : s.regs.bootst.toNat % 8 < 6) {bar off : Nat} (v : Word) (hoff : off % 8 = 0) :
    fires (.registerWrite bar off v) s = .next s := by
  rw [HostRegs.fires_aligned hoff, HostRegs.regWrite_unready]
  rintro ⟨-, hsix, -⟩
  omega

/-- What a boot step that fails leaves. -/
theorem boot_fails (h : Booting s n) (hc : code < 256) (hf : s.bootFail = some ⟨n, code⟩) : ∃ s', step s = .next s' ∧
    s'.regs.bootst = BitVec.ofNat 64 (n + 8 + code * 2 ^ 8) ∧ s'.cores = s.cores ∧ s'.mem = s.mem ∧
    ∀ bar off v, off % 8 = 0 → fires (.registerWrite bar off v) s' = .next s' := by
  have hhigh := h.high
  refine ⟨_, h.step.trans (congrArg _ (h.next_failed hf)), bootWord_failed (by omega) hc, rfl, rfl, fun bar off v hoff => write_ignored ?_ v hoff⟩
  rw [bootWord_toNat (by omega) hc]
  omega

theorem stepDone_early (h : n < 4) : stepDone s n = s := by
  unfold stepDone
  rw [if_neg (by omega), if_neg (by omega)]

theorem released_rest (s : State) : ∃ a m cs ls, s.released = { s with regs := { s.regs with ascbase := a }, mem := m, cores := cs, links := ls } :=
  ⟨_, _, _, _, rfl⟩

theorem booted_rest (s : State) : ∃ cs, s.booted = { s with cores := cs } := ⟨_, rfl⟩

theorem stepDone_four (s : State) : stepDone s 4 = s.released := if_pos rfl

theorem stepDone_five (s : State) : stepDone s 5 = s.booted := (if_neg (by decide)).trans (if_pos rfl)

theorem stepDone_keeps (s : State) (n : Nat) : (stepDone s n).agenda = s.agenda ∧ (stepDone s n).poison = s.poison ∧
    (n ≠ 4 → (stepDone s n).regs = s.regs ∧ (stepDone s n).mem = s.mem) := by
  unfold stepDone
  by_cases h4 : n = 4
  · obtain ⟨a, m, cs, ls, hrel⟩ := released_rest s
    rw [if_pos h4, hrel]
    exact ⟨rfl, rfl, fun hn => absurd h4 hn⟩
  · rw [if_neg h4]
    by_cases h5 : n = 5
    · obtain ⟨cs, hb⟩ := booted_rest s
      rw [if_pos h5, hb]
      exact ⟨rfl, rfl, fun _ => ⟨rfl, rfl⟩⟩
    · rw [if_neg h5]
      exact ⟨rfl, rfl, fun _ => ⟨rfl, rfl⟩⟩

/-- The package as the next step begins. -/
def nextBegun (s : State) (n : Nat) : State :=
  { stepDone s n with regs := { (stepDone s n).regs with bootst := bootWord (n + 1) none }, measures := measuresBefore (n + 1) }

theorem nextBegun_core (s : State) (n c : Nat) : (nextBegun s n).core c = (stepDone s n).core c := rfl

theorem nextBegun_link (s : State) (n m : Nat) : (nextBegun s n).link m = (stepDone s n).link m := rfl

theorem booted_at_reset (s : State) {c : Nat} (hc : c < 1536) : let k := (nextBegun s 5).core c
    k.hslot = 15 ∧ k.eie = false ∧ k.lmx = false ∧ k.trctl = false ∧ k.started = false ∧ k.lmem = [] ∧ (k.slots.get 15).st = .run ∧
      (k.slots.get 15).th = { Thread.zero with pc := Config.firmwareEntry } ∧
      ∀ j : Fin 16, (k.slots.get j).quantum = 0 ∧ (k.slots.get j).grbase = 0 ∧ (k.slots.get j).grlen = 0 ∧ (j.val < 15 → (k.slots.get j).st = .empty) := by
  have hcore : (nextBegun s 5).core c = bootCore := by
    rw [nextBegun_core, stepDone_five, booted_core s hc]
  rw [hcore]
  have hsystem : bootCore.slots.get 15 = { Slot.reset with st := .run, th := { Thread.zero with pc := Config.firmwareEntry } } := Vector.getElem_set_self ..
  refine ⟨rfl, rfl, rfl, rfl, rfl, rfl, ?_, ?_, bootCore_slot⟩ <;> rw [hsystem]

/-- What a boot step done leaves. -/
theorem boot_advances (h : Booting s n) (hf : s.bootFail = none) : ∃ s', step s = .next s' ∧ s'.regs.bootst = BitVec.ofNat 64 (n + 1) ∧ s'.agenda = [] ∧
    s'.poison = s.poison ∧ s'.measures.map Prod.fst = (if n < 4 then [1, 2, 3, 4].take n else [1, 2, 3, 4, 5]) ∧
    (n < 4 → s'.cores = s.cores ∧ s'.links = s.links) ∧ (n ≠ 4 → s'.regs.ascbase = s.regs.ascbase ∧ s'.mem = s.mem) ∧
    (n = 4 → s'.regs.ascbase = Config.firmwareAscBase ∧ s'.mem = Config.firmwareImage.foldl (fun m (a, b) => Mem.set m a b) [] ∧
      (∀ m, m < 32 → (s'.link m).st = 1) ∧ ∀ c, c < 1536 → ((s'.core c).slots.get 15).st = .busy ∧ ((s'.core c).slots.get 15).busy = .fetch) ∧
    (n = 5 → ∀ c, c < 1536 → let k := s'.core c
      k.hslot = 15 ∧ k.eie = false ∧ k.lmx = false ∧ k.trctl = false ∧ k.started = false ∧ k.lmem = [] ∧ (k.slots.get 15).st = .run ∧
        (k.slots.get 15).th = { Thread.zero with pc := Config.firmwareEntry } ∧
        ∀ j : Fin 16, (k.slots.get j).quantum = 0 ∧ (k.slots.get j).grbase = 0 ∧ (k.slots.get j).grlen = 0 ∧ (j.val < 15 → (k.slots.get j).st = .empty)) := by
  have hhigh := h.high
  obtain ⟨hag, hpoison, hkeep⟩ := stepDone_keeps s n
  refine ⟨nextBegun s n, h.step.trans (congrArg _ (h.next_done hf)), bootWord_going (by omega), hag.trans h.agenda, hpoison,
    measuresBefore_indices h.low h.high, fun h4 => ?_, fun h4 => ?_, fun h4 => ?_, fun h5 => ?_⟩
  · have hsame := stepDone_early (s := s) h4
    have hcores : (stepDone s n).cores = s.cores := congrArg State.cores hsame
    have hlinks : (stepDone s n).links = s.links := congrArg State.links hsame
    exact ⟨hcores, hlinks⟩
  · obtain ⟨hregs, hmem⟩ := hkeep h4
    have hasc : (stepDone s n).regs.ascbase = s.regs.ascbase := congrArg Regs.ascbase hregs
    exact ⟨hasc, hmem⟩
  · subst h4
    have hrel := stepDone_four s
    refine ⟨?_, ?_, fun m hm => ?_, fun c hc => ?_⟩
    · rw [nextBegun, hrel, State.released]
    · rw [nextBegun, hrel, State.released]
    · rw [nextBegun_link, hrel, released_link s hm]
    · rw [nextBegun_core, hrel]
      exact released_slot s hc
  · subst h5
    exact fun c hc => booted_at_reset s hc

/-! ## The SPDM responder (R365) -/

variable {r : SpdmResp}

theorem respond_asleep (h : s.powered = false ∨ s.regs.bootst.toNat % 8 < 3) : s.respond r = s := by
  refine if_neg ?_
  rw [Bool.and_eq_true, decide_eq_true_eq, bootStep_eq]
  rintro ⟨hpow, hstep⟩
  rcases h with h | h
  · rw [h] at hpow
    exact nomatch hpow
  · omega

theorem respond_alive (hp : s.powered = true) (h : 3 ≤ s.regs.bootst.toNat % 8) : s.respond r = { s with spdm := some r } := by
  refine if_pos ?_
  rw [Bool.and_eq_true, decide_eq_true_eq, bootStep_eq]
  exact ⟨hp, h⟩

/-- What the algorithms negotiated are answered. -/
theorem algorithms_iff (asym hash : Nat) : (bitAt asym asymP384 && bitAt hash hashSha384) = true ↔ asym / 2 ^ 7 % 2 = 1 ∧ hash / 2 % 2 = 1 := by
  rw [Bool.and_eq_true]
  unfold bitAt asymP384 hashSha384
  rw [beq_iff_eq, beq_iff_eq, Nat.pow_one]

theorem measured_one {i : Nat} {m : Nat} (h0 : 0 < i) (hi : i < 0xFF) (h : s.measures = [(i, m)]) : s.measured i = .measurements [(i, m)] := by
  unfold State.measured
  rw [if_neg (by omega), if_neg (by omega), h, List.find?_cons_of_pos (by exact beq_self_eq_true i)]

theorem measured_none {i : Nat} (h0 : 0 < i) (hi : i < 0xFF) (h : ∀ m ∈ s.measures, m.1 ≠ i) : s.measured i = .error := by
  unfold State.measured
  rw [if_neg (by omega), if_neg (by omega), List.find?_eq_none.mpr fun m hm => by rw [beq_iff_eq]; exact h m hm]

end Sys2Proof.Boot

/-! # Links between dies and packages -/

namespace Sys2Proof.Links
open Sys2Proof Sys2Proof.Machine Sys2Proof.Claims

variable {s : State} {n m p st : Nat} {l : Link}

/-! ## Link registers -/

theorem link_setLink (s : State) (n m : Nat) (l : Link) : (s.setLink n l).link m = if m = n then l else s.link m := Tbl.getD_put ..

theorem link_linkErrors_other (s : State) {n m : Nat} (h : m ≠ n) : (s.linkErrors n).link m = s.link m := by
  unfold State.linkErrors
  rw [link_setLink, if_neg h]

/-- What a link counts leaves whether it carries flits. -/
theorem link_linkErrors (s : State) (n m : Nat) : ((s.linkErrors n).link m).up = (s.link m).up := by
  by_cases h : m = n
  · subst h
    unfold State.linkErrors
    rw [link_setLink, if_pos rfl]
    rfl
  · rw [link_linkErrors_other s h]

theorem up_iff (l : Link) : l.up = true ↔ l.st = 1 ∨ l.st = 2 := by
  unfold Link.up
  rw [Bool.or_eq_true, beq_iff_eq, beq_iff_eq]

theorem link_logged {t : State} (h : Frame.Logged s t) (n : Nat) : t.link n = s.link n := by
  obtain ⟨_, _, _, _, _, _, _, _, _, rfl⟩ := h
  rfl

theorem cutDies_logged {t : State} (h : Frame.Logged s t) : t.cutDies = s.cutDies := by
  obtain ⟨_, _, _, _, _, _, _, _, _, rfl⟩ := h
  rfl

/-! ## UCIe modules (R362, R390) -/

theorem linked_iff (s : State) (die : Nat) : s.linked die = true ↔ die ∉ s.cutDies ∧ ∃ j, j < 4 ∧ (s.link (4 * die + j)).up = true := by
  unfold State.linked
  rw [Bool.and_eq_true, Bool.not_eq_true', ← Bool.not_eq_true, List.contains_iff_mem, List.any_eq_true]
  simp only [List.mem_range]

variable {die module : Nat}

/-- The package as a module has changed its state. -/
def moduleMoved (s : State) (die module st : Nat) : State :=
  let c := s.linkErrors (4 * die + module)
  (c.setLink (4 * die + module) { c.link (4 * die + module) with st := st }).logError 0x30 0 0x7FF 0 die module 0xFFF 0

theorem moduleMoved_link (s : State) (die module st m : Nat) : (moduleMoved s die module st).link m =
    if m = 4 * die + module then { (s.linkErrors (4 * die + module)).link (4 * die + module) with st := st } else s.link m := by
  unfold moduleMoved
  rw [link_logged (Frame.logged_logError ..), link_setLink]
  split
  · rfl
  next h => exact link_linkErrors_other s h

theorem moduleMoved_cut (s : State) (die module st : Nat) : (moduleMoved s die module st).cutDies = s.cutDies := by
  unfold moduleMoved
  rw [cutDies_logged (Frame.logged_logError ..)]
  rfl

theorem moduleState_same (h : ((s.linkErrors (4 * die + module)).link (4 * die + module)).st = st) :
    s.moduleState die module st = s.linkErrors (4 * die + module) := if_pos h

/-- Whether a module's change cuts a die off. -/
def cuts (s : State) (die module st : Nat) : Bool :=
  (s.linkErrors (4 * die + module)).linked die && !(moduleMoved s die module st).linked die

theorem moduleState_moved (h : ((s.linkErrors (4 * die + module)).link (4 * die + module)).st ≠ st) :
    s.moduleState die module st = if cuts s die module st then
      ((moduleMoved s die module st).launchesOnDie die).foldl State.cpStop
        ({ moduleMoved s die module st with cutDies := die :: (moduleMoved s die module st).cutDies }.logError 0x31 0 0x7FF 0 die 0 0xFFF 0)
    else moduleMoved s die module st := if_neg h

/-- Another module of the die that carries flits. -/
def otherUp (s : State) (die module : Nat) : Prop := ∃ j, j < 4 ∧ j ≠ module ∧ (s.link (4 * die + j)).up = true

theorem linked_before (h : module < 4) : (s.linkErrors (4 * die + module)).linked die = true ↔
    die ∉ s.cutDies ∧ (((s.linkErrors (4 * die + module)).link (4 * die + module)).up = true ∨ otherUp s die module) := by
  rw [linked_iff]
  refine and_congr Iff.rfl ⟨fun ⟨j, hj, hup⟩ => ?_, fun hup => ?_⟩
  · by_cases hjm : j = module
    · exact .inl (hjm ▸ hup)
    · exact .inr ⟨j, hj, hjm, link_linkErrors s _ _ ▸ hup⟩
  · rcases hup with hup | ⟨j, hj, -, hup⟩
    · exact ⟨module, h, hup⟩
    · exact ⟨j, hj, (link_linkErrors s _ _).trans hup⟩

theorem linked_after (h : module < 4) : (moduleMoved s die module st).linked die = true ↔
    die ∉ s.cutDies ∧ ({ (s.linkErrors (4 * die + module)).link (4 * die + module) with st := st }.up = true ∨ otherUp s die module) := by
  rw [linked_iff, moduleMoved_cut]
  refine and_congr Iff.rfl ⟨fun ⟨j, hj, hup⟩ => ?_, fun hup => ?_⟩
  · rw [moduleMoved_link] at hup
    by_cases hjm : j = module
    · rw [if_pos (by omega)] at hup
      exact .inl hup
    · rw [if_neg (by omega)] at hup
      exact .inr ⟨j, hj, hjm, hup⟩
  · rcases hup with hup | ⟨j, hj, hjm, hup⟩
    · refine ⟨module, h, ?_⟩
      rw [moduleMoved_link, if_pos rfl]
      exact hup
    · refine ⟨j, hj, ?_⟩
      rw [moduleMoved_link, if_neg (by omega)]
      exact hup

theorem cuts_iff (h : module < 4) : cuts s die module st = true ↔ ((s.linkErrors (4 * die + module)).link (4 * die + module)).up = true ∧
    ¬ { (s.linkErrors (4 * die + module)).link (4 * die + module) with st := st }.up = true ∧ ¬ otherUp s die module ∧ die ∉ s.cutDies := by
  unfold cuts
  rw [Bool.and_eq_true, Bool.not_eq_true', ← Bool.not_eq_true, linked_before h, linked_after h]
  tauto

/-! ## Replays (R363) -/

theorem replayed_keeps (s : State) (n : Nat) : (s.replayed n).link n = { (s.linkErrors n).link n with replay := min ((s.link n).replay + 1) (2 ^ 32 - 1) } ∧
    (s.replayed n).mem = s.mem ∧ (s.replayed n).cores = s.cores ∧ (s.replayed n).tasks = s.tasks ∧ (s.replayed n).agenda = s.agenda := by
  have hreplay : ((s.linkErrors n).link n).replay = (s.link n).replay := by
    unfold State.linkErrors
    rw [link_setLink, if_pos rfl]
  have hlink : ((s.linkErrors n).setLink n { (s.linkErrors n).link n with replay := sat32 (((s.linkErrors n).link n).replay + 1) }).link n =
      { (s.linkErrors n).link n with replay := min ((s.link n).replay + 1) (2 ^ 32 - 1) } := by
    rw [link_setLink, if_pos rfl, hreplay]
    rfl
  unfold State.replayed
  extract_lets c l t
  by_cases hn : n < 32
  · rw [if_pos hn]
    exact ⟨hlink, rfl, rfl, rfl, rfl⟩
  · rw [if_neg hn]
    exact ⟨hlink, rfl, rfl, rfl, rfl⟩

/-! ## Welsa ports (R394, R396) -/

/-- The package as a Welsa port has changed its state. -/
def portMoved (s : State) (p st peer : Nat) : State :=
  let c := s.linkErrors (32 + p)
  c.setLink (32 + p) { c.link (32 + p) with st := st, peer := if st = 1 ∨ st = 2 then peer else (c.link (32 + p)).peer }

variable {peer : Nat}

theorem portState_same (h : ((s.linkErrors (32 + p)).link (32 + p)).st = st) : s.portState p st peer = portMoved s p st peer := if_pos h

theorem portState_down (h : ((s.linkErrors (32 + p)).link (32 + p)).st ≠ st) (hst : ¬ (st = 1 ∨ st = 2)) :
    s.portState p st peer = recorded (portMoved s p st peer) 0x32 p :=
  (if_neg h).trans (if_neg (mt (up_iff _).mp hst))

theorem portState_up (h : ((s.linkErrors (32 + p)).link (32 + p)).st ≠ st) (hst : st = 1 ∨ st = 2) :
    s.portState p st peer = (recorded (portMoved s p st peer) 0x32 p).portUp p :=
  (if_neg h).trans (if_pos ((up_iff _).mpr hst))

theorem portMoved_up (h : st = 1 ∨ st = 2) : ((portMoved s p st peer).link (32 + p)).up = true := by
  unfold portMoved
  rw [link_setLink, if_pos rfl, up_iff]
  exact h

theorem retireBuckets_nil (h : s.buckets = []) (ring n : Nat) : s.retireBuckets ring n = s := by
  cases n with
  | zero => rfl
  | succ n =>
    unfold State.retireBuckets
    rw [h]
    rfl

/-- With no bucket in progress nothing retires. -/
theorem retire_none (h : s.buckets = []) : (List.range 16).foldl (fun (s : State) r => s.retireBuckets r 64) s.lateBlocks = s := by
  have hlate : s.lateBlocks = s := by
    unfold State.lateBlocks
    rw [h]
    rfl
  rw [hlate]
  induction List.range 16 with
  | nil => rfl
  | cons r rs ih => rw [List.foldl_cons, retireBuckets_nil h, ih]

theorem resendDigests_nil (h : s.heldDigests = []) : s.resendDigests = s := by
  unfold State.resendDigests
  extract_lets up
  rw [h]
  change ({ s with heldDigests := [] } : State) = s
  rw [← h]

/-- What waited for a port leaves, blocks that check alone. -/
def portFreed (s : State) (p : Nat) : State :=
  { s with sentBlocks := s.sentBlocks ++ ((s.portWait.filter fun (x : Nat × Nat × Nat × WireBlock) => x.1 == p).map fun (x : Nat × Nat × Nat × WireBlock) => x.2.2.2).filter WireBlock.whole,
           portWait := s.portWait.filter (fun (x : Nat × Nat × Nat × WireBlock) => x.1 != p),
           sentFlits := s.sentFlits ++ ((s.flitWait.filter fun (x : Nat × Nat × SweepFlit) => x.1 == p).map fun (x : Nat × Nat × SweepFlit) => x.2.2),
           flitWait := s.flitWait.filter (fun (x : Nat × Nat × SweepFlit) => x.1 != p),
           latWait := s.latWait.filter fun (x : Nat × Nat × LatReq) => x.1 != p }.post
    ((s.latWait.filter fun (x : Nat × Nat × LatReq) => x.1 == p).map fun (x : Nat × Nat × LatReq) => Event.latticeRequestApply x.2.2)

/-- The blocks that waited for a port and do not check. -/
def broken (s : State) (p : Nat) : List (Nat × Nat × Nat × WireBlock) := (s.portWait.filter fun (x : Nat × Nat × Nat × WireBlock) => x.1 == p).filter fun (x : Nat × Nat × Nat × WireBlock) => !x.2.2.2.whole

/-- A broken block reported. -/
def breakBlock (s : State) (x : Nat × Nat × Nat × WireBlock) : State := s.blockBroken x.2.1

/-- With no bucket in progress, what waited leaves, broken blocks are reported, and digests are sent again. -/
theorem portUp_eq (h : (((broken s p).foldl breakBlock (portFreed s p)).resendDigests).buckets = []) :
    s.portUp p = ((broken s p).foldl breakBlock (portFreed s p)).resendDigests := by
  unfold State.portUp
  extract_lets reqs blocks freed told
  have hfreed : freed = portFreed s p := rfl
  have htold : told = (broken s p).foldl breakBlock freed := rfl
  clear_value told freed
  rw [hfreed] at htold
  rw [← htold] at h ⊢
  exact retire_none h

theorem broken_nil (h : ∀ x ∈ s.portWait, (x.1 == p) = true → x.2.2.2.whole = true) : broken s p = [] := by
  unfold broken
  rw [List.filter_filter, List.filter_eq_nil_iff]
  intro x hx hboth
  rw [Bool.and_eq_true, Bool.not_eq_true'] at hboth
  rw [h x hx hboth.2] at hboth
  exact nomatch hboth.1

/-- With nothing broken and no digest held, what waited leaves. -/
theorem portUp_whole (hb : s.buckets = []) (hd : s.heldDigests = []) (h : broken s p = []) : s.portUp p = portFreed s p := by
  have hdone : ((broken s p).foldl breakBlock (portFreed s p)).resendDigests = portFreed s p := by
    rw [h]
    exact resendDigests_nil hd
  rw [portUp_eq (by rw [hdone]; exact hb), hdone]

theorem filter_whole {bs : List WireBlock} (h : ∀ b ∈ bs, b.whole = true) : bs.filter WireBlock.whole = bs := List.filter_eq_self.mpr h

/-- A block that does not check is not sent, and its launch is stopped. -/
theorem portUp_broken {launch since : Nat} {b : WireBlock} (hb : s.buckets = []) (hd : s.heldDigests = []) (hl : s.latWait = [])
    (hp : s.portWait = [(p, launch, since, b)]) (hbad : b.whole = false) : (s.portUp p).sentBlocks = s.sentBlocks ∧ (s.portUp p).portWait = [] ∧
      (s.portUp p).agenda = s.agenda ++ [.launchStop launch .fault (some (checkReport 0x01 0))] := by
  have hbroken : broken s p = [(p, launch, since, b)] := by
    unfold broken
    rw [hp]
    simp [hbad]
  have hfreed : (portFreed s p).sentBlocks = s.sentBlocks ∧ (portFreed s p).portWait = [] ∧ (portFreed s p).agenda = s.agenda := by
    unfold portFreed State.post
    rw [hp, hl]
    simp [hbad]
  obtain ⟨_, _, _, _, _, _, _, _, _, hlog⟩ := Frame.logged_logError (portFreed s p) 0x01 0x01 0x7FF 0 0 0 launch 0
  have hstep : (portFreed s p).blockBroken launch = ((portFreed s p).logError 0x01 0x01 0x7FF 0 0 0 launch 0).report launch (checkReport 0x01 0) := by
    rw [State.blockBroken]
  rw [hlog] at hstep
  have hbuckets : ((portFreed s p).blockBroken launch).buckets = [] := by rw [hstep]; exact hb
  have hheld : ((portFreed s p).blockBroken launch).heldDigests = [] := by rw [hstep]; exact hd
  have hdone : ((broken s p).foldl breakBlock (portFreed s p)).resendDigests = (portFreed s p).blockBroken launch := by
    rw [hbroken]
    exact resendDigests_nil hheld
  rw [portUp_eq (by rw [hdone]; exact hbuckets), hdone, hstep]
  exact ⟨hfreed.1, hfreed.2.1, congrArg (fun es => es ++ [Event.launchStop launch .fault (some (checkReport 0x01 0))]) hfreed.2.2⟩

theorem portFreed_nil (hp : s.portWait = []) (hl : s.latWait = []) (hf : s.flitWait = []) : portFreed s p = s := by
  unfold portFreed State.post
  rw [hp, hl, hf]
  simp only [List.filter_nil, List.map_nil, List.append_nil]
  rw [← hp, ← hf]
  have hlat : ({ s with latWait := [] } : State) = s := by rw [← hl]
  exact hlat

/-- A device routed over a port. -/
theorem portTo_routed {dest : Nat} (hd : dest < 64) (hp : p < 8) (hr : (s.fleet.wroute.toList.getD dest 0).toNat % 16 = 8 + p) :
    s.portTo dest = some (p, (s.link (32 + p)).up) := by
  have hbit : (s.fleet.wroute.toList.getD dest 0).getLsbD 3 = true := by
    rw [BitVec.getLsbD, Nat.testBit_eq_decide_div_mod_eq, decide_eq_true_eq]
    omega
  rw [Digest.portTo_eq hd, if_pos hbit, show (s.fleet.wroute.toList.getD dest 0).toNat % 8 = p by omega]

theorem sendDigest_up {m : Nat × Nat × Nat × Word} (h : s.portTo m.1 = some (p, true)) : s.sendDigest m = { s with sentDigests := s.sentDigests ++ [m] } := by
  unfold State.sendDigest
  rw [h]

/-- The only digest held, as its port comes up. -/
theorem resendDigests_one {dest group step since : Nat} {d : Word} (h : s.heldDigests = [(dest, group, step, d, since)])
    (hto : s.portTo dest = some (p, true)) :
    s.resendDigests = { s with heldDigests := [], sentDigests := s.sentDigests ++ [(dest, group, step, d)] } := by
  have hto' : ({ s with heldDigests := [] } : State).portTo dest = some (p, true) := hto
  unfold State.resendDigests
  extract_lets up
  have hup : up (dest, group, step, d, since) = true := by
    change (match s.portTo dest with | some (_, b) => b | none => true) = true
    rw [hto]
  rw [h, List.filter_cons_of_pos hup, List.filter_nil, List.foldl_cons, List.foldl_nil,
    List.filter_cons_of_neg (by rw [hup]; exact Bool.false_ne_true), List.filter_nil, sendDigest_up hto']

theorem portUp_digest {dest group step since : Nat} {d : Word} (hb : s.buckets = []) (hp : s.portWait = []) (hl : s.latWait = []) (hf : s.flitWait = [])
    (hd : s.heldDigests = [(dest, group, step, d, since)]) (hto : s.portTo dest = some (p, true)) :
    s.portUp p = { s with heldDigests := [], sentDigests := s.sentDigests ++ [(dest, group, step, d)] } := by
  have hbroken : broken s p = [] := broken_nil (by rw [hp]; exact fun x hx => nomatch hx)
  have hdone : ((broken s p).foldl breakBlock (portFreed s p)).resendDigests =
      { s with heldDigests := [], sentDigests := s.sentDigests ++ [(dest, group, step, d)] } := by
    rw [hbroken, List.foldl_nil, portFreed_nil hp hl hf, resendDigests_one hd hto]
  rw [portUp_eq (by rw [hdone]; exact hb), hdone]

/-! ## Overdue transfers (R396) -/

/-- A state whose waits, cores and buckets are these. -/
theorem same_waits {pw : List (Nat × Nat × Nat × WireBlock)} {lw : List (Nat × Nat × LatReq)} {fw : List (Nat × Nat × SweepFlit)}
    {hd : List (Nat × Nat × Nat × Word × Nat)} (h2 : s.latWait = lw) (h3 : s.flitWait = fw) (h4 : s.heldDigests = hd) (h5 : s.cores = []) (h6 : s.buckets = []) :
    ({ s with portWait := pw, latWait := lw, flitWait := fw, heldDigests := hd, cores := [], buckets := [] } : State) = { s with portWait := pw } := by
  rw [← h2, ← h3, ← h4, ← h5, ← h6]

theorem late_iff (s : State) (p t : Nat) : s.late p p t = decide (2 ^ 24 ≤ s.gtime - t) := by
  unfold State.late
  rw [beq_self_eq_true, Bool.true_and]

/-- No core or bucket and no other wait: the transfers that wait are the blocks. -/
theorem portWaits_blocks (hl : s.latWait = []) (hf : s.flitWait = []) (hc : s.cores = []) (hb : s.buckets = []) :
    s.portWaits = s.portWait.map fun x => (x.2.1, x.1, x.2.2.1) := by
  unfold State.portWaits
  rw [hl, hf, hc, hb]
  simp only [List.map_nil, List.flatMap_nil, List.filterMap_nil, List.append_nil]

variable {launch since : Nat} {b : WireBlock}

theorem dropLate_block (hp : s.portWait = [(p, launch, since, b)]) (hl : s.latWait = []) (hf : s.flitWait = []) (hd : s.heldDigests = [])
    (hc : s.cores = []) (hb : s.buckets = []) :
    s.dropLate p = { s with portWait := if 2 ^ 24 ≤ s.gtime - since then [] else [(p, launch, since, b)] } := by
  have hdrop : s.dropLate p = { s with portWait := if 2 ^ 24 ≤ s.gtime - since then [] else [(p, launch, since, b)],
                                       latWait := [], flitWait := [], heldDigests := [], cores := [], buckets := [] } := by
    unfold State.dropLate
    extract_lets gone digests
    rw [hl, hf, hd, hc, hb, hp]
    simp only [List.filter_nil, List.map_nil, List.filter_cons, late_iff s p since]
    by_cases h : 2 ^ 24 ≤ s.gtime - since
    · simp only [h, decide_true, Bool.not_true, if_true, if_neg Bool.false_ne_true]
    · simp only [h, decide_false, Bool.not_false, if_true, if_false]
  rw [hdrop, same_waits hl hf hd hc hb]

theorem overdue_block (hp : s.portWait = [(p, launch, since, b)]) (hl : s.latWait = []) (hf : s.flitWait = [])
    (hc : s.cores = []) (hb : s.buckets = []) : s.overdue p = if 2 ^ 24 ≤ s.gtime - since then [launch] else [] := by
  unfold State.overdue
  rw [portWaits_blocks hl hf hc hb, hp]
  simp only [List.map_cons, List.map_nil, List.filter_cons, List.filter_nil, late_iff s p since, decide_eq_true_eq]
  split <;> rfl

theorem lateDigests_nil (hd : s.heldDigests = []) : s.lateDigests p = [] := by
  unfold State.lateDigests
  rw [hd]
  rfl

theorem stopped_logged {t : State} (h : Frame.Logged s t) (n : Nat) : t.stopped n = s.stopped n := by
  obtain ⟨_, _, _, _, _, _, _, _, _, rfl⟩ := h
  rfl

/-- Nothing overdue, nothing given up. -/
theorem portTimeout_none (ho : s.overdue p = []) (hd : s.lateDigests p = []) (h : s.dropLate p = s) : s.portTimeout p = s := by
  unfold State.portTimeout
  rw [ho, hd, h]
  rfl

/-- One overdue transfer of a live launch. -/
theorem portTimeout_one {t : State} (ho : s.overdue p = [launch]) (hd : s.lateDigests p = []) (h : s.dropLate p = t) (hl : t.stopped launch = false) :
    s.portTimeout p = (t.logError 0x33 0 0x7FF 0 0 0 launch (BitVec.ofNat 64 p)).cpStop launch := by
  have hstill := (stopped_logged (Frame.logged_logError t 0x33 0 0x7FF 0 0 0 launch (BitVec.ofNat 64 p)) launch).trans hl
  unfold State.portTimeout
  rw [ho, hd, h]
  simp only [List.foldl_cons, List.foldl_nil, List.dedup_eq_self.mpr (List.nodup_singleton launch)]
  rw [List.filter_cons_of_pos (by rw [hstill]; rfl)]
  rfl

/-- One overdue digest. -/
theorem portTimeout_digest {t : State} {m : Nat × Nat × Nat × Word × Nat} (ho : s.overdue p = []) (hd : s.lateDigests p = [m]) (h : s.dropLate p = t) :
    s.portTimeout p = recorded t 0x33 p := by
  unfold State.portTimeout
  rw [ho, hd, h]
  rfl

variable {dest group step : Nat} {d : Word}

theorem lateDigests_one (hd : s.heldDigests = [(dest, group, step, d, since)]) {up : Bool} (hto : s.portTo dest = some (p, up))
    (hlate : 2 ^ 24 ≤ s.gtime - since) : s.lateDigests p = [(dest, group, step, d, since)] := by
  unfold State.lateDigests
  rw [hd, List.filter_cons_of_pos ?_, List.filter_nil]
  rw [hto]
  exact (late_iff s p since).trans (decide_eq_true hlate)

theorem dropLate_digest (hp : s.portWait = []) (hl : s.latWait = []) (hf : s.flitWait = []) (hc : s.cores = []) (hb : s.buckets = [])
    (hd : s.heldDigests = [(dest, group, step, d, since)]) (hlate : s.lateDigests p = [(dest, group, step, d, since)]) :
    s.dropLate p = { s with heldDigests := [] } := by
  have hdrop : s.dropLate p = { s with portWait := [], latWait := [], flitWait := [], heldDigests := [], cores := [], buckets := [] } := by
    unfold State.dropLate
    rw [hl, hf, hd, hc, hb, hp, hlate]
    simp
  have hrest : ({ s with portWait := [], latWait := [], flitWait := [], heldDigests := [], cores := [], buckets := [] } : State) =
      { s with heldDigests := [] } := by rw [← hp, ← hl, ← hf, ← hc, ← hb]
  rw [hdrop, hrest]

end Sys2Proof.Links

/-! # The package's surroundings -/

namespace Sys2Proof.Platform
open Sys2Proof Sys2Proof.Machine Sys2Proof.Claims

variable {s : State} {g : Nat} {o : ScrubOutcome}

/-! ## The scrubber (R389) -/

theorem scrub_off (h : s.fleet.scrubctl.getLsbD 0 = false) : s.scrub g o = s := by
  unfold State.scrub
  rw [h]
  rfl

/-- A granule read and rewritten. -/
def scrubbed (s : State) (g : Nat) : ScrubOutcome → State
  | .uncorrectable => { s with poison := if s.poison.contains g then s.poison else g :: s.poison }.logHost 0x02 (32 * g)
  | .corrected => (State.scrub.mismatch s g).count 0x09 (32 * g / 2 ^ 36)
  | .clean => State.scrub.mismatch s g

theorem scrub_on (h : s.fleet.scrubctl.getLsbD 0 = true) (hp : populated (32 * g) = true) (o : ScrubOutcome) : s.scrub g o =
    if g = lastGranule then
      { scrubbed s g o with fleet := { (scrubbed s g o).fleet with scrubcnt := BitVec.ofNat 64 (((scrubbed s g o).fleet.scrubcnt.toNat + 1) % 2 ^ 32) } }
    else scrubbed s g o := by
  unfold State.scrub
  rw [h, hp, if_neg (by decide)]
  cases o <;> rfl

theorem scrub_inside (h : s.fleet.scrubctl.getLsbD 0 = true) (hp : populated (32 * g) = true) (hg : g ≠ (7 * 2 ^ 36 + 48 * 2 ^ 30) / 32 - 1)
    (o : ScrubOutcome) : s.scrub g o = scrubbed s g o := by
  rw [scrub_on h hp]
  exact if_neg hg

theorem scrub_end (h : s.fleet.scrubctl.getLsbD 0 = true) (hp : populated (32 * g) = true) (hg : g = (7 * 2 ^ 36 + 48 * 2 ^ 30) / 32 - 1)
    (o : ScrubOutcome) : s.scrub g o =
      { scrubbed s g o with fleet := { (scrubbed s g o).fleet with scrubcnt := BitVec.ofNat 64 (((scrubbed s g o).fleet.scrubcnt.toNat + 1) % 2 ^ 32) } } := by
  rw [scrub_on h hp]
  exact if_pos hg

theorem mismatch_good (h : s.badGranule g = false) : State.scrub.mismatch s g = s := by
  unfold State.scrub.mismatch
  rw [h]
  rfl

/-- The granule poisoned. -/
def poisoned (s : State) (g : Nat) : State := { s with poison := if g ∈ s.poison then s.poison else g :: s.poison }

theorem poisoned_eq (s : State) (g : Nat) : { s with poison := if s.poison.contains g then s.poison else g :: s.poison } = poisoned s g := by
  unfold poisoned
  simp only [List.contains_iff_mem]

theorem mismatch_bad (h : s.badGranule g = true) :
    State.scrub.mismatch s g = (poisoned s g).logError 0x01 0x01 0x7FF 0 0 0 0xFFF (BitVec.ofNat 64 (32 * g)) := by
  unfold State.scrub.mismatch
  rw [h, if_pos rfl, poisoned_eq]

theorem badGranule_iff (s : State) (g : Nat) : s.badGranule g = true ↔ g ∈ s.poison ∨ s.mismatched g = true := by
  unfold State.badGranule
  rw [Bool.or_eq_true, List.contains_iff_mem]

/-! ## Level samples (R384) -/

variable {die : Fin 8} {unit : Fin 32} {v : Nat}

theorem levelSample_off (h : (s.capture die unit).ctl.getLsbD 8 = false ∨ (s.capture die unit).ctl.toNat % 256 < 5 ∨
    9 < (s.capture die unit).ctl.toNat % 256) : s.levelSample die unit v = s := by
  unfold State.levelSample
  refine if_neg ?_
  rw [Bool.and_eq_true, decide_eq_true_eq]
  unfold Capture.en Capture.src
  rintro ⟨hen, hsrc⟩
  rcases h with h | h
  · rw [h] at hen
    exact nomatch hen
  · omega

theorem levelSample_on (hen : (s.capture die unit).ctl.getLsbD 8 = true) (h5 : 5 ≤ (s.capture die unit).ctl.toNat % 256)
    (h9 : (s.capture die unit).ctl.toNat % 256 ≤ 9) : s.levelSample die unit v =
      { s with captures := s.captures.put (32 * die.val + unit.val) ((s.capture die unit).record s.gtime v) } := by
  unfold State.levelSample
  refine if_pos ?_
  rw [Bool.and_eq_true, decide_eq_true_eq]
  exact ⟨hen, h5, h9⟩

theorem record_cleared {u : Capture} {now : Nat} (h : u.clearedAt = some now) : u.record now v = u := if_pos h

/-- A sample of less than 32 bits recorded. -/
theorem record_eq {u : Capture} {now : Nat} (hc : u.clearedAt ≠ some now) (hh : u.ctl.getLsbD 9 = false) (hv : v < 2 ^ 32) (hcnt : u.cnt < 2 ^ 64 - 1) :
    let b := if v = 0 then 0 else min 31 (1 + Nat.log2 v)
    let h := u.hist.setIfInBounds b (min (u.hist.toList.getD b 0 + 1) (2 ^ 32 - 1))
    u.record now v = { u with min := min u.min v, max := max u.max v, cnt := u.cnt + 1, hist := h } := by
  have hmin : Nat.min v (2 ^ 32 - 1) = v := Nat.min_eq_left (by omega)
  have hmod : (u.cnt + 1) % 2 ^ 64 = u.cnt + 1 := Nat.mod_eq_of_lt (by omega)
  unfold Capture.record
  simp only [hmin, hmod, if_neg hc]
  exact if_neg (by rw [Capture.holds, hh]; exact Bool.false_ne_true)

/-! ## Events not in transit -/

theorem takeEventO_nil (f : Event → Option (State → Host.Outcome State Fault Refusal)) (h : s.agenda = []) : takeEventO s f = .next s := by
  unfold takeEventO
  rw [h]

theorem takeEventO_other (f : Event → Option (State → Host.Outcome State Fault Refusal)) {e : Event} {rest : List Event} (h : s.agenda = e :: rest)
    (hf : f e = none) : takeEventO s f = .next s := by
  unfold takeEventO
  rw [h]
  simp only [hf]

theorem coefficientTableLoad_other (h : ∀ e' rest, s.agenda = e' :: rest → e'.row ≠ .coefficientTableLoad) : execCoefficientTableLoad s = .next s := by
  unfold execCoefficientTableLoad
  split
  next hag => exact absurd rfl (h _ _ hag)
  next => rfl

/-- An event other than the first in transit does nothing. -/
theorem exec_other (e : Event) (h : ∀ e' rest, s.agenda = e' :: rest → e'.row ≠ e.row) : exec e.row s = .next s := by
  rcases hag : s.agenda with _ | ⟨e', rest⟩
  · cases e
    case coefficientTableLoad => exact coefficientTableLoad_other h
    case thresholdReadAtHome | remoteWordAccess => exact takeEventO_nil _ hag
    all_goals exact takeEvent_nil s _ hag
  · have hne := h e' rest hag
    cases e
    case coefficientTableLoad => exact coefficientTableLoad_other h
    case thresholdReadAtHome | remoteWordAccess =>
      refine takeEventO_other _ hag ?_
      split
      · exact absurd rfl hne
      · rfl
    case regbuf | freebuf | regarena | freearena | retag | driverXinv | driverCinv | stop | reclaim | restore | saveretry | corecmd | rotkey
      | unknownDriverCommand | digest => exact takeEvent_other s _ e' rest hag (if_neg fun he => hne (congrArg Event.row he))
    all_goals
      refine takeEvent_other s _ e' rest hag ?_
      split
      · exact absurd rfl hne
      · rfl

/-! ## The obligation -/

/-- The SPDM responder's answers. -/
theorem spdm_answers (s : State) : let answer (e : Event) (r : SpdmResp) : Prop := fires e s = .next { s with spdm := some r }
    (s.powered = false ∨ s.regs.bootst.toNat % 8 < 3 → ∀ e ∈ [Event.getVersion, .getCapabilities, .getDigests], fires e s = .next s) ∧
    (s.powered = false ∨ s.regs.bootst.toNat % 8 < 3 → ∀ x y z nonce, fires (.negotiateAlgorithms x y) s = .next s ∧
      fires (.getCertificate x y z) s = .next s ∧ fires (.challenge nonce) s = .next s ∧ fires (.getMeasurements x) s = .next s) ∧
    (s.powered = true → 3 ≤ s.regs.bootst.toNat % 8 →
      answer .getVersion .version ∧ answer .getCapabilities .capabilities ∧
      (∀ asym hash, asym / 2 ^ 7 % 2 = 1 → hash / 2 % 2 = 1 → answer (.negotiateAlgorithms asym hash) .algorithms) ∧
      (∀ asym hash, asym / 2 ^ 7 % 2 = 0 ∨ hash / 2 % 2 = 0 → answer (.negotiateAlgorithms asym hash) .error) ∧
      answer .getDigests (.digests Config.certificateDigest) ∧
      (∀ off len, answer (.getCertificate 0 off len) (.certificate ((Config.certificate.drop off).take len))) ∧
      (∀ slot off len, slot ≠ 0 → answer (.getCertificate slot off len) .error) ∧
      (∀ nonce, answer (.challenge nonce) (.challengeAuth (Config.challengeSignature nonce))) ∧
      answer (.getMeasurements 0xFF) (.measurements s.measures) ∧
      (∀ i m, 0 < i → i < 0xFF → s.measures = [(i, m)] → answer (.getMeasurements i) (.measurements [(i, m)])) ∧
      (∀ i, 0 < i → i < 0xFF → (∀ m ∈ s.measures, m.1 ≠ i) → answer (.getMeasurements i) .error)) := by
  intro answer
  refine ⟨fun h e he => ?_, fun h x y z nonce => ?_, fun hp h => ?_⟩
  · simp only [List.mem_cons, List.not_mem_nil, or_false] at he
    rcases he with rfl | rfl | rfl <;> exact congrArg Host.Outcome.next (Boot.respond_asleep h)
  · exact ⟨congrArg Host.Outcome.next (Boot.respond_asleep h), congrArg Host.Outcome.next (Boot.respond_asleep h),
      congrArg Host.Outcome.next (Boot.respond_asleep h), congrArg Host.Outcome.next (Boot.respond_asleep h)⟩
  · have halive (r : SpdmResp) : (Host.Outcome.next (s.respond r) : Host.Outcome State Fault Refusal) = .next { s with spdm := some r } :=
      congrArg Host.Outcome.next (Boot.respond_alive hp h)
    refine ⟨halive _, halive _, fun asym hash ha hh => ?_, fun asym hash hah => ?_, halive _, fun off len => halive _, fun slot off len hslot => ?_,
      fun nonce => halive _, halive _, fun i m h0 hi hm => ?_, fun i h0 hi hm => ?_⟩
    · have hr : (if bitAt asym asymP384 && bitAt hash hashSha384 then SpdmResp.algorithms else .error) = .algorithms :=
        if_pos ((Boot.algorithms_iff asym hash).mpr ⟨ha, hh⟩)
      exact (congrArg (fun r => Host.Outcome.next (s.respond r)) hr).trans (halive _)
    · have hr : (if bitAt asym asymP384 && bitAt hash hashSha384 then SpdmResp.algorithms else .error) = .error :=
        if_neg (mt (Boot.algorithms_iff asym hash).mp (by omega))
      exact (congrArg (fun r => Host.Outcome.next (s.respond r)) hr).trans (halive _)
    · have hr : certPart slot off len = .error := if_neg hslot
      exact (congrArg (fun r => Host.Outcome.next (s.respond r)) hr).trans (halive _)
    · exact (congrArg (fun r => Host.Outcome.next (s.respond r)) (Boot.measured_one h0 hi hm)).trans (halive _)
    · exact (congrArg (fun r => Host.Outcome.next (s.respond r)) (Boot.measured_none h0 hi hm)).trans (halive _)

theorem powerCap_fires {watts : Nat} (hw : watts < 2 ^ 16) : fires (.powerCapThrottle watts) s =
    .next { s with fleet := { s.fleet with pwrnow := BitVec.ofNat 64 (Config.temperature s.moment % 2 ^ 16 * 2 ^ 16 + watts) },
                   throttled := decide (s.fleet.pwrcap.toNat % 2 ^ 16 < watts) } := by
  have hmin : min watts 0xFFFF = watts := Nat.min_eq_left (by omega)
  have hbits : bits s.fleet.pwrcap.toNat 15 0 = s.fleet.pwrcap.toNat % 2 ^ 16 := by
    unfold bits
    rw [Nat.pow_zero, Nat.div_one]
  have hfire : fires (.powerCapThrottle watts) s =
      .next { s with fleet := { s.fleet with pwrnow := BitVec.ofNat 64 (Config.temperature s.moment % 2 ^ 16 * 2 ^ 16 + min watts 0xFFFF) },
                     throttled := decide (bits s.fleet.pwrcap.toNat 15 0 < watts) } := rfl
  rw [hfire, hmin, hbits]

theorem otherUp_iff {d m : Nat} : Links.otherUp s d m ↔ ∃ j, j < 4 ∧ j ≠ m ∧ ((s.link (4 * d + j)).st = 1 ∨ (s.link (4 * d + j)).st = 2) := by
  unfold Links.otherUp
  simp only [Links.up_iff]

/-- The second state waits for ports, holds and has sent what the first does. -/
structure SameWaits (s r : State) : Prop where
  portWait : r.portWait = s.portWait
  latWait : r.latWait = s.latWait
  flitWait : r.flitWait = s.flitWait
  heldDigests : r.heldDigests = s.heldDigests
  buckets : r.buckets = s.buckets
  sentBlocks : r.sentBlocks = s.sentBlocks
  sentFlits : r.sentFlits = s.sentFlits
  sentDigests : r.sentDigests = s.sentDigests
  agenda : r.agenda = s.agenda
  fleet : r.fleet = s.fleet

theorem portMoved_waits (s : State) (p st peer : Nat) : SameWaits s (recorded (Links.portMoved s p st peer) 0x32 p) := by
  obtain ⟨_, _, _, _, _, _, _, _, _, h⟩ := Frame.logged_logError (Links.portMoved s p st peer) 0x32 0 0x7FF 0 0 0 0xFFF (BitVec.ofNat 64 p)
  unfold recorded
  rw [h]
  exact ⟨rfl, rfl, rfl, rfl, rfl, rfl, rfl, rfl, rfl, rfl⟩

/-- What leaves when a port comes up and every block that waited for it checks. -/
theorem portUp_frees {r : State} {p : Nat} (h : SameWaits s r) (hb : s.buckets = []) (hd : s.heldDigests = [])
    (hwhole : ∀ x ∈ s.portWait, (x.1 == p) = true → x.2.2.2.whole = true) : r.portUp p =
      { r with portWait := s.portWait.filter (fun (x : Nat × Nat × Nat × WireBlock) => !(x.1 == p)),
               flitWait := s.flitWait.filter (fun (x : Nat × Nat × SweepFlit) => x.1 != p),
               sentFlits := s.sentFlits ++ (s.flitWait.filter fun (x : Nat × Nat × SweepFlit) => x.1 == p).map fun (x : Nat × Nat × SweepFlit) => x.2.2,
               latWait := s.latWait.filter (fun (x : Nat × Nat × LatReq) => x.1 != p),
               sentBlocks := s.sentBlocks ++ (s.portWait.filter fun (x : Nat × Nat × Nat × WireBlock) => x.1 == p).map fun (x : Nat × Nat × Nat × WireBlock) => x.2.2.2 }.post
        ((s.latWait.filter fun (x : Nat × Nat × LatReq) => x.1 == p).map fun (x : Nat × Nat × LatReq) => Event.latticeRequestApply x.2.2) := by
  have hsent : ((s.portWait.filter fun (x : Nat × Nat × Nat × WireBlock) => x.1 == p).map fun (x : Nat × Nat × Nat × WireBlock) => x.2.2.2).filter WireBlock.whole =
      (s.portWait.filter fun (x : Nat × Nat × Nat × WireBlock) => x.1 == p).map fun (x : Nat × Nat × Nat × WireBlock) => x.2.2.2 := by
    refine Links.filter_whole fun b hb => ?_
    obtain ⟨x, hx, rfl⟩ := List.mem_map.mp hb
    obtain ⟨hmem, hport⟩ := List.mem_filter.mp hx
    exact hwhole x hmem hport
  rw [Links.portUp_whole (h.buckets.trans hb) (h.heldDigests.trans hd) (Links.broken_nil (by rw [h.portWait]; exact hwhole))]
  unfold Links.portFreed
  rw [h.portWait, h.flitWait, h.latWait, h.sentBlocks, h.sentFlits, hsent]
  rfl

/-- Settles O49: boot, mailbox, power, links, transfers, scrubber and samples, one event each. -/
theorem platformEvents : Obligations.PlatformEvents := by
  unfold Obligations.PlatformEvents
  refine ⟨fun s fail h => ?_, fun s n hpow hag h1 h6 hboot => ⟨fun code hcode hf => ?_, fun hf => ?_⟩, spdm_answers, fun s => ⟨rfl, rfl⟩,
    fun s watts hw => powerCap_fires hw, fun s n => ?_, fun s die m st => ?_, fun s n => ?_, fun s p st peer => ?_,
    fun s p launch since b hpw hl hf hd hc hb hstop => ?_,
    fun s p dest group step since d hpw hl hf hc hb hd hdest hroute hlate => ?_, fun s g o => ?_, fun s die unit v => ?_, fun s e h => exec_other e h⟩
  · exact ⟨_, Boot.fires_powerOn h, rfl, Boot.bootWord_going (by decide), rfl, rfl, rfl, rfl, rfl, rfl, rfl, rfl⟩
  · exact Boot.boot_fails ⟨hpow, hag, h1, h6, hboot⟩ hcode hf
  · exact Boot.boot_advances ⟨hpow, hag, h1, h6, hboot⟩ hf
  · rfl
  · intro n c l up other t
    refine ⟨fun hst => congrArg Host.Outcome.next (Links.moduleState_same hst), fun hst hstays => ?_, fun hup hdown hother hcut => ?_, fun n => ⟨_, rfl⟩⟩
    · have hcuts : Links.cuts s die.val m.val st.val = false := by
        rw [← Bool.not_eq_true, Links.cuts_iff m.isLt, Links.up_iff, Links.up_iff, otherUp_iff]
        rintro ⟨hup, hdown, hother, hcut⟩
        rcases hstays with h | h | h | h
        · exact hdown h
        · exact h hup
        · exact hother h
        · exact hcut h
      exact congrArg Host.Outcome.next ((Links.moduleState_moved hst).trans (if_neg (by rw [hcuts]; exact Bool.false_ne_true)))
    · have hst : l.st ≠ st.val := fun hst => hdown (by rw [← hst]; exact hup)
      have hcuts : Links.cuts s die.val m.val st.val = true := by
        rw [Links.cuts_iff m.isLt, Links.up_iff, Links.up_iff, otherUp_iff]
        exact ⟨hup, hdown, hother, hcut⟩
      refine congrArg Host.Outcome.next ((Links.moduleState_moved hst).trans ((if_pos hcuts).trans ?_))
      rw [Links.moduleMoved_cut]
      rfl
  · exact ⟨_, rfl, Links.replayed_keeps s n.val⟩
  · intro n c l l' t
    refine ⟨fun hst => congrArg Host.Outcome.next (Links.portState_same hst), fun hst hdown => congrArg Host.Outcome.next (Links.portState_down hst hdown),
      fun hst hup hb => ?_⟩
    intro r here
    have hfire : fires (.welsaPortStateChange p st peer) s = .next (r.portUp p.val) := congrArg Host.Outcome.next (Links.portState_up hst hup)
    have hw : SameWaits s r := portMoved_waits s p st peer
    have hlink : (r.link n).up = true := by
      have hlog : Frame.Logged t r := Frame.logged_logError ..
      rw [Links.link_logged hlog]
      exact Links.portMoved_up (s := s) (peer := peer.val) hup
    refine ⟨fun hd hwhole => ?_, fun launch since b hpw hbad hd hl => ?_, fun dest group step d since hd hpw hl hf hdest hroute => ?_⟩
    · exact hfire.trans (congrArg Host.Outcome.next (portUp_frees hw hb hd hwhole))
    · obtain ⟨hsent, hpw', hag⟩ := Links.portUp_broken (hw.buckets.trans hb) (hw.heldDigests.trans hd) (hw.latWait.trans hl) (hw.portWait.trans hpw) hbad
      exact ⟨_, hfire, hsent.trans hw.sentBlocks, hpw', hag.trans (by rw [hw.agenda])⟩
    · have hto : r.portTo dest = some (p.val, true) := by
        rw [Links.portTo_routed hdest p.isLt (by rw [hw.fleet]; exact hroute), hlink]
      rw [hfire, Links.portUp_digest (hw.buckets.trans hb) (hw.portWait.trans hpw) (hw.latWait.trans hl) (hw.flitWait.trans hf) (hw.heldDigests.trans hd) hto,
        hw.sentDigests]
  · have hover := Links.overdue_block (p := p.val) hpw hl hf hc hb
    have hdrop := Links.dropLate_block (p := p.val) hpw hl hf hd hc hb
    refine ⟨fun hearly => congrArg Host.Outcome.next ?_, fun hlate => congrArg Host.Outcome.next ?_⟩
    · rw [if_neg (by omega)] at hover hdrop
      rw [← hpw] at hdrop
      exact Links.portTimeout_none hover (Links.lateDigests_nil hd) hdrop
    · rw [if_pos hlate] at hover hdrop
      exact Links.portTimeout_one hover (Links.lateDigests_nil hd) hdrop hstop
  · have hto := Links.portTo_routed (s := s) hdest p.isLt hroute
    have hlates := Links.lateDigests_one hd hto hlate
    have hover : s.overdue p.val = [] := by
      unfold State.overdue
      rw [Links.portWaits_blocks hl hf hc hb, hpw]
      rfl
    exact congrArg Host.Outcome.next (Links.portTimeout_digest hover hlates (Links.dropLate_digest hpw hl hf hc hb hd hlates))
  · intro last
    refine ⟨fun hoff => congrArg Host.Outcome.next (scrub_off hoff), fun hon hpop hgood => ⟨fun hg => ?_, fun hg => ?_, fun hg => ?_⟩,
      fun hon hpop hg => ?_, fun h => (badGranule_iff s g).mpr h⟩
    · exact congrArg Host.Outcome.next ((scrub_inside hon hpop hg .clean).trans (mismatch_good hgood))
    · refine congrArg Host.Outcome.next ((scrub_end hon hpop hg .clean).trans ?_)
      rw [show scrubbed s g .clean = s from mismatch_good hgood]
    · have hscrub : s.scrub g .corrected = s.count 0x09 (32 * g / 2 ^ 36) := by
        rw [scrub_inside hon hpop hg, scrubbed, mismatch_good hgood]
      exact ⟨_, congrArg Host.Outcome.next hscrub, rfl, rfl, rfl⟩
    · intro marked
      refine ⟨congrArg Host.Outcome.next ((scrub_inside hon hpop hg .uncorrectable).trans ?_), fun hbad => ?_⟩
      · exact congrArg (fun t : State => recorded t 0x02 (32 * g)) (poisoned_eq s g)
      · have hfound := mismatch_bad hbad
        refine ⟨congrArg Host.Outcome.next ((scrub_inside hon hpop hg .clean).trans hfound), _,
          congrArg Host.Outcome.next (scrub_inside hon hpop hg .corrected), ?_⟩
        rw [scrubbed, hfound]
        obtain ⟨_, _, _, _, _, _, _, _, _, hlog⟩ := Frame.logged_logError marked 0x01 0x01 0x7FF 0 0 0 0xFFF (BitVec.ofNat 64 (32 * g))
        rw [show poisoned s g = marked from rfl, hlog]
        rfl
  · intro u src
    refine ⟨fun h => congrArg Host.Outcome.next (levelSample_off h), fun hen h5 h9 hcl => ?_, fun hen hhold hcl h5 h9 hv hcnt => ?_⟩
    · refine congrArg Host.Outcome.next ((levelSample_on hen h5 h9).trans ?_)
      rw [record_cleared hcl]
    · refine congrArg Host.Outcome.next ((levelSample_on hen h5 h9).trans ?_)
      rw [record_eq hcl hhold hv hcnt]

end Sys2Proof.Platform

/-! # The Odometer's sweeps -/

namespace Sys2Proof.Sweeps
open Sys2Proof Sys2Proof.Machine Sys2Proof.Claims

variable {s : State} {l : Launch} {n : Nat}

/-! ## A sole launch -/

theorem launch?_sole (h : s.launches = [l]) (hn : l.num = n) (hst : l.st = .live) : s.launch? n = some l := by
  unfold State.launch?
  rw [h, List.find?_cons_of_pos (by rw [hn, hst, beq_self_eq_true]; rfl)]

theorem updLaunch_sole (f : Launch → Launch) (h : s.launches = [l]) (hn : l.num = n) (hst : l.st = .live) :
    s.updLaunch n f = { s with launches := [f l] } := by
  have hp : (l.num == n && l.st != .waiting) = true := by rw [hn, hst, beq_self_eq_true]; rfl
  unfold State.updLaunch
  rw [h, updFirst, if_pos hp]

theorem same_launches (h : s.launches = [l]) : { s with launches := [l] } = s := by rw [← h]

/-! ## A sweep begins (R89) -/

theorem colour_iff (s : State) : s.colour = decide (s.sweep % 2 = 1) := by
  unfold State.colour
  rw [beq_eq_decide]

theorem ofColour_closing (s : State) (x : Nat × Nat) : ofColour (!s.colour) x = if s.sweep % 2 = 1 then x.1 else x.2 := by
  rw [colour_iff]
  unfold ofColour
  by_cases h : s.sweep % 2 = 1
  · rw [if_pos h, decide_eq_true h]
    rfl
  · rw [if_neg h, decide_eq_false h]
    rfl

theorem freshColour_closing (s : State) (x : Nat × Nat) :
    freshColour (!s.colour) x = if s.sweep % 2 = 1 then (2 ^ 64 - 1, x.2) else (x.1, 2 ^ 64 - 1) := by
  rw [colour_iff]
  unfold freshColour
  by_cases h : s.sweep % 2 = 1
  · rw [if_pos h, decide_eq_true h]
    rfl
  · rw [if_neg h, decide_eq_false h]
    rfl

theorem sweepOpen_iff (s : State) : s.sweepOpen = true ↔ ∃ l ∈ s.launches, l.st = .live ∧ l.due.isSome := by
  unfold State.sweepOpen
  simp only [List.any_eq_true, Bool.and_eq_true, beq_iff_eq]

theorem sweepBegin_starts (hen : s.regs.odoctl.getLsbD 0 = true) (h : ¬ s.sweepOpen = true) : s.sweepBegin =
    { s with sweep := s.sweep + 1, sweepAt := s.gtime + s.regs.sweepPeriod,
             launches := s.launches.map fun (l : Launch) => { l with sentVt := freshColour (!s.colour) l.sentVt } }.post
      ((s.launches.filter fun (l : Launch) => l.st == LState.live && l.odo.isSome).map fun (l : Launch) => .sweepResult l.num) := by
  refine if_pos ?_
  rw [hen, Bool.eq_false_iff.mpr h]
  rfl

theorem sweepBegin_waits (h : s.regs.odoctl.getLsbD 0 = false ∨ s.sweepOpen = true) : s.sweepBegin = s := by
  refine if_neg ?_
  rcases h with h | h <;> rw [h]
  · exact Bool.false_ne_true
  · rw [Bool.not_true, Bool.and_false]
    exact Bool.false_ne_true

/-! ## GVT and HZN take the minima (R90) -/

/-- A launch whose GVT and HZN have taken minima. -/
def advance (l : Launch) (g h : Nat) : Launch := if hVtime l.h then { l with gvt := max l.gvt g, hzn := max (max l.hzn h) (max l.gvt g) } else l

theorem advance_keeps (l : Launch) (g h : Nat) : (advance l g h).num = l.num ∧ (advance l g h).st = l.st ∧ (advance l g h).guest = l.guest ∧
    (advance l g h).due = l.due := by
  unfold advance
  split <;> exact ⟨rfl, rfl, rfl, rfl⟩

theorem advance_values (l : Launch) (g h : Nat) :
    (hVtime l.h = true → (advance l g h).gvt = max l.gvt g ∧ (advance l g h).hzn = max (max l.hzn h) (advance l g h).gvt) ∧
    (hVtime l.h = false → (advance l g h).gvt = l.gvt ∧ (advance l g h).hzn = l.hzn) := by
  unfold advance
  refine ⟨fun hv => ?_, fun hv => ?_⟩ <;> rw [hv]
  · exact ⟨rfl, rfl⟩
  · exact ⟨rfl, rfl⟩

/-- Every commit queue of the package is empty. -/
def noCommits (s : State) : Prop := ∀ x ∈ s.cores, x.2.commitq = []

theorem find?_mem {α : Type} {t : Tbl α} {k : Nat} {v : α} (h : Tbl.find? t k = some v) : (k, v) ∈ t := by
  induction t with
  | nil => exact nomatch h
  | cons x t ih =>
    obtain ⟨k', v'⟩ := x
    rw [Tbl.find?] at h
    by_cases hk : k' = k
    · rw [if_pos hk] at h
      cases h
      rw [hk]
      exact List.mem_cons_self ..
    · rw [if_neg hk] at h
      exact List.mem_cons_of_mem _ (ih h)

theorem core_commitq (h : noCommits s) (c : Nat) : (s.core c).commitq = [] := by
  unfold State.core Tbl.getD
  rcases hf : Tbl.find? s.cores c with _ | k
  · rfl
  · exact h _ (find?_mem hf)

theorem commitCore_quiet (h : noCommits s) (c launch g n : Nat) : s.commitCore c launch g n = s := by
  unfold State.commitCore
  cases n with
  | zero => rfl
  | succ n =>
    unfold State.commitRun
    rw [core_commitq h]
    rfl

theorem commitLaunch_quiet (ht : s.tasks = []) (h : noCommits s) (n : Nat) : s.commitLaunch n = s := by
  have hfold : ∀ g, ∀ cs : List Nat, cs.foldl (fun s c => s.commitCore c n g 64) s = s := by
    intro g cs
    induction cs with
    | nil => rfl
    | cons c cs ih => rw [List.foldl_cons, commitCore_quiet h, ih]
  unfold State.commitLaunch
  extract_lets g t
  have htt : t = s := hfold g _
  rw [htt, ht]
  change ({ s with tasks := [] } : State) = s
  rw [← ht]

theorem advanced_quiet (ht : s.tasks = []) (n : Nat) : s.advanced n = s := by
  unfold State.advanced
  rw [ht]
  rfl

theorem sweepCommits_sole (h : s.launches = [l]) (hn : l.num = n) (hst : l.st = .live) (ht : s.tasks = []) (hc : noCommits s) (g hz : Nat) :
    s.sweepCommits n g hz = { s with launches := [advance l g hz] } := by
  unfold State.sweepCommits
  extract_lets t
  have htt : t = { s with launches := [advance l g hz] } := updLaunch_sole _ h hn hst
  rw [htt, commitLaunch_quiet (s := { s with launches := [advance l g hz] }) ht hc,
    advanced_quiet (s := { s with launches := [advance l g hz] }) ht]

theorem gvtLag_launches (s : State) (n : Nat) : (s.gvtLag n).launches = s.launches := rfl

theorem gvtLag_nothing (h : s.captures = []) (n : Nat) : s.gvtLag n = s := by
  unfold State.gvtLag
  rw [h]
  change ({ s with captures := [] } : State) = s
  rw [← h]

/-! ## Control flits (R92) -/

variable {f : SweepFlit}

theorem controlFlit_none (h : s.launch? f.launch = none) : s.controlFlit f = s := by
  unfold State.controlFlit
  rw [h]

theorem controlFlit_live (h : s.launch? f.launch = some l) (hst : l.st = .live) (hodo : l.odo.isSome) : s.controlFlit f =
    if !f.result then
      if l.due.isSome then ({ s with flits := s.flits ++ [f] }.meetPeer f.launch f.dev).post [.sweepResult f.launch]
      else { s with flits := s.flits ++ [f] }.meetPeer f.launch f.dev
    else
      let t := ((s.updLaunch f.launch fun l => { l with guest := some f.dev }).sweepCommits f.launch f.gvt f.hzn).gvtLag f.launch
      if f.idle then t.endLaunch f.launch else if f.stalled then t.stall f.launch else if l.due.isSome then t.post [.sweepResult f.launch] else t := by
  have hlive : ¬ (l.st ≠ .live ∨ l.odo.isNone) := by
    rw [hst]
    rintro (h | h)
    · exact h rfl
    · rw [Option.isNone_iff_eq_none] at h
      rw [h] at hodo
      exact nomatch hodo
  unfold State.controlFlit
  rw [h]
  simp only [if_neg hlive]

/-- What the origin of a launch returns, taken. -/
theorem controlFlit_returns (hr : f.result = true) (hi : f.idle = false) (hs : f.stalled = false) (hf : f.launch = l.num) (h : s.launches = [l])
    (hst : l.st = .live) (hodo : l.odo.isSome) (ht : s.tasks = []) (hc : noCommits s) :
    (s.controlFlit f).launches = [advance { l with guest := some f.dev } f.gvt f.hzn] := by
  rw [controlFlit_live (launch?_sole h hf.symm hst) hst hodo, hr, hi, hs]
  have hupd := updLaunch_sole (fun l => { l with guest := some f.dev }) h hf.symm hst
  have hcommits := sweepCommits_sole (s := s.updLaunch f.launch fun l => { l with guest := some f.dev }) (l := { l with guest := some f.dev }) (n := f.launch)
    (by rw [hupd]) hf.symm hst (by rw [hupd]; exact ht) (by rw [hupd]; exact hc) f.gvt f.hzn
  rw [hcommits]
  by_cases hdue : l.due.isSome = true
  · simp only [hdue, if_true]
    rfl
  · simp only [hdue]
    rfl

/-! ## A sweep's result (R90 to R92) -/

/-- The report of a sole launch for a sweep, as sent to a device. -/
def reportOf (s : State) (l : Launch) (d : Nat) : SweepFlit :=
  let part (x : Nat × Nat) : Nat := if s.sweep % 2 = 1 then x.1 else x.2
  ⟨d, false, l.num, part l.sent, part l.recv, min (s.terms l.num).1 (part l.sentVt), min (s.terms l.num).2 (part l.sentVt), s.nothingLeft l.num,
    !s.nothingLeft l.num && s.onlyWaits l.num⟩

theorem ownReport_eq (s : State) (l : Launch) : s.ownReport l = reportOf s l 0 := by
  unfold State.ownReport reportOf
  simp only [ofColour_closing]

theorem sendFlit_up {p : Nat} (h : s.portTo f.dev = some (p, true)) : s.sendFlit f = { s with sentFlits := s.sentFlits ++ [f] } := by
  unfold State.sendFlit
  rw [h]

theorem sendFlit_down {p : Nat} (h : s.portTo f.dev = some (p, false)) : s.sendFlit f = { s with flitWait := s.flitWait ++ [(p, s.gtime, f)] } := by
  unfold State.sendFlit
  rw [h]

theorem sendFlit_lost (h : s.portTo f.dev = none) : s.sendFlit f = s.cpStop f.launch := by
  unfold State.sendFlit
  rw [h]

/-- The sweep's result of a sole live launch whose report does not wait. -/
theorem sweepEnds_live (h : s.launches = [l]) (hst : l.st = .live) (hodo : l.odo.isSome) (hdue : l.due = none) : s.sweepEnds l.num =
    match l.guest with
    | some d => (s.updLaunch l.num fun l => { l with due := none }).sendFlit (reportOf s l d)
    | none =>
      let fs := firstFlits (s.flits.filter fun f => f.launch == l.num)
      if l.peers.all fun d => fs.any fun f => f.dev == d then s.sweepJoins l (reportOf s l 0) fs
      else s.updLaunch l.num fun x => { x with due := some (reportOf s l 0) } := by
  have hlive : ¬ (l.st ≠ .live ∨ l.odo.isNone) := by
    rw [hst]
    rintro (h | h)
    · exact h rfl
    · rw [Option.isNone_iff_eq_none] at h
      rw [h] at hodo
      exact nomatch hodo
  unfold State.sweepEnds
  rw [launch?_sole h rfl hst]
  simp only [if_neg hlive, hdue, Option.getD_none, ownReport_eq]
  rfl

/-- The root of another package sends its report to the origin. -/
theorem sweepEnds_guest {d : Nat} (h : s.launches = [l]) (hst : l.st = .live) (hodo : l.odo.isSome) (hdue : l.due = none) (hg : l.guest = some d) :
    s.sweepEnds l.num = s.sendFlit (reportOf s l d) := by
  have hsame : (s.updLaunch l.num fun l => { l with due := none }) = s := by
    rw [updLaunch_sole _ h rfl hst]
    have hl : ({ l with due := none } : Launch) = l := by rw [← hdue]
    rw [hl, same_launches h]
  rw [sweepEnds_live h hst hodo hdue, hg]
  simp only [hsame]

theorem firstFlits_sub : ∀ {fs : List SweepFlit} {f : SweepFlit}, f ∈ firstFlits fs → f ∈ fs
  | [], _, h => nomatch h
  | x :: xs, f, h => by
    rw [firstFlits, List.mem_cons] at h
    rcases h with rfl | h
    · exact List.mem_cons_self ..
    · exact List.mem_cons_of_mem _ (firstFlits_sub (List.mem_of_mem_filter h))

/-- The root of the origin waits for a package that has not reported. -/
theorem sweepEnds_waits (h : s.launches = [l]) (hst : l.st = .live) (hodo : l.odo.isSome) (hdue : l.due = none) (hg : l.guest = none)
    (hmiss : ∃ d ∈ l.peers, ∀ f ∈ s.flits, f.launch = l.num → f.dev ≠ d) :
    s.sweepEnds l.num = { s with launches := [{ l with due := some (reportOf s l 0) }] } := by
  have hlack : ¬ (l.peers.all fun d => (firstFlits (s.flits.filter fun f => f.launch == l.num)).any fun f => f.dev == d) = true := by
    obtain ⟨d, hd, hnone⟩ := hmiss
    intro hall
    obtain ⟨f, hf, hdev⟩ := List.any_eq_true.mp (List.all_eq_true.mp hall d hd)
    obtain ⟨hmem, hlaunch⟩ := List.mem_filter.mp (firstFlits_sub hf)
    exact hnone f hmem (beq_iff_eq.mp hlaunch) (beq_iff_eq.mp hdev)
  refine (sweepEnds_live h hst hodo hdue).trans ?_
  split
  next d hd => exact nomatch hg.symm.trans hd
  next => exact (if_neg hlack).trans (updLaunch_sole _ h rfl hst)

/-- Where every package has reported, the sums are taken. -/
theorem sweepEnds_joins (h : s.launches = [l]) (hst : l.st = .live) (hodo : l.odo.isSome) (hdue : l.due = none) (hg : l.guest = none)
    {fs : List SweepFlit} (hfs : firstFlits (s.flits.filter fun f => f.launch == l.num) = fs)
    (hall : (l.peers.all fun d => fs.any fun f => f.dev == d) = true) : s.sweepEnds l.num = s.sweepJoins l (reportOf s l 0) fs := by
  rw [sweepEnds_live h hst hodo hdue, hg, hfs]
  exact if_pos hall

/-- A launch as a sweep's result leaves it. -/
def swept (l : Launch) (balanced left stuck : Bool) : Launch :=
  { l with due := none, balanced := balanced, sawEnd := balanced && left, sawStall := balanced && stuck }

/-- The sums of a launch of this package alone do not balance: both marks are lost. -/
theorem sweepJoins_unbalanced {own : SweepFlit} (h : s.launches = [l]) (hst : l.st = .live) (hb : own.sent ≠ own.recvd) :
    (s.sweepJoins l own []).launches = [{ l with due := none, balanced := false, sawEnd := false, sawStall := false }] := by
  have hne : (own.sent == own.recvd) = false := beq_eq_false_iff_ne.mpr hb
  have hupd := updLaunch_sole (fun l => { l with due := none, balanced := false, sawEnd := false, sawStall := false }) h rfl hst
  unfold State.sweepJoins
  simp only [List.foldl_nil, hne, Bool.false_and]
  exact congrArg State.launches hupd

/-- The first balanced sweep of a launch marks it, and nothing else. -/
theorem sweepJoins_first {own : SweepFlit} (h : s.launches = [l]) (hst : l.st = .live) (hb : own.sent = own.recvd) (hl : l.balanced = false) :
    ∃ left stuck, (s.sweepJoins l own []).launches = [swept l true left stuck] := by
  have heq : (own.sent == own.recvd) = true := beq_iff_eq.mpr hb
  unfold State.sweepJoins
  simp only [List.foldl_nil, heq, hl, Bool.and_false, Bool.false_and, if_neg Bool.false_ne_true]
  rw [gvtLag_launches, updLaunch_sole (s := { s with flits := s.flits }) _ h rfl hst]
  exact ⟨_, _, rfl⟩

/-- The second balanced sweep of a launch that neither ends nor stalls: GVT and HZN take the minima. -/
theorem sweepJoins_second {own : SweepFlit} (h : s.launches = [l]) (hst : l.st = .live) (hb : own.sent = own.recvd) (hl : l.balanced = true)
    (hend : l.sawEnd = false) (hstall : l.sawStall = false) (ht : s.tasks = []) (hc : noCommits s) :
    ∃ left stuck, (s.sweepJoins l own []).launches = [swept (advance l own.gvt own.hzn) true left stuck] := by
  have heq : (own.sent == own.recvd) = true := beq_iff_eq.mpr hb
  obtain ⟨hnum, hst', -, -⟩ := advance_keeps l own.gvt own.hzn
  unfold State.sweepJoins
  simp only [List.foldl_nil, heq, hl, hend, hstall, Bool.and_false, Bool.and_true, Bool.false_and, if_neg Bool.false_ne_true, if_true]
  rw [gvtLag_launches, sweepCommits_sole (s := { s with flits := s.flits }) h rfl hst ht hc,
    updLaunch_sole (s := { s with flits := s.flits, launches := [advance l own.gvt own.hzn] }) _ rfl hnum (hst'.trans hst)]
  exact ⟨_, _, rfl⟩

/-! ## The end of a launch (R91) -/

/-- A package of which nothing works or waits. -/
structure Empty (s : State) : Prop where
  tasks : s.tasks = []
  cores : s.cores = []
  agenda : s.agenda = []
  mxus : s.mxus = []
  buckets : s.buckets = []
  portWait : s.portWait = []
  hostMsgs : s.hostMsgs = []
  ready : ∀ q ∈ s.ready.toList, q = []

theorem Empty.engineHeld (h : Empty s) (n : Nat) : s.engineHeld n = [] := by
  obtain ⟨htasks, hcores, hagenda, hmxus, hbuckets, hport, hmsgs, hready⟩ := h
  have hmxu (cl : Nat) : s.mxuHeld cl n = .none := by
    unfold State.mxuHeld State.mxu
    rw [hmxus]
    rfl
  unfold State.engineHeld
  simp only [hcores, hport, hmxu, List.flatMap_nil, List.any_nil, List.append_nil]
  refine List.filter_eq_nil_iff.mpr fun x hx => ?_
  rw [if_neg Bool.false_ne_true, List.append_nil] at hx
  obtain ⟨_, -, rfl⟩ := List.mem_map.mp hx
  decide

theorem Empty.allEntries (h : Empty s) : s.allEntries = [] := by
  obtain ⟨htasks, hcores, hagenda, hmxus, hbuckets, hport, hmsgs, hready⟩ := h
  unfold State.allEntries
  rw [hcores, hagenda, List.flatten_eq_nil_iff.mpr hready]
  rfl

theorem Empty.nothingLeft (h : Empty s) (n : Nat) : s.nothingLeft n = true := by
  have hheld := h.engineHeld n
  have hent := h.allEntries
  obtain ⟨htasks, hcores, hagenda, hmxus, hbuckets, hport, hmsgs, hready⟩ := h
  unfold State.nothingLeft State.threadsOf State.commitsOf State.holdsMsg
  rw [hheld, hent, htasks, hcores, hbuckets, hmsgs]
  rfl

theorem Empty.dropWork_launches (h : s.cores = []) (n : Nat) : (s.dropWork n).launches = s.launches := by
  unfold State.dropWork State.dropTileWait State.dropSpilled
  rw [h]
  simp only [List.flatMap_nil, List.foldl_nil, h, List.filter_nil]

/-- A sole launch ended. -/
theorem endLaunch_ends (hc : s.cores = []) (h : s.launches = [l]) (hn : l.num = n) (hst : l.st = .live) :
    ∃ l', (s.endLaunch n).launches = [l'] ∧ l'.st = .ended ∧ l'.odo = none := by
  unfold State.endLaunch
  extract_lets arm arms t
  have ht : t = { s with launches := [{ l with st := .ended, odo := none, withdrawn := arms, unplaced := [] }] } := updLaunch_sole _ h hn hst
  clear_value t
  rw [Empty.dropWork_launches (by rw [ht]; exact hc), ht]
  exact ⟨_, rfl, rfl, rfl⟩

/-- The second balanced sweep that finds nothing left of a launch ends it. -/
theorem sweepJoins_ends {own : SweepFlit} (h : s.launches = [l]) (hst : l.st = .live) (hb : own.sent = own.recvd) (hl : l.balanced = true)
    (hend : l.sawEnd = true) (he : Empty s) : ∃ l', (s.sweepJoins l own []).launches = [l'] ∧ l'.st = .ended ∧ l'.odo = none := by
  have heq : (own.sent == own.recvd) = true := beq_iff_eq.mpr hb
  obtain ⟨hnum, hst', -, -⟩ := advance_keeps l own.gvt own.hzn
  have hcommits := sweepCommits_sole (s := { s with flits := s.flits }) h rfl hst he.tasks
    (by intro x hx; rw [show ({ s with flits := s.flits } : State).cores = [] from he.cores] at hx; exact nomatch hx) own.gvt own.hzn
  have hleft : ({ s with flits := s.flits, launches := [advance l own.gvt own.hzn] } : State).nothingLeft l.num = true :=
    Empty.nothingLeft ⟨he.tasks, he.cores, he.agenda, he.mxus, he.buckets, he.portWait, he.hostMsgs, he.ready⟩ l.num
  unfold State.sweepJoins
  simp only [List.foldl_nil, List.all_nil, heq, hl, hend, Bool.and_true, if_true, hcommits, hleft]
  exact endLaunch_ends (l := swept (advance l own.gvt own.hzn) true true false) he.cores (by
    rw [gvtLag_launches, updLaunch_sole (s := { s with flits := s.flits, launches := [advance l own.gvt own.hzn] }) _ rfl hnum (hst'.trans hst)]
    rfl) hnum (hst'.trans hst)

/-- A sum with one other package's report that does not balance: that package is told GVT and HZN as they stand. -/
theorem sweepJoins_told {own : SweepFlit} {p : Nat} (h : s.launches = [l]) (hst : l.st = .live) (hcap : s.captures = []) (hf : s.flits = [f])
    (hb : own.sent + f.sent ≠ own.recvd + f.recvd) (hto : s.portTo f.dev = some (p, true)) : s.sweepJoins l own [f] =
      { s with flits := [], launches := [{ l with due := none, balanced := false, sawEnd := false, sawStall := false }],
               sentFlits := s.sentFlits ++ [⟨f.dev, true, l.num, 0, 0, s.gvtOf l.num, s.hznOf l.num, false, false⟩] } := by
  have hne : (own.sent + f.sent == own.recvd + f.recvd) = false := beq_eq_false_iff_ne.mpr hb
  have hflits : [f].foldl List.erase s.flits = [] := by
    rw [hf, List.foldl_cons, List.foldl_nil, List.erase_cons_head]
  have hlaunch := launch?_sole h rfl hst
  unfold State.sweepJoins
  simp only [hflits, List.foldl_cons, List.foldl_nil, hne, Bool.false_and, if_neg Bool.false_ne_true]
  rw [updLaunch_sole (s := { s with flits := [] }) _ h rfl hst, gvtLag_nothing (by exact hcap)]
  generalize hw : ({ l with due := none, balanced := false, sawEnd := false, sawStall := false } : Launch) = l'
  have hnum : l'.num = l.num := by rw [← hw]
  have hst' : l'.st = .live := by rw [← hw]; exact hst
  have hlaunch' : ({ s with flits := [], launches := [l'] } : State).launch? l.num = some l' := launch?_sole rfl hnum hst'
  have hgvt : ({ s with flits := [], launches := [l'] } : State).gvtOf l.num = s.gvtOf l.num := by
    unfold State.gvtOf
    rw [hlaunch', hlaunch, ← hw]
    rfl
  have hhzn : ({ s with flits := [], launches := [l'] } : State).hznOf l.num = s.hznOf l.num := by
    unfold State.hznOf
    rw [hlaunch', hlaunch, ← hw]
    rfl
  rw [hgvt, hhzn]
  exact sendFlit_up (s := { s with flits := [], launches := [l'] }) (f := ⟨f.dev, true, l.num, 0, 0, s.gvtOf l.num, s.hznOf l.num, false, false⟩) hto

/-! ## The obligation -/

/-- Settles O43: a sweep's start, then control flits, then the result by who reports to whom and by the sums. -/
theorem odometerEvents : Obligations.OdometerEvents := by
  unfold Obligations.OdometerEvents
  intro s l f d sweep part g h own balanced open_ fresh
  have hsweep {t : State} (ht : s.sweepEnds l.num = t) : sweep = .next t := congrArg Host.Outcome.next ht
  refine ⟨fun hen hopen => ?_, fun hoff => congrArg Host.Outcome.next (sweepBegin_waits (hoff.imp id (sweepOpen_iff s).mpr)),
    fun hnone => congrArg Host.Outcome.next (controlFlit_none hnone), fun hr hl hst hodo => ?_, fun hr hi hs hf hl hst hodo ht hc => ?_,
    fun hl hst hodo hdue hg => ⟨fun p hp => hsweep ?_, fun p hp => hsweep ?_, fun hp => hsweep ?_⟩,
    fun hl hst hodo hdue hg hmiss => hsweep (sweepEnds_waits hl hst hodo hdue hg hmiss),
    fun hl hst hodo hdue hcap hg hf hfl hpeers hsums p hp => ?_, fun hl hst hodo hf hcap hdue hpeers hg => ?_⟩
  · have hfresh (x : Nat × Nat) : freshColour (!s.colour) x = fresh x := freshColour_closing s x
    refine congrArg Host.Outcome.next ((sweepBegin_starts hen (mt (sweepOpen_iff s).mp hopen)).trans ?_)
    simp only [hfresh]
  · refine congrArg Host.Outcome.next ((controlFlit_live hl hst hodo).trans ?_)
    rw [hr]
    rfl
  · have hlaunch := controlFlit_returns hr hi hs hf hl hst hodo ht hc
    obtain ⟨-, hst', hg', -⟩ := advance_keeps { l with guest := some f.dev } f.gvt f.hzn
    obtain ⟨hv, hnv⟩ := advance_values { l with guest := some f.dev } f.gvt f.hzn
    exact ⟨_, _, rfl, hlaunch, hst'.trans hst, hg', hv, hnv⟩
  · rw [sweepEnds_guest hl hst hodo hdue hg]
    exact sendFlit_up hp
  · rw [sweepEnds_guest hl hst hodo hdue hg]
    exact sendFlit_down hp
  · rw [sweepEnds_guest hl hst hodo hdue hg]
    exact sendFlit_lost hp
  · have hfs : firstFlits (s.flits.filter fun f => f.launch == l.num) = [f] := by
      rw [hf]
      simp [hfl, firstFlits]
    have hall : (l.peers.all fun d => [f].any fun f => f.dev == d) = true := by
      rw [hpeers]
      simp
    have hjoin := (sweepEnds_joins hl hst hodo hdue hg hfs hall).trans (sweepJoins_told hl hst hcap hf hsums hp)
    refine ⟨_, _, hsweep hjoin, rfl, ?_, rfl, rfl⟩
    rw [← hdue]
  · have hfs : firstFlits (s.flits.filter fun f => f.launch == l.num) = [] := by
      rw [hf]
      rfl
    have hjoin := sweepEnds_joins hl hst hodo hdue hg hfs (by rw [hpeers]; rfl)
    refine ⟨fun hb => ?_, fun hb hlb => ?_, fun hb hlb hend hstall ht hc => ?_, fun hb hlb hend ht hc hag hmx hbk hpw hmsg hready => ?_⟩
    · refine ⟨_, _, hsweep hjoin, sweepJoins_unbalanced hl hst hb, ?_⟩
      rw [← hdue]
    · obtain ⟨left, stuck, hlaunch⟩ := sweepJoins_first (own := reportOf s l 0) hl hst hb hlb
      exact ⟨_, _, hsweep hjoin, hlaunch, rfl, rfl, rfl, hst⟩
    · obtain ⟨left, stuck, hlaunch⟩ := sweepJoins_second (own := reportOf s l 0) hl hst hb hlb hend hstall ht hc
      obtain ⟨-, hst', -, -⟩ := advance_keeps l g h
      obtain ⟨hv, hnv⟩ := advance_values l g h
      exact ⟨_, _, hsweep hjoin, hlaunch, hst'.trans hst, hv, hnv⟩
    · obtain ⟨l', hlaunch, hended, hodo'⟩ := sweepJoins_ends (own := reportOf s l 0) hl hst hb hlb hend ⟨ht, hc, hag, hmx, hbk, hpw, hmsg, hready⟩
      exact ⟨_, _, hsweep hjoin, hlaunch, hended, hodo'⟩

end Sys2Proof.Sweeps

/-! # Launches at the command processor -/

namespace Sys2Proof.Launches
open Sys2Proof Sys2Proof.Machine Sys2Proof.Claims

variable {s : State} {l : Launch} {q n : Nat}

/-! ## Completion records (R347) -/

/-- The second state differs from the first in memory, in the package's registers, in what it raises and in the work queues' pages alone. -/
def Written (s t : State) : Prop := ∃ mem gkey codes poison upsets errClasses msixPending regs wq,
  t = { s with mem := mem, gkey := gkey, codes := codes, poison := poison, upsets := upsets, errClasses := errClasses, msixPending := msixPending,
               regs := regs, wq := wq }

theorem Written.refl (s : State) : Written s s := ⟨_, _, _, _, _, _, _, _, _, rfl⟩

theorem Written.trans {s t u : State} (h : Written s t) (h' : Written t u) : Written s u := by
  obtain ⟨_, _, _, _, _, _, _, _, _, rfl⟩ := h
  obtain ⟨_, _, _, _, _, _, _, _, _, rfl⟩ := h'
  exact ⟨_, _, _, _, _, _, _, _, _, rfl⟩

theorem written_logged {s t : State} (h : Frame.Logged s t) : Written s t := by
  obtain ⟨_, _, _, _, _, _, _, _, _, rfl⟩ := h
  exact ⟨_, _, _, _, _, _, _, _, _, rfl⟩

theorem written_memOnly {s t : State} (h : Frame.MemOnly s t) : Written s t := by
  obtain ⟨_, _, _, _, _, rfl⟩ := h
  exact ⟨_, _, _, _, _, _, _, _, _, rfl⟩

theorem written_updWq (s : State) (q : Nat) (f : WqPage → WqPage) : Written s (s.updWq q f) := ⟨_, _, _, _, _, _, _, _, _, rfl⟩

theorem written_record (s : State) (a q : Nat) (bs : List Byte) (f : WqPage → WqPage) : Written s ((s.pwrite a bs).updWq q f) :=
  (written_memOnly (Frame.memOnly_pwrite ..)).trans (written_updWq ..)

theorem written_writeReport (s : State) (q : Nat) (r : List Byte) : Written s (s.writeReport q r).1 := by
  unfold State.writeReport
  extract_lets p
  by_cases h : span32 p.rptail p.rphead < p.rpsize.toNat
  · rw [if_pos h]
    exact written_record s (p.rpbase.toNat + 64 * (p.rptail.toNat % p.rpsize.toNat)) q r fun p => { p with rptail := inc32 p.rptail }
  · rw [if_neg h]
    exact .refl s

/-! `State.writeReports` is taken apart through its recursion's own term, with `State.writeReport` held abstract: its equations as Lean would
derive them make the kernel evaluate the ring arithmetic of `State.writeReport`. -/

theorem writeReports_rec (s : State) (q : Nat) (rs : List (List Byte)) :
    s.writeReports q rs = List.brecOn (motive := fun _ => State → State × Nat) rs (State.writeReports._f q) s := by
  delta State.writeReports
  rfl

theorem brecOn_cons {α β : Type} (r : α) (rs : List α) (F : (t : List α) → List.below (motive := fun _ => β) t → β) :
    List.brecOn (motive := fun _ => β) (r :: rs) F =
      F (r :: rs) ⟨List.brecOn (motive := fun _ => β) rs F, (List.brecOn.go (motive := fun _ => β) rs F).2⟩ := rfl

theorem writeReports_step (s : State) (q : Nat) (r : List Byte) (rs : List (List Byte)) (B : List.below (motive := fun _ => State → State × Nat) (r :: rs)) :
    (State.writeReports._f q (r :: rs) B s).1 = if (s.writeReport q r).2 then (B.1 (s.writeReport q r).1).1 else (s.writeReport q r).1 := by
  suffices h : ∀ F, State.writeReports._f = F → (F q (r :: rs) B s).1 =
      if (s.writeReport q r).2 then (B.1 (s.writeReport q r).1).1 else (s.writeReport q r).1 from h _ rfl
  intro F hF
  delta State.writeReports._f at hF
  obtain ⟨W, hW⟩ : ∃ W, W = State.writeReport := ⟨_, rfl⟩
  rw [← hW] at hF ⊢
  rw [← hF]
  change (match W s q r with
      | (s, true) =>
        match B.1 s with
        | (s, n) => (s, n + 1)
      | (s, false) => (s, 0)).1 = _
  rcases W s q r with ⟨t, b⟩
  cases b <;> rfl

theorem writeReports_nil (s : State) (q : Nat) : (s.writeReports q []).1 = s := rfl

theorem writeReports_cons (s : State) (q : Nat) (r : List Byte) (rs : List (List Byte)) : (s.writeReports q (r :: rs)).1 =
    if (s.writeReport q r).2 then ((s.writeReport q r).1.writeReports q rs).1 else (s.writeReport q r).1 := by
  rw [writeReports_rec, brecOn_cons, writeReports_step, writeReports_rec]

theorem written_writeReports (q : Nat) : ∀ (rs : List (List Byte)) (s : State), Written s (s.writeReports q rs).1
  | [], s => by
    rw [writeReports_nil]
    exact .refl s
  | r :: rs, s => by
    have h := written_writeReport s q r
    rw [writeReports_cons]
    split
    · exact h.trans (written_writeReports q rs _)
    · exact h

theorem written_complete (s : State) (q num status reason wqidx naux : Nat) (reps : List (List Byte)) (irq : Option Nat) :
    Written s (s.complete q num status reason wqidx naux reps irq) := by
  have hreps := written_writeReports q reps s
  unfold State.complete
  extract_lets rpidx
  generalize s.writeReports q reps = x at hreps ⊢
  obtain ⟨t, n⟩ := x
  refine hreps.trans ?_
  cases irq with
  | none => exact written_record ..
  | some v => exact (written_record ..).trans (written_logged (Frame.logged_raiseMsix ..))

/-! ## Acceptance (R316, R346) -/

theorem logged_logRead {α : Type} (s : State) (r : M α) : Frame.Logged s (s.logRead r) := by
  cases r with
  | ok _ => exact .refl s
  | error e => exact Sched.logged_logWalk s e

theorem logged_logHeader (s : State) (asid h : Nat) : Frame.Logged s (s.logHeader asid h) := by
  unfold State.logHeader
  extract_lets t
  have ht : Frame.Logged s t := (logged_logRead ..).trans (logged_logRead ..)
  split
  · exact ht
  · exact ht.trans (logged_logRead ..)

/-- A queue with its head moved on. -/
def headMoved (s : State) (q : Nat) : State := s.updWq q fun p => { p with head := BitVec.ofNat 64 ((p.head.toNat + 1) % 2 ^ 32) }

/-- The record at a queue's head. -/
def headRecord (s : State) (q : Nat) : Nat :=
  natOf (s.pread ((s.wqPage q).base.toNat + 128 * ((s.wqPage q).head.toNat % (s.wqPage q).size.toNat)) 128)

theorem accept_due (h : s.acceptDue q = true) (hsize : 0 < (s.wqPage q).size.toNat) : s.accept q =
    let asid := (s.wqPage q).ctl.toNat / 2 ^ 8 % 2 ^ 8
    let hdr := headRecord s q
    let wqidx := (s.wqPage q).head.toNat % 2 ^ 32
    let read := (headMoved s q).logHeader asid hdr
    match (headMoved s q).accepts asid hdr with
    | .error r => { read.complete q (read.number?.getD read.nextNum) 4 r wqidx 0 [] (hIrqVec hdr) with nextNum := (read.number?.getD read.nextNum + 1) % 4096 }
    | .ok a => { read with launches := read.launches ++ [newLaunch read.nextKey noNumber hdr asid q (some wqidx) (BitVec.ofNat 64 (hArg hdr)) a],
                           nextKey := read.nextKey + 1 }.post [.launchDispatch read.nextKey] := by
  have hmax : max 1 (s.wqPage q).size.toNat = (s.wqPage q).size.toNat := Nat.max_eq_right hsize
  unfold State.accept
  rw [h, if_neg (by decide)]
  simp only [hmax]
  rfl

/-- The number that a refused record is given. -/
theorem freeNumber_first {k : Nat} (h : ∀ l ∈ s.launches, l.num ≠ n) : s.freeNumber n (k + 1) = some n := by
  unfold State.freeNumber
  refine if_neg ?_
  rw [List.any_eq_true]
  rintro ⟨l, hl, hn⟩
  exact h l hl (beq_iff_eq.mp hn)

theorem number?_first (h : ∀ l ∈ s.launches, l.num ≠ s.nextNum) : s.number? = some s.nextNum := freeNumber_first h

/-! ## Dispatch (R317, R318) -/

theorem hX_pos (h k : Nat) : 0 < hX h k := Nat.succ_pos _

theorem groupSize_pos (h l : Nat) : 0 < groupSize h l := by
  have hfold : ∀ (ks : List Nat) (m : Nat), 0 < m → 0 < ks.foldl (fun m k => if l < k then m * hX h k else m) m := by
    intro ks
    induction ks with
    | nil => exact fun m hm => hm
    | cons k ks ih =>
      intro m hm
      refine ih _ ?_
      change 0 < if l < k then m * hX h k else m
      split
      · exact Nat.mul_pos hm (hX_pos h k)
      · exact hm
  exact hfold _ 1 Nat.one_pos

/-- The first work identifier of a grid. -/
theorem widOfIndex_zero (h : Nat) : widOfIndex h 0 = 0 := by
  unfold widOfIndex
  have hfold : ∀ ks : List Nat, ks.foldl (fun w k => let f := 0 / extProd h (k + 1) 6 % hX h k; w * 2 ^ widthOf (hWidths h) k + f) 0 = 0 := by
    intro ks
    induction ks with
    | nil => rfl
    | cons k ks ih =>
      rw [List.foldl_cons, Nat.zero_div, Nat.zero_mod, Nat.zero_mul]
      exact ih
  exact hfold _

/-- The size of the units of a grid. -/
def unitSize (h : Nat) : Nat := match bindingLevel h with | some b => groupSize h b | none => 1

theorem unitSize_pos (h : Nat) : 0 < unitSize h := by
  unfold unitSize
  split
  · exact groupSize_pos ..
  · exact Nat.one_pos

/-- A launch without a grid is one unit. -/
theorem gridUnits_nogrid {h : Nat} (hg : hNogrid h = true) : gridUnits h = [(0, unitSize h)] := by
  have hone : ceilDiv 1 (unitSize h) = 1 := by
    unfold ceilDiv
    rw [Nat.add_sub_cancel_left]
    exact Nat.div_self (unitSize_pos h)
  have hunits : gridUnits h = (List.range (ceilDiv (if hNogrid h then 1 else extProd h 0 6) (unitSize h))).map fun u => (u * unitSize h, unitSize h) := rfl
  rw [hunits, hg, if_pos rfl, hone]
  simp

/-- The directory entry of a grid task. -/
def gridTask (l : Launch) (e : QEntry) : Task :=
  newTask e.task (imodeOf (hImode l.h)) e.prio (ownerTag l.h e.task.wid.toNat) (BitVec.ofNat 64 (hVtbase l.h)) (BitVec.ofNat 64 (hVtwin l.h)) false

/-- The die that the first unit is dealt to. -/
def firstDie (h : Nat) : Nat := (dealDies h).getD (0 % max 1 (dealDies h).length) 0

/-- The place level that goes with a unit. -/
def unitPlace (h : Nat) : Nat := match bindingLevel h with | some b => hLplc h b | none => 0

/-- A launch without a grid dealt: one task, one unit. -/
theorem deal_nogrid (hg : hNogrid l.h = true) (he : hExpl l.h = false) : s.deal l =
    { s with tasks := s.tasks ++ [gridTask l (gridEntry l 0 false)] }.post
      [.unitPlacement (firstDie l.h) ⟨l.num, unitPlace l.h, [gridEntry l 0 false]⟩] := by
  have htake : ([gridEntry l 0 false].drop 0).take (unitSize l.h) = [gridEntry l 0 false] := by
    rw [List.drop_zero]
    exact List.take_of_length_le (unitSize_pos l.h)
  unfold State.deal
  simp only [hg, he, if_true, gridUnits_nogrid hg]
  have hunits : ([(0, unitSize l.h)].zipIdx.map fun ((t0, n), u) =>
      Event.unitPlacement ((dealDies l.h).getD (u % max 1 (dealDies l.h).length) 0) ⟨l.num, unitPlace l.h, ([gridEntry l 0 false].drop t0).take n⟩) =
      [.unitPlacement (firstDie l.h) ⟨l.num, unitPlace l.h, [gridEntry l 0 false]⟩] := by
    refine Eq.trans (b := [.unitPlacement (firstDie l.h) ⟨l.num, unitPlace l.h, ([gridEntry l 0 false].drop 0).take (unitSize l.h)⟩]) rfl ?_
    rw [htake]
  exact congrArg (State.post { s with tasks := s.tasks ++ [gridTask l (gridEntry l 0 false)] }) hunits

theorem firstDie_dealt (h : Nat) : (dealDies h).head? = some (firstDie h) ∨ dealDies h = [] := by
  unfold firstDie
  rcases hd : dealDies h with _ | ⟨d, ds⟩
  · exact .inr rfl
  · exact .inl (by rw [Nat.zero_mod]; rfl)

theorem dropHostPages_rest (s : State) : ∃ cores rdc pages, s.dropHostPages = { s with cores := cores, rdc := rdc, hostPages := pages } := by
  unfold State.dropHostPages
  split
  · exact ⟨_, _, _, rfl⟩
  · exact ⟨_, _, _, rfl⟩

/-- A launch without dependences leaves the tables as they are. -/
theorem tableActions_free (h : l.deps = []) : s.tableActions l = s.dropHostPages := by
  unfold State.tableActions
  rw [h]
  rfl

/-- A launch as dispatched alone. -/
def dispatched (s : State) (l : Launch) : Launch := { l with num := s.nextNum, st := .live, odo := some 0, barrier := [] }

/-- The package as a sole launch has its number. -/
def numbered (s : State) (l : Launch) : State := { s with nextNum := (s.nextNum + 1) % 4096, launches := [dispatched s l] }

theorem dispatch_sole (hl : s.launches = [l]) (hst : l.st = .waiting) (hnum : l.num = 4096) (hodo : l.odo = none) (hdeps : l.deps = [])
    (hnext : s.nextNum < 4096) : ∃ cores rdc pages, s.dispatch l.key =
      { numbered s l with cores := cores, rdc := rdc, hostPages := pages }.deal (dispatched s l) := by
  have hnumber : s.number? = some s.nextNum := by
    refine number?_first fun x hx => ?_
    rw [hl, List.mem_singleton] at hx
    rw [hx, hnum]
    exact (Nat.ne_of_lt hnext).symm
  have hfind : (s.launches.find? fun x => x.key == l.key) = some l := by
    rw [hl]
    simp
  have hdue : s.dispatchDue l = true := by
    unfold State.dispatchDue
    rw [hl, hst, hnumber]
    simp [holdsBack, hodo]
  have hfree : ({ s with nextNum := (s.nextNum + 1) % 4096 } : State).freeOdo = some 0 := by
    unfold State.freeOdo
    simp only [hl, List.any_cons, List.any_nil, hodo]
    rfl
  have hupd : updFirst (fun x => x.key == l.key) (fun _ => dispatched s l) [l] = [dispatched s l] := by
    simp [updFirst]
  have hdispatch : s.dispatch l.key = ((numbered s l).tableActions (dispatched s l)).deal (dispatched s l) := by
    unfold State.dispatch numbered
    rw [hfind]
    simp only [hdue, hnum, noNumber, if_true, hnumber, Option.getD_some, hfree]
    rw [hl, ← hupd]
    rfl
  obtain ⟨cores, rdc, pages, hpages⟩ := dropHostPages_rest (numbered s l)
  rw [tableActions_free (l := dispatched s l) hdeps, hpages] at hdispatch
  exact ⟨cores, rdc, pages, hdispatch⟩

end Sys2Proof.Launches

/-! # Stopping a launch -/

namespace Sys2Proof.Stops
open Sys2Proof Sys2Proof.Machine Sys2Proof.Claims

variable {s : State} {l : Launch} {n : Nat}

/-! ## What a stop drops (R100) -/

/-- Where no entry of a queue, slot or unit is of the launch, none is dropped. -/
theorem dropQueued_none (h : ∀ e ∈ s.allEntries, e.task.launch ≠ n) : s.dropQueued n =
    { s with ready := s.ready.map fun l => l.filter fun e => !(e.task.launch == n),
             cores := s.cores.map fun (c, k) =>
               (c, { k with runq := k.runq.filter fun e => !(e.task.launch == n), heldLets := k.heldLets.filter fun e => !(e.2.task.launch == n) }) } := by
  have hnot {e : QEntry} (he : e ∈ s.allEntries) : ¬ (e.task.launch == n) = true := mt beq_iff_eq.mp (h e he)
  have hcore {x : Nat × Core} {e : QEntry} (hx : x ∈ s.cores)
      (he : e ∈ x.2.runq ++ x.2.heldLets.map Prod.snd ++ x.2.slots.toList.filterMap Slot.resv) : e ∈ s.allEntries :=
    List.mem_append_left _ (List.mem_append_right _ (List.mem_flatMap.mpr ⟨x, hx, he⟩))
  unfold State.dropQueued
  extract_lets mine es t
  have hes : es = [] := by
    refine List.append_eq_nil_iff.mpr ⟨List.filter_eq_nil_iff.mpr fun e he => hnot ?_, List.flatMap_eq_nil_iff.mpr fun x hx => ?_⟩
    · exact List.mem_append_left _ (List.mem_append_left _ he)
    · exact List.append_eq_nil_iff.mpr ⟨List.filter_eq_nil_iff.mpr fun e he => hnot (hcore hx (List.mem_append_left _ (List.mem_append_left _ he))),
        List.filter_eq_nil_iff.mpr fun e he => hnot (hcore hx (List.mem_append_left _ (List.mem_append_right _ he)))⟩
  rw [hes]
  rfl

/-- Where no slot is reserved for the launch, none is given up. -/
theorem dropReserved_none (h : ∀ x ∈ s.cores, ∀ (sl : Fin 16) e, x.2.slots[sl].resv = some e → e.task.launch ≠ n) : s.dropReserved n = s := by
  unfold State.dropReserved
  extract_lets ws
  have hws : ws = [] := by
    refine List.flatMap_eq_nil_iff.mpr fun x hx => List.filterMap_eq_nil_iff.mpr fun sl _ => ?_
    have hx' := h x hx sl
    split
    next e hst hresv => exact if_neg (hx' e hresv)
    next => rfl
  rw [hws]
  rfl

/-- Where no thread of the launch waits for a tile queue, none goes on. -/
theorem dropTileWait_none (h : ∀ x ∈ s.cores, ∀ y ∈ x.2.tileWait, y.task.launch ≠ n) : s.dropTileWait n = s := by
  have hws : (s.cores.flatMap fun (c, k) => (k.tileWait.filter fun q => q.task.launch == n).map fun q => Who.mk c q.slot) = [] := by
    refine List.flatMap_eq_nil_iff.mpr fun x hx => List.map_eq_nil_iff.mpr (List.filter_eq_nil_iff.mpr fun q hq => ?_)
    exact mt beq_iff_eq.mp (h x hx q hq)
  unfold State.dropTileWait
  rw [hws]
  rfl

theorem dropSpilled_none (h : ∀ x ∈ s.cores, ∀ y ∈ x.2.spilled, y.task.launch ≠ n) : s.dropSpilled n = s := by
  have hws : (s.cores.filter fun x => x.2.spilled.any fun y => y.task.launch == n) = [] := by
    refine List.filter_eq_nil_iff.mpr fun x hx hany => ?_
    obtain ⟨y, hy, hn⟩ := List.any_eq_true.mp hany
    exact h x hx y hy (beq_iff_eq.mp hn)
  unfold State.dropSpilled
  rw [hws]
  rfl

/-- A stopped launch whose tasks all stand in slots keeps them. -/
theorem discardAll_placed (h : ∀ t ∈ s.tasks, t.id.launch = n → ∃ c sl, t.place = .on c sl) : s.discardAll n = s := by
  unfold State.discardAll
  induction s.tasks with
  | nil => rfl
  | cons t ts ih =>
    rw [List.foldl_cons]
    suffices hstep : ∀ u : State, u = s → List.foldl _ u ts = s by
      refine hstep _ ?_
      split
      next ht =>
        rcases hfind : s.task? t.id with _ | x
        · rfl
        · obtain ⟨c, sl, hplace⟩ := h x (List.mem_of_find?_eq_some hfind) (by
            rw [beq_iff_eq.mp (List.find?_some (p := fun y : Task => y.id == t.id) hfind)]
            exact ht)
          simp only [Option.map_some, hplace]
      next => rfl
    intro u hu
    rw [hu, ih]

/-! ## What stays of the cores -/

/-- A core without the queue entries of a launch. -/
def queuedCore (n : Nat) (k : Core) : Core :=
  { k with runq := k.runq.filter fun e => !(e.task.launch == n), heldLets := k.heldLets.filter fun e => !(e.2.task.launch == n) }

/-- A core as a stop leaves it. -/
def stoppedCore (n : Nat) (k : Core) : Core := (queuedCore n k).dropWork n

/-- The launch as a stop leaves it. -/
def stoppedLaunch (l : Launch) (kind : StopKind) (arms : Nat) : Launch :=
  { l with st := .stopped kind, withdrawn := l.withdrawn + arms, odo := none, due := none, unplaced := [] }

/-- A core's slots through a stop, with what is dropped of it. -/
theorem stoppedCore_keeps (n : Nat) (k : Core) : (stoppedCore n k).slots = k.slots ∧
    (stoppedCore n k).commitq = k.commitq.filter (fun e => e.task.launch != n) ∧ (stoppedCore n k).mxq = k.mxq.filter (fun e => e.task.launch != n) ∧
    (stoppedCore n k).waiters = k.waiters.filter (fun e => e.task.launch != n) := ⟨rfl, rfl, rfl, rfl⟩

/-- Conditions under which a stop drops no entry, reservation, tile wait or spilled waiter. -/
structure Quiet (s : State) (n : Nat) : Prop where
  entries : ∀ e ∈ s.allEntries, e.task.launch ≠ n
  tasks : ∀ t ∈ s.tasks, t.id.launch = n → ∃ c sl, t.place = .on c sl
  spilled : ∀ x ∈ s.cores, ∀ y ∈ x.2.spilled, y.task.launch ≠ n
  tileWait : ∀ x ∈ s.cores, ∀ y ∈ x.2.tileWait, y.task.launch ≠ n

/-- The steps of a stop after its launch is marked. -/
def stopSteps (s : State) (n : Nat) : State := ((((s.dropQueued n).dropReserved n).dropWork n).discardAll n).stopThreads n

theorem dropWork_quiet (ht : ∀ x ∈ s.cores, ∀ y ∈ x.2.tileWait, y.task.launch ≠ n) (hs : ∀ x ∈ s.cores, ∀ y ∈ x.2.spilled, y.task.launch ≠ n) :
    (s.dropWork n).cores = s.cores.map (fun (c, k) => (c, k.dropWork n)) ∧ (s.dropWork n).mem = s.mem ∧ (s.dropWork n).launches = s.launches ∧
    (∀ t ∈ (s.dropWork n).tasks, ∃ t' ∈ s.tasks, t.id = t'.id ∧ t.place = t'.place) := by
  unfold State.dropWork
  rw [dropTileWait_none ht, dropSpilled_none hs]
  refine ⟨rfl, rfl, rfl, fun t htask => ?_⟩
  obtain ⟨t', ht', rfl⟩ := List.mem_map.mp htask
  refine ⟨t', ht', ?_⟩
  split <;> exact ⟨rfl, rfl⟩

/-- What the steps of a stop leave of a package where they drop only what cores hold. -/
theorem stopSteps_quiet (h : Quiet s n) : (stopSteps s n).mem = s.mem ∧ (stopSteps s n).launches = s.launches ∧
    (∀ c k, Tbl.find? s.cores c = some k → Tbl.find? (stopSteps s n).cores c = some (stoppedCore n k)) ∧
    (∀ c sl k, (c, k) ∈ s.cores → k.slots[sl].launched = true → k.slots[sl].task.launch = n → k.slots[sl].st ≠ .empty →
      k.slots[sl].st ≠ .reserved → .driverStop c sl ∈ (stopSteps s n).agenda) := by
  have hqueued := dropQueued_none h.entries
  generalize hs1 : s.dropQueued n = s1 at hqueued
  have hcores1 : s1.cores = s.cores.map fun p => (p.1, queuedCore n p.2) := by rw [hqueued]; rfl
  have hmem1 {x : Nat × Core} (hx : x ∈ s1.cores) : ∃ k, (x.1, k) ∈ s.cores ∧ x.2 = queuedCore n k := by
    rw [hcores1] at hx
    obtain ⟨y, hy, rfl⟩ := List.mem_map.mp hx
    exact ⟨y.2, hy, rfl⟩
  have hresv : s1.dropReserved n = s1 := by
    refine dropReserved_none fun x hx sl e he => ?_
    obtain ⟨k, hk, hxk⟩ := hmem1 hx
    rw [hxk] at he
    refine h.entries e (List.mem_append_left _ (List.mem_append_right _ (List.mem_flatMap.mpr ⟨(x.1, k), hk, List.mem_append_right _ ?_⟩)))
    exact List.mem_filterMap.mpr ⟨k.slots[sl], Vector.mem_toList_iff.mpr (Vector.getElem_mem sl.isLt), he⟩
  have hwork := dropWork_quiet (s := s1) (n := n) (fun x hx => by obtain ⟨k, hk, hxk⟩ := hmem1 hx; rw [hxk]; exact h.tileWait _ hk)
    (fun x hx => by obtain ⟨k, hk, hxk⟩ := hmem1 hx; rw [hxk]; exact h.spilled _ hk)
  obtain ⟨hcores3, hmem3, hlaunch3, htasks3⟩ := hwork
  have hplaced : (s1.dropWork n).discardAll n = s1.dropWork n := by
    refine discardAll_placed fun t ht hid => ?_
    obtain ⟨t', ht', hid', hplace⟩ := htasks3 t ht
    rw [show s1.tasks = s.tasks by rw [hqueued]] at ht'
    rw [hplace]
    exact h.tasks t' ht' (by rw [← hid']; exact hid)
  have hsteps : stopSteps s n = (s1.dropWork n).stopThreads n := by
    unfold stopSteps
    rw [hs1, hresv, hplaced]
  have hcores : (stopSteps s n).cores = s.cores.map fun p => (p.1, stoppedCore n p.2) := by
    rw [hsteps]
    change (s1.dropWork n).cores = _
    rw [hcores3, hcores1, List.map_map]
    rfl
  refine ⟨?_, ?_, fun c k hk => ?_, fun c sl k hk hlaunched htask hempty hreserved => ?_⟩
  · rw [hsteps]
    exact hmem3.trans (by rw [hqueued])
  · rw [hsteps]
    exact hlaunch3.trans (by rw [hqueued])
  · rw [hcores, Slots.find?_mapValues, hk]
    rfl
  · rw [hsteps]
    refine List.mem_append_right _ (List.mem_flatMap.mpr ⟨(c, stoppedCore n k), ?_, List.mem_filterMap.mpr ⟨sl, List.mem_finRange sl, if_pos ?_⟩⟩)
    · rw [hcores3, hcores1, List.map_map]
      exact List.mem_map.mpr ⟨(c, k), hk, rfl⟩
    · change (k.slots[sl].launched && k.slots[sl].st != .empty && k.slots[sl].st != .reserved && k.slots[sl].task.launch == n) = true
      rw [hlaunched, htask, beq_self_eq_true, Bool.true_and, Bool.and_true, Bool.and_eq_true, bne_iff_ne, bne_iff_ne]
      exact ⟨hempty, hreserved⟩

/-! ## The stop of a live launch -/

/-- The first report kept, or a later one counted. -/
def keepReport (r : Report) (l : Launch) : Launch := match l.first with
  | none => match l.st with
    | .stopped .driver | .stopped .stall => { l with others := l.others + 1 }
    | _ => { l with first := some r }
  | some _ => { l with others := l.others + 1 }

theorem keepReport_keeps (r : Report) (l : Launch) : (keepReport r l).num = l.num ∧ (keepReport r l).st = l.st := by
  unfold keepReport
  split
  · split <;> exact ⟨rfl, rfl⟩
  · exact ⟨rfl, rfl⟩

/-- The arms of a launch that a stop withdraws. -/
def armsOf (s : State) (n : Nat) : Nat :=
  s.cores.foldl (fun m (_, k) => m + ((k.waiters ++ k.spilled).filter fun x => x.task.launch == n && x.arm.isSome).length) 0

/-- The package with a launch marked as stopped. -/
def marked (s : State) (n : Nat) (kind : StopKind) (r : Report) : State :=
  (s.updLaunch n (keepReport r)).updLaunch n fun l =>
    { l with st := .stopped kind, withdrawn := l.withdrawn + armsOf s n, odo := none, due := none, unplaced := [] }

variable {r : Report} {kind : StopKind}

theorem stopLaunch_live (hl : s.launch? n = some l) (hst : l.st = .live) : s.stopLaunch n kind (some r) = stopSteps (marked s n kind r) n := by
  unfold State.stopLaunch
  rw [hl]
  simp only [hst]
  rfl

theorem stopLaunch_again (hl : s.launch? n = some l) (hst : l.st = .stopped kind) :
    s.stopLaunch n .fault (some r) = s.updLaunch n (keepReport r) := by
  unfold State.stopLaunch
  rw [hl]
  simp only [hst]
  exact if_neg (by decide)

theorem marked_launch (hl : s.launch? n = some l) : (marked s n kind r).launch? n = some (stoppedLaunch (keepReport r l) kind (armsOf s n)) := by
  have hkept := Sched.launch?_updLaunch (g := keepReport r) hl (keepReport_keeps r)
  unfold marked
  refine (Tasks.find?_updFirst (fun x hx => ?_) _).trans (congrArg (Option.map _) hkept)
  obtain ⟨hnum, -⟩ := Bool.and_eq_true_iff.mp hx
  rw [Bool.and_eq_true]
  exact ⟨hnum, rfl⟩

theorem updFirst_congr {α : Type} {p : α → Bool} {f g : α → α} {x : α} : ∀ {xs : List α}, xs.find? p = some x → f x = g x → updFirst p f xs = updFirst p g xs
  | [], h, _ => nomatch h
  | y :: ys, h, hfg => by
    rw [updFirst, updFirst]
    cases hp : p y with
    | true =>
      rw [List.find?_cons_of_pos hp] at h
      cases h
      rw [if_pos rfl, if_pos rfl, hfg]
    | false =>
      rw [List.find?_cons_of_neg (by rw [hp]; exact Bool.false_ne_true)] at h
      rw [if_neg Bool.false_ne_true, if_neg Bool.false_ne_true, updFirst_congr h hfg]

theorem updLaunch_congr {f g : Launch → Launch} (hl : s.launch? n = some l) (hfg : f l = g l) : s.updLaunch n f = s.updLaunch n g := by
  unfold State.updLaunch
  rw [updFirst_congr hl hfg]

/-- What a stop does to a live launch whose threads alone are left. -/
theorem stop_live (hl : s.launch? n = some l) (hst : l.st = .live) (hfirst : l.first = none) (h : Quiet s n) :
    ∃ l', (s.stopLaunch n kind (some r)).launch? n = some l' ∧ l'.st = .stopped kind ∧ l'.first = some r ∧ l'.odo = none ∧
      (s.stopLaunch n kind (some r)).mem = s.mem ∧
      (∀ c k, Tbl.find? s.cores c = some k → Tbl.find? (s.stopLaunch n kind (some r)).cores c = some (stoppedCore n k)) ∧
      (∀ c sl k, (c, k) ∈ s.cores → k.slots[sl].launched = true → k.slots[sl].task.launch = n → k.slots[sl].st ≠ .empty →
        k.slots[sl].st ≠ .reserved → .driverStop c sl ∈ (s.stopLaunch n kind (some r)).agenda) := by
  have hquiet : Quiet (marked s n kind r) n := ⟨h.entries, h.tasks, h.spilled, h.tileWait⟩
  obtain ⟨hmem, hlaunches, hcores, hstops⟩ := stopSteps_quiet hquiet
  rw [stopLaunch_live hl hst]
  refine ⟨stoppedLaunch (keepReport r l) kind (armsOf s n), ?_, rfl, ?_, rfl, hmem, hcores, hstops⟩
  · unfold State.launch?
    rw [hlaunches]
    exact marked_launch hl
  · change (keepReport r l).first = some r
    unfold keepReport
    rw [hfirst, hst]

/-! ## Completion (R347) -/

theorem launchCompletes_done (hl : s.launch? n = some l) (hbusy : s.launchBusy n = false) (hw : l.st ≠ .waiting) (hlive : l.st ≠ .live)
    {status reason naux : Nat} {reps : List (List Byte)} (hout : l.outcome = (status, reason, naux, reps)) :
    let t := s.complete l.queue l.num status reason l.wqidx naux reps (hIrqVec l.h)
    (s.launchCompletes n).mem = t.mem ∧ (s.launchCompletes n).wq = t.wq ∧ (s.launchCompletes n).msixPending = t.msixPending ∧
      (s.launchCompletes n).tasks = s.tasks.filter (fun t => t.id.launch != n) ∧
      (s.launchCompletes n).launches = delFirst (fun x => x.key == l.key) s.launches := by
  intro t
  obtain ⟨_, _, _, _, _, _, _, _, _, hwritten⟩ := Launches.written_complete s l.queue l.num status reason l.wqidx naux reps (hIrqVec l.h)
  have htasks : t.tasks = s.tasks := by
    rw [show t = _ from hwritten]
  have hlaunches : t.launches = s.launches := by
    rw [show t = _ from hwritten]
  unfold State.launchCompletes State.completeLaunch
  rw [hbusy, if_neg Bool.false_ne_true, hl]
  simp only [hout]
  exact ⟨rfl, rfl, rfl, congrArg (List.filter _) htasks, congrArg (delFirst _) hlaunches⟩

end Sys2Proof.Stops

/-! # Launches: acceptance, dispatch, stop, completion -/

namespace Sys2Proof.Commands
open Sys2Proof Sys2Proof.Machine Sys2Proof.Claims Sys2Proof.Launches Sys2Proof.Stops

variable {s : State} {q : Nat} {l : Launch}

/-- A record accepted: the header's launch waits to be dispatched. -/
theorem accept_ok (h : s.acceptDue q = true) (hsize : 0 < (s.wqPage q).size.toNat) {a : Admitted}
    (ha : (headMoved s q).accepts ((s.wqPage q).ctl.toNat / 2 ^ 8 % 2 ^ 8) (headRecord s q) = .ok a) : ∃ l', s.accept q =
      { (headMoved s q).logHeader ((s.wqPage q).ctl.toNat / 2 ^ 8 % 2 ^ 8) (headRecord s q) with
        launches := s.launches ++ [l'], nextKey := s.nextKey + 1 }.post [.launchDispatch l'.key] ∧
      l'.hdr = BitVec.ofNat 1024 (headRecord s q) ∧ l'.st = .waiting ∧ l'.deps = a.deps ∧ l'.queue = q ∧
      l'.asid = (s.wqPage q).ctl.toNat / 2 ^ 8 % 2 ^ 8 ∧ l'.wqidx = (s.wqPage q).head.toNat % 2 ^ 32 ∧ l'.ofDevice = false ∧
      l'.gvt = hVtbase (headRecord s q) ∧ l'.hzn = hVtbase (headRecord s q) := by
  obtain ⟨_, _, _, _, _, _, _, _, _, hlog⟩ := logged_logHeader (headMoved s q) ((s.wqPage q).ctl.toNat / 2 ^ 8 % 2 ^ 8) (headRecord s q)
  have haccept := accept_due h hsize
  simp only [ha] at haccept
  generalize (headMoved s q).logHeader ((s.wqPage q).ctl.toNat / 2 ^ 8 % 2 ^ 8) (headRecord s q) = read at haccept hlog ⊢
  have hlaunches : read.launches = s.launches := by rw [hlog]; rfl
  have hkey : read.nextKey = s.nextKey := by rw [hlog]; rfl
  rw [hlaunches, hkey] at haccept
  exact ⟨_, haccept, rfl, rfl, rfl, rfl, rfl, rfl, rfl, rfl, rfl⟩

/-- A record refused: its completion record says why. -/
theorem accept_refused (h : s.acceptDue q = true) (hsize : 0 < (s.wqPage q).size.toNat) {reason : Nat}
    (ha : (headMoved s q).accepts ((s.wqPage q).ctl.toNat / 2 ^ 8 % 2 ^ 8) (headRecord s q) = .error reason) : ∃ n, (s.accept q).launches = s.launches ∧
      ((∀ l ∈ s.launches, l.num ≠ s.nextNum) → n = s.nextNum) ∧
      s.accept q = { ((headMoved s q).logHeader ((s.wqPage q).ctl.toNat / 2 ^ 8 % 2 ^ 8) (headRecord s q)).complete q n 4 reason
        ((s.wqPage q).head.toNat % 2 ^ 32) 0 [] (hIrqVec (headRecord s q)) with nextNum := (n + 1) % 4096 } := by
  obtain ⟨_, _, _, _, _, _, _, _, _, hlog⟩ := logged_logHeader (headMoved s q) ((s.wqPage q).ctl.toNat / 2 ^ 8 % 2 ^ 8) (headRecord s q)
  have haccept := accept_due h hsize
  simp only [ha] at haccept
  generalize (headMoved s q).logHeader ((s.wqPage q).ctl.toNat / 2 ^ 8 % 2 ^ 8) (headRecord s q) = read at haccept hlog ⊢
  have hlaunches : read.launches = s.launches := by rw [hlog]; rfl
  have hnext : read.nextNum = s.nextNum := by rw [hlog]; rfl
  refine ⟨read.number?.getD read.nextNum, ?_, fun hfree => ?_, haccept⟩
  · obtain ⟨_, _, _, _, _, _, _, _, _, hdone⟩ := written_complete read q (read.number?.getD read.nextNum) 4 reason
      ((s.wqPage q).head.toNat % 2 ^ 32) 0 [] (hIrqVec (headRecord s q))
    rw [haccept, hdone]
    exact hlaunches
  · rw [number?_first (by rw [hlaunches, hnext]; exact hfree)]
    exact hnext

/-- A sole launch without a grid or dependences dispatched. -/
theorem dispatch_one (hl : s.launches = [l]) (hst : l.st = .waiting) (hnum : l.num = 4096) (hodo : l.odo = none) (hdeps : l.deps = [])
    (hnext : s.nextNum < 4096) (ht : s.tasks = []) (hg : hNogrid l.h = true) (he : hExpl l.h = false) :
    (s.dispatch l.key).launches = [dispatched s l] ∧ (s.dispatch l.key).nextNum = (s.nextNum + 1) % 4096 ∧
      (s.dispatch l.key).tasks = [gridTask (dispatched s l) (gridEntry (dispatched s l) 0 false)] ∧
      (s.dispatch l.key).agenda = s.agenda ++ [.unitPlacement (firstDie l.h) ⟨s.nextNum, unitPlace l.h, [gridEntry (dispatched s l) 0 false]⟩] := by
  obtain ⟨cores, rdc, pages, hdispatch⟩ := dispatch_sole hl hst hnum hodo hdeps hnext
  rw [hdispatch, deal_nogrid (l := dispatched s l) hg he]
  refine ⟨rfl, rfl, ?_, rfl⟩
  change s.tasks ++ _ = _
  rw [ht, List.nil_append]

theorem gridEntry_task (l : Launch) : (gridEntry l 0 false).task = ⟨l.num, 0⟩ := by
  exact congrArg (fun w : Nat => (⟨l.num, BitVec.ofNat 64 w⟩ : TaskId)) (widOfIndex_zero l.h)

/-- The report of a launch that the driver stopped (R348). -/
def driverReport : Report :=
  { src := 3, code := 0x21, sub := 2, core := 0x7FF, slot := 0, wid := 0, pc := 0, tval := 0, tag := 0, cmd := none }

/-- Settles O42: a record at a queue's head by whether its header is admitted, then a sole launch's dispatch, a stop by the launch's state, and the
completion record by how the launch ended. -/
theorem launchEvents : Obligations.LaunchEvents := by
  unfold Obligations.LaunchEvents
  intro s q l r kind p h asid moved read
  refine ⟨fun hdue hsize => ⟨fun a ha => ?_, fun reason ha => ?_⟩, fun hl hst hnum hodo hdeps hnext ht hg he => ?_,
    fun hl hst hfirst hent htasks hcores => ?_, fun hl hst hkind r' hfirst => congrArg Host.Outcome.next ?_, fun hl hbusy => ?_⟩
  · obtain ⟨l', haccept, hfields⟩ := accept_ok hdue hsize ha
    exact ⟨l', congrArg Host.Outcome.next haccept, hfields⟩
  · obtain ⟨n, hlaunches, hn, haccept⟩ := accept_refused hdue hsize ha
    exact ⟨n, _, rfl, hlaunches, hn, haccept⟩
  · obtain ⟨hlaunches, hnext', htasks, hagenda⟩ := dispatch_one hl hst hnum hodo hdeps hnext ht hg he
    exact ⟨s.dispatch l.key, dispatched s l, gridTask (dispatched s l) (gridEntry (dispatched s l) 0 false),
      ⟨s.nextNum, unitPlace l.h, [gridEntry (dispatched s l) 0 false]⟩, firstDie l.h, rfl, hlaunches, rfl, rfl, rfl, rfl, rfl, hnext', htasks,
      gridEntry_task (dispatched s l), rfl, rfl, rfl, hagenda, rfl, ⟨_, rfl, rfl, rfl⟩, firstDie_dealt l.h⟩
  · obtain ⟨l', hl', hst', hfirst', hodo', hmem, hcores', hstops⟩ := stop_live (kind := kind) (r := r) hl hst hfirst
      ⟨hent, htasks, fun x hx => (hcores x hx).1, fun x hx => (hcores x hx).2⟩
    exact ⟨_, l', rfl, hl', hst', hfirst', hodo', hmem, fun c k hk => ⟨_, hcores' c k hk, stoppedCore_keeps l.num k⟩, hstops⟩
  · refine (stopLaunch_again hl hst).trans (updLaunch_congr hl ?_)
    unfold keepReport
    rw [hfirst]
  · have hdone {status reason naux : Nat} {reps : List (List Byte)} (hw : l.st ≠ .waiting) (hlive : l.st ≠ .live)
        (hout : l.outcome = (status, reason, naux, reps)) : ∃ s', fires (.launchCompletion l.num) s = .next s' ∧
          let t := s.complete l.queue l.num status reason l.wqidx naux reps (hIrqVec l.h)
          s'.mem = t.mem ∧ s'.wq = t.wq ∧ s'.msixPending = t.msixPending ∧ s'.tasks = s.tasks.filter (fun t => t.id.launch != l.num) ∧
          s'.launches = delFirst (fun x => x.key == l.key) s.launches :=
      ⟨_, rfl, launchCompletes_done hl hbusy hw hlive hout⟩
    refine ⟨fun hst => hdone (by rw [hst]; decide) (by rw [hst]; decide) ?_, fun hst => hdone (by rw [hst]; decide) (by rw [hst]; decide) ?_,
      fun hst hfirst => hdone (by rw [hst]; decide) (by rw [hst]; decide) ?_,
      fun hst => ⟨reportRecord driverReport, hdone (by rw [hst]; decide) (by rw [hst]; decide) ?_, Bits.length_bytesOf ..⟩⟩
    · unfold Launch.outcome
      rw [hst]
    · unfold Launch.outcome
      rw [hst]
    · unfold Launch.outcome
      rw [hst, hfirst]
    · unfold Launch.outcome
      rw [hst]
      rfl

end Sys2Proof.Commands

/-! # A copy of frozen data that holds fewer bytes than a granule -/

namespace Sys2Proof.Homes
open Sys2Proof Sys2Proof.Machine Sys2Proof.Claims

/-- A page-table entry: V, LEAF, kind FROZEN, R, W and X, frame 0x500. -/
def frozenEntry : Nat := 3 + 2 * 16 + 7 * 64 + 512 + 0x500 * 2 ^ 12 + 2 ^ 102

/-- A load of 8 bytes at address 0. -/
def load0 : Instr := .ld 1 0 .d 0

/-- A copy of the frozen granule at address 0 that holds one byte of it. -/
def shortLine : DLine := ⟨0, 0, true, 15, [0x80], 0, checkCode [0x80] 0⟩

/-- The state at reset, but that the load of slot 0 of core 0 is to be performed at its home, the page of address 0 is mapped and FROZEN, and the core
holds that copy. -/
def shortCopy : State :=
  let s : State := { State.reset with cores := [(0, { Core.reset with slots := Core.reset.slots.set 0 { Slot.reset with st := .busy, busy := .remote, out := some load0 }, dcache := [shortLine] })], regs := { State.reset.regs with ascbase := 0x10000 }, tcache := [⟨0, 0, frozenEntry, 0x30000, 0⟩] }
  (s.pwrite 0x10000 (bytesOf 32 (1 + 0x20000 * 2 ^ 64))).pwrite 0x20000 (bytesOf 16 5)

/-- The place of the load, and the thread's register 1 after an outcome. -/
def page0 : Loc := .mem ⟨0x500000, frozenEntry, 0, 0x30000⟩
def register1 (o : Host.Outcome State Fault Refusal) : Option Word :=
  match o with
  | .next t => some (t.th ⟨0, 0⟩).g[1]
  | _ => none

theorem place_load0 : shortCopy.place ⟨0, 0⟩ .load 0 8 = .ok page0 := by decide +kernel
theorem loadAt_load0 : shortCopy.loadAt ⟨0, 0⟩ 0 page0 8 = .ok [0x80] := by decide +kernel

/-- The model extends the sign of the one byte that it has read. -/
theorem register1_load0 : register1 (fires (.remoteWordAccess 0 0) shortCopy) = some 0xFFFFFFFFFFFFFF80 := by decide +kernel

/-- Refutes O37: the clause on a load performed at its home extends the bytes read as 8 bytes, however few a copy of frozen data holds. -/
theorem not_homeEvents : ¬ Obligations.HomeEvents := by
  unfold Obligations.HomeEvents
  intro h
  obtain ⟨-, hremote, -⟩ := h shortCopy ⟨0, 0⟩ 1 0 .d 0 .f64 load0
  obtain ⟨hload, -⟩ := hremote rfl rfl shortCopy shortCopy 0 0 page0 [0x80] rfl rfl
  have hfires := hload rfl rfl rfl place_load0 loadAt_load0
  have hzero : register1 (fires (.remoteWordAccess 0 0) shortCopy) = some 0x80 := (congrArg register1 hfires).trans (by decide +kernel)
  exact absurd (register1_load0.symm.trans hzero) (by decide)

end Sys2Proof.Homes

/-! # The arrival of a message (R73, R82, R84, R101, R212, R399) -/

namespace Sys2Proof.Arrivals
open Sys2Proof Sys2Proof.Machine Sys2Proof.Claims

variable {s r : State} {w : Who} {m a : Msg} {t : Task} {l : Launch}

theorem fires_arrival (s : State) (m : Msg) : fires (.messageArrival m) s = .next ((counted s m).deliver false m) := rfl
theorem fires_anti (s : State) (m : Msg) : fires (.antiMessageArrival m) s = .next (s.antiArrives false m) := rfl

theorem twin_eq (a m : Msg) : twin a m = twins a m := by
  rw [Bool.eq_iff_iff, twin, twins]
  simp only [Bool.and_eq_true, Bool.not_eq_true', beq_iff_eq, decide_eq_true_eq, and_assoc]

/-! ## Earlier messages of the same order (R212) -/

theorem behind_iff (k : Core) (m : Msg) : k.behind m = true ↔ ∃ x ∈ k.ingress, precedes x.1 m := by
  simp only [Core.behind, List.any_eq_true, precedes, Bool.and_eq_true, beq_iff_eq, and_assoc]

theorem behindAt_none (h : inOrder s m) : s.behindAt m = none := by
  rw [State.behindAt, List.findSome?_eq_none_iff]
  intro p hp
  rw [if_neg]
  rw [behind_iff]
  exact fun ⟨x, hx, hpre⟩ => h p hp x hx hpre

theorem behindAt_first {before rest : List (Nat × Core)} {c : Nat} {k : Core} (hcores : s.cores = before ++ (c, k) :: rest)
    (hbefore : ∀ p ∈ before, ∀ x ∈ p.2.ingress, ¬ precedes x.1 m) (hk : ∃ x ∈ k.ingress, precedes x.1 m) : s.behindAt m = some c := by
  have hnone : before.findSome? (fun x => if x.2.behind m then some x.1 else none) = none := by
    rw [List.findSome?_eq_none_iff]
    intro p hp
    rw [if_neg]
    rw [behind_iff]
    exact fun ⟨x, hx, hpre⟩ => hbefore p hp x hx hpre
  rw [State.behindAt, hcores, List.findSome?_append, hnone, Option.none_or, List.findSome?_cons, (behind_iff k m).2 hk]
  rfl

/-! ## Where a message goes -/

/-- A task's message held with its directory entry (R101). -/
def heldFor (r : State) (t : Task) (m : Msg) : State := r.updTask t.id fun x => { x with hold := x.hold ++ [m] }

section Deliver

variable (hl : r.launch? m.launch = some l) (hkind : m.kind = 0) (hs : r.stopped m.launch = false)
include hl hkind hs

theorem deliver_nowhere (hwid : 2 ^ widS (hWidths l.h) ≤ m.dwid.toNat) : r.deliver false m = r.sendMsg { m with kind := 1, anti := false } := by
  have hno : l.noSuchWid m.dwid = true := decide_eq_true hwid
  unfold State.deliver
  simp only [hl, hs, hkind, hno, Bool.false_eq_true, if_false, zero_ne_one, and_self, if_true]
  rfl

variable (hwid : m.dwid.toNat < 2 ^ widS (hWidths l.h))
include hwid

theorem deliver_behind {c : Nat} (h : r.behindAt m = some c) : r.deliver false m = r.toIngress c m := by
  have hno : l.noSuchWid m.dwid = false := decide_eq_false (Nat.not_le.2 hwid)
  unfold State.deliver
  simp only [hl, hs, hkind, hno, h, Bool.false_eq_true, if_false, zero_ne_one, and_false]

theorem deliver_unplaced (ho : inOrder r m) (ht : r.task? ⟨m.launch, m.dwid⟩ = none) :
    r.deliver false m = r.updLaunch m.launch fun l => { l with unplaced := l.unplaced ++ [m] } := by
  have hno : l.noSuchWid m.dwid = false := decide_eq_false (Nat.not_le.2 hwid)
  unfold State.deliver
  simp only [hl, hs, hkind, hno, behindAt_none ho, ht, Bool.false_eq_true, if_false, zero_ne_one, and_false]

variable (ho : inOrder r m) (ht : r.task? ⟨m.launch, m.dwid⟩ = some t)
include ho ht

theorem deliver_exited (htent : m.tent = false) (hp : t.place = .exited) : r.deliver false m = r.sendMsg { m with kind := 1, anti := false } := by
  have hno : l.noSuchWid m.dwid = false := decide_eq_false (Nat.not_le.2 hwid)
  have hlost : r.lost t = false := by rw [State.lost, hp]; rfl
  have hkeep : r.tentHeld m = false := by rw [State.tentHeld, htent, Bool.false_and]
  unfold State.deliver
  simp only [hl, hs, hkind, hno, behindAt_none ho, ht, hlost, hp, hkeep, Bool.false_eq_true, if_false, zero_ne_one, and_false, ne_eq, not_true]
  rfl

variable (hp : t.place = .on w.core w.slot)
include hp

theorem deliver_cut (hcut : w.core / 192 ∈ r.cutDies) : r.deliver false m = heldFor r t m := by
  have hno : l.noSuchWid m.dwid = false := decide_eq_false (Nat.not_le.2 hwid)
  have hlost : r.lost t = true := by rw [State.lost, hp]; exact List.contains_iff_mem.2 hcut
  unfold State.deliver
  simp only [hl, hs, hkind, hno, behindAt_none ho, ht, hlost, Bool.false_eq_true, if_false, zero_ne_one, and_false, if_true]
  rfl

variable (hcut : w.core / 192 ∉ r.cutDies)
include hcut

theorem deliver_trap (hst : (r.at w).st = .trap) : r.deliver false m = (heldFor r t m).postWake w.core 0x01 w.slot.val := by
  have hno : l.noSuchWid m.dwid = false := decide_eq_false (Nat.not_le.2 hwid)
  have hlost : r.lost t = false := by rw [State.lost, hp]; exact Bool.eq_false_iff.2 fun h => hcut (List.contains_iff_mem.1 h)
  have hst' : (r.slot w.core w.slot).st = .trap := hst
  unfold State.deliver
  simp only [hl, hs, hkind, hno, behindAt_none ho, ht, hlost, hp, hst', Bool.false_eq_true, if_false, zero_ne_one, and_false, if_true]
  rfl

theorem deliver_run (htent : m.tent = false) (hst : (r.at w).st = .run) : r.deliver false m = r.enterInbox t w.core true m := by
  have hno : l.noSuchWid m.dwid = false := decide_eq_false (Nat.not_le.2 hwid)
  have hlost : r.lost t = false := by rw [State.lost, hp]; exact Bool.eq_false_iff.2 fun h => hcut (List.contains_iff_mem.1 h)
  have hst' : (r.slot w.core w.slot).st = .run := hst
  have hkeep : r.tentHeld m = false := by rw [State.tentHeld, htent, Bool.false_and]
  unfold State.deliver
  simp only [hl, hs, hkind, hno, behindAt_none ho, ht, hlost, hp, hst', hkeep, Bool.false_eq_true, if_false, zero_ne_one, and_false, reduceCtorEq]

end Deliver

/-! ## The inbox of a task that runs -/

theorem pokeId_run {u : State} {id : TaskId} {y : Task} (hy : u.task? id = some y) (hp : y.place = .on w.core w.slot)
    (hst : (u.at w).st = .run) : u.pokeId id = u := by
  have hslot : (u.slot w.core w.slot).st = .run := hst
  rw [State.pokeId, hy]
  simp only [State.poke, hp, hslot, reduceCtorEq, false_and, if_false]

/-- A message in a hardware entry of its task's inbox (R73). -/
def entered (r : State) (t : Task) (m : Msg) : State := r.updTask t.id fun x => { x with inbox := x.inbox ++ [⟨m, none⟩] }

theorem task?_entered (ht : r.task? t.id = some t) (m : Msg) : ∃ y, (entered r t m).task? t.id = some y ∧ y.place = t.place := by
  refine ⟨{ t with inbox := t.inbox ++ [⟨m, none⟩] }, ?_, rfl⟩
  exact (Tasks.task?_updTask (by intro; rfl)).trans (by rw [ht]; rfl)

/-- A message that asks for a rollback of its task (R82). -/
def straggles (t : Task) (m : Msg) : Bool :=
  m.kind == 0 && !m.anti && !t.epochs.isEmpty && (match t.lastKey with | some k => m.key.lt k | none => false)

section Inbox

variable (hmeet : m.anti = true ∨ ∀ x ∈ t.inbox, ¬ (x.msg.anti = true ∧ twins x.msg m = true))
include hmeet

theorem notMet : (!m.anti && t.inbox.any fun x => x.msg.anti && twin x.msg m) = false := by
  rcases hmeet with h | h
  · rw [h]
    rfl
  · rw [Bool.and_eq_false_iff]
    refine .inr (List.any_eq_false.2 fun x hx => ?_)
    rw [twin_eq, Bool.and_eq_true]
    exact h x hx

theorem enterInbox_room (hkind : m.kind = 0) (ht : r.task? t.id = some t) (hp : t.place = .on w.core w.slot) (hst : (r.at w).st = .run) (hroom : r.hardUsed w.core < 256) :
    r.enterInbox t w.core true m = if straggles t m then (entered r t m).post [.rollback t.id m.key false] else entered r t m := by
  have hhard : decide (r.hardUsed w.core < 256) = true := decide_eq_true hroom
  have hput : r.putEntry t.id w.core true m = entered r t m := by
    rw [State.putEntry, hhard, Bool.and_self, if_pos rfl, State.append, if_pos hkind]
    rfl
  obtain ⟨y, hy, hyp⟩ := task?_entered ht m
  unfold State.enterInbox State.inboxRoom
  rw [notMet hmeet, hhard, hput]
  change State.pokeId (if straggles t m then (entered r t m).post [.rollback t.id m.key false] else entered r t m) t.id = _
  split
  · exact pokeId_run (w := w) hy (hyp.trans hp) hst
  · exact pokeId_run (w := w) hy (hyp.trans hp) hst

theorem enterInbox_full (hfull : 256 ≤ r.hardUsed w.core) (hio : (r.core w.core).ioEntries = 0) :
    r.enterInbox t w.core true m = r.toIngress w.core m := by
  have hhard : decide (r.hardUsed w.core < 256) = false := decide_eq_false (Nat.not_lt.2 hfull)
  have hregion : r.regionRoom w.core = none := by
    rw [State.regionRoom, hio]
    exact if_neg (Nat.not_lt_zero _)
  unfold State.enterInbox State.inboxRoom
  rw [notMet hmeet, hhard, hregion]
  rfl

end Inbox

/-! ## Anti-messages (R84) -/

/-- A message as its anti-message. -/
def antiMsg (m : Msg) : Msg := { m with anti := true }

theorem antiArrives_placed (hr : r = counted s m) (hl : r.launch? m.launch = some l) (hs : r.stopped m.launch = false) (hun : l.unplaced = [])
    (ht : r.task? ⟨m.launch, m.dwid⟩ = some t) (hp : t.place = .on w.core w.slot) (hhold : t.hold = []) (hin : ∀ x ∈ s.cores, x.2.ingress = [])
    (hcut : w.core / 192 ∉ s.cutDies) : s.antiArrives false (antiMsg m) =
      if (r.at w).st = .trap then (heldFor r t (antiMsg m)).postWake w.core 0x01 w.slot.val
      else if (r.at w).st = .save then heldFor r t (antiMsg m) else r.antiMeets t w.core true (antiMsg m) := by
  have hcores : r.cores = s.cores := by rw [hr]; rfl
  have hwaits : (r.cores.any fun x => x.2.ingress.any fun y => twin (antiMsg m) y.1) = false := by
    rw [hcores]
    refine List.any_eq_false.2 fun x hx => ?_
    rw [hin x hx]
    simp
  have hbehind : r.behindAt (antiMsg m) = none := by
    refine behindAt_none fun p hp x hx => ?_
    rw [hcores] at hp
    rw [hin p hp] at hx
    cases hx
  have hlost : r.lost t = false := by
    rw [State.lost, hp, hr]
    exact Bool.eq_false_iff.2 fun h => hcut (List.contains_iff_mem.1 h)
  have hcount : s.countRecv (antiMsg m).launch (antiMsg m).colour 1 = r := hr.symm
  have hl' : r.launch? (antiMsg m).launch = some l := hl
  have hs' : r.stopped (antiMsg m).launch = false := hs
  have ht' : r.task? ⟨(antiMsg m).launch, (antiMsg m).dwid⟩ = some t := ht
  unfold State.antiArrives
  rw [hcount]
  simp only [hl', hs', hun, hwaits, hbehind, ht', hhold, hlost, hp, Bool.false_eq_true, if_false, List.any_nil]
  rfl

theorem antiMeets_inbox (c : Nat) (b : Bool) (h : (t.inbox.any fun x => twins m x.msg) = true) : r.antiMeets t c b (antiMsg m) =
    r.updTask t.id fun x => { x with inbox := delFirst (fun y => twins m y.msg) x.inbox } := by
  have hany : (t.inbox.any fun x => twin (antiMsg m) x.msg) = true := h ▸ congrArg (t.inbox.any ·) (funext fun x => twin_eq (antiMsg m) x.msg)
  rw [State.antiMeets, hany, if_pos rfl]
  exact congrArg (fun p => r.updTask t.id fun x => { x with inbox := delFirst p x.inbox }) (funext fun y => twin_eq (antiMsg m) y.msg)

theorem antiMeets_dequeued (c : Nat) (b : Bool) (h : (t.inbox.any fun x => twins m x.msg) = false)
    (hep : (t.epochs.any fun e => twins m e.msg) = true) : r.antiMeets t c b (antiMsg m) = r.post [.rollback t.id m.key true] := by
  have hany : (t.inbox.any fun x => twin (antiMsg m) x.msg) = false := h ▸ congrArg (t.inbox.any ·) (funext fun x => twin_eq (antiMsg m) x.msg)
  have hepoch : (t.epochs.any fun e => twin (antiMsg m) e.msg) = true := hep ▸ congrArg (t.epochs.any ·) (funext fun e => twin_eq (antiMsg m) e.msg)
  rw [State.antiMeets, hany, hepoch]
  rfl

theorem antiMeets_waits (hkind : m.kind = 0) (ht : r.task? t.id = some t) (hp : t.place = .on w.core w.slot) (hst : (r.at w).st = .run)
    (hroom : r.hardUsed w.core < 256) (h : (t.inbox.any fun x => twins m x.msg) = false)
    (hep : (t.epochs.any fun e => twins m e.msg) = false) : r.antiMeets t w.core true (antiMsg m) = entered r t (antiMsg m) := by
  have hany : (t.inbox.any fun x => twin (antiMsg m) x.msg) = false := h ▸ congrArg (t.inbox.any ·) (funext fun x => twin_eq (antiMsg m) x.msg)
  have hepoch : (t.epochs.any fun e => twin (antiMsg m) e.msg) = false := hep ▸ congrArg (t.epochs.any ·) (funext fun e => twin_eq (antiMsg m) e.msg)
  have hstraggle : straggles t (antiMsg m) = false := by
    rw [straggles, antiMsg, Bool.not_true, Bool.and_false, Bool.false_and, Bool.false_and]
  rw [State.antiMeets, hany, hepoch]
  change r.enterInbox t w.core true (antiMsg m) = _
  rw [enterInbox_room (m := antiMsg m) (.inl rfl) hkind ht hp hst hroom, hstraggle]
  rfl

end Sys2Proof.Arrivals

/-! # Rollback of a task in a slot (R82 to R84) -/

namespace Sys2Proof.Rollbacks
open Sys2Proof Sys2Proof.Machine Sys2Proof.Claims Sys2Proof.Arrivals

variable {s : State} {w : Who} {t : Task} {k : Key} {kept gone : List Epoch} {e : Epoch}

theorem fires_rollback (s : State) (id : TaskId) (k : Key) (anti : Bool) : fires (.rollback id k anti) s = .next (s.rollback id k anti) := rfl

/-! ## Memory restored (R82 step 2) -/

/-- The undo records of a list written back to a core's local memory. -/
def restored (s : State) (c : Nat) (rs : List (Nat × List Byte)) : State := rs.foldl (fun s r => s.lwrite c r.1 r.2) s

theorem undo_eq (s : State) (c : Nat) (es : List Epoch) : s.undo c es = restored s c (es.reverse.flatMap Epoch.undo) := by
  rw [State.undo, restored, List.foldl_flatMap]

theorem restored_cores (c : Nat) : ∀ (rs : List (Nat × List Byte)) (s : State), ∃ cs, restored s c rs = { s with cores := cs }
  | [], s => ⟨s.cores, rfl⟩
  | _ :: rs, s => by
    obtain ⟨cs, h⟩ := restored_cores c rs (s.lwrite c _ _)
    exact ⟨cs, h⟩

theorem at_restored (c : Nat) (w : Who) : ∀ (rs : List (Nat × List Byte)) (s : State), (restored s c rs).at w = s.at w
  | [], _ => rfl
  | r :: rs, s => (at_restored c w rs (s.lwrite c r.1 r.2)).trans (Frame.slot_updCore s c w.core _ w.slot rfl)

theorem commitq_restored (c c' : Nat) : ∀ (rs : List (Nat × List Byte)) (s : State), ((restored s c rs).core c').commitq = (s.core c').commitq
  | [], _ => rfl
  | r :: rs, s => by
    refine (commitq_restored c c' rs (s.lwrite c r.1 r.2)).trans ?_
    rw [State.lwrite, State.core_updCore]
    split
    · next h => rw [h]
    · rfl

theorem lmem_restored (c : Nat) : ∀ (rs : List (Nat × List Byte)) (s : State),
    ((restored s c rs).core c).lmem = rs.foldl (fun m (u : Nat × List Byte) => Mem.sets m u.1 u.2) (s.core c).lmem
  | [], _ => rfl
  | r :: rs, s => by
    refine (lmem_restored c rs (s.lwrite c r.1 r.2)).trans ?_
    rw [State.lwrite, State.core_updCore_same]
    rfl

/-! ## Anti-messages sent (R82 step 3) -/

/-- An anti-message for each entry of an output log. -/
def unsent (s : State) (n : Nat) (xs : List SentLog) : State :=
  xs.foldl (fun s x => s.sendMsg ⟨x.vt, x.swid, x.dwid, n, x.seq, true, false, false, 0, false, []⟩) s

theorem unsent_eq (n : Nat) : ∀ (xs : List SentLog) (s : State),
    ∃ ls, unsent s n xs = { s with launches := ls, agenda := s.agenda ++ xs.map (antiOf n s.colour) }
  | [], s => ⟨s.launches, by rw [List.map_nil, List.append_nil]; rfl⟩
  | x :: xs, s => by
    obtain ⟨ls, h⟩ := unsent_eq n xs (s.sendMsg ⟨x.vt, x.swid, x.dwid, n, x.seq, true, false, false, 0, false, []⟩)
    refine ⟨ls, h.trans ?_⟩
    rw [List.map_cons, List.append_cons]
    rfl

/-! ## The undone epochs -/

/-- The state after steps 2 and 3 of R82. -/
def unwound (s : State) (n gc : Nat) (es : List Epoch) : State := unsent (restored s gc (es.reverse.flatMap Epoch.undo)) n (es.flatMap Epoch.log)

/-- A core without the held operations of a task from a key on. -/
def uncommitted (id : TaskId) (x : Key) (k : Core) : Core := { k with commitq := k.commitq.filter fun y => !(y.task == id && !y.tag.lt x) }

theorem undoEpochs_eq (s : State) (t : Task) (c gc : Nat) (kept : List Epoch) (e : Epoch) (gone : List Epoch) : s.undoEpochs t c gc kept (e :: gone) =
    ((unwound s t.id.launch gc (e :: gone)).updCore c (uncommitted t.id e.msg.key)).updTask t.id fun x => { x with inbox := x.inbox ++ (e :: gone).map (fun e => ⟨e.msg, e.region⟩), epochs := kept, lastKey := e.prev } := by
  rw [unwound, unsent, List.foldl_flatMap, ← undo_eq]
  rfl

/-- What stays as the memory is restored and the anti-messages leave. -/
theorem unwound_frame (s : State) (n gc : Nat) (es : List Epoch) :
    (unwound s n gc es).tasks = s.tasks ∧ (∀ w, (unwound s n gc es).at w = s.at w) ∧ (∀ c, ((unwound s n gc es).core c).commitq = (s.core c).commitq) ∧
    ((unwound s n gc es).core gc).lmem = (es.reverse.flatMap Epoch.undo).foldl (fun m (u : Nat × List Byte) => Mem.sets m u.1 u.2) (s.core gc).lmem ∧
    (unwound s n gc es).agenda = s.agenda ++ (es.flatMap Epoch.log).map (antiOf n s.colour) := by
  obtain ⟨ls, hsent⟩ := unsent_eq n (es.flatMap Epoch.log) (restored s gc (es.reverse.flatMap Epoch.undo))
  obtain ⟨cs, hback⟩ := restored_cores gc (es.reverse.flatMap Epoch.undo) s
  rw [unwound, hsent]
  refine ⟨?_, fun w => at_restored gc w _ s, fun c => commitq_restored gc c _ s, lmem_restored gc _ s, ?_⟩
  · rw [hback]
  · rw [hback]
    rfl

/-- The epochs from the first one later than a straggler on are undone (R82 step 1). -/
theorem splitEpochs_eq (hkept : ∀ x ∈ kept, k.lt x.msg.key = false) (he : k.lt e.msg.key = true) :
    splitEpochs (kept ++ e :: gone) k false = (kept, e :: gone) := by
  have hall : ∀ x ∈ kept, (if false = true then x.msg.key.lt k else !k.lt x.msg.key) = true := fun x hx => by
    rw [if_neg Bool.false_ne_true, hkept x hx]
    rfl
  rw [splitEpochs, List.span_eq_takeWhile_dropWhile, List.takeWhile_append_of_pos hall, List.dropWhile_append_of_pos hall]
  simp [he]

/-! ## The thread -/

/-- A thread that takes a rollback at its next boundary at the latest. -/
def rollsNow (x : Slot) : Prop := x.st = .run ∨ (x.st = .busy ∧ (x.busy = .history ∨ x.busy = .commit))

theorem rollsLater_now {x : Slot} (h : rollsNow x) : x.rollsLater = false := by
  rcases h with h | ⟨h, h' | h'⟩
  · rw [Slot.rollsLater, h]
  · rw [Slot.rollsLater, h, h']
  · rw [Slot.rollsLater, h, h']

theorem not_park_now {x : Slot} (h : rollsNow x) : x.st ≠ .park := by
  rcases h with h | ⟨h, -⟩ <;> simp [h]

theorem rollsLater_waits {x : Slot} (h : x.st = .trap ∨ x.st = .save ∨ (x.st = .busy ∧ ¬ (x.busy = .history ∨ x.busy = .commit))) : x.rollsLater = true := by
  rcases h with h | h | ⟨h, h'⟩
  · rw [Slot.rollsLater, h]
  · rw [Slot.rollsLater, h]
  · rw [not_or] at h'
    rw [Slot.rollsLater, h]
    split <;> simp_all

theorem rollback_waits (ht : s.task? t.id = some t) (hp : t.place = .on w.core w.slot) (h : (s.at w).rollsLater = true) :
    s.rollback t.id k false = s.upd w fun y => { y with deferred := y.deferred ++ [.rollback k false] } := by
  have hslot : (s.slot w.core w.slot).rollsLater = true := h
  unfold State.rollback
  simp only [ht, hp, hslot, if_true]
  rfl

/-- A rollback of a thread that takes it now. -/
theorem rollback_now (ht : s.task? t.id = some t) (hp : t.place = .on w.core w.slot) (h : rollsNow (s.at w)) (hes : t.epochs = kept ++ e :: gone)
    (hkept : ∀ x ∈ kept, k.lt x.msg.key = false) (he : k.lt e.msg.key = true) :
    s.rollback t.id k false = (s.undoEpochs t w.core (s.grant w).1 kept (e :: gone)).upd w fun x => { x with st := .run, out := none, th := e.snap } := by
  have hslot : (s.slot w.core w.slot).rollsLater = false := rollsLater_now h
  have hpark : (s.at w).st ≠ .park := not_park_now h
  have hroll : s.rollback t.id k false = s.rollThread w t k false := by
    unfold State.rollback
    simp only [ht, hp, hslot, Bool.false_and, Bool.false_eq_true, if_false]
  have hat : (s.undoEpochs t w.core (s.grant w).1 kept (e :: gone)).at w = s.at w := by
    obtain ⟨-, hat, -⟩ := unwound_frame s t.id.launch (s.grant w).1 (e :: gone)
    rw [undoEpochs_eq]
    exact (Frame.slot_updCore _ w.core w.core (uncommitted t.id e.msg.key) w.slot rfl).trans (hat w)
  have hunpark : (s.undoEpochs t w.core (s.grant w).1 kept (e :: gone)).unpark w = s.undoEpochs t w.core (s.grant w).1 kept (e :: gone) := by
    rw [State.unpark, hat]
    exact if_neg hpark
  rw [hroll, State.rollThread, hes, splitEpochs_eq hkept he]
  simp only [Bool.false_eq_true, if_false]
  split
  · next hst _ => exact absurd hst hpark
  · exact congrArg (fun u => State.upd u w fun x => { x with st := .run, out := none, th := e.snap }) hunpark

/-- What such a rollback leaves (R82). -/
theorem rolled (ht : s.task? t.id = some t) (hp : t.place = .on w.core w.slot) (h : rollsNow (s.at w)) (hes : t.epochs = kept ++ e :: gone)
    (hkept : ∀ x ∈ kept, k.lt x.msg.key = false) (he : k.lt e.msg.key = true) : let u := s.rollback t.id k false
    u.task? t.id = some { t with inbox := t.inbox ++ (e :: gone).map (fun x => ⟨x.msg, x.region⟩), epochs := kept, lastKey := e.prev } ∧
    (u.at w).st = .run ∧ (u.at w).th = e.snap ∧ u.agenda = s.agenda ++ ((e :: gone).flatMap Epoch.log).map (antiOf t.id.launch s.colour) ∧
    (u.core w.core).commitq = (s.core w.core).commitq.filter (fun y => !(y.task == t.id && !y.tag.lt e.msg.key)) ∧
    ((s.grant w).1 = w.core → (u.core w.core).lmem =
      ((e :: gone).reverse.flatMap Epoch.undo).foldl (fun m (u : Nat × List Byte) => Mem.sets m u.1 u.2) (s.core w.core).lmem) := by
  intro u
  have hu : u = _ := rollback_now ht hp h hes hkept he
  clear_value u
  subst hu
  obtain ⟨htasks, hat, hcommitq, hlmem, hagenda⟩ := unwound_frame s t.id.launch (s.grant w).1 (e :: gone)
  rw [undoEpochs_eq]
  generalize unwound s t.id.launch (s.grant w).1 (e :: gone) = v at htasks hat hcommitq hlmem hagenda
  refine ⟨?_, ?_, ?_, ?_, ?_, fun hgrant => ?_⟩
  · have hv : v.task? t.id = some t := by rw [← ht, State.task?, State.task?, htasks]
    exact (Tasks.task?_updTask (s := v.updCore w.core _) (by intro; rfl)).trans (by rw [show (v.updCore w.core _).task? t.id = some t from hv]; rfl)
  · rw [State.at_upd_same]
  · rw [State.at_upd_same]
  · exact hagenda
  · rw [State.core_upd_commitq, ← hcommitq]
    change ((v.updCore w.core (uncommitted t.id e.msg.key)).core w.core).commitq = _
    rw [State.core_updCore_same]
    rfl
  · rw [State.core_upd_lmem, ← hgrant, ← hlmem, hgrant]
    change ((v.updCore w.core (uncommitted t.id e.msg.key)).core w.core).lmem = _
    rw [State.core_updCore_same]
    rfl

/-- Settles O38, from where a message goes, what an anti-message meets, and what a rollback leaves. -/
theorem messageArrivalsAndRollback : Obligations.MessageArrivalsAndRollback := by
  unfold Obligations.MessageArrivalsAndRollback
  refine ⟨fun s w m t l => ⟨fun hon hwid ht hid => ?_, fun before c k rest hon hwid hcores hbefore hk => ?_, fun hon hwid => ?_,
    fun hon hwid ht ho => ?_, fun hon hun ht hid hp hhold hin hcut => ?_⟩, fun s w t k kept gone e ht hp => ⟨fun hst => ?_, fun hst hes hkept he => ?_⟩⟩
  · obtain ⟨hl, hkind, htent, hanti, hs⟩ := hon
    have htask : (counted s m).task? t.id = some t := hid ▸ ht
    refine ⟨fun hopen hno => ?_, fun hopen k hne hk => ?_, fun hreach hst hfull hio hmeet => ?_, fun hreach hst => ?_, fun hp hcut ho => ?_, fun hp ho => ?_⟩
    · obtain ⟨⟨hp, hcut, ho⟩, hst, hroom, hmeet⟩ := hopen
      have hstraggle : straggles t m = false := by
        rw [straggles]
        rcases hno with h | h <;> simp [h]
      rw [fires_arrival, deliver_run hl hkind hs hwid ho ht hp hcut htent hst, enterInbox_room (.inr hmeet) hkind htask hp hst hroom, hstraggle]
      rfl
    · obtain ⟨⟨hp, hcut, ho⟩, hst, hroom, hmeet⟩ := hopen
      have hstraggle : straggles t m = m.key.lt k := by
        rw [straggles, hk, hkind, hanti, List.isEmpty_eq_false_iff.2 hne]
        rfl
      rw [fires_arrival, deliver_run hl hkind hs hwid ho ht hp hcut htent hst, enterInbox_room (.inr hmeet) hkind htask hp hst hroom, hstraggle]
      rfl
    · obtain ⟨hp, hcut, ho⟩ := hreach
      rw [fires_arrival, deliver_run hl hkind hs hwid ho ht hp hcut htent hst, enterInbox_full (.inr hmeet) hfull hio]
      rfl
    · obtain ⟨hp, hcut, ho⟩ := hreach
      rw [fires_arrival, deliver_trap hl hkind hs hwid ho ht hp hcut hst]
      rfl
    · rw [fires_arrival, deliver_cut hl hkind hs hwid ho ht hp hcut]
      rfl
    · rw [fires_arrival, deliver_exited hl hkind hs hwid ho ht htent hp]
  · obtain ⟨hl, hkind, -, -, hs⟩ := hon
    have hbehind : (counted s m).behindAt m = some c := behindAt_first hcores hbefore hk
    rw [fires_arrival, deliver_behind hl hkind hs hwid hbehind]
    rfl
  · obtain ⟨hl, hkind, -, -, hs⟩ := hon
    rw [fires_arrival, deliver_nowhere hl hkind hs hwid]
  · obtain ⟨hl, hkind, -, -, hs⟩ := hon
    rw [fires_arrival, deliver_unplaced hl hkind hs hwid ho ht]
  · obtain ⟨hl, hkind, -, -, hs⟩ := hon
    have htask : (counted s m).task? t.id = some t := hid ▸ ht
    have harrives := (fires_anti s (antiMsg m)).trans
      (congrArg Host.Outcome.next (antiArrives_placed rfl hl hs hun ht hp hhold hin hcut))
    refine ⟨fun hst => ?_, fun hst hany => ?_, fun hst hany hep => ?_, fun hst hroom hany hep => ?_⟩
    · exact harrives.trans (by rw [if_pos hst]; rfl)
    · exact harrives.trans (by rw [hst, antiMeets_inbox _ _ hany]; rfl)
    · exact harrives.trans (by rw [hst, antiMeets_dequeued _ _ hany hep]; rfl)
    · exact harrives.trans (by rw [hst, antiMeets_waits hkind htask hp hst hroom hany hep]; rfl)
  · rw [fires_rollback, rollback_waits ht hp (rollsLater_waits hst)]
  · obtain ⟨htask, hrun, hth, hagenda, hcommitq, hlmem⟩ := rolled ht hp hst hes hkept he
    exact ⟨_, _, fires_rollback .., htask, hrun, hth, rfl, rfl, rfl, hagenda, hcommitq, hlmem⟩

end Sys2Proof.Rollbacks

/-! # Context caches that gain no entry

Only the end of a save puts an entry into a core's context cache (R103, R105); what follows it, a task swapped out or discarded, its messages
delivered again, and the completion of the instruction or command, takes entries away at most. -/

namespace Sys2Proof.Caches
open Sys2Proof Sys2Proof.Machine

/-- No core's context cache holds an entry that it did not hold before. -/
def NoneAdded (s u : State) : Prop := ∀ c, (u.core c).cache ⊆ (s.core c).cache

variable {s t u : State}

theorem NoneAdded.refl (s : State) : NoneAdded s s := fun _ => List.Subset.refl _

theorem NoneAdded.trans (h : NoneAdded s t) (h' : NoneAdded t u) : NoneAdded s u := fun c => List.Subset.trans (h' c) (h c)

theorem noneAdded_of_cores (h : u.cores = s.cores) : NoneAdded s u := by
  intro c
  rw [State.core, h]
  exact List.Subset.refl _

theorem noneAdded_updCore (s : State) (c : Nat) {f : Core → Core} (hf : ∀ k, (f k).cache ⊆ k.cache) : NoneAdded s (s.updCore c f) := by
  intro c'
  rw [State.core_updCore]
  split
  · next h => exact h ▸ hf _
  · exact List.Subset.refl _

theorem noneAdded_upd (s : State) (w : Who) (f : Slot → Slot) : NoneAdded s (s.upd w f) := fun c => by
  rw [State.core_upd_cache]
  exact List.Subset.refl _

theorem noneAdded_updTask (s : State) (id : TaskId) (f : Task → Task) : NoneAdded s (s.updTask id f) := noneAdded_of_cores rfl
theorem noneAdded_updLaunch (s : State) (n : Nat) (f : Launch → Launch) : NoneAdded s (s.updLaunch n f) := noneAdded_of_cores rfl
theorem noneAdded_post (s : State) (es : List Event) : NoneAdded s (s.post es) := noneAdded_of_cores rfl

theorem noneAdded_postWake (s : State) (c sub v : Nat) : NoneAdded s (s.postWake c sub v) := noneAdded_updCore s c fun _ => List.Subset.refl _
theorem noneAdded_enqueue (s : State) (c : Nat) (e : QEntry) : NoneAdded s (s.enqueue c e) := noneAdded_updCore s c fun _ => List.Subset.refl _

theorem noneAdded_foldl {α : Type} {f : State → α → State} (hf : ∀ s x, NoneAdded s (f s x)) : ∀ (xs : List α) (s : State), NoneAdded s (xs.foldl f s)
  | [], s => .refl s
  | x :: xs, s => (hf s x).trans (noneAdded_foldl hf xs (f s x))

theorem noneAdded_pwrite (s : State) (pa : Nat) (bs : List Byte) : NoneAdded s (s.pwrite pa bs) := by
  obtain ⟨_, _, _, _, _, h⟩ := Frame.memOnly_pwrite s pa bs
  exact noneAdded_of_cores (by rw [h])

theorem noneAdded_sendMsg (s : State) (m : Msg) : NoneAdded s (s.sendMsg m) := noneAdded_of_cores rfl

theorem noneAdded_unpark (s : State) (w : Who) : NoneAdded s (s.unpark w) := by
  unfold State.unpark
  extract_lets x
  split
  · exact noneAdded_of_cores rfl
  · exact .refl s

theorem noneAdded_reissue (s : State) (w : Who) : NoneAdded s (s.reissue w) := (noneAdded_unpark s w).trans (noneAdded_upd _ _ _)

/-! ## Messages delivered again (R73, R101) -/

theorem noneAdded_toIngress (s : State) (c : Nat) (m : Msg) : NoneAdded s (s.toIngress c m) :=
  (noneAdded_updLaunch s _ _).trans (noneAdded_updCore _ c fun _ => List.Subset.refl _)

theorem noneAdded_append (s : State) (id : TaskId) (x : InMsg) : NoneAdded s (s.append id x) := by
  unfold State.append
  split <;> exact noneAdded_of_cores rfl

theorem noneAdded_putEntry (s : State) (id : TaskId) (c : Nat) (b : Bool) (m : Msg) : NoneAdded s (s.putEntry id c b m) := by
  unfold State.putEntry
  split
  · exact noneAdded_append s id _
  · split
    · exact noneAdded_toIngress s c m
    · split
      · exact ((noneAdded_updTask s _ _).trans (noneAdded_pwrite _ _ _)).trans (noneAdded_append _ id _)
      · exact (noneAdded_pwrite s _ _).trans (noneAdded_append _ id _)

theorem noneAdded_makeReady (s : State) (t : Task) : NoneAdded s (s.makeReady t) := by
  unfold State.makeReady
  split
  · split
    · exact .refl s
    · exact (noneAdded_updTask s _ _).trans (noneAdded_enqueue _ _ _)
  · split
    · exact .refl s
    · exact (noneAdded_updTask s _ _).trans (noneAdded_postWake _ _ _ _)
  · exact .refl s

theorem noneAdded_pokeId (s : State) (id : TaskId) : NoneAdded s (s.pokeId id) := by
  unfold State.pokeId
  split
  · unfold State.poke
    split
    · extract_lets x
      split
      · exact noneAdded_reissue s _
      · exact .refl s
    · split
      · exact noneAdded_makeReady s _
      · exact .refl s
  · exact .refl s

theorem noneAdded_enterInbox (s : State) (t : Task) (c : Nat) (b : Bool) (m : Msg) : NoneAdded s (s.enterInbox t c b m) := by
  unfold State.enterInbox
  split
  · exact noneAdded_updTask s _ _
  · split
    · exact noneAdded_toIngress s c m
    · extract_lets u straggler v
      have hv : NoneAdded u v := by
        change NoneAdded u (if straggler then _ else u)
        split
        · exact noneAdded_post u _
        · exact .refl u
      exact ((noneAdded_putEntry s t.id c b m).trans hv).trans (noneAdded_pokeId v _)

theorem noneAdded_deliver (s : State) (first : Bool) (m : Msg) : NoneAdded s (s.deliver first m) := by
  have hhold (t : Task) : NoneAdded s (s.updTask t.id fun x => { x with hold := x.hold ++ [m] }) := noneAdded_updTask s _ _
  unfold State.deliver
  split
  · exact .refl s
  · split
    · exact .refl s
    · extract_lets dest hold
      split
      · exact noneAdded_sendMsg s _
      · split
        · exact noneAdded_toIngress s _ m
        · split
          · exact noneAdded_updLaunch s _ _
          · extract_lets keep
            split
            · exact hhold _
            · split
              · exact noneAdded_updLaunch s _ _
              · split
                · exact .refl s
                · split
                  · exact hhold _
                  · exact noneAdded_sendMsg s _
              · exact hhold _
              · extract_lets x
                split
                · exact (hhold _).trans (noneAdded_postWake _ _ _ _)
                · split
                  · exact hhold _
                  · split
                    · exact hhold _
                    · exact noneAdded_enterInbox s _ _ _ m
              all_goals
                split
                · exact hhold _
                · exact noneAdded_enterInbox s _ _ _ m

theorem noneAdded_antiMeets (s : State) (t : Task) (c : Nat) (b : Bool) (m : Msg) : NoneAdded s (s.antiMeets t c b m) := by
  unfold State.antiMeets
  split
  · exact noneAdded_updTask s _ _
  · split
    · exact noneAdded_post s _
    · exact noneAdded_enterInbox s t c b m

/-- A change of every core that takes no entry into its cache. -/
theorem noneAdded_mapCores (s : State) {f : Core → Core} (hf : ∀ k, (f k).cache = k.cache) :
    NoneAdded s { s with cores := s.cores.map fun p => (p.1, f p.2) } := by
  intro c
  have hcore : (State.core { s with cores := s.cores.map fun p => (p.1, f p.2) } c).cache = (s.core c).cache := by
    rw [State.core, Tbl.getD, Slots.find?_mapValues, State.core, Tbl.getD]
    cases Tbl.find? s.cores c with
    | none => rfl
    | some k => exact hf k
  rw [hcore]
  exact List.Subset.refl _

theorem noneAdded_dropAtIngress (s : State) (m : Msg) : NoneAdded s (s.dropAtIngress m) :=
  (noneAdded_updLaunch s _ _).trans (noneAdded_mapCores _ (f := fun k => { k with ingress := k.ingress.filter fun x => !twin m x.1 }) fun _ => rfl)

theorem noneAdded_antiArrives (s : State) (first : Bool) (m : Msg) : NoneAdded s (s.antiArrives first m) := by
  unfold State.antiArrives
  extract_lets u
  have hu : NoneAdded s u := noneAdded_updLaunch s _ _
  refine hu.trans ?_
  have hhold (t : Task) : NoneAdded u (u.updTask t.id fun x => { x with hold := x.hold ++ [m] }) := noneAdded_updTask u _ _
  clear_value u
  split
  · exact .refl u
  · split
    · exact .refl u
    · split
      · exact noneAdded_updLaunch u _ _
      · split
        · exact noneAdded_dropAtIngress u m
        · split
          · exact noneAdded_toIngress u _ m
          · split
            · exact noneAdded_updLaunch u _ _
            · extract_lets hold
              split
              · exact noneAdded_updTask u _ _
              · split
                · exact hhold _
                · split
                  · exact noneAdded_updLaunch u _ _
                  · exact hhold _
                  · exact hhold _
                  · split
                    · exact (hhold _).trans (noneAdded_postWake _ _ _ _)
                    · split
                      · exact hhold _
                      · exact noneAdded_antiMeets u _ _ _ m
                  all_goals exact noneAdded_antiMeets u _ _ _ m

theorem noneAdded_redeliver (s : State) (m : Msg) : NoneAdded s (s.redeliver m) := by
  unfold State.redeliver
  split
  · exact (noneAdded_updLaunch s _ _ : NoneAdded s (s.countMsg m)).trans (noneAdded_antiArrives _ false m)
  · exact noneAdded_deliver s false _

theorem noneAdded_unwait (s : State) (id : TaskId) : NoneAdded s (s.unwait id).1 :=
  noneAdded_mapCores s (f := fun k => { k with ingress := k.ingress.filter fun x => msgDest x.1 != id }) fun _ => rfl

theorem noneAdded_rewait (s : State) (id : TaskId) (xs : List (Nat × Msg × Nat)) : NoneAdded s (s.rewait id xs) := by
  unfold State.rewait
  extract_lets home
  refine noneAdded_foldl (fun u x => ?_) xs s
  exact noneAdded_updCore u _ fun _ => List.Subset.refl _

theorem noneAdded_release (s : State) (id : TaskId) : NoneAdded s (s.release id) := by
  unfold State.release
  split
  · exact .refl s
  · split
    · exact .refl s
    · unfold State.releaseAfter
      split
      · exact .refl s
      · exact (((noneAdded_unwait s id).trans (noneAdded_updTask _ _ _)).trans (noneAdded_foldl noneAdded_redeliver _ _)).trans (noneAdded_rewait _ _ _)

/-! ## Tasks swapped out or discarded (R100, R101, R103) -/

theorem noneAdded_freeArea (s : State) (n : Nat) (a : Option Nat) : NoneAdded s (s.freeArea n a) := by
  unfold State.freeArea
  split
  · exact noneAdded_updLaunch s _ _
  · exact .refl s

theorem noneAdded_postFree (s : State) (c slot : Nat) (g : Option (Nat × Nat × Nat)) : NoneAdded s (s.postFree c slot g) :=
  (noneAdded_postWake s c _ _).trans (noneAdded_updCore _ c fun _ => List.Subset.refl _)

theorem noneAdded_discardTask (s : State) (t : Task) : NoneAdded s (s.discardTask t) := by
  unfold State.discardTask
  extract_lets u v x y
  have hu : NoneAdded s u := by
    change NoneAdded s (match t.place with | .held c desc _ => if t.ready then s else s.postWake c 0x07 desc.toNat | _ => s)
    split
    · split
      · exact .refl s
      · exact noneAdded_postWake s _ _ _
    · exact .refl s
  have hv : NoneAdded u v := by
    change NoneAdded u (match t.place.home with | some c => u.postFree c 0xF t.grant | none => u)
    split
    · exact noneAdded_postFree u _ _ _
    · exact .refl u
  have hx : NoneAdded v x := by
    change NoneAdded v (match t.place.home with | some c => v.updCore c fun k => { k with cache := k.cache.filter fun e => e.task != t.id || e.let_.isSome } | none => v)
    split
    · exact noneAdded_updCore v _ fun k => List.filter_subset_self _
    · exact .refl v
  exact (((hu.trans hv).trans hx).trans (noneAdded_freeArea x _ _)).trans (noneAdded_updTask _ _ _)

theorem noneAdded_swappedOut (s : State) (id : TaskId) : NoneAdded s (s.swappedOut id) := by
  unfold State.swappedOut
  split
  · split
    · exact noneAdded_discardTask s _
    · exact .refl s
  · extract_lets u
    refine (noneAdded_release s id).trans ?_
    change NoneAdded u _
    split
    · exact .refl u
    · split
      · exact noneAdded_makeReady u _
      · exact .refl u

theorem noneAdded_stow (s : State) (w : Who) (p : Place) : NoneAdded s (s.stow w p) := by
  unfold State.stow
  extract_lets x wakes rest u v
  have hu : NoneAdded s u := by
    change NoneAdded s (if x.th.codelet then s else s.updTask _ _)
    split
    · exact .refl s
    · exact noneAdded_updTask s _ _
  have hv : NoneAdded u v := noneAdded_upd u w _
  refine (hu.trans hv).trans ?_
  split
  · split
    · exact noneAdded_makeReady v _
    · exact .refl v
  · exact .refl v

/-! ## The end of a save (R105) -/

theorem noneAdded_lwrite (s : State) (c off : Nat) (bs : List Byte) : NoneAdded s (s.lwrite c off bs) :=
  noneAdded_updCore s c fun _ => List.Subset.refl _

theorem noneAdded_writeG (s : State) (w : Who) (d : Fin 32) (v : Word) : NoneAdded s (s.writeG w d v) := by
  unfold State.writeG
  split
  · exact .refl s
  · split
    · exact noneAdded_upd s w _
    · next b _ =>
      extract_lets q u q'
      exact (noneAdded_lwrite s _ _ _ : NoneAdded s u).trans (noneAdded_updCore u b.core fun _ => List.Subset.refl _)

theorem noneAdded_clearGrant (s : State) (c base len : Nat) : NoneAdded s (s.clearGrant c base len) := noneAdded_updCore s c fun _ => List.Subset.refl _

theorem noneAdded_ctxsvDone (s : State) (c n : Nat) : NoneAdded s (s.ctxsvDone c n) := by
  unfold State.ctxsvDone
  extract_lets w
  split
  · split
    · exact ((noneAdded_writeG s w _ _).trans (noneAdded_upd _ w _)).trans (noneAdded_post _ _)
    · exact .refl s
  · exact .refl s

theorem noneAdded_driverDone (s : State) (n : Nat) : NoneAdded s (s.driverDone n) := by
  unfold State.driverDone
  split
  · exact noneAdded_of_cores rfl
  · exact .refl s

theorem noneAdded_areaSaved (s : State) (w : Who) (e : CtxEntry) (die : Nat) : NoneAdded s (s.areaSaved w e die) := by
  unfold State.areaSaved
  extract_lets x
  split
  · split
    extract_lets u
    have hu : NoneAdded s u := noneAdded_stow s w _
    refine hu.trans ?_
    clear_value u
    split
    · split
      · exact noneAdded_freeArea u _ _
      · exact noneAdded_updCore u _ fun _ => List.Subset.refl _
    · exact noneAdded_swappedOut u _
  · rename_i u v q _ _
    have hu : NoneAdded s u := noneAdded_stow s w _
    have hv : NoneAdded u v := by
      change NoneAdded u (match e.let_ with | some _ => u | none => u.swappedOut x.task)
      split
      · exact .refl u
      · exact noneAdded_swappedOut u _
    refine (hu.trans hv).trans ?_
    clear_value v
    split
    · split
      · exact noneAdded_freeArea v _ _
      · exact .refl v
    · exact noneAdded_of_cores rfl
  · exact (noneAdded_stow s w _).trans (noneAdded_swappedOut _ _)

/-- A save that is whole leaves no save-incomplete entry of its slot with a destination (R105 step 4). -/
theorem areaTried_whole (s u : State) (w : Who) (e : CtxEntry) : ∀ x ∈ ((s.areaTried w e (u, none)).core w.core).cache,
    x.slot = w.slot → x.incomplete = true → x.dest = none := by
  have hadded : ∃ v : State, (v.core w.core).cache = (u.core w.core).cache.filter (fun x => !(x.slot == w.slot && x.incomplete && x.dest.isSome)) ∧
      NoneAdded v (s.areaTried w e (u, none)) := by
    unfold State.areaTried
    split
    case h_2 h => cases h
    rename_i s' heq
    cases heq
    extract_lets v g v1 v2
    refine ⟨v, congrArg Core.cache (State.core_updCore_same u w.core _), ?_⟩
    have h1 : NoneAdded v v1 := by
      change NoneAdded v (if e.why = 3 then v.clearGrant w.core g.1 g.2 else v)
      split
      · exact noneAdded_clearGrant v _ _ _
      · exact .refl v
    have h2 : NoneAdded v1 v2 := noneAdded_areaSaved v1 w e _
    refine (h1.trans h2).trans ?_
    clear_value v2
    split
    · exact noneAdded_ctxsvDone v2 _ _
    · split
      · exact noneAdded_driverDone v2 _
      · exact .refl v2
  obtain ⟨v, hv, hadded⟩ := hadded
  intro x hx hslot hinc
  have hmem : x ∈ (v.core w.core).cache := hadded w.core hx
  rw [hv, List.mem_filter, hslot, hinc] at hmem
  simpa using hmem.2

end Sys2Proof.Caches

/-! # Driver commands on buffers and arenas (R44, R45, R350) -/

namespace Sys2Proof.Buffers
open Sys2Proof Sys2Proof.Machine Sys2Proof.Claims Sys2Proof.Digest

variable {s : State} {b : Buffer} {va len asid h owner kind pa : Nat}

/-! ## REGBUF and FREEBUF -/

theorem regbuf_bad (hbad : 256 ≤ asid ∨ len = 0 ∨ 2 ^ 54 < va + len) : s.regbuf va len asid = withStatus s 1 := if_pos hbad

theorem regbuf_first (hasid : asid < 256) (hlen : 0 < len) (hend : va + len ≤ 2 ^ 54) (hb : s.buffers = []) : s.regbuf va len asid =
    withResult { s with buffers := [⟨s.nextHandle, false, asid, va, len, none, []⟩], nextHandle := if s.nextHandle = 2 ^ 32 - 1 then 1 else s.nextHandle + 1 } (BitVec.ofNat 64 s.nextHandle) := by
  have hgood : ¬ (256 ≤ asid ∨ len = 0 ∨ 2 ^ 54 < va + len) := by omega
  have hhandle : s.freeHandle s.nextHandle 65536 = s.nextHandle := by
    rw [State.freeHandle, hb]
    rfl
  unfold State.regbuf
  rw [if_neg hgood, hb, hhandle]
  exact if_neg (by decide)

/-- Whether a buffer of a handle is registered. -/
def hasBuffer (s : State) (h : Nat) : Bool := s.buffers.any fun b => !b.arena && b.handle == h

theorem hasBuffer_none (hno : ∀ x ∈ s.buffers, x.arena = true ∨ x.handle ≠ h) : hasBuffer s h = false := by
  refine List.any_eq_false.2 fun x hx => ?_
  rcases hno x hx with hx | hx <;> simp [hx]

theorem hasBuffer_of_mem (hb : b ∈ s.buffers) (harena : b.arena = false) (hh : b.handle = h) : hasBuffer s h = true :=
  List.any_eq_true.2 ⟨b, hb, by simp [harena, hh]⟩

theorem freebuf_eq : s.freebuf h = if !hasBuffer s h then withStatus s 3 else if s.named false 0 h then withStatus s 4
    else withStatus { s with buffers := s.buffers.filter fun b => b.arena || b.handle != h } 0 := rfl

/-! ## RETAG -/

theorem retag_bad (hbad : 2 ^ 16 ≤ owner ∨ (kind ≠ 0 ∧ kind ≠ 2)) : s.retag h owner kind = withStatus s 1 := by
  refine if_pos (hbad.imp_right fun ⟨h0, h2⟩ => ?_)
  rw [show kPrivate = 0 from rfl, show kFrozen = 2 from rfl, beq_false_of_ne h0, beq_false_of_ne h2]
  rfl

section Retag

variable (howner : owner < 2 ^ 16) (hkind : kind = 0 ∨ kind = 2)
include howner hkind

theorem retag_good : ¬ (2 ^ 16 ≤ owner ∨ (!(kind == kPrivate || kind == kFrozen)) = true) := by
  rw [not_or, not_le]
  refine ⟨howner, ?_⟩
  rcases hkind with rfl | rfl <;> decide

theorem retag_none (hno : hasBuffer s h = false) : s.retag h owner kind = withStatus s 3 := by
  have hfind : s.buffers.find? (fun b => !b.arena && b.handle == h) = none := by
    rw [List.find?_eq_none]
    exact List.any_eq_false.1 hno
  rw [State.retag, if_neg (retag_good howner hkind), hfind]
  rfl

theorem retag_named (hb : hasBuffer s h = true) (hnamed : s.named false 0 h = true) : s.retag h owner kind = withStatus s 4 := by
  obtain ⟨b, hfind⟩ := Option.isSome_iff_exists.1 (List.find?_isSome.2 (List.any_eq_true.1 hb))
  rw [State.retag, if_neg (retag_good howner hkind), hfind]
  exact if_pos hnamed

theorem retag_sole (hb : s.buffers = [b]) (harena : b.arena = false) (hh : b.handle = h) (hnamed : s.named false 0 h = false) :
    s.retag h owner kind = withStatus (s.retagRange b.asid (b.va + b.len) b.va owner kind (b.len / 4096 + 2)) 0 := by
  have hfind : s.buffers.find? (fun b => !b.arena && b.handle == h) = some b := by
    rw [hb]
    simp [harena, hh]
  rw [State.retag, if_neg (retag_good howner hkind), hfind]
  exact if_neg (by rw [hnamed]; exact Bool.false_ne_true)

end Retag

/-- A range of one page. -/
theorem retagRange_one {u : State} {asid stop va owner kind n : Nat} (hva : va < stop) (hpage : s.retagPage asid va owner kind = (u, stop)) :
    s.retagRange asid stop va owner kind (n + 2) = u := by
  rw [State.retagRange, if_neg (Nat.not_le.2 hva), hpage]
  exact if_pos (Nat.le_refl _)

theorem retagPage_error {x : Stop} (hctx : s.context asid va = .error x) (hva : va % 4096 = 0) :
    s.retagPage asid va owner kind = (s.logWalk x, va + 4096) := by
  have hnext : va / 4096 * 4096 + 4096 = va + 4096 := by omega
  unfold State.retagPage
  rw [hctx]
  exact congrArg (fun n => (s.logWalk x, n)) hnext

/-- An entry with its owner and kind replaced (R350). -/
def retagged (owner kind x : Nat) : Nat := x % 2 ^ 4 + kind * 2 ^ 4 + x / 2 ^ 6 % 2 ^ 74 * 2 ^ 6 + owner * 2 ^ 80 + x / 2 ^ 96 * 2 ^ 96

theorem putBitsIn_retagged (howner : owner < 2 ^ 16) (hkind : kind = 0 ∨ kind = 2) (x : Nat) :
    putBitsIn (putBitsIn x 4 2 kind) 80 16 owner = retagged owner kind x := by
  have hk : kind % 2 ^ 2 = kind := Nat.mod_eq_of_lt (by omega)
  have ho : owner % 2 ^ 16 = owner := Nat.mod_eq_of_lt howner
  unfold putBitsIn retagged
  rw [hk, ho]
  have hkind' : kind < 4 := by omega
  omega

/-- A home's lines of a page of `len` bytes written back, and its translation dropped. -/
def retagDropped (s : State) (asid va len : Nat) : State :=
  { s.dropXlat va 0 asid with cores := s.cores.map fun (c, k) => (c, { k with dcache := k.dcache.filter fun l => l.frozen || l.asid != asid || l.va / len != va / len }) }

theorem retagPage_walked {z e at_ : Nat} (howner : owner < 2 ^ 16) (hkind : kind = 0 ∨ kind = 2) (hctx : s.context asid va = .ok z)
    (hwalk : s.walk asid va (z / 2 ^ 10 % 2 ^ 42 * 2 ^ 10) 0 5 = .ok (e, at_)) (hlen : 2 ^ pageShift (pteSize e) = len) (hva : va % len = 0)
    (hlat : pteKind e ≠ 1) : s.retagPage asid va owner kind =
      ((pageEntries e at_).foldl (fun (x : State) a => x.pwrite a (bytesOf 16 (retagged owner kind (natOf (x.pread a 16))))) (retagDropped s asid va len), va + len) := by
  have hread : (do let c ← s.context asid va; s.walk asid va (bits c 51 10 * 2 ^ 10) 0 5) = .ok (e, at_) := by
    rw [hctx]
    exact hwalk
  have hnext : va / len * len + len = va + len := by rw [Nat.div_mul_cancel (Nat.dvd_of_mod_eq_zero hva)]
  unfold State.retagPage
  rw [hread]
  have hcodes : ¬ pteKind e = kLattice := hlat
  simp only [hlen, hnext, putBitsIn_retagged howner hkind, if_neg hcodes]
  rfl

theorem retag_page {z e at_ : Nat} (howner : owner < 2 ^ 16) (hkind : kind = 0 ∨ kind = 2) (hb : s.buffers = [b]) (harena : b.arena = false)
    (hh : b.handle = h) (hnamed : s.named false 0 h = false) (hctx : s.context b.asid b.va = .ok z)
    (hwalk : s.walk b.asid b.va (z / 2 ^ 10 % 2 ^ 42 * 2 ^ 10) 0 5 = .ok (e, at_)) (hsize : 2 ^ pageShift (pteSize e) = b.len) (hva : b.va % b.len = 0)
    (hpos : 0 < b.len) (hlat : pteKind e ≠ 1) : s.retag h owner kind = withStatus ((pageEntries e at_).foldl
      (fun (x : State) a => x.pwrite a (bytesOf 16 (retagged owner kind (natOf (x.pread a 16))))) (retagDropped s b.asid b.va b.len)) 0 := by
  rw [retag_sole howner hkind hb harena hh hnamed,
    retagRange_one (by omega) (retagPage_walked howner hkind hctx hwalk hsize hva hlat)]

/-! ## REGARENA and FREEARENA (R44, R45) -/

theorem regarena_misaligned (hpa : pa % 64 ≠ 0) : s.regarena pa = withStatus s 1 := if_pos hpa

theorem regarena_first {bs : List Byte} {ar : Arena} (hpa : pa % 64 = 0) (hread : s.checkedRead pa 64 = .ok bs) (hof : arenaOf? (natOf bs) = some ar)
    (hno : s.arenas = []) (hnamed : s.named true ar.asid ar.num = false) (hbuf : ∀ x ∈ s.buffers, x.arena = false) : s.regarena pa =
      withResult (State.resetCells { s with arenas := [ar], buffers := s.buffers ++ [⟨ar.num, true, ar.asid, ar.base, ar.len, none, []⟩] } ar ar.base (ar.len / cellBytes ar.size)) (BitVec.ofNat 64 ar.num) := by
  have hkept : (s.buffers.filter fun x => !x.arena || !(x.asid == ar.asid && x.handle == ar.num)) = s.buffers := by
    rw [List.filter_eq_self]
    intro x hx
    rw [hbuf x hx]
    rfl
  have hnamed' : ¬ s.named true ar.asid ar.num = true := by rw [hnamed]; exact Bool.false_ne_true
  unfold State.regarena
  rw [if_neg (not_not.2 hpa), hread]
  simp only [hof, hno, List.filter_nil, List.length_nil, if_neg hnamed', hkept]
  rfl

theorem freearena_bad {num : Nat} (hbad : 256 ≤ asid ∨ 4096 ≤ num) : s.freearena asid num = withStatus s 1 := if_pos hbad

section FreeArena

variable {num : Nat} {ar : Arena} (hasid : asid < 256) (hnum : num < 4096)
include hasid hnum

theorem freearena_none (hno : s.arena? asid num = none) : s.freearena asid num = withStatus s 3 := by
  rw [State.freearena, if_neg (by omega), hno]
  rfl

theorem freearena_named (har : s.arena? asid num = some ar) (hnamed : s.named true asid num = true) : s.freearena asid num = withStatus s 4 := by
  rw [State.freearena, if_neg (by omega), har]
  exact if_pos hnamed

theorem freearena_free (har : s.arena? asid num = some ar) (hnamed : s.named true asid num = false) : ∃ u : State, s.freearena asid num = withStatus u 0 ∧
    u.arena? asid num = none ∧ u.mem = s.mem ∧ u.buffers = s.buffers.filter fun x => !(x.arena && x.asid == asid && x.handle == num) := by
  refine ⟨{ s.dropCopies asid ar.base ar.len with arenas := s.arenas.filter fun x => !(x.asid == asid && x.num == num), buffers := s.buffers.filter fun x => !(x.arena && x.asid == asid && x.handle == num) }, ?_, ?_, rfl, rfl⟩
  · rw [State.freearena, if_neg (by omega), har]
    exact if_neg (by rw [hnamed]; exact Bool.false_ne_true)
  · rw [State.arena?, List.find?_eq_none]
    intro x hx
    have hkept := (List.mem_filter.1 hx).2
    rw [Bool.not_eq_true'] at hkept
    exact Bool.eq_false_iff.1 hkept

end FreeArena

end Sys2Proof.Buffers

/-! # STOP, RECLAIM, RESTORE and SAVERETRY (R100, R105, R108, R351, R357) -/

namespace Sys2Proof.Reclaims
open Sys2Proof Sys2Proof.Machine Sys2Proof.Claims Sys2Proof.Digest

variable {s : State} {c n wid : Nat} {l : Launch} {t : Task} {e : CtxEntry}

/-! ## STOP -/

theorem stopCmd_bad {q : Nat} (hbad : 4096 ≤ q ∨ 4096 ≤ n) : s.stopCmd q n = withStatus s 1 := if_pos hbad

theorem stopCmd_none {q : Nat} (hq : q < 4096) (hn : n < 4096) (h : ∀ l ∈ s.launches, l.num = n → l.queue = q → l.st = .ended) :
    s.stopCmd q n = withStatus s 3 := by
  have hfind : s.launches.find? (fun l => l.num == n && l.queue == q && l.st != .ended) = none := by
    rw [List.find?_eq_none]
    intro l hl hmatch
    simp only [Bool.and_eq_true, beq_iff_eq, bne_iff_ne] at hmatch
    exact hmatch.2 (h l hl hmatch.1.1 hmatch.1.2)
  rw [State.stopCmd, if_neg (by omega), hfind]
  rfl

theorem stopCmd_live {q : Nat} (hq : q < 4096) (hn : n < 4096) (hl : s.launches = [l]) (hnum : l.num = n) (hqueue : l.queue = q) (hst : l.st = .live) :
    s.stopCmd q n = withStatus (s.stopLaunch n .driver none) 0 := by
  have hfind : s.launches.find? (fun l => l.num == n && l.queue == q && l.st != .ended) = some l := by
    rw [hl]
    simp [hnum, hqueue, hst]
  rw [State.stopCmd, if_neg (by omega), hfind]
  simp only [hst]
  rfl

/-! ## RECLAIM -/

theorem imgLen_units (c : Nat) : imgLen (isK8 c) / 32 = if c < 1152 then 96 else 64 := by
  have hk8 : isK8 c = decide (c < 1152) := decide_eq_decide.2 (by unfold dieOf; omega)
  rw [hk8]
  by_cases h : c < 1152 <;> simp [h, imgLen]

/-- The bytes of a task's grant on a core. -/
def grantLen (c : Nat) (t : Task) : Nat := match t.grant with | some (gc, _, n) => if gc = c then n else 0 | none => 0

theorem grantOn_len (c : Nat) (t : Task) : (grantOn c t.grant).2 = grantLen c t := by
  unfold grantOn grantLen
  rcases t.grant with _ | ⟨gc, b, n⟩
  · rfl
  · change (if gc = c then (b, n) else (0, 0)).2 = if gc = c then n else 0
    split <;> rfl

/-- The 32-byte units of a reclaim's save (R108). -/
theorem reclaimUnits_eq (c : Nat) (t : Task) : reclaimUnits (isK8 c) (grantOn c t.grant).2 = (if c < 1152 then 96 else 64) + 1 + 24 + grantLen c t / 32 := by
  rw [reclaimUnits, imgLen_units, grantOn_len]

theorem reclaim_bad (hbad : 1536 ≤ c ∨ 4096 ≤ n) : s.reclaim c n wid = withStatus s 1 := if_pos hbad
theorem restore_bad (hbad : 1536 ≤ c ∨ 4096 ≤ n) : s.restore c n wid = withStatus s 1 := if_pos hbad

section Operands

variable (hc : c < 1536) (hn : n < 4096)
include hc hn

theorem reclaim_unknown (h : s.launch? n = none ∨ s.task? ⟨n, BitVec.ofNat 64 wid⟩ = none ∨ s.stopped n = true) : s.reclaim c n wid = withStatus s 3 := by
  rw [State.reclaim, if_neg (by omega)]
  split
  · next l t hl ht =>
    rcases h with h | h | h
    · rw [h] at hl; cases hl
    · rw [h] at ht; cases ht
    · exact if_pos h
  · rfl

theorem restore_unknown (h : s.launch? n = none ∨ s.task? ⟨n, BitVec.ofNat 64 wid⟩ = none ∨ s.stopped n = true) : s.restore c n wid = withStatus s 3 := by
  rw [State.restore, if_neg (by omega)]
  split
  · next l t hl ht =>
    rcases h with h | h | h
    · rw [h] at hl; cases hl
    · rw [h] at ht; cases ht
    · rw [h]; rfl
  · rfl

variable (hl : s.launch? n = some l) (ht : s.task? ⟨n, BitVec.ofNat 64 wid⟩ = some t) (hs : s.stopped n = false)
include hl ht hs

theorem reclaim_on {sl : Fin 16} {a : Nat} (hp : t.place = .on c sl) (ha : t.area = some a) (hst : (s.slot c sl).st = .run) : s.reclaim c n wid =
    if hSavelen l.h < reclaimUnits (isK8 c) (grantOn c t.grant).2 then withStatus s 5 else if !s.clear ⟨c, sl⟩ then s
    else if (s.core c).blocked then withStatus s 9 else s.beginSave ⟨c, sl⟩ 3 (BitVec.ofNat 64 (l.areaVa a)) 0 := by
  have hedge : (s.at ⟨c, sl⟩).atBoundary = true := by
    have hrun : (s.at ⟨c, sl⟩).st = .run := hst
    rw [Slot.atBoundary, hrun]
    rfl
  rw [State.reclaim, if_neg (by omega), hl, ht]
  simp only [hs, hp, ha, hedge, Bool.false_eq_true, if_false, ne_eq, not_true, decide_eq_true_eq, Bool.not_true, Bool.false_or]
  rfl

theorem reclaim_out (hp : t.place = .out c) : s.reclaim c n wid =
    if hSavelen l.h < reclaimUnits (isK8 c) (grantOn c t.grant).2 then withStatus s 5
    else if !t.epochs.isEmpty || s.commits c t.id || decide (s.gvtOf n ≤ t.lvt.toNat) then s
    else s.reclaimOut c t (match t.area with | some a => l.areaVa a | none => 0) l.asid (grantOn c t.grant) := by
  rw [State.reclaim, if_neg (by omega), hl, ht]
  simp only [hs, hp, Bool.false_eq_true, if_false, ne_eq, not_true, decide_eq_true_eq]
  rfl

/-! ## RESTORE -/

theorem restore_elsewhere (hp : t.place ≠ .reclaimed c) : s.restore c n wid = withStatus s 3 := by
  have hplace : (t.place != .reclaimed c) = true := bne_iff_ne.2 hp
  rw [State.restore, if_neg (by omega), hl, ht]
  simp only [hs, hplace, Bool.false_or, Bool.true_or, if_true]
  rfl

variable {a : Nat} (hp : t.place = .reclaimed c) (hstands : s.saveStands c t.id = false) (ha : t.area = some a)
include hp hstands ha

theorem restore_refused {x : Stop} (hx : s.restoreArea c t (l.areaVa a) l.asid = .error x) :
    let y := (s.logWalk x).imageRefused ⟨c, 0⟩ n (l.areaVa a)
    ∃ status, s.restore c n wid = withStatus { y with free := y.free + 1 } status := by
  refine ⟨((((s.logWalk x).imageRefused ⟨c, 0⟩ n (l.areaVa a)).draw).1.toNat % 256), ?_⟩
  rw [State.restore, if_neg (by omega), hl, ht]
  simp only [hs, hp, hstands, ha, hx, bne_self_eq_false, Bool.or_self, Bool.false_eq_true, if_false]
  rfl

theorem restore_whole {u : State} (hpark : t.parked = false) (hx : s.restoreArea c t (l.areaVa a) l.asid = .ok u) :
    s.restore c n wid = withStatus ((u.updTask t.id fun t => { t with place := .out c }).enqueue c (savedEntry t)) 0 := by
  rw [State.restore, if_neg (by omega), hl, ht]
  simp only [hs, hp, hstands, ha, hx, hpark, bne_self_eq_false, Bool.or_self, Bool.false_eq_true, if_false, Bool.not_false, if_true]
  rfl

end Operands

/-! ## SAVERETRY -/

theorem saveretry_eq (hc : c < 1536) : s.saveretry c = withStatus (((s.core c).cache.filter CtxEntry.incomplete).foldl (fun s e => s.retrySave c e) s) 0 :=
  if_neg (Nat.not_le.2 hc)

theorem saveretry_one (hc : c < 1536) (held : ((s.core c).cache.filter CtxEntry.incomplete) = [e]) : s.saveretry c = withStatus (s.retrySave c e) 0 := by
  rw [saveretry_eq hc, held]
  rfl

/-- A save-incomplete entry freed. -/
def freed (u : State) (c : Nat) (e : CtxEntry) : State := u.updCore c fun k => { k with cache := k.cache.erase e }

section Retry

variable {u : State} {va asid : Nat}

theorem retrySave_back (hdest : e.dest = none) (hhome : s.homeArea e = some (va, asid)) (htry : s.saveBytes c asid va (e.img ++ e.tail) = (u, none)) :
    s.retrySave c e = freed u c e := by
  unfold State.retrySave
  simp only [hdest, hhome, htry]
  rfl

theorem retrySave_stopped {a : Nat} (hdest : e.dest = none) (hhome : s.homeArea e = some (va, asid))
    (htry : s.saveBytes c asid va (e.img ++ e.tail) = (u, some a)) : s.retrySave c e = u.saveFailed c e.slot.val e.task.launch a := by
  unfold State.retrySave
  simp only [hdest, hhome, htry]

theorem retrySave_reclaimed {area desc : Word} (hdest : e.dest = some (area, desc, asid)) (hslot : e.slot = 15)
    (htry : s.saveBytes c asid area.toNat (e.img ++ e.tail) = (u, none)) : let g := grantOn c ((u.task? e.task).bind Task.grant)
    s.retrySave c e = (freed (u.clearGrant c g.1 g.2) c e).driverDone 0 := by
  unfold State.retrySave State.reclaimOutSave
  simp only [hdest, hslot, htry, if_true]
  rfl

theorem retrySave_slot {area desc : Word} (hdest : e.dest = some (area, desc, asid)) (hslot : e.slot ≠ 15)
    (htry : s.saveBytes c asid area.toNat (e.img ++ e.tail) = (u, none)) :
    ∀ x ∈ ((s.retrySave c e).core c).cache, x.slot = e.slot → x.incomplete = true → x.dest = none := by
  have hretry : s.retrySave c e = s.areaTried ⟨c, e.slot⟩ e (u, none) := by
    unfold State.retrySave
    simp only [hdest, htry, if_neg hslot]
  rw [hretry]
  exact Caches.areaTried_whole s u ⟨c, e.slot⟩ e

end Retry

theorem withStatus_driverDone (u : State) : withStatus (u.driverDone 0) 0 = withStatus u 0 := by
  unfold State.driverDone
  split <;> rfl

/-! ## ROTKEY -/

theorem rotkey_bad {g : Nat} (hg : 16 ≤ g) : s.rotkey g = withStatus s 1 := if_pos hg

theorem rotkey_eq {g : Nat} (hg : g < 16) : s.rotkey g =
    if (List.range 16).any fun j => natOf (s.pread (s.regs.ascbase.toNat + 32 * (16 * g + j)) 1) % 2 == 1 then withStatus s 4
    else withStatus { s with keyVer := s.keyVer.setIfInBounds g (s.keyVer.toList.getD g 0 + 1) } 0 := by
  have hvalid : ((List.range 16).any fun j => bitAt (natOf (s.pread (s.regs.ascbase.toNat + 32 * (16 * g + j)) 1)) 0) =
      (List.range 16).any fun j => natOf (s.pread (s.regs.ascbase.toNat + 32 * (16 * g + j)) 1) % 2 == 1 := by
    refine congrArg ((List.range 16).any ·) (funext fun j => ?_)
    rw [Bits.bitAt_eq, Nat.testBit_zero]
    rfl
  rw [State.rotkey, if_neg (Nat.not_le.2 hg), hvalid]
  rfl

end Sys2Proof.Reclaims

/-! # The driver's commands (R350) -/

namespace Sys2Proof.Drivers
open Sys2Proof Sys2Proof.Machine Sys2Proof.Claims Sys2Proof.Digest Sys2Proof.Buffers Sys2Proof.Reclaims

/-- A field that begins at bit 0. -/
theorem bits_low (n hi : Nat) : bits n hi 0 = n % 2 ^ (hi + 1) := by
  rw [bits, Nat.pow_zero, Nat.div_one]
  rfl

section Fires

variable (s : State)

theorem fires_regbuf : fires .regbuf s = .next (s.regbuf s.regs.dcarg0.toNat s.regs.dcarg1.toNat s.regs.dcarg2.toNat) :=
  driverCommand_fires .regbuf (fun s a b c => s.regbuf a b c) s
theorem fires_freebuf : fires .freebuf s = .next (s.freebuf s.regs.dcarg0.toNat) := driverCommand_fires .freebuf (fun s a _ _ => s.freebuf a) s
theorem fires_retag : fires .retag s = .next (s.retag s.regs.dcarg0.toNat s.regs.dcarg1.toNat s.regs.dcarg2.toNat) :=
  driverCommand_fires .retag (fun s a b c => s.retag a b c) s
theorem fires_regarena : fires .regarena s = .next (s.regarena s.regs.dcarg0.toNat) := driverCommand_fires .regarena (fun s a _ _ => s.regarena a) s
theorem fires_freearena : fires .freearena s = .next (s.freearena s.regs.dcarg0.toNat s.regs.dcarg1.toNat) :=
  driverCommand_fires .freearena (fun s a b _ => s.freearena a b) s
theorem fires_stop : fires .stop s = .next (s.stopCmd s.regs.dcarg0.toNat s.regs.dcarg1.toNat) := driverCommand_fires .stop (fun s a b _ => s.stopCmd a b) s
theorem fires_reclaim : fires .reclaim s = .next (s.reclaim s.regs.dcarg0.toNat s.regs.dcarg1.toNat s.regs.dcarg2.toNat) :=
  driverCommand_fires .reclaim (fun s a b c => s.reclaim a b c) s
theorem fires_restore : fires .restore s = .next (s.restore s.regs.dcarg0.toNat s.regs.dcarg1.toNat s.regs.dcarg2.toNat) :=
  driverCommand_fires .restore (fun s a b c => s.restore a b c) s
theorem fires_saveretry : fires .saveretry s = .next (s.saveretry s.regs.dcarg0.toNat) := driverCommand_fires .saveretry (fun s a _ _ => s.saveretry a) s
theorem fires_rotkey : fires .rotkey s = .next (s.rotkey s.regs.dcarg0.toNat) := driverCommand_fires .rotkey (fun s a _ _ => s.rotkey a) s
theorem fires_corecmd : fires .corecmd s = .next (if 1536 ≤ s.regs.dcarg0.toNat then withStatus s 1
    else withStatus (s.postWake s.regs.dcarg0.toNat 0x04 s.regs.dcarg1.toNat) 0) :=
  driverCommand_fires .corecmd (fun s a b _ => if 1536 ≤ a then s.dcEnd 0x01 else (s.postWake a 0x04 b).dcEnd 0) s
theorem fires_xinv : fires .driverXinv s = .next (withStatus (s.dropXlat s.regs.dcarg0.toNat (bits s.regs.dcarg1.toNat 9 8) (bits s.regs.dcarg1.toNat 7 0)) 0) :=
  driverCommand_fires .driverXinv (fun s a b _ => (s.dropXlat a (bits b 9 8) (bits b 7 0)).dcEnd 0) s
theorem fires_cinv : fires .driverCinv s =
    .next (withStatus (s.dropCopies (bits s.regs.dcarg1.toNat 55 48) s.regs.dcarg0.toNat (bits s.regs.dcarg1.toNat 47 0)) 0) :=
  driverCommand_fires .driverCinv (fun s a b _ => (s.dropCopies (bits b 55 48) a (bits b 47 0)).dcEnd 0) s
theorem fires_unknown : fires .unknownDriverCommand s = .next (withStatus s 2) := driverCommand_fires .unknownDriverCommand (fun s _ _ _ => s.dcEnd 0x02) s

end Fires

/-- Settles O47, command by command. -/
theorem driverCommands : Obligations.DriverCommands := by
  unfold Obligations.DriverCommands
  intro s b t l a0 a1 a2 answers named
  have hnamed : ∀ arena asid h, named arena asid h = s.named arena asid h := fun _ _ _ => rfl
  have next_congr {x y : State} (h : x = y) : Host.Outcome.next (φ := Fault) (ρ := Refusal) x = .next y := congrArg _ h
  refine ⟨fires_unknown s, fun h => ?_, fun hasid hlen hend hb => ?_, fun hno => ⟨?_, fun ho hk => ?_⟩, fun hb harena hh => ⟨fun hn => ⟨?_, fun ho hk => ?_⟩, fun hn => ?_⟩,
    fun h => ?_, fun ho hk hb harena hh hn => ⟨fun x hx hlen hva => ?_, fun z e at_ hctx hwalk => ?_⟩, fun h => ?_, fun bs ar hpa hread hof hno hn hbuf => ?_,
    fun h => ?_, fun h0 h1 har => ?_, fun ar h0 h1 har hn => ?_, fun ar h0 h1 har hn => ?_, ?_, ?_, fun h => ?_, fun h0 h1 h => ?_,
    fun h0 h1 hl hnum hq hst => ?_, fun h => ⟨?_, ?_⟩, fun h0 h1 h => ⟨?_, ?_⟩, fun h0 h1 hl ht hs => ⟨fun sl n hp ha hst => ?_, fun hp hblock hep hcom hgvt hlen => ?_,
      fun hp hep hlen => ?_, fun hp => ?_, fun n x hp hstands ha hx => ?_, fun n s2 hp hstands hid ha hpark hx => ?_⟩,
    fun h => ⟨?_, ?_⟩, fun h0 => ⟨?_, fun hheld => ?_, fun e va asid u hheld hdest hhome => ⟨fun htry => ?_, fun a htry => ?_⟩,
      fun e va desc asid u hheld hdest htry => ⟨fun hslot => ?_, fun hslot => ?_⟩⟩,
    fun h0 => ?_, fun h => ?_, fun h0 => ⟨fun hv => ?_, fun hv => ?_⟩⟩
  -- REGBUF
  · exact (fires_regbuf s).trans (next_congr (regbuf_bad h))
  · exact (fires_regbuf s).trans (next_congr (regbuf_first hasid hlen hend hb))
  -- FREEBUF and RETAG of a handle
  · exact (fires_freebuf s).trans (next_congr (by rw [freebuf_eq, hasBuffer_none hno]; rfl))
  · exact (fires_retag s).trans (next_congr (retag_none ho hk (hasBuffer_none hno)))
  · exact (fires_freebuf s).trans (next_congr (by rw [freebuf_eq, hasBuffer_of_mem hb harena hh, (hnamed ..).symm.trans hn]; rfl))
  · exact (fires_retag s).trans (next_congr (retag_named ho hk (hasBuffer_of_mem hb harena hh) hn))
  · exact (fires_freebuf s).trans (next_congr (by rw [freebuf_eq, hasBuffer_of_mem hb harena hh, (hnamed ..).symm.trans hn]; rfl))
  · exact (fires_retag s).trans (next_congr (retag_bad h))
  · refine (fires_retag s).trans (next_congr ((retag_sole ho hk hb harena hh hn).trans ?_))
    rw [retagRange_one (by omega) (hlen ▸ retagPage_error hx hva)]
  · refine ⟨fun hlen hva hsize hlat => ?_, fun hlen hva hsize hlat => ⟨_, ?_, rfl⟩⟩
    · have hpage : 2 ^ pageShift (pteSize e) = b.len := by rw [hsize, hlen]; rfl
      refine (fires_retag s).trans (next_congr ((retag_page ho hk hb harena hh hn hctx hwalk hpage (hlen ▸ hva) (by omega) hlat).trans ?_))
      rw [pageEntries, hsize]
      rfl
    · have hpage : 2 ^ pageShift (pteSize e) = b.len := by rw [hsize, hlen]; rfl
      refine (fires_retag s).trans (next_congr ((retag_page ho hk hb harena hh hn hctx hwalk hpage (hlen ▸ hva) (by omega) hlat).trans ?_))
      rw [pageEntries, hsize]
      rfl
  -- REGARENA and FREEARENA
  · exact (fires_regarena s).trans (next_congr (regarena_misaligned h))
  · exact (fires_regarena s).trans (next_congr (regarena_first hpa hread hof hno hn hbuf))
  · exact (fires_freearena s).trans (next_congr (freearena_bad h))
  · exact (fires_freearena s).trans (next_congr (freearena_none h0 h1 har))
  · exact (fires_freearena s).trans (next_congr (freearena_named h0 h1 har hn))
  · obtain ⟨u, hu, harena, hmem, hbufs⟩ := freearena_free h0 h1 har hn
    exact ⟨u, (fires_freearena s).trans (next_congr hu), harena, hmem, hbufs⟩
  -- XINV and CINV
  · have hxinv := fires_xinv s
    rw [bits_low] at hxinv
    exact hxinv
  · have hcinv := fires_cinv s
    rw [bits_low s.regs.dcarg1.toNat 47] at hcinv
    exact hcinv
  -- STOP
  · exact (fires_stop s).trans (next_congr (stopCmd_bad h))
  · exact (fires_stop s).trans (next_congr (stopCmd_none h0 h1 h))
  · exact (fires_stop s).trans (next_congr (stopCmd_live h0 h1 hl hnum hq hst))
  -- RECLAIM and RESTORE
  · exact (fires_reclaim s).trans (next_congr (reclaim_bad h))
  · exact (fires_restore s).trans (next_congr (restore_bad h))
  · exact (fires_reclaim s).trans (next_congr (reclaim_unknown h0 h1 h))
  · exact (fires_restore s).trans (next_congr (restore_unknown h0 h1 h))
  · intro units glen
    have hunits : reclaimUnits (isK8 a0) (grantOn a0 t.grant).2 = units glen := reclaimUnits_eq a0 t
    have hreclaim := (fires_reclaim s).trans (next_congr (reclaim_on h0 h1 hl ht hs hp ha hst))
    refine ⟨fun hshort => ?_, fun hlen hclear hfree => ?_, fun hlen hclear => ?_⟩
    · exact hreclaim.trans (next_congr (if_pos (hunits ▸ hshort)))
    · exact hreclaim.trans (next_congr ((if_neg (Nat.not_lt.2 (hunits ▸ hlen))).trans (by rw [hclear, hfree]; rfl)))
    · exact hreclaim.trans (next_congr ((if_neg (Nat.not_lt.2 (hunits ▸ hlen))).trans (by rw [hclear]; rfl)))
  · have hfits : ¬ hSavelen l.h < reclaimUnits (isK8 a0) (grantOn a0 t.grant).2 := by
      rw [reclaimUnits_eq]
      exact Nat.not_lt.2 hlen
    refine (fires_reclaim s).trans (next_congr ((reclaim_out h0 h1 hl ht hs hp).trans ((if_neg hfits).trans ?_)))
    rw [hep, hcom, decide_eq_false (Nat.not_le.2 hgvt)]
    exact if_pos hblock
  · have hfits : ¬ hSavelen l.h < reclaimUnits (isK8 a0) (grantOn a0 t.grant).2 := by
      rw [reclaimUnits_eq]
      exact Nat.not_lt.2 hlen
    refine (fires_reclaim s).trans (next_congr ((reclaim_out h0 h1 hl ht hs hp).trans ((if_neg hfits).trans ?_)))
    rw [List.isEmpty_eq_false_iff.2 hep]
    rfl
  · exact (fires_restore s).trans (next_congr (restore_elsewhere h0 h1 hl ht hs hp))
  · obtain ⟨status, hstatus⟩ := restore_refused h0 h1 hl ht hs hp hstands ha hx
    exact ⟨status, (fires_restore s).trans (next_congr hstatus)⟩
  · exact (fires_restore s).trans (next_congr (restore_whole h0 h1 hl ht hs hp hstands ha hpark hx))
  -- SAVERETRY
  · exact (fires_saveretry s).trans (next_congr (if_pos h))
  · exact (fires_corecmd s).trans (next_congr (if_pos h))
  · exact ⟨_, (fires_saveretry s).trans (next_congr (saveretry_eq h0))⟩
  · exact (fires_saveretry s).trans (next_congr ((saveretry_eq h0).trans (by rw [show (s.core a0).cache.filter CtxEntry.incomplete = [] from hheld]; rfl)))
  · exact (fires_saveretry s).trans (next_congr ((saveretry_one h0 hheld).trans (by rw [retrySave_back hdest hhome htry]; rfl)))
  · exact (fires_saveretry s).trans (next_congr ((saveretry_one h0 hheld).trans (by rw [retrySave_stopped hdest hhome htry])))
  · exact ⟨_, (fires_saveretry s).trans (next_congr (saveretry_one h0 hheld)), retrySave_slot hdest hslot htry⟩
  · refine (fires_saveretry s).trans (next_congr ((saveretry_one h0 hheld).trans ?_))
    rw [retrySave_reclaimed hdest hslot htry, withStatus_driverDone]
    rfl
  -- CORECMD and ROTKEY
  · exact (fires_corecmd s).trans (next_congr (if_neg (Nat.not_le.2 h0)))
  · exact (fires_rotkey s).trans (next_congr (rotkey_bad h))
  · obtain ⟨j, hj, hvalid⟩ := hv
    exact (fires_rotkey s).trans (next_congr ((rotkey_eq h0).trans (if_pos (List.any_eq_true.2 ⟨j, List.mem_range.2 hj, hvalid⟩))))
  · refine (fires_rotkey s).trans (next_congr ((rotkey_eq h0).trans (if_neg ?_)))
    rw [Bool.not_eq_true, List.any_eq_false]
    exact fun j hj => Bool.eq_false_iff.1 (hv j (List.mem_range.1 hj))

end Sys2Proof.Drivers

/-! # The MXU arbiter (R31) -/

namespace Sys2Proof.Arbiter
open Sys2Proof Sys2Proof.Machine Sys2Proof.Claims

section Select

variable (m : Mxu) (head : Fin 8 → Option QCmd)

/-- The MXU with its credits as a selection finds them: reloaded where no core with a command has any. -/
def loaded : Mxu := if ((List.finRange 8).filter fun c => (head c).isSome).any fun c => m.credit[c] != 0 then m else { m with credit := Vector.ofFn fun c => m.weight c.val }

theorem loaded_same : (loaded m head).active = m.active ∧ (loaded m head).p = m.p ∧
    ∀ (cr : Vector Nat 8) p r, { loaded m head with credit := cr, p := p, running := r } = { m with credit := cr, p := p, running := r } := by
  unfold loaded
  split <;> exact ⟨rfl, rfl, fun _ _ _ => rfl⟩

theorem weight_eq (c : Fin 8) : m.weight c.val = m.mxwt.toNat / 16 ^ c.val % 16 := by
  rw [Mxu.weight, bits, show 4 * c.val + 3 + 1 - 4 * c.val = 4 by omega, Nat.pow_mul]
  norm_num

theorem anyCredit_iff : (((List.finRange 8).filter fun c => (head c).isSome).any fun c => m.credit[c] != 0) = true ↔
    ∃ x, (head x).isSome ∧ m.credit[x] ≠ 0 := by
  simp only [List.any_eq_true, List.mem_filter, List.mem_finRange, true_and, bne_iff_ne]

theorem loaded_credit (c : Fin 8) : (loaded m head).credit[c] = credits m head c := by
  unfold loaded credits
  by_cases h : ∃ x, (head x).isSome ∧ m.credit[x] ≠ 0
  · rw [if_pos ((anyCredit_iff m head).2 h), if_pos h]
  · rw [if_neg fun h' => h ((anyCredit_iff m head).1 h'), if_neg h, ← weight_eq]
    exact Vector.getElem_ofFn ..

/-- The cores with a command and credit, and those of them whose command meets the active plane. -/
def candidates : List (Fin 8) := ((List.finRange 8).filter fun c => (head c).isSome).filter fun c => (loaded m head).credit[c] != 0
def preferred : List (Fin 8) := (candidates m head).filter fun c => match head c with | some q => headMatches (loaded m head) q | none => false
def pool : List (Fin 8) := if (preferred m head).isEmpty then candidates m head else preferred m head

theorem mem_candidates (c : Fin 8) : c ∈ candidates m head ↔ (head c).isSome ∧ credits m head c ≠ 0 := by
  rw [candidates, List.mem_filter, List.mem_filter, bne_iff_ne, loaded_credit]
  exact and_congr_left' (and_iff_right (List.mem_finRange c))

/-- Whether the command at the head of a core's queue meets the active plane. -/
def fits (c : Fin 8) : Prop := ∀ q, head c = some q → q.op = .mact → q.t.tag = m.active.tag

theorem mem_preferred (c : Fin 8) : c ∈ preferred m head ↔ ((head c).isSome ∧ credits m head c ≠ 0) ∧ fits m head c := by
  rw [preferred, List.mem_filter, mem_candidates]
  refine and_congr_right fun ⟨hsome, _⟩ => ?_
  obtain ⟨q, hq⟩ := Option.isSome_iff_exists.1 hsome
  have hmatch : headMatches (loaded m head) q = true ↔ (q.op = .mact → q.t.tag = m.active.tag) := by
    rw [headMatches, (loaded_same m head).1, Bool.or_eq_true, bne_iff_ne, beq_iff_eq, ← imp_iff_not_or]
  rw [hq]
  refine hmatch.trans ⟨fun h q' hq' => ?_, fun h => h q hq⟩
  cases hq.symm.trans hq'
  exact h

theorem mem_pool (c : Fin 8) : c ∈ pool m head ↔ mayTake m head c := by
  unfold pool mayTake
  by_cases h : preferred m head = []
  · have hnone : ∀ x, (head x).isSome ∧ credits m head x ≠ 0 → ¬ fits m head x := fun x hx hfit => by
      have hmem := (mem_preferred m head x).2 ⟨hx, hfit⟩
      rw [h] at hmem
      cases hmem
    rw [h, List.isEmpty_nil, if_pos rfl, mem_candidates]
    exact ⟨fun hc => ⟨hc, .inr hnone⟩, And.left⟩
  · rw [List.isEmpty_eq_false_iff.2 h, if_neg Bool.false_ne_true, mem_preferred]
    obtain ⟨y, hy⟩ := List.exists_mem_of_ne_nil _ h
    rw [mem_preferred] at hy
    exact ⟨fun hc => ⟨hc.1, .inl hc.2⟩, fun hc => ⟨hc.1, hc.2.resolve_right fun hno => hno y hy.1 hy.2⟩⟩

/-- The first core of a pool from the pointer on. -/
theorem find_from (p k : Fin 8) {P : Fin 8 → Bool} (hk : P k = true) (hleast : ∀ x, P x = true → (k - p).val ≤ (x - p).val) :
    ((List.finRange 8).map fun i => p + i).find? P = some k := by
  have hfirst : (List.finRange 8).find? (fun i => P (p + i)) = some (k - p) := by
    rw [← Fin.find?_eq_find?_finRange, Fin.find?_eq_some_iff]
    refine ⟨by simpa using hk, fun j hj => Bool.eq_false_iff.2 fun hP => ?_⟩
    have hle := hleast (p + j) hP
    rw [add_sub_cancel_left] at hle
    exact absurd hj (Nat.not_lt.2 hle)
  rw [List.find?_map]
  change ((List.finRange 8).find? (fun i => P (p + i))).map _ = _
  rw [hfirst]
  simp

/-- What Select() of R31 chooses. -/
theorem select_eq {k : Fin 8} {q : QCmd} (hk : head k = some q) (hmay : mayTake m head k) (hleast : ∀ x, mayTake m head x → (k - m.p).val ≤ (x - m.p).val)
    (r : Option (Fin 8 × QCmd)) : (m.select head).map (fun x => (x.1, x.2.1, { x.2.2 with running := r })) =
      some (k, q, { m with credit := Vector.ofFn fun x => if x = k then credits m head x - 1 else credits m head x, p := k + 1, running := r }) := by
  have hready : ((List.finRange 8).filter fun c => (head c).isSome).isEmpty = false := by
    rw [List.isEmpty_eq_false_iff]
    exact List.ne_nil_of_mem (List.mem_filter.2 ⟨List.mem_finRange k, by rw [hk]; rfl⟩)
  have hfind : ((List.finRange 8).map fun i => (loaded m head).p + i).find? (fun c => (pool m head).contains c) = some k := by
    rw [(loaded_same m head).2.1]
    refine find_from m.p k ?_ fun x hx => hleast x ((mem_pool m head x).1 (List.contains_iff_mem.1 hx))
    exact List.contains_iff_mem.2 ((mem_pool m head k).2 hmay)
  have hcredit : (loaded m head).credit.set k ((loaded m head).credit[k] - 1) =
      Vector.ofFn fun x => if x = k then credits m head x - 1 else credits m head x := by
    ext i hi
    rw [Vector.getElem_ofFn, Vector.getElem_set]
    have hat : (loaded m head).credit[i] = credits m head ⟨i, hi⟩ := loaded_credit m head ⟨i, hi⟩
    have hatk : (loaded m head).credit[k] = credits m head k := loaded_credit m head k
    by_cases h : k.val = i
    · subst h
      rw [if_pos rfl, if_pos rfl, hatk]
    · rw [if_neg h, if_neg (fun hk => h (congrArg Fin.val hk).symm), hat]
  change Option.map _ (if ((List.finRange 8).filter fun c => (head c).isSome).isEmpty = true then none else
    match ((List.finRange 8).map fun i => (loaded m head).p + i).find? (fun c => (pool m head).contains c) with
    | none => none
    | some c => (head c).map fun q => (c, q, { loaded m head with credit := (loaded m head).credit.set c ((loaded m head).credit[c] - 1), p := c + 1 })) = _
  rw [hready, if_neg Bool.false_ne_true]
  rw [hfind]
  simp only [hk, Option.map_some, hcredit]
  exact congrArg (fun x => some (k, q, x)) ((loaded_same m head).2.2 _ _ _)

end Select

/-! ## ARBITER_SELECT -/

variable {s : State} {cl : Nat} {k : Fin 8} {q y : QCmd}

/-- The heads of the queues of a cluster's cores. -/
def heads (s : State) (cl : Nat) (c : Fin 8) : Option QCmd := (s.core (8 * cl + c.val)).mxq.head?

theorem mxu_updMxu (s : State) (cl : Nat) (f : Mxu → Mxu) : (s.updMxu cl f).mxu cl = f (s.mxu cl) := by
  unfold State.mxu State.updMxu
  rw [Tbl.getD_put, if_pos rfl]
  rfl

theorem core_updMxu (s : State) (cl c : Nat) (f : Mxu → Mxu) : (s.updMxu cl f).core c = s.core c := rfl

theorem arbiter_idle (hidle : (s.mxu cl).running = none) (hnone : ∀ x, heads s cl x = none) : s.arbiter cl = s := by
  have hready : ((List.finRange 8).filter fun c => (heads s cl c).isSome) = [] :=
    List.filter_eq_nil_iff.2 fun c _ => by rw [hnone]; exact Bool.false_ne_true
  have hselect : (s.mxu cl).select (heads s cl) = none := by
    change (if ((List.finRange 8).filter fun c => (heads s cl c).isSome).isEmpty = true then none else _) = _
    rw [hready]
    rfl
  unfold State.arbiter
  extract_lets m
  rw [if_neg (by rw [show m.running = none from hidle]; exact Bool.false_ne_true)]
  change (match m.select (heads s cl) with | none => s | some (c, q, m) => _) = s
  rw [hselect]

theorem arbiter_busy {r : Fin 8 × QCmd} (hrun : (s.mxu cl).running = some r) : s.arbiter cl = s := by
  unfold State.arbiter
  extract_lets m
  exact if_pos (by rw [show m.running = some r from hrun]; rfl)

/-- The MXU after its choice. -/
def chosen (m : Mxu) (head : Fin 8 → Option QCmd) (k : Fin 8) (q : QCmd) : Mxu :=
  { m with running := some (k, q), p := k + 1, credit := Vector.ofFn fun x => if x = k then credits m head x - 1 else credits m head x }

/-- A core without the head of its queue; and one with a command moved from those that wait into its queue. -/
def popped (y : Core) : Core := { y with mxq := y.mxq.tail }
def enqueued (y : QCmd) (k : Core) : Core := { k with tileWait := k.tileWait.erase y }.enter y

/-- The cluster with a command taken from its queue by the MXU. -/
def taken (s : State) (cl : Nat) (k : Fin 8) (q : QCmd) : State :=
  (s.updCore (8 * cl + k.val) popped).updMxu cl fun _ => chosen (s.mxu cl) (heads s cl) k q

theorem arbiter_takes (hidle : (s.mxu cl).running = none) (hq : heads s cl k = some q) (hmay : mayTake (s.mxu cl) (heads s cl) k)
    (hleast : ∀ x, mayTake (s.mxu cl) (heads s cl) x → (k - (s.mxu cl).p).val ≤ (x - (s.mxu cl).p).val) :
    s.arbiter cl = (taken s cl k q).queueNext (8 * cl + k.val) := by
  obtain ⟨⟨k', q', m'⟩, hselect, hm⟩ := Option.map_eq_some_iff.1 (select_eq (s.mxu cl) (heads s cl) hq hmay hleast (some (k, q)))
  obtain ⟨rfl, h⟩ := Prod.mk.inj hm
  obtain ⟨rfl, hm'⟩ := Prod.mk.inj h
  unfold State.arbiter
  extract_lets m
  rw [if_neg (by rw [show m.running = none from hidle]; exact Bool.false_ne_true)]
  change (match m.select (heads s cl) with | none => s | some (c, q, m) => _) = _
  rw [hselect]
  change (State.updMxu _ cl fun _ => { m' with running := some (k', q') }).queueNext _ = _
  rw [hm']
  rfl

theorem core_taken (s : State) (cl : Nat) (k : Fin 8) (q : QCmd) : (taken s cl k q).core (8 * cl + k.val) = popped (s.core (8 * cl + k.val)) :=
  State.core_updCore_same s (8 * cl + k.val) popped

/-- A waiting command in its queue, and its thread's instruction complete. -/
def entering (s : State) (c : Nat) (y : QCmd) : State :=
  ((s.updCore c (enqueued y)).upd ⟨c, y.slot⟩ fun x => { x with busy := .completing }).post [.instructionCompletion c y.slot]

theorem queueNext_none {c : Nat} (hwait : (s.core c).tileWait = []) : s.queueNext c = s := by
  unfold State.queueNext
  rw [hwait]
  rfl

theorem queueNext_one {c : Nat} (hwait : (s.core c).tileWait = [y]) (hfree : (s.core c).queueFree y.op.engine = true) : s.queueNext c = entering s c y := by
  have hfind : [y].find? (fun q => (s.core c).queueFree q.op.engine) = some y := List.find?_cons_of_pos hfree
  unfold State.queueNext
  rw [hwait]
  change (match (s.core c).tileWait.find? (fun q => (s.core c).queueFree q.op.engine) with | none => s | some q => entering s c q) = _
  rw [hwait, hfind]

theorem enqueued_mxu {z : Core} (hop : y.op.engine = 0) : (enqueued y z).mxq = z.mxq ++ [y] ∧ (enqueued y z).tileWait = z.tileWait.erase y := by
  unfold enqueued Core.enter
  rw [hop]
  exact ⟨rfl, rfl⟩

/-- The command that waited takes the entry that has come free. -/
theorem taken_enters (hwait : (s.core (8 * cl + k.val)).tileWait = [y]) (hop : y.op.engine = 0) (hq : heads s cl k = some q)
    (hlen : (s.core (8 * cl + k.val)).mxq.length ≤ 8) : (taken s cl k q).queueNext (8 * cl + k.val) = entering (taken s cl k q) (8 * cl + k.val) y := by
  have hpos : 0 < (s.core (8 * cl + k.val)).mxq.length := List.length_pos_iff.2 (List.ne_nil_of_mem (List.mem_of_mem_head? hq))
  refine queueNext_one (by rw [core_taken]; exact hwait) ?_
  rw [core_taken, hop]
  refine decide_eq_true (p := (s.core (8 * cl + k.val)).mxq.tail.length < 8) ?_
  rw [List.length_tail]
  omega

theorem core_entering (s : State) (c : Nat) (hop : y.op.engine = 0) : ((entering s c y).core c).mxq = (s.core c).mxq ++ [y] ∧
    ((entering s c y).core c).tileWait = (s.core c).tileWait.erase y := by
  unfold entering
  rw [Frame.core_post, State.core_upd_mxq, State.core_upd_tileWait, State.core_updCore_same]
  exact enqueued_mxu hop

theorem slot_entering (s : State) (c : Nat) (y : QCmd) : ((entering s c y).slot c y.slot).busy = .completing := by
  unfold entering
  rw [Frame.slot_post]
  exact congrArg Slot.busy (State.at_upd_same _ ⟨c, y.slot⟩ _)

end Sys2Proof.Arbiter

/-! # What the MXU's commands do (R275, R276, R285 to R290) -/

namespace Sys2Proof.Mxus
open Sys2Proof Sys2Proof.Machine Sys2Proof.Claims Sys2Proof.Arbiter

/-! ## Notices -/

/-- The UTAG of a command's notice (Table 10.1). -/
def utagOf (q : QCmd) : Nat := if q.op = .msync then q.t.w1.toNat else 0

theorem noticePayload_eq (q : QCmd) (count bucket : Nat) (hcount : count < 2 ^ 64) (hbucket : bucket < 2 ^ 64) : noticePayload q count bucket =
    bytesOf 8 q.pc.toNat ++ bytesOf 4 (q.op.engine + 2 ^ 8 * q.op.cmd) ++ bytesOf 4 (utagOf q) ++ bytesOf 8 count ++ bytesOf 8 bucket := by
  have hcmd : q.op.engine + 2 ^ 8 * q.op.cmd < 256 ^ 4 := by cases q.op <;> decide
  have hutag : utagOf q < 256 ^ 4 := by
    unfold utagOf
    split
    · exact q.t.w1.isLt
    · decide
  rw [List.append_assoc, List.append_assoc, List.append_assoc, ← Wakes.bytesOf_add 8 count bucket 8 hcount,
    ← Wakes.bytesOf_add (8 + 8) (utagOf q) _ 4 hutag, ← Wakes.bytesOf_add (4 + (8 + 8)) _ _ 4 hcmd, ← Wakes.bytesOf_add (4 + (4 + (8 + 8))) _ _ 8 q.pc.isLt]
  refine congrArg (bytesOf 32) ?_
  rw [Nat.mod_eq_of_lt hcount, Nat.mod_eq_of_lt hbucket, utagOf]
  ring

/-- What a notice leaves: nothing but counts of messages and the notice in transit. -/
theorem cmdNotice_eq (s : State) (q : QCmd) (count bucket : Nat) (hcount : count < 2 ^ 64) (hbucket : bucket < 2 ^ 64) :
    ∃ ls, s.cmdNotice q count bucket = { s with launches := ls, agenda := s.agenda ++ noticeOf s q (utagOf q) count bucket } := by
  unfold State.cmdNotice noticeOf
  by_cases h : (q.t.note = true ∨ q.op = .msync) ∧ q.codelet = false ∧ q.task.launch < 4096
  · rw [if_pos h, if_pos (by simpa [and_assoc] using h), noticePayload_eq q count bucket hcount hbucket]
    exact ⟨_, rfl⟩
  · rw [if_neg h, if_neg (by simpa [and_assoc] using h), List.append_nil]
    exact ⟨_, rfl⟩

variable {s : State} {cl : Nat} {k : Fin 8} {q : QCmd}

/-- A command's end: the MXU free, its notice in transit, and no buffer changed. -/
theorem mxuEnd_frame (s : State) (cl : Nat) (q : QCmd) (count : Nat) (hcount : count < 2 ^ 64) :
    (s.mxuEnd cl q count).mxu cl = { s.mxu cl with running := none } ∧
    (s.mxuEnd cl q count).agenda = s.agenda ++ noticeOf s q (utagOf q) count 0 ∧ ∀ c n, (s.mxuEnd cl q count).cb c n = s.cb c n := by
  obtain ⟨ls, h⟩ := cmdNotice_eq (s.mxuIdle cl) q count 0 hcount (by decide)
  unfold State.mxuEnd
  rw [h]
  exact ⟨mxu_updMxu s cl fun m => { m with running := none }, rfl, fun _ _ => rfl⟩

/-- A fault of the running command: the MXU free and the launch stopped with the report. -/
theorem mxuFault_eq (s : State) (cl core : Nat) (q : QCmd) (reason : Nat) : ∃ tval, s.mxuFault cl core q reason =
    { s.updMxu cl (fun m => { m with running := none }) with free := s.free + 1 }.post [engineStop core q reason 0 tval] :=
  ⟨_, rfl⟩

/-! ## MSWAP, MSYNC, MZERO, and the end of MACT and MDRN -/

theorem mswap_step (hrun : (s.mxu cl).running = some (k, q)) (hop : q.op = .mswap) :
    s.mxuStep cl = (s.updMxu cl fun m => { m with active := m.shadow, shadow := m.active }).mxuEnd cl q 0 := by
  unfold State.mxuStep
  simp only [hrun, hop]

theorem msync_step (hrun : (s.mxu cl).running = some (k, q)) (hop : q.op = .msync) : s.mxuStep cl = s.mxuEnd cl q 0 := by
  unfold State.mxuStep
  simp only [hrun, hop]

theorem rows_end (hrun : (s.mxu cl).running = some (k, q)) (hop : q.op = .mact ∨ q.op = .mdrn) (hdone : q.done = q.t.rows) :
    s.mxuStep cl = s.mxuEnd cl q q.t.rows := by
  unfold State.mxuStep
  rcases hop with hop | hop <;> simp only [hrun, hop, hdone, le_refl, if_true]

/-- The accumulators without those of some rows of a core. -/
def cleared (k : Fin 8) (row0 rows : Nat) (m : Mxu) : Mxu :=
  { m with acc := m.acc.filter fun (a, _) => !(decide (accKey k row0 0 ≤ a ∧ a < accKey k (row0 + rows) 0)) }

theorem mzero_step (hrun : (s.mxu cl).running = some (k, q)) (hop : q.op = .mzero) : s.mxuStep cl =
    ((s.updMxu cl (cleared k q.t.row0 q.t.rows)).accFresh cl k q.t.row0 q.t.rows 256).mxuEnd cl q q.t.rows := by
  unfold State.mxuStep
  simp only [hrun, hop]
  rfl

/-- Fresh accumulators change only the record of upset words. -/
theorem accFresh_eq (s : State) (cl : Nat) (k : Fin 8) (row rows n : Nat) : ∃ u, s.accFresh cl k row rows n = { s with upsets := u } := by
  unfold State.accFresh
  induction List.range rows generalizing s with
  | nil => exact ⟨s.upsets, rfl⟩
  | cons r rs ih =>
    obtain ⟨u, h⟩ := ih (s.refresh (.acc cl) (accKey k (row + r) 0 / 2) (n / 2))
    exact ⟨u, h⟩

theorem find?_filter {α : Type} (p : Nat → Bool) (j : Nat) (t : Tbl α) :
    Tbl.find? (List.filter (fun (x : Nat × α) => p x.1) t) j = if p j then t.find? j else none := by
  induction t with
  | nil => exact (ite_self _).symm
  | cons x t ih =>
    obtain ⟨i, v⟩ := x
    by_cases hp : p i = true
    · rw [List.filter_cons_of_pos (p := fun (x : Nat × α) => p x.1) hp, Tbl.find?, Tbl.find?, ih]
      by_cases hij : i = j
      · subst hij
        rw [if_pos rfl, if_pos hp, if_pos rfl]
      · rw [if_neg hij, if_neg hij]
    · rw [List.filter_cons_of_neg (p := fun (x : Nat × α) => p x.1) hp, ih, Tbl.find?]
      by_cases hij : i = j
      · subst hij
        rw [if_neg hp, if_neg hp]
      · rw [if_neg hij]

theorem accAt_cleared (k x : Fin 8) {row0 rows row col : Nat} (m : Mxu) (hrows : row0 + rows ≤ 128) (hrow : row < 128) (hcol : col < 256) :
    accAt (cleared k row0 rows m) x row col = if x = k ∧ row0 ≤ row ∧ row < row0 + rows then 0 else accAt m x row col := by
  have hkey : (!decide (accKey k row0 0 ≤ accKey x row col ∧ accKey x row col < accKey k (row0 + rows) 0)) = !decide (x = k ∧ row0 ≤ row ∧ row < row0 + rows) := by
    refine congrArg not (decide_eq_decide.2 ?_)
    unfold accKey
    rw [Fin.ext_iff]
    omega
  have hfind := find?_filter (fun a => !decide (accKey k row0 0 ≤ a ∧ a < accKey k (row0 + rows) 0)) (accKey x row col) m.acc
  change (Tbl.find? (List.filter (fun (y : Nat × BitVec 32) => !decide (accKey k row0 0 ≤ y.1 ∧ y.1 < accKey k (row0 + rows) 0)) m.acc) (accKey x row col)).getD 0 = _
  rw [hfind, hkey]
  by_cases h : x = k ∧ row0 ≤ row ∧ row < row0 + rows
  · rw [if_pos h, decide_eq_true h]
    rfl
  · rw [if_neg h, decide_eq_false h]
    rfl

/-! ## MWLD -/

theorem halfAt_eq (bs : List Byte) (o : Nat) : halfAt bs o = natOf ((bs.drop o).take 2) := by
  have hbyte : ∀ i, byteAt bs (o + i) = ((bs.drop o).getD i 0).toNat := fun i => by
    rw [byteAt, List.getD_eq_getElem?_getD, List.getD_eq_getElem?_getD, List.getElem?_drop]
  rw [halfAt, hbyte 1, show byteAt bs o = _ from hbyte 0]
  match bs.drop o with
  | [] => rfl
  | [a] => rfl
  | a :: b :: _ => simp [natOf]

theorem planeOf_eq (t : TWord) (bs : List Byte) : planeOf t bs = ⟨bs.take (weightLen t.wtype t.sparse), natOf ((bs.drop 32768).take 2) % 2 ^ 12,
    natOf ((bs.drop 32770).take 2) % 2 ^ 12, t.tag, t.wtype, t.sparse⟩ := by
  rw [planeOf, halfAt_eq, halfAt_eq]

/-- The whole number of slots that an image takes. -/
theorem ceilDiv_eq {l b n : Nat} (hb : 0 < b) (hlt : n * b < l + b) (hle : l ≤ n * b) : ceilDiv l (max 1 b) = n := by
  rw [ceilDiv, Nat.max_eq_right hb]
  exact Nat.div_eq_of_lt_le (by omega) (by rw [Nat.succ_mul]; omega)

/-- The plane of an image in the shadow. -/
def shadowed (t : TWord) (bs : List Byte) (m : Mxu) : Mxu := { m with shadow := planeOf t bs }

theorem mwld_step {n : Nat} {bs : List Byte} (hrun : (s.mxu cl).running = some (k, q)) (hop : q.op = .mwld)
    (hb : 0 < (s.cb (8 * cl + k.val) q.t.cbn).bytes) (hn : ceilDiv (weightLen q.t.wtype q.t.sparse) (max 1 (s.cb (8 * cl + k.val) q.t.cbn).bytes) = n)
    (hslots : n ≤ (s.cb (8 * cl + k.val) q.t.cbn).slots) (hfeed : s.feed (8 * cl + k.val) q.t.cbn true n = .slots bs) : s.mxuStep cl =
      ((s.updMxu cl (shadowed q.t bs)).updCb (8 * cl + k.val) q.t.cbn fun b => b.advC n).mxuEnd cl q 0 := by
  unfold State.mxuStep
  simp only [hrun, hop, hn, hb, hslots, and_self, decide_true, hfeed]
  rfl

/-! ## MACT -/

theorem mact_mismatch (hrun : (s.mxu cl).running = some (k, q)) (hop : q.op = .mact) (hdone : q.done < q.t.rows)
    (hplane : (s.mxu cl).active.tag ≠ q.t.tag ∨ (s.mxu cl).active.wtype ≠ q.t.wtype ∨ (s.mxu cl).active.sparse ≠ q.t.sparse) :
    s.mxuStep cl = s.mxuFault cl (8 * cl + k.val) q 0x01 := by
  unfold State.mxuStep
  simp only [hrun, hop]
  rw [if_neg (Nat.not_le.2 hdone), if_pos hplane]

/-- The accumulators after a row. -/
def rowDone (q : QCmd) (k : Fin 8) (bs : List Byte) (r : Nat) (m0 m : Mxu) : Mxu := { m with acc := mactRow m0 q k bs r }

theorem mact_step {row : List Byte} (hrun : (s.mxu cl).running = some (k, q)) (hop : q.op = .mact) (hdone : q.done < q.t.rows)
    (htag : (s.mxu cl).active.tag = q.t.tag) (hwtype : (s.mxu cl).active.wtype = q.t.wtype) (hsparse : (s.mxu cl).active.sparse = q.t.sparse)
    (hbad : q.t.za = false → s.accBad cl k (q.t.row0 + q.done) (colsOf q.t.wtype) = false)
    (hfeed : s.feed (8 * cl + k.val) q.t.cbn (decide (rlen q.t.wtype q.t.sparse + 2 ≤ (s.cb (8 * cl + k.val) q.t.cbn).bytes)) 1 = .slots row) : s.mxuStep cl =
      (((s.updMxu cl (rowDone q k row (q.t.row0 + q.done) (s.mxu cl))).updCb (8 * cl + k.val) q.t.cbn fun b => b.advC 1).accFresh cl k (q.t.row0 + q.done) 1
        (colsOf q.t.wtype).length).mxuNext cl := by
  have hgood : (!q.t.za && s.accBad cl k (q.t.row0 + q.done) (colsOf q.t.wtype)) = false := by
    cases hza : q.t.za with
    | true => rfl
    | false => rw [hbad hza]; rfl
  unfold State.mxuStep
  simp only [hrun, hop]
  rw [if_neg (Nat.not_le.2 hdone), if_neg (by rw [htag, hwtype, hsparse]; simp), hfeed]
  simp only [hgood, Bool.false_eq_true, if_false]
  rfl

/-- A command with a row more done. -/
def rowMore (q : QCmd) : QCmd := { q with done := q.done + 1 }

theorem mxuNext_frame (hrun : (s.mxu cl).running = some (k, q)) : (s.mxuNext cl).mxu cl = { s.mxu cl with running := some (k, rowMore q) } := by
  unfold State.mxuNext
  rw [mxu_updMxu, hrun]
  rfl

theorem getD_accPut (t : Tbl (BitVec 32)) (key v j : Nat) : (accPut t key v).getD j 0 = if j = key then BitVec.ofNat 32 v else t.getD j 0 := by
  unfold accPut
  split
  next h =>
    rw [Tbl.getD_del]
    refine ite_congr rfl (fun _ => ?_) fun _ => rfl
    exact (BitVec.eq_of_toNat_eq (by rw [BitVec.toNat_ofNat, h]; rfl)).symm
  next => exact Tbl.getD_put ..

/-- Accumulators set one after another from their own old values. -/
def accRun (key : Nat → Nat) (g : Nat → BitVec 32 → Nat) (t : Tbl (BitVec 32)) (cols : List Nat) : Tbl (BitVec 32) :=
  cols.foldl (fun acc n => accPut acc (key n) (g n (acc.getD (key n) 0))) t

theorem getD_accRun_other (key : Nat → Nat) (g : Nat → BitVec 32 → Nat) {j : Nat} (cols : List Nat) (t : Tbl (BitVec 32)) (h : ∀ n ∈ cols, j ≠ key n) :
    (accRun key g t cols).getD j 0 = t.getD j 0 := by
  induction cols generalizing t with
  | nil => rfl
  | cons n cols ih =>
    refine (ih _ fun i hi => h i (List.mem_cons_of_mem n hi)).trans ?_
    rw [getD_accPut, if_neg (h n List.mem_cons_self)]

theorem getD_accRun_same (key : Nat → Nat) (g : Nat → BitVec 32 → Nat) {n : Nat} (cols : List Nat) (t : Tbl (BitVec 32)) (hn : n ∈ cols) (hnodup : cols.Nodup)
    (hkey : ∀ i ∈ cols, i ≠ n → key n ≠ key i) : (accRun key g t cols).getD (key n) 0 = BitVec.ofNat 32 (g n (t.getD (key n) 0)) := by
  induction cols generalizing t with
  | nil => cases hn
  | cons i cols ih =>
    obtain ⟨hi, hrest⟩ := List.nodup_cons.1 hnodup
    rcases List.mem_cons.1 hn with rfl | hn'
    · refine (getD_accRun_other key g cols _ fun x hx => hkey x (List.mem_cons_of_mem n hx) fun h => hi (h ▸ hx)).trans ?_
      rw [getD_accPut, if_pos rfl]
    · have hne : key n ≠ key i := hkey i List.mem_cons_self fun h => hi (h ▸ hn')
      refine (ih _ hn' hrest fun x hx => hkey x (List.mem_cons_of_mem i hx)).trans ?_
      rw [getD_accPut, if_neg hne]

theorem accKey_inj {k x : Fin 8} {r r' c c' : Nat} (hr : r < 128) (hr' : r' < 128) (hc : c < 256) (hc' : c' < 256) :
    accKey x r c = accKey k r' c' ↔ x = k ∧ r = r' ∧ c = c' := by
  unfold accKey
  rw [Fin.ext_iff]
  omega

theorem mem_colsOf (wt n : Nat) : n ∈ colsOf wt ↔ n < 256 ∧ (wt = 3 → n < 128) := by
  unfold colsOf
  rw [List.mem_range]
  split <;> omega

/-- What a row leaves in a column of its accumulators. -/
def columnSum (m : Mxu) (q : QCmd) (bs : List Byte) (n : Nat) (old : BitVec 32) : Nat :=
  let a := if q.t.za then 0 else old.toNat
  let ps := blockPairs q.t.wtype q.t.atype q.t.sparse m.active.img bs n
  if q.t.wtype = 3 then bf16Block (bf16Block a (ps.take 64)) (ps.drop 64)
  else blockStep a ps (halfAt bs (rlen q.t.wtype q.t.sparse)) (if n / 128 = 0 then m.active.scale0 else m.active.scale1)

theorem mactRow_eq (m : Mxu) (q : QCmd) (k : Fin 8) (bs : List Byte) (r : Nat) :
    mactRow m q k bs r = accRun (accKey k r) (columnSum m q bs) m.acc (colsOf q.t.wtype) := rfl

theorem accAt_row_other {m0 m : Mxu} {bs : List Byte} {x : Fin 8} {r r0 col : Nat} (hacc : m.acc = mactRow m0 q k bs r0) (hr0 : r0 < 128) (hr : r < 128)
    (hcol : col < 256) (h : x ≠ k ∨ r ≠ r0 ∨ (q.t.wtype = 3 ∧ 128 ≤ col)) : accAt m x r col = accAt m0 x r col := by
  unfold accAt
  rw [hacc, mactRow_eq]
  refine getD_accRun_other _ _ _ _ fun n hn hkey => ?_
  obtain ⟨hn256, hn128⟩ := (mem_colsOf _ _).1 hn
  obtain ⟨rfl, rfl, rfl⟩ := (accKey_inj hr hr0 hcol hn256).1 hkey
  rcases h with h | h | ⟨hw, hge⟩
  · exact h rfl
  · exact h rfl
  · exact absurd (hn128 hw) (Nat.not_lt.2 hge)

theorem accAt_row_same {m0 m : Mxu} {bs : List Byte} {r col : Nat} (hacc : m.acc = mactRow m0 q k bs r) (hr : r < 128)
    (hcol : col < 256) (hcol3 : q.t.wtype = 3 → col < 128) : accAt m k r col = BitVec.ofNat 32 (columnSum m0 q bs col (accAt m0 k r col)) := by
  unfold accAt
  rw [hacc, mactRow_eq]
  refine getD_accRun_same (accKey k r) _ _ _ ((mem_colsOf _ _).2 ⟨hcol, hcol3⟩) List.nodup_range fun i hi hne hkey => hne ?_
  exact ((accKey_inj hr hr hcol ((mem_colsOf _ _).1 hi).1).1 hkey).2.2.symm

/-! ## MDRN -/

theorem drain_own (hdone : q.t.dcoreM = k.val) (hen : (s.cb (8 * cl + k.val) q.t.cbn).en = true) (hkind : (s.cb (8 * cl + k.val) q.t.cbn).pkind = 0)
    (heos : (s.cb (8 * cl + k.val) q.t.cbn).eos = false) (hroom : (s.cb (8 * cl + k.val) q.t.cbn).filled ≠ (s.cb (8 * cl + k.val) q.t.cbn).slots)
    (hlmx : (s.core (8 * cl + k.val)).lmx = false) (hbad : s.accBad cl k (q.t.row0 + q.done) q.t.drained = false)
    (hsize : q.t.drained.length * codeBits (recFmt q.frec) / 8 ≤ (s.cb (8 * cl + k.val) q.t.cbn).bytes) : s.drainStep cl k q =
      ((((s.fillSlotAt (8 * cl + k.val) q.t.cbn (drainRow (s.mxu cl) q k (q.t.row0 + q.done))).updCb (8 * cl + k.val) q.t.cbn fun b => b.advP 1).updMxu cl fun m =>
        { m with acc := clearRow m q k (q.t.row0 + q.done) }).mxuNext cl) := by
  unfold State.drainStep
  simp only [hdone, if_true, hen, hkind, heos, hlmx, hbad, hroom, Nat.not_lt.2 hsize]
  simp

theorem drain_step (hrun : (s.mxu cl).running = some (k, q)) (hop : q.op = .mdrn) (hdone : q.done < q.t.rows) : s.mxuStep cl = s.drainStep cl k q := by
  unfold State.mxuStep
  simp only [hrun, hop]
  exact if_neg (Nat.not_le.2 hdone)

/-- A drained row in a slot, and the command a row further. -/
theorem filled_frame {d : Nat} {n : Fin 32} {data : List Byte} (hrun : (s.mxu cl).running = some (k, q)) (acc : Mxu → Tbl (BitVec 32)) :
    let s' := (((s.fillSlotAt d n data).updCb d n fun b => b.advP 1).updMxu cl fun m => { m with acc := acc m }).mxuNext cl
    (s'.mxu cl).running = some (k, rowMore q) ∧ (s'.core d).lmem = ((s.fillSlotAt d n data).core d).lmem ∧ s'.cb d n = (s.cb d n).advP 1 := by
  have hmxu := mxuNext_frame (s := ((s.fillSlotAt d n data).updCb d n fun b => b.advP 1).updMxu cl fun m => { m with acc := acc m }) (cl := cl) (k := k) (q := q)
    (by rw [mxu_updMxu]; exact hrun)
  have hcb : ((s.fillSlotAt d n data).updCb d n fun b => b.advP 1).cb d n = ((s.fillSlotAt d n data).cb d n).advP 1 := Registers.cb_updCb_same ..
  have hlmem : (((s.fillSlotAt d n data).updCb d n fun b => b.advP 1).core d).lmem = ((s.fillSlotAt d n data).core d).lmem := Registers.lmem_updCb ..
  have hsame : (s.fillSlotAt d n data).cb d n = s.cb d n := Registers.cb_lwrite ..
  rw [hsame] at hcb
  exact ⟨congrArg Mxu.running hmxu, hlmem, hcb⟩

theorem drain_arrives {x : ChanSlot} (hrun : (s.mxu cl).running = some (k, q)) (hop : q.op = .mdrn) (hsrc : x.src = 8 * cl + k.val)
    (hrec : (s.cb x.dst x.cb).reclaimed = false) (htake : (s.cb x.dst x.cb).takesFrom (8 * cl + k.val) true = true) : s.drainArrives x =
      if (s.cb x.dst x.cb).bytes < x.data.length then s.mxuFault cl (8 * cl + k.val) q 0x02
      else if s.roomAt x.dst x.cb = 0 then s
      else (((s.fillSlotAt x.dst x.cb x.data).updCb x.dst x.cb fun b => b.advP 1).updMxu cl fun m =>
        { m with acc := clearRow m q k (q.t.row0 + q.done) }).mxuNext cl := by
  have hcl : (8 * cl + k.val) / 8 = cl := by omega
  unfold State.drainArrives
  simp only [hsrc, hcl, hrun, hop, hrec, htake, ne_eq, not_true, false_or, Bool.false_eq_true, Bool.not_true, if_false]

/-! ## The clauses -/

section Clauses

variable (s : State) (cl : Nat) (q : QCmd)

theorem arbiter_clause (k : Fin 8) (hidle : (s.mxu cl).running = none) (hq : heads s cl k = some q) (hmay : mayTake (s.mxu cl) (heads s cl) k)
    (hleast : ∀ x, mayTake (s.mxu cl) (heads s cl) x → (k - (s.mxu cl).p).val ≤ (x - (s.mxu cl).p).val) :
    ((s.core (8 * cl + k.val)).tileWait = [] → fires (.arbiterSelect cl) s = .next (taken s cl k q)) ∧
    (∀ y, (s.core (8 * cl + k.val)).tileWait = [y] → y.op.engine = 0 → (s.core (8 * cl + k.val)).mxq.length ≤ 8 →
      fires (.arbiterSelect cl) s = .next (entering (taken s cl k q) (8 * cl + k.val) y)) := by
  have htakes := arbiter_takes hidle hq hmay hleast
  refine ⟨fun hwait => ?_, fun y hwait hop hlen => ?_⟩
  · exact congrArg Host.Outcome.next (htakes.trans (queueNext_none (by rw [core_taken]; exact hwait)))
  · exact congrArg Host.Outcome.next (htakes.trans (taken_enters hwait hop hq hlen))

end Clauses

/-- Settles O44: R31's choice by its candidates and their order from the pointer; the MXU's commands by one equation each, and rows of accumulators by
the fold over their columns. -/
theorem matrixUnitEvents : Obligations.MatrixUnitEvents := by
  intro s cl k q m head c t b run free noted
  have hends : ∀ (s1 : State) (count utag : Nat), s.mxuStep cl = s1.mxuEnd cl q count → s1.agenda = s.agenda → s1.sweep = s.sweep → count < 2 ^ 64 → utagOf q = utag →
      ∃ s', run = .next s' ∧ s'.mxu cl = { s1.mxu cl with running := none } ∧ noted s' count utag ∧ ∀ c n, s'.cb c n = s1.cb c n := by
    intro s1 count utag hstep hagenda hsweep hcount hutag
    obtain ⟨hmxu, hag, hcb⟩ := mxuEnd_frame s1 cl q count hcount
    refine ⟨_, congrArg Host.Outcome.next hstep, hmxu, ?_, hcb⟩
    change (s1.mxuEnd cl q count).agenda = s.agenda ++ noticeOf s q utag count 0
    rw [hag, hagenda, hutag, noticeOf, noticeOf, State.colour, State.colour, hsweep]
  have hrows : t.rows < 2 ^ 64 := by
    have := Nat.mod_lt (t.w1.toNat / 2 ^ 8) (show 0 < 2 ^ (14 + 1 - 8) by decide)
    change bits t.w1.toNat 14 8 + 1 < 2 ^ 64
    unfold bits
    omega
  have hno : ∀ {o : TileOp}, q.op = o → o ≠ .msync → utagOf q = 0 := fun h hne => if_neg (h ▸ hne)
  refine ⟨fun hidle hnone => congrArg Host.Outcome.next (arbiter_idle hidle hnone), fun hidle hq hmay hleast => ?_, fun hrun => ⟨?_, ?_, ?_, ?_, ?_, ?_, ?_, ?_, ?_, ?_⟩⟩
  · obtain ⟨htake, henter⟩ := arbiter_clause s cl q k hidle hq hmay hleast
    refine ⟨htake, fun y hwait hop hlen => ⟨_, henter y hwait hop hlen, ?_, ?_, ?_, slot_entering _ _ y, rfl⟩⟩
    · exact congrArg Mxu.running (mxu_updMxu (s.updCore (8 * cl + k.val) popped) cl fun _ => chosen (s.mxu cl) (heads s cl) k q)
    · rw [(core_entering _ c hop).1, core_taken]
      rfl
    · rw [(core_entering _ c hop).2, core_taken]
      change (s.core c).tileWait.erase y = []
      rw [hwait, List.erase_cons_head]
  · exact congrArg Host.Outcome.next (arbiter_busy hrun)
  · intro hop
    obtain ⟨s', hs', hmxu, hnoted, -⟩ := hends _ 0 0 (mswap_step hrun hop) rfl rfl (by decide) (hno hop (by decide))
    rw [mxu_updMxu] at hmxu
    exact ⟨s', hs', by rw [hmxu], by rw [hmxu], by rw [hmxu], hnoted⟩
  · intro hop
    obtain ⟨s', hs', hmxu, hnoted, -⟩ := hends s 0 t.w1.toNat (msync_step hrun hop) rfl rfl (by decide) (if_pos hop)
    exact ⟨s', hs', by rw [hmxu], hnoted⟩
  · intro hop hlast
    obtain ⟨u, hu⟩ := accFresh_eq (s.updMxu cl (cleared k t.row0 t.rows)) cl k t.row0 t.rows 256
    have hstep := mzero_step hrun hop
    rw [hu] at hstep
    obtain ⟨s', hs', hmxu, hnoted, -⟩ := hends _ t.rows 0 hstep rfl rfl hrows (hno hop (by decide))
    refine ⟨s', hs', by rw [hmxu], hnoted, fun x row col hrow hcol => ?_⟩
    rw [hmxu]
    have hm : (s.updMxu cl (cleared k t.row0 t.rows)).mxu cl = cleared k t.row0 t.rows m := mxu_updMxu s cl _
    change accAt ((s.updMxu cl (cleared k t.row0 t.rows)).mxu cl) x row col = _
    rw [hm]
    exact accAt_cleared k x m hlast hrow hcol
  · intro hop n bs hpos hlt hle hslots hfeed
    obtain ⟨s', hs', hmxu, hnoted, hcb⟩ := hends _ 0 0 (mwld_step hrun hop hpos (ceilDiv_eq hpos hlt hle) hslots hfeed) rfl rfl (by decide) (hno hop (by decide))
    have hm : ((s.updMxu cl (shadowed t bs)).updCb c t.cbn fun b => b.advC n).mxu cl = shadowed t bs m := mxu_updMxu s cl (shadowed t bs)
    rw [hm] at hmxu
    have hb := (hcb c t.cbn).trans (Registers.cb_updCb_same ..)
    exact ⟨s', hs', by rw [hmxu], hnoted, by rw [hmxu]; rfl, by rw [hmxu]; exact planeOf_eq t bs, by rw [hb]; rfl, by rw [hb]; rfl⟩
  · intro hop hdone hplane
    obtain ⟨tval, h⟩ := mxuFault_eq s cl c q 0x01
    exact ⟨tval, congrArg Host.Outcome.next ((mact_mismatch hrun hop hdone hplane).trans h)⟩
  · intro hop hdone htag hwtype hsparse hlast hbad row hfeed sa old pairs
    have hstep := mact_step hrun hop hdone htag hwtype hsparse hbad hfeed
    obtain ⟨u, hu⟩ := accFresh_eq ((s.updMxu cl (rowDone q k row (t.row0 + q.done) m)).updCb c t.cbn fun b => b.advC 1) cl k (t.row0 + q.done) 1 (colsOf t.wtype).length
    rw [hu] at hstep
    have hmxu := mxuNext_frame (s := { (s.updMxu cl (rowDone q k row (t.row0 + q.done) m)).updCb c t.cbn fun b => b.advC 1 with upsets := u }) (cl := cl) (k := k) (q := q)
      ((congrArg Mxu.running (mxu_updMxu s cl (rowDone q k row (t.row0 + q.done) m))).trans hrun)
    have hm : (rowDone q k row (t.row0 + q.done) m m) = (s.updMxu cl (rowDone q k row (t.row0 + q.done) m)).mxu cl := (mxu_updMxu s cl _).symm
    have hcb : (((s.updMxu cl (rowDone q k row (t.row0 + q.done) m)).updCb c t.cbn fun b => b.advC 1).cb c t.cbn) = b.advC 1 := Registers.cb_updCb_same ..
    refine ⟨_, congrArg Host.Outcome.next hstep, by rw [hmxu]; rfl, congrArg Cb.filled hcb, fun x r col hr hcol hother => ?_, fun col hcol hcol3 => ?_⟩
    · rw [hmxu]
      exact accAt_row_other (q := q) (congrArg Mxu.acc hm.symm) (by omega) hr hcol hother
    · rw [hmxu]
      refine (accAt_row_same (q := q) (congrArg Mxu.acc hm.symm) (by omega) hcol hcol3).trans ?_
      refine congrArg (BitVec.ofNat 32) (ite_congr rfl (fun _ => rfl) fun _ => ?_)
      rw [halfAt_eq]
      exact congrArg (blockStep _ _ _) (ite_congr (propext (by omega)) (fun _ => rfl) fun _ => rfl)
  · intro hop hdone
    obtain ⟨s', hs', hmxu, hnoted, -⟩ := hends s t.rows 0 (rows_end hrun hop hdone) rfl rfl hrows (by rcases hop with h | h <;> exact hno h (by decide))
    exact ⟨s', hs', by rw [hmxu], hnoted⟩
  · intro hop hdone hcore hen hkind heos hroom hlmx hbad data hlen hsize
    have hstep : s.mxuStep cl = _ := (drain_step hrun hop hdone).trans
      (drain_own (cl := cl) hcore hen hkind heos hroom hlmx hbad (hlen ▸ hsize))
    obtain ⟨hmxu, hmem, hcb⟩ := filled_frame (s := s) (k := k) (q := q) (d := c) (n := t.cbn) (data := data) hrun (fun m => clearRow m q k (t.row0 + q.done))
    exact ⟨_, congrArg Host.Outcome.next hstep, hmxu, hmem, by rw [hcb]; rfl, by rw [hcb]; rfl⟩
  · intro x hop hsrc hrec d
    have harrives := fun htake => drain_arrives (x := x) hrun hop hsrc hrec htake
    refine ⟨fun htake hlen hroom => ?_, fun htake hlen => ?_⟩
    · obtain ⟨hmxu, hmem, hcb⟩ := filled_frame (s := s) (k := k) (q := q) (d := x.dst) (n := x.cb) (data := x.data) hrun (fun m => clearRow m q k (t.row0 + q.done))
      have hstep := harrives htake
      rw [if_neg (Nat.not_lt.2 hlen), if_neg hroom] at hstep
      exact ⟨_, congrArg Host.Outcome.next hstep, hmxu, hmem, by rw [hcb]; rfl⟩
    · obtain ⟨tval, h⟩ := mxuFault_eq s cl c q 0x02
      exact ⟨tval, congrArg Host.Outcome.next (((harrives htake).trans (if_pos hlen)).trans h)⟩

end Sys2Proof.Mxus

/-! # Copy engines and channels (R291 to R294) -/

namespace Sys2Proof.Copies
open Sys2Proof Sys2Proof.Machine Sys2Proof.Claims

variable {s : State} {c : Nat} {q : QCmd}

/-! ## The command in progress -/

/-- A core without a copy command, and one with its only command changed. -/
def without (q : QCmd) (k : Core) : Core :=
  { k with copying := delFirst (fun x => x.at_ == q.at_) k.copying, heldSlots := if q.op = .cpyC then [] else k.heldSlots }

theorem dropCopy_core (s : State) (c : Nat) (q : QCmd) : (s.dropCopy c q).core c = without q (s.core c) := State.core_updCore_same s c (without q)

theorem dropCopy_core_other {d : Nat} (h : d ≠ c) : (s.dropCopy c q).core d = s.core d := by
  unfold State.dropCopy
  rw [State.core_updCore, if_neg h]

theorem without_copying {k : Core} (h : k.copying = [q]) : (without q k).copying = [] := by
  change delFirst _ k.copying = []
  rw [h, delFirst, if_pos (beq_self_eq_true q.at_)]

/-- The commands of a core changed by the rule for one of them. -/
def changed (key : Nat) (f : QCmd → QCmd) (k : Core) : Core := { k with copying := updFirst (fun q => q.at_ == key) f k.copying }

theorem updCopy_core (s : State) (c key : Nat) (f : QCmd → QCmd) : (s.updCopy c key f).core c = changed key f (s.core c) :=
  State.core_updCore_same s c (changed key f)

theorem updCopy_core_other {d key : Nat} {f : QCmd → QCmd} (h : d ≠ c) : (s.updCopy c key f).core d = s.core d := by
  unfold State.updCopy
  rw [State.core_updCore, if_neg h]

theorem updFirst_one (f : QCmd → QCmd) (q : QCmd) : updFirst (fun x => x.at_ == q.at_) f [q] = [f q] := by
  rw [updFirst, if_pos (beq_self_eq_true q.at_)]

theorem changed_copying {k : Core} {f : QCmd → QCmd} (h : k.copying = [q]) : (changed q.at_ f k).copying = [f q] := by
  change updFirst _ f k.copying = [f q]
  rw [h, updFirst_one]

theorem find_one (q : QCmd) : [q].find? (fun x => x.at_ == q.at_) = some q := List.find?_cons_of_pos (beq_self_eq_true q.at_)

/-! ## COPY_EXECUTE of a CPY.F into local memory (R296) -/

theorem startCopies_none (h : (s.core c).copyq = []) : ∀ n, s.startCopies c n = s
  | 0 => rfl
  | n + 1 => by rw [State.startCopies, h]

theorem copyRun_one (hq : (s.core c).copyq = []) (hc : (s.core c).copying = [q]) (hop : q.op ≠ .cpyC) : s.copyRun c = s.copyStep c q := by
  unfold State.copyRun
  rw [startCopies_none hq]
  simp only [hc, List.foldl_cons, List.foldl_nil, find_one, if_neg hop]

theorem copyStep_done (hmode : q.t.dmode = 1) (hdone : q.done = q.op.total q.t) : s.copyStep c q = s.copyDone c q := by
  unfold State.copyStep
  rw [hmode, if_neg (by decide), if_pos hdone]

theorem copyStep_more (hop : q.op = .cpyF) (hmode : q.t.dmode = 1) (hlmx : (s.core c).lmx = false) (hdone : q.done < q.op.total q.t) :
    s.copyStep c q = s.putStream c q (patternBytes q.t.hi64 q.done (min 4096 (q.op.total q.t - q.done))) := by
  have hungry : ∀ sb, q.hungry sb = true := fun sb => by
    rw [QCmd.hungry, decide_eq_true hdone, hmode]
    rfl
  unfold State.copyStep
  rw [hmode, if_neg (by decide), if_neg (Nat.ne_of_lt hdone), hlmx]
  simp only [hungry, hop, decide_true, Bool.and_false, Bool.false_eq_true, if_false, Bool.not_true, if_true]

theorem total_fits (hop : q.op = .cpyF) : q.op.total q.t < 2 ^ 64 := by
  have := q.t.w5.isLt
  rw [hop]
  change q.t.w5.toNat * 32 < 2 ^ 64
  omega

theorem copyDone_frame (hc : (s.core c).copying = [q]) (hop : q.op = .cpyF) : let s' := s.copyDone c q
    (s'.core c).copying = [] ∧ s'.mem = s.mem ∧ (s'.core c).lmem = (s.core c).lmem ∧ s'.agenda = s.agenda ++ noticeOf s q 0 (q.op.total q.t) 0 := by
  obtain ⟨ls, h⟩ := Mxus.cmdNotice_eq ((s.dropCopy c q).sample 0x04 (dieOf c) c (if q.task.launch < 4096 then some q.task.launch else none) (s.gtime - q.at_)) q
    (q.op.total q.t) 0 (total_fits hop) (by decide)
  have hutag : Mxus.utagOf q = 0 := if_neg (by rw [hop]; decide)
  rw [hutag] at h
  intro s'
  have hs' : s' = _ := h
  have hcore : s'.core c = without q (s.core c) := by rw [hs']; exact dropCopy_core s c q
  refine ⟨by rw [hcore]; exact without_copying hc, by rw [hs']; rfl, by rw [hcore]; rfl, by rw [hs']; rfl⟩

/-- Bytes of a stream put in local memory: the memory written and the command further. -/
theorem putStream_local (hmode : q.t.dmode = 1) (bs : List Byte) : s.putStream c q bs =
    (s.lwrite c (q.op.dst q.t + q.done) bs).updCopy c q.at_ fun q => { q with done := q.done + bs.length, stream := [], away := none } := by
  unfold State.putStream
  simp only [hmode]

theorem fillStep (hq : (s.core c).copyq = []) (hc : (s.core c).copying = [q]) (hop : q.op = .cpyF) (hmode : q.t.dmode = 1) (hlmx : (s.core c).lmx = false) :
    (q.done = q.op.total q.t → ∃ s', fires (.copyExecute c) s = .next s' ∧ (s'.core c).copying = [] ∧ s'.mem = s.mem ∧ (s'.core c).lmem = (s.core c).lmem ∧
      s'.agenda = s.agenda ++ noticeOf s q 0 (q.op.total q.t) 0) ∧
    (∀ n, n = min 4096 (q.op.total q.t - q.done) → q.done < q.op.total q.t →
      ∃ s', fires (.copyExecute c) s = .next s' ∧ (s'.core c).copying = [{ q with done := q.done + n, stream := [], away := none }] ∧ s'.mem = s.mem ∧
        (s'.core c).lmem = Mem.sets (s.core c).lmem (q.t.lo64 + q.done) ((List.range n).map fun j => BitVec.ofNat 8 (q.t.hi64 / 2 ^ (8 * ((q.done + j) % 8))))) := by
  have hrun := copyRun_one hq hc (by rw [hop]; decide)
  refine ⟨fun hdone => ?_, fun n hn hdone => ?_⟩
  · exact ⟨_, congrArg Host.Outcome.next (hrun.trans (copyStep_done hmode hdone)), copyDone_frame hc hop⟩
  · have hstep := (hrun.trans (copyStep_more hop hmode hlmx hdone)).trans (putStream_local hmode _)
    have hlen : (patternBytes q.t.hi64 q.done n).length = n := by rw [patternBytes, List.length_map, List.length_range]
    have hdst : q.op.dst q.t = q.t.lo64 := if_pos hop
    rw [← hn, hlen, hdst] at hstep
    refine ⟨_, congrArg Host.Outcome.next hstep, ?_, rfl, ?_⟩
    · rw [updCopy_core]
      exact changed_copying ((congrArg Core.copying (State.core_updCore_same s c _)).trans hc)
    · rw [updCopy_core]
      exact Registers.lmem_lwrite_same s c (q.t.lo64 + q.done) _

/-! ## STREAMER_READ of a CPY.B into local memory (R292) -/

/-- The only command of a core put in place of it. -/
def replaced (q : QCmd) (k : Core) : Core := { k with copying := [q] }

theorem updCopy_eq {f : QCmd → QCmd} (hc : (s.core c).copying = [q]) : s.updCopy c q.at_ f = s.updCore c (replaced (f q)) := by
  unfold State.updCopy State.updCore
  refine congrArg (State.setCore s c) ?_
  change changed q.at_ f (s.core c) = replaced (f q) (s.core c)
  unfold changed replaced
  rw [hc, updFirst_one]

theorem copying_lwrite (s : State) (c c' off : Nat) (bs : List Byte) : ((s.lwrite c off bs).core c').copying = (s.core c').copying := by
  rw [State.lwrite, State.core_updCore]
  split
  next h => subst h; rfl
  next => rfl

theorem rowAddr_add (x : Int) (off : Nat) : ((toWord x).toNat + off) % 2 ^ 64 = ((x + off) % 2 ^ 64).toNat := by
  rw [toWord, BitVec.toNat_ofInt]
  push_cast
  omega

/-- A piece of a CPY.B's source, read at its home and put in local memory. -/
theorem streamRead_local {va off n : Nat} {p : Xlat} {bs : List Byte} (hc : (s.core c).copying = [q]) (hop : q.op = .cpyB) (hmode : q.t.dmode = 1)
    (hrl : 0 < q.t.rl) (hdone : q.done < q.op.total q.t) (hoff : off = q.done % q.t.rl)
    (hva : va = (((q.t.lo64 : Int) + (q.done / q.t.rl : Nat) * q.t.spitch + off) % 2 ^ 64).toNat) (hn : n = min (q.t.rl - off) (4096 - va % 4096))
    (hsmall : va < 2 ^ 54) (hfar : va / 2 ^ 48 ≠ 63) (hx : s.translate q.asid va .csrc = .ok p) (hkind : s.kindCheck q.asid q.owner false .csrc p.pte va = .ok ())
    (hread : s.homeRead p n = .ok bs) (hlen : bs.length = n) : s.streamRead c q.at_ =
      (s.lwrite c (q.t.hi64 + q.done) bs).updCore c (replaced { q with done := q.done + n, stream := [], away := none }) := by
  have hva' : (q.rowAddr (q.done / q.t.rl) + off) % 2 ^ 64 = va := by
    rw [QCmd.rowAddr, hop, hva]
    exact rowAddr_add _ _
  have hlocal : inLocal va = false := Bool.eq_false_iff.2 fun h => hfar (by have := (LatIssue.inLocal_iff va).1 h; omega)
  have hdst : q.op.dst q.t = q.t.hi64 := by rw [hop]; rfl
  have hmax : max 1 q.t.rl = q.t.rl := by omega
  have hgo : ¬(q.op.total q.t ≤ q.done ∨ (!(q.op == .cpyB || q.op == .cpyG)) = true) := by
    rw [not_or, hop]
    exact ⟨by rw [← hop]; omega, Bool.false_ne_true⟩
  unfold State.streamRead
  rw [hc, find_one]
  refine (if_neg hgo).trans ?_
  simp only [hmax, ← hoff, hva', ← hn, hlocal, hx, hkind, hread, decide_eq_false (Nat.not_le.2 hsmall), Reads.failIf_false, Reads.ok_bind]
  rw [putStream_local hmode, hdst, hlen]
  exact updCopy_eq ((copying_lwrite ..).trans hc)

/-! ## Slots of a channel (R293, R294) -/

theorem landingStart_none (h : (s.core c).landing = []) : s.landingStart c = s := by
  unfold State.landingStart
  rw [h]

/-- The state with a received slot counted. -/
def counted (s : State) (x : ChanSlot) : State := s.countRecv x.task.launch x.colour 1

/-- The command of a channel with what a slot or token of it has moved. -/
def moved (x : ChanSlot) (q : QCmd) : QCmd := { q with done := q.done + (if x.token then 1 else x.data.length) }

theorem chanArrives_eq {x : ChanSlot} (hc : (s.core x.src).copying = [q]) (hop : q.op = .cpyC) : s.chanArrives x =
    if !(s.cb x.dst x.cb).reclaimed && !(s.cb x.dst x.cb).takesFrom x.src false then ((counted s x).dropCopy x.src q).refuseCmd x.src q x.dst x.cb
    else if !s.chanReady x.dst x.cb then (counted s x).updCore x.src fun k => { k with heldSlots := k.heldSlots ++ [x] }
    else if (s.cb x.dst x.cb).pkind = 2 then ((counted s x).updCore x.dst fun k => { k with landing := k.landing ++ [x] }).updCopy x.src q.at_ (moved x)
    else if x.token then ((counted s x).updCb x.dst x.cb fun b => b.putToken).updCopy x.src q.at_ (moved x)
    else (((counted s x).fillSlotAt x.dst x.cb x.data).updCb x.dst x.cb fun b => b.advP 1).updCopy x.src q.at_ (moved x) := by
  have hfind : ((counted s x).core x.src).copying.find? (fun q => q.op == .cpyC) = some q := by
    change (s.core x.src).copying.find? _ = _
    rw [hc]
    exact List.find?_cons_of_pos (by rw [hop]; rfl)
  unfold State.chanArrives
  extract_lets s1
  change (match ((counted s x).core x.src).copying.find? (fun q => q.op == .cpyC) with | none => _ | some q => _) = _
  rw [hfind]
  rfl

theorem chanArrives_taken {x : ChanSlot} (hc : (s.core x.src).copying = [q]) (hop : q.op = .cpyC) (htake : (s.cb x.dst x.cb).takesFrom x.src false = true)
    (hkind : (s.cb x.dst x.cb).pkind = 1) (hready : s.chanReady x.dst x.cb = true) : s.chanArrives x =
    if x.token then ((counted s x).updCb x.dst x.cb fun b => b.putToken).updCopy x.src q.at_ (moved x)
    else (((counted s x).fillSlotAt x.dst x.cb x.data).updCb x.dst x.cb fun b => b.advP 1).updCopy x.src q.at_ (moved x) := by
  rw [chanArrives_eq hc hop, htake, Bool.not_true, Bool.and_false, if_neg Bool.false_ne_true, hready, Bool.not_true, if_neg Bool.false_ne_true, hkind, if_neg (by decide)]

theorem landing_updCb (s : State) (c c' : Nat) (n : Fin 32) (f : Cb → Cb) : ((s.updCb c n f).core c').landing = (s.core c').landing := by
  rw [State.updCb, State.core_updCore]
  split
  next h => subst h; rfl
  next => rfl

theorem copying_updCb_other {d : Nat} (n : Fin 32) (f : Cb → Cb) (h : c ≠ d) : ((s.updCb d n f).core c) = s.core c := by
  rw [State.updCb, State.core_updCore, if_neg h]

theorem landing_lwrite (s : State) (c c' off : Nat) (bs : List Byte) : ((s.lwrite c off bs).core c').landing = (s.core c').landing := by
  rw [State.lwrite, State.core_updCore]
  split
  next h => subst h; rfl
  next => rfl

/-- A step that leaves local memory, buffers, landing slots and copy engines alone. -/
def KeepsEngines (s s' : State) (c : Nat) : Prop :=
  (s'.core c).copying = (s.core c).copying ∧ (s'.core c).lmem = (s.core c).lmem ∧ (s'.core c).cbs = (s.core c).cbs ∧ (s'.core c).landing = (s.core c).landing

theorem pendRefusal_keeps (s : State) (core : Nat) (slot : Fin 16) (task : TaskId) (codelet : Bool) (src : Nat × Nat) (r : Refused) (c : Nat) :
    KeepsEngines s (s.pendRefusal core slot task codelet src r) c := by
  unfold State.pendRefusal
  extract_lets gone put here
  have hput : ∀ w, KeepsEngines s (put w) c := fun w =>
    ⟨State.core_upd_copying .., State.core_upd_lmem .., State.core_upd_cbs .., State.core_upd_landing ..⟩
  have hgone : KeepsEngines s gone c := ⟨rfl, rfl, rfl, rfl⟩
  have hentry : ∀ f, KeepsEngines s (s.updTask task f) c := fun f => ⟨rfl, rfl, rfl, rfl⟩
  clear_value gone put
  split
  · split
    · exact hput _
    · exact hgone
  · split
    · exact hgone
    · split
      · exact hput _
      · exact hgone
      · exact hgone
      · exact hentry _

theorem refuseCmd_keeps (s : State) (core : Nat) (q : QCmd) (dst : Nat) (cb : Fin 32) (c : Nat) : KeepsEngines s (s.refuseCmd core q dst cb) c := by
  unfold State.refuseCmd
  split
  · exact ⟨rfl, rfl, rfl, rfl⟩
  · exact pendRefusal_keeps ..

/-! ## COPY_CHANNEL_SLOT_ARRIVAL -/

section Arrival

variable {x : ChanSlot} (hc : (s.core x.src).copying = [q]) (hop : q.op = .cpyC) (hne : x.dst ≠ x.src) (hland : (s.core x.dst).landing = [])
include hc hop hne hland

theorem chan_slot (htake : (s.cb x.dst x.cb).takesFrom x.src false = true) (hkind : (s.cb x.dst x.cb).pkind = 1) (hready : s.chanReady x.dst x.cb = true)
    (htok : x.token = false) : ∃ s', fires (.copyChannelSlotArrival x) s = .next s' ∧
      (s'.core x.dst).lmem = ((s.fillSlotAt x.dst x.cb x.data).core x.dst).lmem ∧ s'.cb x.dst x.cb = (s.cb x.dst x.cb).advP 1 ∧
      (s'.core x.src).copying = [{ q with done := q.done + x.data.length }] := by
  have harr := chanArrives_taken hc hop htake hkind hready
  rw [htok, if_neg Bool.false_ne_true] at harr
  have hdst := updCopy_core_other (s := ((counted s x).fillSlotAt x.dst x.cb x.data).updCb x.dst x.cb fun b => b.advP 1) (c := x.src) (key := q.at_) (f := moved x) hne
  have hlanding : ((s.chanArrives x).core x.dst).landing = [] := by
    rw [harr, hdst, landing_updCb]
    exact (landing_lwrite (counted s x) ..).trans hland
  refine ⟨_, congrArg Host.Outcome.next (landingStart_none hlanding), ?_, ?_, ?_⟩
  · rw [harr, hdst]
    exact Registers.lmem_updCb ((counted s x).fillSlotAt x.dst x.cb x.data) x.dst x.dst x.cb _
  · rw [State.cb, harr, hdst]
    have hsame : ((counted s x).fillSlotAt x.dst x.cb x.data).cb x.dst x.cb = s.cb x.dst x.cb := Registers.cb_lwrite (counted s x) ..
    rw [← hsame]
    exact Registers.cb_updCb_same ..
  · rw [harr, updCopy_core]
    refine (changed_copying ?_).trans (by rw [moved, htok]; rfl)
    rw [copying_updCb_other x.cb _ hne.symm]
    exact (copying_lwrite (counted s x) ..).trans hc

theorem chan_token (htake : (s.cb x.dst x.cb).takesFrom x.src false = true) (hkind : (s.cb x.dst x.cb).pkind = 1) (hready : s.chanReady x.dst x.cb = true)
    (htok : x.token = true) : ∃ s', fires (.copyChannelSlotArrival x) s = .next s' ∧
      (s'.core x.dst).lmem = (s.core x.dst).lmem ∧ s'.cb x.dst x.cb = (s.cb x.dst x.cb).putToken := by
  have harr := chanArrives_taken hc hop htake hkind hready
  rw [htok, if_pos rfl] at harr
  have hdst := updCopy_core_other (s := (counted s x).updCb x.dst x.cb fun b => b.putToken) (c := x.src) (key := q.at_) (f := moved x) hne
  have hlanding : ((s.chanArrives x).core x.dst).landing = [] := by
    rw [harr, hdst, landing_updCb]
    exact hland
  refine ⟨_, congrArg Host.Outcome.next (landingStart_none hlanding), ?_, ?_⟩
  · rw [harr, hdst]
    exact Registers.lmem_updCb (counted s x) x.dst x.dst x.cb _
  · rw [State.cb, harr, hdst]
    exact Registers.cb_updCb_same (counted s x) ..

theorem chan_refused (hrec : (s.cb x.dst x.cb).reclaimed = false) (htake : (s.cb x.dst x.cb).takesFrom x.src false = false) :
    ∃ s', fires (.copyChannelSlotArrival x) s = .next s' ∧ (s'.core x.src).copying = [] ∧ (s'.core x.dst).lmem = (s.core x.dst).lmem ∧
      s'.cb x.dst x.cb = s.cb x.dst x.cb := by
  have harr := chanArrives_eq hc hop
  rw [hrec, htake, Bool.not_false, Bool.and_self, if_pos rfl] at harr
  obtain ⟨hcopying, -, -, -⟩ := refuseCmd_keeps ((counted s x).dropCopy x.src q) x.src q x.dst x.cb x.src
  obtain ⟨-, hlmem, hcbs, hlands⟩ := refuseCmd_keeps ((counted s x).dropCopy x.src q) x.src q x.dst x.cb x.dst
  have hdst : ((counted s x).dropCopy x.src q).core x.dst = s.core x.dst := dropCopy_core_other (s := counted s x) hne
  rw [hdst] at hlmem hcbs hlands
  have hlanding : ((s.chanArrives x).core x.dst).landing = [] := by rw [harr, hlands, hland]
  refine ⟨_, congrArg Host.Outcome.next (landingStart_none hlanding), ?_, ?_, ?_⟩
  · rw [harr, hcopying, dropCopy_core]
    exact without_copying hc
  · rw [harr, hlmem]
  · rw [State.cb, harr, hcbs]
    rfl

end Arrival

end Sys2Proof.Copies

/-! # Collective engines (R135 to R138, R297 to R300) -/

namespace Sys2Proof.Collect
open Sys2Proof Sys2Proof.Machine Sys2Proof.Claims

variable {s : State} {c d : Nat} {q : QCmd} {rest : List QCmd}

/-! ## The start of a command -/

/-- A core without the head of its collective queue. -/
def advanced (rest : List QCmd) (k : Core) : Core := { k with collq := rest }

/-- The bucket that a command starts with, before its own blocks. -/
def bucketOf (c : Nat) (q : QCmd) (x : CollDesc) : Bucket :=
  { core := c, cmd := { q with away := none }, ring := x.ring, bucket := q.t.w6.toNat, nmem := x.nmem, rank := x.rank, root := x.root, scale := wireScale x.scale,
    member := x.member, count := q.count, blocks := [], met := [], gotReduce := 0, gotSpread := 0, wrote := 0, late := [], away := none }

/-- A bucket with its blocks put among those in progress. -/
def begun (s : State) (b : Bucket) : State := ((State.openBucket { s with buckets := s.buckets ++ [b] } b).meetEarly b).retireBuckets b.ring 64

section Start

variable (hq : (s.core c).collq = q :: rest) (hwait : (s.core c).tileWait = []) (hdesc : s.readDesc q.asid q.t.lo64 = .ok d)
include hq hwait hdesc

theorem collStart_eq : let gone := s.updCore c (advanced rest)
    (s.descOk d = false → s.collStart c = gone.engineReportFree c q 0x05) ∧
    (s.descOk d = true → (s.bucket? (collDesc d).ring q.t.w6.toNat).isSome → s.collStart c = gone.engineReportFree c q 0x08) ∧
    (s.descOk d = true → s.bucket? (collDesc d).ring q.t.w6.toNat = none → 64 ≤ (s.buckets.filter fun b => b.ring == (collDesc d).ring).length → s.collStart c = s) ∧
    (∀ bs blocks, s.descOk d = true → s.bucket? (collDesc d).ring q.t.w6.toNat = none → ¬ 64 ≤ (s.buckets.filter fun b => b.ring == (collDesc d).ring).length →
      s.readBuf q q.t.hi64 (4 * q.count) = .ok bs → (bucketOf c q (collDesc d)).formAll (fp32s bs q.count) = .ok blocks →
      s.collStart c = begun gone { bucketOf c q (collDesc d) with blocks := blocks }) := by
  intro gone
  have hgone : gone.queueNext c = gone := Arbiter.queueNext_none ((congrArg Core.tileWait (State.core_updCore_same s c (advanced rest))).trans hwait)
  have hstart : s.collStart c = if !s.descOk d then gone.engineReportFree c q 0x05
      else if (s.bucket? (collDesc d).ring q.t.w6.toNat).isSome then gone.engineReportFree c q 0x08
      else if 64 ≤ (s.buckets.filter fun b => b.ring == (collDesc d).ring).length then s
      else match s.readBuf q q.t.hi64 (4 * q.count) with
        | .error e => gone.engineAccess (fun p => s.updCore c fun k => { k with collq := { q with away := some (q.away.getD (p, s.gtime)) } :: rest }) c q e
        | .ok bs => match (bucketOf c q (collDesc d)).formAll (fp32s bs q.count) with
          | .error (i, k) => gone.collFault (bucketOf c q (collDesc d)) 0x06 (i % 256) k
          | .ok blocks => begun gone { bucketOf c q (collDesc d) with blocks := blocks } := by
    rw [← hgone]
    unfold State.collStart
    rw [hq]
    simp only [hdesc]
    rfl
  rw [hstart]
  refine ⟨fun hok => by rw [hok]; rfl, fun hok hin => ?_, fun hok hout hfull => ?_, fun bs blocks hok hout hfew hbuf hform => ?_⟩
  · rw [hok, if_neg (by decide), if_pos hin]
  · rw [hok, if_neg (by decide), hout, if_neg (by decide), if_pos hfull]
  · rw [hok, if_neg (by decide), hout, if_neg (by decide), if_neg hfew, hbuf]
    simp only [hform]

end Start

/-! ## A reduction of one block at a rank that does not start it -/

section OneBlock

variable {b : Bucket} (hop : b.cmd.op = .crs ∨ b.cmd.op = .car) (hmem : 2 < b.nmem) (hrank : 1 < b.rank) (hpos : 0 < b.count) (hle : b.count ≤ 32)

include hpos hle in
theorem nb_one : b.nb = 1 := by
  unfold Bucket.nb ceilDiv
  omega

theorem chunk_zero (b : Bucket) : b.chunk 0 = 0 := Nat.zero_div _

include hop in
theorem reduces_of : b.reduces = true := by
  unfold Bucket.reduces
  rcases hop with h | h <;> rw [h] <;> rfl

include hmem hrank in
theorem starter_ne : b.starter 0 ≠ b.rank := by
  unfold Bucket.starter
  rw [chunk_zero, Nat.max_eq_right (by omega), Nat.mod_eq_of_lt (by omega)]
  omega

include hop hpos hle in
theorem formAll_one {vals : List Nat} {g : Nat} {es : List Nat} (h : formBlock b.scale ((List.range 32).map fun k => vals.getD k 0) = some (g, es)) :
    b.formAll vals = .ok [(g, es.map (BitVec.ofNat 8))] := by
  have hforms : b.forms 0 = true := by rw [Bucket.forms, reduces_of hop]; rfl
  have hvals : (List.range 32).map (fun k => vals.getD (32 * 0 + k) 0) = (List.range 32).map fun k => vals.getD k 0 := by simp only [Nat.mul_zero, Nat.zero_add]
  unfold Bucket.formAll
  rw [nb_one hpos hle, List.range_one, List.foldlM_cons]
  simp only [hforms, if_true, hvals, h, List.nil_append, List.foldlM_nil]
  rfl

include hop hmem hrank hpos hle in
theorem begun_one (hgot : b.gotReduce = 0) (hbuckets : s.buckets = []) (hearly : s.early = []) : begun s b = { s with buckets := [b] } := by
  have hfind : State.bucket? { s with buckets := [b] } b.ring b.bucket = some b :=
    List.find?_cons_of_pos (by rw [beq_self_eq_true, beq_self_eq_true]; rfl)
  have hopen : State.openBucket { s with buckets := [b] } b = { s with buckets := [b] } := by
    unfold State.openBucket
    rw [nb_one hpos hle, List.range_one, List.foldl_cons, List.foldl_nil, hfind]
    simp only [Option.isNone_some, Bool.false_eq_true, if_false, reduces_of hop, if_true]
    rw [if_neg (by omega), if_neg (starter_ne hmem hrank)]
  have hmeet : State.meetEarly { s with buckets := [b] } b = { s with buckets := [b] } := by
    unfold State.meetEarly
    simp only [hearly, List.filter_nil, List.foldl_nil]
  have hexpects : b.expects false 0 = true := by
    rw [Bucket.expects, nb_one hpos hle, reduces_of hop, if_neg Bool.false_ne_true, bne_iff_ne.2 (starter_ne hmem hrank), decide_eq_true (by omega : 1 < b.nmem)]
    rfl
  have hdone : State.bucketDone { s with buckets := [b] } b = false := by
    have hcount : b.countOf (b.expects false) = 1 := by
      rw [Bucket.countOf, nb_one hpos hle, List.range_one, List.filter_cons_of_pos hexpects]
      rfl
    rw [State.bucketDone, hcount, hgot]
    rfl
  have hretire : State.retireBuckets { s with buckets := [b] } b.ring 64 = { s with buckets := [b] } := by
    have hmin : argMin Bucket.bucket ([b].filter fun x => x.ring == b.ring) = some b := by
      rw [List.filter_cons_of_pos (by exact beq_self_eq_true b.ring)]
      rfl
    unfold State.retireBuckets
    simp only [hmin, hdone, Bool.false_eq_true, if_false]
  unfold begun
  rw [hbuckets, List.nil_append, hopen, hmeet, hretire]

end OneBlock

/-! ## A block as it arrives -/

/-- The state with an arriving block counted. -/
def met (s : State) (b : Bucket) (x : WireBlock) : State := (s.countRecv b.cmd.task.launch x.colour 1).meetPeer b.cmd.task.launch x.fromDev

theorem met_eq (s : State) (b : Bucket) (x : WireBlock) : ∃ ls, met s b x = { s with launches := ls } := by
  unfold met State.meetPeer
  split <;> exact ⟨_, rfl⟩

/-- R137's tests of an arriving block. -/
def faulty (b : Bucket) (x : WireBlock) : Bool :=
  x.fromDev != b.member.getD ((b.rank + b.nmem - 1) % max 1 b.nmem) 64 || x.scale != b.scale || x.seq != x.block % 256 || residue (x.elems.map BitVec.toNat) != x.res
def beyond (b : Bucket) (x : WireBlock) : Bool :=
  (if x.spread then b.gotSpread == b.countOf (b.expects true) else b.gotReduce == b.countOf (b.expects false)) || decide (b.nb ≤ x.block)
def unwanted (b : Bucket) (x : WireBlock) : Bool := !b.expects x.spread x.block || b.met.contains (x.block, x.spread)

theorem faulty_iff {b : Bucket} (x : WireBlock) (hmem : 0 < b.nmem) : faulty b x = false ↔ x.fromDev = b.member.getD ((b.rank + b.nmem - 1) % b.nmem) 64 ∧
    x.scale = b.scale ∧ x.seq = x.block % 256 ∧ x.res = residue (x.elems.map BitVec.toNat) := by
  rw [faulty, Nat.max_eq_right hmem]
  simp only [Bool.or_eq_false_iff, bne_eq_false_iff_eq, and_assoc]
  exact and_congr_right fun _ => and_congr_right fun _ => and_congr_right fun _ => eq_comm

theorem beyond_iff (b : Bucket) (x : WireBlock) : beyond b x = true ↔
    (if x.spread = true then b.gotSpread = b.countOf (b.expects true) else b.gotReduce = b.countOf (b.expects false)) ∨ b.nb ≤ x.block := by
  rw [beyond, Bool.or_eq_true, decide_eq_true_eq]
  split <;> rw [beq_iff_eq]

theorem unwanted_iff (b : Bucket) (x : WireBlock) : unwanted b x = false ↔ b.expects x.spread x.block = true ∧ b.met.contains (x.block, x.spread) = false := by
  rw [unwanted, Bool.or_eq_false_iff, Bool.not_eq_false']

/-- The bucket's records of a reduction met. -/
def reduced (x : WireBlock) (b : Bucket) : Bucket := { b with met := b.met ++ [(x.block, x.spread)], gotReduce := b.gotReduce + 1 }

/-- The result of a hop put to use at a rank that passes it on. -/
def hopped (s : State) (b : Bucket) (x : WireBlock) : State :=
  match hop x.grow (x.elems.map BitVec.toNat) (b.blocks.getD x.block (0, [])).1 ((b.blocks.getD x.block (0, [])).2.map BitVec.toNat) with
  | .error (.overflow k) => s.collFault b 0x06 x.seq k
  | .error .integrity => s.collFault b 0x07 x.seq 0
  | .ok (g, e) =>
    if b.chunk x.block = b.rank then s.finalBlock b x.block (g, e.map (BitVec.ofNat 8))
    else s.sendBlock b false x.block ((b.rank + b.nmem - b.starter x.block) % max 1 b.nmem + 1) (g, e.map (BitVec.ofNat 8))

/-- The records of a block met in the state. -/
def noted (s : State) (b : Bucket) (x : WireBlock) : State :=
  ((met s b x).updBucket b fun y => { y with met := y.met ++ [(x.block, x.spread)] }).updBucket b fun y => { y with gotReduce := y.gotReduce + 1 }

theorem meetBlock_eq (b : Bucket) {x : WireBlock} (hwhole : x.whole = true) :
    (faulty b x = true → s.meetBlock b x = (met s b x).collFault b 0x07 x.seq 0) ∧
    (faulty b x = false → beyond b x = true → s.meetBlock b x = (met s b x).collFault b 0x09 x.seq 0) ∧
    (faulty b x = false → beyond b x = false → unwanted b x = true → s.meetBlock b x = (met s b x).collFault b 0x07 x.seq 0) ∧
    (faulty b x = false → beyond b x = false → unwanted b x = false → x.spread = false → s.meetBlock b x = hopped (noted s b x) b x) := by
  have hmeet : ∃ r, s.meetBlock b x = if (!x.whole) = true then ((met s b x).dropBucket b).engineCheck b.core b.cmd 0x01 0
      else if faulty b x = true then (met s b x).collFault b 0x07 x.seq 0
      else if beyond b x = true then (met s b x).collFault b 0x09 x.seq 0
      else if unwanted b x = true then (met s b x).collFault b 0x07 x.seq 0
      else if x.spread = true then r else hopped (noted s b x) b x := ⟨_, rfl⟩
  obtain ⟨r, hr⟩ := hmeet
  rw [hwhole, Bool.not_true, if_neg Bool.false_ne_true] at hr
  rw [hr]
  clear hr
  refine ⟨fun hf => if_pos hf, fun hf hb => ?_, fun hf hb hu => ?_, fun hf hb hu hs => ?_⟩
  · rw [hf, hb]
    rfl
  · rw [hf, hb, hu]
    rfl
  · rw [hf, hb, hu, hs]
    rfl

/-! ## Faults, with one bucket in progress -/

theorem mine_one (b : Bucket) {y : Bucket} (hring : y.ring = b.ring) (hbucket : y.bucket = b.bucket) : (y.ring == b.ring && y.bucket == b.bucket) = true := by
  rw [hring, hbucket, beq_self_eq_true, beq_self_eq_true]
  rfl

theorem dropBucket_one {b y : Bucket} (hb : s.buckets = [y]) (hring : y.ring = b.ring) (hbucket : y.bucket = b.bucket) : s.dropBucket b = { s with buckets := [] } := by
  unfold State.dropBucket
  rw [hb, List.filter_cons_of_neg (by rw [mine_one b hring hbucket]; decide), List.filter_nil]

theorem retire_none (h : s.buckets = []) (ring n : Nat) : s.retireBuckets ring n = s := by
  cases n with
  | zero => rfl
  | succ n =>
    unfold State.retireBuckets
    rw [h]
    rfl

theorem collFault_eq (s : State) (b : Bucket) (reason seq : Nat) : s.collFault b reason seq 0 =
    (s.dropBucket b).post [engineStop b.core b.cmd reason 0 (BitVec.ofNat 64 (b.bucket % 2 ^ 32 + seq % 256 * 2 ^ 32))] := by
  unfold State.collFault
  rw [Nat.zero_mod, Nat.zero_mul, Nat.add_zero]
  rfl

theorem fault_one {b : Bucket} (hb : s.buckets = [b]) (x : WireBlock) (reason ring : Nat) :
    let s' := ((met s b x).collFault b reason x.seq 0).retireBuckets ring 64
    s'.buckets = [] ∧ s'.sentBlocks = s.sentBlocks ∧
      s'.agenda = s.agenda ++ [engineStop b.core b.cmd reason 0 (BitVec.ofNat 64 (b.bucket % 2 ^ 32 + x.seq % 256 * 2 ^ 32))] := by
  obtain ⟨ls, hmet⟩ := met_eq s b x
  have hdrop : (met s b x).dropBucket b = { s with launches := ls, buckets := [] } := by
    rw [hmet]
    exact dropBucket_one (s := { s with launches := ls }) hb rfl rfl
  rw [collFault_eq, hdrop, retire_none rfl]
  exact ⟨rfl, rfl, rfl⟩

/-! ## A hop's block sent on -/

theorem updBucket_one {b y : Bucket} {f : Bucket → Bucket} (hb : s.buckets = [y]) (hring : y.ring = b.ring) (hbucket : y.bucket = b.bucket) :
    s.updBucket b f = { s with buckets := [f y] } := by
  unfold State.updBucket
  rw [hb, updFirst, mine_one b hring hbucket, if_pos rfl]

theorem noted_eq {b : Bucket} (hb : s.buckets = [b]) (x : WireBlock) : ∃ ls, noted s b x = { s with launches := ls, buckets := [reduced x b] } := by
  obtain ⟨ls, hmet⟩ := met_eq s b x
  unfold noted
  rw [hmet, updBucket_one (s := { s with launches := ls }) hb rfl rfl]
  exact ⟨ls, updBucket_one (s := { s with launches := ls, buckets := [_] }) (y := { b with met := b.met ++ [(x.block, x.spread)] }) rfl rfl rfl⟩

/-- The block that a rank sends on. -/
def formedBlock (s : State) (b : Bucket) (i hops : Nat) (x : Nat × List Byte) : WireBlock :=
  let es : Vector Byte 32 := Vector.ofFn fun k => x.2.getD k.val 0
  { ring := b.ring, bucket := b.bucket, block := i, spread := false, hops := hops, hdr := wireHeader b.scale x.1 (residue (es.toList.map BitVec.toNat)) i, body := es,
    fromDev := s.regs.welsaid.toNat % 64, colour := s.colour, check := checkCode es.toList 0 }

theorem wireHeader_fields (scale grow res seq : Nat) : bits (wireHeader scale grow res seq).toNat 11 0 = scale % 2 ^ 12 ∧
    bits (wireHeader scale grow res seq).toNat 14 12 = grow % 8 ∧ bits (wireHeader scale grow res seq).toNat 23 16 = res % 256 ∧
    bits (wireHeader scale grow res seq).toNat 31 24 = seq % 256 := by
  unfold wireHeader bits
  rw [BitVec.toNat_ofNat]
  refine ⟨?_, ?_, ?_, ?_⟩ <;> omega

theorem residue_lt (es : List Nat) : residue es < 256 := by
  unfold residue mod255
  omega

theorem formedBlock_fields (s : State) (b : Bucket) (i hops : Nat) {g : Nat} (es : List Nat) (hg : g < 8) (hscale : b.scale < 2 ^ 12) :
    let y := formedBlock s b i hops (g, es.map (BitVec.ofNat 8))
    y.grow = g ∧ y.elems = (List.range 32).map (fun i => BitVec.ofNat 8 (es.getD i 0)) ∧ y.scale = b.scale ∧ y.block = i ∧ y.seq = i % 256 ∧ y.spread = false ∧
      y.res = residue (y.elems.map BitVec.toNat) := by
  intro y
  obtain ⟨hfscale, hfgrow, hfres, hfseq⟩ := wireHeader_fields b.scale g (residue (y.elems.map BitVec.toNat)) i
  refine ⟨hfgrow.trans (Nat.mod_eq_of_lt hg), ?_, hfscale.trans (Nat.mod_eq_of_lt hscale), rfl, hfseq, rfl, hfres.trans (Nat.mod_eq_of_lt (residue_lt _))⟩
  change (Vector.ofFn fun k : Fin 32 => (es.map (BitVec.ofNat 8)).getD k.val 0).toList = _
  refine List.ext_getElem (by simp) fun j hj _ => ?_
  simp [List.getD_eq_getElem?_getD, Option.getD_map]

theorem sendBlock_eq (b : Bucket) (i hops : Nat) (x : Nat × List Byte) (hmem : 0 < b.nmem) : let next := b.member.getD ((b.rank + 1) % b.nmem) 0
    (s.portTo next = none → s.sendBlock b false i hops x = (s.dropBucket b).cpStop b.cmd.task.launch) ∧
    (∀ p up, s.portTo next = some (p, up) → ∃ ls, s.sendBlock b false i hops x =
      if up then { s with launches := ls, sentBlocks := s.sentBlocks ++ [formedBlock s b i hops x] }
      else { s with launches := ls, portWait := s.portWait ++ [(p, b.cmd.task.launch, s.gtime, formedBlock s b i hops x)] }) := by
  intro next
  have hnext : b.member.getD ((b.rank + 1) % max 1 b.nmem) 0 = next := by rw [Nat.max_eq_right hmem]
  unfold State.sendBlock
  rw [hnext]
  refine ⟨fun h => ?_, fun p up h => ?_⟩
  · simp only [h]
  · obtain ⟨ls, hls⟩ : ∃ ls, (s.countSent b.cmd.task.launch s.colour 1).meetPeer b.cmd.task.launch next = { s with launches := ls } := by
      unfold State.meetPeer
      split <;> exact ⟨_, rfl⟩
    simp only [h, hls]
    exact ⟨ls, rfl⟩

/-- Retirement sends no block and keeps none back. -/
theorem retire_keeps (ring n : Nat) : (s.retireBuckets ring n).sentBlocks = s.sentBlocks ∧ (s.retireBuckets ring n).portWait = s.portWait := by
  induction n generalizing s with
  | zero => exact ⟨rfl, rfl⟩
  | succ n ih =>
    unfold State.retireBuckets
    split
    · exact ⟨rfl, rfl⟩
    · split
      · obtain ⟨hsent, hwait⟩ := ih (s := State.cmdNotice _ _ _ _)
        rw [hsent, hwait]
        unfold State.cmdNotice
        split <;> exact ⟨rfl, rfl⟩
      · exact ⟨rfl, rfl⟩

/-! ## WIRE_BLOCK_ARRIVAL, with one bucket in progress -/

/-- A block with the check code formed as it comes in. -/
def checked (w : WireBlock) : WireBlock := { w with check := checkCode w.elems 0 }

theorem checked_whole (w : WireBlock) : (checked w).whole = true := beq_self_eq_true _

section Wire

variable {b : Bucket} {w : WireBlock} (hb : s.buckets = [b]) (hring : b.ring = w.ring) (hbucket : b.bucket = w.bucket)
include hb hring hbucket

theorem blockArrives_eq : s.blockArrives w = (s.meetBlock b (checked w)).retireBuckets w.ring 64 := by
  have hfind : s.bucket? w.ring w.bucket = some b := by
    unfold State.bucket?
    rw [hb]
    exact List.find?_cons_of_pos (by rw [hring, hbucket, beq_self_eq_true, beq_self_eq_true]; rfl)
  unfold State.blockArrives
  extract_lets x
  change (match s.bucket? w.ring w.bucket with | none => _ | some b => _) = _
  rw [hfind]
  rfl

theorem wire_fault {reason : Nat} (h : s.meetBlock b (checked w) = (met s b (checked w)).collFault b reason w.seq 0) :
    ∃ s', fires (.wireBlockArrival w) s = .next s' ∧ s'.buckets = [] ∧ s'.sentBlocks = s.sentBlocks ∧
      s'.agenda = s.agenda ++ [engineStop b.core b.cmd reason 0 (BitVec.ofNat 64 (b.bucket % 2 ^ 32 + w.seq % 256 * 2 ^ 32))] := by
  refine ⟨_, congrArg Host.Outcome.next (blockArrives_eq hb hring hbucket), ?_⟩
  rw [h]
  exact fault_one hb (checked w) reason w.ring

theorem wire_sent (hf : faulty b (checked w) = false) (hbe : beyond b (checked w) = false) (hu : unwanted b (checked w) = false) (hs : w.spread = false)
    (hmem : 0 < b.nmem) (hchunk : b.chunk w.block ≠ b.rank) {g : Nat} {es : List Nat}
    (hhop : hop w.grow (w.elems.map BitVec.toNat) (b.blocks.getD w.block (0, [])).1 ((b.blocks.getD w.block (0, [])).2.map BitVec.toNat) = .ok (g, es)) :
    let next := b.member.getD ((b.rank + 1) % b.nmem) 0
    ∃ hops, let y := formedBlock s b w.block hops (g, es.map (BitVec.ofNat 8))
      (∀ p up, s.portTo next = some (p, up) → ∃ s', fires (.wireBlockArrival w) s = .next s' ∧
        s'.sentBlocks = (if up then s.sentBlocks ++ [y] else s.sentBlocks) ∧
        s'.portWait = (if up then s.portWait else s.portWait ++ [(p, b.cmd.task.launch, s.gtime, y)])) ∧
      (s.portTo next = none → ∃ s' r, fires (.wireBlockArrival w) s = .next s' ∧ s'.sentBlocks = s.sentBlocks ∧ s'.buckets = [] ∧
        s'.agenda = s.agenda ++ [.launchStop b.cmd.task.launch .fault (some r)]) := by
  intro next
  refine ⟨(b.rank + b.nmem - b.starter w.block) % max 1 b.nmem + 1, ?_⟩
  intro y
  obtain ⟨-, -, -, hmeet⟩ := meetBlock_eq (s := s) b (checked_whole w)
  obtain ⟨ls, hnoted⟩ := noted_eq hb (checked w)
  have hhopped : hopped (noted s b (checked w)) b (checked w) = (noted s b (checked w)).sendBlock b false w.block
      ((b.rank + b.nmem - b.starter w.block) % max 1 b.nmem + 1) (g, es.map (BitVec.ofNat 8)) := by
    unfold hopped
    change (match hop w.grow (w.elems.map BitVec.toNat) (b.blocks.getD w.block (0, [])).1 ((b.blocks.getD w.block (0, [])).2.map BitVec.toNat) with
      | .error (.overflow k) => _ | .error .integrity => _ | .ok (g, e) => _) = _
    rw [hhop]
    exact if_neg hchunk
  have harr := blockArrives_eq hb hring hbucket
  rw [hmeet hf hbe hu hs, hhopped, hnoted] at harr
  obtain ⟨hnone, hsome⟩ := sendBlock_eq (s := { s with launches := ls, buckets := [reduced (checked w) b] }) b w.block
    ((b.rank + b.nmem - b.starter w.block) % max 1 b.nmem + 1) (g, es.map (BitVec.ofNat 8)) hmem
  refine ⟨fun p up hport => ?_, fun hport => ?_⟩
  · obtain ⟨ls', hsend⟩ := hsome p up hport
    rw [hsend] at harr
    refine ⟨_, congrArg Host.Outcome.next harr, ?_, ?_⟩
    · rw [(retire_keeps w.ring 64).1]
      cases up <;> rfl
    · rw [(retire_keeps w.ring 64).2]
      cases up <;> rfl
  · rw [hnone hport, dropBucket_one (s := { s with launches := ls, buckets := [reduced (checked w) b] }) (b := b) (y := reduced (checked w) b) rfl rfl rfl] at harr
    exact ⟨_, _, congrArg Host.Outcome.next (harr.trans (retire_none rfl ..)), rfl, rfl, rfl⟩

end Wire

theorem route_iff {n : Nat} (r : BitVec n) : r.getLsbD 3 = true ↔ r.toNat / 8 % 2 = 1 := by
  rw [BitVec.getLsbD, Nat.testBit_eq_decide_div_mod_eq, decide_eq_true_eq]

theorem hop_small {ga gb g : Nat} {ea eb es : List Nat} (ha : ga ≤ 7) (hb : gb ≤ 7) (h : hop ga ea gb eb = .ok (g, es)) : g < 8 := by
  obtain ⟨-, hlt, -⟩ := Blocks.growTo_some _ (Blocks.hop_ok h)
  omega

/-- Settles O45: copy commands and channels by their one command in progress, a collective by its one bucket, and a wire block by R137's tests in turn. -/
theorem copyAndCollectiveEvents : Obligations.CopyAndCollectiveEvents := by
  intro s c q x w b d k step
  refine ⟨fun hq hc hop hmode hlmx => ?_, ?_, fun hc hop hne => ?_, fun rest hq hwait hdesc => ?_, fun hnone => ?_, fun hb hring hbucket hmem => ?_⟩
  · obtain ⟨hdone, hmore⟩ := Copies.fillStep hq hc hop hmode hlmx
    exact ⟨hdone, fun hlt => hmore _ rfl hlt⟩
  · intro hc hop hmode hrl hdone off va n p bs hsmall hfar hx hkind hread hlen
    exact congrArg Host.Outcome.next (Copies.streamRead_local hc hop hmode hrl hdone rfl rfl rfl hsmall hfar hx hkind hread hlen)
  · intro y
    refine ⟨fun htake hkind hready hland htok => ?_, fun htake hkind hready hland htok => ?_, fun hrec htake hland => Copies.chan_refused hc hop hne hland hrec htake⟩
    · obtain ⟨s', hs', hlmem, hcb, hcopy⟩ := Copies.chan_slot hc hop hne hland htake hkind hready htok
      exact ⟨s', hs', hlmem, by rw [hcb]; rfl, by rw [hcb]; rfl, hcopy⟩
    · obtain ⟨s', hs', hlmem, hcb⟩ := Copies.chan_token hc hop hne hland htake hkind hready htok
      exact ⟨s', hs', hlmem, by rw [hcb]; rfl, by rw [hcb]; rfl, by rw [hcb]; rfl⟩
  · intro gone n
    obtain ⟨hbad, hused, hfull, hstart⟩ := collStart_eq hq hwait hdesc
    refine ⟨fun hok => ⟨_, congrArg Host.Outcome.next (hbad hok)⟩, fun hok hin => ⟨_, congrArg Host.Outcome.next (hused hok hin)⟩,
      fun hok hout hlen => congrArg Host.Outcome.next (hfull hok hout hlen), ?_⟩
    intro bs blocks hok hbuckets hearly hop hnmem hrank hpos hle hbuf hform
    have hout : s.bucket? (collDesc d).ring n = none := by
      unfold State.bucket?
      rw [hbuckets]
      rfl
    have hfew : ¬ 64 ≤ (s.buckets.filter fun b => b.ring == (collDesc d).ring).length := by
      rw [hbuckets]
      exact Nat.not_succ_le_zero 63
    have hblocks := formAll_one (b := bucketOf c q (collDesc d)) (g := blocks.1) (es := blocks.2) hop hpos hle hform
    have hbegun := begun_one (s := s.updCore c (advanced rest)) (b := { bucketOf c q (collDesc d) with blocks := [(blocks.1, blocks.2.map (BitVec.ofNat 8))] })
      hop hnmem hrank hpos hle rfl hbuckets hearly
    refine ⟨_, _, congrArg Host.Outcome.next ((hstart bs _ hok hout hfew hbuf hblocks).trans hbegun), rfl, ?_, rfl, rfl, rfl, rfl, rfl, rfl, rfl, rfl, rfl⟩
    exact congrArg Core.collq (State.core_updCore_same s c (advanced rest))
  · refine congrArg Host.Outcome.next ?_
    unfold State.blockArrives
    extract_lets y
    change (match s.bucket? w.ring w.bucket with | none => _ | some b => _) = _
    rw [hnone]
  · intro good full awaited stops
    have hgood : faulty b (checked w) = false ↔ good := faulty_iff (checked w) hmem
    have hfull : beyond b (checked w) = true ↔ full := beyond_iff b (checked w)
    have hawaited : unwanted b (checked w) = false ↔ awaited := unwanted_iff b (checked w)
    obtain ⟨hbad, hover, hodd, -⟩ := meetBlock_eq (s := s) b (checked_whole w)
    refine ⟨fun h => ?_, fun hg hf => ?_, fun hg hf ha => ?_, fun hg hf ha hs hchunk => ?_⟩
    · exact wire_fault hb hring hbucket (hbad (eq_true_of_ne_false fun h' => h (hgood.1 h')))
    · exact wire_fault hb hring hbucket (hover (hgood.2 hg) (hfull.2 hf))
    · exact wire_fault hb hring hbucket (hodd (hgood.2 hg) (Bool.eq_false_iff.2 fun h => hf (hfull.1 h)) (eq_true_of_ne_false fun h => ha (hawaited.1 h)))
    · intro g es own hown hgrow hhop next route formed hnext
      subst hown
      obtain ⟨hops, hsome, hnone⟩ := wire_sent hb hring hbucket (hgood.2 hg) (Bool.eq_false_iff.2 fun h => hf (hfull.1 h)) (hawaited.2 ha) hs hmem hchunk hhop
      have hwgrow : w.grow < 8 := HostRegs.bits_lt w.hdr.toNat 14 12
      have hwscale : w.scale < 2 ^ 12 := HostRegs.bits_lt w.hdr.toNat 11 0
      have hbscale : b.scale < 2 ^ 12 := by
        obtain ⟨-, hscale, -⟩ := hg
        rw [← hscale]
        exact hwscale
      have hformed := formedBlock_fields s b w.block hops es (hop_small (by omega) hgrow hhop) hbscale
      have hport := Digest.portTo_eq (s := s) hnext
      have hroute : (s.fleet.wroute.toList.getD next 0).getLsbD 3 = true ↔ route / 8 % 2 = 1 := route_iff (s.fleet.wroute.toList.getD next 0)
      refine ⟨fun hvalid hup => ?_, fun hvalid hup => ?_, fun hvalid => ?_⟩
      · rw [if_pos (hroute.2 hvalid), hup] at hport
        obtain ⟨s', hs', hsent, -⟩ := hsome _ _ hport
        exact ⟨s', _, hs', hsent, hformed⟩
      · rw [if_pos (hroute.2 hvalid), hup] at hport
        obtain ⟨s', hs', hsent, hwaits⟩ := hsome _ _ hport
        exact ⟨s', _, hs', hsent, hwaits, hformed⟩
      · rw [if_neg fun h => by have := hroute.1 h; omega] at hport
        exact hnone hport

end Sys2Proof.Collect
